-- ==== Sys2Proof/Word.lean ====
section
/-! DEFINITION. The words of the model: bytes, register words, the three signal values, sparse stores, the names of the
registers and the requesters that may issue a command. -/
namespace Sys2Proof

/-- A byte of a memory. -/
abbrev Byte := BitVec 8

/-- A register word (R8: registers are 32 bits wide). -/
abbrev Word := BitVec 32

/-- A sparse map from a number to a value: pairs with strictly rising keys, none of whose values is the default of its key. -/
abbrev Store (α : Type) := List (Nat × α)

/-- A signal value: 0, 1 or X (R29). -/
inductive Tri where
  | zero
  | one
  | x
  deriving DecidableEq, Repr, Inhabited

/-- Privilege mode of a tutor core (R294). -/
inductive Priv where
  | user
  | supervisor
  | machine
  deriving DecidableEq, Repr

/-- An access that an instruction makes: 0 load, 1 store, 2 AMO; address, bytes, data. -/
structure CoreAcc where
  kind : Nat
  addr : Nat
  len : Nat
  data : Nat
  deriving DecidableEq, Repr

/-- Who issues a request (R13, R77, R471). `peek` accesses are marked beside the requester, not in it. -/
inductive Requester where
  /-- PCI Express physical function 0. -/
  | pf0
  /-- PCI Express virtual function 1-63. -/
  | vf (f : Fin 64)
  /-- Tutor core `c` in a privilege mode. -/
  | core (c : Fin 64) (m : Priv)
  /-- A proctor (0 or 1): it holds the rights of the active proctor only while it is ACTIVE (R408). -/
  | proctor (i : Fin 2)
  /-- The monitor of the active proctor (R360). -/
  | monitor
  /-- The hall monitor, in control after a takeover (R415). -/
  | hallMonitor
  /-- A device unit by its number in Table HIF-10: 0-3 the loader contexts, 0x010 and 0x011 the dispatchers,
  0x100-0x1FF the DMA engines, 0x200-0x20F the trace engines, 0x210 and 0x211 the stopwatch writers, 0x220 the funnel. -/
  | device (n : Fin 4096)
  deriving DecidableEq, Repr

/-- What a request packet says beside its requester (Table HIF-2): source and destination node, tag, epoch, address, and where its
route or that of its response meets a disabled router or link (0 nowhere, 1 on the way, 2 on the way back), which no register sets.
`bar` is the BAR a host function's request comes through: 0 BAR 0, 1 BAR 2, 2 BAR 4. -/
structure Pkt where
  bar : Fin 3 := 0
  src : Fin 128 := 0
  dst : Fin 128 := 0
  tag : Byte := 0
  epoch : BitVec 16 := 0
  cut : Fin 3 := 0
  addr : BitVec 48 := 0
  deriving DecidableEq, Repr

/-- The operations of RV64A's AMOs. -/
inductive AmoOp where
  | swap
  | add
  | xor
  | and
  | or
  | min
  | max
  | minu
  | maxu
  deriving DecidableEq, Repr

/-- The registers, one constructor for each name of the register code lines. `LNK_x` stands for `XOT_LNK_x` and `NET_LNK_x`,
which have one layout (R293); its instances are numbered by link direction. -/
inductive Reg where
  | CLS_SUB_STATUS
  | CLS_SUB_CMD
  | CLS_SUB_CMD_STATUS
  | CLS_IMEM_CE
  | CLS_IMEM_UE
  | CLS_SLATE_PE
  | CLS_SLATE_SEL
  | CLS_SLATE_DATA
  | CLS_BP_MAP
  | CLS_SEQ_STATUS
  | PART_STATE
  | PART_CMD
  | PART_CMD_STATUS
  | PART_CFG
  | PART_CFG_NEXT
  | PART_TEMPO
  | PART_TEMPO_NEXT
  | PART_COMMIT
  | PART_TEMPO_STAT
  | PART_TEMPO_EARLY
  | PART_BELL_NUM_LO
  | PART_BELL_NUM_HI
  | PART_BELL_STAMP_0
  | PART_BELL_STAMP_1
  | PART_BELL_STAMP_2
  | PART_BELL_STAMP_3
  | PART_TIN_CFG
  | PART_TIN_COUNT
  | PART_GEN_CTL
  | PART_GEN_START_NS
  | PART_GEN_START_SEC_LO
  | PART_GEN_START_SEC_HI
  | PART_GEN_PERIOD_NS
  | PART_GEN_PERIOD_FRAC
  | PART_TOUT_CFG
  | NET_CAP
  | NET_PART_LAT
  | NET_CONTENTION
  | NET_XPART
  | NET_SCHED_CE
  | NET_SCHED_UE
  | NET_SW_OWN
  | NET_SW_VALID
  | NET_BR_OWN_WE
  | NET_BR_OWN_EW
  | NET_BR_VALID
  | NET_BR_STAT
  | PART_FREEZE_CNT
  | PART_FROZEN_CLOCKS_LO
  | PART_FROZEN_CLOCKS_HI
  | PART_FRZ_STATUS
  | PART_FRZ_LAST
  | PART_FRZ_LAST_BELL_LO
  | PART_FRZ_LAST_BELL_HI
  | PART_FRZ_LAST_LEN
  | PART_NOTICE
  | PART_FRZ_CHAIN
  | PART_SCC_LO
  | PART_SCC_HI
  | BBD_BANK
  | BBD_CE
  | BBD_UE
  | BBD_UE_ADDR_LO
  | BBD_UE_ADDR_HI
  | BBD_SCRUB_CFG
  | BBD_WORD_SEL
  | BBD_WORD_STAT
  | BBD_PART
  | BBD_PCNT
  | BBD_PDROP
  | BBD_MARCH_CMD
  | BBD_MARCH_CFG
  | BBD_MARCH_BUF_LO
  | BBD_MARCH_BUF_HI
  | BBD_MARCH_STATUS
  | BBD_MARCH_FAIL
  | BBD_RETIRE_CMD
  | BBD_RETIRE_STATUS
  | HBM_STATUS
  | HBM_CE
  | HBM_UE
  | HBM_LATE
  | HBM_BUDGET_LO
  | HBM_BUDGET_HI
  | HBM_RET_STAT
  | HBM_RETIRE_CMD
  | HBM_REG_A
  | PART_FAULT_ACTION
  | PART_FAULT_ACTION_NEXT
  | PART_FAULT_HEAD
  | PART_FAULT_TAIL
  | PART_FAULT_LOST
  | PART_LAT_DECL
  | PART_LAT_PORT
  | PART_LAT_PORT_CTL
  | PART_FAULT_LOG
  | PART_LAT_ACT
  | PART_LDR_CMD
  | PART_LDR_ADDR_LO
  | PART_LDR_ADDR_HI
  | PART_LDR_SIZE_LO
  | PART_LDR_SIZE_HI
  | PART_LDR_STATUS
  | PART_LDR_REPORT_A
  | PART_LDR_REPORT_B
  | PART_LDR_REPORT_C
  | PART_LDR_BYTES_LO
  | PART_LDR_BYTES_HI
  | PART_LDR_CFG
  | PART_LDR_DONE
  | PART_LDR_BOOT
  | PART_LDR_BOOT_RES
  | SEC_KEY_STATUS
  | SEC_KEY_CMD
  | SEC_KEY_DATA
  | SEC_LC_CMD
  | SEC_LC_STAT
  | SEC_RK_STAT
  | SEC_RK_CMD
  | SEC_RK_DATA
  | SEC_SVN_STAT
  | SEC_SVN_CMD
  | TRC_PCFG
  | TRC_PCFG_NEXT
  | TRC_PCMD
  | TRC_PSTAT
  | TRC_TRG_DES
  | TRC_TRG_EXT
  | TRC_TRG_ACT
  | TRC_TRG_STAT
  | TRC_TRG_SEL
  | TRC_AREA
  | TRC_SNAP_STAT
  | TRC_JRN_STAT
  | TRC_SIG_WR
  | TRC_SIG_LOST
  | TRC_REPLAY_STOP_LO
  | TRC_REPLAY_STOP_HI
  | TRC_REPLAY_STAT
  | TRC_SNAP_BELL_LO
  | TRC_SNAP_BELL_HI
  | TRC_PRB_SEL
  | TRC_PRB_DATA
  | STW_IN_RX
  | STW_IN_RX_NEXT
  | STW_IN_DSK
  | STW_IN_DSK_NEXT
  | STW_IN_CFG
  | STW_IN_CFG_NEXT
  | STW_IN_CMD
  | STW_IN_STAT
  | STW_IN_LAST
  | STW_TRG_CFG
  | STW_TRG_MIN
  | STW_TRG_MAX
  | STW_TRG_OUT
  | STW_TRG_CMD
  | STW_TRG_STAT
  | STW_TRG_TIME_LO
  | STW_TRG_TIME_HI
  | STW_CAL_CFG
  | STW_CAL_CMD
  | STW_CAL_STAT
  | STW_SINK
  | STW_RING
  | STW_RING_WR
  | STW_LOST
  | STW_LINE
  | STW_TB_CMD
  | STW_TB_LO
  | STW_TB_HI
  | STW_TB_NS
  | STW_TB_SEC_LO
  | STW_TB_SEC_HI
  | STW_TDC
  | XOT_CFG
  | XOT_STAT
  | XOT_PEER
  | XOT_VEC_STAT
  | XOT_CH_STAT
  | XOT_NAME
  | LNK_STAT
  | LNK_CFG
  | LNK_CFG_NEXT
  | LNK_CMD
  | LNK_CNT
  | LNK_LAT
  | LNK_LANE
  | LNK_ERR
  | NET_LINK_CFG
  | DSP_DISPLACED
  | DSP_BADDESC
  | DSP_TICK_CFG
  | DSP_TICK_PERIOD
  | DSP_TICK_CNT
  | DSP_TICK_STAT
  | DSP_TICK_CMD
  | DSP_CORE_CFG
  | DSP_DESK_STAT
  | DSP_MTIMECMP_LO
  | DSP_MTIMECMP_HI
  | DSP_MSIP
  | DSP_Q_CFG
  | DSP_Q_CFG_NEXT
  | DSP_Q_RING_LO
  | DSP_Q_RING_HI
  | DSP_Q_HEAD
  | DSP_Q_TAIL
  | DSP_Q_CMD
  | DSP_Q_STAT
  | HIF_LINK_STAT
  | HIF_CFG
  | HIF_WIN_LO
  | HIF_WIN_HI
  | HIF_VF_OWN
  | HIF_VF_MEM
  | HIF_VF_WIN_LO
  | HIF_VF_WIN_HI
  | HIF_AP_LO
  | HIF_AP_HI
  | HIF_IRQ_ROUTE
  | HIF_PEVT_EN
  | HIF_IRQ_PEND_LO
  | HIF_IRQ_PEND_HI
  | HIF_MBX_CFG
  | HIF_MBX_DATA
  | HIF_MBX_XMASK
  | HIF_MBX_BELL_LO
  | HIF_MBX_BELL_HI
  | HIF_MBX_STAT
  | HIF_QIRQ
  | NET_TN_CFG
  | NET_TN_ERR
  | NET_TN_RT_SEL
  | NET_TN_RT_DATA
  | TIM_NOW_0
  | TIM_NOW_1
  | TIM_NOW_2
  | TIM_NOW_3
  | TIM_STAT
  | TIM_CMD
  | TIM_OFS_0
  | TIM_OFS_1
  | TIM_OFS_2
  | TIM_OFS_3
  | TIM_RATE
  | TIM_CFG
  | TIM_EVT
  | TIM_EVT_EN
  | TIM_ETH_CFG
  | TIM_TXTS_0
  | TIM_TXTS_1
  | TIM_TXTS_2
  | TIM_TXTS_3
  | TIM_PTM_CMD
  | TIM_PTM_CFG
  | TIM_PTM_STAT
  | TIM_PTM_T1_LO
  | TIM_PTM_T1_HI
  | TIM_PTM_T4_LO
  | TIM_PTM_T4_HI
  | TIM_PTM_MST_LO
  | TIM_PTM_MST_HI
  | TIM_PTM_PDLY
  | TIM_CMK_MARK
  | TIM_CMK_ARR_LO
  | TIM_CMK_ARR_HI
  | TIM_CMK_OW
  | DBG_MBX_CTL
  | DBG_MBX_STAT
  | DBG_MBX_REQ
  | DBG_MBX_RSP
  | DBG_CORE_STAT
  | DBG_CTI_CORE
  | DBG_CTI_FRZ
  | DBG_CTI_PULSE
  | DBG_FUN_CFG
  | DBG_FUN_WR
  | DBG_FUN_LOST
  | DBG_HP_STAT
  | DBG_DWDOG
  | PRC_PROC_STAT
  | PRC_PROC_CMD
  | PRC_PROC_SRC_LO
  | PRC_PROC_SRC_HI
  | PRC_PROC_LEN
  | PRC_HM_CFG
  | PRC_HM_STAT
  | PRC_CLS_SUB_CMD
  | PRC_CLS_SUB_STAT
  | PRC_UNIT_CMD
  | PRC_UNIT_STAT
  | PRC_RCALL_SEL
  | PRC_NAME_SEL
  | PRC_RCALL
  | PRC_NAME_DATA
  | PRC_THRESH
  | PRC_ECCST_CMD
  | PRC_ECCST_STAT
  | PRC_REPAIR
  | PRC_STALE
  | PRC_VIOL_STAT
  | PRC_RC_STAT
  | PRC_VIOL
  | PRC_RC
  | RST_CAUSE
  | RST_SWREQ
  | RST_DBGREQ
  | RST_UNIT_CORE_LO
  | RST_UNIT_CORE_HI
  | RST_UNIT_CLS
  | RST_UNIT_MISC
  | RST_UNIT_STAT
  | RST_PEND
  | RST_STRAP
  | RST_CLK_STAT
  | RST_CLK_CFG
  | RST_CLKGOOD
  | RST_RAIL_STAT
  | RST_TEMP
  | RST_THR_CFG
  | RST_PWR_STAT
  | RST_PWR_CMD
  | RST_PWR_WAKE
  | RST_DWDOG_CFG
  | RST_DWDOG_KICK
  | RST_DWDOG_STAT
  | LCK_REG
  | PIO_PIN_CFG
  | PIO_PSRC
  | PIO_OUT
  | PIO_OE
  | PIO_IN
  | PIO_BANK_STAT
  | PIO_LOCK
  | PIO_LOCK_MASK
  | PIO_LOCK_STAT
  | PIO_STAT
  | PIO_FUSE
  | PIO_FUSE_CMD
  | GLB_ID
  | GLB_LCS
  | GLB_UID
  | GLB_CAP_0
  | GLB_CAP_1
  | DIE_ID
  | GLB_FEATURE_LEVEL
  | GLB_STEP_TARGET
  | GLB_STEP_FREQ
  | GLB_DERATE_REASON
  deriving DecidableEq, Repr

/-- Bit `k` of a number, as 0 or 1. -/
def bitAt (v k : Nat) : Nat := v / 2 ^ k % 2

/-- Bits `[lo + w - 1 : lo]` of a number. -/
def bitsAt (v lo w : Nat) : Nat := v / 2 ^ lo % 2 ^ w

/-- 1 for true, 0 for false. -/
def b2n (b : Bool) : Nat := if b then 1 else 0

end Sys2Proof
end

