-- ==== Sys2Proof/Syntax.lean ====
section
/-! DEFINITION. The commands: one constructor per row of the table of operations and events. -/
namespace Sys2Proof

/-- A command: an operation or an event of the D9, with its operands. -/
inductive Instr where
  /-- REGISTER_WRITE (R10): A write to a register that has no row of its own sets, clears, clamps or refuses its fields according to their types. -/
  | registerWrite (rq : Requester) (r : Reg) (inst : Nat) (v : Word)
  /-- RCL_READ (R10): A read of an RCL field returns its value and clears it. -/
  | rclRead (rq : Requester) (r : Reg) (ix : Nat) (peek : Bool)
  /-- LATCHING_READ (R479): A read of a latching register captures the values of its latched partners. -/
  | latchingRead (rq : Requester) (r : Reg) (ix : Nat) (peek : Bool)
  /-- STEP (R37): A step enable of a partition: every BP reads its operands, evaluates and writes its slate entry, and network stages, export, probe, memory and import tables act for that step. -/
  | step (p : Fin 16) (bad : List (Fin 256))
  /-- GAP_STEP (R64): A gap step of a partition: network stages advance and the gap's housekeeping of Sequence BELL-1 is performed. -/
  | gapStep (p : Fin 16)
  /-- TEMPO_INPUT_EDGE (R71): An edge at a tempo input is recognised or discarded under holdoff and counted. -/
  | tempoInputEdge (ix : Fin 4) (rising : Bool)
  /-- GENERATOR_TICK (R72): An internal generator produces its tick when device time reaches S plus k times P. -/
  | generatorTick (g : Fin 4)
  /-- CHAIN_TEMPO (R279): A TEMPO block received on a chain port is recognised as a tick and forwarded. -/
  | chainTempo (ix : Fin 8) (bell : BitVec 48)
  /-- BELL_START (R67): Step 0 of a bell begins six step clocks after its tick or directly from debt; BELL_NUM advances and BELL_STAMP records device time. -/
  | bellStart (p : Fin 16)
  /-- TEMPO_OUT_FALL (R73): TEMPO_OUT goes low after WIDTH step clocks. -/
  | tempoOutFall
  /-- TEMPO_STALL (R70): No tick has been taken for STALL milliseconds while RUNNING, so STALLED sets. -/
  | tempoStall (p : Fin 16)
  /-- GEN_CTL_WRITE (R72): A write of PART_GEN_CTL.EN starts a generator afresh from S or stops it. -/
  | genCtlWrite (rq : Requester) (g : Fin 4) (v : BitVec 32)
  /-- LOAD (R78): PART_CMD LOAD moves the partition to LOADING or starts a standby-slot load. -/
  | load (rq : Requester) (p : Fin 16)
  /-- ARM (R78): PART_CMD ARM prepares sequencers, clears debt and resolves the tempo source. -/
  | arm (rq : Requester) (p : Fin 16) (arg : BitVec 16)
  /-- ARM_DONE (R76): ARM completes, after any pending step-clock limit is applied and the link checks pass, and the partition becomes ARMED. -/
  | armDone (p : Fin 16)
  /-- START (R78): PART_CMD START moves an ARMED partition to RUNNING. -/
  | start (rq : Requester) (p : Fin 16) (arg : BitVec 16)
  /-- STOP_AT_BELL (R78): PART_CMD STOP_AT_BELL sets STOP_PEND, or halts at once while waiting for tempo. -/
  | stopAtBell (rq : Requester) (p : Fin 16) (arg : BitVec 16)
  /-- RESUME (R78): PART_CMD RESUME restarts a HALTED partition or releases DEBUG, FAULT and eligible causes of a FROZEN one. -/
  | resume (rq : Requester) (p : Fin 16) (arg : BitVec 16)
  /-- FREEZE_NOW (R78): PART_CMD FREEZE_NOW adds a debug hold and requests a freeze. -/
  | freezeNow (rq : Requester) (p : Fin 16) (arg : BitVec 16)
  /-- CAPTURE (R78): PART_CMD CAPTURE sets CAPTURE_PEND, or copies at once in HALTED. -/
  | capture (rq : Requester) (p : Fin 16) (arg : BitVec 16)
  /-- REWIND (R78): PART_CMD REWIND starts restoring the snapshot named by ARG. -/
  | rewind (rq : Requester) (p : Fin 16) (arg : BitVec 16)
  /-- ABORT (R78): PART_CMD ABORT stops at the next step boundary, fences, zeroises and goes to EMPTY. -/
  | abort (rq : Requester) (p : Fin 16) (arg : BitVec 16)
  /-- UNLOAD (R78): PART_CMD UNLOAD zeroises, releases resources and goes to EMPTY. -/
  | unload (rq : Requester) (p : Fin 16) (arg : BitVec 16)
  /-- PART_COMMIT (R82): PART_COMMIT.COMMIT requests that the _NEXT settings take effect at the bell, or at once at a boundary. -/
  | partCommit (rq : Requester) (p : Fin 16) (cancel : Bool)
  /-- PART_COMMIT_CANCEL (R83): PART_COMMIT.CANCEL withdraws an unsampled commit. -/
  | partCommitCancel (rq : Requester) (p : Fin 16)
  /-- FAULT_REQUEST_ARRIVAL (R163): A fault request reaches the bell controller FLT steps after detection and its action applies. -/
  | faultRequestArrival (p : Fin 16)
  /-- FAULT_TAIL_WRITE (R174): A write of PART_FAULT_TAIL consumes fault records up to the written index. -/
  | faultTailWrite (rq : Requester) (p : Fin 16) (v : BitVec 32)
  /-- FREEZE_REGISTRATION (R113): At a registration point a freeze controller registers pending requests, releases and resume decisions. -/
  | freezeRegistration (p : Fin 16) (b : Fin 2)
  /-- FREEZE_POINT (R114): At freeze point F no step enable is given and the partition enters FROZEN. -/
  | freezePoint (p : Fin 16)
  /-- RESUME_POINT (R115): At resume point R every class receives the step enable for the freeze step and the partition returns to RUNNING. -/
  | resumePoint (p : Fin 16)
  /-- LATE_ITEM_ARRIVAL (R115): A late item arrives and its cause is released when no item of that cause is outstanding. -/
  | lateItemArrival (p : Fin 16) (b : Fin 2) (cause : Fin 13) (src : Fin 2048)
  /-- BRIDGE_CONTROL_WORD_RX (R124): A received bridge control word is checked for SEQ gaps and its BELL bits against local bell starts. -/
  | bridgeControlWordRx (b : Fin 2) (w : BitVec 64) (starts : BitVec 16)
  /-- BRIDGE_FREEZE_MSG (R123): A FREEZE message from the other base sets OTHER_BASE and the freeze point for the named partitions. -/
  | bridgeFreezeMsg (b : Fin 2) (mask : BitVec 16) (tgt : BitVec 18)
  /-- BRIDGE_CLEAR_MSG (R115): A CLEAR message from the non-lead base clears OTHER_BASE on the lead. -/
  | bridgeClearMsg (b : Fin 2) (mask : BitVec 16)
  /-- BRIDGE_RESUME_MSG (R115): A RESUME message from the lead sets the resume point on the non-lead base. -/
  | bridgeResumeMsg (b : Fin 2) (mask : BitVec 16) (tgt : BitVec 18)
  /-- CH_FREEZE (R126): A received CH_FREEZE sets REMOTE, is forwarded and fixes the device's freeze index. -/
  | chFreeze (p : Fin 16) (port : Fin 8) (seq : BitVec 8) (bell : BitVec 48) (code : BitVec 13)
  /-- CH_FROZEN (R126): A received CH_FROZEN report carries F_j toward the chain lead. -/
  | chFrozen (p : Fin 16) (port : Fin 8) (seq : BitVec 8) (bell : BitVec 48) (code : BitVec 13)
  /-- CH_CLEAR (R126): A received CH_CLEAR reports cleared causes; the lead sends CH_RESUME when all have reported. -/
  | chClear (p : Fin 16) (port : Fin 8) (seq : BitVec 8)
  /-- CH_RESUME (R126): A received CH_RESUME is forwarded with reduced delay and schedules the resume. -/
  | chResume (p : Fin 16) (port : Fin 8) (seq : BitVec 8) (bell : BitVec 48) (code : BitVec 13) (delay : BitVec 32)
  /-- CHAIN_RESUME_DELAY_EXPIRY (R126): The remaining chain resume delay runs out and the device resumes. -/
  | chainResumeDelayExpiry (p : Fin 16)
  /-- STEP_CLOCK_CHANGE (R26): A requested step-clock frequency is applied at the first step boundary where every RUNNING partition is in its gap or frozen. -/
  | stepClockChange
  /-- CLKCHG_WINDOW_EXPIRY (R26): No suitable boundary within 65,536 step clocks: partitions are frozen with CLKCHG for the change. -/
  | clkchgWindowExpiry
  /-- STEP_PLL_LOCK (R434): The idle step PLL locks at the new frequency and the R26 window begins. -/
  | stepPllLock
  /-- GLB_STEP_TARGET_WRITE (R472): A write of GLB_STEP_TARGET requests a new host step-clock target. -/
  | glbStepTargetWrite (rq : Requester) (v : BitVec 32)
  /-- HBM_SCHEDULE (R146): The HBM controller places a design read on its channel and raises an HBM freeze request if it will be late. -/
  | hbmSchedule (p : Fin 16) (stack : Fin 4) (chan : Fin 32) (late : Bool)
  /-- HBM_REFRESH (R147): The HBM controller issues a per-bank refresh at the rate the stack demands. -/
  | hbmRefresh (stack : Fin 4) (temp : Fin 256)
  /-- DESIGN_MEMORY_ACCESS (R148): A tutor, DMA or host access to design memory is served in an idle bank cycle or command slot. -/
  | designMemoryAccess (rq : Requester) (write : Bool) (a : BitVec 48) (be : BitVec 8) (data : BitVec 64)
  /-- BIT_SET_ALIAS_WRITE (R150): A write to the blackboard bit-set alias sets bits as one atomic read-modify-write. -/
  | bitSetAliasWrite (rq : Requester) (o : BitVec 28) (be : BitVec 8) (data : BitVec 64)
  /-- BIT_CLEAR_ALIAS_WRITE (R150): A write to the blackboard bit-clear alias clears bits as one atomic read-modify-write. -/
  | bitClearAliasWrite (rq : Requester) (o : BitVec 28) (be : BitVec 8) (data : BitVec 64)
  /-- ECC_WRITEBACK (R151): A queued write-back of a corrected blackboard word is performed in the bank's first idle cycle. -/
  | eccWriteback (b : Fin 512)
  /-- BACKGROUND_SCRUB (R151): The scrubber reads a word in an idle cycle and writes back corrected data. -/
  | backgroundScrub (b : Fin 512) (w : BitVec 16)
  /-- BANK_ZEROISE_DONE (R141): A released bank or granule finishes zeroising and returns to FREE. -/
  | bankZeroiseDone (blk : Fin 896)
  /-- MARCH_START (R153): BBD_MARCH_CMD START begins a march test over a range of banks or granules. -/
  | marchStart (rq : Requester) (ix : Fin 2)
  /-- MARCH_STOP (R153): BBD_MARCH_CMD STOP stops a march, restoring the bank in preserving mode. -/
  | marchStop (rq : Requester) (ix : Fin 2) (cur : Fin 256)
  /-- MARCH_DONE (R153): The march engine reaches LAST and returns to IDLE. -/
  | marchDone (ix : Fin 2) (fails : List (Nat × Nat))
  /-- RETIRE (R155): BBD_RETIRE_CMD RETIRE retires a bank at once or on release. -/
  | retire (rq : Requester) (b : Fin 512)
  /-- UNRETIRE (R155): BBD_RETIRE_CMD UNRETIRE returns a retired bank to FREE after zeroising. -/
  | unretire (rq : Requester) (b : Fin 512)
  /-- HBM_RETIRE (R156): HBM_RETIRE_CMD starts relocating a 4 KiB page into granule 95. -/
  | hbmRetire (rq : Requester) (k : Fin 4) (page : BitVec 23)
  /-- HBM_PAGE_SWITCH (R156): The page copy ends and the mapping switches for every requester. -/
  | hbmPageSwitch (k : Fin 4)
  /-- LOADER_START (R197): PART_LDR_CMD START begins a load in a loader context. -/
  | loaderStart (rq : Requester) (c : Fin 4) (src : BitVec 2) (p : Fin 16) (keep : Bool) (gate : Bool) (port : Fin 8)
  /-- LOADER_CANCEL (R197): PART_LDR_CMD CANCEL ends a running load with 0x10 CANCELLED. -/
  | loaderCancel (rq : Requester) (c : Fin 4)
  /-- LOAD_SECTION (R200): The loader takes part of the image, checks it in its phase and writes it. -/
  | loadSection (c : Fin 4) (data : List Byte) (last : Bool)
  /-- LOAD_COMPLETE (R200): The fill completes and the partition enters LOADED, with ARM for a DONE-gated AUTOSTART image. -/
  | loadComplete (c : Fin 4)
  /-- LOAD_TIMEOUT (R202): No byte has arrived for TIMEOUT milliseconds and the load ends with 0x10 TIMEOUT. -/
  | loadTimeout (c : Fin 4)
  /-- BOOT_PUSH (R179): A write of PART_LDR_BOOT announces a host-pushed boot bundle. -/
  | bootPush (rq : Requester) (len : BitVec 32)
  /-- DONE_SENSED (R183): DONE is sensed high after 8 samples and AUTOSTART partitions are started. -/
  | doneSensed (high : Bool)
  /-- KEY_PROGRAM (R192): SEC_KEY_CMD PROGRAM writes a key slot. -/
  | keyProgram (rq : Requester) (slot : BitVec 4)
  /-- KEY_REVOKE (R192): SEC_KEY_CMD REVOKE revokes an eFuse key slot. -/
  | keyRevoke (rq : Requester) (slot : BitVec 4)
  /-- KEY_CLEAR (R192): SEC_KEY_CMD CLEAR clears a BBRAM key slot. -/
  | keyClear (rq : Requester) (slot : BitVec 4)
  /-- VBAT_LOSS (R192): Loss of VBAT or tamper zeroisation loses the BBRAM key slots. -/
  | vbatLoss
  /-- LC_ADVANCE (R193): SEC_LC_CMD ADVANCE starts the fuse write of the next life-cycle state. -/
  | lcAdvance (rq : Requester)
  /-- LC_ADVANCE_DONE (R193): The life-cycle fuse write ends, the new state takes effect and a level 1 reset follows. -/
  | lcAdvanceDone
  /-- RK_PROGRAM (R194): SEC_RK_CMD PROGRAM writes a root key hash slot. -/
  | rkProgram (rq : Requester) (k : BitVec 2)
  /-- RK_REVOKE (R194): SEC_RK_CMD REVOKE revokes a root key hash slot. -/
  | rkRevoke (rq : Requester) (k : BitVec 2)
  /-- SVN_ADVANCE (R195): SEC_SVN_CMD ADVANCE raises the security version counter to VALUE. -/
  | svnAdvance (rq : Requester) (value : BitVec 8)
  /-- DRAIN_DONE (R211): A snapshot drain ends, the last read returns and the slot becomes VALID. -/
  | drainDone (p : Fin 16)
  /-- REWIND_DONE (R219): REWIND finishes unwinding and restoring and the partition is HALTED in replay. -/
  | rewindDone (p : Fin 16)
  /-- TRC_ARM (R230): TRC_PCMD ARM starts the partition's signal trace. -/
  | trcArm (rq : Requester) (p : Fin 16)
  /-- TRC_STOP (R230): TRC_PCMD STOP stops the partition's signal trace. -/
  | trcStop (rq : Requester) (p : Fin 16)
  /-- TRC_FORCE (R230): TRC_PCMD FORCE fires the partition's trigger. -/
  | trcForce (rq : Requester) (p : Fin 16)
  /-- DESIGN_TRIGGER (R224): A design trigger bit reaches the trigger unit TRIG steps after it was driven and fires the trace. -/
  | designTrigger (p : Fin 16)
  /-- STW_EDGE (R234): A threshold crossing at a timing input is time-stamped by its TDC. -/
  | stwEdge (ix : Fin 64) (rising : Bool) (t : BitVec 64)
  /-- RECORD_END (R239): A stopwatch record ends by time or edge count, is emitted and the next record starts. -/
  | recordEnd (ix : Fin 64)
  /-- BINDING_PRESENT (R245): A binding presents its bits as base input sources at CLOSE plus STW. -/
  | bindingPresent (p : Fin 16)
  /-- TDC_HANDOVER (R236): Each SLOT milliseconds the ready substitute TDC takes over the next input and the outgoing TDC starts calibration. -/
  | tdcHandover (b : Fin 2) (drift : Option Int)
  /-- TDC_CAL_DONE (R236): A TDC finishes calibration and becomes ready. -/
  | tdcCalDone (t : Fin 68) (ok : Bool)
  /-- TRIGGER_FIRE (R249): A trigger channel fires 20 ns after its qualifying event and is delivered to its destinations. -/
  | triggerFire (n : Fin 16)
  /-- TRIGGER_TIMEOUT (R248): No edge of POL for MAX expires a TIMEOUT condition. -/
  | triggerTimeout (n : Fin 16)
  /-- INSTR_LINE_RELEASE (R249): The drive of an instrument line ends after WIDTH times 10 ns. -/
  | instrLineRelease (n : Fin 16) (held : Bool)
  /-- INSTR_LINE_EDGE (R251): An instrument line edge held for 4 periods is recognised. -/
  | instrLineEdge (l : Fin 8) (rising : Bool) (t : BitVec 64)
  /-- STW_IN_ENABLE (R253): Input ENABLE starts the receiver and makes the input IDLE. -/
  | stwInEnable (rq : Requester) (ix : Fin 64)
  /-- STW_IN_ARM (R253): Input ARM starts acquisition. -/
  | stwInArm (rq : Requester) (ix : Fin 64)
  /-- STW_IN_STOP (R253): Input STOP ends the open record with ABORTED. -/
  | stwInStop (rq : Requester) (ix : Fin 64)
  /-- STW_IN_DISABLE (R253): Input DISABLE turns the input OFF. -/
  | stwInDisable (rq : Requester) (ix : Fin 64)
  /-- STW_TRG_ARM (R253): Trigger ARM arms a channel. -/
  | stwTrgArm (rq : Requester) (n : Fin 16)
  /-- STW_TRG_DISARM (R253): Trigger DISARM returns a channel to IDLE. -/
  | stwTrgDisarm (rq : Requester) (n : Fin 16)
  /-- STW_TRG_FORCE (R253): Trigger FORCE fires a channel at once. -/
  | stwTrgForce (rq : Requester) (n : Fin 16)
  /-- CAL_START (R253): STW_CAL_CMD START starts TDC rotation. -/
  | calStart (rq : Requester)
  /-- CAL_STOP (R253): STW_CAL_CMD STOP stops TDC rotation. -/
  | calStop (rq : Requester)
  /-- TB_LATCH (R233): STW_TB_CMD LATCH latches the West timebase and device time at one instant. -/
  | tbLatch (rq : Requester)
  /-- LANE_LOCK (R259): A lane achieves block lock after 64 valid headers. -/
  | laneLock (l : Fin 68) (n : Fin 17)
  /-- LANE_LOSS_OF_LOCK (R268): A lane loses lock and leaves the link, to be remapped. -/
  | laneLossOfLock (l : Fin 68) (n : Fin 17)
  /-- AM (R260): An alignment marker row is received; BIP-8 is checked, lanes deskewed and staged settings and spare-overs applied. -/
  | am (l : Fin 68) (bip : BitVec 17) (bad : List (Nat × Nat)) (skew : BitVec 17)
  /-- AM_PERIOD (R260): Each AM period the transmitter sends AM on every lane, with TIME and fence frames where configured. -/
  | amPeriod (l : Fin 68)
  /-- TRAINING_PHASE_DONE (R261): A training phase ends and the next begins, or the link becomes READY. -/
  | trainingPhaseDone (l : Fin 68) (v : BitVec 32)
  /-- TRAINING_TIMEOUT (R261): A training phase exceeds twice its time and training restarts from CLOCK. -/
  | trainingTimeout (l : Fin 68)
  /-- CRC_BLOCK (R262): A CRC block closes a group that is checked good or bad; a bad group sends REPLAY. -/
  | crcBlock (l : Fin 68) (group : BitVec 12) (good : Bool) (data : List Nat)
  /-- REPLAY (R263): A received REPLAY makes the transmitter resend from the named group or retrain. -/
  | replay (l : Fin 68) (group : BitVec 12)
  /-- REPLAY_TIMEOUT (R263): A REPLAY unanswered for 2 µs starts a RETRAIN. -/
  | replayTimeout (l : Fin 68)
  /-- CHECK_FRAME (R265): A bridge check frame is received; signal groups are checked, resends asked by NAK and BRIDGE requests raised. -/
  | checkFrame (t : Fin 2) (r : Fin 2) (bad : BitVec 12) (nak : BitVec 12) (group : BitVec 12) (notice : Nat) (cw : Option (Nat × Nat))
  /-- LINK_CAP (R261): A LINK CAP block carries the partner's family, member, level and mode. -/
  | linkCap (l : Fin 68) (fam : BitVec 8) (mem : BitVec 8) (lvl : BitVec 8) (mode : BitVec 8) (turn : BitVec 32)
  /-- LINK_ID (R261): A LINK ID block identifies the partner during EXCHANGE. -/
  | linkId (l : Fin 68) (id : BitVec 48)
  /-- LINK_EPOCH (R282): A LINK EPOCH block carries the partner's enrolment epoch. -/
  | linkEpoch (ix : Fin 8) (e : BitVec 16)
  /-- LINK_DIST (R278): A LINK DIST block carries a distance from the chain lead and sets the upstream port. -/
  | linkDist (ix : Fin 8) (d : BitVec 8)
  /-- LINK_DERATE (R280): A LINK DERATE block sets the port's remote step-clock limit. -/
  | linkDerate (ix : Fin 8) (f : BitVec 16)
  /-- LINK_SPARE (R267): A LINK SPARE block names a degraded lane to move to the spare. -/
  | linkSpare (l : Fin 68) (n : Fin 17)
  /-- LINK_REMAP (R268): A LINK REMAP exchange remaps a lost lane at a group boundary. -/
  | linkRemap (l : Fin 68)
  /-- LINK_PROBE (R261): A LINK PROBE is echoed during MEASURE. -/
  | linkProbe (l : Fin 68) (tag : BitVec 32)
  /-- LINK_ECHO (R276): A LINK ECHO closes a round trip measured for latency. -/
  | linkEcho (l : Fin 68) (rtt : BitVec 32)
  /-- LINK_SKIP (R265): A LINK SKIP block counts frames omitted while a bundle was behind. -/
  | linkSkip (l : Fin 68)
  /-- LINK_FCFG (R283): A LINK FCFG block carries formatter configuration to a vector partner. -/
  | linkFcfg (ix : Fin 8)
  /-- CHAIN_BELL (R275): A BELL block on a chain port is checked against the receiving partition's bell. -/
  | chainBell (ix : Fin 8) (bell : BitVec 48)
  /-- RFRAME (R286): A returned RFRAME presents compare results or is discarded as BADRET. -/
  | rframe (ix : Fin 8) (bell : BitVec 48) (codes : List Nat)
  /-- BULK (R281): A BULK block announces image data blocks for a CHAIN load. -/
  | bulk (ix : Fin 8) (n : BitVec 16)
  /-- NAP_IDLE_TIMEOUT (R274): An unowned READY port idle for NAP_IDLE µs enters nap. -/
  | napIdleTimeout (l : Fin 68)
  /-- LINK_ENABLE (R291): Link ENABLE starts training. -/
  | linkEnable (rq : Requester) (l : Fin 68)
  /-- LINK_DISABLE (R291): Link DISABLE turns a link OFF. -/
  | linkDisable (rq : Requester) (l : Fin 68)
  /-- LINK_RETRAIN (R291): Link RETRAIN retrains a link. -/
  | linkRetrain (rq : Requester) (l : Fin 68)
  /-- LINK_NAP (R291): Link NAP puts a link into nap. -/
  | linkNap (rq : Requester) (l : Fin 68)
  /-- LINK_RECESS (R291): Link RECESS puts a link into recess. -/
  | linkRecess (rq : Requester) (l : Fin 68)
  /-- LINK_WAKE (R291): Link WAKE brings a link out of nap or recess. -/
  | linkWake (rq : Requester) (l : Fin 68)
  /-- LOOPBACK (R273): Link LOOPBACK enters a loopback of the given kind. -/
  | loopback (rq : Requester) (l : Fin 68) (kind : BitVec 4) (consent : Bool)
  /-- LB_END (R291): Link LB_END ends a loopback. -/
  | lbEnd (rq : Requester) (l : Fin 68)
  /-- LINK_SPARE_CMD (R291): Link SPARE moves a named lane to the spare. -/
  | linkSpareCmd (rq : Requester) (l : Fin 68) (lane : BitVec 8)
  /-- DX_BELLWAIT (R299): dx.bellwait waits until a partition's BELL_NUM reaches a value. -/
  | dxBellwait (c : Fin 64) (m : Priv) (rd : Fin 32) (v1 : BitVec 64) (v2 : BitVec 64)
  /-- BELLWAIT_WAKE (R299): A waiting dx.bellwait ends on its bell, partition state, interrupt or limit. -/
  | bellwaitWake (c : Fin 64) (reason : Fin 4)
  /-- DX_DESKPOP (R300): dx.deskpop takes the head desk-slot task or waits for one. -/
  | dxDeskpop (c : Fin 64) (m : Priv) (rd : Fin 32) (v1 : BitVec 64)
  /-- DESKPOP_TIMEOUT (R300): A waiting dx.deskpop reaches its dxtmo limit and returns the empty value. -/
  | deskpopTimeout (c : Fin 64) (irq : Bool)
  /-- DX_DESKDONE (R301): dx.deskdone closes the current task and writes its completion record. -/
  | dxDeskdone (c : Fin 64) (m : Priv) (rd : Fin 32) (v1 : BitVec 64)
  /-- DX_QPUSH (R302): dx.qpush copies a descriptor into an INTERNAL queue's ring. -/
  | dxQpush (c : Fin 64) (m : Priv) (rd : Fin 32) (v1 : BitVec 64) (v2 : BitVec 64)
  /-- DX_TICK (R303): dx.tick advances a SOFT tick source. -/
  | dxTick (c : Fin 64) (m : Priv) (rd : Fin 32) (v1 : BitVec 64)
  /-- CORE_WATCHDOG_EXPIRY (R306): A core watchdog expires, setting EXP1 or, at the second expiry, LOCKUP. -/
  | coreWatchdogExpiry (c : Fin 64)
  /-- QUEUE_TAIL_WRITE (R308): A write of DSP_Q_TAIL announces descriptors in a queue's ring. -/
  | queueTailWrite (rq : Requester) (q : Fin 16384) (v : BitVec 32)
  /-- Q_ENABLE (R311): Queue ENABLE starts dispatching from a queue. -/
  | qEnable (rq : Requester) (q : Fin 16384)
  /-- Q_PAUSE (R311): Queue PAUSE stops dispatching while accepting pushes. -/
  | qPause (rq : Requester) (q : Fin 16384)
  /-- Q_UNPAUSE (R311): Queue UNPAUSE resumes dispatching and clears RDERR. -/
  | qUnpause (rq : Requester) (q : Fin 16384)
  /-- Q_DISABLE (R311): Queue DISABLE drains a queue toward DISABLED. -/
  | qDisable (rq : Requester) (q : Fin 16384)
  /-- Q_FLUSH (R311): Queue FLUSH sets HEAD to TAIL and removes delayed tasks. -/
  | qFlush (rq : Requester) (q : Fin 16384)
  /-- Q_CFG_NEXT_WRITE (R312): A write of DSP_Q_CFG_NEXT stages a queue configuration for its next task boundary. -/
  | qCfgNextWrite (rq : Requester) (q : Fin 16384) (w : BitVec 32)
  /-- TASK_PLACE (R313): The dispatcher places a ready task into an eligible core's desk slot, displacing one if needed. -/
  | taskPlace
  /-- TICK_SOURCE_TICK (R318): A tick source advances its count on its selected event. -/
  | tickSourceTick (n : Fin 4)
  /-- CORE_CFG_WRITE (R316): A write of DSP_CORE_CFG.EN = 0 returns the core's desk entries to their queues. -/
  | coreCfgWrite (rq : Requester) (c : Fin 64) (en : Bool)
  /-- NET_READ (R323): A READ request packet is routed and answered with data or an error. -/
  | netRead (rq : Requester) (k : Pkt) (len : Byte) (peek : Bool) (force : Bool) (fetch : Bool) (badOp : Bool)
  /-- NET_WRITE (R323): A non-posted WRITE request is performed and answered. -/
  | netWrite (rq : Requester) (k : Pkt) (be : BitVec 64) (data : List Byte)
  /-- NET_WRITE_P (R323): A posted WRITE_P request is performed without a response. -/
  | netWriteP (rq : Requester) (k : Pkt) (be : BitVec 64) (data : List Byte)
  /-- NET_AMO (R297): An AMO request is performed atomically at its memory. -/
  | netAmo (rq : Requester) (k : Pkt) (op : AmoOp) (wide : Bool) (v : BitVec 64)
  /-- RESPONSE (R325): A response flit reaches its requester and completes the request. -/
  | response (rq : Requester) (tag : Byte)
  /-- REQUEST_TIMEOUT (R328): A non-posted request without response for TMO µs completes with TIMEOUT. -/
  | requestTimeout (rq : Requester) (tag : Byte)
  /-- ROUTE_TABLE_WRITE (R326): A write of NET_TN_RT_DATA sets or refuses a source-route entry. -/
  | routeTableWrite (rq : Requester) (v : Word)
  /-- DOORBELL (R334): A doorbell write in BAR 4 acts as a tail write once earlier BAR 2 writes are visible. -/
  | doorbell (f : Fin 64) (q : Fin 16384) (v : Word)
  /-- APERTURE_REQUEST (R335): A device request to a host aperture becomes a PCI Express memory request of its function. -/
  | apertureRequest (rq : Requester) (f : Fin 64) (off : BitVec 40) (write : Bool) (data : List Byte)
  /-- VF_FLR (R337): A Function Level Reset of a VF aborts its partitions, disables its queues and resets its HIF state. -/
  | vfFlr (f : Fin 64)
  /-- PF_FLR (R337): A Function Level Reset of PF 0 returns every function's HIF state to reset. -/
  | pfFlr
  /-- HOT_RESET (R337): A Hot Reset or PCIE_PERST_N returns every function's HIF state to reset. -/
  | hotReset
  /-- LINK_DOWN (R337): A PCI Express link-down returns the HIF state to reset. -/
  | linkDown
  /-- MSIX_UNMASK (R339): Unmasking an MSI-X vector sends its pending message. -/
  | msixUnmask (f : Fin 64) (v : BitVec 11)
  /-- MAILBOX_POST (R342): A write of HIF_MBX_BELL_HI appends a staged entry to a mailbox queue. -/
  | mailboxPost (rq : Requester) (g : Fin 64) (hi : BitVec 32)
  /-- TIME_INCREMENT (R347): Each increment period device time advances by 2.5 ns plus rate and any slew, applying a pending step. -/
  | timeIncrement
  /-- TIME_STEP (R350): TIM_CMD STEP steps device time once, starts a slew, or enters HOLDOVER beyond JUMP. -/
  | timeStep (rq : Requester)
  /-- TIME_REARM (R350): TIM_CMD REARM abandons any slew and returns the correction state to FREE. -/
  | timeRearm (rq : Requester)
  /-- TIM_RATE_WRITE (R347): A write of TIM_RATE sets the rate from the next increment, refused in HOLDOVER. -/
  | timRateWrite (rq : Requester) (v : BitVec 32)
  /-- PTP_EVENT_TX (R354): A transmitted PTP event message is timestamped, one-step updated or queued in the FIFO. -/
  | ptpEventTx (kind : BitVec 4) (seqId : BitVec 16) (ipv6 : Bool)
  /-- PTP_EVENT_RX (R354): A received PTP event message is timestamped in its receive descriptor. -/
  | ptpEventRx (kind : BitVec 4) (seqId : BitVec 16)
  /-- TXTS_POP (R354): A read of TIM_TXTS_0 pops a transmit timestamp entry and latches its partners. -/
  | txtsPop (rq : Requester)
  /-- CHAIN_TIME_MARKER (R355): A TIME block on a chain port latches the marker and its arrival time. -/
  | chainTimeMarker (ix : Fin 8) (m : BitVec 32) (good : Bool)
  /-- PTM_TRIGGER (R357): TIM_PTM_CMD TRIGGER starts one PTM exchange. -/
  | ptmTrigger (rq : Requester)
  /-- PTM_PERIOD (R357): Every PERIOD milliseconds an automatic PTM exchange starts. -/
  | ptmPeriod
  /-- PTM_RESPONSE (R357): A PTM ResponseD or plain Response ends the exchange and records t1, t4 and master time. -/
  | ptmResponse (full : Bool) (mst : BitVec 64) (pdly : BitVec 32)
  /-- PTM_TIMEOUT (R357): A PTM exchange without response within 1 ms completes with PTM_FAIL. -/
  | ptmTimeout
  /-- MBX_GO (R361): DBG_MBX_CTL.GO submits a monitor frame over PCI Express. -/
  | mbxGo (rq : Requester) (len : BitVec 11)
  /-- MON_HALT (R363): Monitor HALT requests a halt of the named cores. -/
  | monHalt (t : Fin 3) (b : List Byte)
  /-- MON_RESUME (R370): Monitor RESUME continues the named halted cores at their DPC. -/
  | monResume (t : Fin 3) (b : List Byte)
  /-- MON_STEP (R369): Monitor STEP executes COUNT instructions of a halted core. -/
  | monStep (t : Fin 3) (b : List Byte) (ended : Bool)
  /-- MON_READ (R364): Monitor READ reads device memory, registers, CSRs or virtual memory. -/
  | monRead (t : Fin 3) (b : List Byte)
  /-- MON_WRITE (R364): Monitor WRITE writes device memory, registers, CSRs or virtual memory. -/
  | monWrite (t : Fin 3) (b : List Byte)
  /-- MON_PEEK (R365): Monitor PEEK reads without side effects. -/
  | monPeek (t : Fin 3) (b : List Byte)
  /-- MON_SETBP (R363): Monitor SETBP loads an EXEC comparator. -/
  | monSetbp (t : Fin 3) (b : List Byte)
  /-- MON_SETWP (R363): Monitor SETWP loads a data comparator. -/
  | monSetwp (t : Fin 3) (b : List Byte)
  /-- MON_TRACECFG (R378): Monitor TRACECFG sets core trace for the named cores. -/
  | monTracecfg (t : Fin 3) (b : List Byte)
  /-- MON_FREEZE (R363): Monitor FREEZE writes FREEZE_NOW or RESUME to the named partitions. -/
  | monFreeze (t : Fin 3) (b : List Byte)
  /-- MON_CAPTURE (R363): Monitor CAPTURE writes CAPTURE to a partition. -/
  | monCapture (t : Fin 3) (b : List Byte)
  /-- HALLPASS_NONCE (R384): HALLPASS NONCE returns the monitor's current nonce. -/
  | hallpassNonce (t : Fin 3) (b : List Byte)
  /-- HALLPASS_PRESENT (R384): HALLPASS PRESENT checks and accepts or refuses a hall pass and draws a new nonce. -/
  | hallpassPresent (t : Fin 3) (b : List Byte)
  /-- HALLPASS_WITHDRAW (R385): HALLPASS WITHDRAW ends the pass in force. -/
  | hallpassWithdraw (t : Fin 3) (b : List Byte)
  /-- HALL_PASS_EXPIRY (R385): Device time passes NOT_AFTER and the pass ends, zeroising what was taken under it. -/
  | hallPassExpiry
  /-- CORE_HALT (R367): A core with a halt request halts at its next instruction boundary, after any deferral. -/
  | coreHalt (c : Fin 64) (pc : BitVec 64) (m : Priv) (lr : Bool)
  /-- COMPARATOR_MATCH (R371): A comparator matches an instruction or access and takes its actions. -/
  | comparatorMatch (c : Fin 64) (m : Priv) (asid : BitVec 16) (pc : BitVec 64) (acc : Option CoreAcc)
  /-- CTI_PULSE (R375): A pulse on a cross-trigger channel acts on its destinations. -/
  | ctiPulse
  /-- DBG_CTI_PULSE_WRITE (R375): A monitor write of DBG_CTI_PULSE pulses channels. -/
  | dbgCtiPulseWrite (rq : Requester) (w : BitVec 16)
  /-- CORE_TRACE_STOP (R379): POST instructions after a core trace trigger the trace emits SYNC with STOP. -/
  | coreTraceStop (c : Fin 64)
  /-- SUB_FOLLOW (R57): CLS_SUB_CMD FOLLOW starts copying a BP role into a spare. -/
  | subFollow (rq : Requester) (n : Fin 256) (k : BitVec 9) (j : BitVec 4)
  /-- SUB_COMMIT (R57): CLS_SUB_CMD COMMIT holds a substitution commit for the next bell gap. -/
  | subCommit (rq : Requester) (n : Fin 256)
  /-- SUB_CANCEL (R57): CLS_SUB_CMD CANCEL ends a BP follow or held commit. -/
  | subCancel (rq : Requester) (n : Fin 256)
  /-- FOLLOW_COPY_DONE (R53): A FOLLOW copy of timetable words ends and the spare begins following. -/
  | followCopyDone (n : Fin 256) (cls : Bool)
  /-- CLS_FOLLOW (R395): PRC_CLS_SUB_CMD FOLLOW starts a planned class substitution. -/
  | clsFollow (rq : Requester) (n : Fin 256)
  /-- CLS_COMMIT (R395): PRC_CLS_SUB_CMD COMMIT holds a class substitution for the next gap. -/
  | clsCommit (rq : Requester) (n : Fin 256)
  /-- CLS_CANCEL (R395): PRC_CLS_SUB_CMD CANCEL ends a class follow. -/
  | clsCancel (rq : Requester) (n : Fin 256)
  /-- CLASS_IMMEDIATE_SUBSTITUTE (R393): Once the partition is HALTED the proctor maps a failed class to a substitute and copies its tables. -/
  | classImmediateSubstitute (n : Fin 256)
  /-- DECLARE_DEAD (R391): The proctor declares a unit dead, fences it, increments its role epoch and substitutes or fences its partitions. -/
  | declareDead (kind : Fin 7) (u : BitVec 18) (ground : Fin 7)
  /-- EPOCH_STALE (R391): An item carrying an old epoch is dropped at the fence and raises 0x0C. -/
  | epochStale (kind : Fin 7) (u : BitVec 18) (role : BitVec 18) (ep : BitVec 16) (parts : BitVec 16)
  /-- THRESHOLD_REACHED (R407): An error count reaches a threshold of Table REL-6 and the proctor acts. -/
  | thresholdReached (k : Fin 9) (count : BitVec 16) (u : BitVec 26) (m : Fin 15) (a : BitVec 40)
  /-- SELFTEST (R400): PRC_UNIT_CMD SELFTEST runs a unit's built-in test. -/
  | selftest (rq : Requester) (kind : BitVec 4) (unit : BitVec 18)
  /-- SELFTEST_DONE (R400): A unit self-test ends and reports its result. -/
  | selftestDone (pass : Bool)
  /-- ENROL (R400): PRC_UNIT_CMD ENROL makes a detained unit a substitute. -/
  | enrol (rq : Requester) (kind : BitVec 4) (unit : BitVec 18)
  /-- ECC_SELFTEST_START (R406): PRC_ECCST_CMD START runs the ECC self-test. -/
  | eccSelftestStart (rq : Requester)
  /-- ECC_SELFTEST_DONE (R406): An ECC self-test run ends and failing arrays are reported. -/
  | eccSelftestDone (fails : List (Nat × Nat × Nat))
  /-- TOKEN_RENEW (R408): The active proctor renews the token every 10 µs. -/
  | tokenRenew (ix : Fin 2) (e : BitVec 16)
  /-- HEARTBEAT (R409): A proctor heartbeat is received on a path. -/
  | heartbeat (ix : Fin 2) (path : Fin 2)
  /-- HEARTBEAT_TIMEOUT (R411): Heartbeats are missing on one or both paths for 4 periods. -/
  | heartbeatTimeout (ix : Fin 2) (miss : BitVec 2)
  /-- PROCTOR_WATCHDOG_EXPIRY (R410): A proctor watchdog expires; the pair stops and sends FAIL. -/
  | proctorWatchdogExpiry (ix : Fin 2)
  /-- LOCKSTEP_MISMATCH (R410): A proctor lockstep mismatch stops the pair and sends FAIL. -/
  | lockstepMismatch (ix : Fin 2)
  /-- FAIL_MSG (R411): A FAIL message is received by the standby proctor. -/
  | failMsg (ix : Fin 2)
  /-- LOAD_STANDBY (R413): PRC_PROC_CMD LOAD_STANDBY reboots the other proctor as STANDBY. -/
  | loadStandby (rq : Requester)
  /-- SWITCH (R413): PRC_PROC_CMD SWITCH makes the standby claim the token. -/
  | switch (rq : Requester)
  /-- RELOAD (R416): PRC_PROC_CMD RELOAD has the hall monitor reload a proctor's firmware. -/
  | reload (rq : Requester) (ix : Fin 2)
  /-- PROCTOR_FIRMWARE_LOADED (R416): A proctor's firmware load ends with OK or AUTH_FAIL and it starts. -/
  | proctorFirmwareLoaded (ix : Fin 2) (a : List Byte) (b : List Byte) (host : Bool) (ecc : Bool) (entry : BitVec 48)
  /-- HALL_MONITOR_TAKEOVER (R415): The token has not been renewed for 200 µs and the hall monitor takes control. -/
  | hallMonitorTakeover
  /-- POWER_ON (R420): POR holds level 0 reset until VDD_AO, VDDIO_18 and REFCLK_AO are good. -/
  | powerOn
  /-- BROWN_OUT (R439): A rail below its BOR threshold for 1 µs asserts a level 0 or 1 reset. -/
  | brownOut (r : Fin 11)
  /-- RAIL_GOOD (R439): A rail above threshold plus 2 % for 64 cycles releases its BOR. -/
  | railGood (r : Fin 11)
  /-- RESET_N_ASSERT (R420): RESET_N held low asserts a level 1 reset. -/
  | resetNAssert
  /-- RESET_N_RELEASE (R422): RESET_N goes high and the level 1 source releases. -/
  | resetNRelease
  /-- DEVICE_WATCHDOG_EXPIRY (R429): The device watchdog expires and causes a level 1 reset. -/
  | deviceWatchdogExpiry
  /-- DWDOG_KICK (R429): RST_DWDOG_KICK with KEY 0xD9 reloads the device watchdog. -/
  | dwdogKick (rq : Requester) (key : BitVec 8)
  /-- DWDOG_CFG_WRITE (R429): A write of RST_DWDOG_CFG sets the period and reloads the count. -/
  | dwdogCfgWrite (rq : Requester) (v : BitVec 32)
  /-- SWREQ (R420): A write of RST_SWREQ causes a level 1 or 2 reset. -/
  | swreq (rq : Requester) (lvl : BitVec 2)
  /-- DBGREQ_PULSE (R420): RST_DBGREQ.PULSE asserts a level 2 reset for 16 cycles. -/
  | dbgreqPulse (rq : Requester)
  /-- DBGREQ_HOLD (R420): RST_DBGREQ.HOLD holds or releases a level 2 reset. -/
  | dbgreqHold (rq : Requester) (hold : Bool)
  /-- RST_UNIT_WRITE (R427): A write of RST_UNIT asserts or releases level 3 resets of blocks. -/
  | rstUnitWrite (rq : Requester) (j : Fin 11) (v : BitVec 32)
  /-- RESET_SOURCE_TIMEOUT (R420): A reset source held for a fixed number of reference cycles releases. -/
  | resetSourceTimeout (src : Fin 8) (c : Fin 64)
  /-- RELEASE_STEP (R423): A pending release step of Sequence RCP-1 is applied once clock-good has held 64 cycles. -/
  | releaseStep (boot : BitVec 3) (clk : BitVec 2)
  /-- CLOCK_GOOD (R436): A domain's clock monitor asserts clock-good. -/
  | clockGood (d : Fin 421)
  /-- CLOCK_FAIL (R436): A domain out of reset loses clock-good and is handled under Table RCP-7. -/
  | clockFail (d : Fin 421)
  /-- TEMP_SAMPLE (R440): The junction sensors are read every 10 µs and the thermal limit adjusted. -/
  | tempSample (t : List Byte)
  /-- THROTTLE_ADJUST (R440): Every PERIOD milliseconds the thermal limit steps down or up. -/
  | throttleAdjust
  /-- PWR_RECESS (R443): RST_PWR_CMD RECESS enters the deep low-power state. -/
  | pwrRecess (rq : Requester)
  /-- PWR_WAKE (R444): RST_PWR_CMD WAKE starts leaving RECESS. -/
  | pwrWake (rq : Requester)
  /-- GPIO_WAKE (R444): GPIO_WAKE high for 1 µs after a low level wakes the device. -/
  | gpioWake
  /-- RECESS_EXIT_DONE (R444): RECESS exit completes and cores resume. -/
  | recessExitDone
  /-- PIN_CFG_WRITE (R455): A write of PIO_PIN_CFG sets cell options and switches the pin function glitch-free. -/
  | pinCfgWrite (rq : Requester) (g : Fin 96) (v : BitVec 32)
  /-- PIO_FUSE_CMD (R459): PIO_FUSE_CMD ORs bits into a pin's reset fuse field. -/
  | pioFuseCmd (rq : Requester) (pin : BitVec 8) (value : BitVec 2)
  /-- PIO_LOCK_KEY (R460): A write of PIO_LOCK.KEY advances or resets the lock sequence and captures the mask. -/
  | pioLockKey (rq : Requester) (key : BitVec 8)
  /-- PIO_LOCK (R460): A write of PIO_LOCK.LOCK locks the captured pins. -/
  | pioLock (rq : Requester)
  /-- BANK_SUPPLY_CHANGE (R451): A GPIO bank supply crosses 0.9 V and its pads go high impedance or return. -/
  | bankSupplyChange (b : Fin 4) (good : Bool) (v12 : Bool)
  /-- JTAG_INSTRUCTION (R462): An instruction loaded into the JTAG instruction register selects a boundary-scan operation. -/
  | jtagInstruction (ir : BitVec 8)
  /-- NAP_EXIT_DONE (R274): Exit from nap completes after the drivers start and 32 IDLE blocks, and each lane that showed 16 valid headers returns to service. -/
  | napExitDone (l : Fin 68) (seen : BitVec 17)
  /-- WRITE_PULSE_END (R425): An eFuse or BBRAM write pulse ends, BUSY clears and any reset held for it is released. -/
  | writePulseEnd (pio : Bool)
  /-- TDC_SELF_CHECK_FAIL (R237): An active TDC fails its self-check, is retired, and a substitute takes its input at the next record boundary. -/
  | tdcSelfCheckFail (t : Fin 68)
  /-- MTVEC_FETCH_FAULT (R306): An instruction fetch at the address in mtvec raises an access fault and the core enters LOCKUP. -/
  | mtvecFetchFault (c : Fin 64)
  /-- ETHERNET_FRAME (R444): An Ethernet frame addressed to the device arrives on the management port and wakes it from RECESS when that wake source is enabled. -/
  | ethernetFrame
  /-- HBM_STACK_TRAINED (R179): Under BOOTSEL 0b001 the boot ROM finishes training HBM stack 0 and sets PART_LDR_DONE.STAGE_RDY. -/
  | hbmStackTrained
  /-- MARCH_RESTORE_DONE (R154): A preserving march finishes restoring the bank in progress after STOP and the engine leaves RESTORING for IDLE. -/
  | marchRestoreDone (ix : Fin 2)
  /-- CONFIGURATION_SPACE_WRITE (R330): A host write to PCI Express configuration space sets or clears VF Enable or PTM Enable, which locks or unlocks HIF registers and enables apertures and PTM exchanges. -/
  | configurationSpaceWrite (vf : Bool) (ptm : Bool)
  /-- BAD_MONITOR_FRAME (R360): A monitor frame with a bad CRC, MAGIC, VERSION or length, or one that arrives while its transport's request is executing, is discarded and counted in BADFRM; a frame with a reserved CMD is answered MALFORMED. -/
  | badMonitorFrame (t : Fin 3) (b : List Byte) (busy : Bool)
  deriving DecidableEq, Repr

end Sys2Proof
end

