-- ==== Sys2Proof/Config.lean ====
section
/-! DEFINITION. What the specification leaves open: functions without a body. Nothing can be proved about their values, so
what is proved of the model holds whatever they are. Each is named in an assumption row. -/
namespace Sys2Proof

/-- The value an import or a switch register takes when a padded and an unpadded value reach it at one step, which the
specification does not state (entry 12). Arguments: stage, step count. -/
opaque Config.netCollision : Nat → Nat → Tri

/-- What byte at a device address holds after a destructive march run, or after a reset of level 1 that does not zeroise it: occasion
`n`, address (entry 13). -/
opaque Config.marchByte : Nat → Nat → Byte

/-- The SEC-DED (80,72) check byte of an HBM design slot over its bytes 0-8 (R144, entry 14). -/
opaque Config.hbmCheck : BitVec 72 → Byte

/-- SEV of a report-card entry, for which Table REL-7 gives no value (entry 15). -/
opaque Config.reportSev : Nat → Byte

/-- Byte `k` of the march buffer after a preserving march copies raw code words, whose layout R154 does not give (entry 13).
Arguments: run, byte. -/
opaque Config.marchRaw : Nat → Nat → Byte

/-- Whether a quotient that is no whole number is rounded up: the stopwatch's divisions, whose rounding R235, R238 and R240 do not
give. Arguments: dividend, divisor. -/
opaque Config.roundUp : Nat → Nat → Bool

/-- Whether a stopwatch record or packet finds the base's buffer full: R242 gives no rate at which the buffer empties. Argument:
the free-value counter. -/
opaque Config.stwFull : Nat → Bool

/-- What a chain port sends for a frame-buffer bit that is X, for which R275 gives no bit. Argument: the free-value counter. -/
opaque Config.chainX : Nat → Bool

/-- The level of a GPIO pad that this device does not drive: what the board drives, or no defined level (R453). Arguments: pin,
free-value counter. -/
opaque Config.padFloat : Nat → Nat → Bool

/-- Byte of the AES-256-GCM key stream (R190): key, initialisation vector, position in the ciphertext (entry 8). -/
opaque Config.gcmStream : Nat → Nat → Nat → Byte

/-- The AES-256-GCM tag of R190: key, initialisation vector, additional data, ciphertext (entry 8). -/
opaque Config.gcmTag : Nat → Nat → List Nat → List Nat → Nat

/-- SHA-384 as a number, first byte lowest (R180, R191; entry 8). -/
opaque Config.sha384 : List Nat → Nat

/-- Verification of an ECDSA P-384 signature: public key, message, signature (R180, R384; entry 8). -/
opaque Config.ecdsaOk : List Nat → List Nat → List Nat → Bool

/-- Whether an image names this device the chain lead (R124 text before R125): the specification gives the name no place in the
image. Argument: the image's SIGNATURE section. -/
opaque Config.chainLead : Nat → Bool

/-- Whether a trace source finds its funnel FIFO full: R382 gives neither depth nor rate. Argument: the free-value counter. -/
opaque Config.funFull : Nat → Bool

/-- What a tutor core's own execution gives, which has no rows here (entry 10): its time CSR, its program counter, a register it has
written. Arguments: what is asked (core and kind), the free-value counter. -/
opaque Config.coreValue : Nat → Nat → Nat

/-- Byte of host memory that a read through an aperture returns (R335). Arguments: position, free-value counter. -/
opaque Config.hostByte : Nat → Nat → Byte

/-- The 64-bit identity of a die or base, or of what holds a unit where Table REL-4 leaves that open (R401): 0-7 the compute dies,
8 West, 9 East, 16 + k a bundle's holder, 64 + i a chained device's. -/
opaque Config.dieIdentity : Nat → Nat

/-- EPOCH of a roll-call record of a unit that neither holds a role nor is in DETENTION, which Table REL-4 does not give. Arguments:
kind and unit, free-value counter. -/
opaque Config.rollEpoch : Nat → Nat → Nat

/-- Milliseconds gone since the device watchdog was reloaded: the watchdog's clock has no row here. Argument: free-value counter. -/
opaque Config.dwdogSpent : Nat → Nat

/-- Bytes of locker memory whose layout Table RCP-4 does not give: proctor state, page and unit records. Arguments: offset,
free-value counter. -/
opaque Config.lockerByte : Nat → Nat → Byte

/-- Nonce number `n` of the monitor (R384; entry 8). -/
opaque Config.nonce : Nat → BitVec 128

end Sys2Proof
end

