-- ==== Sys2Proof/Machine/Regs.lean ====
section
/-! DEFINITION. The register file of the D9: for each register its place in control space (the code lines of the chapters and Table MAP-2),
its instances, its reset value, its field types (Table SCO-8) and its fields. -/
namespace Sys2Proof

/-- A field of a register: the register, the lowest bit, the width. -/
structure Fld where
  reg : Reg
  lo : Nat
  w : Nat
  deriving DecidableEq, Repr

/-- Instance `k` of a repeated field (`OWN_q`, `BUDGET_p`, `SLOT_k`, `ACT_n`): the `k`th one of the same width. -/
def Fld.nth (f : Fld) (k : Nat) : Fld := ⟨f.reg, f.lo + f.w * k, f.w⟩

/-- The distance of two instances of a register in the register file. -/
def regStride : Nat := 1024

/-- The key of instance `i` of register `r` in the register file. -/
def regKey (r : Reg) (i : Nat) : Nat := i * regStride + r.ctorIdx

/-- The base offset of a register in control space, then (stride, count) of each of its indices, outermost first (R470).
The link registers of R293 are the one exception: their windows are computed by `lnkWindow`. -/
def Reg.window : Reg → Nat × List (Nat × Nat)
  | .CLS_SUB_STATUS => (0x400100, [(0x4000, 256)])
  | .CLS_SUB_CMD => (0x400104, [(0x4000, 256)])
  | .CLS_SUB_CMD_STATUS => (0x400108, [(0x4000, 256)])
  | .CLS_IMEM_CE => (0x400110, [(0x4000, 256)])
  | .CLS_IMEM_UE => (0x400114, [(0x4000, 256)])
  | .CLS_SLATE_PE => (0x400118, [(0x4000, 256)])
  | .CLS_SLATE_SEL => (0x400120, [(0x4000, 256)])
  | .CLS_SLATE_DATA => (0x400124, [(0x4000, 256)])
  | .CLS_BP_MAP => (0x400800, [(0x4000, 256), (0x4, 512)])
  | .CLS_SEQ_STATUS => (0x400000, [(0x4000, 256)])
  | .PART_STATE => (0x200000, [(0x10000, 16)])
  | .PART_CMD => (0x200004, [(0x10000, 16)])
  | .PART_CMD_STATUS => (0x200008, [(0x10000, 16)])
  | .PART_CFG => (0x200010, [(0x10000, 16)])
  | .PART_CFG_NEXT => (0x200014, [(0x10000, 16)])
  | .PART_TEMPO => (0x200018, [(0x10000, 16)])
  | .PART_TEMPO_NEXT => (0x20001C, [(0x10000, 16)])
  | .PART_COMMIT => (0x200020, [(0x10000, 16)])
  | .PART_TEMPO_STAT => (0x200028, [(0x10000, 16)])
  | .PART_TEMPO_EARLY => (0x20002C, [(0x10000, 16)])
  | .PART_BELL_NUM_LO => (0x200030, [(0x10000, 16)])
  | .PART_BELL_NUM_HI => (0x200034, [(0x10000, 16)])
  | .PART_BELL_STAMP_0 => (0x200038, [(0x10000, 16)])
  | .PART_BELL_STAMP_1 => (0x20003C, [(0x10000, 16)])
  | .PART_BELL_STAMP_2 => (0x200040, [(0x10000, 16)])
  | .PART_BELL_STAMP_3 => (0x200044, [(0x10000, 16)])
  | .PART_TIN_CFG => (0x300000, [(0x4, 4)])
  | .PART_TIN_COUNT => (0x300010, [(0x4, 4)])
  | .PART_GEN_CTL => (0x300040, [(0x20, 4)])
  | .PART_GEN_START_NS => (0x300044, [(0x20, 4)])
  | .PART_GEN_START_SEC_LO => (0x300048, [(0x20, 4)])
  | .PART_GEN_START_SEC_HI => (0x30004C, [(0x20, 4)])
  | .PART_GEN_PERIOD_NS => (0x300050, [(0x20, 4)])
  | .PART_GEN_PERIOD_FRAC => (0x300054, [(0x20, 4)])
  | .PART_TOUT_CFG => (0x300100, [])
  | .NET_CAP => (0x800000, [])
  | .NET_PART_LAT => (0x800100, [(0x20, 16)])
  | .NET_CONTENTION => (0x800104, [(0x20, 16)])
  | .NET_XPART => (0x800108, [(0x20, 16)])
  | .NET_SCHED_CE => (0x80010C, [(0x20, 16)])
  | .NET_SCHED_UE => (0x800110, [(0x20, 16)])
  | .NET_SW_OWN => (0x801000, [(0x4, 64)])
  | .NET_SW_VALID => (0x801100, [(0x4, 64)])
  | .NET_BR_OWN_WE => (0x802000, [(0x4, 26)])
  | .NET_BR_OWN_EW => (0x802080, [(0x4, 26)])
  | .NET_BR_VALID => (0x802100, [(0x4, 26)])
  | .NET_BR_STAT => (0x802200, [(0x4, 26)])
  | .PART_FREEZE_CNT => (0x200100, [(0x10000, 16)])
  | .PART_FROZEN_CLOCKS_LO => (0x200104, [(0x10000, 16)])
  | .PART_FROZEN_CLOCKS_HI => (0x200108, [(0x10000, 16)])
  | .PART_FRZ_STATUS => (0x20010C, [(0x10000, 16)])
  | .PART_FRZ_LAST => (0x200110, [(0x10000, 16)])
  | .PART_FRZ_LAST_BELL_LO => (0x200114, [(0x10000, 16)])
  | .PART_FRZ_LAST_BELL_HI => (0x200118, [(0x10000, 16)])
  | .PART_FRZ_LAST_LEN => (0x20011C, [(0x10000, 16)])
  | .PART_NOTICE => (0x200120, [(0x10000, 16)])
  | .PART_FRZ_CHAIN => (0x200124, [(0x10000, 16)])
  | .PART_SCC_LO => (0x300200, [])
  | .PART_SCC_HI => (0x300204, [])
  | .BBD_BANK => (0xA00000, [(0x4, 512)])
  | .BBD_CE => (0xA01000, [(0x4, 2)])
  | .BBD_UE => (0xA01008, [(0x4, 2)])
  | .BBD_UE_ADDR_LO => (0xA01010, [])
  | .BBD_UE_ADDR_HI => (0xA01014, [])
  | .BBD_SCRUB_CFG => (0xA01020, [])
  | .BBD_WORD_SEL => (0xA01030, [])
  | .BBD_WORD_STAT => (0xA01034, [])
  | .BBD_PART => (0xA01100, [(0x10, 16)])
  | .BBD_PCNT => (0xA01104, [(0x10, 16)])
  | .BBD_PDROP => (0xA01108, [(0x10, 16)])
  | .BBD_MARCH_CMD => (0xA02000, [(0x20, 2)])
  | .BBD_MARCH_CFG => (0xA02004, [(0x20, 2)])
  | .BBD_MARCH_BUF_LO => (0xA02008, [(0x20, 2)])
  | .BBD_MARCH_BUF_HI => (0xA0200C, [(0x20, 2)])
  | .BBD_MARCH_STATUS => (0xA02010, [(0x20, 2)])
  | .BBD_MARCH_FAIL => (0xA02014, [(0x20, 2)])
  | .BBD_RETIRE_CMD => (0xA03000, [])
  | .BBD_RETIRE_STATUS => (0xA03004, [])
  | .HBM_STATUS => (0xB00000, [(0x10000, 4)])
  | .HBM_CE => (0xB00004, [(0x10000, 4)])
  | .HBM_UE => (0xB00008, [(0x10000, 4)])
  | .HBM_LATE => (0xB0000C, [(0x10000, 4)])
  | .HBM_BUDGET_LO => (0xB00010, [(0x10000, 4)])
  | .HBM_BUDGET_HI => (0xB00014, [(0x10000, 4)])
  | .HBM_RET_STAT => (0xB00020, [(0x10000, 4)])
  | .HBM_RETIRE_CMD => (0xB00024, [(0x10000, 4)])
  | .HBM_REG_A => (0xB00100, [(0x10000, 4), (0x4, 16)])
  | .PART_FAULT_ACTION => (0x200200, [(0x10000, 16)])
  | .PART_FAULT_ACTION_NEXT => (0x200204, [(0x10000, 16)])
  | .PART_FAULT_HEAD => (0x200208, [(0x10000, 16)])
  | .PART_FAULT_TAIL => (0x20020C, [(0x10000, 16)])
  | .PART_FAULT_LOST => (0x200210, [(0x10000, 16)])
  | .PART_LAT_DECL => (0x200240, [(0x10000, 16), (0x4, 16)])
  | .PART_LAT_PORT => (0x200280, [(0x10000, 16), (0x8, 8)])
  | .PART_LAT_PORT_CTL => (0x200284, [(0x10000, 16), (0x8, 8)])
  | .PART_FAULT_LOG => (0x201000, [(0x10000, 16), (0x20, 64), (0x4, 8)])
  | .PART_LAT_ACT => (0x300300, [(0x4, 16)])
  | .PART_LDR_CMD => (0x380000, [(0x100, 4)])
  | .PART_LDR_ADDR_LO => (0x380008, [(0x100, 4)])
  | .PART_LDR_ADDR_HI => (0x38000C, [(0x100, 4)])
  | .PART_LDR_SIZE_LO => (0x380010, [(0x100, 4)])
  | .PART_LDR_SIZE_HI => (0x380014, [(0x100, 4)])
  | .PART_LDR_STATUS => (0x380018, [(0x100, 4)])
  | .PART_LDR_REPORT_A => (0x38001C, [(0x100, 4)])
  | .PART_LDR_REPORT_B => (0x380020, [(0x100, 4)])
  | .PART_LDR_REPORT_C => (0x380024, [(0x100, 4)])
  | .PART_LDR_BYTES_LO => (0x380028, [(0x100, 4)])
  | .PART_LDR_BYTES_HI => (0x38002C, [(0x100, 4)])
  | .PART_LDR_CFG => (0x380800, [])
  | .PART_LDR_DONE => (0x380804, [])
  | .PART_LDR_BOOT => (0x380808, [])
  | .PART_LDR_BOOT_RES => (0x380840, [(0x4, 16)])
  | .SEC_KEY_STATUS => (0x1300100, [])
  | .SEC_KEY_CMD => (0x1300104, [])
  | .SEC_KEY_DATA => (0x1300110, [(0x4, 8)])
  | .SEC_LC_CMD => (0x1300200, [])
  | .SEC_LC_STAT => (0x1300204, [])
  | .SEC_RK_STAT => (0x1300210, [])
  | .SEC_RK_CMD => (0x1300214, [])
  | .SEC_RK_DATA => (0x1300220, [(0x4, 12)])
  | .SEC_SVN_STAT => (0x1300260, [])
  | .SEC_SVN_CMD => (0x1300264, [])
  | .TRC_PCFG => (0xE00000, [(0x1000, 16)])
  | .TRC_PCFG_NEXT => (0xE00004, [(0x1000, 16)])
  | .TRC_PCMD => (0xE00008, [(0x1000, 16)])
  | .TRC_PSTAT => (0xE0000C, [(0x1000, 16)])
  | .TRC_TRG_DES => (0xE00010, [(0x1000, 16)])
  | .TRC_TRG_EXT => (0xE00014, [(0x1000, 16)])
  | .TRC_TRG_ACT => (0xE00018, [(0x1000, 16)])
  | .TRC_TRG_STAT => (0xE0001C, [(0x1000, 16)])
  | .TRC_TRG_SEL => (0xE00020, [(0x1000, 16), (0x4, 8)])
  | .TRC_AREA => (0xE00040, [(0x1000, 16), (0x4, 4)])
  | .TRC_SNAP_STAT => (0xE00050, [(0x1000, 16)])
  | .TRC_JRN_STAT => (0xE00054, [(0x1000, 16)])
  | .TRC_SIG_WR => (0xE00058, [(0x1000, 16)])
  | .TRC_SIG_LOST => (0xE0005C, [(0x1000, 16)])
  | .TRC_REPLAY_STOP_LO => (0xE00060, [(0x1000, 16)])
  | .TRC_REPLAY_STOP_HI => (0xE00064, [(0x1000, 16)])
  | .TRC_REPLAY_STAT => (0xE00068, [(0x1000, 16)])
  | .TRC_SNAP_BELL_LO => (0xE00080, [(0x1000, 16), (0x8, 16)])
  | .TRC_SNAP_BELL_HI => (0xE00084, [(0x1000, 16), (0x8, 16)])
  | .TRC_PRB_SEL => (0xE10000, [])
  | .TRC_PRB_DATA => (0xE10004, [(0x4, 5)])
  | .STW_IN_RX => (0xD00000, [(0x40, 64)])
  | .STW_IN_RX_NEXT => (0xD00004, [(0x40, 64)])
  | .STW_IN_DSK => (0xD00008, [(0x40, 64)])
  | .STW_IN_DSK_NEXT => (0xD0000C, [(0x40, 64)])
  | .STW_IN_CFG => (0xD00010, [(0x40, 64)])
  | .STW_IN_CFG_NEXT => (0xD00014, [(0x40, 64)])
  | .STW_IN_CMD => (0xD00018, [(0x40, 64)])
  | .STW_IN_STAT => (0xD0001C, [(0x40, 64)])
  | .STW_IN_LAST => (0xD00020, [(0x40, 64), (0x4, 8)])
  | .STW_TRG_CFG => (0xD02000, [(0x20, 16)])
  | .STW_TRG_MIN => (0xD02004, [(0x20, 16)])
  | .STW_TRG_MAX => (0xD02008, [(0x20, 16)])
  | .STW_TRG_OUT => (0xD0200C, [(0x20, 16)])
  | .STW_TRG_CMD => (0xD02010, [(0x20, 16)])
  | .STW_TRG_STAT => (0xD02014, [(0x20, 16)])
  | .STW_TRG_TIME_LO => (0xD02018, [(0x20, 16)])
  | .STW_TRG_TIME_HI => (0xD0201C, [(0x20, 16)])
  | .STW_CAL_CFG => (0xD03000, [])
  | .STW_CAL_CMD => (0xD03004, [])
  | .STW_CAL_STAT => (0xD03008, [])
  | .STW_SINK => (0xD03010, [])
  | .STW_RING => (0xD03014, [])
  | .STW_RING_WR => (0xD03018, [])
  | .STW_LOST => (0xD0301C, [])
  | .STW_LINE => (0xD03020, [])
  | .STW_TB_CMD => (0xD03030, [])
  | .STW_TB_LO => (0xD03034, [])
  | .STW_TB_HI => (0xD03038, [])
  | .STW_TB_NS => (0xD0303C, [])
  | .STW_TB_SEC_LO => (0xD03040, [])
  | .STW_TB_SEC_HI => (0xD03044, [])
  | .STW_TDC => (0xD03100, [(0x4, 68)])
  | .XOT_CFG => (0xC00000, [(0x10000, 8)])
  | .XOT_STAT => (0xC00004, [(0x10000, 8)])
  | .XOT_PEER => (0xC00008, [(0x10000, 8)])
  | .XOT_VEC_STAT => (0xC00010, [(0x10000, 8)])
  | .XOT_CH_STAT => (0xC00014, [(0x10000, 8)])
  | .XOT_NAME => (0xC00800, [(0x10000, 8), (0x4, 8)])
  | .LNK_STAT => (0x0, [])
  | .LNK_CFG => (0x4, [])
  | .LNK_CFG_NEXT => (0x8, [])
  | .LNK_CMD => (0xC, [])
  | .LNK_CNT => (0x10, [])
  | .LNK_LAT => (0x14, [])
  | .LNK_LANE => (0x40, [(0x4, 17)])
  | .LNK_ERR => (0x80, [(0x4, 17)])
  | .NET_LINK_CFG => (0x81F000, [])
  | .DSP_DISPLACED => (0xF00010, [])
  | .DSP_BADDESC => (0xF00014, [])
  | .DSP_TICK_CFG => (0xF00100, [(0x10, 4)])
  | .DSP_TICK_PERIOD => (0xF00104, [(0x10, 4)])
  | .DSP_TICK_CNT => (0xF00108, [(0x10, 4)])
  | .DSP_TICK_STAT => (0xF0010C, [(0x10, 4)])
  | .DSP_TICK_CMD => (0xF00140, [])
  | .DSP_CORE_CFG => (0xF01000, [(0x10, 64)])
  | .DSP_DESK_STAT => (0xF01004, [(0x10, 64)])
  | .DSP_MTIMECMP_LO => (0xF01008, [(0x10, 64)])
  | .DSP_MTIMECMP_HI => (0xF0100C, [(0x10, 64)])
  | .DSP_MSIP => (0xF01400, [(0x4, 64)])
  | .DSP_Q_CFG => (0xF80000, [(0x20, 16384)])
  | .DSP_Q_CFG_NEXT => (0xF80004, [(0x20, 16384)])
  | .DSP_Q_RING_LO => (0xF80008, [(0x20, 16384)])
  | .DSP_Q_RING_HI => (0xF8000C, [(0x20, 16384)])
  | .DSP_Q_HEAD => (0xF80010, [(0x20, 16384)])
  | .DSP_Q_TAIL => (0xF80014, [(0x20, 16384)])
  | .DSP_Q_CMD => (0xF80018, [(0x20, 16384)])
  | .DSP_Q_STAT => (0xF8001C, [(0x20, 16384)])
  | .HIF_LINK_STAT => (0x1000000, [])
  | .HIF_CFG => (0x1000004, [])
  | .HIF_WIN_LO => (0x1000100, [(0x8, 16)])
  | .HIF_WIN_HI => (0x1000104, [(0x8, 16)])
  | .HIF_VF_OWN => (0x1001000, [(0x10, 64)])
  | .HIF_VF_MEM => (0x1001004, [(0x10, 64)])
  | .HIF_VF_WIN_LO => (0x1001008, [(0x10, 64)])
  | .HIF_VF_WIN_HI => (0x100100C, [(0x10, 64)])
  | .HIF_AP_LO => (0x1002000, [(0x8, 64)])
  | .HIF_AP_HI => (0x1002004, [(0x8, 64)])
  | .HIF_IRQ_ROUTE => (0x1003000, [(0x4, 64)])
  | .HIF_PEVT_EN => (0x1003100, [(0x4, 16)])
  | .HIF_IRQ_PEND_LO => (0x1003200, [])
  | .HIF_IRQ_PEND_HI => (0x1003204, [])
  | .HIF_MBX_CFG => (0x1004000, [(0x40, 64)])
  | .HIF_MBX_DATA => (0x1004010, [(0x40, 64)])
  | .HIF_MBX_XMASK => (0x1004014, [(0x40, 64)])
  | .HIF_MBX_BELL_LO => (0x1004018, [(0x40, 64)])
  | .HIF_MBX_BELL_HI => (0x100401C, [(0x40, 64)])
  | .HIF_MBX_STAT => (0x1004020, [(0x40, 64)])
  | .HIF_QIRQ => (0x1010000, [(0x4, 16384)])
  | .NET_TN_CFG => (0x840000, [])
  | .NET_TN_ERR => (0x840004, [])
  | .NET_TN_RT_SEL => (0x840010, [])
  | .NET_TN_RT_DATA => (0x840014, [])
  | .TIM_NOW_0 => (0x1100000, [])
  | .TIM_NOW_1 => (0x1100004, [])
  | .TIM_NOW_2 => (0x1100008, [])
  | .TIM_NOW_3 => (0x110000C, [])
  | .TIM_STAT => (0x1100010, [])
  | .TIM_CMD => (0x1100014, [])
  | .TIM_OFS_0 => (0x1100018, [])
  | .TIM_OFS_1 => (0x110001C, [])
  | .TIM_OFS_2 => (0x1100020, [])
  | .TIM_OFS_3 => (0x1100024, [])
  | .TIM_RATE => (0x1100028, [])
  | .TIM_CFG => (0x110002C, [])
  | .TIM_EVT => (0x1100030, [])
  | .TIM_EVT_EN => (0x1100034, [])
  | .TIM_ETH_CFG => (0x1100040, [])
  | .TIM_TXTS_0 => (0x1100044, [])
  | .TIM_TXTS_1 => (0x1100048, [])
  | .TIM_TXTS_2 => (0x110004C, [])
  | .TIM_TXTS_3 => (0x1100050, [])
  | .TIM_PTM_CMD => (0x1100060, [])
  | .TIM_PTM_CFG => (0x1100064, [])
  | .TIM_PTM_STAT => (0x1100068, [])
  | .TIM_PTM_T1_LO => (0x1100070, [])
  | .TIM_PTM_T1_HI => (0x1100074, [])
  | .TIM_PTM_T4_LO => (0x1100078, [])
  | .TIM_PTM_T4_HI => (0x110007C, [])
  | .TIM_PTM_MST_LO => (0x1100080, [])
  | .TIM_PTM_MST_HI => (0x1100084, [])
  | .TIM_PTM_PDLY => (0x1100088, [])
  | .TIM_CMK_MARK => (0x1100100, [(0x10, 8)])
  | .TIM_CMK_ARR_LO => (0x1100104, [(0x10, 8)])
  | .TIM_CMK_ARR_HI => (0x1100108, [(0x10, 8)])
  | .TIM_CMK_OW => (0x110010C, [(0x10, 8)])
  | .DBG_MBX_CTL => (0x1400000, [])
  | .DBG_MBX_STAT => (0x1400004, [])
  | .DBG_MBX_REQ => (0x1401000, [(0x4, 260)])
  | .DBG_MBX_RSP => (0x1402000, [(0x4, 260)])
  | .DBG_CORE_STAT => (0x1403000, [(0x4, 64)])
  | .DBG_CTI_CORE => (0x1403100, [(0x4, 64)])
  | .DBG_CTI_FRZ => (0x1403200, [(0x4, 16)])
  | .DBG_CTI_PULSE => (0x1403240, [])
  | .DBG_FUN_CFG => (0x1403300, [])
  | .DBG_FUN_WR => (0x1403304, [])
  | .DBG_FUN_LOST => (0x1403308, [])
  | .DBG_HP_STAT => (0x1403400, [])
  | .DBG_DWDOG => (0x1403410, [])
  | .PRC_PROC_STAT => (0x100000, [(0x4, 2)])
  | .PRC_PROC_CMD => (0x100010, [])
  | .PRC_PROC_SRC_LO => (0x100014, [])
  | .PRC_PROC_SRC_HI => (0x100018, [])
  | .PRC_PROC_LEN => (0x10001C, [])
  | .PRC_HM_CFG => (0x100040, [])
  | .PRC_HM_STAT => (0x100044, [])
  | .PRC_CLS_SUB_CMD => (0x100080, [])
  | .PRC_CLS_SUB_STAT => (0x100084, [])
  | .PRC_UNIT_CMD => (0x1000C0, [])
  | .PRC_UNIT_STAT => (0x1000C4, [])
  | .PRC_RCALL_SEL => (0x100100, [])
  | .PRC_NAME_SEL => (0x100140, [])
  | .PRC_RCALL => (0x100104, [(0x4, 8)])
  | .PRC_NAME_DATA => (0x100200, [(0x4, 64)])
  | .PRC_THRESH => (0x100300, [(0x4, 9)])
  | .PRC_ECCST_CMD => (0x100380, [])
  | .PRC_ECCST_STAT => (0x100384, [])
  | .PRC_REPAIR => (0x100400, [(0x4, 16)])
  | .PRC_STALE => (0x100440, [])
  | .PRC_VIOL_STAT => (0x100500, [])
  | .PRC_RC_STAT => (0x100504, [])
  | .PRC_VIOL => (0x101000, [(0x20, 64), (0x4, 8)])
  | .PRC_RC => (0x108000, [(0x20, 1024), (0x4, 8)])
  | .RST_CAUSE => (0x1600000, [])
  | .RST_SWREQ => (0x1600004, [])
  | .RST_DBGREQ => (0x1600008, [])
  | .RST_UNIT_CORE_LO => (0x1600020, [])
  | .RST_UNIT_CORE_HI => (0x1600024, [])
  | .RST_UNIT_CLS => (0x1600030, [(0x4, 8)])
  | .RST_UNIT_MISC => (0x1600050, [])
  | .RST_UNIT_STAT => (0x1600054, [])
  | .RST_PEND => (0x1600060, [])
  | .RST_STRAP => (0x1600070, [])
  | .RST_CLK_STAT => (0x1600100, [])
  | .RST_CLK_CFG => (0x1600104, [])
  | .RST_CLKGOOD => (0x1600140, [(0x4, 14)])
  | .RST_RAIL_STAT => (0x1600180, [])
  | .RST_TEMP => (0x1600200, [(0x4, 12)])
  | .RST_THR_CFG => (0x1600240, [])
  | .RST_PWR_STAT => (0x1600244, [])
  | .RST_PWR_CMD => (0x1600248, [])
  | .RST_PWR_WAKE => (0x160024C, [])
  | .RST_DWDOG_CFG => (0x1600280, [])
  | .RST_DWDOG_KICK => (0x1600284, [])
  | .RST_DWDOG_STAT => (0x1600288, [])
  | .LCK_REG => (0x1500000, [(0x4, 16)])
  | .PIO_PIN_CFG => (0x1200000, [(0x4, 96)])
  | .PIO_PSRC => (0x1200200, [(0x4, 96)])
  | .PIO_OUT => (0x1200400, [(0x4, 3)])
  | .PIO_OE => (0x1200410, [(0x4, 3)])
  | .PIO_IN => (0x1200420, [(0x4, 3)])
  | .PIO_BANK_STAT => (0x1200430, [])
  | .PIO_LOCK => (0x1200440, [])
  | .PIO_LOCK_MASK => (0x1200444, [(0x4, 3)])
  | .PIO_LOCK_STAT => (0x1200450, [(0x4, 3)])
  | .PIO_STAT => (0x1200460, [])
  | .PIO_FUSE => (0x1200480, [(0x4, 6)])
  | .PIO_FUSE_CMD => (0x12004A0, [])
  | .GLB_ID => (0x0, [])
  | .GLB_LCS => (0x8, [])
  | .GLB_UID => (0x10, [(0x4, 4)])
  | .GLB_CAP_0 => (0x20, [])
  | .GLB_CAP_1 => (0x24, [])
  | .DIE_ID => (0x40, [(0x4, 8)])
  | .GLB_FEATURE_LEVEL => (0x60, [])
  | .GLB_STEP_TARGET => (0x80, [])
  | .GLB_STEP_FREQ => (0x84, [])
  | .GLB_DERATE_REASON => (0x88, [])

/-- The registers that exist once per link direction (R293). -/
def Reg.isLink : Reg → Bool
  | .LNK_STAT => true
  | .LNK_CFG => true
  | .LNK_CFG_NEXT => true
  | .LNK_CMD => true
  | .LNK_CNT => true
  | .LNK_LAT => true
  | .LNK_LANE => true
  | .LNK_ERR => true
  | _ => false

/-- The bits of a register by field type (Table SCO-8). Bits in none of them are RO or reserved. -/
structure Masks where
  rw : BitVec 32 := 0
  rwl : BitVec 32 := 0
  wo : BitVec 32 := 0
  w1c : BitVec 32 := 0
  w1s : BitVec 32 := 0
  rcl : BitVec 32 := 0
  deriving DecidableEq, Repr

/-- The field types of each register, from its field table. -/
def Reg.masks : Reg → Masks
  | .CLS_SUB_STATUS => { w1c := 0x100 }
  | .CLS_SUB_CMD => { wo := 0x1FFF0003 }
  | .CLS_IMEM_CE => { rcl := 0xFFFFFFFF }
  | .CLS_IMEM_UE => { rcl := 0xFFFFFFFF }
  | .CLS_SLATE_PE => { rcl := 0xFFFFFFFF }
  | .CLS_SLATE_SEL => { rw := 0xFFF81FF }
  | .PART_CMD => { wo := 0xFFFF0F }
  | .PART_CFG_NEXT => { rw := 0x7FFF }
  | .PART_TEMPO_NEXT => { rw := 0xFFFF0773 }
  | .PART_COMMIT => { wo := 0x2, w1s := 0x1 }
  | .PART_TEMPO_STAT => { w1c := 0x8 }
  | .PART_TEMPO_EARLY => { rcl := 0xFFFFFFFF }
  | .PART_BELL_NUM_HI => { w1c := 0x40000000 }
  | .PART_TIN_CFG => { rw := 0xFF03 }
  | .PART_GEN_CTL => { rw := 0x1 }
  | .PART_GEN_START_NS => { rwl := 0x3FFFFFFF }
  | .PART_GEN_START_SEC_LO => { rwl := 0xFFFFFFFF }
  | .PART_GEN_START_SEC_HI => { rwl := 0xFFFF }
  | .PART_GEN_PERIOD_NS => { rwl := 0xFFFFFFFF }
  | .PART_GEN_PERIOD_FRAC => { rwl := 0xFFFF }
  | .PART_TOUT_CFG => { rw := 0xFFF3 }
  | .NET_CONTENTION => { rcl := 0xFFFFFFFF }
  | .NET_XPART => { rcl := 0xFFFFFFFF }
  | .NET_SCHED_CE => { rcl := 0xFFFFFFFF }
  | .NET_SCHED_UE => { rcl := 0xFFFFFFFF }
  | .PART_FRZ_STATUS => { w1c := 0x10000 }
  | .PART_NOTICE => { rcl := 0xFFFF0000 }
  | .BBD_BANK => { w1c := 0x8 }
  | .BBD_CE => { rcl := 0xFFFFFFFF }
  | .BBD_UE => { rcl := 0xFFFFFFFF }
  | .BBD_UE_ADDR_HI => { w1c := 0x80000000 }
  | .BBD_SCRUB_CFG => { rw := 0xFF }
  | .BBD_WORD_SEL => { rw := 0xFFFFFF8 }
  | .BBD_PART => { rwl := 0x1 }
  | .BBD_PCNT => { rcl := 0xFFFFFFFF }
  | .BBD_PDROP => { rcl := 0xFFFFFFFF }
  | .BBD_MARCH_CMD => { wo := 0x3 }
  | .BBD_MARCH_CFG => { rw := 0xFFFF0037 }
  | .BBD_MARCH_BUF_LO => { rw := 0xFFF00000 }
  | .BBD_MARCH_BUF_HI => { rw := 0xFFFF }
  | .BBD_MARCH_STATUS => { w1c := 0xC00 }
  | .BBD_RETIRE_CMD => { wo := 0x301FF }
  | .HBM_CE => { rcl := 0xFFFFFFFF }
  | .HBM_UE => { rcl := 0xFFFFFFFF }
  | .HBM_LATE => { rcl := 0xFFFFFFFF }
  | .HBM_RETIRE_CMD => { wo := 0x7FFFFF }
  | .PART_FAULT_ACTION_NEXT => { rw := 0x3FFFFF }
  | .PART_FAULT_TAIL => { rw := 0x3F }
  | .PART_FAULT_LOST => { rcl := 0xFFFFFFFF }
  | .PART_LDR_CMD => { wo := 0x1FFF }
  | .PART_LDR_ADDR_LO => { rw := 0xFFFFFFFF }
  | .PART_LDR_ADDR_HI => { rw := 0xFFFFFFFF }
  | .PART_LDR_SIZE_LO => { rw := 0xFFFFFFFF }
  | .PART_LDR_SIZE_HI => { rw := 0xFFFF }
  | .PART_LDR_CFG => { rw := 0xFFFF }
  | .PART_LDR_DONE => { rw := 0x1, w1c := 0x2 }
  | .PART_LDR_BOOT => { wo := 0xFFFFFFFF }
  | .SEC_KEY_CMD => { wo := 0x37 }
  | .SEC_KEY_DATA => { wo := 0xFFFFFFFF }
  | .SEC_LC_CMD => { wo := 0x3 }
  | .SEC_RK_CMD => { wo := 0x33 }
  | .SEC_RK_DATA => { wo := 0xFFFFFFFF }
  | .SEC_SVN_CMD => { wo := 0x7F01 }
  | .TRC_PCFG_NEXT => { rw := 0x3F }
  | .TRC_PCMD => { wo := 0x3 }
  | .TRC_TRG_DES => { rw := 0xFFFFFF }
  | .TRC_TRG_EXT => { rw := 0xFFFFFFFF }
  | .TRC_TRG_ACT => { rw := 0xF7FFFF }
  | .TRC_TRG_SEL => { rw := 0x1FFFF }
  | .TRC_AREA => { rwl := 0xFFFF }
  | .TRC_JRN_STAT => { rcl := 0xFFFF0000 }
  | .TRC_SIG_WR => { w1c := 0x80000000 }
  | .TRC_SIG_LOST => { rcl := 0xFFFFFFFF }
  | .TRC_REPLAY_STOP_LO => { rw := 0xFFFFFFFF }
  | .TRC_REPLAY_STOP_HI => { rw := 0xFFFF }
  | .TRC_PRB_SEL => { rw := 0x1FFFFF }
  | .TRC_PRB_DATA => { rw := 0xFFFFFFFF }
  | .STW_IN_RX_NEXT => { rw := 0xFF3FFF }
  | .STW_IN_DSK_NEXT => { rw := 0xFFFFFF }
  | .STW_IN_CFG_NEXT => { rw := 0xFFFF7FFF }
  | .STW_IN_CMD => { wo := 0x7 }
  | .STW_TRG_CFG => { rwl := 0xFF3FF7 }
  | .STW_TRG_MIN => { rwl := 0xFFFFFFFF }
  | .STW_TRG_MAX => { rwl := 0xFFFFFFFF }
  | .STW_TRG_OUT => { rwl := 0x1FFFF }
  | .STW_TRG_CMD => { wo := 0x3 }
  | .STW_CAL_CFG => { rw := 0xFF }
  | .STW_CAL_CMD => { wo := 0x3 }
  | .STW_SINK => { rw := 0x7 }
  | .STW_RING => { rwl := 0xFFFF }
  | .STW_RING_WR => { w1c := 0x80000000 }
  | .STW_LOST => { rcl := 0xFFFFFFFF }
  | .STW_TB_CMD => { wo := 0x1 }
  | .XOT_CFG => { rw := 0x200, rwl := 0x1F3 }
  | .XOT_VEC_STAT => { rcl := 0xFFFFFFFF }
  | .XOT_CH_STAT => { w1c := 0x1, rcl := 0xFFFF0000 }
  | .XOT_NAME => { rw := 0xFFFFFFFF }
  | .LNK_CFG_NEXT => { rw := 0xFFFF01FF }
  | .LNK_CMD => { wo := 0x1F3F }
  | .LNK_CNT => { rcl := 0xFFFFFFFF }
  | .LNK_ERR => { rcl := 0xFFFFFFFF }
  | .NET_LINK_CFG => { rw := 0x1FF }
  | .DSP_DISPLACED => { rcl := 0xFFFFFFFF }
  | .DSP_BADDESC => { rcl := 0xFFFFFFFF }
  | .DSP_TICK_CFG => { rwl := 0xF7 }
  | .DSP_TICK_PERIOD => { rwl := 0xFFFFFFFF }
  | .DSP_TICK_CMD => { wo := 0x103 }
  | .DSP_CORE_CFG => { rw := 0x1 }
  | .DSP_MTIMECMP_LO => { rw := 0xFFFFFFFF }
  | .DSP_MTIMECMP_HI => { rw := 0xFFFFFFFF }
  | .DSP_MSIP => { rw := 0x1 }
  | .DSP_Q_CFG_NEXT => { rw := 0x3FFFFFFF }
  | .DSP_Q_RING_LO => { rwl := 0xFFFFFFE0 }
  | .DSP_Q_RING_HI => { rwl := 0x1FFFFF }
  | .DSP_Q_TAIL => { rw := 0x1FFFF }
  | .DSP_Q_CMD => { wo := 0x7 }
  | .DSP_Q_STAT => { w1c := 0x10 }
  | .HIF_CFG => { rwl := 0x3F }
  | .HIF_WIN_LO => { rw := 0xF0000000 }
  | .HIF_WIN_HI => { rw := 0xFFFF }
  | .HIF_VF_OWN => { rwl := 0xFFFF }
  | .HIF_VF_MEM => { rwl := 0xFFFF }
  | .HIF_VF_WIN_LO => { rw := 0xF0000000 }
  | .HIF_VF_WIN_HI => { rw := 0xFFFF }
  | .HIF_AP_LO => { rw := 0xFFFFF000 }
  | .HIF_AP_HI => { rw := 0xFFFFFFFF }
  | .HIF_IRQ_ROUTE => { rw := 0xFF07FF }
  | .HIF_PEVT_EN => { rw := 0xFF }
  | .HIF_IRQ_PEND_LO => { w1c := 0xFFFFFFFF }
  | .HIF_IRQ_PEND_HI => { w1c := 0xFFFFFFFF }
  | .HIF_MBX_CFG => { rwl := 0xFFF0001 }
  | .HIF_MBX_DATA => { rw := 0xFFFFFFFF }
  | .HIF_MBX_XMASK => { rw := 0xFFFFFFFF }
  | .HIF_MBX_BELL_LO => { rw := 0xFFFFFFFF }
  | .HIF_MBX_BELL_HI => { rw := 0xFFFF }
  | .HIF_MBX_STAT => { rcl := 0xFFFF0000 }
  | .HIF_QIRQ => { rw := 0x7F07FF }
  | .NET_TN_CFG => { rw := 0xFFFF }
  | .NET_TN_ERR => { rcl := 0xFFFFFFFF }
  | .NET_TN_RT_SEL => { rw := 0x7F7F }
  | .NET_TN_RT_DATA => { rw := 0x9FFFFFFF }
  | .TIM_STAT => { w1c := 0x8 }
  | .TIM_CMD => { wo := 0x3 }
  | .TIM_OFS_0 => { rw := 0x8000FFFF }
  | .TIM_OFS_1 => { rw := 0x3FFFFFFF }
  | .TIM_OFS_2 => { rw := 0xFFFFFFFF }
  | .TIM_OFS_3 => { rw := 0xFFFF }
  | .TIM_RATE => { rwl := 0xFFFFFFFF }
  | .TIM_CFG => { rw := 0x1FFFFFFF }
  | .TIM_EVT => { w1c := 0x7F }
  | .TIM_EVT_EN => { rw := 0x7F }
  | .TIM_ETH_CFG => { rw := 0xFFFFFF3 }
  | .TIM_TXTS_0 => { rcl := 0xF80FFFFF }
  | .TIM_PTM_CMD => { wo := 0x1 }
  | .TIM_PTM_CFG => { rw := 0xFFFF }
  | .DBG_MBX_CTL => { wo := 0x7FF0001 }
  | .DBG_MBX_STAT => { w1c := 0x2, rcl := 0xF8000000 }
  | .DBG_MBX_REQ => { rw := 0xFFFFFFFF }
  | .DBG_CTI_CORE => { rw := 0xFFFFFFFF }
  | .DBG_CTI_FRZ => { rw := 0xFFFF }
  | .DBG_CTI_PULSE => { wo := 0xFFFF }
  | .DBG_FUN_CFG => { rw := 0x3, rwl := 0x3FFFC }
  | .DBG_FUN_WR => { w1c := 0x80000000 }
  | .DBG_FUN_LOST => { rcl := 0xFFFFFFFF }
  | .DBG_DWDOG => { rw := 0x1 }
  | .PRC_PROC_CMD => { wo := 0x7 }
  | .PRC_PROC_SRC_LO => { rw := 0xFFFFFFFF }
  | .PRC_PROC_SRC_HI => { rw := 0xFFFFFFFF }
  | .PRC_PROC_LEN => { rw := 0xFFFFFFFF }
  | .PRC_HM_CFG => { rwl := 0x3 }
  | .PRC_CLS_SUB_CMD => { wo := 0xFF0003 }
  | .PRC_CLS_SUB_STAT => { w1c := 0x8 }
  | .PRC_UNIT_CMD => { wo := 0x3FFFF3F }
  | .PRC_RCALL_SEL => { rw := 0x3FFFFF }
  | .PRC_NAME_SEL => { rw := 0x3FFFFF }
  | .PRC_NAME_DATA => { rw := 0xFFFFFFFF }
  | .PRC_THRESH => { rw := 0xFFFF }
  | .PRC_ECCST_CMD => { wo := 0x1 }
  | .PRC_REPAIR => { rwl := 0x1FFFF }
  | .PRC_STALE => { rcl := 0xFFFFFFFF }
  | .RST_CAUSE => { w1c := 0xFF }
  | .RST_SWREQ => { wo := 0x3 }
  | .RST_DBGREQ => { rw := 0x2, wo := 0x1 }
  | .RST_UNIT_CORE_LO => { rw := 0xFFFFFFFF }
  | .RST_UNIT_CORE_HI => { rw := 0xFFFFFFFF }
  | .RST_UNIT_CLS => { rw := 0xFFFFFFFF }
  | .RST_UNIT_MISC => { rw := 0x7FFFF }
  | .RST_CLK_STAT => { w1c := 0x1 }
  | .RST_CLK_CFG => { rw := 0x1 }
  | .RST_TEMP => { rcl := 0xFF00 }
  | .RST_THR_CFG => { rw := 0xFFFFF }
  | .RST_PWR_CMD => { wo := 0x3 }
  | .RST_PWR_WAKE => { rw := 0x1F }
  | .RST_DWDOG_CFG => { rw := 0xFFFF }
  | .RST_DWDOG_KICK => { wo := 0xFF }
  | .RST_DWDOG_STAT => { w1c := 0x20000 }
  | .LCK_REG => { rw := 0xFFFFFFFF }
  | .PIO_PIN_CFG => { rwl := 0xFFF }
  | .PIO_PSRC => { rwl := 0x1FFFFFFF }
  | .PIO_OUT => { rw := 0xFFFFFFFF }
  | .PIO_OE => { rwl := 0xFFFFFFFF }
  | .PIO_LOCK => { wo := 0x1FF }
  | .PIO_LOCK_MASK => { rw := 0xFFFFFFFF }
  | .PIO_FUSE_CMD => { wo := 0x37F }
  | .GLB_STEP_TARGET => { rw := 0x1FF }
  | _ => {}

/-- Package actual of each latency class on an A1 package, and the family maximum (Table CON-2, R161). -/
def latActReset (c : Nat) : BitVec 32 :=
  let a := [3, 6, 40, 3, 4, 96, 16, 12, 10].getD c 0
  BitVec.ofNat 32 (a + a * 65536)

/-- STW_TDC at reset: TDCs 32, 33, 66 and 67 are SPARE; the others serve input t (West) or t - 2 (East). -/
def tdcReset (t : Nat) : BitVec 32 :=
  if t < 32 then BitVec.ofNat 32 (4 * t)
  else if t = 32 ∨ t = 33 ∨ t = 66 ∨ t = 67 then 1
  else BitVec.ofNat 32 (4 * (t - 2))

/-- STW_IN_STAT at reset: OFF, served by its own TDC (field TDC). -/
def stwInStatReset (i : Nat) : BitVec 32 :=
  BitVec.ofNat 32 ((if i < 32 then i else i + 2) * 65536)

/-- The reset value of instance `i` of a register. Fused, strapped and retained values: assumption entry 5. -/
def Reg.reset (r : Reg) (i : Nat) : BitVec 32 :=
  match r with
  | .CLS_SUB_STATUS => 0x10
  | .CLS_BP_MAP => BitVec.ofNat 32 (i % 512)
  | .PART_TIN_CFG => 0x800
  | .PART_GEN_PERIOD_NS => 0x5
  | .PART_TOUT_CFG => 0x800
  | .NET_CAP => 0xF182008
  | .NET_PART_LAT => 0x3280603
  | .NET_BR_STAT => 0x1001010
  | .PART_NOTICE => 0xFF
  | .BBD_SCRUB_CFG => 0x18
  | .BBD_PART => 0x600400
  | .PART_LAT_ACT => latActReset (i % 16)
  | .PART_LDR_CFG => 0x7D0
  | .PART_LDR_DONE => 0x4
  | .TRC_TRG_DES => 0xFF00
  | .STW_IN_RX => 0x801400
  | .STW_IN_RX_NEXT => 0x801400
  | .STW_IN_CFG => 0x10000
  | .STW_IN_CFG_NEXT => 0x10000
  | .STW_IN_STAT => stwInStatReset (i % 64)
  | .STW_TRG_CFG => 0x10000
  | .STW_TRG_MAX => 0xFFFFFFFF
  | .STW_TRG_OUT => 0x10
  | .STW_CAL_CFG => 0x8
  | .STW_CAL_STAT => 0x2B
  | .STW_TDC => tdcReset (i % 68)
  | .XOT_CFG => 0x100
  | .XOT_STAT => 0x1000000
  | .LNK_STAT => 0x1000000
  | .LNK_CFG => 0x400108
  | .LNK_CFG_NEXT => 0x400108
  | .LNK_LANE => if i % 17 = 16 then 0 else BitVec.ofNat 32 (1 + (i % 17) * 256)
  | .NET_LINK_CFG => 0x40
  | .DSP_TICK_PERIOD => 0x3E8
  | .DSP_CORE_CFG => 0x1
  | .DSP_MTIMECMP_LO => 0xFFFFFFFF
  | .DSP_MTIMECMP_HI => 0xFFFFFFFF
  | .DSP_Q_CFG => 0x10000
  | .DSP_Q_CFG_NEXT => 0x10000
  | .HIF_CFG => 0x10
  | .HIF_WIN_HI => BitVec.ofNat 32 (0x10 + i % 16)
  | .NET_TN_CFG => 0x64
  | .TIM_CFG => 0x64003E8
  | .PRC_THRESH => BitVec.ofNat 32 ([4, 2, 1, 2, 64, 256, 1, 16, 1].getD (i % 9) 0)
  | .RST_CAUSE => 0x1
  | .RST_THR_CFG => 0x30108
  | .RST_PWR_WAKE => 0x1F
  | .RST_DWDOG_CFG => 0x3E8
  | .RST_DWDOG_STAT => 0x3E8
  | .PIO_PIN_CFG => 0x8
  | .GLB_ID => 0x00A009DA
  | .GLB_LCS => 0x4
  | .GLB_CAP_0 => 0x81102100
  | .GLB_CAP_1 => 0x10189000
  | .DIE_ID => if i % 8 < 4 then 0xA1 else 0x1A1
  | .GLB_FEATURE_LEVEL => 0xA1
  | .GLB_STEP_TARGET => 0x100
  | .GLB_STEP_FREQ => 0x1000100
  | .GLB_DERATE_REASON => 0x100000
  | _ => 0

/-- The reset value that belongs to a key of the register file. -/
def regDefault (k : Nat) : BitVec 32 := (Reg.ofNat (k % regStride)).reset (k / regStride)

/-! The fields, under `F`, named register_field. -/

def F.CLS_SUB_STATUS_FREE : Fld := ⟨.CLS_SUB_STATUS, 0, 5⟩
def F.CLS_SUB_STATUS_FOLLOW : Fld := ⟨.CLS_SUB_STATUS, 5, 1⟩
def F.CLS_SUB_STATUS_READY : Fld := ⟨.CLS_SUB_STATUS, 6, 1⟩
def F.CLS_SUB_STATUS_HELD : Fld := ⟨.CLS_SUB_STATUS, 7, 1⟩
def F.CLS_SUB_STATUS_CANCELLED : Fld := ⟨.CLS_SUB_STATUS, 8, 1⟩
def F.CLS_SUB_STATUS_LBP : Fld := ⟨.CLS_SUB_STATUS, 16, 9⟩
def F.CLS_SUB_STATUS_SPARE : Fld := ⟨.CLS_SUB_STATUS, 25, 4⟩
def F.CLS_SUB_CMD_CMD : Fld := ⟨.CLS_SUB_CMD, 0, 2⟩
def F.CLS_SUB_CMD_LBP : Fld := ⟨.CLS_SUB_CMD, 16, 9⟩
def F.CLS_SUB_CMD_SPARE : Fld := ⟨.CLS_SUB_CMD, 25, 4⟩
def F.CLS_SUB_CMD_STATUS_STATUS : Fld := ⟨.CLS_SUB_CMD_STATUS, 0, 8⟩
def F.CLS_SUB_CMD_STATUS_BUSY : Fld := ⟨.CLS_SUB_CMD_STATUS, 8, 1⟩
def F.CLS_IMEM_CE_COUNT : Fld := ⟨.CLS_IMEM_CE, 0, 32⟩
def F.CLS_IMEM_UE_COUNT : Fld := ⟨.CLS_IMEM_UE, 0, 32⟩
def F.CLS_SLATE_PE_COUNT : Fld := ⟨.CLS_SLATE_PE, 0, 32⟩
def F.CLS_SLATE_SEL_LBP : Fld := ⟨.CLS_SLATE_SEL, 0, 9⟩
def F.CLS_SLATE_SEL_SHADOW : Fld := ⟨.CLS_SLATE_SEL, 15, 1⟩
def F.CLS_SLATE_SEL_ADDR : Fld := ⟨.CLS_SLATE_SEL, 16, 12⟩
def F.CLS_SLATE_DATA_V : Fld := ⟨.CLS_SLATE_DATA, 0, 1⟩
def F.CLS_SLATE_DATA_U : Fld := ⟨.CLS_SLATE_DATA, 1, 1⟩
def F.CLS_SLATE_DATA_P : Fld := ⟨.CLS_SLATE_DATA, 2, 1⟩
def F.CLS_SLATE_DATA_PERR : Fld := ⟨.CLS_SLATE_DATA, 3, 1⟩
def F.CLS_BP_MAP_PHYS : Fld := ⟨.CLS_BP_MAP, 0, 10⟩
def F.CLS_BP_MAP_EPOCH : Fld := ⟨.CLS_BP_MAP, 16, 16⟩
def F.CLS_SEQ_STATUS_PART : Fld := ⟨.CLS_SEQ_STATUS, 0, 4⟩
def F.CLS_SEQ_STATUS_ASSIGNED : Fld := ⟨.CLS_SEQ_STATUS, 4, 1⟩
def F.CLS_SEQ_STATUS_SLOT : Fld := ⟨.CLS_SEQ_STATUS, 5, 1⟩
def F.CLS_SEQ_STATUS_GAP : Fld := ⟨.CLS_SEQ_STATUS, 6, 1⟩
def F.CLS_SEQ_STATUS_STEP : Fld := ⟨.CLS_SEQ_STATUS, 16, 12⟩
def F.PART_STATE_STATE : Fld := ⟨.PART_STATE, 0, 4⟩
def F.PART_STATE_IN_GAP : Fld := ⟨.PART_STATE, 4, 1⟩
def F.PART_STATE_WAITING : Fld := ⟨.PART_STATE, 5, 1⟩
def F.PART_STATE_STOP_PEND : Fld := ⟨.PART_STATE, 6, 1⟩
def F.PART_STATE_CAPTURE_PEND : Fld := ⟨.PART_STATE, 7, 1⟩
def F.PART_STATE_COMMIT_PEND : Fld := ⟨.PART_STATE, 8, 1⟩
def F.PART_STATE_DUAL : Fld := ⟨.PART_STATE, 9, 1⟩
def F.PART_STATE_SLOT : Fld := ⟨.PART_STATE, 10, 1⟩
def F.PART_STATE_STBY_READY : Fld := ⟨.PART_STATE, 11, 1⟩
def F.PART_STATE_STBY_LOADING : Fld := ⟨.PART_STATE, 12, 1⟩
def F.PART_STATE_CORRUPT : Fld := ⟨.PART_STATE, 13, 1⟩
def F.PART_STATE_STEP : Fld := ⟨.PART_STATE, 16, 12⟩
def F.PART_CMD_CMD : Fld := ⟨.PART_CMD, 0, 4⟩
def F.PART_CMD_ARG : Fld := ⟨.PART_CMD, 8, 16⟩
def F.PART_CMD_STATUS_STATUS : Fld := ⟨.PART_CMD_STATUS, 0, 8⟩
def F.PART_CMD_STATUS_CMD : Fld := ⟨.PART_CMD_STATUS, 8, 4⟩
def F.PART_CMD_STATUS_PENDING : Fld := ⟨.PART_CMD_STATUS, 12, 1⟩
def F.PART_CMD_STATUS_BUSY : Fld := ⟨.PART_CMD_STATUS, 13, 1⟩
def F.PART_CFG_DEPTH : Fld := ⟨.PART_CFG, 0, 13⟩
def F.PART_CFG_SLOT : Fld := ⟨.PART_CFG, 13, 1⟩
def F.PART_CFG_XMODE : Fld := ⟨.PART_CFG, 14, 1⟩
def F.PART_CFG_IMG_DEPTH : Fld := ⟨.PART_CFG, 16, 13⟩
def F.PART_CFG_DUAL : Fld := ⟨.PART_CFG, 29, 1⟩
def F.PART_CFG_NEXT_DEPTH : Fld := ⟨.PART_CFG_NEXT, 0, 13⟩
def F.PART_CFG_NEXT_SLOT : Fld := ⟨.PART_CFG_NEXT, 13, 1⟩
def F.PART_CFG_NEXT_XMODE : Fld := ⟨.PART_CFG_NEXT, 14, 1⟩
def F.PART_CFG_NEXT_IMG_DEPTH : Fld := ⟨.PART_CFG_NEXT, 16, 13⟩
def F.PART_CFG_NEXT_DUAL : Fld := ⟨.PART_CFG_NEXT, 29, 1⟩
def F.PART_TEMPO_SRC : Fld := ⟨.PART_TEMPO, 0, 2⟩
def F.PART_TEMPO_SEL : Fld := ⟨.PART_TEMPO, 4, 3⟩
def F.PART_TEMPO_EDGE : Fld := ⟨.PART_TEMPO, 8, 1⟩
def F.PART_TEMPO_POLICY : Fld := ⟨.PART_TEMPO, 9, 2⟩
def F.PART_TEMPO_DIV : Fld := ⟨.PART_TEMPO, 16, 8⟩
def F.PART_TEMPO_STALL : Fld := ⟨.PART_TEMPO, 24, 8⟩
def F.PART_TEMPO_NEXT_SRC : Fld := ⟨.PART_TEMPO_NEXT, 0, 2⟩
def F.PART_TEMPO_NEXT_SEL : Fld := ⟨.PART_TEMPO_NEXT, 4, 3⟩
def F.PART_TEMPO_NEXT_EDGE : Fld := ⟨.PART_TEMPO_NEXT, 8, 1⟩
def F.PART_TEMPO_NEXT_POLICY : Fld := ⟨.PART_TEMPO_NEXT, 9, 2⟩
def F.PART_TEMPO_NEXT_DIV : Fld := ⟨.PART_TEMPO_NEXT, 16, 8⟩
def F.PART_TEMPO_NEXT_STALL : Fld := ⟨.PART_TEMPO_NEXT, 24, 8⟩
def F.PART_COMMIT_COMMIT : Fld := ⟨.PART_COMMIT, 0, 1⟩
def F.PART_COMMIT_CANCEL : Fld := ⟨.PART_COMMIT, 1, 1⟩
def F.PART_TEMPO_STAT_DEBT : Fld := ⟨.PART_TEMPO_STAT, 0, 3⟩
def F.PART_TEMPO_STAT_STALLED : Fld := ⟨.PART_TEMPO_STAT, 3, 1⟩
def F.PART_TEMPO_STAT_LAG : Fld := ⟨.PART_TEMPO_STAT, 8, 24⟩
def F.PART_TEMPO_EARLY_COUNT : Fld := ⟨.PART_TEMPO_EARLY, 0, 32⟩
def F.PART_BELL_NUM_LO_BELL : Fld := ⟨.PART_BELL_NUM_LO, 0, 32⟩
def F.PART_BELL_NUM_HI_BELL : Fld := ⟨.PART_BELL_NUM_HI, 0, 16⟩
def F.PART_BELL_NUM_HI_WRAP : Fld := ⟨.PART_BELL_NUM_HI, 30, 1⟩
def F.PART_BELL_NUM_HI_VALID : Fld := ⟨.PART_BELL_NUM_HI, 31, 1⟩
def F.PART_BELL_STAMP_0_FRAC : Fld := ⟨.PART_BELL_STAMP_0, 0, 16⟩
def F.PART_BELL_STAMP_1_NS : Fld := ⟨.PART_BELL_STAMP_1, 0, 30⟩
def F.PART_BELL_STAMP_2_SEC : Fld := ⟨.PART_BELL_STAMP_2, 0, 32⟩
def F.PART_BELL_STAMP_3_SEC : Fld := ⟨.PART_BELL_STAMP_3, 0, 16⟩
def F.PART_TIN_CFG_EN : Fld := ⟨.PART_TIN_CFG, 0, 1⟩
def F.PART_TIN_CFG_EDGE : Fld := ⟨.PART_TIN_CFG, 1, 1⟩
def F.PART_TIN_CFG_HOLDOFF : Fld := ⟨.PART_TIN_CFG, 8, 8⟩
def F.PART_TIN_COUNT_COUNT : Fld := ⟨.PART_TIN_COUNT, 0, 32⟩
def F.PART_GEN_CTL_EN : Fld := ⟨.PART_GEN_CTL, 0, 1⟩
def F.PART_GEN_CTL_ACTIVE : Fld := ⟨.PART_GEN_CTL, 1, 1⟩
def F.PART_GEN_START_NS_NS : Fld := ⟨.PART_GEN_START_NS, 0, 30⟩
def F.PART_GEN_START_SEC_LO_SEC : Fld := ⟨.PART_GEN_START_SEC_LO, 0, 32⟩
def F.PART_GEN_START_SEC_HI_SEC : Fld := ⟨.PART_GEN_START_SEC_HI, 0, 16⟩
def F.PART_GEN_PERIOD_NS_NS : Fld := ⟨.PART_GEN_PERIOD_NS, 0, 32⟩
def F.PART_GEN_PERIOD_FRAC_FRAC : Fld := ⟨.PART_GEN_PERIOD_FRAC, 0, 16⟩
def F.PART_TOUT_CFG_SRC : Fld := ⟨.PART_TOUT_CFG, 0, 2⟩
def F.PART_TOUT_CFG_SEL : Fld := ⟨.PART_TOUT_CFG, 4, 4⟩
def F.PART_TOUT_CFG_WIDTH : Fld := ⟨.PART_TOUT_CFG, 8, 8⟩
def F.NET_CAP_SW_PER_DIE : Fld := ⟨.NET_CAP, 0, 4⟩
def F.NET_CAP_SEGS : Fld := ⟨.NET_CAP, 4, 12⟩
def F.NET_CAP_BUNDLES : Fld := ⟨.NET_CAP, 16, 5⟩
def F.NET_CAP_PAD_MAX : Fld := ⟨.NET_CAP, 24, 4⟩
def F.NET_PART_LAT_HALL : Fld := ⟨.NET_PART_LAT, 0, 8⟩
def F.NET_PART_LAT_BASE : Fld := ⟨.NET_PART_LAT, 8, 8⟩
def F.NET_PART_LAT_BRIDGE : Fld := ⟨.NET_PART_LAT, 16, 8⟩
def F.NET_PART_LAT_IO : Fld := ⟨.NET_PART_LAT, 24, 8⟩
def F.NET_CONTENTION_COUNT : Fld := ⟨.NET_CONTENTION, 0, 32⟩
def F.NET_XPART_COUNT : Fld := ⟨.NET_XPART, 0, 32⟩
def F.NET_SCHED_CE_COUNT : Fld := ⟨.NET_SCHED_CE, 0, 32⟩
def F.NET_SCHED_UE_COUNT : Fld := ⟨.NET_SCHED_UE, 0, 32⟩
def F.NET_SW_OWN_OWN : Fld := ⟨.NET_SW_OWN, 0, 4⟩
def F.NET_SW_VALID_VALID : Fld := ⟨.NET_SW_VALID, 0, 8⟩
def F.NET_BR_OWN_WE_OWN : Fld := ⟨.NET_BR_OWN_WE, 0, 4⟩
def F.NET_BR_OWN_EW_OWN : Fld := ⟨.NET_BR_OWN_EW, 0, 4⟩
def F.NET_BR_VALID_WE : Fld := ⟨.NET_BR_VALID, 0, 8⟩
def F.NET_BR_VALID_EW : Fld := ⟨.NET_BR_VALID, 8, 8⟩
def F.NET_BR_STAT_DLANES_WE : Fld := ⟨.NET_BR_STAT, 0, 5⟩
def F.NET_BR_STAT_DLANES_EW : Fld := ⟨.NET_BR_STAT, 8, 5⟩
def F.NET_BR_STAT_FMAX : Fld := ⟨.NET_BR_STAT, 16, 9⟩
def F.NET_BR_STAT_IN_USE : Fld := ⟨.NET_BR_STAT, 25, 1⟩
def F.PART_FREEZE_CNT_COUNT : Fld := ⟨.PART_FREEZE_CNT, 0, 32⟩
def F.PART_FROZEN_CLOCKS_LO_CLOCKS : Fld := ⟨.PART_FROZEN_CLOCKS_LO, 0, 32⟩
def F.PART_FROZEN_CLOCKS_HI_CLOCKS : Fld := ⟨.PART_FROZEN_CLOCKS_HI, 0, 32⟩
def F.PART_FRZ_STATUS_CAUSE : Fld := ⟨.PART_FRZ_STATUS, 0, 13⟩
def F.PART_FRZ_STATUS_F_SCHED : Fld := ⟨.PART_FRZ_STATUS, 13, 1⟩
def F.PART_FRZ_STATUS_R_SCHED : Fld := ⟨.PART_FRZ_STATUS, 14, 1⟩
def F.PART_FRZ_STATUS_LEAD : Fld := ⟨.PART_FRZ_STATUS, 15, 1⟩
def F.PART_FRZ_STATUS_DESYNC : Fld := ⟨.PART_FRZ_STATUS, 16, 1⟩
def F.PART_FRZ_LAST_CAUSE : Fld := ⟨.PART_FRZ_LAST, 0, 4⟩
def F.PART_FRZ_LAST_GAP : Fld := ⟨.PART_FRZ_LAST, 8, 1⟩
def F.PART_FRZ_LAST_STEP : Fld := ⟨.PART_FRZ_LAST, 9, 12⟩
def F.PART_FRZ_LAST_SRC : Fld := ⟨.PART_FRZ_LAST, 21, 11⟩
def F.PART_FRZ_LAST_BELL_LO_BELL : Fld := ⟨.PART_FRZ_LAST_BELL_LO, 0, 32⟩
def F.PART_FRZ_LAST_BELL_HI_BELL : Fld := ⟨.PART_FRZ_LAST_BELL_HI, 0, 16⟩
def F.PART_FRZ_LAST_LEN_CLOCKS : Fld := ⟨.PART_FRZ_LAST_LEN, 0, 32⟩
def F.PART_NOTICE_MIN : Fld := ⟨.PART_NOTICE, 0, 8⟩
def F.PART_NOTICE_MISSED : Fld := ⟨.PART_NOTICE, 16, 16⟩
def F.PART_FRZ_CHAIN_HORIZON : Fld := ⟨.PART_FRZ_CHAIN, 0, 12⟩
def F.PART_FRZ_CHAIN_CHAINED : Fld := ⟨.PART_FRZ_CHAIN, 12, 1⟩
def F.PART_FRZ_CHAIN_CHAIN_LEAD : Fld := ⟨.PART_FRZ_CHAIN, 13, 1⟩
def F.PART_FRZ_CHAIN_SKEW : Fld := ⟨.PART_FRZ_CHAIN, 16, 12⟩
def F.PART_SCC_LO_SCC : Fld := ⟨.PART_SCC_LO, 0, 32⟩
def F.PART_SCC_HI_SCC : Fld := ⟨.PART_SCC_HI, 0, 32⟩
def F.BBD_BANK_STATE : Fld := ⟨.BBD_BANK, 0, 2⟩
def F.BBD_BANK_RETIRE_PEND : Fld := ⟨.BBD_BANK, 2, 1⟩
def F.BBD_BANK_FAILED : Fld := ⟨.BBD_BANK, 3, 1⟩
def F.BBD_BANK_OWNER : Fld := ⟨.BBD_BANK, 8, 4⟩
def F.BBD_BANK_IBANK : Fld := ⟨.BBD_BANK, 16, 8⟩
def F.BBD_CE_COUNT : Fld := ⟨.BBD_CE, 0, 32⟩
def F.BBD_UE_COUNT : Fld := ⟨.BBD_UE, 0, 32⟩
def F.BBD_UE_ADDR_LO_ADDR : Fld := ⟨.BBD_UE_ADDR_LO, 0, 32⟩
def F.BBD_UE_ADDR_HI_ADDR : Fld := ⟨.BBD_UE_ADDR_HI, 0, 16⟩
def F.BBD_UE_ADDR_HI_VALID : Fld := ⟨.BBD_UE_ADDR_HI, 31, 1⟩
def F.BBD_SCRUB_CFG_PERIOD : Fld := ⟨.BBD_SCRUB_CFG, 0, 8⟩
def F.BBD_WORD_SEL_WORD : Fld := ⟨.BBD_WORD_SEL, 3, 25⟩
def F.BBD_WORD_STAT_XB : Fld := ⟨.BBD_WORD_STAT, 0, 8⟩
def F.BBD_WORD_STAT_CEB : Fld := ⟨.BBD_WORD_STAT, 8, 8⟩
def F.BBD_WORD_STAT_UEB : Fld := ⟨.BBD_WORD_STAT, 16, 8⟩
def F.BBD_PART_HOSTWR : Fld := ⟨.BBD_PART, 0, 1⟩
def F.BBD_PART_BB_LAT : Fld := ⟨.BBD_PART, 8, 5⟩
def F.BBD_PART_HBM_LAT : Fld := ⟨.BBD_PART, 16, 10⟩
def F.BBD_PCNT_CONFLICT : Fld := ⟨.BBD_PCNT, 0, 16⟩
def F.BBD_PCNT_RANGE : Fld := ⟨.BBD_PCNT, 16, 16⟩
def F.BBD_PDROP_FENCE : Fld := ⟨.BBD_PDROP, 0, 16⟩
def F.BBD_PDROP_XADDR : Fld := ⟨.BBD_PDROP, 16, 16⟩
def F.BBD_MARCH_CMD_CMD : Fld := ⟨.BBD_MARCH_CMD, 0, 2⟩
def F.BBD_MARCH_CFG_ALG : Fld := ⟨.BBD_MARCH_CFG, 0, 2⟩
def F.BBD_MARCH_CFG_PRESERVE : Fld := ⟨.BBD_MARCH_CFG, 2, 1⟩
def F.BBD_MARCH_CFG_TGT : Fld := ⟨.BBD_MARCH_CFG, 4, 2⟩
def F.BBD_MARCH_CFG_FIRST : Fld := ⟨.BBD_MARCH_CFG, 16, 8⟩
def F.BBD_MARCH_CFG_LAST : Fld := ⟨.BBD_MARCH_CFG, 24, 8⟩
def F.BBD_MARCH_BUF_LO_ADDR : Fld := ⟨.BBD_MARCH_BUF_LO, 20, 12⟩
def F.BBD_MARCH_BUF_HI_ADDR : Fld := ⟨.BBD_MARCH_BUF_HI, 0, 16⟩
def F.BBD_MARCH_STATUS_STATUS : Fld := ⟨.BBD_MARCH_STATUS, 0, 8⟩
def F.BBD_MARCH_STATUS_STATE : Fld := ⟨.BBD_MARCH_STATUS, 8, 2⟩
def F.BBD_MARCH_STATUS_DONE : Fld := ⟨.BBD_MARCH_STATUS, 10, 1⟩
def F.BBD_MARCH_STATUS_ABORTED : Fld := ⟨.BBD_MARCH_STATUS, 11, 1⟩
def F.BBD_MARCH_STATUS_CUR : Fld := ⟨.BBD_MARCH_STATUS, 16, 8⟩
def F.BBD_MARCH_STATUS_FAILS : Fld := ⟨.BBD_MARCH_STATUS, 24, 8⟩
def F.BBD_MARCH_FAIL_UNIT : Fld := ⟨.BBD_MARCH_FAIL, 0, 8⟩
def F.BBD_MARCH_FAIL_WORD : Fld := ⟨.BBD_MARCH_FAIL, 8, 23⟩
def F.BBD_MARCH_FAIL_VALID : Fld := ⟨.BBD_MARCH_FAIL, 31, 1⟩
def F.BBD_RETIRE_CMD_BANK : Fld := ⟨.BBD_RETIRE_CMD, 0, 9⟩
def F.BBD_RETIRE_CMD_OP : Fld := ⟨.BBD_RETIRE_CMD, 16, 2⟩
def F.BBD_RETIRE_STATUS_STATUS : Fld := ⟨.BBD_RETIRE_STATUS, 0, 8⟩
def F.HBM_STATUS_READY : Fld := ⟨.HBM_STATUS, 0, 1⟩
def F.HBM_STATUS_HOT : Fld := ⟨.HBM_STATUS, 1, 1⟩
def F.HBM_STATUS_SELFREF : Fld := ⟨.HBM_STATUS, 2, 1⟩
def F.HBM_STATUS_TEMP : Fld := ⟨.HBM_STATUS, 8, 8⟩
def F.HBM_CE_COUNT : Fld := ⟨.HBM_CE, 0, 32⟩
def F.HBM_UE_COUNT : Fld := ⟨.HBM_UE, 0, 32⟩
def F.HBM_LATE_COUNT : Fld := ⟨.HBM_LATE, 0, 32⟩
def F.HBM_BUDGET_LO_BUDGET : Fld := ⟨.HBM_BUDGET_LO, 0, 4⟩
def F.HBM_BUDGET_HI_BUDGET : Fld := ⟨.HBM_BUDGET_HI, 0, 4⟩
def F.HBM_RET_STAT_USED : Fld := ⟨.HBM_RET_STAT, 0, 11⟩
def F.HBM_RET_STAT_BUSY : Fld := ⟨.HBM_RET_STAT, 11, 1⟩
def F.HBM_RET_STAT_STATUS : Fld := ⟨.HBM_RET_STAT, 16, 8⟩
def F.HBM_RETIRE_CMD_PAGE : Fld := ⟨.HBM_RETIRE_CMD, 0, 23⟩
def F.HBM_REG_A_VALID : Fld := ⟨.HBM_REG_A, 0, 1⟩
def F.HBM_REG_A_OWNER : Fld := ⟨.HBM_REG_A, 4, 4⟩
def F.HBM_REG_A_FIRST : Fld := ⟨.HBM_REG_A, 8, 7⟩
def F.HBM_REG_A_COUNT : Fld := ⟨.HBM_REG_A, 16, 7⟩
def F.HBM_REG_A_IREG : Fld := ⟨.HBM_REG_A, 24, 4⟩
def F.PART_FAULT_ACTION_ACT : Fld := ⟨.PART_FAULT_ACTION, 0, 2⟩
def F.PART_FAULT_ACTION_NEXT_ACT : Fld := ⟨.PART_FAULT_ACTION_NEXT, 0, 2⟩
def F.PART_FAULT_HEAD_HEAD : Fld := ⟨.PART_FAULT_HEAD, 0, 6⟩
def F.PART_FAULT_HEAD_UNREAD : Fld := ⟨.PART_FAULT_HEAD, 8, 7⟩
def F.PART_FAULT_HEAD_SEEN : Fld := ⟨.PART_FAULT_HEAD, 16, 12⟩
def F.PART_FAULT_TAIL_TAIL : Fld := ⟨.PART_FAULT_TAIL, 0, 6⟩
def F.PART_FAULT_LOST_COUNT : Fld := ⟨.PART_FAULT_LOST, 0, 32⟩
def F.PART_LAT_DECL_DECL : Fld := ⟨.PART_LAT_DECL, 0, 16⟩
def F.PART_LAT_DECL_PAD : Fld := ⟨.PART_LAT_DECL, 16, 16⟩
def F.PART_LAT_PORT_DATA : Fld := ⟨.PART_LAT_PORT, 0, 16⟩
def F.PART_LAT_PORT_VRET : Fld := ⟨.PART_LAT_PORT, 16, 16⟩
def F.PART_LAT_PORT_CTL_CTL : Fld := ⟨.PART_LAT_PORT_CTL, 0, 8⟩
def F.PART_LAT_PORT_CTL_CHAIN : Fld := ⟨.PART_LAT_PORT_CTL, 8, 1⟩
def F.PART_LAT_PORT_CTL_VECTOR : Fld := ⟨.PART_LAT_PORT_CTL, 9, 1⟩
def F.PART_FAULT_LOG_WORD : Fld := ⟨.PART_FAULT_LOG, 0, 32⟩
def F.PART_LAT_ACT_ACT : Fld := ⟨.PART_LAT_ACT, 0, 16⟩
def F.PART_LAT_ACT_FAMMAX : Fld := ⟨.PART_LAT_ACT, 16, 16⟩
def F.PART_LDR_CMD_CMD : Fld := ⟨.PART_LDR_CMD, 0, 2⟩
def F.PART_LDR_CMD_SRC : Fld := ⟨.PART_LDR_CMD, 2, 2⟩
def F.PART_LDR_CMD_PART : Fld := ⟨.PART_LDR_CMD, 4, 4⟩
def F.PART_LDR_CMD_KEEP_STATE : Fld := ⟨.PART_LDR_CMD, 8, 1⟩
def F.PART_LDR_CMD_DONE_GATE : Fld := ⟨.PART_LDR_CMD, 9, 1⟩
def F.PART_LDR_CMD_PORT : Fld := ⟨.PART_LDR_CMD, 10, 3⟩
def F.PART_LDR_ADDR_LO_ADDR : Fld := ⟨.PART_LDR_ADDR_LO, 0, 32⟩
def F.PART_LDR_ADDR_HI_ADDR : Fld := ⟨.PART_LDR_ADDR_HI, 0, 32⟩
def F.PART_LDR_SIZE_LO_SIZE : Fld := ⟨.PART_LDR_SIZE_LO, 0, 32⟩
def F.PART_LDR_SIZE_HI_SIZE : Fld := ⟨.PART_LDR_SIZE_HI, 0, 16⟩
def F.PART_LDR_STATUS_RESULT : Fld := ⟨.PART_LDR_STATUS, 0, 8⟩
def F.PART_LDR_STATUS_CMDST : Fld := ⟨.PART_LDR_STATUS, 8, 8⟩
def F.PART_LDR_STATUS_STATE : Fld := ⟨.PART_LDR_STATUS, 16, 2⟩
def F.PART_LDR_STATUS_PHASE : Fld := ⟨.PART_LDR_STATUS, 18, 3⟩
def F.PART_LDR_STATUS_DETAIL : Fld := ⟨.PART_LDR_STATUS, 24, 8⟩
def F.PART_LDR_REPORT_A_VALUE : Fld := ⟨.PART_LDR_REPORT_A, 0, 32⟩
def F.PART_LDR_REPORT_B_VALUE : Fld := ⟨.PART_LDR_REPORT_B, 0, 32⟩
def F.PART_LDR_REPORT_C_VALUE : Fld := ⟨.PART_LDR_REPORT_C, 0, 32⟩
def F.PART_LDR_BYTES_LO_BYTES : Fld := ⟨.PART_LDR_BYTES_LO, 0, 32⟩
def F.PART_LDR_BYTES_HI_BYTES : Fld := ⟨.PART_LDR_BYTES_HI, 0, 16⟩
def F.PART_LDR_CFG_TIMEOUT : Fld := ⟨.PART_LDR_CFG, 0, 16⟩
def F.PART_LDR_DONE_HOLD : Fld := ⟨.PART_LDR_DONE, 0, 1⟩
def F.PART_LDR_DONE_FAIL : Fld := ⟨.PART_LDR_DONE, 1, 1⟩
def F.PART_LDR_DONE_DRIVE : Fld := ⟨.PART_LDR_DONE, 2, 1⟩
def F.PART_LDR_DONE_SENSED : Fld := ⟨.PART_LDR_DONE, 3, 1⟩
def F.PART_LDR_DONE_BOOTED : Fld := ⟨.PART_LDR_DONE, 4, 1⟩
def F.PART_LDR_DONE_STAGE_RDY : Fld := ⟨.PART_LDR_DONE, 5, 1⟩
def F.PART_LDR_BOOT_LEN : Fld := ⟨.PART_LDR_BOOT, 0, 32⟩
def F.PART_LDR_BOOT_RES_RESULT : Fld := ⟨.PART_LDR_BOOT_RES, 0, 8⟩
def F.PART_LDR_BOOT_RES_DETAIL : Fld := ⟨.PART_LDR_BOOT_RES, 8, 8⟩
def F.PART_LDR_BOOT_RES_ENTRY : Fld := ⟨.PART_LDR_BOOT_RES, 16, 4⟩
def F.PART_LDR_BOOT_RES_VALID : Fld := ⟨.PART_LDR_BOOT_RES, 31, 1⟩
def F.SEC_KEY_STATUS_SLOT : Fld := ⟨.SEC_KEY_STATUS, 0, 2⟩
def F.SEC_KEY_STATUS_CMDST : Fld := ⟨.SEC_KEY_STATUS, 16, 8⟩
def F.SEC_KEY_STATUS_BUSY : Fld := ⟨.SEC_KEY_STATUS, 24, 1⟩
def F.SEC_KEY_CMD_SLOT : Fld := ⟨.SEC_KEY_CMD, 0, 3⟩
def F.SEC_KEY_CMD_OP : Fld := ⟨.SEC_KEY_CMD, 4, 2⟩
def F.SEC_KEY_DATA_KEY : Fld := ⟨.SEC_KEY_DATA, 0, 32⟩
def F.SEC_LC_CMD_CMD : Fld := ⟨.SEC_LC_CMD, 0, 2⟩
def F.SEC_LC_STAT_STATE : Fld := ⟨.SEC_LC_STAT, 0, 2⟩
def F.SEC_LC_STAT_CMDST : Fld := ⟨.SEC_LC_STAT, 8, 8⟩
def F.SEC_RK_STAT_SLOT : Fld := ⟨.SEC_RK_STAT, 0, 2⟩
def F.SEC_RK_STAT_CMDST : Fld := ⟨.SEC_RK_STAT, 8, 8⟩
def F.SEC_RK_CMD_SLOT : Fld := ⟨.SEC_RK_CMD, 0, 2⟩
def F.SEC_RK_CMD_OP : Fld := ⟨.SEC_RK_CMD, 4, 2⟩
def F.SEC_RK_DATA_DIGEST : Fld := ⟨.SEC_RK_DATA, 0, 32⟩
def F.SEC_SVN_STAT_SVN : Fld := ⟨.SEC_SVN_STAT, 0, 7⟩
def F.SEC_SVN_STAT_CMDST : Fld := ⟨.SEC_SVN_STAT, 8, 8⟩
def F.SEC_SVN_CMD_ADVANCE : Fld := ⟨.SEC_SVN_CMD, 0, 1⟩
def F.SEC_SVN_CMD_VALUE : Fld := ⟨.SEC_SVN_CMD, 8, 7⟩
def F.TRC_PCFG_SINK : Fld := ⟨.TRC_PCFG, 0, 2⟩
def F.TRC_PCFG_MODE : Fld := ⟨.TRC_PCFG, 2, 1⟩
def F.TRC_PCFG_PBANK : Fld := ⟨.TRC_PCFG, 3, 1⟩
def F.TRC_PCFG_FULL : Fld := ⟨.TRC_PCFG, 4, 1⟩
def F.TRC_PCFG_LOSSLESS : Fld := ⟨.TRC_PCFG, 5, 1⟩
def F.TRC_PCFG_NEXT_SINK : Fld := ⟨.TRC_PCFG_NEXT, 0, 2⟩
def F.TRC_PCFG_NEXT_MODE : Fld := ⟨.TRC_PCFG_NEXT, 2, 1⟩
def F.TRC_PCFG_NEXT_PBANK : Fld := ⟨.TRC_PCFG_NEXT, 3, 1⟩
def F.TRC_PCFG_NEXT_FULL : Fld := ⟨.TRC_PCFG_NEXT, 4, 1⟩
def F.TRC_PCFG_NEXT_LOSSLESS : Fld := ⟨.TRC_PCFG_NEXT, 5, 1⟩
def F.TRC_PCMD_CMD : Fld := ⟨.TRC_PCMD, 0, 2⟩
def F.TRC_PSTAT_STATE : Fld := ⟨.TRC_PSTAT, 0, 2⟩
def F.TRC_PSTAT_CMDST : Fld := ⟨.TRC_PSTAT, 8, 8⟩
def F.TRC_TRG_DES_EN : Fld := ⟨.TRC_TRG_DES, 0, 8⟩
def F.TRC_TRG_DES_POL : Fld := ⟨.TRC_TRG_DES, 8, 8⟩
def F.TRC_TRG_DES_XFIRE : Fld := ⟨.TRC_TRG_DES, 16, 8⟩
def F.TRC_TRG_EXT_STW : Fld := ⟨.TRC_TRG_EXT, 0, 16⟩
def F.TRC_TRG_EXT_CTI : Fld := ⟨.TRC_TRG_EXT, 16, 16⟩
def F.TRC_TRG_ACT_POST : Fld := ⟨.TRC_TRG_ACT, 0, 16⟩
def F.TRC_TRG_ACT_CAP : Fld := ⟨.TRC_TRG_ACT, 16, 1⟩
def F.TRC_TRG_ACT_HALT : Fld := ⟨.TRC_TRG_ACT, 17, 1⟩
def F.TRC_TRG_ACT_CTI_OUT : Fld := ⟨.TRC_TRG_ACT, 18, 1⟩
def F.TRC_TRG_ACT_CTI_CH : Fld := ⟨.TRC_TRG_ACT, 20, 4⟩
def F.TRC_TRG_STAT_FIRED : Fld := ⟨.TRC_TRG_STAT, 0, 1⟩
def F.TRC_TRG_STAT_SRC : Fld := ⟨.TRC_TRG_STAT, 1, 2⟩
def F.TRC_TRG_STAT_IDX : Fld := ⟨.TRC_TRG_STAT, 4, 4⟩
def F.TRC_TRG_STAT_STEP : Fld := ⟨.TRC_TRG_STAT, 8, 12⟩
def F.TRC_TRG_STAT_GAP : Fld := ⟨.TRC_TRG_STAT, 20, 1⟩
def F.TRC_TRG_SEL_CLASS : Fld := ⟨.TRC_TRG_SEL, 0, 8⟩
def F.TRC_TRG_SEL_LINE : Fld := ⟨.TRC_TRG_SEL, 8, 9⟩
def F.TRC_AREA_STACK : Fld := ⟨.TRC_AREA, 0, 2⟩
def F.TRC_AREA_FIRST : Fld := ⟨.TRC_AREA, 2, 7⟩
def F.TRC_AREA_COUNT : Fld := ⟨.TRC_AREA, 9, 7⟩
def F.TRC_SNAP_STAT_VALID : Fld := ⟨.TRC_SNAP_STAT, 0, 16⟩
def F.TRC_SNAP_STAT_DRAINING : Fld := ⟨.TRC_SNAP_STAT, 16, 1⟩
def F.TRC_SNAP_STAT_NEWEST : Fld := ⟨.TRC_SNAP_STAT, 17, 4⟩
def F.TRC_SNAP_STAT_SLOTS : Fld := ⟨.TRC_SNAP_STAT, 21, 5⟩
def F.TRC_SNAP_STAT_DSLOT : Fld := ⟨.TRC_SNAP_STAT, 26, 4⟩
def F.TRC_JRN_STAT_ACTIVE : Fld := ⟨.TRC_JRN_STAT, 0, 1⟩
def F.TRC_JRN_STAT_OVERRUN : Fld := ⟨.TRC_JRN_STAT, 16, 8⟩
def F.TRC_JRN_STAT_DROPPED : Fld := ⟨.TRC_JRN_STAT, 24, 8⟩
def F.TRC_SIG_WR_LINE : Fld := ⟨.TRC_SIG_WR, 0, 31⟩
def F.TRC_SIG_WR_WRAPPED : Fld := ⟨.TRC_SIG_WR, 31, 1⟩
def F.TRC_SIG_LOST_COUNT : Fld := ⟨.TRC_SIG_LOST, 0, 32⟩
def F.TRC_REPLAY_STOP_LO_BELL : Fld := ⟨.TRC_REPLAY_STOP_LO, 0, 32⟩
def F.TRC_REPLAY_STOP_HI_BELL : Fld := ⟨.TRC_REPLAY_STOP_HI, 0, 16⟩
def F.TRC_REPLAY_STAT_ACTIVE : Fld := ⟨.TRC_REPLAY_STAT, 0, 1⟩
def F.TRC_REPLAY_STAT_RESTORING : Fld := ⟨.TRC_REPLAY_STAT, 1, 1⟩
def F.TRC_SNAP_BELL_LO_BELL : Fld := ⟨.TRC_SNAP_BELL_LO, 0, 32⟩
def F.TRC_SNAP_BELL_HI_BELL : Fld := ⟨.TRC_SNAP_BELL_HI, 0, 16⟩
def F.TRC_SNAP_BELL_HI_POINT : Fld := ⟨.TRC_SNAP_BELL_HI, 16, 1⟩
def F.TRC_SNAP_BELL_HI_SLOT : Fld := ⟨.TRC_SNAP_BELL_HI, 17, 1⟩
def F.TRC_PRB_SEL_CLASS : Fld := ⟨.TRC_PRB_SEL, 0, 8⟩
def F.TRC_PRB_SEL_BANK : Fld := ⟨.TRC_PRB_SEL, 8, 1⟩
def F.TRC_PRB_SEL_STEP : Fld := ⟨.TRC_PRB_SEL, 9, 12⟩
def F.TRC_PRB_DATA_ENTRY : Fld := ⟨.TRC_PRB_DATA, 0, 32⟩
def F.STW_IN_RX_THRESH : Fld := ⟨.STW_IN_RX, 0, 10⟩
def F.STW_IN_RX_HYST : Fld := ⟨.STW_IN_RX, 10, 2⟩
def F.STW_IN_RX_TERM : Fld := ⟨.STW_IN_RX, 12, 1⟩
def F.STW_IN_RX_PAIR : Fld := ⟨.STW_IN_RX, 13, 1⟩
def F.STW_IN_RX_INTERP : Fld := ⟨.STW_IN_RX, 16, 8⟩
def F.STW_IN_RX_NEXT_THRESH : Fld := ⟨.STW_IN_RX_NEXT, 0, 10⟩
def F.STW_IN_RX_NEXT_HYST : Fld := ⟨.STW_IN_RX_NEXT, 10, 2⟩
def F.STW_IN_RX_NEXT_TERM : Fld := ⟨.STW_IN_RX_NEXT, 12, 1⟩
def F.STW_IN_RX_NEXT_PAIR : Fld := ⟨.STW_IN_RX_NEXT, 13, 1⟩
def F.STW_IN_RX_NEXT_INTERP : Fld := ⟨.STW_IN_RX_NEXT, 16, 8⟩
def F.STW_IN_DSK_DESKEW : Fld := ⟨.STW_IN_DSK, 0, 24⟩
def F.STW_IN_DSK_NEXT_DESKEW : Fld := ⟨.STW_IN_DSK_NEXT, 0, 24⟩
def F.STW_IN_CFG_KIND : Fld := ⟨.STW_IN_CFG, 0, 4⟩
def F.STW_IN_CFG_POL : Fld := ⟨.STW_IN_CFG, 4, 2⟩
def F.STW_IN_CFG_STAT : Fld := ⟨.STW_IN_CFG, 6, 2⟩
def F.STW_IN_CFG_PARTNER : Fld := ⟨.STW_IN_CFG, 8, 6⟩
def F.STW_IN_CFG_END : Fld := ⟨.STW_IN_CFG, 14, 1⟩
def F.STW_IN_CFG_LEN : Fld := ⟨.STW_IN_CFG, 16, 16⟩
def F.STW_IN_CFG_NEXT_KIND : Fld := ⟨.STW_IN_CFG_NEXT, 0, 4⟩
def F.STW_IN_CFG_NEXT_POL : Fld := ⟨.STW_IN_CFG_NEXT, 4, 2⟩
def F.STW_IN_CFG_NEXT_STAT : Fld := ⟨.STW_IN_CFG_NEXT, 6, 2⟩
def F.STW_IN_CFG_NEXT_PARTNER : Fld := ⟨.STW_IN_CFG_NEXT, 8, 6⟩
def F.STW_IN_CFG_NEXT_END : Fld := ⟨.STW_IN_CFG_NEXT, 14, 1⟩
def F.STW_IN_CFG_NEXT_LEN : Fld := ⟨.STW_IN_CFG_NEXT, 16, 16⟩
def F.STW_IN_CMD_CMD : Fld := ⟨.STW_IN_CMD, 0, 3⟩
def F.STW_IN_STAT_STATE : Fld := ⟨.STW_IN_STAT, 0, 3⟩
def F.STW_IN_STAT_OWNED : Fld := ⟨.STW_IN_STAT, 3, 1⟩
def F.STW_IN_STAT_OWNER : Fld := ⟨.STW_IN_STAT, 4, 4⟩
def F.STW_IN_STAT_CMDST : Fld := ⟨.STW_IN_STAT, 8, 8⟩
def F.STW_IN_STAT_TDC : Fld := ⟨.STW_IN_STAT, 16, 7⟩
def F.STW_IN_STAT_LEVEL : Fld := ⟨.STW_IN_STAT, 23, 1⟩
def F.STW_IN_LAST_WORD : Fld := ⟨.STW_IN_LAST, 0, 32⟩
def F.STW_TRG_CFG_KIND : Fld := ⟨.STW_TRG_CFG, 0, 3⟩
def F.STW_TRG_CFG_SRC : Fld := ⟨.STW_TRG_CFG, 4, 6⟩
def F.STW_TRG_CFG_POL : Fld := ⟨.STW_TRG_CFG, 10, 2⟩
def F.STW_TRG_CFG_QUAL : Fld := ⟨.STW_TRG_CFG, 12, 1⟩
def F.STW_TRG_CFG_AUTO : Fld := ⟨.STW_TRG_CFG, 13, 1⟩
def F.STW_TRG_CFG_COUNT : Fld := ⟨.STW_TRG_CFG, 16, 8⟩
def F.STW_TRG_MIN_LIMIT : Fld := ⟨.STW_TRG_MIN, 0, 32⟩
def F.STW_TRG_MAX_LIMIT : Fld := ⟨.STW_TRG_MAX, 0, 32⟩
def F.STW_TRG_OUT_LINE_EN : Fld := ⟨.STW_TRG_OUT, 0, 1⟩
def F.STW_TRG_OUT_LINE : Fld := ⟨.STW_TRG_OUT, 1, 3⟩
def F.STW_TRG_OUT_WIDTH : Fld := ⟨.STW_TRG_OUT, 4, 8⟩
def F.STW_TRG_OUT_CTI_EN : Fld := ⟨.STW_TRG_OUT, 12, 1⟩
def F.STW_TRG_OUT_CTI_CH : Fld := ⟨.STW_TRG_OUT, 13, 4⟩
def F.STW_TRG_CMD_CMD : Fld := ⟨.STW_TRG_CMD, 0, 2⟩
def F.STW_TRG_STAT_STATE : Fld := ⟨.STW_TRG_STAT, 0, 2⟩
def F.STW_TRG_STAT_CMDST : Fld := ⟨.STW_TRG_STAT, 8, 8⟩
def F.STW_TRG_STAT_FIRES : Fld := ⟨.STW_TRG_STAT, 16, 16⟩
def F.STW_TRG_TIME_LO_TB : Fld := ⟨.STW_TRG_TIME_LO, 0, 32⟩
def F.STW_TRG_TIME_HI_TB : Fld := ⟨.STW_TRG_TIME_HI, 0, 32⟩
def F.STW_CAL_CFG_SLOT : Fld := ⟨.STW_CAL_CFG, 0, 8⟩
def F.STW_CAL_CMD_CMD : Fld := ⟨.STW_CAL_CMD, 0, 2⟩
def F.STW_CAL_STAT_ROT_W : Fld := ⟨.STW_CAL_STAT, 0, 1⟩
def F.STW_CAL_STAT_ROT_E : Fld := ⟨.STW_CAL_STAT, 1, 1⟩
def F.STW_CAL_STAT_SPARES_W : Fld := ⟨.STW_CAL_STAT, 2, 2⟩
def F.STW_CAL_STAT_SPARES_E : Fld := ⟨.STW_CAL_STAT, 4, 2⟩
def F.STW_CAL_STAT_CMDST : Fld := ⟨.STW_CAL_STAT, 8, 8⟩
def F.STW_CAL_STAT_SKIPPED : Fld := ⟨.STW_CAL_STAT, 16, 16⟩
def F.STW_SINK_SINK : Fld := ⟨.STW_SINK, 0, 2⟩
def F.STW_SINK_TRIGPKT : Fld := ⟨.STW_SINK, 2, 1⟩
def F.STW_RING_STACK : Fld := ⟨.STW_RING, 0, 2⟩
def F.STW_RING_FIRST : Fld := ⟨.STW_RING, 2, 7⟩
def F.STW_RING_COUNT : Fld := ⟨.STW_RING, 9, 7⟩
def F.STW_RING_WR_ENTRY : Fld := ⟨.STW_RING_WR, 0, 31⟩
def F.STW_RING_WR_WRAPPED : Fld := ⟨.STW_RING_WR, 31, 1⟩
def F.STW_LOST_COUNT : Fld := ⟨.STW_LOST, 0, 32⟩
def F.STW_LINE_LEVEL : Fld := ⟨.STW_LINE, 0, 8⟩
def F.STW_LINE_DRIVE : Fld := ⟨.STW_LINE, 8, 8⟩
def F.STW_TB_CMD_LATCH : Fld := ⟨.STW_TB_CMD, 0, 1⟩
def F.STW_TB_LO_TB : Fld := ⟨.STW_TB_LO, 0, 32⟩
def F.STW_TB_HI_TB : Fld := ⟨.STW_TB_HI, 0, 32⟩
def F.STW_TB_NS_NS : Fld := ⟨.STW_TB_NS, 0, 30⟩
def F.STW_TB_SEC_LO_SEC : Fld := ⟨.STW_TB_SEC_LO, 0, 32⟩
def F.STW_TB_SEC_HI_SEC : Fld := ⟨.STW_TB_SEC_HI, 0, 32⟩
def F.STW_TDC_ROLE : Fld := ⟨.STW_TDC, 0, 2⟩
def F.STW_TDC_INPUT : Fld := ⟨.STW_TDC, 2, 6⟩
def F.STW_TDC_DRIFT : Fld := ⟨.STW_TDC, 8, 8⟩
def F.STW_TDC_AGE : Fld := ⟨.STW_TDC, 16, 16⟩
def F.XOT_CFG_MODE : Fld := ⟨.XOT_CFG, 0, 2⟩
def F.XOT_CFG_WIDTH : Fld := ⟨.XOT_CFG, 4, 5⟩
def F.XOT_CFG_TMARK : Fld := ⟨.XOT_CFG, 9, 1⟩
def F.XOT_STAT_OWNER : Fld := ⟨.XOT_STAT, 0, 4⟩
def F.XOT_STAT_OWNED : Fld := ⟨.XOT_STAT, 4, 1⟩
def F.XOT_STAT_MODE : Fld := ⟨.XOT_STAT, 5, 2⟩
def F.XOT_STAT_UPSTREAM : Fld := ⟨.XOT_STAT, 7, 1⟩
def F.XOT_STAT_DIST : Fld := ⟨.XOT_STAT, 8, 8⟩
def F.XOT_STAT_RFMAX : Fld := ⟨.XOT_STAT, 16, 9⟩
def F.XOT_PEER_MEMBER : Fld := ⟨.XOT_PEER, 0, 8⟩
def F.XOT_PEER_LEVEL : Fld := ⟨.XOT_PEER, 8, 8⟩
def F.XOT_PEER_EPOCH : Fld := ⟨.XOT_PEER, 16, 16⟩
def F.XOT_VEC_STAT_LATE : Fld := ⟨.XOT_VEC_STAT, 0, 16⟩
def F.XOT_VEC_STAT_BADRET : Fld := ⟨.XOT_VEC_STAT, 16, 16⟩
def F.XOT_CH_STAT_DESYNC : Fld := ⟨.XOT_CH_STAT, 0, 1⟩
def F.XOT_CH_STAT_LATE : Fld := ⟨.XOT_CH_STAT, 16, 16⟩
def F.XOT_NAME_TAG : Fld := ⟨.XOT_NAME, 0, 32⟩
def F.LNK_STAT_STATE : Fld := ⟨.LNK_STAT, 0, 3⟩
def F.LNK_STAT_PHASE : Fld := ⟨.LNK_STAT, 3, 3⟩
def F.LNK_STAT_NLANES : Fld := ⟨.LNK_STAT, 6, 5⟩
def F.LNK_STAT_SPARE_USED : Fld := ⟨.LNK_STAT, 11, 1⟩
def F.LNK_STAT_BEHIND : Fld := ⟨.LNK_STAT, 12, 1⟩
def F.LNK_STAT_CMDST : Fld := ⟨.LNK_STAT, 16, 8⟩
def F.LNK_STAT_FMAX_OK : Fld := ⟨.LNK_STAT, 24, 1⟩
def F.LNK_CFG_ERR_THRESH : Fld := ⟨.LNK_CFG, 0, 8⟩
def F.LNK_CFG_NAP_EN : Fld := ⟨.LNK_CFG, 8, 1⟩
def F.LNK_CFG_NAP_IDLE : Fld := ⟨.LNK_CFG, 16, 16⟩
def F.LNK_CFG_NEXT_ERR_THRESH : Fld := ⟨.LNK_CFG_NEXT, 0, 8⟩
def F.LNK_CFG_NEXT_NAP_EN : Fld := ⟨.LNK_CFG_NEXT, 8, 1⟩
def F.LNK_CFG_NEXT_NAP_IDLE : Fld := ⟨.LNK_CFG_NEXT, 16, 16⟩
def F.LNK_CMD_CMD : Fld := ⟨.LNK_CMD, 0, 4⟩
def F.LNK_CMD_KIND : Fld := ⟨.LNK_CMD, 4, 2⟩
def F.LNK_CMD_LANE : Fld := ⟨.LNK_CMD, 8, 5⟩
def F.LNK_CNT_BADGRP : Fld := ⟨.LNK_CNT, 0, 16⟩
def F.LNK_CNT_RESENT : Fld := ⟨.LNK_CNT, 16, 16⟩
def F.LNK_LAT_DATA : Fld := ⟨.LNK_LAT, 0, 12⟩
def F.LNK_LAT_CTL : Fld := ⟨.LNK_LAT, 12, 8⟩
def F.LNK_LAT_FMAX : Fld := ⟨.LNK_LAT, 20, 12⟩
def F.LNK_LANE_STATE : Fld := ⟨.LNK_LANE, 0, 2⟩
def F.LNK_LANE_LOCK : Fld := ⟨.LNK_LANE, 2, 1⟩
def F.LNK_LANE_POS : Fld := ⟨.LNK_LANE, 8, 5⟩
def F.LNK_ERR_COUNT : Fld := ⟨.LNK_ERR, 0, 32⟩
def F.NET_LINK_CFG_FLOOR : Fld := ⟨.NET_LINK_CFG, 0, 9⟩
def F.DSP_DISPLACED_COUNT : Fld := ⟨.DSP_DISPLACED, 0, 32⟩
def F.DSP_BADDESC_COUNT : Fld := ⟨.DSP_BADDESC, 0, 32⟩
def F.DSP_TICK_CFG_KIND : Fld := ⟨.DSP_TICK_CFG, 0, 3⟩
def F.DSP_TICK_CFG_SEL : Fld := ⟨.DSP_TICK_CFG, 4, 4⟩
def F.DSP_TICK_PERIOD_PERIOD : Fld := ⟨.DSP_TICK_PERIOD, 0, 32⟩
def F.DSP_TICK_CNT_COUNT : Fld := ⟨.DSP_TICK_CNT, 0, 32⟩
def F.DSP_TICK_STAT_OCC : Fld := ⟨.DSP_TICK_STAT, 0, 13⟩
def F.DSP_TICK_STAT_CMDST : Fld := ⟨.DSP_TICK_STAT, 16, 8⟩
def F.DSP_TICK_CMD_SRC : Fld := ⟨.DSP_TICK_CMD, 0, 2⟩
def F.DSP_TICK_CMD_TICK : Fld := ⟨.DSP_TICK_CMD, 8, 1⟩
def F.DSP_CORE_CFG_EN : Fld := ⟨.DSP_CORE_CFG, 0, 1⟩
def F.DSP_DESK_STAT_COUNT : Fld := ⟨.DSP_DESK_STAT, 0, 2⟩
def F.DSP_DESK_STAT_OPEN : Fld := ⟨.DSP_DESK_STAT, 2, 1⟩
def F.DSP_DESK_STAT_WAIT : Fld := ⟨.DSP_DESK_STAT, 3, 1⟩
def F.DSP_DESK_STAT_ELIGIBLE : Fld := ⟨.DSP_DESK_STAT, 4, 1⟩
def F.DSP_DESK_STAT_PRIO0 : Fld := ⟨.DSP_DESK_STAT, 8, 5⟩
def F.DSP_DESK_STAT_PRIO1 : Fld := ⟨.DSP_DESK_STAT, 16, 5⟩
def F.DSP_MTIMECMP_LO_CMP : Fld := ⟨.DSP_MTIMECMP_LO, 0, 32⟩
def F.DSP_MTIMECMP_HI_CMP : Fld := ⟨.DSP_MTIMECMP_HI, 0, 32⟩
def F.DSP_MSIP_MSIP : Fld := ⟨.DSP_MSIP, 0, 1⟩
def F.DSP_Q_CFG_PRIO : Fld := ⟨.DSP_Q_CFG, 0, 5⟩
def F.DSP_Q_CFG_ORDERED : Fld := ⟨.DSP_Q_CFG, 5, 1⟩
def F.DSP_Q_CFG_TICK : Fld := ⟨.DSP_Q_CFG, 6, 2⟩
def F.DSP_Q_CFG_CLUSTERS : Fld := ⟨.DSP_Q_CFG, 8, 8⟩
def F.DSP_Q_CFG_INFLIGHT : Fld := ⟨.DSP_Q_CFG, 16, 6⟩
def F.DSP_Q_CFG_HOME : Fld := ⟨.DSP_Q_CFG, 22, 1⟩
def F.DSP_Q_CFG_OWNER : Fld := ⟨.DSP_Q_CFG, 23, 7⟩
def F.DSP_Q_CFG_NEXT_PRIO : Fld := ⟨.DSP_Q_CFG_NEXT, 0, 5⟩
def F.DSP_Q_CFG_NEXT_ORDERED : Fld := ⟨.DSP_Q_CFG_NEXT, 5, 1⟩
def F.DSP_Q_CFG_NEXT_TICK : Fld := ⟨.DSP_Q_CFG_NEXT, 6, 2⟩
def F.DSP_Q_CFG_NEXT_CLUSTERS : Fld := ⟨.DSP_Q_CFG_NEXT, 8, 8⟩
def F.DSP_Q_CFG_NEXT_INFLIGHT : Fld := ⟨.DSP_Q_CFG_NEXT, 16, 6⟩
def F.DSP_Q_CFG_NEXT_HOME : Fld := ⟨.DSP_Q_CFG_NEXT, 22, 1⟩
def F.DSP_Q_CFG_NEXT_OWNER : Fld := ⟨.DSP_Q_CFG_NEXT, 23, 7⟩
def F.DSP_Q_RING_LO_ADDR : Fld := ⟨.DSP_Q_RING_LO, 5, 27⟩
def F.DSP_Q_RING_HI_ADDR : Fld := ⟨.DSP_Q_RING_HI, 0, 16⟩
def F.DSP_Q_RING_HI_DEPTH_LOG2 : Fld := ⟨.DSP_Q_RING_HI, 16, 5⟩
def F.DSP_Q_HEAD_HEAD : Fld := ⟨.DSP_Q_HEAD, 0, 17⟩
def F.DSP_Q_TAIL_TAIL : Fld := ⟨.DSP_Q_TAIL, 0, 17⟩
def F.DSP_Q_CMD_CMD : Fld := ⟨.DSP_Q_CMD, 0, 3⟩
def F.DSP_Q_STAT_STATE : Fld := ⟨.DSP_Q_STAT, 0, 2⟩
def F.DSP_Q_STAT_COMMIT_PEND : Fld := ⟨.DSP_Q_STAT, 2, 1⟩
def F.DSP_Q_STAT_READY : Fld := ⟨.DSP_Q_STAT, 3, 1⟩
def F.DSP_Q_STAT_RDERR : Fld := ⟨.DSP_Q_STAT, 4, 1⟩
def F.DSP_Q_STAT_CMDST : Fld := ⟨.DSP_Q_STAT, 8, 8⟩
def F.DSP_Q_STAT_INFLIGHT : Fld := ⟨.DSP_Q_STAT, 16, 6⟩
def F.HIF_LINK_STAT_RATE : Fld := ⟨.HIF_LINK_STAT, 0, 3⟩
def F.HIF_LINK_STAT_WIDTH : Fld := ⟨.HIF_LINK_STAT, 3, 5⟩
def F.HIF_LINK_STAT_FLIT : Fld := ⟨.HIF_LINK_STAT, 8, 1⟩
def F.HIF_LINK_STAT_UP : Fld := ⟨.HIF_LINK_STAT, 9, 1⟩
def F.HIF_CFG_PER_VF : Fld := ⟨.HIF_CFG, 0, 6⟩
def F.HIF_WIN_LO_ADDR : Fld := ⟨.HIF_WIN_LO, 28, 4⟩
def F.HIF_WIN_HI_ADDR : Fld := ⟨.HIF_WIN_HI, 0, 16⟩
def F.HIF_VF_OWN_PARTS : Fld := ⟨.HIF_VF_OWN, 0, 16⟩
def F.HIF_VF_MEM_STACK : Fld := ⟨.HIF_VF_MEM, 0, 2⟩
def F.HIF_VF_MEM_FIRST : Fld := ⟨.HIF_VF_MEM, 2, 7⟩
def F.HIF_VF_MEM_COUNT : Fld := ⟨.HIF_VF_MEM, 9, 7⟩
def F.HIF_VF_WIN_LO_ADDR : Fld := ⟨.HIF_VF_WIN_LO, 28, 4⟩
def F.HIF_VF_WIN_HI_ADDR : Fld := ⟨.HIF_VF_WIN_HI, 0, 16⟩
def F.HIF_AP_LO_ADDR : Fld := ⟨.HIF_AP_LO, 12, 20⟩
def F.HIF_AP_HI_ADDR : Fld := ⟨.HIF_AP_HI, 0, 32⟩
def F.HIF_IRQ_ROUTE_VECTOR : Fld := ⟨.HIF_IRQ_ROUTE, 0, 11⟩
def F.HIF_IRQ_ROUTE_TARGET : Fld := ⟨.HIF_IRQ_ROUTE, 16, 6⟩
def F.HIF_IRQ_ROUTE_TGT : Fld := ⟨.HIF_IRQ_ROUTE, 22, 2⟩
def F.HIF_PEVT_EN_EN : Fld := ⟨.HIF_PEVT_EN, 0, 8⟩
def F.HIF_IRQ_PEND_LO_PEND : Fld := ⟨.HIF_IRQ_PEND_LO, 0, 32⟩
def F.HIF_IRQ_PEND_HI_PEND : Fld := ⟨.HIF_IRQ_PEND_HI, 0, 32⟩
def F.HIF_MBX_CFG_MODE : Fld := ⟨.HIF_MBX_CFG, 0, 1⟩
def F.HIF_MBX_CFG_STEP : Fld := ⟨.HIF_MBX_CFG, 16, 12⟩
def F.HIF_MBX_DATA_VALUE : Fld := ⟨.HIF_MBX_DATA, 0, 32⟩
def F.HIF_MBX_XMASK_VALUE : Fld := ⟨.HIF_MBX_XMASK, 0, 32⟩
def F.HIF_MBX_BELL_LO_BELL : Fld := ⟨.HIF_MBX_BELL_LO, 0, 32⟩
def F.HIF_MBX_BELL_HI_BELL : Fld := ⟨.HIF_MBX_BELL_HI, 0, 16⟩
def F.HIF_MBX_STAT_ENTRIES : Fld := ⟨.HIF_MBX_STAT, 0, 5⟩
def F.HIF_MBX_STAT_CMDST : Fld := ⟨.HIF_MBX_STAT, 8, 8⟩
def F.HIF_MBX_STAT_STALE : Fld := ⟨.HIF_MBX_STAT, 16, 16⟩
def F.HIF_QIRQ_VECTOR : Fld := ⟨.HIF_QIRQ, 0, 11⟩
def F.HIF_QIRQ_FN : Fld := ⟨.HIF_QIRQ, 16, 6⟩
def F.HIF_QIRQ_EN : Fld := ⟨.HIF_QIRQ, 22, 1⟩
def F.NET_TN_CFG_TMO : Fld := ⟨.NET_TN_CFG, 0, 16⟩
def F.NET_TN_ERR_TIMEOUT : Fld := ⟨.NET_TN_ERR, 0, 16⟩
def F.NET_TN_ERR_DROPPED : Fld := ⟨.NET_TN_ERR, 16, 16⟩
def F.NET_TN_RT_SEL_IFACE : Fld := ⟨.NET_TN_RT_SEL, 0, 7⟩
def F.NET_TN_RT_SEL_DEST : Fld := ⟨.NET_TN_RT_SEL, 8, 7⟩
def F.NET_TN_RT_DATA_ROUTE : Fld := ⟨.NET_TN_RT_DATA, 0, 24⟩
def F.NET_TN_RT_DATA_HOPS : Fld := ⟨.NET_TN_RT_DATA, 24, 4⟩
def F.NET_TN_RT_DATA_GW : Fld := ⟨.NET_TN_RT_DATA, 28, 1⟩
def F.NET_TN_RT_DATA_VALID : Fld := ⟨.NET_TN_RT_DATA, 31, 1⟩
def F.TIM_NOW_0_FRAC : Fld := ⟨.TIM_NOW_0, 0, 16⟩
def F.TIM_NOW_1_NS : Fld := ⟨.TIM_NOW_1, 0, 30⟩
def F.TIM_NOW_2_SEC : Fld := ⟨.TIM_NOW_2, 0, 32⟩
def F.TIM_NOW_3_SEC : Fld := ⟨.TIM_NOW_3, 0, 16⟩
def F.TIM_STAT_STATE : Fld := ⟨.TIM_STAT, 0, 2⟩
def F.TIM_STAT_SLEWING : Fld := ⟨.TIM_STAT, 2, 1⟩
def F.TIM_STAT_JUMP : Fld := ⟨.TIM_STAT, 3, 1⟩
def F.TIM_STAT_CMDST : Fld := ⟨.TIM_STAT, 8, 8⟩
def F.TIM_CMD_CMD : Fld := ⟨.TIM_CMD, 0, 2⟩
def F.TIM_OFS_0_FRAC : Fld := ⟨.TIM_OFS_0, 0, 16⟩
def F.TIM_OFS_0_NEG : Fld := ⟨.TIM_OFS_0, 31, 1⟩
def F.TIM_OFS_1_NS : Fld := ⟨.TIM_OFS_1, 0, 30⟩
def F.TIM_OFS_2_SEC : Fld := ⟨.TIM_OFS_2, 0, 32⟩
def F.TIM_OFS_3_SEC : Fld := ⟨.TIM_OFS_3, 0, 16⟩
def F.TIM_RATE_RATE : Fld := ⟨.TIM_RATE, 0, 32⟩
def F.TIM_CFG_JUMP : Fld := ⟨.TIM_CFG, 0, 20⟩
def F.TIM_CFG_SLEW : Fld := ⟨.TIM_CFG, 20, 9⟩
def F.TIM_EVT_EVT : Fld := ⟨.TIM_EVT, 0, 7⟩
def F.TIM_EVT_EN_EVT : Fld := ⟨.TIM_EVT_EN, 0, 7⟩
def F.TIM_ETH_CFG_EN : Fld := ⟨.TIM_ETH_CFG, 0, 1⟩
def F.TIM_ETH_CFG_ONESTEP : Fld := ⟨.TIM_ETH_CFG, 1, 1⟩
def F.TIM_ETH_CFG_TXLAT : Fld := ⟨.TIM_ETH_CFG, 4, 12⟩
def F.TIM_ETH_CFG_RXLAT : Fld := ⟨.TIM_ETH_CFG, 16, 12⟩
def F.TIM_TXTS_0_SEQID : Fld := ⟨.TIM_TXTS_0, 0, 16⟩
def F.TIM_TXTS_0_MSGTYPE : Fld := ⟨.TIM_TXTS_0, 16, 4⟩
def F.TIM_TXTS_0_LEVEL : Fld := ⟨.TIM_TXTS_0, 20, 7⟩
def F.TIM_TXTS_0_LOST : Fld := ⟨.TIM_TXTS_0, 27, 4⟩
def F.TIM_TXTS_0_VALID : Fld := ⟨.TIM_TXTS_0, 31, 1⟩
def F.TIM_TXTS_1_NS : Fld := ⟨.TIM_TXTS_1, 0, 30⟩
def F.TIM_TXTS_2_SEC : Fld := ⟨.TIM_TXTS_2, 0, 32⟩
def F.TIM_TXTS_3_SEC : Fld := ⟨.TIM_TXTS_3, 0, 16⟩
def F.TIM_TXTS_3_FRAC : Fld := ⟨.TIM_TXTS_3, 16, 16⟩
def F.TIM_PTM_CMD_TRIGGER : Fld := ⟨.TIM_PTM_CMD, 0, 1⟩
def F.TIM_PTM_CFG_PERIOD : Fld := ⟨.TIM_PTM_CFG, 0, 16⟩
def F.TIM_PTM_STAT_VALID : Fld := ⟨.TIM_PTM_STAT, 0, 1⟩
def F.TIM_PTM_STAT_BUSY : Fld := ⟨.TIM_PTM_STAT, 1, 1⟩
def F.TIM_PTM_STAT_STEPPED : Fld := ⟨.TIM_PTM_STAT, 2, 1⟩
def F.TIM_PTM_STAT_CMDST : Fld := ⟨.TIM_PTM_STAT, 8, 8⟩
def F.TIM_PTM_T1_LO_VALUE : Fld := ⟨.TIM_PTM_T1_LO, 0, 32⟩
def F.TIM_PTM_T1_HI_VALUE : Fld := ⟨.TIM_PTM_T1_HI, 0, 32⟩
def F.TIM_PTM_T4_LO_VALUE : Fld := ⟨.TIM_PTM_T4_LO, 0, 32⟩
def F.TIM_PTM_T4_HI_VALUE : Fld := ⟨.TIM_PTM_T4_HI, 0, 32⟩
def F.TIM_PTM_MST_LO_VALUE : Fld := ⟨.TIM_PTM_MST_LO, 0, 32⟩
def F.TIM_PTM_MST_HI_VALUE : Fld := ⟨.TIM_PTM_MST_HI, 0, 32⟩
def F.TIM_PTM_PDLY_VALUE : Fld := ⟨.TIM_PTM_PDLY, 0, 32⟩
def F.TIM_CMK_MARK_VALUE : Fld := ⟨.TIM_CMK_MARK, 0, 32⟩
def F.TIM_CMK_ARR_LO_VALUE : Fld := ⟨.TIM_CMK_ARR_LO, 0, 32⟩
def F.TIM_CMK_ARR_HI_VALUE : Fld := ⟨.TIM_CMK_ARR_HI, 0, 32⟩
def F.TIM_CMK_OW_VALUE : Fld := ⟨.TIM_CMK_OW, 0, 32⟩
def F.DBG_MBX_CTL_GO : Fld := ⟨.DBG_MBX_CTL, 0, 1⟩
def F.DBG_MBX_CTL_LEN : Fld := ⟨.DBG_MBX_CTL, 16, 11⟩
def F.DBG_MBX_STAT_BUSY : Fld := ⟨.DBG_MBX_STAT, 0, 1⟩
def F.DBG_MBX_STAT_DONE : Fld := ⟨.DBG_MBX_STAT, 1, 1⟩
def F.DBG_MBX_STAT_ONLINE : Fld := ⟨.DBG_MBX_STAT, 2, 1⟩
def F.DBG_MBX_STAT_CMDST : Fld := ⟨.DBG_MBX_STAT, 8, 8⟩
def F.DBG_MBX_STAT_RLEN : Fld := ⟨.DBG_MBX_STAT, 16, 11⟩
def F.DBG_MBX_STAT_BADFRM : Fld := ⟨.DBG_MBX_STAT, 27, 5⟩
def F.DBG_MBX_REQ_BYTES : Fld := ⟨.DBG_MBX_REQ, 0, 32⟩
def F.DBG_MBX_RSP_BYTES : Fld := ⟨.DBG_MBX_RSP, 0, 32⟩
def F.DBG_CORE_STAT_STATE : Fld := ⟨.DBG_CORE_STAT, 0, 2⟩
def F.DBG_CORE_STAT_DEFER : Fld := ⟨.DBG_CORE_STAT, 2, 1⟩
def F.DBG_CORE_STAT_MPRIV : Fld := ⟨.DBG_CORE_STAT, 3, 1⟩
def F.DBG_CORE_STAT_CAUSE : Fld := ⟨.DBG_CORE_STAT, 4, 4⟩
def F.DBG_CORE_STAT_CMP : Fld := ⟨.DBG_CORE_STAT, 8, 3⟩
def F.DBG_CORE_STAT_ONRESET : Fld := ⟨.DBG_CORE_STAT, 11, 1⟩
def F.DBG_CORE_STAT_TRC : Fld := ⟨.DBG_CORE_STAT, 16, 2⟩
def F.DBG_CTI_CORE_OUT : Fld := ⟨.DBG_CTI_CORE, 0, 16⟩
def F.DBG_CTI_CORE_IN : Fld := ⟨.DBG_CTI_CORE, 16, 16⟩
def F.DBG_CTI_FRZ_IN : Fld := ⟨.DBG_CTI_FRZ, 0, 16⟩
def F.DBG_CTI_PULSE_CHAN : Fld := ⟨.DBG_CTI_PULSE, 0, 16⟩
def F.DBG_FUN_CFG_SINK : Fld := ⟨.DBG_FUN_CFG, 0, 2⟩
def F.DBG_FUN_CFG_STACK : Fld := ⟨.DBG_FUN_CFG, 2, 2⟩
def F.DBG_FUN_CFG_FIRST : Fld := ⟨.DBG_FUN_CFG, 4, 7⟩
def F.DBG_FUN_CFG_COUNT : Fld := ⟨.DBG_FUN_CFG, 11, 7⟩
def F.DBG_FUN_WR_LINE : Fld := ⟨.DBG_FUN_WR, 0, 31⟩
def F.DBG_FUN_WR_WRAPPED : Fld := ⟨.DBG_FUN_WR, 31, 1⟩
def F.DBG_FUN_LOST_COUNT : Fld := ⟨.DBG_FUN_LOST, 0, 32⟩
def F.DBG_HP_STAT_ACTIVE : Fld := ⟨.DBG_HP_STAT, 0, 1⟩
def F.DBG_HP_STAT_SCOPE : Fld := ⟨.DBG_HP_STAT, 1, 3⟩
def F.DBG_HP_STAT_PARTS : Fld := ⟨.DBG_HP_STAT, 16, 16⟩
def F.DBG_DWDOG_PAUSE : Fld := ⟨.DBG_DWDOG, 0, 1⟩
def F.PRC_PROC_STAT_STATE : Fld := ⟨.PRC_PROC_STAT, 0, 3⟩
def F.PRC_PROC_STAT_HB_T : Fld := ⟨.PRC_PROC_STAT, 3, 1⟩
def F.PRC_PROC_STAT_HB_S : Fld := ⟨.PRC_PROC_STAT, 4, 1⟩
def F.PRC_PROC_STAT_RESULT : Fld := ⟨.PRC_PROC_STAT, 8, 8⟩
def F.PRC_PROC_STAT_CMDST : Fld := ⟨.PRC_PROC_STAT, 16, 8⟩
def F.PRC_PROC_CMD_CMD : Fld := ⟨.PRC_PROC_CMD, 0, 2⟩
def F.PRC_PROC_CMD_PROC : Fld := ⟨.PRC_PROC_CMD, 2, 1⟩
def F.PRC_PROC_SRC_LO_VALUE : Fld := ⟨.PRC_PROC_SRC_LO, 0, 32⟩
def F.PRC_PROC_SRC_HI_VALUE : Fld := ⟨.PRC_PROC_SRC_HI, 0, 32⟩
def F.PRC_PROC_LEN_VALUE : Fld := ⟨.PRC_PROC_LEN, 0, 32⟩
def F.PRC_HM_CFG_POLICY : Fld := ⟨.PRC_HM_CFG, 0, 1⟩
def F.PRC_HM_CFG_WDOG_RESET : Fld := ⟨.PRC_HM_CFG, 1, 1⟩
def F.PRC_HM_STAT_ACTIVE : Fld := ⟨.PRC_HM_STAT, 0, 1⟩
def F.PRC_HM_STAT_TAKEOVERS : Fld := ⟨.PRC_HM_STAT, 16, 16⟩
def F.PRC_CLS_SUB_CMD_CMD : Fld := ⟨.PRC_CLS_SUB_CMD, 0, 2⟩
def F.PRC_CLS_SUB_CMD_CLASS : Fld := ⟨.PRC_CLS_SUB_CMD, 16, 8⟩
def F.PRC_CLS_SUB_STAT_FOLLOW : Fld := ⟨.PRC_CLS_SUB_STAT, 0, 1⟩
def F.PRC_CLS_SUB_STAT_READY : Fld := ⟨.PRC_CLS_SUB_STAT, 1, 1⟩
def F.PRC_CLS_SUB_STAT_HELD : Fld := ⟨.PRC_CLS_SUB_STAT, 2, 1⟩
def F.PRC_CLS_SUB_STAT_CANCELLED : Fld := ⟨.PRC_CLS_SUB_STAT, 3, 1⟩
def F.PRC_CLS_SUB_STAT_CMDST : Fld := ⟨.PRC_CLS_SUB_STAT, 8, 8⟩
def F.PRC_CLS_SUB_STAT_CLASS : Fld := ⟨.PRC_CLS_SUB_STAT, 16, 8⟩
def F.PRC_UNIT_CMD_CMD : Fld := ⟨.PRC_UNIT_CMD, 0, 2⟩
def F.PRC_UNIT_CMD_KIND : Fld := ⟨.PRC_UNIT_CMD, 2, 4⟩
def F.PRC_UNIT_CMD_UNIT : Fld := ⟨.PRC_UNIT_CMD, 8, 18⟩
def F.PRC_UNIT_STAT_BUSY : Fld := ⟨.PRC_UNIT_STAT, 0, 1⟩
def F.PRC_UNIT_STAT_PASS : Fld := ⟨.PRC_UNIT_STAT, 1, 1⟩
def F.PRC_UNIT_STAT_CMDST : Fld := ⟨.PRC_UNIT_STAT, 8, 8⟩
def F.PRC_RCALL_SEL_KIND : Fld := ⟨.PRC_RCALL_SEL, 0, 4⟩
def F.PRC_RCALL_SEL_UNIT : Fld := ⟨.PRC_RCALL_SEL, 4, 18⟩
def F.PRC_NAME_SEL_KIND : Fld := ⟨.PRC_NAME_SEL, 0, 4⟩
def F.PRC_NAME_SEL_UNIT : Fld := ⟨.PRC_NAME_SEL, 4, 18⟩
def F.PRC_RCALL_WORD : Fld := ⟨.PRC_RCALL, 0, 32⟩
def F.PRC_NAME_DATA_TAG : Fld := ⟨.PRC_NAME_DATA, 0, 32⟩
def F.PRC_THRESH_VALUE : Fld := ⟨.PRC_THRESH, 0, 16⟩
def F.PRC_ECCST_CMD_START : Fld := ⟨.PRC_ECCST_CMD, 0, 1⟩
def F.PRC_ECCST_STAT_BUSY : Fld := ⟨.PRC_ECCST_STAT, 0, 1⟩
def F.PRC_ECCST_STAT_FAILED : Fld := ⟨.PRC_ECCST_STAT, 1, 15⟩
def F.PRC_ECCST_STAT_CMDST : Fld := ⟨.PRC_ECCST_STAT, 16, 8⟩
def F.PRC_REPAIR_EN : Fld := ⟨.PRC_REPAIR, 0, 1⟩
def F.PRC_REPAIR_STACK : Fld := ⟨.PRC_REPAIR, 1, 2⟩
def F.PRC_REPAIR_FIRST : Fld := ⟨.PRC_REPAIR, 3, 7⟩
def F.PRC_REPAIR_COUNT : Fld := ⟨.PRC_REPAIR, 10, 7⟩
def F.PRC_STALE_COUNT : Fld := ⟨.PRC_STALE, 0, 32⟩
def F.PRC_VIOL_STAT_HEAD : Fld := ⟨.PRC_VIOL_STAT, 0, 10⟩
def F.PRC_VIOL_STAT_COUNT : Fld := ⟨.PRC_VIOL_STAT, 10, 22⟩
def F.PRC_RC_STAT_HEAD : Fld := ⟨.PRC_RC_STAT, 0, 10⟩
def F.PRC_RC_STAT_COUNT : Fld := ⟨.PRC_RC_STAT, 10, 22⟩
def F.PRC_VIOL_WORD : Fld := ⟨.PRC_VIOL, 0, 32⟩
def F.PRC_RC_WORD : Fld := ⟨.PRC_RC, 0, 32⟩
def F.RST_CAUSE_SRC : Fld := ⟨.RST_CAUSE, 0, 8⟩
def F.RST_CAUSE_LEVEL : Fld := ⟨.RST_CAUSE, 8, 3⟩
def F.RST_CAUSE_RAIL : Fld := ⟨.RST_CAUSE, 16, 4⟩
def F.RST_SWREQ_LEVEL : Fld := ⟨.RST_SWREQ, 0, 2⟩
def F.RST_DBGREQ_PULSE : Fld := ⟨.RST_DBGREQ, 0, 1⟩
def F.RST_DBGREQ_HOLD : Fld := ⟨.RST_DBGREQ, 1, 1⟩
def F.RST_UNIT_CORE_LO_CORE : Fld := ⟨.RST_UNIT_CORE_LO, 0, 32⟩
def F.RST_UNIT_CORE_HI_CORE : Fld := ⟨.RST_UNIT_CORE_HI, 0, 32⟩
def F.RST_UNIT_CLS_CLS : Fld := ⟨.RST_UNIT_CLS, 0, 32⟩
def F.RST_UNIT_MISC_XOT : Fld := ⟨.RST_UNIT_MISC, 0, 8⟩
def F.RST_UNIT_MISC_HBM : Fld := ⟨.RST_UNIT_MISC, 8, 4⟩
def F.RST_UNIT_MISC_STW : Fld := ⟨.RST_UNIT_MISC, 12, 1⟩
def F.RST_UNIT_MISC_PERIPH : Fld := ⟨.RST_UNIT_MISC, 13, 6⟩
def F.RST_UNIT_STAT_CMDST : Fld := ⟨.RST_UNIT_STAT, 0, 8⟩
def F.RST_PEND_STEP : Fld := ⟨.RST_PEND, 0, 3⟩
def F.RST_PEND_ACTIVE : Fld := ⟨.RST_PEND, 3, 1⟩
def F.RST_PEND_WAIT_CLK : Fld := ⟨.RST_PEND, 4, 1⟩
def F.RST_PEND_WAIT_SRC : Fld := ⟨.RST_PEND, 5, 1⟩
def F.RST_PEND_UNIT : Fld := ⟨.RST_PEND, 6, 1⟩
def F.RST_PEND_DOMAIN : Fld := ⟨.RST_PEND, 16, 9⟩
def F.RST_STRAP_BOOTSEL : Fld := ⟨.RST_STRAP, 0, 3⟩
def F.RST_STRAP_CLKMODE : Fld := ⟨.RST_STRAP, 3, 2⟩
def F.RST_STRAP_CLKTEST_REFUSED : Fld := ⟨.RST_STRAP, 5, 1⟩
def F.RST_CLK_STAT_FAIL : Fld := ⟨.RST_CLK_STAT, 0, 1⟩
def F.RST_CLK_STAT_LAST : Fld := ⟨.RST_CLK_STAT, 8, 9⟩
def F.RST_CLK_STAT_STEP_PLL : Fld := ⟨.RST_CLK_STAT, 17, 1⟩
def F.RST_CLK_CFG_CLKFAIL_RESET : Fld := ⟨.RST_CLK_CFG, 0, 1⟩
def F.RST_CLKGOOD_GOOD : Fld := ⟨.RST_CLKGOOD, 0, 32⟩
def F.RST_RAIL_STAT_GOOD : Fld := ⟨.RST_RAIL_STAT, 0, 11⟩
def F.RST_TEMP_TEMP : Fld := ⟨.RST_TEMP, 0, 8⟩
def F.RST_TEMP_PEAK : Fld := ⟨.RST_TEMP, 8, 8⟩
def F.RST_THR_CFG_STEP : Fld := ⟨.RST_THR_CFG, 0, 8⟩
def F.RST_THR_CFG_PERIOD : Fld := ⟨.RST_THR_CFG, 8, 8⟩
def F.RST_THR_CFG_HYST : Fld := ⟨.RST_THR_CFG, 16, 4⟩
def F.RST_PWR_STAT_STATE : Fld := ⟨.RST_PWR_STAT, 0, 2⟩
def F.RST_PWR_STAT_EXITING : Fld := ⟨.RST_PWR_STAT, 2, 1⟩
def F.RST_PWR_STAT_CMDST : Fld := ⟨.RST_PWR_STAT, 8, 8⟩
def F.RST_PWR_STAT_LIMIT : Fld := ⟨.RST_PWR_STAT, 16, 9⟩
def F.RST_PWR_CMD_CMD : Fld := ⟨.RST_PWR_CMD, 0, 2⟩
def F.RST_PWR_WAKE_EN : Fld := ⟨.RST_PWR_WAKE, 0, 5⟩
def F.RST_DWDOG_CFG_PERIOD : Fld := ⟨.RST_DWDOG_CFG, 0, 16⟩
def F.RST_DWDOG_KICK_KEY : Fld := ⟨.RST_DWDOG_KICK, 0, 8⟩
def F.RST_DWDOG_STAT_REMAIN : Fld := ⟨.RST_DWDOG_STAT, 0, 16⟩
def F.RST_DWDOG_STAT_PAUSED : Fld := ⟨.RST_DWDOG_STAT, 16, 1⟩
def F.RST_DWDOG_STAT_EXPIRED : Fld := ⟨.RST_DWDOG_STAT, 17, 1⟩
def F.LCK_REG_VALUE : Fld := ⟨.LCK_REG, 0, 32⟩
def F.PIO_PIN_CFG_FUNC : Fld := ⟨.PIO_PIN_CFG, 0, 3⟩
def F.PIO_PIN_CFG_DRIVE : Fld := ⟨.PIO_PIN_CFG, 3, 2⟩
def F.PIO_PIN_CFG_SLEW : Fld := ⟨.PIO_PIN_CFG, 5, 1⟩
def F.PIO_PIN_CFG_PULL : Fld := ⟨.PIO_PIN_CFG, 6, 2⟩
def F.PIO_PIN_CFG_KEEPER : Fld := ⟨.PIO_PIN_CFG, 8, 1⟩
def F.PIO_PIN_CFG_OD : Fld := ⟨.PIO_PIN_CFG, 9, 1⟩
def F.PIO_PIN_CFG_SLEEP : Fld := ⟨.PIO_PIN_CFG, 10, 2⟩
def F.PIO_PIN_CFG_LOCKED : Fld := ⟨.PIO_PIN_CFG, 12, 1⟩
def F.PIO_PIN_CFG_RELEASED : Fld := ⟨.PIO_PIN_CFG, 13, 1⟩
def F.PIO_PIN_CFG_SWITCHING : Fld := ⟨.PIO_PIN_CFG, 14, 1⟩
def F.PIO_PIN_CFG_OWNED : Fld := ⟨.PIO_PIN_CFG, 15, 1⟩
def F.PIO_PIN_CFG_OWNER : Fld := ⟨.PIO_PIN_CFG, 16, 4⟩
def F.PIO_PSRC_CLASS : Fld := ⟨.PIO_PSRC, 0, 8⟩
def F.PIO_PSRC_LINE : Fld := ⟨.PIO_PSRC, 8, 9⟩
def F.PIO_PSRC_STEP : Fld := ⟨.PIO_PSRC, 17, 12⟩
def F.PIO_OUT_BITS : Fld := ⟨.PIO_OUT, 0, 32⟩
def F.PIO_OE_BITS : Fld := ⟨.PIO_OE, 0, 32⟩
def F.PIO_IN_LEVEL : Fld := ⟨.PIO_IN, 0, 32⟩
def F.PIO_BANK_STAT_GOOD : Fld := ⟨.PIO_BANK_STAT, 0, 4⟩
def F.PIO_BANK_STAT_V12 : Fld := ⟨.PIO_BANK_STAT, 4, 4⟩
def F.PIO_LOCK_KEY : Fld := ⟨.PIO_LOCK, 0, 8⟩
def F.PIO_LOCK_LOCK : Fld := ⟨.PIO_LOCK, 8, 1⟩
def F.PIO_LOCK_MASK_PINS : Fld := ⟨.PIO_LOCK_MASK, 0, 32⟩
def F.PIO_LOCK_STAT_PINS : Fld := ⟨.PIO_LOCK_STAT, 0, 32⟩
def F.PIO_STAT_CMDST : Fld := ⟨.PIO_STAT, 0, 8⟩
def F.PIO_STAT_LSTEP : Fld := ⟨.PIO_STAT, 8, 2⟩
def F.PIO_STAT_BUSY : Fld := ⟨.PIO_STAT, 10, 1⟩
def F.PIO_FUSE_FIELD : Fld := ⟨.PIO_FUSE, 0, 2⟩
def F.PIO_FUSE_CMD_PIN : Fld := ⟨.PIO_FUSE_CMD, 0, 7⟩
def F.PIO_FUSE_CMD_VALUE : Fld := ⟨.PIO_FUSE_CMD, 8, 2⟩
def F.GLB_ID_FAMILY : Fld := ⟨.GLB_ID, 0, 8⟩
def F.GLB_ID_MEMBER : Fld := ⟨.GLB_ID, 8, 8⟩
def F.GLB_ID_BASE_STEP : Fld := ⟨.GLB_ID, 16, 8⟩
def F.GLB_ID_LID : Fld := ⟨.GLB_ID, 24, 2⟩
def F.GLB_LCS_STATE : Fld := ⟨.GLB_LCS, 0, 2⟩
def F.GLB_LCS_ROM_PHASE : Fld := ⟨.GLB_LCS, 2, 1⟩
def F.GLB_UID_UID : Fld := ⟨.GLB_UID, 0, 32⟩
def F.GLB_CAP_0_LCLASSES : Fld := ⟨.GLB_CAP_0, 0, 9⟩
def F.GLB_CAP_0_PARTS : Fld := ⟨.GLB_CAP_0, 9, 5⟩
def F.GLB_CAP_0_TUTORS : Fld := ⟨.GLB_CAP_0, 14, 7⟩
def F.GLB_CAP_0_XOT : Fld := ⟨.GLB_CAP_0, 21, 4⟩
def F.GLB_CAP_0_STW : Fld := ⟨.GLB_CAP_0, 25, 7⟩
def F.GLB_CAP_1_MAXDEPTH : Fld := ⟨.GLB_CAP_1, 0, 13⟩
def F.GLB_CAP_1_STACKS : Fld := ⟨.GLB_CAP_1, 13, 3⟩
def F.GLB_CAP_1_STACK_GIB : Fld := ⟨.GLB_CAP_1, 16, 8⟩
def F.GLB_CAP_1_BB_16MIB : Fld := ⟨.GLB_CAP_1, 24, 8⟩
def F.DIE_ID_STEP : Fld := ⟨.DIE_ID, 0, 8⟩
def F.DIE_ID_BASE : Fld := ⟨.DIE_ID, 8, 1⟩
def F.GLB_FEATURE_LEVEL_LEVEL : Fld := ⟨.GLB_FEATURE_LEVEL, 0, 8⟩
def F.GLB_FEATURE_LEVEL_MIXED : Fld := ⟨.GLB_FEATURE_LEVEL, 8, 1⟩
def F.GLB_FEATURE_LEVEL_SR128 : Fld := ⟨.GLB_FEATURE_LEVEL, 16, 1⟩
def F.GLB_STEP_TARGET_TARGET : Fld := ⟨.GLB_STEP_TARGET, 0, 9⟩
def F.GLB_STEP_FREQ_FREQ : Fld := ⟨.GLB_STEP_FREQ, 0, 9⟩
def F.GLB_STEP_FREQ_PENDING : Fld := ⟨.GLB_STEP_FREQ, 9, 1⟩
def F.GLB_STEP_FREQ_DERATE : Fld := ⟨.GLB_STEP_FREQ, 16, 9⟩
def F.GLB_DERATE_REASON_SRC : Fld := ⟨.GLB_DERATE_REASON, 0, 3⟩
def F.GLB_DERATE_REASON_UNIT : Fld := ⟨.GLB_DERATE_REASON, 8, 5⟩
def F.GLB_DERATE_REASON_DIR : Fld := ⟨.GLB_DERATE_REASON, 13, 1⟩
def F.GLB_DERATE_REASON_LANES : Fld := ⟨.GLB_DERATE_REASON, 16, 5⟩
def F.GLB_DERATE_REASON_FLOORED : Fld := ⟨.GLB_DERATE_REASON, 24, 1⟩

/-- Every register, in the order of the chapters. -/
def allRegs0 : List Reg :=
  [.CLS_SUB_STATUS, .CLS_SUB_CMD, .CLS_SUB_CMD_STATUS, .CLS_IMEM_CE, .CLS_IMEM_UE, .CLS_SLATE_PE, .CLS_SLATE_SEL, .CLS_SLATE_DATA, .CLS_BP_MAP, .CLS_SEQ_STATUS, .PART_STATE, .PART_CMD, .PART_CMD_STATUS, .PART_CFG, .PART_CFG_NEXT, .PART_TEMPO, .PART_TEMPO_NEXT, .PART_COMMIT, .PART_TEMPO_STAT, .PART_TEMPO_EARLY, .PART_BELL_NUM_LO, .PART_BELL_NUM_HI, .PART_BELL_STAMP_0, .PART_BELL_STAMP_1, .PART_BELL_STAMP_2, .PART_BELL_STAMP_3, .PART_TIN_CFG, .PART_TIN_COUNT, .PART_GEN_CTL, .PART_GEN_START_NS, .PART_GEN_START_SEC_LO, .PART_GEN_START_SEC_HI, .PART_GEN_PERIOD_NS, .PART_GEN_PERIOD_FRAC, .PART_TOUT_CFG, .NET_CAP, .NET_PART_LAT, .NET_CONTENTION, .NET_XPART, .NET_SCHED_CE, .NET_SCHED_UE, .NET_SW_OWN, .NET_SW_VALID, .NET_BR_OWN_WE, .NET_BR_OWN_EW, .NET_BR_VALID, .NET_BR_STAT, .PART_FREEZE_CNT, .PART_FROZEN_CLOCKS_LO, .PART_FROZEN_CLOCKS_HI]

def allRegs1 : List Reg :=
  [.PART_FRZ_STATUS, .PART_FRZ_LAST, .PART_FRZ_LAST_BELL_LO, .PART_FRZ_LAST_BELL_HI, .PART_FRZ_LAST_LEN, .PART_NOTICE, .PART_FRZ_CHAIN, .PART_SCC_LO, .PART_SCC_HI, .BBD_BANK, .BBD_CE, .BBD_UE, .BBD_UE_ADDR_LO, .BBD_UE_ADDR_HI, .BBD_SCRUB_CFG, .BBD_WORD_SEL, .BBD_WORD_STAT, .BBD_PART, .BBD_PCNT, .BBD_PDROP, .BBD_MARCH_CMD, .BBD_MARCH_CFG, .BBD_MARCH_BUF_LO, .BBD_MARCH_BUF_HI, .BBD_MARCH_STATUS, .BBD_MARCH_FAIL, .BBD_RETIRE_CMD, .BBD_RETIRE_STATUS, .HBM_STATUS, .HBM_CE, .HBM_UE, .HBM_LATE, .HBM_BUDGET_LO, .HBM_BUDGET_HI, .HBM_RET_STAT, .HBM_RETIRE_CMD, .HBM_REG_A, .PART_FAULT_ACTION, .PART_FAULT_ACTION_NEXT, .PART_FAULT_HEAD, .PART_FAULT_TAIL, .PART_FAULT_LOST, .PART_LAT_DECL, .PART_LAT_PORT, .PART_LAT_PORT_CTL, .PART_FAULT_LOG, .PART_LAT_ACT, .PART_LDR_CMD, .PART_LDR_ADDR_LO, .PART_LDR_ADDR_HI]

def allRegs2 : List Reg :=
  [.PART_LDR_SIZE_LO, .PART_LDR_SIZE_HI, .PART_LDR_STATUS, .PART_LDR_REPORT_A, .PART_LDR_REPORT_B, .PART_LDR_REPORT_C, .PART_LDR_BYTES_LO, .PART_LDR_BYTES_HI, .PART_LDR_CFG, .PART_LDR_DONE, .PART_LDR_BOOT, .PART_LDR_BOOT_RES, .SEC_KEY_STATUS, .SEC_KEY_CMD, .SEC_KEY_DATA, .SEC_LC_CMD, .SEC_LC_STAT, .SEC_RK_STAT, .SEC_RK_CMD, .SEC_RK_DATA, .SEC_SVN_STAT, .SEC_SVN_CMD, .TRC_PCFG, .TRC_PCFG_NEXT, .TRC_PCMD, .TRC_PSTAT, .TRC_TRG_DES, .TRC_TRG_EXT, .TRC_TRG_ACT, .TRC_TRG_STAT, .TRC_TRG_SEL, .TRC_AREA, .TRC_SNAP_STAT, .TRC_JRN_STAT, .TRC_SIG_WR, .TRC_SIG_LOST, .TRC_REPLAY_STOP_LO, .TRC_REPLAY_STOP_HI, .TRC_REPLAY_STAT, .TRC_SNAP_BELL_LO, .TRC_SNAP_BELL_HI, .TRC_PRB_SEL, .TRC_PRB_DATA, .STW_IN_RX, .STW_IN_RX_NEXT, .STW_IN_DSK, .STW_IN_DSK_NEXT, .STW_IN_CFG, .STW_IN_CFG_NEXT, .STW_IN_CMD]

def allRegs3 : List Reg :=
  [.STW_IN_STAT, .STW_IN_LAST, .STW_TRG_CFG, .STW_TRG_MIN, .STW_TRG_MAX, .STW_TRG_OUT, .STW_TRG_CMD, .STW_TRG_STAT, .STW_TRG_TIME_LO, .STW_TRG_TIME_HI, .STW_CAL_CFG, .STW_CAL_CMD, .STW_CAL_STAT, .STW_SINK, .STW_RING, .STW_RING_WR, .STW_LOST, .STW_LINE, .STW_TB_CMD, .STW_TB_LO, .STW_TB_HI, .STW_TB_NS, .STW_TB_SEC_LO, .STW_TB_SEC_HI, .STW_TDC, .XOT_CFG, .XOT_STAT, .XOT_PEER, .XOT_VEC_STAT, .XOT_CH_STAT, .XOT_NAME, .LNK_STAT, .LNK_CFG, .LNK_CFG_NEXT, .LNK_CMD, .LNK_CNT, .LNK_LAT, .LNK_LANE, .LNK_ERR, .NET_LINK_CFG, .DSP_DISPLACED, .DSP_BADDESC, .DSP_TICK_CFG, .DSP_TICK_PERIOD, .DSP_TICK_CNT, .DSP_TICK_STAT, .DSP_TICK_CMD, .DSP_CORE_CFG, .DSP_DESK_STAT, .DSP_MTIMECMP_LO]

def allRegs4 : List Reg :=
  [.DSP_MTIMECMP_HI, .DSP_MSIP, .DSP_Q_CFG, .DSP_Q_CFG_NEXT, .DSP_Q_RING_LO, .DSP_Q_RING_HI, .DSP_Q_HEAD, .DSP_Q_TAIL, .DSP_Q_CMD, .DSP_Q_STAT, .HIF_LINK_STAT, .HIF_CFG, .HIF_WIN_LO, .HIF_WIN_HI, .HIF_VF_OWN, .HIF_VF_MEM, .HIF_VF_WIN_LO, .HIF_VF_WIN_HI, .HIF_AP_LO, .HIF_AP_HI, .HIF_IRQ_ROUTE, .HIF_PEVT_EN, .HIF_IRQ_PEND_LO, .HIF_IRQ_PEND_HI, .HIF_MBX_CFG, .HIF_MBX_DATA, .HIF_MBX_XMASK, .HIF_MBX_BELL_LO, .HIF_MBX_BELL_HI, .HIF_MBX_STAT, .HIF_QIRQ, .NET_TN_CFG, .NET_TN_ERR, .NET_TN_RT_SEL, .NET_TN_RT_DATA, .TIM_NOW_0, .TIM_NOW_1, .TIM_NOW_2, .TIM_NOW_3, .TIM_STAT, .TIM_CMD, .TIM_OFS_0, .TIM_OFS_1, .TIM_OFS_2, .TIM_OFS_3, .TIM_RATE, .TIM_CFG, .TIM_EVT, .TIM_EVT_EN, .TIM_ETH_CFG]

def allRegs5 : List Reg :=
  [.TIM_TXTS_0, .TIM_TXTS_1, .TIM_TXTS_2, .TIM_TXTS_3, .TIM_PTM_CMD, .TIM_PTM_CFG, .TIM_PTM_STAT, .TIM_PTM_T1_LO, .TIM_PTM_T1_HI, .TIM_PTM_T4_LO, .TIM_PTM_T4_HI, .TIM_PTM_MST_LO, .TIM_PTM_MST_HI, .TIM_PTM_PDLY, .TIM_CMK_MARK, .TIM_CMK_ARR_LO, .TIM_CMK_ARR_HI, .TIM_CMK_OW, .DBG_MBX_CTL, .DBG_MBX_STAT, .DBG_MBX_REQ, .DBG_MBX_RSP, .DBG_CORE_STAT, .DBG_CTI_CORE, .DBG_CTI_FRZ, .DBG_CTI_PULSE, .DBG_FUN_CFG, .DBG_FUN_WR, .DBG_FUN_LOST, .DBG_HP_STAT, .DBG_DWDOG, .PRC_PROC_STAT, .PRC_PROC_CMD, .PRC_PROC_SRC_LO, .PRC_PROC_SRC_HI, .PRC_PROC_LEN, .PRC_HM_CFG, .PRC_HM_STAT, .PRC_CLS_SUB_CMD, .PRC_CLS_SUB_STAT, .PRC_UNIT_CMD, .PRC_UNIT_STAT, .PRC_RCALL_SEL, .PRC_NAME_SEL, .PRC_RCALL, .PRC_NAME_DATA, .PRC_THRESH, .PRC_ECCST_CMD, .PRC_ECCST_STAT, .PRC_REPAIR]

def allRegs6 : List Reg :=
  [.PRC_STALE, .PRC_VIOL_STAT, .PRC_RC_STAT, .PRC_VIOL, .PRC_RC, .RST_CAUSE, .RST_SWREQ, .RST_DBGREQ, .RST_UNIT_CORE_LO, .RST_UNIT_CORE_HI, .RST_UNIT_CLS, .RST_UNIT_MISC, .RST_UNIT_STAT, .RST_PEND, .RST_STRAP, .RST_CLK_STAT, .RST_CLK_CFG, .RST_CLKGOOD, .RST_RAIL_STAT, .RST_TEMP, .RST_THR_CFG, .RST_PWR_STAT, .RST_PWR_CMD, .RST_PWR_WAKE, .RST_DWDOG_CFG, .RST_DWDOG_KICK, .RST_DWDOG_STAT, .LCK_REG, .PIO_PIN_CFG, .PIO_PSRC, .PIO_OUT, .PIO_OE, .PIO_IN, .PIO_BANK_STAT, .PIO_LOCK, .PIO_LOCK_MASK, .PIO_LOCK_STAT, .PIO_STAT, .PIO_FUSE, .PIO_FUSE_CMD, .GLB_ID, .GLB_LCS, .GLB_UID, .GLB_CAP_0, .GLB_CAP_1, .DIE_ID, .GLB_FEATURE_LEVEL, .GLB_STEP_TARGET, .GLB_STEP_FREQ, .GLB_DERATE_REASON]

def allRegs : List Reg :=
  allRegs0 ++ allRegs1 ++ allRegs2 ++ allRegs3 ++ allRegs4 ++ allRegs5 ++ allRegs6

/-- The value of a field in a word. -/
def Fld.of (f : Fld) (w : Word) : Nat := w.toNat / 2 ^ f.lo % 2 ^ f.w

/-- A word with the field set to `v`, taken modulo the field's width. -/
def Fld.put (f : Fld) (w : Word) (v : Nat) : Word :=
  BitVec.ofNat 32 (w.toNat - f.of w * 2 ^ f.lo + v % 2 ^ f.w * 2 ^ f.lo)

/-- The number of instances of a register. -/
def Reg.count (r : Reg) : Nat :=
  r.window.2.foldl (fun n d => n * d.2) (if r.isLink then 68 else 1)


end Sys2Proof
end

