-- ==== Sys2Proof/Machine/Store.lean ====
section
/-! DEFINITION. Operations on sparse stores: lists of (key, value) with strictly rising keys, in which no entry equals
what an unlisted key reads as. -/
namespace Sys2Proof

/-- The entry of key `k`, if it is listed. -/
def Store.find {α : Type} (m : Store α) (k : Nat) : Option α :=
  match m with
  | [] => none
  | (k', v) :: r => if k = k' then some v else Store.find r k

/-- What key `k` reads as, where `d` is what an unlisted key reads as. -/
def Store.get {α : Type} (d : α) (m : Store α) (k : Nat) : α := (Store.find m k).getD d

/-- Put an entry in its place, replacing one of the same key. -/
def Store.put {α : Type} (k : Nat) (v : α) (m : Store α) : Store α :=
  match m with
  | [] => [(k, v)]
  | (k', v') :: r =>
    if k < k' then (k, v) :: (k', v') :: r
    else if k = k' then (k, v) :: r
    else (k', v') :: Store.put k v r

/-- Remove what is listed for key `k`. -/
def Store.del {α : Type} (k : Nat) (m : Store α) : Store α := m.filter fun e => decide (e.1 ≠ k)

/-- Write `v` at `k`, where `d` is what an unlisted `k` reads as: writing `d` removes the entry. -/
def Store.set {α : Type} [DecidableEq α] (d : α) (k : Nat) (v : α) (m : Store α) : Store α :=
  if v = d then Store.del k m else Store.put k v m

/-- Remove the entries of the keys from `lo` up to, not including, `hi`. -/
def Store.clear {α : Type} (lo hi : Nat) (m : Store α) : Store α :=
  m.filter (fun e => decide (e.1 < lo) || decide (hi ≤ e.1))

/-- The entries of the keys from `lo` up to, not including, `hi`. -/
def Store.range {α : Type} (lo hi : Nat) (m : Store α) : List (Nat × α) :=
  m.filter (fun e => decide (lo ≤ e.1) && decide (e.1 < hi))

/-- Copy the entries of `n` keys from `src` on to `dst` on, from one store into another. -/
def Store.copy {α : Type} (src dst n : Nat) (a b : Store α) : Store α :=
  (Store.range src (src + n) a).foldl (fun m e => Store.put (e.1 - src + dst) e.2 m) (Store.clear dst (dst + n) b)

/-- The canonical form, where `d` gives what each unlisted key reads as: keys strictly rising, no entry at its default. -/
def Store.wf {α : Type} [DecidableEq α] (d : Nat → α) : Store α → Bool
  | [] => true
  | [(k, v)] => decide (v ≠ d k)
  | (k, v) :: (k', v') :: r => decide (v ≠ d k) && decide (k < k') && Store.wf d ((k', v') :: r)

end Sys2Proof
end

