-- ==== Sys2Proof/Machine/State.lean ====
section
/-! DEFINITION. The state of the D9 as plain data, and the state after reset. Registers stand in `State.regs`; the records
here hold what the spec gives the machine besides its registers. -/
namespace Sys2Proof
namespace Machine

/-! ### Boolean processors (chapter "Boolean processors and slates") -/

/-- A slate entry: value rail, unknown rail, parity bit (R40, Table BP-6). -/
structure SlateEntry where
  v : Bool := false
  u : Bool := false
  p : Bool := false
  deriving DecidableEq, Repr

/-- A timetable word, with the number of wrong bits in its low and its high SEC-DED code word: 0 none, 1 correctable,
2 or more uncorrectable (R50). -/
structure ImemWord where
  word : BitVec 64 := 0
  lo : Nat := 0
  hi : Nat := 0
  deriving DecidableEq, Repr

/-- A schedule-memory or memory-table entry with the number of its wrong bits (R109). -/
structure SchedEntry where
  bits : Nat := 0
  err : Nat := 0
  deriving DecidableEq, Repr

/-- The memory return register of a class: 64 value bits and one unknown flag per byte (R46). -/
structure RetReg where
  val : BitVec 64 := 0
  unk : BitVec 8 := 0xFF
  deriving DecidableEq, Repr

/-- A BP follow of one logical class (R53-R57); the register-visible part stands in CLS_SUB_STATUS. -/
structure Follow where
  /-- FOLLOW copy of timetable words still in progress. -/
  copying : Bool := false
  /-- The follow has been active since step 0 of the bell in progress. -/
  wholeBell : Bool := false
  /-- One complete bell has been followed. -/
  covered : Bool := false
  /-- Entries the sweep of never-written entries has still to copy (R53, step 3). -/
  sweep : List Nat := []
  /-- A held COMMIT was present when gap 0 of this gap began (R65). -/
  sampled : Bool := false
  deriving DecidableEq, Repr

/-- The Boolean arrays. Physical class 33 x die + c; physical BP 0-527 in a class; slate and timetable key
(528 x class + BP) x 4096 + address. -/
structure BpState where
  slate : Store SlateEntry := []
  /-- Start-value fill (R189) of slate half 2 x physical class + half: true, unlisted entries are X; false, 0. -/
  slateX : Store Bool := []
  shadow : Store SlateEntry := []
  shadowX : Store Bool := []
  imem : Store ImemWord := []
  /-- Chalk lines, 512 x physical class + line; unlisted is X, which reads 0 with X-mode off (R42, R49). -/
  chalk : Store Tri := []
  /-- Import registers, 64 x physical class + bit (R92). -/
  imp : Store Tri := []
  /-- Export registers, 64 x physical class + line (R93). -/
  exp : Store Tri := []
  /-- Memory return register of each physical class. -/
  ret : Store RetReg := []
  /-- Export tables, 4096 x physical class + step (slot s at 2048 s): 64 fields of 10 bits (R93). -/
  expTab : Store SchedEntry := []
  /-- Memory tables, 4096 x physical class + step: 96 bits (R133). -/
  memTab : Store SchedEntry := []
  /-- Physical class of each logical class; unlisted, class n is 33 x (n / 32) + n mod 32 (R389). -/
  clsMap : Store Nat := []
  /-- Physical classes that are fenced (R391). -/
  fenced : Store Bool := []
  follow : Store Follow := []
  /-- Physical BP in spare slot 16 x physical class + slot; unlisted, 512 + slot (R389). -/
  spare : Store Nat := []
  deriving DecidableEq, Repr

/-! ### The signal network (chapter "The signal network") -/

/-- A register with padding behind it: what it holds, then what follows on the next step enables. `none` is a driver
that is off, or nothing to deliver. -/
abbrev Line := List (Option Tri)

/-- The switches and stages of the signal network. Segment index 4096 x die + 512 x stairwell + segment. -/
structure NetState where
  /-- Hallway tables: ((2 x die + slot) x 4200 + entry) x 8192 + destination, 14 bits (R95). -/
  hallTab : Store SchedEntry := []
  /-- Base switch tables: ((2 x base + slot) x 4200 + entry) x 32768 + destination, 16 bits (R100). -/
  baseTab : Store SchedEntry := []
  /-- Hallway register, source side: what drives each segment up. -/
  hallUp : Store Tri := []
  /-- Hallway register, receiving side, with padding: 64 x logical class + import bit. -/
  hallImp : Store Line := []
  /-- Base switch input register of each segment. -/
  baseIn : Store Tri := []
  /-- Base switch output register, with padding: 32768 x base + destination. -/
  baseOut : Store Line := []
  /-- Bridge crossing: 8192 x sending base + slot, its 33 stages, newest first (R92). -/
  cross : Store (List Tri) := []
  /-- Base input sources as presented: 8192 x base + (index - 0x6000). -/
  src : Store Tri := []
  /-- Port input registers of base output sinks: 8192 x base + (index - 0x6000). -/
  portIn : Store Tri := []
  /-- Frame buffers of base output sinks: 8192 x base + (index - 0x6000). -/
  frame : Store Tri := []
  /-- Owner + 1 of each base input source and output sink: 2 x (8192 x base + index - 0x6000) + 0 source, 1 sink (R106). -/
  ioOwn : Store Nat := []
  /-- Stairwells whose contention of the bell in progress is recorded: 64 x partition + 8 x die + w (R97). -/
  seen : Store Bool := []
  deriving DecidableEq, Repr

/-! ### Partitions (chapters "Timetables, bells and tempo", "The compiler contract") -/

/-- A fault request on its way to the bell controller (R163). -/
structure FaultReq where
  /-- Step count at which it arrives. -/
  due : Nat
  code : Nat
  /-- 0 HALT_AT_BELL, 1 FREEZE_NOW, 2 CONTINUE_MARK. -/
  action : Nat
  deriving DecidableEq, Repr

/-- A 0x08 record that waits for the freeze point (R120). -/
structure MissedRec where
  gap : Bool
  step : Nat
  bell : Nat
  locA : Nat
  /-- Due step code of LOC_B. -/
  dueCode : Nat
  dueBell : Nat
  corrupt : Bool
  deriving DecidableEq, Repr

/-- The resources an image declares (R168, Table CFG-6). -/
structure Resources where
  /-- Logical classes. -/
  classes : List Nat := []
  /-- Segment groups, 8 x NET_SW index + group. -/
  segs : List Nat := []
  /-- Slot groups, 16 x bundle + group, East to West 8 higher. -/
  slots : List Nat := []
  /-- Base input sources and output sinks: 2 x (8192 x base + index - 0x6000), sinks 1 higher. -/
  io : List Nat := []
  /-- Image banks, 256 x base + bank. -/
  banks : List Nat := []
  /-- Image regions, 16 x stack + region, with their granules. -/
  regions : List (Nat × Nat) := []
  /-- HBM command budget of each stack. -/
  budget : List Nat := []
  ports : List Nat := []
  stw : List Nat := []
  gpio : List Nat := []
  deriving DecidableEq, Repr

/-- One image as the partition keeps it, per timetable slot (R186, R86). -/
structure SlotImg where
  dImg : Nat := 0
  /-- The image's SIGNATURE section as a number: what tells images apart (R80). -/
  ident : Nat := 0
  sealed : Bool := false
  autostart : Bool := false
  xmode : Bool := false
  /-- The DUAL flag of PARTITION_DESC. -/
  dual : Bool := false
  /-- LAYOUT digest of the header (R205). -/
  layout : Nat := 0
  /-- Vector-map entries, in section order, one number each (R284). -/
  vecMap : List Nat := []
  /-- Vector-map port descriptors: port, LAUNCH, FCFG (R283). -/
  vecPort : List (Nat × Nat × Nat) := []
  /-- Stopwatch binding entries (R243). -/
  binds : List Nat := []
  /-- CLAMP entries (R204). -/
  clamps : List Nat := []
  /-- What the image declares. -/
  res : Resources := {}
  deriving DecidableEq, Repr

/-- What a partition keeps besides its registers. -/
structure PartRec where
  /-- Corrupt mark of the bell in progress (R169). -/
  corrupt : Bool := false
  haltSampled : Bool := false
  capSampled : Bool := false
  commitSampled : Bool := false
  /-- ARG of the pending CAPTURE. -/
  capArg : Nat := 0
  /-- Timetable and gap steps since ARM; hold steps are not counted (R160). -/
  count : Nat := 0
  /-- All steps since ARM, hold steps included (R118). -/
  allCount : Nat := 0
  /-- SCC of the last step enable. -/
  lastScc : Option Nat := none
  /-- SCC at which the tick of the next bell was recognised in time (R67). -/
  tick : Option Nat := none
  /-- The next bell is bell 0 (R88). -/
  bell0 : Bool := false
  /-- Border outputs driven by the image since step 0 of bell 0 (R79). -/
  border : Bool := false
  /-- Edges of an EXT source still to be ignored by the divider (R71). -/
  div : Nat := 0
  /-- BELL_NUM as it stands (R88). -/
  bell : Nat := 0
  stampSec : Nat := 0
  stampNs : Nat := 0
  stampFrac : Nat := 0
  /-- Fault requests travelling to the bell controller. -/
  travel : List FaultReq := []
  /-- Indices of the fault records most recently written, newest first (R173). -/
  recent : List Nat := []
  /-- SCC and number of records written in that step clock (R174). -/
  recScc : Nat := 0
  recCnt : Nat := 0
  /-- 0x08 records waiting for the freeze point. -/
  missed : List MissedRec := []
  /-- R124: FROZEN until ABORT. -/
  stuck : Bool := false
  /-- The two timetable slots' images. -/
  img0 : SlotImg := {}
  img1 : SlotImg := {}
  /-- Design reads of the partition's HBM issued and not yet placed on a channel: (class, stack, due count, bell, step). -/
  hbmPend : List (Nat × Nat × Nat × Nat × Nat) := []
  /-- Items absent at their due step (R120): (cause, source unit, due count). -/
  absent : List (Nat × Nat × Nat) := []
  /-- The border is fenced: outputs clamped, ports closed (R204). -/
  fence : Bool := false
  /-- ARM waits for a lowered step clock or the link checks (Table BELL-4). -/
  arming : Bool := false
  /-- The step in PART_STATE has not had its step enable yet: step 0 at a bell start, the freeze step at a resume. -/
  fresh : Bool := false
  /-- The next bell is marked corrupt as it begins (R279). -/
  corruptNext : Bool := false
  /-- Ticks held as bell debt, oldest first: SCC, and whether a TEMPO with another bell number began it (R69, R74, R279). -/
  debts : List (Nat × Bool) := []
  /-- CLAMP list and vector-map entries of the image that drove the border, kept while the fence holds (R204). -/
  clampSet : List Nat := []
  clampMap : List Nat := []
  /-- Writer of the pending commit, for VIOL_LOG (R83). -/
  commitRq : Requester := .pf0
  /-- Replay: a REWIND runs its gap steps and samples no command (R219). -/
  rewinding : Bool := false
  /-- Timetable slot whose image the repair copy of R405 holds. -/
  repSlot : Option Nat := none
  deriving DecidableEq, Repr

/-! ### Freeze (chapter "Freeze: stalling the machine as a unit") -/

/-- A freeze request raised and not yet registered (R113, R118). -/
structure FrzReq where
  /-- SCC at which it was raised. -/
  raised : Nat
  /-- Bit of PART_FRZ_STATUS.CAUSE. -/
  cause : Nat
  /-- Source unit (Table FRZ-2). -/
  src : Nat
  deriving DecidableEq, Repr

/-- The freeze controller of one base for one partition (R112-R115). -/
structure FrzCtl where
  raised : List FrzReq := []
  /-- Registered items still outstanding: cause and source unit. -/
  items : List (Nat × Nat) := []
  /-- Releases raised and not yet registered. -/
  rel : List FrzReq := []
  /-- SCC at which the resume decision was raised, on the lead base. -/
  decided : Option Nat := none
  /-- CLEAR sent since the freeze began (non-lead base), or received (lead base). -/
  clear : Bool := false
  deriving DecidableEq, Repr

/-- Freeze state of one partition. -/
structure FrzPart where
  west : FrzCtl := {}
  east : FrzCtl := {}
  /-- Freeze point scheduled. -/
  f : Option Nat := none
  /-- Resume point scheduled. -/
  r : Option Nat := none
  /-- Cause and source unit of the request that set the freeze point (PART_FRZ_LAST). -/
  cause0 : Nat := 0
  src0 : Nat := 0
  /-- SCC at which the partition entered FROZEN. -/
  since : Nat := 0
  /-- Step clocks spent FROZEN since ARM, 64 bits (PART_FROZEN_CLOCKS). -/
  clocks : Nat := 0
  /-- Chain freeze indices received or sent, as bell x 2^13 + step code (R126). -/
  chIdx : List Nat := []
  /-- Device numbers of CHAIN_FROZEN reports with their F_j (R126). -/
  chFrozen : List (Nat × Nat) := []
  /-- Devices that have reported CHAIN_CLEAR. -/
  chClear : List Nat := []
  /-- Remaining resume delay of a received CHAIN_RESUME, in step clocks, and F_max. -/
  chDelay : Option (Nat × Nat) := none
  /-- This device has sent its CHAIN_FROZEN, its CHAIN_CLEAR. -/
  chSentFrozen : Bool := false
  chSentClear : Bool := false
  deriving DecidableEq, Repr

/-- A bridge control message as sent (R122, R123). -/
structure BridgeMsg where
  scc : Nat
  /-- 1 FREEZE, 2 RESUME, 3 CLEAR. -/
  type : Nat
  seq : Nat
  mask : Nat
  tgt : Nat
  deriving DecidableEq, Repr

/-- The freeze units. -/
structure FrzState where
  parts : Store FrzPart := []
  /-- Next SEQ sent by each base, SEQ last received by each base (16: none yet). -/
  txSeqW : Nat := 0
  txSeqE : Nat := 0
  rxSeqW : Nat := 16
  rxSeqE : Nat := 16
  /-- Control messages sent by West, by East, newest first. -/
  outW : List BridgeMsg := []
  outE : List BridgeMsg := []
  /-- Chain freeze messages sent, newest first: port, kind (0 CH_FREEZE, 1 CH_FROZEN, 2 CH_CLEAR, 3 CH_RESUME), bell, step
  code, and the delay or the device number. -/
  chOut : List (Nat × Nat × Nat × Nat × Nat) := []
  deriving DecidableEq, Repr

/-! ### Design memory (chapter "Design memory: blackboard and HBM") -/

/-- Read data on its way to a memory return register (R136). -/
structure MemRet where
  /-- Step count of the partition at which it is delivered. -/
  due : Nat
  val : BitVec 64
  unk : BitVec 8
  deriving DecidableEq, Repr

/-- A march engine besides its registers (R153, R154). -/
structure MarchRec where
  /-- Last bank or granule, algorithm, preserving mode and target of the run in progress. -/
  last : Nat := 0
  alg : Nat := 0
  preserve : Bool := false
  tgt : Nat := 0
  /-- Runs started, the argument of the residue a destructive march leaves. -/
  runs : Nat := 0
  deriving DecidableEq, Repr

/-- Memories. `mem` holds every addressed byte of the device: local RAMs, blackboard, HBM, locker memory. -/
structure MemState where
  mem : List Host.Cell := []
  /-- Fill of a block: bank b at b, granule g of stack s at 512 + 96 s + g, local RAM of core c at 896 + c. 0 zeros, 1 the X start value, n + 2 the residue
  of march run n. -/
  fill : Store Nat := []
  /-- Blackboard bytes whose storage holds the X code where the fill is not X, or does not hold it where the fill is X. -/
  xflip : Store Bool := []
  /-- Bytes with wrong bits: 1 correctable, 2 uncorrectable (R151, R152). -/
  ecc : Store Nat := []
  /-- Returns in flight of each physical class, oldest first. -/
  ret : Store (List MemRet) := []
  /-- Queued write-back of each bank: word number + 1 (R151). -/
  wb : Store Nat := []
  marchW : MarchRec := {}
  marchE : MarchRec := {}
  /-- Retired pages of each stack, oldest first, and the page being copied + 1 (R156). -/
  pages : Store (List Nat) := []
  copying : Store Nat := []
  /-- Granules being zeroised: 96 x stack + granule. -/
  granZ : Store Bool := []
  /-- Owner + 1 of each granule held by a design region, 96 x stack + granule (R141). -/
  granOwn : Store Nat := []
  deriving DecidableEq, Repr

/-! ### Device time (chapter "Device time and network time") -/

/-- An entry of the transmit timestamp FIFO (R354). -/
structure TxTs where
  seqId : Nat
  msgType : Nat
  sec : Nat
  ns : Nat
  frac : Nat
  deriving DecidableEq, Repr

/-- Device time besides its registers (R346-R357). -/
structure TimState where
  sec : Nat := 0
  ns : Nat := 0
  /-- The 32-bit internal fraction of a nanosecond. -/
  frac : Nat := 0
  /-- Offset of a STEP that waits for the next increment, in 2^-32 ns (R350). -/
  step : Option Int := none
  /-- Remainder of the running slew, in 2^-32 ns (R351). -/
  slew : Int := 0
  /-- Transmit timestamps held, oldest first (R354). -/
  fifo : List TxTs := []
  /-- The PTM exchange in progress spans a step or a REARM (R357). -/
  ptmStepped : Bool := false
  /-- t1, t4 and PTM Master Time as recorded; their _HI registers are latched partners (R349). -/
  ptmT1 : Nat := 0
  ptmT4 : Nat := 0
  ptmMst : Nat := 0
  /-- Marker and arrival time last latched at each chain port (R355). -/
  cmk : Store (Nat × Nat) := []
  /-- Times put into one-step messages, and into receive descriptors, newest first (R354). -/
  oneStep : List TxTs := []
  rx : List TxTs := []
  deriving DecidableEq, Repr

/-! ### Host interface (chapter "Transaction network and host interface") -/

/-- A queued mailbox entry (R342). -/
structure MbxEntry where
  data : Nat
  xmask : Nat
  bell : Nat
  deriving DecidableEq, Repr

/-- One host mailbox (R341-R343). -/
structure Mbx where
  queue : List MbxEntry := []
  /-- Presented value and unknown mask; X before the first entry. -/
  data : Nat := 0
  xmask : Nat := 0xFFFFFFFF
  /-- Entries decided and not yet presented: step position of the partition (bell x length + step code) and the entry; none
  where the bell has no value (R343). -/
  due : List (Nat × Option MbxEntry) := []
  /-- A MAILBOX freeze is outstanding for this bell. -/
  waiting : Option Nat := none
  deriving DecidableEq, Repr

/-- Host interface state besides its registers. -/
structure HifState where
  vfEnable : Bool := false
  ptmEnable : Bool := false
  /-- MSI-X vectors unmasked and pending: 2048 x function + vector (R339). -/
  unmasked : Store Bool := []
  msixPend : Store Bool := []
  /-- MSI-X messages sent: function and vector, newest first. -/
  msi : List (Nat × Nat) := []
  mbx : Store Mbx := []
  /-- PCI Express memory requests sent to host memory, newest first: function, host address, whether it writes, bytes (R335). -/
  out : List (Nat × Nat × Bool × List Nat) := []
  /-- AER Completer Abort Status of each function (Table HIF-7). -/
  aer : Store Bool := []
  deriving DecidableEq, Repr

/-! ### Units and roles (chapter "Reliability, substitution and recovery") -/

/-- A physical unit (R389, R401): state 0 ENROLLED, 1 SUBSTITUTE, 2 DETENTION, 3 SELFTEST, 4 ABSENT. -/
structure UnitRec where
  state : Nat := 0
  /-- Role held + 1, 0 for none; a BP's role is its logical BP in the class. -/
  role : Nat := 0
  /-- Role barred + 1 (R399), 0 for none. -/
  banned : Nat := 0
  reenrol : Nat := 0
  /-- The last self-test since entering DETENTION passed. -/
  passed : Bool := false
  deriving DecidableEq, Repr
/-! ### Capture, journals and signal trace (chapter "Capture, signal trace and rewind") -/

/-- The flight record of a snapshot (R210), by logical class. Pending design reads carry the steps left to their delivery. -/
structure Flight where
  chalk : Store Tri := []
  exp : Store Tri := []
  imp : Store Tri := []
  ret : Store RetReg := []
  pend : Store (List MemRet) := []
  hallUp : Store Tri := []
  hallImp : Store Line := []
  baseIn : Store Tri := []
  baseOut : Store Line := []
  cross : Store (List Tri) := []
  portIn : Store Tri := []
  frame : Store Tri := []
  /-- Base input sources as presented, so that a replay from a snapshot taken in replay has them. -/
  src : Store Tri := []
  deriving DecidableEq, Repr

/-- A snapshot besides its header and slates, which stand in its slot of the area (R210, R211). -/
structure Snap where
  flight : Flight := {}
  /-- Position in the order of taking. -/
  order : Nat := 0
  bell : Nat := 0
  boundary : Bool := false
  slot : Nat := 0
  pass : Bool := false
  cfg : Nat := 0
  tempo : Nat := 0
  action : Nat := 0
  layout : Nat := 0
  /-- Identity of the image in the snapshot's slot (R80). -/
  ident : Nat := 0
  undoPos : Nat := 0
  inPos : Nat := 0
  /-- Slots active at the point or at a step run since (R213). -/
  slots : List Nat := []
  deriving DecidableEq, Repr

/-- Capture and trace of one partition besides its registers. -/
structure TrcRec where
  snaps : Store Snap := []
  orders : Nat := 0
  /-- The draining snapshot can no longer become VALID (R217). -/
  drainDead : Bool := false
  /-- Next entry of the undo and of the input journal. -/
  undoPos : Nat := 0
  inPos : Nat := 0
  /-- Blackboard words journalled since the newest snapshot point (R215). -/
  jset : Store Bool := []
  /-- Base input sources as last journalled: 8192 x base + index - 0x6000 (R216). -/
  srcLast : Store Tri := []
  /-- Replay: the next input entry, E of R221, the entry index where the record ends. -/
  replayPos : Nat := 0
  replayE : Nat := 0
  /-- A REWIND that waits: its snapshot slot (R218, R219). -/
  rewind : Option Nat := none
  /-- Bytes of the ring line being filled (R227). -/
  line : List Nat := []
  /-- Last emitted value of each class, in CHANGE mode: value + 2^16 x unknown + 1. -/
  last : Store Nat := []
  /-- Classes that have emitted in this bell. -/
  sent : Store Bool := []
  /-- Packets lost since the last accepted one, with the bell and step of the first (Table OBS-4). -/
  lost : Nat := 0
  lostBell : Nat := 0
  lostStep : Nat := 0
  /-- Bell of the trigger (R225). -/
  trigBell : Nat := 0
  /-- The HALT of R225 has been requested. -/
  haltDone : Bool := false
  /-- Design triggers on their way: due count, bit, step, bell (R224). -/
  trig : List (Nat × Nat × Nat × Nat) := []
  /-- The trace was started under a hall pass (R228). -/
  pass : Bool := false
  /-- Ring lines written so far, and their number as the first trace under the pass in force was started. -/
  ringPos : Nat := 0
  passFrom : Option Nat := none
  deriving DecidableEq, Repr

/-- Capture and trace units. -/
structure TrcState where
  parts : Store TrcRec := []
  /-- Probe tables: (2 x logical class + bank) x 4096 + step, 160 bits (R223). -/
  probe : Store Nat := []
  /-- Journal buffers: 2 x base + kind (0 undo, 1 input): entries held and the SCC of that count (R217). -/
  jbuf : Store (Nat × Nat) := []
  /-- Trace packet buffers of the bases: bytes held and the SCC of that count (R227). -/
  tbuf : Store (Nat × Nat) := []
  /-- The funnel's stream (R382): bytes of the line being filled, bytes so far, packets lost of each source since its last record. -/
  funLine : List Nat := []
  funPos : Nat := 0
  funLost : Store Nat := []
  deriving DecidableEq, Repr


/-! ### Debug (chapter "Debug and core trace") -/

/-- A monitor transport: 0 PCI Express, 1 Ethernet, 2 UART (R361, R362). -/
structure MonPort where
  /-- SEQ and frame of the last answer. -/
  seq : Option Nat := none
  resp : List Nat := []
  deriving DecidableEq, Repr

/-- What of a hall pass in force DBG_HP_STAT does not show (R384). -/
structure HallPass where
  notAfter : Nat := 0
  cores : Nat := 0
  deriving DecidableEq, Repr

/-- Debug state besides its registers. -/
structure DbgState where
  /-- Cross-trigger channels pulsed and not yet acted on (R375). -/
  cti : List Nat := []
  ports : Store MonPort := []
  /-- Nonces drawn so far (R384). -/
  nonce : Nat := 0
  pass : Option HallPass := none
  /-- An Ethernet address has sent a valid request: it receives EVENT frames. -/
  peer : Bool := false
  /-- Frames sent, newest first: transport and bytes. -/
  out : List (Nat × List Nat) := []
  deriving DecidableEq, Repr
/-! ### The stopwatch (chapter "The stopwatch: timing acquisition and triggers") -/

/-- An open record of a timing input (R238-R244). -/
structure StwRec where
  start : Nat := 0
  /-- Edges of the inputs it measures, oldest first: input, rising, time. -/
  edges : List (Nat × Bool × Nat) := []
  /-- Comparator level of the input at the start. -/
  level : Bool := false
  dead : Nat := 0
  missed : Bool := false
  /-- Freezes counted at the start (FROZEN). -/
  frz : Nat := 0
  failed : Bool := false
  /-- Bound: partition, OPEN and CLOSE codes. -/
  win : Option (Nat × Nat × Nat) := none
  deriving DecidableEq, Repr

/-- A timing input besides its registers. -/
structure StwIn where
  cur : Option StwRec := none
  /-- End of the previous record, and whether an edge fell since. -/
  ended : Option Nat := none
  missed : Bool := false
  seq : Nat := 0
  /-- Physical TDC + 1 that takes over at the next record boundary (R236). -/
  next : Nat := 0
  deriving DecidableEq, Repr

/-- A trigger channel besides its registers (R248). -/
structure StwTrg where
  occ : Nat := 0
  /-- Edges seen since ARM, oldest first: input, rising, time. -/
  hist : List (Nat × Bool × Nat) := []
  /-- Time of ARM or of the last edge of POL (TIMEOUT). -/
  since : Nat := 0
  /-- Qualifying events whose firing is 20 ns away. -/
  pend : List Nat := []
  deriving DecidableEq, Repr

/-- Bits waiting for their presentation: partition, due step count, source keys and values (R245). -/
structure StwPres where
  p : Nat
  due : Nat
  bits : List (Nat × Tri)
  deriving DecidableEq, Repr

/-- The stopwatch besides its registers. -/
structure StwState where
  /-- Timebase TB of both bases in fine LSB (R233), and its remainder in step clocks. -/
  tb : Nat := 0
  tbRem : Nat := 0
  inputs : Store StwIn := []
  trg : Store StwTrg := []
  pres : List StwPres := []
  /-- TRIG bindings with an open window, 256 x partition + binding: 1 open, 2 open and fired. -/
  trigWin : Store Nat := []
  /-- Calibrations failed in a row by each TDC (R237). -/
  calFail : Store Nat := []
  /-- Next input of the rotation, West and East. -/
  rotW : Nat := 0
  rotE : Nat := 32
  /-- Channels that drive each instrument line (R251). -/
  drv : Store (List Nat) := []
  /-- Event time of each channel's last firing: STW_TRG_TIME, whose _HI is a latched partner (R248, R479). -/
  fired : Store Nat := []
  deriving DecidableEq, Repr

/-! ### Links and the step clock (chapters "Xotil ports and the bridge", "Architecture of the D9") -/

/-- One direction of a port or of a bridge bundle, besides its registers. Links 0-15: port i receives on link 2 i and sends on
2 i + 1; link 16 + 2 k + r is bundle k in direction r. -/
structure LinkRec where
  /-- Column of Table XOT-2 in progress: 0 OFF, 1 RECESS, 2 RETRAIN. -/
  train : Nat := 0
  /-- Leaving nap: the drivers start and 32 IDLE blocks follow (R274). -/
  waking : Bool := false
  /-- Loopback kind in force. -/
  loop : Nat := 0
  /-- Round trips of MEASURE so far, and the partner's reported turnaround, ps (R276). -/
  rtt : List Nat := []
  turn : Nat := 0
  /-- One-way time or vector return time as last measured, ps. -/
  oneway : Nat := 0
  /-- RETRAINs failed in a row (R398, Table REL-6). -/
  fails : Nat := 0
  /-- Receiver: number of the next group; the group named by REPLAY that is awaited; REPLAYs of it so far (R263). -/
  rxGroup : Nat := 0
  await : Option Nat := none
  replays : Nat := 0
  /-- Transmitter: number of the next group; group named by the last REPLAY or NAK and how often in a row. -/
  txGroup : Nat := 0
  asked : Nat := 0
  asks : Nat := 0
  /-- Errors of each lane in each of the last 64 AM rows, newest first. -/
  errs : Store (List Nat) := []
  /-- A spare-over of R267: lane and AM rows passed since LINK SPARE. -/
  spareOver : Option (Nat × Nat) := none
  /-- Lanes lost and not yet remapped; the first takes the spare if its mark says so (R268). -/
  lost : List (Nat × Bool) := []
  /-- Partner as exchanged: family, member, level, mode (R261). -/
  peer : Option (Nat × Nat × Nat × Nat) := none
  peerId : Nat := 0
  /-- Distance received in LINK DIST (R278). -/
  dist : Option Nat := none
  /-- Chain control: SEQ of the last message acted on and of the last sent (R277); 256 none. -/
  rxSeq : Nat := 256
  txSeq : Nat := 255
  /-- Step position (bell x length + code) of the next chain bits received; the bell's number matched (R275). -/
  rxLin : Option Nat := none
  rxOk : Bool := true
  /-- Chain bits held: step position of their presentation, and the bits; none where the bell's bits are X. -/
  chain : List (Nat × Option Nat) := []
  /-- Vector sends not returned: bell and step position of the LAUNCH; returns held: step position and codes (R285, R286). -/
  sent : List (Nat × Nat) := []
  back : List (Nat × List Nat) := []
  /-- Samples of the bell in progress: 4 x channel + j (R284). -/
  samp : Store Tri := []
  /-- A CHAIN or VECTOR request is outstanding for this port. -/
  late : Bool := false
  /-- Data blocks of a BULK still to come (R281). -/
  bulk : Nat := 0
  /-- Declared dead (R398). -/
  dead : Bool := false
  deriving DecidableEq, Repr

/-- The links. -/
structure LnkState where
  links : Store LinkRec := []
  /-- Blocks sent, newest first: link, TYPE of Table XOT-1 (1 for data), value. -/
  out : List (Nat × Nat × Nat) := []
  deriving DecidableEq, Repr

/-- The step clock besides its registers (R18, R26, R434). -/
structure ClkState where
  /-- Thermal limit (R440). -/
  thermal : Nat := 256
  /-- Frequency of the pending change. -/
  want : Nat := 256
  /-- The idle step PLL has locked; SCC at that lock. -/
  locked : Bool := false
  since : Nat := 0
  /-- Derate limit as last sent in LINK DERATE (R280). -/
  sent : Nat := 256
  deriving DecidableEq, Repr

/-! ### Pins (chapter "Pins, I/O cells and package") -/

/-- The GPIO pins besides their registers. -/
structure PioState where
  /-- What each PART pin drives: unlisted, off with its pull (R457). -/
  val : Store Tri := []
  /-- Values sampled and not yet at the pin: pin, partition, count at which it takes it, value. -/
  pend : List (Nat × Nat × Nat × Tri) := []
  /-- Fuse-map fields as programmed: 0 high impedance, 1 pull-down, 2 pull-up, 3 drive low (R458, R459). -/
  fuse : Store Nat := []
  /-- Fuse write in progress: pin and bits (R459). -/
  pulse : Option (Nat × Nat) := none
  /-- The mask captured by the lock sequence, three words (R460). -/
  mask : List Nat := [0, 0, 0]
  /-- The JTAG instruction register (R462). -/
  jtag : Nat := 0xFF
  /-- Pins held in their RECESS sleep state (R461). -/
  asleep : Bool := false
  deriving DecidableEq, Repr

/-! ### Tempo (chapter "Timetables, bells and tempo") -/

/-- The tempo inputs, the generators and TEMPO_OUT besides their registers. -/
structure TempoState where
  /-- SCC + 1 of the last recognised edge of input i: 2 i rising, 2 i + 1 falling (R71). -/
  last : Store Nat := []
  /-- Next tick number k of each generator (R72). -/
  gen : Store Nat := []
  /-- TEMPO_OUT is high, until SCC `fall`; SCC of the rises to come (R73). -/
  out : Bool := false
  fall : Nat := 0
  rises : List Nat := []
  deriving DecidableEq, Repr


/-! ### Tutor cores and the dispatcher (chapter "Tutor cores and the dispatcher") -/

/-- A task as its descriptor gives it (Table TUT-6), with what the dispatcher adds. -/
structure Task where
  entry : Nat := 0
  arg : Nat := 0
  delay : Nat := 0
  flags : Nat := 0
  tag : Nat := 0
  cpl : Nat := 0
  queue : Nat := 0
  prio : Nat := 0
  /-- Times displaced (R315). -/
  disp : Nat := 0
  /-- Order of its last placement (R314, R315). -/
  order : Nat := 0
  deriving DecidableEq, Repr

/-- A wait in dx.bellwait (partition and bell number) or, with none, in dx.deskpop; the destination register. -/
structure CoreWait where
  bell : Option (Nat × Nat) := none
  rd : Nat := 0
  deriving DecidableEq, Repr

/-- A comparator (Table DBG-4). -/
structure Cmpr where
  value : Nat := 0
  mask : Nat := 0
  kind : Nat := 0
  mode : Nat := 0
  priv : Nat := 0
  ctxen : Nat := 0
  asid : Nat := 0
  action : Nat := 0
  chan : Nat := 0
  deriving DecidableEq, Repr

/-- The trace of one core (R378-R381); its state stands in DBG_CORE_STAT.TRC. -/
structure CoreTrc where
  flags : Nat := 0
  syncLog : Nat := 8
  cti : Nat := 0
  post : Nat := 0
  /-- Waits for TRACE_ON, or paused by TRACE_OFF; the pause is to be closed by a GAP. -/
  held : Bool := false
  paused : Bool := false
  /-- Bytes emitted since the last SYNC. -/
  since : Nat := 0
  /-- Packets of an excluded M-mode span have been left out (R383). -/
  excl : Bool := false
  /-- A SLEEP has been emitted and no WAKE. -/
  asleep : Bool := false
  deriving DecidableEq, Repr

/-- A tutor core as this model holds it: what the dispatcher and the monitor see of it. Its own instructions are not rows of the
table (entry 10). -/
structure CoreRec where
  /-- DPC: where the core continues. -/
  pc : Nat := 0
  /-- Privilege at the halt: 0, 1 or 3. -/
  priv : Nat := 3
  wait : Option CoreWait := none
  /-- The current task (dxtask0-3) and the desk slot. -/
  cur : Option Task := none
  desk : List Task := []
  /-- Cause of the last exception an Xdax instruction raised. -/
  trap : Option Nat := none
  cmps : Store Cmpr := []
  trc : CoreTrc := {}
  /-- A halt request not yet acted on: its cause, and the comparator (R367). -/
  halt : Option (Nat × Nat) := none
  /-- STEPIE of a STEP in progress (R369). -/
  step : Option Bool := none
  deriving DecidableEq, Repr

/-- The dispatcher besides its registers. -/
structure DspState where
  cores : Store CoreRec := []
  /-- x1-x31 of each core as last written by an Xdax instruction or the monitor: 32 x core + register. -/
  x : Store Nat := []
  /-- CSRs of each core: 4096 x core + number; those of its own execution as the monitor last saw them, plus 1: 4096 x (64 + core) +
  number. -/
  csr : Store Nat := []
  /-- Tasks at the head of each queue, before its ring: returned ones, then expired ones (R313, R315, R317). -/
  back : Store (List Task) := []
  expd : Store (List Task) := []
  /-- Head of each queue's ring as read, where it may run at once. -/
  top : Store Task := []
  /-- Delay list of each tick source: due counts in order (R317). -/
  lists : Store (List (Nat × Task)) := []
  /-- Round-robin pointer of each priority level (R313). -/
  rr : Store Nat := []
  /-- Placements so far. -/
  order : Nat := 0
  deriving DecidableEq, Repr

/-! ### The transaction network (chapter "Transaction network and host interface") -/

/-- A response on its way, or one that has to come (R325, R328). -/
structure TnReq where
  rq : Requester
  tag : Nat
  /-- 0 read, 1 write, 2 AMO, 3 instruction fetch. -/
  kind : Nat := 0
  /-- Data, status and error kind; none where the response was lost. -/
  ans : Option (List Nat × Nat × Nat) := none
  deriving DecidableEq, Repr

/-- The transaction network. -/
structure TnState where
  /-- Source-route tables: 128 x interface + destination, the word of NET_TN_RT_DATA (R326). -/
  rt : Store Nat := []
  /-- Non-posted requests not yet completed, oldest first. -/
  flight : List TnReq := []
  deriving DecidableEq, Repr

/-! ### Loading (chapter "Loading timetable images") -/

/-- A load in progress in one context (R196-R205). -/
structure LoadCtx where
  part : Nat := 0
  /-- Source of Table CFG-9, and the port of CHAIN. -/
  src : Nat := 0
  port : Nat := 0
  keep : Bool := false
  gate : Bool := false
  standby : Bool := false
  /-- Bytes received so far, first byte first. -/
  bytes : List Nat := []
  /-- Phase 2 has passed and the grant stands, LOAD not yet written (R200). -/
  declared : Bool := false
  /-- LOAD has been taken. -/
  entered : Bool := false
  /-- Sections of the table taken so far. -/
  taken : Nat := 0
  /-- Image banks (256 x base + bank) and regions (16 x stack + region) newly granted: physical bank; first granule, count. -/
  banks : List (Nat × Nat) := []
  regions : List (Nat × Nat × Nat) := []
  /-- Memory records skipped (R199). -/
  skipped : Nat := 0
  /-- Entry of the boot manifest that this load serves. -/
  entry : Option Nat := none
  /-- SHA-384 that the manifest entry states for the image (R180). -/
  digest : Option Nat := none
  deriving DecidableEq, Repr

/-- The loader, the keys and the fuses besides their registers. -/
structure LdState where
  ctx : Store LoadCtx := []
  /-- The 256-bit keys of slots 0-5 (R192). -/
  keys : Store Nat := []
  /-- The digests in the root key hash slots (R194). -/
  rk : Store Nat := []
  /-- DONE-gated AUTOSTART images by partition: 1 not yet ARMED, 2 ARMED and waiting for the rise of DONE, 3 started (R182, R183). -/
  autos : Store Nat := []
  /-- SVN of the manifest from which the proctor firmware was booted; none when it came from the host. -/
  svn : Option Nat := none
  /-- Length of a bundle pushed under BOOTSEL 0b001. -/
  push : Nat := 0
  /-- Fuse or BBRAM write in progress: block (0 key, 1 life cycle, 2 root key, 3 counter), slot, what it leaves. -/
  pulse : Option (Nat × Nat × Nat) := none
  /-- Image entries of the boot manifest still to be loaded, in order: entry, partition, digest (R180, R181). -/
  boots : List (Nat × Nat × Nat) := []
  /-- Bytes consumed by the current or last load of each context: PART_LDR_BYTES, whose _HI is a latched partner (R479). -/
  got : Store Nat := []
  deriving DecidableEq, Repr


/-- Reliability state besides its registers. -/
structure RelState where
  /-- Role epochs: 2^20 x kind + role (R390). -/
  epoch : Store Nat := []
  /-- Report-card entry number of the next entry (R403); kept in the locker. -/
  rcSeq : Nat := 0
  /-- The physical units: 2^20 x kind + number; an unlisted unit is as it is after level 0 (R389, R390). -/
  units : Store UnitRec := []
  /-- The class follow of R395: substitute physical class and its progress; the rest stands in PRC_CLS_SUB_STAT. -/
  clsSub : Nat := 0
  clsRec : Follow := {}
  /-- Device time + 1 of the last event 0x0013 of a unit, keyed as `units` (R392). -/
  stale : Store Nat := []
  /-- Consecutive heartbeats received of proctor i on path t: 2 i + t, 0 the T bundles, 1 the substrate link (R409, R413). -/
  hb : Store Nat := []
  /-- Proctors whose pair has stopped (R410). -/
  stopped : Store Bool := []
  /-- The unit under SELFTEST: kind and physical number (R400). -/
  test : Option (Nat × Nat) := none
  /-- What a BOOTING proctor boots for, and the state it had: 0 the boot after reset, 1 LOAD_STANDBY, 2 RELOAD (R413, R416). -/
  boot : Store (Nat × Nat) := []
  /-- SVN + 1 of the firmware that proctor i runs (R195, R409). -/
  fw : Store Nat := []
  /-- SCC + 1 of the hall monitor's takeover, for each partition that a HALLMON request awaits (Table FRZ-1). -/
  hallAt : Store Nat := []
  /-- ALERT_N is asserted by the hall monitor, or by the boot ROM (R180, R415). -/
  alertHm : Bool := false
  alertRom : Bool := false
  deriving DecidableEq, Repr

/-! ### Reset, clocks, power and temperature (chapter "Reset, clocks, power, and timing of states") -/

/-- Reset and power state besides its registers. -/
structure RstState where
  /-- Reset sources asserted: bit of RST_CAUSE.SRC, level, detail (a rail, a core, a clock domain; a hold or a pulse of DBGREQ).
  Source 8 is THERMTRIP, which has no bit
  and lasts until level 0 (R441); source 9 a bit of RST_UNIT held back, its detail 64 x word + bit. -/
  src : List (Nat × Nat × Nat) := []
  /-- Resets held back by a fuse or BBRAM write in progress (R193). -/
  held : List (Nat × Nat × Nat) := []
  /-- The widest reset not yet released: level and source. -/
  cur : Option (Nat × Nat) := none
  /-- Level-3 releases still to come: word of RST_UNIT and bit (R426). -/
  rel3 : List (Nat × Nat) := []
  /-- Entry address of each tutor core's firmware. -/
  entry : Store Nat := []
  /-- The limit has been lowered for 100 C; samples in a row below 100 C less HYST (R440). -/
  hot : Bool := false
  cool : Nat := 0
  /-- RESET_N is low. -/
  pinLow : Bool := false
  /-- Clock domains with an open CLKFAIL (R433). -/
  failed : List Nat := []
  /-- Links that the device put in recess for RECESS (R442). -/
  recessed : List Nat := []
  deriving DecidableEq, Repr

/-- The answer of the last request that a requester made (R325, R329): the read data, or the error. -/
structure BusResp where
  data : Nat := 0
  /-- Status code of Table HIF-4, 0 for OK. -/
  status : Nat := 0
  errkind : Nat := 0
  deriving DecidableEq, Repr

/-- The whole machine. -/
structure State where
  /-- The commands that are waiting, first in first out. -/
  pending : List Instr := []
  /-- Every register, keyed by `regKey`; an unlisted register holds its reset value. -/
  regs : Store Word := []
  /-- Step-clock count (R112). -/
  scc : Nat := 0
  bp : BpState := {}
  net : NetState := {}
  /-- Partition records. -/
  parts : Store PartRec := []
  frz : FrzState := {}
  mem : MemState := {}
  tim : TimState := {}
  hif : HifState := {}
  rel : RelState := {}
  trc : TrcState := {}
  dbg : DbgState := {}
  stw : StwState := {}
  lnk : LnkState := {}
  clk : ClkState := {}
  pio : PioState := {}
  tmp : TempoState := {}
  ld : LdState := {}
  dsp : DspState := {}
  tn : TnState := {}
  rst : RstState := {}
  /-- The last answer given to a requester. -/
  resp : BusResp := {}
  /-- How many free values have been drawn: the model's own counter, no state of the D9 (entry 7). -/
  seq : Nat := 0
  deriving DecidableEq, Repr

/-- No command and no register value can stop the machine by a fault: the D9 has none (see NOTES.md). -/
inductive Fault where
  /-- Raised by nothing: kept so that the type is not empty. Safe. -/
  | none
  deriving DecidableEq, Repr

/-- Why a command has no next state. -/
inductive Refusal where
  /-- A command without a meaning in this model. Safe. -/
  | notModelled (mnemonic : String)
  deriving DecidableEq, Repr

/-- The machine right after power-on reset: every register at its reset value, nothing listed in any store. -/
def State.reset : State := {}

end Machine
end Sys2Proof
end

