-- ==== Sys2Proof/Machine/Ops.lean ====
section
/-! DEFINITION. The named operations every meaning uses: registers and their fields, violations, interrupts, the report card,
requesters' rights, device time, memory bytes. -/
namespace Sys2Proof
namespace Machine

/-- The outcome type of a step of this machine. -/
abbrev Out := Host.Outcome State Fault Refusal

/-! ### Registers and fields -/

/-- The word in instance `i` of register `r`. -/
def State.reg (s : State) (r : Reg) (i : Nat) : Word :=
  Store.get (regDefault (regKey r i)) s.regs (regKey r i)

/-- Put a word into instance `i` of register `r`, whatever its field types. -/
def State.setReg (s : State) (r : Reg) (i : Nat) (w : Word) : State :=
  { s with regs := Store.set (regDefault (regKey r i)) (regKey r i) w s.regs }

/-- The value of field `f` of instance `i`. -/
def State.gf (s : State) (f : Fld) (i : Nat) : Nat := f.of (s.reg f.reg i)

/-- Set field `f` of instance `i`. -/
def State.sf (s : State) (f : Fld) (i v : Nat) : State :=
  s.setReg f.reg i (f.put (s.reg f.reg i) v)

/-- A one-bit field as a truth value. -/
def State.flag (s : State) (f : Fld) (i : Nat) : Bool := decide (s.gf f i = 1)

/-- Set a one-bit field. -/
def State.sflag (s : State) (f : Fld) (i : Nat) (b : Bool) : State := s.sf f i (b2n b)

/-- Add `n` to a counter field that saturates. -/
def State.bump (s : State) (f : Fld) (i n : Nat) : State :=
  s.sf f i (min (s.gf f i + n) (2 ^ f.w - 1))

/-- Add 1 to a counter field that wraps. -/
def State.bumpWrap (s : State) (f : Fld) (i : Nat) : State := s.sf f i (s.gf f i + 1)

/-- Put a register back to its reset value. -/
def State.resetReg (s : State) (r : Reg) (i : Nat) : State := s.setReg r i (r.reset i)

/-- Do `f` for each number below `n`, in rising order. -/
def forUpTo (n : Nat) (f : Nat → State → State) (s : State) : State :=
  (List.range n).foldl (fun t i => f i t) s

/-- Do `f` for each element of a list, in order. -/
def forEach {α : Type} (l : List α) (f : α → State → State) (s : State) : State :=
  l.foldl (fun t a => f a t) s

/-- Put every instance of a register back to its reset value. -/
def State.resetAll (s : State) (r : Reg) : State :=
  { s with regs := s.regs.filter fun e => decide (e.1 % regStride ≠ r.ctorIdx) }

/-- The offset of a link window: port i, receive 0x100 and transmit 0x200 (links 2 i and 2 i + 1); bundle k and direction r
(link 16 + 2 k + r) (R293). -/
def lnkWindow (l : Nat) : Nat :=
  if l < 16 then 0xC00000 + 0x10000 * (l / 2) + 0x100 + 0x100 * (l % 2)
  else 0x810000 + 0x800 * ((l - 16) / 2) + 0x400 * ((l - 16) % 2)

/-- Split an instance number into its indices and add up their offsets. -/
def dimOffset : List (Nat × Nat) → Nat → Nat
  | [], _ => 0
  | (st, _) :: r, i =>
    let inner := r.foldl (fun n d => n * d.2) 1
    st * (i / inner) + dimOffset r (i % inner)

/-- The control-space address of instance `i` of a register (R470). -/
def regAddr (r : Reg) (i : Nat) : Nat :=
  let (b, dims) := r.window
  if r.isLink then
    let inner := dims.foldl (fun n d => n * d.2) 1
    lnkWindow (i / inner) + b + dimOffset dims (i % inner)
  else b + dimOffset dims i

/-! ### Device time -/

/-- The nanosecond count D of R346. -/
def State.dtime (s : State) : Nat := (s.tim.sec * 1000000000 + s.tim.ns) % 2 ^ 64

/-! ### Requesters -/

/-- Proctor `i` holds the token (R408). -/
def State.proctorActive (s : State) (i : Nat) : Bool := decide (s.gf F.PRC_PROC_STAT_STATE i = 3)

/-- An active proctor runs: its pair has not stopped (R410), and the hall monitor is not in control (R415). -/
def State.proctorUp (s : State) : Bool :=
  ((s.proctorActive 0 && !(Store.get false s.rel.stopped 0)) || (s.proctorActive 1 && !(Store.get false s.rel.stopped 1)))
    && !(s.flag F.PRC_HM_STAT_ACTIVE 0)

/-- The requester is the active proctor. -/
def isActiveProctor (rq : Requester) (s : State) : Bool :=
  match rq with
  | .proctor i => s.proctorActive i.val
  | _ => false

/-- Physical function 0, the active proctor, tutor cores in M mode and the monitor: the writers named by R471, R472, R480. -/
def adminOk (rq : Requester) (s : State) : Bool :=
  match rq with
  | .pf0 => true
  | .monitor => true
  | .core _ .machine => true
  | .proctor i => s.proctorActive i.val
  | _ => false

/-- Virtual function `f` owns partition `p` (R336). -/
def vfOwns (f p : Nat) (s : State) : Bool :=
  s.hif.vfEnable && decide (bitAt (s.gf F.HIF_VF_OWN_PARTS f) p = 1)

/-- The readers of a register whose chapter names none, but for what virtual functions own (R471). -/
def readOk (rq : Requester) (s : State) : Bool :=
  match rq with
  | .pf0 => true
  | .monitor => true
  | .core _ .machine => true
  | .core _ .supervisor => true
  | .proctor i => s.proctorActive i.val
  | _ => false

/-- The requesters that R77 admits for partition `p`. -/
def partOk (rq : Requester) (p : Nat) (s : State) : Bool :=
  match rq with
  | .pf0 => true
  | .monitor => true
  | .core _ .machine => true
  | .core _ .supervisor => true
  | .vf f => vfOwns f.val p s
  | .proctor i => s.proctorActive i.val
  | _ => false

/-- The active proctor and tutor cores in M mode (R153, R192). -/
def procOrM (rq : Requester) (s : State) : Bool :=
  match rq with
  | .core _ .machine => true
  | .proctor i => s.proctorActive i.val
  | _ => false

/-- Host physical function 0 or the active proctor. -/
def pf0OrProctor (rq : Requester) (s : State) : Bool :=
  match rq with
  | .pf0 => true
  | .proctor i => s.proctorActive i.val
  | _ => false

/-- The requester's code in SRC (Table HIF-2, Table HIF-10). -/
def reqCode : Requester → Nat
  | .pf0 => 0x1000
  | .vf f => 0x1000 + f.val
  | .core c _ => c.val
  | .proctor i => 0x2800 + i.val
  | .monitor => 0x3000
  | .hallMonitor => 0x2810
  | .device n => 0x2000 + n.val

/-- PRIV of Table HIF-2. -/
def reqPriv : Requester → Nat
  | .core _ .user => 0
  | .core _ .supervisor => 1
  | .core _ .machine => 3
  | _ => 2

/-- The epoch of a role (R390); that of BP role 512 x class + k stands in CLS_BP_MAP. -/
def roleEpoch (s : State) (kind role : Nat) : Nat :=
  if kind = 1 then s.gf F.CLS_BP_MAP_EPOCH role else Store.get 0 s.rel.epoch (kind * 1048576 + role)

/-- Increment the epoch of a role; 0xFFFF is never assigned (R390). -/
def bumpEpoch (kind role : Nat) (s : State) : State :=
  if 0xFFFE ≤ roleEpoch s kind role then s
  else if kind = 1 then s.sf F.CLS_BP_MAP_EPOCH role (roleEpoch s kind role + 1)
  else { s with rel := { s.rel with epoch := Store.set 0 (kind * 1048576 + role) (roleEpoch s kind role + 1) s.rel.epoch } }

/-- The epoch a requester carries (Table HIF-10). -/
def reqEpoch (rq : Requester) (s : State) : Nat :=
  match rq with
  | .core c _ => roleEpoch s 2 c.val
  | .proctor _ => roleEpoch s 5 0
  | .monitor => roleEpoch s 5 0
  | _ => 0

/-- ACCESS of a write by this requester (Table REL-9): host writes are posted (R338). -/
def writeAccess : Requester → Nat
  | .pf0 => 2
  | .vf _ => 2
  | _ => 1

/-! ### Interrupts (R339, R340) -/

/-- Send an MSI-X message, or keep it pending while the vector is masked (R339). -/
def sendMsix (fn vec : Nat) (s : State) : State :=
  let k := 2048 * fn + vec
  if Store.get false s.hif.unmasked k then { s with hif := { s.hif with msi := (fn, vec) :: s.hif.msi } }
  else { s with hif := { s.hif with msixPend := Store.set false k true s.hif.msixPend } }

/-- Raise interrupt source `n` toward its target (R340). -/
def raiseIrq (n : Nat) (s : State) : State :=
  match s.gf F.HIF_IRQ_ROUTE_TGT n with
  | 0 => s
  | 1 => sendMsix (s.gf F.HIF_IRQ_ROUTE_TARGET n) (s.gf F.HIF_IRQ_ROUTE_VECTOR n) s
  | _ =>
    if n < 32 then s.sf ⟨.HIF_IRQ_PEND_LO, n, 1⟩ 0 1
    else s.sf ⟨.HIF_IRQ_PEND_HI, n - 32, 1⟩ 0 1

/-- An event of partition `p` that HIF_PEVT_EN may enable (R340): bit `e`. -/
def partEvent (p e : Nat) (s : State) : State :=
  if bitAt (s.gf F.HIF_PEVT_EN_EN p) e = 1 then raiseIrq p s else s

/-! ### The violation log (R404) -/

/-- Write a violation entry: requester, access, address, status, error kind, written value. -/
def logViol (rq : Requester) (access addr status errkind data : Nat) (s : State) : State :=
  let e := s.gf F.PRC_VIOL_STAT_HEAD 0 % 64
  let d := s.dtime
  let w : Nat → Nat → State → State := fun j v t => t.setReg .PRC_VIOL (8 * e + j) (BitVec.ofNat 32 v)
  let s := w 0 (d % 2 ^ 32) (w 1 (d / 2 ^ 32) s)
  let s := w 2 (addr % 2 ^ 32) (w 3 (addr / 2 ^ 32 % 65536 + reqCode rq * 65536) s)
  let s := w 4 (access + status * 256 + errkind * 65536 + reqPriv rq * 16777216) s
  let s := w 5 (data % 2 ^ 32) (w 6 (reqEpoch rq s) (w 7 0 s))
  let s := (s.sf F.PRC_VIOL_STAT_HEAD 0 ((e + 1) % 64)).bump F.PRC_VIOL_STAT_COUNT 0 1
  raiseIrq 37 s

/-- A command refused under a legal-state table: logged with 0x20 STATE_ERR (R78 and its like). -/
def logRefused (rq : Requester) (r : Reg) (i : Nat) (data : Nat) (s : State) : State :=
  logViol rq 4 (regAddr r i) 0x20 0 data s

/-- A write that is an access violation (R13): error response and entry, the register unchanged. -/
def denyWrite (rq : Requester) (r : Reg) (i : Nat) (data : Nat) (s : State) : State :=
  { logViol rq (writeAccess rq) (regAddr r i) 0x21 1 data s with resp := { data := 0, status := 0x21, errkind := 1 } }

/-- A read that is an access violation (R13). -/
def denyRead (rq : Requester) (r : Reg) (i : Nat) (s : State) : State :=
  { logViol rq 0 (regAddr r i) 0x21 1 0 s with resp := { data := 0, status := 0x21, errkind := 1 } }

/-- A write to a locked RWL field (R10): refused with 0x22 LOCKED and logged. -/
def lockedWrite (rq : Requester) (r : Reg) (i : Nat) (data : Nat) (s : State) : State :=
  { logViol rq (writeAccess rq) (regAddr r i) 0x22 2 data s with resp := { data := 0, status := 0x22, errkind := 2 } }

/-- Put a bus answer. -/
def State.withResp (s : State) (r : BusResp) : State := { s with resp := r }

/-- A request completed without error. -/
def okResp (d : Nat) (s : State) : State := { s with resp := { data := d } }

/-! ### The report card (R403) -/

/-- One bit of the CRC of R403: polynomial 0x1021. -/
def crc16bit (c : Nat) : Nat :=
  if c / 32768 % 2 = 1 then Nat.xor (c * 2 % 65536) 0x1021 else c * 2 % 65536

/-- CRC-16 over bytes, most significant bit first, from an initial value. -/
def crc16 (init : Nat) (l : List Nat) : Nat :=
  l.foldl (fun c b => (List.range 8).foldl (fun c _ => crc16bit c) (Nat.xor c (b * 256))) init

/-- Split a number into `n` bytes, lowest first (R7). -/
def toBytes (n v : Nat) : List Nat := (List.range n).map (fun i => v / 256 ^ i % 256)

/-- The number that bytes spell, lowest first (R7). -/
def fromBytes : List Nat → Nat
  | [] => 0
  | b :: r => b + 256 * fromBytes r

/-- Write a report-card entry (R403): severity, flags, event, partition (0xFF none), kind (0xFF none), unit, role, detail as a
48-bit number. -/
def reportSev (sev flags event part kind unit role detail : Nat) (s : State) : State :=
  let e := s.gf F.PRC_RC_STAT_HEAD 0
  let ep := if kind < 7 then roleEpoch s kind role else 0
  let body := toBytes 4 s.rel.rcSeq ++ toBytes 2 event ++ [sev, flags] ++ toBytes 8 s.dtime ++ [kind, part]
    ++ toBytes 4 unit ++ toBytes 2 ep ++ toBytes 6 detail
  let bytes := body ++ toBytes 2 (crc16 0xFFFF body)
  let s := forUpTo 8 (fun j t => t.setReg .PRC_RC (8 * e + j) (BitVec.ofNat 32 (fromBytes ((bytes.drop (4 * j)).take 4)))) s
  let s := if s.rel.rcSeq ≥ 1024 then s.bump F.PRC_RC_STAT_COUNT 0 1 else s
  let s := s.sf F.PRC_RC_STAT_HEAD 0 ((e + 1) % 1024)
  raiseIrq 38 { s with rel := { s.rel with rcSeq := (s.rel.rcSeq + 1) % 2 ^ 32 } }

/-- A report-card entry whose severity Table REL-7 does not give: it is free (entry 15). -/
def report (flags event part kind unit role detail : Nat) (s : State) : State :=
  reportSev (Config.reportSev event).toNat flags event part kind unit role detail s

/-! ### Waking from RECESS -/

/-- A wake source of R444, by its bit in RST_PWR_WAKE; 0 is WAKE written, which is always enabled. In RECESS the exit begins. -/
def wakeBy (k : Nat) (s : State) : State :=
  if s.gf F.RST_PWR_STAT_STATE 0 = 2 ∧ (k = 0 ∨ bitAt (s.gf F.RST_PWR_WAKE_EN 0) k = 1) then s.sf F.RST_PWR_STAT_EXITING 0 1 else s

/-- An access to design memory by a tutor core or by the host through BAR 2 wakes the device (R444). -/
def wakeAccess (rq : Requester) (s : State) : State :=
  match rq with
  | .pf0 => wakeBy 1 s
  | .vf _ => wakeBy 1 s
  | .core _ _ => wakeBy 1 s
  | _ => s

/-! ### Memory bytes -/

/-- First address of the blackboard, of its aliases, of HBM; size of a stack (Table MAP-1). -/
def bbBase : Nat := 0x200000000
def hbmBase : Nat := 0x1000000000
def hbmStack : Nat := 0x600000000
def granSize : Nat := 0x10000000

/-- An address of the blackboard (R131). -/
def inBB (a : Nat) : Bool := decide (bbBase ≤ a) && decide (a < bbBase + 0x10000000)

/-- An address of HBM (R132). -/
def inHbm (a : Nat) : Bool := decide (hbmBase ≤ a) && decide (a < hbmBase + 4 * hbmStack)

/-- Physical bank of a blackboard address, 256 x base + bank (R131). -/
def bankOf (a : Nat) : Nat := (a - bbBase) / 524288

/-- Stack and granule of an HBM address as 96 x stack + granule (R132). -/
def granOf (a : Nat) : Nat := (a - hbmBase) / granSize

/-- First address of bank `b`; of granule 96 x stack + granule. -/
def bankAddr (b : Nat) : Nat := bbBase + 524288 * b
def granAddr (g : Nat) : Nat := hbmBase + granSize * g

/-- An address of a local RAM, and its core (Table MAP-1). -/
def ramBase : Nat := 0x100000000
def inRam (a : Nat) : Bool := decide (ramBase ≤ a) && decide (a < ramBase + 0x1000000)
def ramCore (a : Nat) : Nat := (a - ramBase) / 0x40000

/-- The fill code of the block that holds an address, in a fill map. -/
def fillCode (fill : Store Nat) (a : Nat) : Nat :=
  if inBB a then Store.get 0 fill (bankOf a)
  else if inHbm a then Store.get 0 fill (512 + granOf a)
  else if inRam a then Store.get 0 fill (896 + ramCore a)
  else 0

/-- The fill code of the block that holds an address. -/
def MemState.fillOf (m : MemState) (a : Nat) : Nat := fillCode m.fill a

/-- What an address that nothing has written reads as: zero, the start value of R189, or what a march run left. -/
def memDefault (fill : Store Nat) (a : Nat) : Byte :=
  match fillCode fill a with
  | 0 => 0
  | 1 => if inHbm a then (if a % 16 = 8 then 0xFF else if a % 16 = 9 then Config.hbmCheck (BitVec.ofNat 72 (255 * 2 ^ 64)) else 0) else 0
  | 2 => if inHbm a && decide (a % 16 = 9) then Config.hbmCheck 0 else 0
  | n + 3 => Config.marchByte n a

/-- The byte at an address. -/
def MemState.get (m : MemState) (a : Nat) : Byte := Store.get (memDefault m.fill a) m.mem a

/-- Store a byte, keeping the canonical form. -/
def MemState.put (m : MemState) (a : Nat) (v : Byte) : MemState :=
  { m with mem := Store.set (memDefault m.fill a) a v m.mem }

/-- The canonical form of the memory: addresses strictly rising, no entry equal to what an unlisted address reads as. -/
def MemState.wf (m : MemState) : Bool := Store.wf (memDefault m.fill) m.mem

/-- Read one byte of the device's memories. -/
def State.rb (s : State) (a : Nat) : Byte := s.mem.get a

/-- Write one byte. -/
def State.wb (s : State) (a : Nat) (v : Byte) : State := { s with mem := s.mem.put a v }

/-- Read `n` bytes, lowest address first. -/
def State.rbs (s : State) (a n : Nat) : List Nat := (List.range n).map (fun i => (s.rb (a + i)).toNat)

/-- Write bytes, lowest address first. -/
def State.wbs (s : State) (a : Nat) (l : List Nat) : State :=
  match l with
  | [] => s
  | b :: r => (s.wb a (BitVec.ofNat 8 b)).wbs (a + 1) r

/-- Give a block a new fill and drop what was written in it: blocks as in `MemState.fill`. -/
def MemState.refill (m : MemState) (block code : Nat) : MemState :=
  let lo := if block < 512 then bankAddr block else if block < 896 then granAddr (block - 512) else ramBase + 0x40000 * (block - 896)
  let hi := if block < 512 then lo + 524288 else if block < 896 then lo + granSize else lo + 0x40000
  { m with
    mem := Store.clear lo hi m.mem
    fill := Store.set 0 block code m.fill
    xflip := Store.clear lo hi m.xflip
    ecc := Store.clear lo hi m.ecc }

/-- A blackboard byte holds the X code (R139). -/
def MemState.isX (m : MemState) (a : Nat) : Bool :=
  inBB a && xor (decide (Store.get 0 m.fill (bankOf a) = 1)) (Store.get false m.xflip a)

/-- Make a blackboard byte hold the X code, or a known byte. -/
def MemState.setX (m : MemState) (a : Nat) (b : Bool) : MemState :=
  { m with xflip := Store.set false a (xor (decide (Store.get 0 m.fill (bankOf a) = 1)) b) m.xflip }

/-- Wrong bits of a stored byte: 0, 1 correctable, 2 uncorrectable. -/
def MemState.err (m : MemState) (a : Nat) : Nat := Store.get 0 m.ecc a

/-- A byte written afresh has a good code word. -/
def MemState.clrErr (m : MemState) (a : Nat) : MemState := { m with ecc := Store.del a m.ecc }

end Machine
end Sys2Proof
end

