-- ==== Sys2Proof/Machine/Image.lean ====
section
/-! DEFINITION. Timetable images as bytes: header, section table, PARTITION_DESC, LAT_DESC, sizes, INIT_STATE records, bindings and
vector map (R165, R184-R188, R243, R246, R283, R481). -/
namespace Sys2Proof
namespace Machine

/-- The number in `n` bytes from offset `o` (R7). -/
def leAt (l : List Nat) (o n : Nat) : Nat := fromBytes ((l.drop o).take n)

/-- The set bits of a mask of `n` bits, rising. -/
def setBits (v n : Nat) : List Nat := (List.range n).filter fun i => bitAt v i = 1

/-- The first of the offsets at which a byte is not 0. -/
def firstBad (l : List Nat) (offs : List Nat) : Option Nat := offs.find? fun o => l.getD o 0 ≠ 0

/-- Consecutive numbers from `a`, `n` of them. -/
def span (a n : Nat) : List Nat := (List.range n).map (a + ·)

/-- The least of the faults found. -/
def leastBad (l : List (Option Nat)) : Option Nat :=
  l.foldl (fun m e => match m, e with
    | some a, some b => some (min a b)
    | none, b => b
    | a, none => a) none

/-! ### The header (Table CFG-4) -/

/-- An entry of the section table. -/
structure Sect where
  type : Nat
  off : Nat
  size : Nat
  /-- Offset of the entry in the header. -/
  at_ : Nat
  deriving DecidableEq, Repr

/-- Section entry `i` of a header. -/
def sectAt (h : List Nat) (i : Nat) : Sect :=
  { type := h.getD (64 + 16 * i) 0, off := leAt h (66 + 16 * i) 6, size := leAt h (72 + 16 * i) 6, at_ := 64 + 16 * i }

/-- The sections in use, in table order. -/
def sects (h : List Nat) : List Sect := (List.range (min 12 (h.getD 9 0))).map (sectAt h)

/-- The section of a type. -/
def sectOf (h : List Nat) (t : Nat) : Option Sect := (sects h).find? fun e => e.type == t

def imgLength (h : List Nat) : Nat := leAt h 16 8
def imgKey (h : List Nat) : Nat := h.getD 11 0
def imgEnc (h : List Nat) : Bool := decide (bitAt (h.getD 10 0) 0 = 1)
def imgIv (h : List Nat) : Nat := leAt h 24 12

/-- Offset of the SIGNATURE section. -/
def sigOff (h : List Nat) : Nat := match sectOf h 0x0F with | some e => e.off | none => imgLength h

/-- Section types that every image has. -/
def requiredSects : List Nat := [1, 2, 3, 4, 0x0A, 0x0F]

/-- The order, alignment and place of the sections from one entry on: the offset of the first entry at fault (R185). -/
def sectOrder : Nat → Nat → Nat → List Sect → Option Nat
  | _, _, _, [] => none
  | pt, po, pe, e :: r =>
    if e.type ≤ pt ∨ !((span 1 10) ++ [0x0F]).contains e.type then some e.at_
    else if e.off % 64 ≠ 0 ∨ e.off ≤ po ∨ e.off < pe ∨ (pt = 0 ∧ e.off ≠ 256) then some e.at_
    else if e.size = 0 then some e.at_
    else sectOrder e.type e.off (e.off + e.size) r

/-- A fault of the section table or of the header's reserved bytes (R184, R185): its offset. -/
def headerFault (h : List Nat) : Option Nat :=
  let n := h.getD 9 0
  let l := sects h
  let rsv := leastBad ([firstBad h (span 12 4 ++ span 48 16), if h.getD 10 0 ≥ 4 then some 10 else none,
    firstBad h (span (64 + 16 * n) (256 - (64 + 16 * n)))] ++ l.map fun e => firstBad h [e.at_ + 1, e.at_ + 14, e.at_ + 15])
  if rsv.isSome then rsv
  else if n < 6 ∨ 11 < n then some 9
  else match sectOrder 0 0 256 l with
    | some o => some o
    | none =>
      if requiredSects.any fun t => (sectOf h t).isNone then some 9
      else match sectOf h 0x0F, sectOf h 2 with
        | some g, some d => if g.size ≠ 64 ∨ g.off + g.size ≠ imgLength h then some g.at_ else if d.size ≠ 128 then some d.at_ else none
        | _, _ => some 9

/-- The image's bytes with the encrypted part decrypted (R190). -/
def plainBytes (key : Nat) (raw : List Nat) : List Nat :=
  let h := raw.take 256
  if !(imgEnc h) then raw
  else
    let e := sigOff h - 256
    let c := (raw.drop 256).take e
    let p := (c.zip (List.range c.length)).map fun x => Nat.xor x.1 (Config.gcmStream key (imgIv h) x.2).toNat
    h ++ p ++ raw.drop (256 + e)

/-- The bytes of a section; none of an absent one. -/
def sectBytes (raw : List Nat) (t : Nat) : List Nat :=
  match sectOf (raw.take 256) t with
  | some e => (raw.drop e.off).take e.size
  | none => []

/-! ### PARTITION_DESC (Table CFG-6) -/

def pdImgDepth (d : List Nat) : Nat := leAt d 0 2
def pdDual (d : List Nat) : Bool := decide (bitAt (d.getD 2 0) 0 = 1)
def pdXmode (d : List Nat) : Bool := decide (bitAt (d.getD 2 0) 1 = 1)
def pdAuto (d : List Nat) : Bool := decide (bitAt (d.getD 2 0) 2 = 1)
def pdNio (d : List Nat) : Nat := leAt d 316 2
def pdNclamp (d : List Nat) : Nat := leAt d 318 2

/-- The IO list, one word each; the CLAMP list. -/
def pdIo (d : List Nat) : List Nat := (List.range (pdNio d)).map fun i => leAt d (384 + 4 * i) 4
def pdClamps (d : List Nat) : List Nat := (List.range (pdNclamp d)).map fun i => leAt d (384 + 4 * (pdNio d + i)) 4

/-- The resource that an IO entry names. -/
def ioKey (w : Nat) : Nat := 2 * (8192 * bitAt w 15 + (bitsAt w 0 15 - 0x6000)) + bitAt w 16

/-- The resources declared. -/
def pdRes (d : List Nat) : Resources :=
  { classes := setBits (leAt d 16 32) 256, segs := setBits (leAt d 48 64) 512, slots := setBits (leAt d 112 48) 384
    banks := setBits (leAt d 160 64) 512
    regions := ((List.range 64).filter fun i => d.getD (224 + i) 0 ≠ 0).map fun i => (i, d.getD (224 + i) 0)
    budget := (List.range 4).map fun k => d.getD (288 + k) 0
    ports := setBits (d.getD 292 0) 8, stw := setBits (leAt d 296 8) 64, gpio := setBits (leAt d 304 12) 96
    io := (pdIo d).map ioKey }

/-- Bytes of PARTITION_DESC by its own counts (Table CFG-5). -/
def pdSize (d : List Nat) : Nat := (384 + 4 * (pdNio d + pdNclamp d) + 63) / 64 * 64

/-- A reserved byte or bit of PARTITION_DESC that is not 0 (R481): its offset. A bad IMG_DEPTH is a fault at offset 0. -/
def pdFault (d : List Nat) : Option Nat :=
  let n := pdNio d
  let used := 384 + 4 * (n + pdNclamp d)
  leastBad ([firstBad d ([3, 6, 7, 293, 294, 295] ++ span 320 64 ++ span used (d.length - used)),
    if d.getD 2 0 ≥ 8 then some 2 else none,
    if pdImgDepth d < 8 ∨ 4096 < pdImgDepth d ∨ pdImgDepth d % 8 ≠ 0 then some 0 else none,
    if d.length ≠ pdSize d then some 316 else none]
    ++ (List.range n).map (fun i => if leAt d (384 + 4 * i) 4 ≥ 131072 then some (386 + 4 * i) else none)
    ++ (List.range (pdNclamp d)).map fun i =>
      let w := leAt d (384 + 4 * (n + i)) 4
      if bitsAt w 14 2 ≠ 0 then some (385 + 4 * (n + i)) else if w ≥ 524288 then some (386 + 4 * (n + i)) else none)

/-! ### LAT_DESC (Table CON-3) -/

def ldDecl (l : List Nat) (c : Nat) : Nat := leAt l (2 * c) 2
def ldChain (l : List Nat) : Nat := l.getD 32 0
def ldVector (l : List Nat) : Nat := l.getD 33 0
def ldData (l : List Nat) (i : Nat) : Nat := leAt l (36 + 8 * i) 2
def ldCtl (l : List Nat) (i : Nat) : Nat := l.getD (38 + 8 * i) 0
def ldVret (l : List Nat) (i : Nat) : Nat := leAt l (40 + 8 * i) 2

/-- A reserved byte of LAT_DESC that is not 0 (R481). -/
def ldFault (l : List Nat) : Option Nat :=
  leastBad (firstBad l (span 18 6 ++ [34, 35] ++ span 100 28) :: (List.range 8).map fun i =>
    firstBad l (if bitAt (ldChain l) i = 1 ∨ bitAt (ldVector l) i = 1 then [39 + 8 * i, 42 + 8 * i, 43 + 8 * i] else span (36 + 8 * i) 8))

/-- The largest declaration of class `c` (Table CON-2). -/
def declMax (c : Nat) : Nat := [18, 21, 55, 18, 19, 1023, 31, 27, 25].getD c 0

/-- How a load ends: result, detail and the three report words (Table CFG-13). -/
structure LoadEnd where
  result : Nat
  detail : Nat := 0
  a : Nat := 0
  b : Nat := 0
  c : Nat := 0
  deriving DecidableEq, Repr

/-- The latency checks in ascending class, then the ports (R161, R162, R166). -/
def latCheck (l : List Nat) (act : Nat → Nat) (ports : List Nat) : Option LoadEnd :=
  let cls := (List.range 16).filterMap fun c =>
    let v := ldDecl l c
    if c < 9 then
      if v < act c then some { result := 0x14, a := c, b := v, c := act c : LoadEnd }
      else if declMax c < v then some { result := 0x15, detail := 3, a := 12, b := c * 65536 + v, c := declMax c }
      else none
    else if c = 12 then
      if v ≠ 0 ∧ (v < 17 ∨ 4095 < v) then some { result := 0x15, detail := 3, a := 12, b := c * 65536 + v, c := 4095 } else none
    else if c ≥ 13 ∧ v ≠ 0 then some { result := 0x13, detail := 2, a := c, b := v } else none
  let prt := (List.range 8).filterMap fun i =>
    let ch := decide (bitAt (ldChain l) i = 1)
    let ve := decide (bitAt (ldVector l) i = 1)
    let badC := ch && (decide (ldData l i < 64 ∨ 4095 < ldData l i) || decide (ldCtl l i = 0) || decide (ldDecl l 12 = 0))
    let badV := ve && decide (ldVret l i < 32 ∨ 4095 < ldVret l i)
    if (ch && ve) || badC || badV || ((ch || ve) && !ports.contains i) then some { result := 0x15, detail := 3, a := 13, b := i : LoadEnd } else none
  (cls ++ prt).head?

/-! ### Owned destinations and sizes (Table CFG-5) -/

/-- Owned hallway destinations of a die, ascending. -/
def hallDests (r : Resources) (die : Nat) : List Nat :=
  ((r.classes.filter fun n => n / 32 = die).flatMap fun n => span (64 * (n % 32)) 64)
    ++ (r.segs.filter fun g => g / 64 = die).flatMap fun g => span (4096 + 512 * (g / 8 % 8) + 64 * (g % 8)) 64

/-- The slots of a slot group. -/
def groupSlots (k q : Nat) : List Nat := if k < 16 then span (344 * k + 43 * q) 43 else span (5504 + 336 * (k - 16) + 42 * q) 42

/-- Owned base destinations of a base, ascending. -/
def baseDests (r : Resources) (b : Nat) : List Nat :=
  ((r.segs.filter fun g => g / 256 = b).flatMap fun g => span (4096 * (g / 64 % 4) + 512 * (g / 8 % 8) + 64 * (g % 8)) 64)
    ++ ((r.slots.filter fun g => g % 16 / 8 = b).flatMap fun g => (groupSlots (g / 16) (g % 8)).map (0x4000 + ·))
    ++ ((List.range 8192).filter fun i => r.io.contains (2 * (8192 * b + i) + 1)).map (0x6000 + ·)

/-- The SIZE that Table CFG-5 gives a section, where it gives one number. -/
def expectSize (r : Resources) (d t : Nat) (body : List Nat) : Option Nat :=
  let n := r.classes.length
  match t with
  | 3 => some (n * d * 4096)
  | 4 => some (n * d * 128)
  | 5 => some (2 * (d + 12) * ((List.range 8).map fun die => (hallDests r die).length).sum)
  | 6 => some (2 * (d + 12) * ((baseDests r 0).length + (baseDests r 1).length))
  | 7 => some (n * d * 12)
  | 8 => some ((512 + 24 * leAt body 0 2 + 63) / 64 * 64)
  | 9 => some ((64 + 32 * leAt body 0 2 + 63) / 64 * 64)
  | 0x0A => if body.length % 8 = 0 then none else some 0
  | _ => none

/-! ### INIT_STATE (R187, R188) -/

/-- A record: values are entry codes, or data and flags of words. -/
structure InitRec where
  type : Nat
  const : Bool
  fill : Bool
  unit : Nat
  sub : Nat
  bp : Nat
  first : Nat
  count : Nat
  /-- Payload. -/
  body : List Nat
  deriving DecidableEq, Repr

/-- Value `i` of a record: the entry code, or the 16 bytes of the word as a number. -/
def InitRec.val (r : InitRec) (i : Nat) : Nat :=
  let j := if r.fill then 0 else i
  if r.type = 1 then bitsAt (r.body.getD (j / 4) 0) (2 * (j % 4)) 2 else leAt r.body (16 * j) 16

/-- The first fault of a payload (R187). -/
def payloadFault (type used : Nat) (b : List Nat) (len : Nat) : Option Nat :=
  leastBad ([firstBad b (span len (b.length - len))]
    ++ if type = 1 then
      [((List.range used).find? fun j => decide (bitsAt (b.getD (j / 4) 0) (2 * (j % 4)) 2 = 3)).map (· / 4),
       if used % 4 ≠ 0 ∧ b.getD (len - 1) 0 / 4 ^ (used % 4) ≠ 0 then some (len - 1) else none]
    else [firstBad b ((List.range used).flatMap fun j => span (16 * j + 9) 7)])

/-- The records of INIT_STATE, or the offset of a fault in the section. -/
def initRecs : Nat → Nat → List Nat → Except Nat (List InitRec)
  | 0, _, _ => .ok []
  | fuel + 1, pos, l =>
    let h := l.drop pos
    if h.isEmpty then .ok []
    else if h.length < 16 then .error pos
    else
      let ty := h.getD 0 0
      let fl := h.getD 1 0
      let count := leAt h 12 4
      let used := if bitAt fl 1 = 1 then 1 else count
      let len := if ty = 1 then (2 * used + 7) / 8 else 16 * used
      let pad := (len + 7) / 8 * 8
      let body := (h.drop 16).take pad
      if ty = 0 ∨ 3 < ty ∨ fl ≥ 4 ∨ leAt h 2 2 ≠ 0 ∨ (ty = 1 ∧ h.getD 5 0 ≠ 0) ∨ (ty ≠ 1 ∧ leAt h 6 2 ≠ 0) ∨ body.length < pad then .error pos
      else match payloadFault ty used body len with
        | some o => .error (pos + 16 + o)
        | none =>
          let r : InitRec := { type := ty, const := bitAt fl 0 = 1, fill := bitAt fl 1 = 1, unit := h.getD 4 0, sub := h.getD 5 0
                               bp := leAt h 6 2, first := leAt h 8 4, count := count, body := body }
          match initRecs fuel (pos + 16 + pad) l with
          | .ok rs => .ok (r :: rs)
          | .error o => .error o

/-! ### Stopwatch bindings and the vector map -/

/-- The 32-byte entries of STOPWATCH_BIND: NB stands in the first bytes. -/
def bindEntries (l : List Nat) : List Nat := (List.range (leAt l 0 2)).map fun i => leAt l (64 + 32 * i) 32

/-- The bits of a 256-bit entry that are reserved. -/
def bindFault (w : Nat) : Bool :=
  let kind := bitsAt w 8 8
  let limits := bitAt w 20
  !(((span 0 8) ++ [15]).contains kind) || decide (bitsAt w 21 3 ≠ 0) || decide (bitsAt w 168 88 ≠ 0)
    || decide (limits = 1 ∧ bitsAt w 80 8 ≠ 0)

/-- A format fault of STOPWATCH_BIND (R243): its offset. -/
def bindSectFault (l : List Nat) : Option Nat :=
  let n := leAt l 0 2
  leastBad ([firstBad l (span 2 62 ++ span (64 + 32 * n) (l.length - (64 + 32 * n))), if n = 0 ∨ 256 < n then some 0 else none]
    ++ (List.range n).map fun i => if bindFault (leAt l (64 + 32 * i) 32) then some (64 + 32 * i) else none)

/-- Gap in steps from the CLOSE of one window to the next OPEN of its input, cyclically (R246). -/
def closeToOpen (len cl op : Nat) : Nat := if cl ≤ op then op - cl else op + len - cl

/-- The bindings fit the partition (R246): inputs owned, sources in the IO list, windows legal. -/
def bindsFit (r : Resources) (d : Nat) (l : List Nat) : Bool :=
  let inp : Nat → Nat := fun w => bitsAt w 0 8
  let kind : Nat → Nat := fun w => bitsAt w 8 8
  let op : Nat → Nat := fun w => bitsAt w 32 16
  let cl : Nat → Nat := fun w => bitsAt w 48 16
  let bits : Nat → Nat := fun w => if kind w = 15 then 1 else if bitAt w 20 = 1 then 3 else 1 + bitsAt w 80 8
  let src : Nat → Nat := fun w => bitsAt w 64 16
  let has : Nat → Nat → Bool := fun w b => (span (src w - 0x6000) (bits w)).all fun i => r.io.contains (2 * (8192 * b + i))
  let timed := l.filter fun w => kind w ≠ 15
  l.all fun w =>
    decide (0x6000 ≤ src w) && decide (src w + bits w ≤ 0x6200) && decide (op w < cl w) && decide (cl w ≤ d + 11)
      && (if kind w = 15 then has w 0 || has w 1 else has w (inp w / 32) && r.stw.contains (inp w))
      && !(decide (kind w = 5 ∨ kind w = 6) && decide (inp w % 2 = 1))
      && !(decide (kind w = 7) && !r.stw.contains (bitsAt w 24 8))
      && (decide (kind w = 15) || (timed.filter fun v => inp v = inp w).all fun v =>
        (decide (op v = op w ∧ cl v = cl w) || decide (cl v ≤ op w) || decide (cl w ≤ op v))
          && (decide (20 ≤ closeToOpen (d + 12) (cl w) (op v))))
      && decide ((timed.filter fun v => inp v = inp w ∧ op v = op w ∧ cl v = cl w).length ≤ 4)

/-- The vector-map entries, as numbers of 24 bytes; the port descriptors: port, LAUNCH, FCFG; the entries they name. -/
def vmEntries (l : List Nat) : List Nat := (List.range (leAt l 0 2)).map fun e => leAt l (512 + 24 * e) 24
def vmPorts (l : List Nat) : List (Nat × Nat × Nat) :=
  (List.range 8).filterMap fun i => if leAt l (64 + 56 * i) 2 = 0 then none else some (i, leAt l (66 + 56 * i) 2, leAt l (72 + 56 * i) 48)

/-- A format fault of VECTOR_MAP (R283): its offset. `vec` are the vector ports. -/
def vmFault (l : List Nat) (vec d : Nat) : Option Nat :=
  let n := leAt l 0 2
  let es := vmEntries l
  let key : Nat → Nat := fun e => 1024 * bitsAt e 10 3 + bitsAt e 0 10
  leastBad ([firstBad l (span 2 62 ++ (List.range 8).flatMap fun i => [70 + 56 * i, 71 + 56 * i]),
    firstBad l (span (512 + 24 * n) (l.length - (512 + 24 * n)))]
    ++ (List.range 8).map (fun i =>
      let o := 64 + 56 * i
      let c := leAt l o 2
      let isV := decide (bitAt vec i = 1)
      if isV ∧ (c = 0 ∨ 1024 < c) then some o
      else if !isV ∧ c ≠ 0 then some o
      else if isV ∧ c ≠ (es.filter fun e => bitsAt e 10 3 = i).length then some o
      else if isV ∧ d + 11 < leAt l (o + 2) 2 then some (o + 2)
      else if isV ∧ leAt l (o + 4) 2 ≠ (es.filter fun e => bitsAt e 10 3 < i).length then some (o + 4)
      else none)
    ++ (List.range n).map (fun k =>
      let e := es.getD k 0
      let o := 512 + 24 * k
      let launch := leAt l (66 + 56 * bitsAt e 10 3) 2
      if bitsAt e 13 3 ≠ 0 ∨ bitAt vec (bitsAt e 10 3) = 0 then some o
      else if k ≠ 0 ∧ key e ≤ key (es.getD (k - 1) 0) then some o
      else if [16, 32, 48].any fun b => launch ≤ bitsAt e b 16 then some (o + 2)
      else if 2 < bitsAt e 64 8 then some (o + 8)
      else if bitsAt e 80 112 ≠ 0 then some (o + 10)
      else none))

end Machine
end Sys2Proof
end

