-- ==== Sys2Proof/Machine/Funnel.lean ====
section
/-! DEFINITION. The funnel: one byte stream of records into the ring of DBG_FUN_CFG (R382). -/
namespace Sys2Proof
namespace Machine

/-- The ring is on and has an area. -/
def funOn (s : State) : Bool := decide (s.gf F.DBG_FUN_CFG_SINK 0 = 1) && decide (s.gf F.DBG_FUN_CFG_COUNT 0 ≠ 0)

/-- First byte of the ring; its 64-byte lines. -/
def funBase (s : State) : Nat := granAddr (96 * s.gf F.DBG_FUN_CFG_STACK 0 + s.gf F.DBG_FUN_CFG_FIRST 0)
def funLines (s : State) : Nat := granSize / 64 * s.gf F.DBG_FUN_CFG_COUNT 0

/-- Write one full line of the ring. -/
def funLine (l : List Nat) (s : State) : State :=
  let n := s.gf F.DBG_FUN_WR_LINE 0
  let s := s.wbs (funBase s + 64 * n) l
  if funLines s ≤ n + 1 then (s.sf F.DBG_FUN_WR_LINE 0 0).sf F.DBG_FUN_WR_WRAPPED 0 1 else s.sf F.DBG_FUN_WR_LINE 0 (n + 1)

/-- Append bytes to the stream; full lines go to the ring. -/
def funBytes (b : List Nat) (s : State) : State :=
  let l := s.trc.funLine ++ b
  let n := l.length / 64
  let s := forUpTo n (fun i t => funLine ((l.drop (64 * i)).take 64) t) s
  { s with trc := { s.trc with funLine := l.drop (64 * n), funPos := s.trc.funPos + b.length } }

/-- The sync record at a 4,096-byte boundary of the stream. -/
def funSync (s : State) : State :=
  if s.trc.funPos % 4096 = 0 then
    funBytes ([0x7F, 14, 1, 0] ++ toBytes 8 s.dtime ++ toBytes 4 (s.trc.funPos / 4096)) s
  else s

/-- Append a record; one that would cross a boundary is put behind padding and the sync record. -/
def funRecord (src : Nat) (b : List Nat) (s : State) : State :=
  let s := funSync s
  let r := [src, b.length] ++ b
  let room := 4096 - s.trc.funPos % 4096
  if room < r.length then funBytes r (funSync (funBytes (List.replicate room 0) s))
  else funBytes r s

/-- Give a packet of a source to the funnel. Whether the source's FIFO is full the specification leaves open: it gives neither a
depth nor a rate. -/
def funnelPut (src : Nat) (b : List Nat) (s : State) : State :=
  if !(funOn s) then s
  else
    let full := Config.funFull s.seq
    let lost := Store.get 0 s.trc.funLost src
    let s := { s with seq := s.seq + 1 }
    if full then
      { s.bump F.DBG_FUN_LOST_COUNT 0 1 with trc := { s.trc with funLost := Store.set 0 src (lost + 1) s.trc.funLost } }
    else
      let s := if lost = 0 then s
        else
          let s := funRecord 0x7F ([2, src] ++ toBytes 2 (min lost 65535)) s
          { s with trc := { s.trc with funLost := Store.set 0 src 0 s.trc.funLost } }
      funRecord src b s

end Machine
end Sys2Proof
end

