-- ==== Sys2Proof/Machine/Fault.lean ====
section
/-! DEFINITION. Partition records, the step-clock count, run-time faults: detection, records, requests to the bell
controller (R112, R163, R169-R177). -/
namespace Sys2Proof
namespace Machine

/-- The record of partition `p`. -/
def State.part (s : State) (p : Nat) : PartRec := Store.get {} s.parts p

/-- Replace the record of partition `p`. -/
def State.setPart (s : State) (p : Nat) (r : PartRec) : State := { s with parts := Store.set {} p r s.parts }

/-- Change the record of partition `p`. -/
def State.modPart (s : State) (p : Nat) (f : PartRec → PartRec) : State := s.setPart p (f (s.part p))

/-! Partition states (Table BELL-3). -/
def stEmpty : Nat := 0
def stLoading : Nat := 1
def stLoaded : Nat := 2
def stArmed : Nat := 3
def stRunning : Nat := 4
def stFrozen : Nat := 5
def stHalted : Nat := 6
def stFenced : Nat := 7

/-- PART_STATE.STATE of partition `p`. -/
def State.pst (s : State) (p : Nat) : Nat := s.gf F.PART_STATE_STATE p

/-- The partition is RUNNING or FROZEN. -/
def State.live (s : State) (p : Nat) : Bool := decide (s.pst p = stRunning) || decide (s.pst p = stFrozen)

/-- X-mode in force. -/
def State.xmode (s : State) (p : Nat) : Bool := s.flag F.PART_CFG_XMODE p

/-- The logical classes of partition `p`, in rising order. -/
def State.classes (s : State) (p : Nat) : List Nat :=
  (List.range 256).filter fun n => s.flag F.CLS_SEQ_STATUS_ASSIGNED n && decide (s.gf F.CLS_SEQ_STATUS_PART n = p)

/-- The lead base of partition `p`: the base of its lowest class (R112). -/
def State.leadBase (s : State) (p : Nat) : Nat :=
  match s.classes p with
  | [] => 0
  | n :: _ => n / 128

/-- The partition has classes on both bases. -/
def State.spans (s : State) (p : Nat) : Bool :=
  (s.classes p).any (fun n => decide (n < 128)) && (s.classes p).any (fun n => decide (128 ≤ n))

/-- Declared latency of class `c` for partition `p` (R161: the effective latency). -/
def State.lat (s : State) (p c : Nat) : Nat := s.gf F.PART_LAT_DECL_DECL (16 * p + c)

/-- The freeze state of partition `p`. -/
def State.fz (s : State) (p : Nat) : FrzPart := Store.get {} s.frz.parts p

/-- Replace the freeze state of partition `p`. -/
def State.setFz (s : State) (p : Nat) (r : FrzPart) : State :=
  { s with frz := { s.frz with parts := Store.set {} p r s.frz.parts } }

/-- TEMPO_OUT at the SCC reached: the rises that have come, the fall after WIDTH, and the fall the step clock before a rise (R73). -/
def toutAt (s : State) : State :=
  let z := s.tmp
  let now := z.rises.filter (· ≤ s.scc)
  let later := z.rises.filter (s.scc < ·)
  let z := match now.getLast? with
    | some t => { z with out := true, fall := t + s.gf F.PART_TOUT_CFG_WIDTH 0, rises := later }
    | none => z
  let low := decide (z.fall ≤ s.scc) || later.contains (s.scc + 1)
  { s with tmp := { z with out := z.out && !low } }

/-- Let step clocks pass until SCC is `n`: FROZEN partitions count them (R112, R130), and the stopwatch timebase runs on: 256 fine
LSB in 625 ps (R233). -/
def advanceTo (n : Nat) (s : State) : State :=
  if n ≤ s.scc then s
  else
    let d := n - s.scc
    let s := forUpTo 16 (fun p t =>
      if t.pst p = stFrozen then t.setFz p { t.fz p with clocks := ((t.fz p).clocks + d) % 2 ^ 64 } else t) s
    let f := s.gf F.GLB_STEP_FREQ_FREQ 0
    let t := 65536 * d + s.stw.tbRem
    let s := if f = 0 then s else { s with stw := { s.stw with tb := (s.stw.tb + t / f) % 2 ^ 64, tbRem := t % f } }
    toutAt { s with scc := n }

/-- What a step does on an empty queue: one step clock passes (entry 1). -/
def idle (s : State) : State := advanceTo (s.scc + 1) s

/-- A run-time check that fired: code, location (Table CON-8), whether it marks the bell corrupt. -/
structure StepFault where
  code : Nat
  locA : Nat := 0
  locB : Nat := 0
  locC : Nat := 0
  corrupt : Bool := true
  deriving DecidableEq, Repr

/-- The action called for by a code: 0b11 is clamped to HALT_AT_BELL, and CONTINUE_MARK for 0x0A too (R175, R177). -/
def faultAction (p code : Nat) (s : State) : Nat :=
  if code = 0 ∨ code ≥ 12 then 2
  else
    let a := s.gf (F.PART_FAULT_ACTION_ACT.nth (code - 1)) p
    if a = 3 ∨ (code = 10 ∧ a = 2) then 0 else a

/-- Instance number of word `w` of fault record `e` of partition `p`. -/
def frec (p e w : Nat) : Nat := 512 * p + 8 * e + w

/-- Record `e` of partition `p` is unread (R174). -/
def recUnread (p e : Nat) (s : State) : Bool :=
  decide ((e + 64 - s.gf F.PART_FAULT_TAIL_TAIL p) % 64 < s.gf F.PART_FAULT_HEAD_UNREAD p)

/-- Word 0 of a fault record (Table CON-7). -/
def frecWord0 (code action : Nat) (noact corrupt gap replay : Bool) (step : Nat) : Nat :=
  code + 256 * action + 1024 * b2n noact + 2048 * b2n corrupt + 4096 * b2n gap + 8192 * b2n replay + 65536 * (step % 4096)
    + 2147483648

/-- Write a record, or merge it into one of the four most recent that is alike and unread (R171, R173, R174). -/
def writeFaultRec (p : Nat) (f : StepFault) (gap : Bool) (step bell : Nat) (noact : Bool) (s : State) : State :=
  let act := faultAction p f.code s
  let s := s.sf ⟨.PART_FAULT_HEAD, 16 + (f.code - 1), 1⟩ p 1
  let r := s.part p
  let same : Nat → Bool := fun e =>
    recUnread p e s && decide (bitsAt (s.reg .PART_FAULT_LOG (frec p e 0)).toNat 0 8 = f.code)
      && decide (bitAt (s.reg .PART_FAULT_LOG (frec p e 0)).toNat 12 = b2n gap)
      && decide (bitsAt (s.reg .PART_FAULT_LOG (frec p e 0)).toNat 16 12 = step % 4096)
      && decide ((s.reg .PART_FAULT_LOG (frec p e 3)).toNat = f.locA)
      && decide ((s.reg .PART_FAULT_LOG (frec p e 4)).toNat = f.locB)
      && decide ((s.reg .PART_FAULT_LOG (frec p e 5)).toNat = f.locC)
  match r.recent.find? same with
  | some e => s.bump ⟨.PART_FAULT_LOG, 16, 16⟩ (frec p e 2) 1
  | none =>
    let cnt := if r.recScc = s.scc then r.recCnt else 0
    if s.gf F.PART_FAULT_HEAD_UNREAD p ≥ 64 ∨ cnt ≥ 8 then s.bump F.PART_FAULT_LOST_COUNT p 1
    else
      let e := s.gf F.PART_FAULT_HEAD_HEAD p
      let w : Nat → Nat → State → State := fun j v t => t.setReg .PART_FAULT_LOG (frec p e j) (BitVec.ofNat 32 v)
      let s := w 0 (frecWord0 f.code act noact f.corrupt gap (s.flag F.TRC_REPLAY_STAT_ACTIVE p) step) s
      let s := w 1 (bell % 2 ^ 32) (w 2 (bell / 2 ^ 32 % 65536) (w 3 f.locA (w 4 f.locB (w 5 f.locC s))))
      let s := w 6 (s.scc % 2 ^ 32) (w 7 (s.scc / 2 ^ 32) s)
      let s := (s.sf F.PART_FAULT_HEAD_HEAD p ((e + 1) % 64)).sf F.PART_FAULT_HEAD_UNREAD p (s.gf F.PART_FAULT_HEAD_UNREAD p + 1)
      let s := s.setPart p { s.part p with recent := e :: (r.recent.take 3), recScc := s.scc, recCnt := cnt + 1 }
      partEvent p 3 s

/-- Send the fault's request toward the bell controller, where it arrives FLT steps after detection (R163). -/
def sendFaultReq (p code : Nat) (s : State) : State :=
  let r := s.part p
  s.setPart p { r with travel := r.travel ++ [{ due := r.count + s.lat p 8, code := code, action := faultAction p code s }] }

/-- Mark the bell in progress corrupt (R169). -/
def markCorrupt (p : Nat) (s : State) : State := s.modPart p fun r => { r with corrupt := true }

/-- A run-time check that fired at a step or gap step of partition `p` (R169, R170): recorded, the bell marked, the action
requested when the partition is RUNNING or FROZEN. -/
def raiseFault (p : Nat) (f : StepFault) (gap : Bool) (step : Nat) (s : State) : State :=
  let live := s.live p
  let noact := !live || decide (f.code = 12)
  let s := writeFaultRec p f gap step (s.part p).bell noact s
  let s := if f.corrupt then markCorrupt p s else s
  if noact then s else sendFaultReq p f.code s

/-- The step in progress: timetable or gap step, and whether it is a gap step. -/
def State.curStep (s : State) (p : Nat) : Nat × Bool := (s.gf F.PART_STATE_STEP p, s.flag F.PART_STATE_IN_GAP p)

/-- The step whose enable comes next (R149): the one in PART_STATE while it has had none, else the one after it. -/
def nextStep (p : Nat) (s : State) : Nat × Bool :=
  if (s.part p).fresh then s.curStep p
  else if s.flag F.PART_STATE_IN_GAP p then
    if s.gf F.PART_STATE_STEP p ≥ 11 then (0, false) else (s.gf F.PART_STATE_STEP p + 1, true)
  else if s.gf F.PART_STATE_STEP p + 1 ≥ s.gf F.PART_CFG_DEPTH p then (0, true)
  else (s.gf F.PART_STATE_STEP p + 1, false)

/-- Put a step into PART_STATE. -/
def setStep (p : Nat) (st : Nat × Bool) (s : State) : State :=
  (s.sf F.PART_STATE_STEP p st.1).sflag F.PART_STATE_IN_GAP p st.2

/-- SCC of the next step enable a partition can have: one in each step clock. -/
def nextScc (p : Nat) (s : State) : Nat := if (s.part p).lastScc = some s.scc then s.scc + 1 else s.scc

/-- The partition has a step enable to come before anything else: RUNNING, not waiting for tempo, no freeze point before it
(R63, R114). -/
def canStep (p : Nat) (s : State) : Bool :=
  decide (s.pst p = stRunning) && !(s.flag F.PART_STATE_WAITING p)
    && (match (s.fz p).f with | some f => decide (nextScc p s < f) | none => true)

/-- The life cycle is SERVICE (R193), and the boot-ROM phase is over (Table DBG-8). -/
def State.inService (s : State) : Bool := decide (s.gf F.GLB_LCS_STATE 0 = 2) && !(s.flag F.GLB_LCS_ROM_PHASE 0)

/-- A hall pass in force lifts the refusals of R228 for partition `p` (R384, Table DBG-9). -/
def passCovers (p : Nat) (s : State) : Bool :=
  s.flag F.DBG_HP_STAT_ACTIVE 0 && decide (bitAt (s.gf F.DBG_HP_STAT_SCOPE 0) 1 = 1)
    && decide (bitAt (s.gf F.DBG_HP_STAT_PARTS 0) p = 1)

/-- The image of a slot. -/
def PartRec.img (r : PartRec) (slot : Nat) : SlotImg := if slot = 0 then r.img0 else r.img1

/-- The partition's image has SEALED = 1. -/
def State.sealed (s : State) (p : Nat) : Bool := (s.part p).img0.sealed || (s.part p).img1.sealed

/-- R228 refuses capture and trace of partition `p`. -/
def sealedOut (p : Nat) (s : State) : Bool := s.inService && s.sealed p && !passCovers p s

/-- The step field of a journal entry: step in [11:0], gap step in [12] (Table OBS-2). -/
def jrnStep (st : Nat × Bool) : Nat := st.1 % 4096 + 4096 * b2n st.2

/-- A freeze or resume packet on funnel source 0x70 (R121, Table OBS-4): type 0x10 FREEZE, 0x11 RESUME. -/
def freezePacket (p type : Nat) (s : State) : State :=
  if sealedOut p s then s
  else
    let bytes := [type, p] ++ toBytes 2 (jrnStep (s.curStep p)) ++ toBytes 2 (s.gf F.PART_FRZ_STATUS_CAUSE p) ++ [0, 0] ++ toBytes 8 s.scc
    funnelPut 0x70 bytes s

/-- Insert a fault into a list kept in ascending code, then ascending LOC_A (R174). -/
def faultInsert (f : StepFault) : List StepFault → List StepFault
  | [] => [f]
  | g :: r => if f.code < g.code ∨ (f.code = g.code ∧ f.locA < g.locA) then f :: g :: r else g :: faultInsert f r

/-- The faults of one step, raised in the order of R174. -/
def raiseFaults (p : Nat) (l : List StepFault) (gap : Bool) (step : Nat) (s : State) : State :=
  forEach (l.foldl (fun a f => faultInsert f a) []) (fun f t => raiseFault p f gap step t) s

end Machine
end Sys2Proof
end

