-- ==== Sys2Proof/Machine/Freeze.lean ====
section
/-! DEFINITION. The freeze controllers: requests, registration, freeze and resume points, bridge and chain freeze messages
(R112-R130, R277, R278). -/
namespace Sys2Proof
namespace Machine

/-- The controller of base `b` for a partition. -/
def FrzPart.ctl (z : FrzPart) (b : Nat) : FrzCtl := if b = 0 then z.west else z.east

/-- Replace the controller of base `b`. -/
def FrzPart.setCtl (z : FrzPart) (b : Nat) (c : FrzCtl) : FrzPart := if b = 0 then { z with west := c } else { z with east := c }

/-- Change the controller of base `b` for partition `p`. -/
def modCtl (p b : Nat) (f : FrzCtl → FrzCtl) (s : State) : State :=
  s.setFz p ((s.fz p).setCtl b (f ((s.fz p).ctl b)))

/-- Bring PART_FRZ_STATUS of partition `p` up to date: the causes active on either base, the scheduled points, the lead. -/
def frzStatus (p : Nat) (s : State) : State :=
  let z := s.fz p
  let on : Nat → Bool := fun c => z.west.items.any (fun i => i.1 == c) || z.east.items.any (fun i => i.1 == c)
  let mask := (List.range 13).foldl (fun m c => m + b2n (on c) * 2 ^ c) 0
  let s := (s.sf F.PART_FRZ_STATUS_CAUSE p mask).sflag F.PART_FRZ_STATUS_F_SCHED p z.f.isSome
  (s.sflag F.PART_FRZ_STATUS_R_SCHED p z.r.isSome).sf F.PART_FRZ_STATUS_LEAD p (s.leadBase p)

/-- The registration point of something raised at SCC `t`: the first even SCC at least 2 later (R113). -/
def regPoint (t : Nat) : Nat := let m := t + 2; m + m % 2

/-- Raise a freeze request of partition `p` on base `b` (R113, R116): in LOADED, ARMED and HALTED the cause is recorded,
in RUNNING and FROZEN it waits for registration, in any other state it is dropped. -/
def raiseFreeze (p b cause src : Nat) (s : State) : State :=
  let st := s.pst p
  if st = stRunning ∨ st = stFrozen then
    modCtl p b (fun c => { c with raised := c.raised ++ [{ raised := s.scc, cause := cause, src := src }] }) s
  else if st = stLoaded ∨ st = stArmed ∨ st = stHalted then
    frzStatus p (modCtl p b (fun c => { c with items := c.items ++ [(cause, src)] }) s)
  else s

/-- Raise a request on the lead base, for the causes of Table FRZ-1. -/
def raiseLead (p cause src : Nat) (s : State) : State := raiseFreeze p (s.leadBase p) cause src s

/-- Remove the first outstanding item of a cause and source unit. -/
def dropItem (cause src : Nat) : List (Nat × Nat) → List (Nat × Nat)
  | [] => []
  | i :: r => if i = (cause, src) then r else i :: dropItem cause src r

/-- Release one item of a cause on base `b` (R113, R115): registered at the next registration point while the partition is
RUNNING or FROZEN, at once otherwise. -/
def releaseItem (p b cause src : Nat) (s : State) : State :=
  if s.live p then
    modCtl p b (fun c => { c with rel := c.rel ++ [{ raised := s.scc, cause := cause, src := src }] }) s
  else frzStatus p (modCtl p b (fun c => { c with items := dropItem cause src c.items }) s)

/-- Release every outstanding item of a cause, on both bases. -/
def releaseCause (p cause : Nat) (s : State) : State :=
  let z := s.fz p
  let all : Nat → List (Nat × Nat) := fun b =>
    ((z.ctl b).items ++ (z.ctl b).raised.map (fun r => (r.cause, r.src))).filter (fun i => i.1 == cause)
  let s := forEach (all 0) (fun i t => releaseItem p 0 i.1 i.2 t) s
  forEach (all 1) (fun i t => releaseItem p 1 i.1 i.2 t) s

/-- Drop every cause and schedule of a partition that enters FENCED or EMPTY (R116). -/
def dropFreeze (p : Nat) (s : State) : State :=
  frzStatus p (s.setFz p { ({} : FrzPart) with clocks := (s.fz p).clocks })

/-- The chain ports of a partition (R165). -/
def State.chainPorts (s : State) (p : Nat) : List Nat :=
  (List.range 8).filter fun i => s.flag F.PART_LAT_PORT_CTL_CHAIN (8 * p + i)

/-- The vector ports of a partition (R165). -/
def State.vectorPorts (s : State) (p : Nat) : List Nat :=
  (List.range 8).filter fun i => s.flag F.PART_LAT_PORT_CTL_VECTOR (8 * p + i)

/-- d_img in force. -/
def State.dImg (s : State) (p : Nat) : Nat := s.gf F.PART_CFG_IMG_DEPTH p

/-- The step code of R277 of the step in progress: timetable step, or d_img + gap step; a hold step counts as d_img. -/
def State.stepCode (s : State) (p : Nat) : Nat :=
  if s.flag F.PART_STATE_IN_GAP p then s.dImg p + s.gf F.PART_STATE_STEP p else min (s.gf F.PART_STATE_STEP p) (s.dImg p)

/-- A step index as bell x 2^13 + step code (R126, R277), `n` steps on. -/
def idxAdd (dImg bell code n : Nat) : Nat :=
  let l := dImg + 12
  (bell + (code + n) / l) * 8192 + (code + n) % l

/-- Send a chain freeze message on a port (R277): kind 0 CH_FREEZE, 1 CH_FROZEN, 2 CH_CLEAR, 3 CH_RESUME. -/
def sendChain (port kind idx aux : Nat) (s : State) : State :=
  { s with frz := { s.frz with chOut := (port, kind, idx / 8192, idx % 8192, aux) :: s.frz.chOut } }

/-- The messages a freeze unit sends across the bridge (R122, R123): type 1 FREEZE, 2 RESUME, 3 CLEAR. -/
def sendBridge (b type mask tgt : Nat) (s : State) : State :=
  if b = 0 then
    { s with frz := { s.frz with
      outW := { scc := s.scc, type := type, seq := s.frz.txSeqW, mask := mask, tgt := tgt % 262144 } :: s.frz.outW
      txSeqW := (s.frz.txSeqW + 1) % 16 } }
  else
    { s with frz := { s.frz with
      outE := { scc := s.scc, type := type, seq := s.frz.txSeqE, mask := mask, tgt := tgt % 262144 } :: s.frz.outE
      txSeqE := (s.frz.txSeqE + 1) % 16 } }

/-- What happens when the controller of base `b` registers a request at SCC `c` (R114): a RUNNING partition without a
freeze point gets F = c + 16, and the chain and the other base are told; otherwise the cause joins. -/
def registerReq (p b : Nat) (q : FrzReq) (s : State) : State :=
  let s := modCtl p b (fun c => { c with items := c.items ++ [(q.cause, q.src)] }) s
  let z := s.fz p
  if s.pst p = stRunning ∧ z.f.isNone then
    let f := s.scc + 16
    let s := s.setFz p { z with f := some f, cause0 := q.cause, src0 := q.src }
    let s := if s.spans p then sendBridge b 1 (2 ^ p) f s else s
    if q.cause = 5 then s
    else
      let h := s.gf F.PART_FRZ_CHAIN_HORIZON p
      let idx := idxAdd (s.dImg p) (s.part p).bell (s.stepCode p) (16 + (h - 16))
      forEach (s.chainPorts p) (fun i t => sendChain i 0 idx 0 t) s
  else if s.spans p ∧ b ≠ s.leadBase p ∧ z.r.isNone then
    let s := modCtl p b (fun c => { c with clear := false }) s
    sendBridge b 1 (2 ^ p) ((z.f.getD s.scc)) s
  else s

/-- The lead base's condition for its resume decision (R115). -/
def resumeReady (p : Nat) (s : State) : Bool :=
  let c := (s.fz p).ctl (s.leadBase p)
  c.items.isEmpty && (!s.spans p || c.clear)

/-- A partition whose freeze domain holds partner devices resumes only under R126. -/
def State.chained (s : State) (p : Nat) : Bool := s.flag F.PART_FRZ_CHAIN_CHAINED p

/-- The upstream port of a partition under R278, if it has one. -/
def State.upstream (s : State) (p : Nat) : Option Nat :=
  (s.chainPorts p).find? fun i => s.flag F.XOT_STAT_UPSTREAM i

/-- The largest F_j reported to this device, its own included. -/
def chainFmax (p own : Nat) (s : State) : Nat := (s.fz p).chFrozen.foldl (fun m e => max m e.2) own

/-- Steps from one step index to a later one, bells being d_img + 12 steps long. -/
def idxDiff (dImg a b : Nat) : Nat :=
  (b / 8192 * (dImg + 12) + b % 8192) - (a / 8192 * (dImg + 12) + a % 8192)

/-- The freeze step, with its bell: the step that would have begun; a partition that waits for tempo does not move, and with a
tick taken or bell debt its next step is step 0 of the next bell (R69, R114). -/
def freezeStep (p : Nat) (s : State) : (Nat × Bool) × Nat :=
  let r := s.part p
  if s.flag F.PART_STATE_WAITING p then
    if r.tick.isSome ∨ s.gf F.PART_TEMPO_STAT_DEBT p ≠ 0 then ((0, false), if r.bell0 then 0 else (r.bell + 1) % 2 ^ 48)
    else (s.curStep p, r.bell)
  else (nextStep p s, r.bell)

/-- The freeze step of a FROZEN partition as a step index (R126); a hold step counts as d_img. -/
def freezeIdx (p : Nat) (s : State) : Nat :=
  let (st, bell) := freezeStep p s
  bell * 8192 + (if st.2 then s.dImg p + st.1 else min st.1 (s.dImg p))

/-- The chain's part when the causes other than REMOTE of a FROZEN chained partition have cleared (R126, steps 3 and 4): a
device that is not the lead reports CH_FROZEN and CH_CLEAR upstream once every downstream port has; the lead sends CH_RESUME. -/
def chainReport (p : Nat) (s : State) : State :=
  if !(s.chained p) || !(decide (s.pst p = stFrozen)) then s
  else
    let z := s.fz p
    let own := freezeIdx p s
    let down := (s.chainPorts p).filter fun i => decide (some i ≠ s.upstream p)
    let fmax := chainFmax p own s
    let frozenAll := down.all fun i => z.chFrozen.any fun e => e.1 == i
    let clearAll := down.all fun i => z.chClear.contains i
    let mine := (z.west.items ++ z.east.items).all fun i => i.1 == 5 || i.1 == 11
    let s :=
      match s.upstream p with
      | some u =>
        let s := if frozenAll && !z.chSentFrozen then (sendChain u 1 fmax 0 s).setFz p { s.fz p with chSentFrozen := true } else s
        if clearAll && mine && !z.chSentClear then
          let s := sendChain u 2 0 0 s
          s.setFz p { s.fz p with chSentClear := true }
        else s
      | none => s
    if s.flag F.PART_FRZ_CHAIN_CHAIN_LEAD p && frozenAll && clearAll && mine && z.chDelay.isNone then
      let d := 2 * s.gf F.PART_FRZ_CHAIN_HORIZON p
      let s := forEach down (fun i t => sendChain i 3 fmax d t) s
      let s := s.sf F.PART_FRZ_CHAIN_SKEW p (idxDiff (s.dImg p) own fmax)
      s.setFz p { s.fz p with chDelay := some (s.scc + (d - idxDiff (s.dImg p) own fmax), fmax) }
    else s

/-- After the causes of a base changed at SCC `c`: the non-lead base sends CLEAR, the lead base raises its decision (R115). -/
def afterClear (p b : Nat) (s : State) : State :=
  let z := s.fz p
  let c := z.ctl b
  let frozen := z.f.isSome || decide (s.pst p = stFrozen)
  if !frozen then s
  else if b ≠ s.leadBase p then
    if s.spans p ∧ !c.clear ∧ c.items.all (fun i => i.1 == 11) then
      sendBridge b 3 (2 ^ p) 0 (modCtl p b (fun c => { c with clear := true }) s)
    else s
  else if resumeReady p s && c.decided.isNone && z.r.isNone && !(s.part p).stuck then
    if s.chained p then chainReport p s
    else modCtl p b (fun c => { c with decided := some s.scc }) s
  else if s.chained p then chainReport p s
  else s

/-- The earliest SCC at which base `b` has something of partition `p` to register (R113). A request raised after a resume
decision waits for the resume point (R115). -/
def nextReg (p b : Nat) (s : State) : Option Nat :=
  let z := s.fz p
  let c := z.ctl b
  let reqs := c.raised.map fun q => max (regPoint q.raised) (match z.r with | some r => r + r % 2 | none => 0)
  let rels := c.rel.map fun q => regPoint q.raised
  let dec := match c.decided with | some d => if z.r.isNone then [regPoint d] else [] | none => []
  let clr := if b ≠ s.leadBase p ∧ s.spans p ∧ !c.clear ∧ c.items.any (fun i => i.1 == 11) ∧ c.items.all (fun i => i.1 == 11)
    then [regPoint s.scc - 2] else []
  match reqs ++ rels ++ dec ++ clr with
  | [] => none
  | x :: l => some (l.foldl min x)

/-- FREEZE_REGISTRATION: at the next registration point of base `b` the controller of partition `p` registers what has been
raised for at least 2 step clocks: requests, releases, the resume decision (R113-R115, R123). -/
def freezeRegistration (p b : Nat) (s : State) : State :=
  match nextReg p b s with
  | none => s
  | some n =>
    let m := max n s.scc
    let s := advanceTo (m + m % 2) s
    let z := s.fz p
    let c := z.ctl b
    let lim := match z.r with | some r => decide (s.scc < r) | none => false
    let now := c.raised.filter fun q => decide (regPoint q.raised ≤ s.scc) && !lim
    let later := c.raised.filter fun q => !(decide (regPoint q.raised ≤ s.scc) && !lim)
    let rnow := c.rel.filter fun q => decide (regPoint q.raised ≤ s.scc)
    let rlater := c.rel.filter fun q => !decide (regPoint q.raised ≤ s.scc)
    let s := modCtl p b (fun c => { c with raised := later, rel := rlater }) s
    let s := forEach now (fun q t => registerReq p b q t) s
    let s := forEach rnow (fun q t => modCtl p b (fun c => { c with items := dropItem q.cause q.src c.items }) t) s
    let s := match c.decided with
      | some d =>
        if regPoint d ≤ s.scc ∧ z.r.isNone then
          if resumeReady p s then
            let r := s.scc + 16
            let s := s.setFz p { s.fz p with r := some r }
            if s.spans p then sendBridge b 2 (2 ^ p) r s else s
          else modCtl p b (fun c => { c with decided := none }) s
        else s
      | none => s
    frzStatus p (afterClear p b s)

/-- Record word of a 0x08 whose freeze step is now known (Table CON-8). -/
def missedLocB (m : MissedRec) (freezeCode : Nat) : Nat := m.dueCode % 8192 + 65536 * (freezeCode % 8192)

/-- The step code of Table CON-8, 0x08: step c, or DEPTH + g for gap step g. -/
def State.faultCode (s : State) (p : Nat) : Nat :=
  if s.flag F.PART_STATE_IN_GAP p then s.gf F.PART_CFG_DEPTH p + s.gf F.PART_STATE_STEP p else s.gf F.PART_STATE_STEP p

/-- Write the 0x08 records that waited for the freeze point (R120). -/
def writeMissed (p : Nat) (s : State) : State :=
  let fc := s.faultCode p
  let ms := (s.part p).missed
  let s := s.modPart p fun r => { r with missed := [] }
  forEach ms (fun m t =>
    writeFaultRec p { code := 8, locA := m.locA, locB := missedLocB m fc, locC := m.dueBell % 2 ^ 32, corrupt := m.corrupt }
      m.gap m.step m.bell false t) s

/-- Move on to the freeze step without giving its enable. -/
def toFreezeStep (p : Nat) (s : State) : State :=
  if s.flag F.PART_STATE_WAITING p then s
  else (setStep p (nextStep p s) s).modPart p fun r => { r with fresh := true }

/-- The partition enters FROZEN at its freeze step (R114, R121, R130). -/
def enterFrozen (p : Nat) (s : State) : State :=
  let z := s.fz p
  let (st, bell) := freezeStep p s
  let s := toFreezeStep p s
  let s := s.sf F.PART_STATE_STATE p stFrozen
  let s := s.bumpWrap F.PART_FREEZE_CNT_COUNT p
  let s := (s.sf F.PART_FRZ_LAST_CAUSE p z.cause0).sf F.PART_FRZ_LAST_SRC p (if z.cause0 ≤ 4 then z.src0 else 0)
  let s := (s.sflag F.PART_FRZ_LAST_GAP p st.2).sf F.PART_FRZ_LAST_STEP p st.1
  let s := (s.sf F.PART_FRZ_LAST_BELL_LO_BELL p bell).sf F.PART_FRZ_LAST_BELL_HI_BELL p (bell / 2 ^ 32)
  let s := s.setFz p { s.fz p with f := none, since := s.scc }
  let s := partEvent p 5 (writeMissed p s)
  chainReport p (freezePacket p 0x10 (frzStatus p s))

/-- FREEZE_POINT: at F no step enable is given and the partition enters FROZEN (R114). -/
def freezePoint (p : Nat) (s : State) : State :=
  match (s.fz p).f with
  | none => s
  | some f => if s.pst p = stRunning then enterFrozen p (advanceTo f s) else s

/-- The partition returns to RUNNING (R115, R126, R130). -/
def leaveFrozen (p : Nat) (s : State) : State :=
  let z := s.fz p
  let clean : FrzCtl → FrzCtl := fun c => { c with decided := none, clear := false, items := c.items.filter fun i => i.1 != 11 && i.1 != 5 }
  let s := s.sf F.PART_FRZ_LAST_LEN_CLOCKS p (min (s.scc - z.since) (2 ^ 32 - 1))
  let s := s.sf F.PART_STATE_STATE p stRunning
  let s := s.setFz p { z with r := none, west := clean z.west, east := clean z.east, chIdx := [], chFrozen := [], chClear := [],
                              chDelay := none, chSentFrozen := false, chSentClear := false }
  frzStatus p (freezePacket p 0x11 s)

/-- RESUME_POINT: at R every class receives the step enable of the freeze step (R115). -/
def resumePoint (p : Nat) (s : State) : State :=
  match (s.fz p).r with
  | none => s
  | some r => if s.pst p = stFrozen then leaveFrozen p (advanceTo r s) else s

/-- LATE_ITEM_ARRIVAL: a late item of a cause has arrived at the base that registered it (R115). -/
def lateItem (p b cause src : Nat) (s : State) : State :=
  let z := s.fz p
  let known := (z.ctl b).items.contains (cause, src) || (z.ctl b).raised.any fun q => q.cause == cause && q.src == src
  let s := s.modPart p fun r => { r with absent := r.absent.filter fun e => !(e.1 == cause && e.2.1 == src) }
  if known then releaseItem p b cause src s else s

/-- Raise a request for a late item with its notice in steps (R118, R120): under 20 steps of notice raises 0x08. The freeze
point is F if one is scheduled, else 16 after the registration point. `due` is the due step's bell and step code of Table
CON-8. -/
def raiseLate (p b cause src notice dueBell dueCode : Nat) (s : State) : State :=
  if !(s.live p) then raiseFreeze p b cause src s
  else
    let fpt := match (s.fz p).f with | some f => f | none => regPoint s.scc + 16
    let absent := decide (s.pst p = stRunning) && decide (fpt > s.scc + notice)
    let s := s.sf F.PART_NOTICE_MIN p (min (s.gf F.PART_NOTICE_MIN p) (min notice 255))
    let s := raiseFreeze p b cause src s
    if notice ≥ 20 then s
    else
      let s := s.bump F.PART_NOTICE_MISSED p 1
      let cs := s.curStep p
      let locA := cause + 16 * (src % 2048) + 16777216 * min notice 255
      let r := s.part p
      let s := s.setPart p { r with
        missed := r.missed ++ [{ gap := cs.2, step := cs.1, bell := r.bell, locA := locA, dueCode := dueCode, dueBell := dueBell, corrupt := absent }]
        absent := if absent then r.absent ++ [(cause, src, r.allCount + notice)] else r.absent
        corrupt := r.corrupt || absent }
      sendFaultReq p 8 s

/-- The full SCC value nearest to the receiver's SCC with the low 18 bits given (R123). -/
def extendTgt (scc tgt : Nat) : Nat :=
  let b := scc / 262144 * 262144 + tgt % 262144
  if b + 131072 < scc then b + 262144 else if b > scc + 131072 ∧ b ≥ 262144 then b - 262144 else b

/-- Do `f` for each partition of a mask that spans both bases. -/
def forSpanning (mask : Nat) (f : Nat → State → State) (s : State) : State :=
  forUpTo 16 (fun p t => if bitAt mask p = 1 ∧ t.spans p then f p t else t) s

/-- BRIDGE_FREEZE_MSG received by base `b`: OTHER_BASE sets, and the freeze point (R115, R123). -/
def bridgeFreeze (b mask tgt : Nat) (s : State) : State :=
  forSpanning mask (fun p s =>
    if !(s.live p) then s
    else
      let s := modCtl p b (fun c => { c with items := (11, 0) :: dropItem 11 0 c.items, clear := false, decided := none }) s
      let z := s.fz p
      let s := if s.pst p = stRunning ∧ z.f.isNone then s.setFz p { z with f := some (extendTgt s.scc tgt), cause0 := 11, src0 := 0 } else s
      frzStatus p s) s

/-- BRIDGE_CLEAR_MSG received by the lead base `b`: OTHER_BASE clears (R115). -/
def bridgeClear (b mask : Nat) (s : State) : State :=
  forSpanning mask (fun p s =>
    if b ≠ s.leadBase p then s
    else
      let s := modCtl p b (fun c => { c with items := dropItem 11 0 c.items, clear := true }) s
      frzStatus p (afterClear p b s)) s

/-- BRIDGE_RESUME_MSG received by the non-lead base `b`: the resume point (R115). -/
def bridgeResume (b mask tgt : Nat) (s : State) : State :=
  forSpanning mask (fun p s =>
    if b = s.leadBase p ∨ s.pst p ≠ stFrozen then s
    else frzStatus p (s.setFz p { s.fz p with r := some (extendTgt s.scc tgt) })) s

/-- CRC-8 of Table FRZ-4 over bits 55:0, polynomial x^8 + x^2 + x + 1, most significant bit first. -/
def crc8ctl (w : Nat) : Nat :=
  (List.range 56).foldl (fun c i =>
    let top := (c / 128 + bitAt w (55 - i)) % 2
    if top = 1 then Nat.xor (c * 2 % 256) 7 else c * 2 % 256) 0

/-- Freeze a partition at once and for good: a lost bridge message (R124). -/
def bridgeLoss (p : Nat) (s : State) : State :=
  if s.spans p ∧ s.pst p = stRunning then
    let cs := s.curStep p
    let r := s.part p
    let s := s.bump F.PART_NOTICE_MISSED p 1
    let s := s.setPart p { r with stuck := true, corrupt := true
                                  missed := r.missed ++ [{ gap := cs.2, step := cs.1, bell := r.bell, locA := 15, dueCode := s.faultCode p, dueBell := r.bell, corrupt := true }] }
    let s := sendFaultReq p 8 s
    let s := s.setFz p { s.fz p with cause0 := 11, src0 := 0 }
    enterFrozen p s
  else s

/-- The SEQ last received by base `b`, or 16 before the first. -/
def rxSeq (b : Nat) (s : State) : Nat := if b = 0 then s.frz.rxSeqW else s.frz.rxSeqE

def setRxSeq (b v : Nat) (s : State) : State :=
  if b = 0 then { s with frz := { s.frz with rxSeqW := v } } else { s with frz := { s.frz with rxSeqE := v } }

/-- A BELL bit that differs from the base's own bell starts marks that bell corrupt and sets DESYNC (R124). `starts` are the
partitions whose step 0 base `b` began at the step clock at which the sending base loaded the frame. -/
def bellBits (bits starts : Nat) (s : State) : State :=
  forSpanning 65535 (fun p t =>
    if bitAt bits p ≠ bitAt starts p then (markCorrupt p t).sf F.PART_FRZ_STATUS_DESYNC p 1 else t) s

/-- BRIDGE_CONTROL_WORD_RX: base `b` receives a control word (R122-R124). A word that fails its CRC is not acted on. -/
def bridgeWord (b w starts : Nat) (s : State) : State :=
  if crc8ctl w ≠ bitsAt w 56 8 then s
  else
    let s := bellBits (bitsAt w 40 16) starts s
    let ty := bitsAt w 0 2
    let sq := bitsAt w 2 4
    if ty = 0 then s
    else
      let last := rxSeq b s
      if last = sq then s
      else
        let gap := decide (last ≠ 16) && decide (sq ≠ (last + 1) % 16)
        let s := setRxSeq b sq s
        let s := if gap then forUpTo 16 (fun p t => bridgeLoss p t) s else s
        match ty with
        | 1 => bridgeFreeze b (bitsAt w 6 16) (bitsAt w 22 18) s
        | 2 => bridgeResume b (bitsAt w 6 16) (bitsAt w 22 18) s
        | _ => bridgeClear b (bitsAt w 6 16) s

/-- Drop one cause's items held by the partition: used when a cause ends without registration. -/
def State.hasCause (s : State) (p cause : Nat) : Bool := decide (bitAt (s.gf F.PART_FRZ_STATUS_CAUSE p) cause = 1)

/-- START and RESUME: causes recorded meanwhile are raised now (R116). -/
def reRaise (p : Nat) (s : State) : State :=
  let up : FrzCtl → FrzCtl := fun c =>
    { c with items := [], raised := c.raised ++ c.items.map fun i => { raised := s.scc, cause := i.1, src := i.2 } }
  let z := s.fz p
  frzStatus p (s.setFz p { z with west := up z.west, east := up z.east })

/-! ### Chain freeze messages received (R126, R277) -/

/-- The full bell nearest to `own` with the low 19 bits given (R277). -/
def extendBell (own b : Nat) : Nat :=
  let m := own / 524288 * 524288 + b % 524288
  if m + 262144 < own then m + 524288 else if m > own + 262144 ∧ m ≥ 524288 then m - 524288 else m

/-- CH_FREEZE received on a chain port: forwarded, REMOTE set, the freeze index noted (R126, step 2). The device freezes at
the earliest of its own freeze point and the indices it received. -/
def chFreeze (p port bell code : Nat) (s : State) : State :=
  let own := (s.part p).bell
  let b := extendBell own bell
  let others := (s.chainPorts p).filter (· ≠ port)
  let s := forEach others (fun i t => sendChain i 0 (b * 8192 + code) 0 t) s
  let lead := s.leadBase p
  let st := s.pst p
  if st = stRunning then
    let l := s.dImg p + 12
    let left := (b * l + code) - (own * l + s.stepCode p)
    let f := s.scc + left
    let s := modCtl p lead (fun c => { c with items := (5, port) :: dropItem 5 port c.items }) s
    let z := s.fz p
    let z := { z with chIdx := (b * 8192 + code) :: z.chIdx }
    let z := match z.f with
      | some g => if f < g then { z with f := some f, cause0 := 5, src0 := port } else z
      | none => { z with f := some f, cause0 := 5, src0 := port }
    frzStatus p (s.setFz p z)
  else if st = stFrozen then
    frzStatus p (modCtl p lead (fun c => { c with items := (5, port) :: dropItem 5 port c.items }) s)
  else raiseFreeze p lead 5 port s

/-- CH_FROZEN received: a report of F_j from downstream (R126, step 3). -/
def chFrozen (p port bell code : Nat) (s : State) : State :=
  let b := extendBell (s.part p).bell bell
  let z := s.fz p
  chainReport p (s.setFz p { z with chFrozen := (port, b * 8192 + code) :: z.chFrozen.filter (fun e => e.1 != port) })

/-- CH_CLEAR received: the port's devices have cleared their causes (R126, steps 3 and 4). -/
def chClear (p port : Nat) (s : State) : State :=
  let z := s.fz p
  chainReport p (s.setFz p { z with chClear := port :: z.chClear.filter (· ≠ port) })

/-- CH_RESUME received: forwarded with the delay reduced by the incoming link's control latency and 2 step clocks of
forwarding; the device resumes when what remains, less F_max - F_j, has run out (R126, step 5). -/
def chResume (p port bell code d ctl : Nat) (s : State) : State :=
  if s.pst p ≠ stFrozen then s
  else
    let fmax := extendBell (s.part p).bell bell * 8192 + code
    let own := freezeIdx p s
    let skew := idxDiff (s.dImg p) own fmax
    let rest := d - ctl
    let down := (s.chainPorts p).filter (· ≠ port)
    let s := forEach down (fun i t => sendChain i 3 fmax (rest - 2) t) s
    let s := s.sf F.PART_FRZ_CHAIN_SKEW p skew
    s.setFz p { s.fz p with chDelay := some (s.scc + (rest - skew), fmax) }

/-- CHAIN_RESUME_DELAY_EXPIRY: the remaining delay has run out and the device resumes (R126, step 5). -/
def chainResumeExpiry (p : Nat) (s : State) : State :=
  match (s.fz p).chDelay with
  | none => s
  | some (t, _) => if s.pst p = stFrozen then leaveFrozen p (advanceTo t s) else s

/-- A chain message with an unexpected SEQ: the bell is marked corrupt and 0x08 is raised with cause code 14 (R277). -/
def chainLoss (p port : Nat) (s : State) : State :=
  let cs := s.curStep p
  let s := s.bump F.PART_NOTICE_MISSED p 1
  raiseFault p { code := 8, locA := 14 + 16 * port, locB := missedLocB ⟨false, 0, 0, 0, s.faultCode p, 0, true⟩ (s.faultCode p), locC := (s.part p).bell % 2 ^ 32 }
    cs.2 cs.1 s

end Machine
end Sys2Proof
end

