-- ==== Sys2Proof/Machine/Journal.lean ====
section
/-! DEFINITION. Trace areas, snapshots' validity, the undo and the input journal (R208-R217), and the one operation that
changes a byte of design memory. -/
namespace Sys2Proof
namespace Machine

/-- The capture and trace record of partition `p`. -/
def State.trec (s : State) (p : Nat) : TrcRec := Store.get {} s.trc.parts p

/-- Change the capture and trace record of partition `p`. -/
def State.modTrec (s : State) (p : Nat) (f : TrcRec → TrcRec) : State :=
  { s with trc := { s.trc with parts := Store.set {} p (f (s.trec p)) s.trc.parts } }

/-- First byte and size of trace area `a` of partition `p` (R208). -/
def areaBase (p a : Nat) (s : State) : Nat :=
  granAddr (96 * s.gf F.TRC_AREA_STACK (4 * p + a) + s.gf F.TRC_AREA_FIRST (4 * p + a))
def areaSize (p a : Nat) (s : State) : Nat := granSize * s.gf F.TRC_AREA_COUNT (4 * p + a)

/-- Snapshot slot `k` is VALID. -/
def snapValid (p k : Nat) (s : State) : Bool := decide (bitAt (s.gf F.TRC_SNAP_STAT_VALID p) k = 1)

/-- The VALID slots. -/
def validSlots (p : Nat) (s : State) : List Nat := (List.range 16).filter fun k => snapValid p k s

/-- The snapshot of slot `k`. -/
def TrcRec.snap (r : TrcRec) (k : Nat) : Snap := Store.get {} r.snaps k

/-- The slot, of a list, whose snapshot comes last, or first, in the order of taking. -/
def newestOf (r : TrcRec) (l : List Nat) : Option Nat :=
  l.foldl (fun m k => match m with
    | none => some k
    | some j => if (r.snap j).order < (r.snap k).order then some k else some j) none
def oldestOf (r : TrcRec) (l : List Nat) : Option Nat :=
  l.foldl (fun m k => match m with
    | none => some k
    | some j => if (r.snap k).order < (r.snap j).order then some k else some j) none

/-- A snapshot is VALID or draining: both journals record (R214). -/
def journalling (p : Nat) (s : State) : Bool :=
  decide (s.gf F.TRC_SNAP_STAT_VALID p ≠ 0) || (s.flag F.TRC_SNAP_STAT_DRAINING p && !(s.trec p).drainDead)

/-- Bring NEWEST and TRC_JRN_STAT.ACTIVE up to date. -/
def snapStatus (p : Nat) (s : State) : State :=
  let s := s.sf F.TRC_SNAP_STAT_NEWEST p ((newestOf (s.trec p) (validSlots p s)).getD 0)
  s.sflag F.TRC_JRN_STAT_ACTIVE p (journalling p s)

/-- Snapshot slot `k` loses VALID (R213). -/
def dropSnap (p k : Nat) (s : State) : State :=
  if snapValid p k s then snapStatus p (s.sf ⟨.TRC_SNAP_STAT, k, 1⟩ p 0) else s

/-- Every snapshot of the partition loses VALID, one still draining included (R213, R217). -/
def dropAllSnaps (p : Nat) (s : State) : State :=
  let s := forEach (validSlots p s) (fun k t => dropSnap p k t) s
  snapStatus p (s.modTrec p fun r => { r with drainDead := r.drainDead || s.flag F.TRC_SNAP_STAT_DRAINING p })

/-- A buffer of 65,536 entries that drains 4 per step clock: what it holds now (R217). -/
def jbufHeld (b kind : Nat) (s : State) : Nat :=
  let (n, t) := Store.get (0, 0) s.trc.jbuf (2 * b + kind)
  n - 4 * (s.scc - t)

/-- Entries one journal area holds. -/
def jrnCap (p kind : Nat) (s : State) : Nat := areaSize p (1 + kind) s / 32

/-- Where journal entry `n` stands. -/
def jrnAddr (p kind n : Nat) (s : State) : Nat := areaBase p (1 + kind) s + 32 * (n % jrnCap p kind s)

/-- Write a 32-byte journal entry through the buffer of base `b`: kind 0 undo, 1 input (R214, R216, R217). -/
def journalPut (p b kind : Nat) (bytes : List Nat) (s : State) : State :=
  if !(journalling p s) then s
  else
    let held := jbufHeld b kind s
    if held ≥ 65536 then
      let n := (validSlots p s).length + b2n (s.flag F.TRC_SNAP_STAT_DRAINING p && !(s.trec p).drainDead)
      dropAllSnaps p (s.bump F.TRC_JRN_STAT_OVERRUN p n)
    else
      let s := { s with trc := { s.trc with jbuf := Store.set (0, 0) (2 * b + kind) (held + 1, s.scc) s.trc.jbuf } }
      let r := s.trec p
      let pos := if kind = 0 then r.undoPos else r.inPos
      let need : Snap → Nat := fun z => if kind = 0 then z.undoPos else z.inPos
      let s := match oldestOf r (validSlots p s) with
        | some k => if jrnCap p kind s ≤ pos - need (r.snap k) then dropSnap p k (s.bump F.TRC_JRN_STAT_DROPPED p 1) else s
        | none => s
      let s := if jrnCap p kind s = 0 then s else s.wbs (jrnAddr p kind pos s) bytes
      s.modTrec p fun r => if kind = 0 then { r with undoPos := pos + 1 } else { r with inPos := pos + 1 }

/-- The old unknown flag of byte `i` of a word: the X code in the blackboard, byte 8 of the slot in HBM. -/
def oldX (a i : Nat) (s : State) : Bool :=
  if inBB a then s.mem.isX (a + i) else decide (bitAt (s.rb (a + 8)).toNat i = 1)

/-- A mask of the bits below 8 for which `f` holds. -/
def mask8 (f : Nat → Bool) : Nat := (List.range 8).foldl (fun m i => m + b2n (f i) * 2 ^ i) 0

/-- The undo entry for a write that stores bytes `be` of the word at `a` of partition `p` (R215, Table OBS-2). KIND 1 and 2
design writes, 3 and 4 others. -/
def undoEntry (p a be : Nat) (design : Bool) (st : Nat × Bool) (s : State) : State :=
  if be % 256 = 0 ∨ !(journalling p s) then s
  else if inBB a && Store.get false (s.trec p).jset a then s
  else
    let kind := (if design then 1 else 3) + (if inBB a then 0 else 1)
    let bytes := s.rbs a 8 ++ [mask8 (fun i => oldX a i s), be % 256, kind, mask8 (fun i => decide (s.mem.err (a + i) ≥ 2))]
      ++ toBytes 6 a ++ toBytes 2 (jrnStep st) ++ toBytes 6 (s.part p).bell ++ toBytes 6 0
    let b := if inBB a then bankOf a / 256 else granOf a / 192
    let s := journalPut p b 0 bytes s
    if inBB a then s.modTrec p fun r => { r with jset := Store.set false a true r.jset } else s

/-- The input entry HOSTWR (R216, Table OBS-3): write kind 0 plain, 1 bit-set, 2 bit-clear. -/
def hostwrEntry (p a be wkind : Nat) (data : List Nat) (st : Nat × Bool) (s : State) : State :=
  if s.flag F.TRC_REPLAY_STAT_ACTIVE p then s
  else
    let b := if inBB a then bankOf a / 256 else granOf a / 192
    journalPut p b 1 ([3, wkind] ++ toBytes 2 (jrnStep st) ++ [be % 256, 0, 0, 0] ++ (data ++ List.replicate 8 0).take 8
      ++ toBytes 6 a ++ List.replicate 10 0) s

/-- The input entry BELL at step 0 of a bell. -/
def bellEntry (p : Nat) (s : State) : State :=
  if s.flag F.TRC_REPLAY_STAT_ACTIVE p then s
  else
    let r := s.part p
    journalPut p (s.leadBase p) 1 ([1, 0] ++ toBytes 2 0 ++ [0, 0, 0, 0] ++ toBytes 8 r.bell
      ++ toBytes 4 (s.gf F.PART_TEMPO_STAT_LAG p) ++ toBytes 2 r.stampFrac ++ toBytes 4 r.stampNs ++ toBytes 6 r.stampSec) s

/-- The input entry SETTINGS for a commit that takes effect, at gap 11. -/
def settingsEntry (p : Nat) (s : State) : State :=
  if s.flag F.TRC_REPLAY_STAT_ACTIVE p then s
  else
    journalPut p (s.leadBase p) 1 ([4, 0] ++ toBytes 2 (11 + 4096) ++ [0, 0, 0, 0]
      ++ toBytes 4 (s.reg .PART_CFG p).toNat ++ toBytes 4 (s.reg .PART_TEMPO p).toNat
      ++ toBytes 4 (s.reg .PART_FAULT_ACTION p).toNat ++ List.replicate 12 0) s

/-- Owner + 1 of base input source (`sink` 0) or output sink (`sink` 1) `i` of base `b` (R106). -/
def State.ioOwner (s : State) (b i sink : Nat) : Nat := Store.get 0 s.net.ioOwn (2 * (8192 * b + i) + sink)

/-- The value presented on base input source `i` (index - 0x6000) of base `b`. -/
def State.srcVal (s : State) (b i : Nat) : Tri := Store.get .x s.net.src (8192 * b + i)

/-- A 32-bit mask of the bits for which `f` holds. -/
def mask32 (f : Nat → Bool) : Nat := (List.range 32).foldl (fun m i => m + b2n (f i) * 2 ^ i) 0

/-- The groups of 32 base input sources that hold a source of partition `p`: base and group, from the listed owners. -/
def srcGroups (p : Nat) (s : State) : List (Nat × Nat) :=
  (s.net.ioOwn.filterMap fun e =>
    if e.2 = p + 1 ∧ e.1 % 2 = 0 then some (e.1 / 2 / 8192, e.1 / 2 % 8192 / 32) else none).eraseDups

/-- The SOURCES entries of a step: all groups at a snapshot point, else those that changed (R216). -/
def sourcesEntries (p : Nat) (force : Bool) (st : Nat × Bool) (s : State) : State :=
  if !(journalling p s) || s.flag F.TRC_REPLAY_STAT_ACTIVE p then s
  else
    forEach (srcGroups p s) (fun bg t =>
      let own : Nat → Bool := fun i => decide (t.ioOwner bg.1 (32 * bg.2 + i) 0 = p + 1)
      let val : Nat → Tri := fun i => t.srcVal bg.1 (32 * bg.2 + i)
      let old : Nat → Tri := fun i => Store.get .x (t.trec p).srcLast (8192 * bg.1 + 32 * bg.2 + i)
      if force || (List.range 32).any (fun i => own i && decide (val i ≠ old i)) then
        let t := journalPut p bg.1 1 ([2, bg.1] ++ toBytes 2 (jrnStep st) ++ toBytes 2 (0x300 + bg.2) ++ [0, 0]
          ++ toBytes 4 (mask32 (fun i => own i && decide (val i = .one))) ++ toBytes 4 (mask32 (fun i => own i && decide (val i = .x)))
          ++ List.replicate 16 0) t
        t.modTrec p fun r => { r with srcLast := (List.range 32).foldl (fun m i =>
          Store.set .x (8192 * bg.1 + 32 * bg.2 + i) (val i) m) r.srcLast }
      else t) s

/-! ### Bytes of design memory -/

/-- Owner + 1 of a blackboard bank, or of the granule that a design region holds; 0 for none (R141, R158). -/
def bankOwner (b : Nat) (s : State) : Nat := if s.gf F.BBD_BANK_STATE b = 1 then s.gf F.BBD_BANK_OWNER b + 1 else 0
def granOwner (g : Nat) (s : State) : Nat := Store.get 0 s.mem.granOwn g

/-- Owner + 1 of the bank or region that holds an address. -/
def memOwner (a : Nat) (s : State) : Nat :=
  if inBB a then bankOwner (bankOf a) s else if inHbm a then granOwner (granOf a) s else 0

/-- Store one byte of the blackboard or HBM as known or, in the blackboard, as the X code (R139). -/
def putByte (a v : Nat) (x : Bool) (s : State) : State :=
  let s := s.wb a (BitVec.ofNat 8 (if x then 0 else v))
  let m := s.mem.clrErr a
  { s with mem := if inBB a then m.setX a x else m }

/-- Byte 9 of a design-region slot is the check byte over bytes 0-8; bytes 10-15 read 0 (R144). -/
def hbmReCheck (slot : Nat) (s : State) : State :=
  s.wb (slot + 9) (Config.hbmCheck (BitVec.ofNat 72 (fromBytes (s.rbs slot 9))))

end Machine
end Sys2Proof
end

