-- ==== Sys2Proof/Machine/Operands.lean ====
section
/-! DEFINITION. Operand forms and evaluation of one Boolean processor (R29-R52) as functions of what it reads. -/
namespace Sys2Proof
namespace Machine

/-- The value 1 or 0 of a bit. -/
def Tri.ofBool (b : Bool) : Tri := if b then .one else .zero

/-- A value as read with X-mode on or off: with X-mode off, X reads as 0 (R49). -/
def triRead (xmode : Bool) (v : Tri) : Tri := if xmode then v else (match v with | .x => .zero | w => w)

/-- Unknown: X with X-mode on, 0 with it off. -/
def triUnknown (xmode : Bool) : Tri := if xmode then .x else .zero

/-- The canonical slate entry of a value (Table BP-6). -/
def SlateEntry.ofTri : Tri → SlateEntry
  | .zero => { v := false, u := false, p := false }
  | .one => { v := true, u := false, p := true }
  | .x => { v := false, u := true, p := true }

/-- The entry's three bits have even parity (R40). -/
def SlateEntry.good (e : SlateEntry) : Bool := decide (e.p = xor e.u e.v)

/-- The value of an entry: u = 1 is X whatever v (Table BP-6). -/
def SlateEntry.tri (e : SlateEntry) : Tri := if e.u then .x else Tri.ofBool e.v

/-- A fault that one BP step detects. -/
inductive BpFault where
  /-- Reserved encoding in field 0 A, 1 B, 2 C, 3 D (R36). -/
  | undef (field : Nat)
  /-- Parity error in a slate entry (R51). -/
  | parity (addr : Nat)
  /-- Double-bit error in code word 0 low, 1 high (R50). -/
  | imem (half : Nat)
  deriving DecidableEq, Repr

/-- What a BP reads from at step `t`. -/
structure BpCtx where
  t : Nat
  xmode : Bool
  /-- Feature level B0: the slate-relative window has 128 entries (R33). -/
  b0 : Bool
  /-- Dual-slot mode (R39), and the first slate entry of the half in force. -/
  dual : Bool
  base : Nat
  slate : Nat → SlateEntry
  chalk : Nat → Tri
  imp : Nat → Tri
  ret : RetReg

/-- An operand value and the faults its read raises. -/
abbrev Rd := Tri × List BpFault

/-- A reserved encoding: unknown, with 0x02 for the field (R36). -/
def readUndef (c : BpCtx) (field : Nat) : Rd := (triUnknown c.xmode, [.undef field])

/-- A slate entry as read: a parity failure reads as unknown and is raised (R51). -/
def readSlate (c : BpCtx) (addr : Nat) : Rd :=
  let e := c.slate addr
  if e.good then (triRead c.xmode e.tri, []) else (triUnknown c.xmode, [.parity addr])

/-- An absolute slate address in the half of the slot in force (R39). -/
def slateAddr (c : BpCtx) (a : Nat) : Nat := if c.dual then c.base + a % 2048 else a % 4096

/-- A constant operand: 0, 1, X, reserved (Table BP-4). -/
def readConst (c : BpCtx) (field sel : Nat) : Rd :=
  match sel % 4 with
  | 0 => (.zero, [])
  | 1 => (.one, [])
  | 2 => (triRead c.xmode .x, [])
  | _ => readUndef c field

/-- A slate-relative operand: entry t - k, or unknown below step 0 (R34). -/
def readRelative (c : BpCtx) (k : Nat) : Rd :=
  if c.t < k then (triUnknown c.xmode, []) else readSlate c (c.base + (c.t - k))

/-- The wide operand A or B (R32, Table BP-4). -/
def readWide (c : BpCtx) (field f : Nat) : Rd :=
  if bitAt f 12 = 0 then readSlate c (slateAddr c (bitsAt f 0 12))
  else match bitsAt f 10 2 with
    | 0 => (triRead c.xmode (c.chalk (bitsAt f 0 9)), [])
    | 1 => (triRead c.xmode (c.imp (bitsAt f 0 6)), [])
    | 2 => readConst c field (bitsAt f 0 2)
    | _ => readUndef c field

/-- The short operand C or D (R33, Table BP-5). Bit 6 of a slate-relative operand is reserved at feature level A1 (R35, R36). -/
def readShort (c : BpCtx) (field f : Nat) : Rd :=
  if bitAt f 9 = 0 then (triRead c.xmode (c.chalk (bitsAt f 0 9)), [])
  else match bitsAt f 7 2 with
    | 0 => (triRead c.xmode (c.imp (bitsAt f 0 6)), [])
    | 1 => readConst c field (bitsAt f 0 2)
    | 2 =>
      if c.b0 then readRelative c (1 + bitsAt f 0 7)
      else if bitAt f 6 = 1 then readUndef c field
      else readRelative c (1 + bitsAt f 0 6)
    | _ => readUndef c field

/-- Bit `k` of the memory return register: X where its byte's flag is set (R46). -/
def retBit (c : BpCtx) (k : Nat) : Tri :=
  if c.ret.unk.getLsbD (k / 8) then triUnknown c.xmode else Tri.ofBool (c.ret.val.getLsbD k)

/-- Operand A or B of PORT: a return bit; a non-zero upper part is reserved (R45). -/
def readPort (c : BpCtx) (field f : Nat) : Rd :=
  if f / 64 ≠ 0 then readUndef c field else (retBit c (f % 64), [])

/-- The values an operand may take: one, or both for X. -/
def triChoices : Tri → List Nat
  | .zero => [0]
  | .one => [1]
  | .x => [0, 1]

/-- The truth table over four operands, exact on X (R31, R48): the common bit of every index that agrees, else X. -/
def lut (tt : Nat) (d c b a : Tri) : Tri :=
  let idx := (triChoices d).flatMap fun d => (triChoices c).flatMap fun c =>
    (triChoices b).flatMap fun b => (triChoices a).map fun a => 8 * d + 4 * c + 2 * b + a
  if idx.all (fun i => bitAt tt i = 0) then .zero
  else if idx.all (fun i => bitAt tt i = 1) then .one
  else .x

/-- The merge of GUARD with D = X (Table BP-7). -/
def guardMerge (old n : Tri) : Tri := if old = n then n else .x

/-- What a BP step writes into entry t, what it drives (none: the line holds), the faults it raises. -/
structure BpOut where
  write : Option Tri := none
  drive : Option Tri := none
  faults : List BpFault := []
  deriving DecidableEq, Repr

/-- One step of one BP on a good instruction word (R30, R37, R43-R47). -/
def bpEval (c : BpCtx) (w : Nat) : BpOut :=
  let tt := bitsAt w 46 16
  let fa := bitsAt w 33 13
  let fb := bitsAt w 20 13
  let rc := readShort c 2 (bitsAt w 10 10)
  let rd := readShort c 3 (bitsAt w 0 10)
  match bitsAt w 62 2 with
  | 0 =>
    let ra := readWide c 0 fa
    let rb := readWide c 1 fb
    let r := lut tt rd.1 rc.1 rb.1 ra.1
    { write := some r, drive := some r, faults := ra.2 ++ rb.2 ++ rc.2 ++ rd.2 }
  | 1 =>
    let ra := readWide c 0 fa
    let rb := readWide c 1 fb
    let old := readSlate c (c.base + c.t)
    let n := lut (tt % 256) .zero rc.1 rb.1 ra.1
    let fs := ra.2 ++ rb.2 ++ rc.2 ++ rd.2 ++ old.2
    match rd.1 with
    | .one => { write := some n, drive := some n, faults := fs }
    | .zero => { write := none, drive := some old.1, faults := fs }
    | .x => { write := some (guardMerge old.1 n), drive := some (guardMerge old.1 n), faults := fs }
  | 2 =>
    let ra := readPort c 0 fa
    let rb := readPort c 1 fb
    let r := lut tt rd.1 rc.1 rb.1 ra.1
    { write := some r, drive := some r, faults := ra.2 ++ rb.2 ++ rc.2 ++ rd.2 }
  | _ => {}

/-- One step of one BP: a double-bit error in either code word writes and drives unknown, whatever the word (R50, R52). -/
def bpStep (c : BpCtx) (w : ImemWord) : BpOut :=
  if w.lo ≥ 2 ∨ w.hi ≥ 2 then
    { write := some (triUnknown c.xmode), drive := some (triUnknown c.xmode)
      faults := (if w.lo ≥ 2 then [.imem 0] else []) ++ (if w.hi ≥ 2 then [.imem 1] else []) }
  else bpEval c w.word.toNat

end Machine
end Sys2Proof
end

