-- ==== Sys2Proof/Machine/DesignMem.lean ====
section
/-! DEFINITION. Design memory: the class memory port, blackboard and HBM accesses, sharing, ECC, march and retirement
(R131-R158). -/
namespace Sys2Proof
namespace Machine

/-- Physical class that holds a logical class (R389, CLS window of R58). -/
def State.phys (s : State) (n : Nat) : Nat := Store.get (33 * (n / 32) + n % 32) s.bp.clsMap n

/-- The first step address of the timetable slot in force (R39, R86). -/
def State.slotOff (s : State) (p : Nat) : Nat := if s.flag F.PART_STATE_DUAL p then 2048 * s.gf F.PART_STATE_SLOT p else 0

/-- The timetable slot in force. -/
def State.slot (s : State) (p : Nat) : Nat := s.gf F.PART_STATE_SLOT p

/-- Chalk line `l` of logical class `n`, as stored. -/
def State.chalkAt (s : State) (n l : Nat) : Tri := Store.get .x s.bp.chalk (512 * s.phys n + l % 512)

/-- Import bit `i` of logical class `n`. -/
def State.impAt (s : State) (n i : Nat) : Tri := Store.get .x s.bp.imp (64 * s.phys n + i % 64)

/-- Physical bank to which partition `p` maps image bank `i` of base `b` (R141). -/
def bankFor (p b i : Nat) (s : State) : Option Nat :=
  (List.range 256).map (256 * b + ·) |>.find? fun k =>
    decide (s.gf F.BBD_BANK_STATE k = 1) && decide (s.gf F.BBD_BANK_OWNER k = p) && decide (s.gf F.BBD_BANK_IBANK k = i)

/-- Region descriptor to which partition `p` maps image region `i` of stack `k` (R141). -/
def regionFor (p k i : Nat) (s : State) : Option Nat :=
  (List.range 16).find? fun r =>
    s.flag F.HBM_REG_A_VALID (16 * k + r) && decide (s.gf F.HBM_REG_A_OWNER (16 * k + r) = p)
      && decide (s.gf F.HBM_REG_A_IREG (16 * k + r) = i)

/-- A command of a class memory port (R133-R135). -/
structure MemCmd where
  cls : Nat
  write : Bool
  tgt : Nat
  sel : Nat
  /-- Word address; none where an address bit is X. -/
  addr : Option Nat
  wen : Tri
  be : Nat
  data : List Tri
  deriving DecidableEq, Repr

/-- The word address: ADDR with its low AW bits taken from chalk (R134). -/
def memAddr (line : Nat → Tri) (aw abase addr : Nat) : Option Nat :=
  (List.range aw).foldl (fun a i => match a with
    | none => none
    | some v => match line ((abase + i) % 512) with
      | .x => none
      | .one => some (v + 2 ^ i)
      | .zero => some v) (some (addr / 2 ^ aw * 2 ^ aw))

/-- WEN, coded as a short operand; slate-relative and reserved codes are none (R133, R134). -/
def memWen (line imp : Nat → Tri) (xm : Bool) (f : Nat) : Option Tri :=
  if bitAt f 9 = 0 then some (line (bitsAt f 0 9))
  else match bitsAt f 7 2 with
    | 0 => some (imp (bitsAt f 0 6))
    | 1 => match f % 4 with
      | 0 => some .zero
      | 1 => some .one
      | 2 => some (triRead xm .x)
      | _ => none
    | _ => none

/-- What a memory table entry asks for: nothing, a reserved encoding, or a command. -/
inductive MemReq where
  | nothing
  | undef
  | cmd (c : MemCmd)
  deriving DecidableEq, Repr

/-- Decode a memory table entry at the step enable (R133, R134). -/
def memDecode (cls e : Nat) (line imp : Nat → Tri) (xm : Bool) : MemReq :=
  let op := bitsAt e 0 2
  let tgt := bitsAt e 2 2
  if op = 0 then .nothing
  else if op = 3 ∨ tgt = 3 ∨ (tgt ≠ 0 ∧ bitsAt e 8 4 ≠ 0) then .undef
  else
    let addr := memAddr line (bitsAt e 12 5) (bitsAt e 17 9) (bitsAt e 64 32)
    let sel := if tgt = 0 then bitsAt e 4 8 else bitsAt e 4 4
    if op = 1 then .cmd { cls := cls, write := false, tgt := tgt, sel := sel, addr := addr, wen := .zero, be := 0, data := [] }
    else match memWen line imp xm (bitsAt e 35 10) with
      | none => .undef
      | some w => .cmd { cls := cls, write := true, tgt := tgt, sel := sel, addr := addr, wen := w, be := bitsAt e 45 8
                         data := (List.range 64).map fun j => line ((bitsAt e 26 9 + j) % 512) }

/-- The class's command of this step, with the faults of a reserved encoding or of a double-bit error (R134, R169). -/
def memPort (p t n : Nat) (s : State) : MemReq × List StepFault :=
  let xm := s.xmode p
  let e := Store.get {} s.bp.memTab (4096 * s.phys n + s.slotOff p + t)
  if e.err ≥ 2 then (.nothing, [{ code := 7, locA := 4 + 256 * n, locB := t }])
  else
    let r := memDecode n e.bits (fun l => triRead xm (s.chalkAt n l)) (fun i => triRead xm (s.impAt n i)) xm
    match r with
    | .undef => (.nothing, [{ code := 2, locA := n, locB := 0x3FF, locC := 4 }])
    | _ => (r, [])

/-- Where a command goes. -/
inductive MemDest where
  | bank (b : Nat)
  | region (stack r : Nat)
  | unmapped (code : Nat)
  deriving DecidableEq, Repr

/-- The bank or region a command names, or the unmapped number as Table CON-8 codes it (R142). -/
def memDest (p : Nat) (c : MemCmd) (s : State) : MemDest :=
  let b := c.cls / 128
  if c.tgt = 0 then
    match bankFor p b c.sel s with
    | some k => .bank k
    | none => .unmapped (0x0800 + 256 * b + c.sel)
  else
    let k := 2 * b + (c.tgt - 1)
    match regionFor p k c.sel s with
    | some r => .region k r
    | none => .unmapped (0x1800 + 16 * k + c.sel)

/-- Words of a destination (R142, R144). -/
def destWords (d : MemDest) (s : State) : Nat :=
  match d with
  | .bank _ => 65536
  | .region k r => 16777216 * s.gf F.HBM_REG_A_COUNT (16 * k + r)
  | .unmapped _ => 0

/-- Device address of a design word (R131, R144), before page retirement. -/
def wordAddr (d : MemDest) (a : Nat) (s : State) : Nat :=
  match d with
  | .bank b => bankAddr b + 8 * a
  | .region k r => granAddr (96 * k + s.gf F.HBM_REG_A_FIRST (16 * k + r)) + 16 * a
  | .unmapped _ => 0

/-- Queue a return into the class's memory return register (R136). -/
def queueRet (p n : Nat) (hbm : Bool) (stack : Nat) (val unk : Nat) (s : State) : State :=
  let r := s.part p
  let due := r.count + (if hbm then s.gf F.BBD_PART_HBM_LAT p else s.gf F.BBD_PART_BB_LAT p)
  let k := s.phys n
  let m := s.mem
  let s := { s with mem := { m with ret := Store.set [] k (Store.get [] m.ret k ++ [{ due := due, val := BitVec.ofNat 64 val, unk := BitVec.ofNat 8 unk }]) m.ret } }
  if hbm then s.setPart p { r with hbmPend := r.hbmPend ++ [(n, stack, due, r.bell, s.stepCode p)] } else s

/-- An uncorrectable byte of the blackboard: counted, its address latched, reported (R152). -/
def bbUncorrectable (a part : Nat) (s : State) : State :=
  let s := s.bump F.BBD_UE_COUNT (bankOf a / 256) 1
  let s := (s.sf F.BBD_UE_ADDR_LO_ADDR 0 a).sf F.BBD_UE_ADDR_HI_ADDR 0 (a / 2 ^ 32)
  let s := s.sf F.BBD_UE_ADDR_HI_VALID 0 1
  report 0 2 part 0xFF 0 0 (3 + 256 * (a % 2 ^ 40)) s

/-- What a blackboard read of any requester does to the counters and the write-back queue (R151, R152): `design` tells whether
it queues a write-back. -/
def bbReadCount (a part : Nat) (design : Bool) (s : State) : State :=
  let errs := (List.range 8).map fun i => s.mem.err (a + i)
  let ce := (errs.filter (· = 1)).length
  let s := s.bump F.BBD_CE_COUNT (bankOf a / 256) ce
  let s := if design ∧ ce > 0 ∧ Store.get 0 s.mem.wb (bankOf a) = 0 then
      { s with mem := { s.mem with wb := Store.set 0 (bankOf a) ((a - bankAddr (bankOf a)) / 8 + 1) s.mem.wb } }
    else s
  forUpTo 8 (fun i t => if s.mem.err (a + i) ≥ 2 then bbUncorrectable (a + i) part t else t) s

/-- The value and the unknown flags of a blackboard word as a design reads it (R139, R152). -/
def bbWord (a : Nat) (xm : Bool) (s : State) : Nat × Nat :=
  (fromBytes (s.rbs a 8), mask8 fun i => decide (s.mem.err (a + i) ≥ 2) || (xm && s.mem.isX (a + i)))

/-- The value and the flags of an HBM design slot; an error the check cannot correct flags all bytes (R144, Table REL-8). -/
def hbmWord (a : Nat) (s : State) : Nat × Nat :=
  if (List.range 10).any (fun i => decide (s.mem.err (a + i) ≥ 2)) then (fromBytes (s.rbs a 8), 255)
  else (fromBytes (s.rbs a 8), (s.rb (a + 8)).toNat)

/-- Count an HBM read's errors (R147). -/
def hbmReadCount (a : Nat) (s : State) : State :=
  let k := granOf a / 96
  let s := if (List.range 10).any (fun i => decide (s.mem.err (a + i) = 1)) then s.bump F.HBM_CE_COUNT k 1 else s
  if (List.range 10).any (fun i => decide (s.mem.err (a + i) ≥ 2)) then s.bump F.HBM_UE_COUNT k 1 else s

/-- The value of byte `i` of 64 data lines: none where a line is X (R139). -/
def laneByte (data : List Tri) (i : Nat) : Option Nat :=
  (List.range 8).foldl (fun v j => match v with
    | none => none
    | some n => match data.getD (8 * i + j) .x with
      | .x => none
      | .one => some (n + 2 ^ j)
      | .zero => some n) (some 0)

/-- Store the enabled bytes of a design WRITE at a word (R135, R139, R144). -/
def designStore (p a : Nat) (c : MemCmd) (st : Nat × Bool) (s : State) : State :=
  if c.wen = .zero ∨ c.be = 0 then s
  else
    let s := undoEntry p a c.be true st s
    let byte : Nat → Option Nat := fun i => if c.wen = .x then none else laneByte c.data i
    if inBB a then
      let s := forUpTo 8 (fun i t => if bitAt c.be i = 1 then putByte (a + i) ((byte i).getD 0) (byte i).isNone t else t) s
      if Store.get 0 s.mem.wb (bankOf a) = (a - bankAddr (bankOf a)) / 8 + 1 then
        { s with mem := { s.mem with wb := Store.set 0 (bankOf a) 0 s.mem.wb } }
      else s
    else
      let fl := (s.rb (a + 8)).toNat
      let s := forUpTo 8 (fun i t => if bitAt c.be i = 1 then putByte (a + i) ((byte i).getD 0) false t else t) s
      let fl := mask8 fun i => if bitAt c.be i = 1 then (byte i).isNone else decide (bitAt fl i = 1)
      hbmReCheck a (putByte (a + 8) fl false s)

/-- A command that its bank or region serves (R136, R140). -/
def serveCmd (p : Nat) (c : MemCmd) (d : MemDest) (st : Nat × Bool) (s : State) : State :=
  let stack := match d with | .region k _ => k | _ => 0
  let hbm := match d with | .region _ _ => true | _ => false
  match c.addr with
  | none =>
    let s := markCorrupt p (s.bump F.BBD_PDROP_XADDR p 1)
    if c.write then s else queueRet p c.cls hbm stack 0 255 s
  | some w =>
    let a := wordAddr d w s
    if c.write then
      if s.pst p = stLoading ∨ s.pst p = stFenced then s.bump F.BBD_PDROP_FENCE p 1 else designStore p a c st s
    else if hbm then
      let v := hbmWord a s
      queueRet p c.cls true stack v.1 v.2 (hbmReadCount a s)
    else
      let v := bbWord a (s.xmode p) s
      let bad := (List.range 8).any fun i => decide (s.mem.err (a + i) ≥ 2)
      let s := bbReadCount a p true s
      queueRet p c.cls false 0 v.1 v.2 (if bad then markCorrupt p s else s)

/-- A command refused under R142 or R143: a READ delivers eight set flags, a WRITE stores nothing. -/
def refuseCmd (p : Nat) (c : MemCmd) (d : MemDest) (s : State) : State :=
  if c.write then s
  else queueRet p c.cls (decide (c.tgt ≠ 0)) (match d with | .region k _ => k | _ => 0) 0 255 s

/-- The check of R142: the fault of a command outside its partition's banks and regions or out of range. -/
def rangeFault (p : Nat) (c : MemCmd) (s : State) : Option StepFault :=
  match memDest p c s, c.addr with
  | .unmapped k, _ => some { code := 3, locA := 2 + 256 * c.cls, locB := k }
  | _, none => none
  | d, some w =>
    if w ≥ destWords d s then some { code := 5, locA := c.cls + 256 * c.tgt, locB := w, locC := c.sel } else none

/-- The design commands of one step: checks, arbitration, effect; the faults raised (R138-R143, R157). -/
def memStep (p : Nat) (cmds : List MemCmd) (st : Nat × Bool) (s : State) : State × List StepFault :=
  let good := cmds.filter fun c => (rangeFault p c s).isNone
  let winner : Nat → Option Nat := fun b =>
    (good.filter fun c => memDest p c s = .bank b).foldl (fun m c => match m with | none => some c.cls | some n => some (min n c.cls)) none
  let loses : MemCmd → Bool := fun c =>
    match memDest p c s with
    | .bank b => decide (winner b ≠ some c.cls)
    | _ => false
  let s0 := s
  let run := cmds.foldl (fun (acc : State × List StepFault) c =>
    let d := memDest p c s0
    match rangeFault p c s0 with
    | some f => (refuseCmd p c d (acc.1.bump F.BBD_PCNT_RANGE p 1), acc.2 ++ [f])
    | none =>
      if loses c then
        let t := acc.1.bump F.BBD_PCNT_CONFLICT p 1
        let t := if c.addr.isNone then markCorrupt p (t.bump F.BBD_PDROP_XADDR p 1) else t
        match d with
        | .bank b =>
          let w := (winner b).getD 0
          let f : StepFault := { code := 4, locA := b, locB := w, locC := c.cls }
          (refuseCmd p c d t, if acc.2.any (fun g => g.code == 4 && g.locA == b) then acc.2 else acc.2 ++ [f])
        | _ => (t, acc.2)
      else (serveCmd p c d st acc.1, acc.2)) (s, [])
  run

/-- An HBM return absent at its due step (R120) reads as unknown. -/
def hbmAbsent (p stack : Nat) (s : State) : Bool :=
  (s.part p).absent.any fun e => e.1 == 1 && e.2.1 / 16 == stack && decide (e.2.2 ≤ (s.part p).allCount)

/-- Deliver the returns due at this step enable into the class's return register (R136). -/
def deliverRet (p n : Nat) (s : State) : State :=
  let k := s.phys n
  let cnt := (s.part p).count
  let q := Store.get [] s.mem.ret k
  let due := q.filter fun r => decide (r.due ≤ cnt)
  match due.getLast? with
  | none => s
  | some r =>
    let late := (s.part p).hbmPend.any fun e => e.1 == n && e.2.2.1 == r.due && hbmAbsent p e.2.1 s
    let reg : RetReg := if late then { val := 0, unk := 255 } else { val := r.val, unk := r.unk }
    { s with mem := { s.mem with ret := Store.set [] k (q.filter fun r => !decide (r.due ≤ cnt)) s.mem.ret }
             bp := { s.bp with ret := Store.set {} k reg s.bp.ret } }

/-- HBM_SCHEDULE: the controller of `stack` places the oldest design read of partition `p` on its channel; `late` says that the
data will not be in the return path by the due step (R146, R118). -/
def hbmSchedule (p stack chan : Nat) (late : Bool) (s : State) : State :=
  let r := s.part p
  match r.hbmPend.find? (fun e => e.2.1 == stack) with
  | none => s
  | some (n, k, due, bell, code) =>
    let s := s.setPart p { r with hbmPend := r.hbmPend.filter fun e => e != (n, k, due, bell, code) }
    if late then
      let s := s.bump F.HBM_LATE_COUNT stack 1
      let l := s.gf F.BBD_PART_HBM_LAT p
      let idx := idxAdd (s.dImg p) bell code l
      let dueCode := if idx % 8192 ≥ s.dImg p then s.gf F.PART_CFG_DEPTH p + (idx % 8192 - s.dImg p) else idx % 8192
      raiseLate p (stack / 2) 1 (16 * stack + chan % 16) (due - r.count) (idx / 8192) dueCode s
    else s

/-- HBM_REFRESH: a per-bank refresh at the rate the stack demands; HOT shows the doubled rate above 85 °C (R147). -/
def hbmRefresh (stack temp : Nat) (s : State) : State :=
  (s.sf F.HBM_STATUS_TEMP stack temp).sflag F.HBM_STATUS_HOT stack (decide (temp > 85))

/-! ### Tutor, DMA and host accesses (R148-R150) -/

/-- A bank or granule that has finished zeroising is FREE, or RETIRED where retirement waited (R141, R155). -/
def zeroiseDone (blk : Nat) (s : State) : State :=
  if blk < 512 then
    if s.gf F.BBD_BANK_STATE blk = 3 then
      let s := { s with mem := s.mem.refill blk 0 }
      if s.flag F.BBD_BANK_RETIRE_PEND blk then (s.sf F.BBD_BANK_STATE blk 2).sf F.BBD_BANK_RETIRE_PEND blk 0
      else s.sf F.BBD_BANK_STATE blk 0
    else s
  else if Store.get false s.mem.granZ (blk - 512) then
    { s with mem := { s.mem.refill blk 0 with granZ := Store.set false (blk - 512) false s.mem.granZ } }
  else s

/-- An access to a ZEROISING block waits until it is FREE (R141). -/
def waitZero (a : Nat) (s : State) : State :=
  if inBB a then zeroiseDone (bankOf a) s else if inHbm a then zeroiseDone (512 + granOf a) s else s

/-- A write that R149 or R220 forbids: the owner is RUNNING or FROZEN without HOSTWR, or in replay. -/
def hostWriteBarred (a : Nat) (s : State) : Bool :=
  match memOwner a s with
  | 0 => false
  | q + 1 => (s.live q && !s.flag F.BBD_PART_HOSTWR q) || s.flag F.TRC_REPLAY_STAT_ACTIVE q

/-- An access violation by address (R13). -/
def denyAddr (rq : Requester) (access a data : Nat) (s : State) : State :=
  { logViol rq access a 0x21 1 data s with resp := { data := 0, status := 0x21, errkind := 1 } }

/-- An error response for uncorrectable data (R152, Table HIF-4). -/
def badData (s : State) : State := { s with resp := { data := 0, status := 0x21, errkind := 5 } }

/-- Granule 95 is the controller's own (R132). -/
def spareGran (a : Nat) : Bool := inHbm a && decide (granOf a % 96 = 95)

/-- A repair-copy area is read and written by the loader and the active proctor only (R405): area of partition `p`. -/
def inRepair (a : Nat) (s : State) : Bool :=
  (List.range 16).any fun p =>
    s.flag F.PRC_REPAIR_EN p && inHbm a && decide (granOf a / 96 = s.gf F.PRC_REPAIR_STACK p)
      && decide (s.gf F.PRC_REPAIR_FIRST p ≤ granOf a % 96) && decide (granOf a % 96 < s.gf F.PRC_REPAIR_FIRST p + s.gf F.PRC_REPAIR_COUNT p)

/-- Read the 8-byte word at `a` for a tutor core, a DMA engine or the host: X codes read 0, a correctable error is corrected
and counted, an uncorrectable one is an error response (R139, R151, R152). -/
def hostRead (rq : Requester) (a : Nat) (s : State) : State :=
  if spareGran a || (inRepair a s && !isActiveProctor rq s) then denyAddr rq 0 a 0 s
  else
    let s := waitZero a s
    let bad := (List.range 8).any fun i => decide (s.mem.err (a + i) ≥ 2)
    let v := fromBytes (s.rbs a 8)
    let s := if inBB a then bbReadCount a 0xFF false s else hbmReadCount (a / 16 * 16) s
    if bad then badData s else okResp v s

/-- Which bytes of the word at `a` a write stores: bytes 9-15 of a design-region slot are ignored (R144). -/
def writeMask (a be : Nat) (s : State) : Nat :=
  if inHbm a ∧ memOwner a s ≠ 0 ∧ a % 16 = 8 then be % 2 else be % 256

/-- Store the enabled bytes `data` of the word at `a` for a requester other than the design; `jdata` is what it wrote, journalled where a snapshot is active
(R144, R149, R215, R216). -/
def hostStore (a be wkind : Nat) (jdata data : List Nat) (s : State) : State :=
  let m := writeMask a be s
  let slot := a / 16 * 16
  let region := inHbm a && decide (memOwner a s ≠ 0)
  let s := match memOwner a s with
    | 0 => s
    | q + 1 =>
      let st := nextStep q s
      let ua := if inBB a then a else slot
      let s := undoEntry q ua (if inHbm a ∧ a % 16 = 8 then (if m = 0 then 0 else 255) else m) false st s
      hostwrEntry q a m wkind jdata st s
  let s := forUpTo 8 (fun i t => if bitAt m i = 1 then putByte (a + i) (data.getD i 0 % 256) false t else t) s
  if region then hbmReCheck slot s else s

/-- A plain write of a tutor core, a DMA engine or the host to design memory (R149). -/
def hostWrite (rq : Requester) (a be data : Nat) (s : State) : State :=
  if spareGran a || (inRepair a s && !isActiveProctor rq s) || hostWriteBarred a s then denyAddr rq (writeAccess rq) a data s
  else
    let s := waitZero a s
    let s := if Store.get 0 s.mem.wb (bankOf a) = (a - bankAddr (bankOf a)) / 8 + 1 ∧ inBB a ∧ be % 256 = 255 then
        { s with mem := { s.mem with wb := Store.set 0 (bankOf a) 0 s.mem.wb } } else s
    okResp 0 (hostStore a be 0 (toBytes 8 data) (toBytes 8 data) s)

/-- DESIGN_MEMORY_ACCESS: an access to design memory by a tutor core, a DMA engine or the host (R148, R149). An address outside
the blackboard and HBM is no access of this kind. -/
def designMemoryAccess (rq : Requester) (write : Bool) (a be data : Nat) (s : State) : State :=
  let a := a / 8 * 8
  if inBB a || inHbm a then (if write then hostWrite rq a be data (wakeAccess rq s) else hostRead rq a (wakeAccess rq s)) else s

/-- The bytes that a write of kind 0 plain, 1 bit-set, 2 bit-clear stores; an X code is merged as 0 (R150). -/
def aliasBytes (a wkind : Nat) (m : List Nat) (s : State) : List Nat :=
  (List.range 8).map fun i =>
    let old := if s.mem.isX (a + i) then 0 else (s.rb (a + i)).toNat
    match wkind with
    | 1 => Nat.lor old (m.getD i 0)
    | 2 => Nat.land old (255 - m.getD i 0)
    | _ => m.getD i 0

/-- An alias write to blackboard offset `o`: one atomic read-modify-write (R150). -/
def aliasWrite (rq : Requester) (set : Bool) (o be data : Nat) (s : State) : State :=
  let a := bbBase + o % 0x10000000 / 8 * 8
  if hostWriteBarred a s then denyAddr rq (writeAccess rq) a data s
  else
    let s := waitZero a s
    let bad := (List.range 8).any fun i => bitAt be i = 1 && decide (s.mem.err (a + i) ≥ 2)
    let ok := mask8 fun i => bitAt be i = 1 && !decide (s.mem.err (a + i) ≥ 2)
    let m := toBytes 8 data
    let new := aliasBytes a (if set then 1 else 2) m s
    let s := hostStore a ok (if set then 1 else 2) m new s
    if bad then badData s else okResp 0 s

/-- BIT_SET_ALIAS_WRITE. -/
def bitSetAlias (rq : Requester) (o be data : Nat) (s : State) : State := aliasWrite rq true o be data (wakeAccess rq s)

/-- BIT_CLEAR_ALIAS_WRITE. -/
def bitClearAlias (rq : Requester) (o be data : Nat) (s : State) : State := aliasWrite rq false o be data (wakeAccess rq s)

/-! ### ECC, zeroising, march, retirement -/

/-- The correctable errors of a word are rewritten. -/
def rewriteWord (a n : Nat) (s : State) : State :=
  forUpTo n (fun i t => if t.mem.err (a + i) = 1 then { t with mem := t.mem.clrErr (a + i) } else t) s

/-- ECC_WRITEBACK: bank `b` performs its queued write-back (R151). -/
def eccWriteback (b : Nat) (s : State) : State :=
  match Store.get 0 s.mem.wb b with
  | 0 => s
  | w + 1 =>
    let s := rewriteWord (bankAddr b + 8 * w) 8 s
    { s with mem := { s.mem with wb := Store.set 0 b 0 s.mem.wb } }

/-- BACKGROUND_SCRUB: word `w` of bank `b` is read in an idle cycle and written back when corrected (R151). -/
def backgroundScrub (b w : Nat) (s : State) : State :=
  if s.gf F.BBD_SCRUB_CFG_PERIOD 0 = 0 then s
  else
    let a := bankAddr b + 8 * w
    rewriteWord a 8 (bbReadCount a 0xFF false s)

/-- Stop the march engines that run on bank `b`: ABORT and UNLOAD do not restore (R154). -/
def marchAbort (b : Nat) (s : State) : State :=
  let i := b / 256
  let r := if i = 0 then s.mem.marchW else s.mem.marchE
  if s.gf F.BBD_MARCH_STATUS_STATE i ≠ 0 ∧ r.preserve ∧ r.tgt = 0 ∧ s.gf F.BBD_MARCH_CFG_FIRST i ≤ b % 256 ∧ b % 256 ≤ r.last then
    (s.sf F.BBD_MARCH_STATUS_STATE i 0).sf F.BBD_MARCH_STATUS_ABORTED i 1
  else s

/-- A preserving march runs on a bank of partition `p` (R154). -/
def marchOn (p : Nat) (s : State) : Bool :=
  (List.range 2).any fun i =>
    let r := if i = 0 then s.mem.marchW else s.mem.marchE
    decide (s.gf F.BBD_MARCH_STATUS_STATE i ≠ 0) && r.preserve &&
      (List.range 256).any fun b => decide (s.gf F.BBD_MARCH_CFG_FIRST i ≤ b) && decide (b ≤ r.last)
        && decide (bankOwner (256 * i + b) s = p + 1)

/-- Release a partition's banks and granules: each is zeroised and then free (R141). Budgets and descriptors are dropped. -/
def releaseMemory (p : Nat) (s : State) : State :=
  let s := forUpTo 512 (fun b t =>
    if bankOwner b t = p + 1 then
      let t := marchAbort b t
      ((t.sf F.BBD_BANK_STATE b 3).sf F.BBD_BANK_OWNER b 0).sf F.BBD_BANK_IBANK b 0
    else t) s
  let gs := s.mem.granOwn.filterMap fun e => if e.2 = p + 1 then some e.1 else none
  let s := forEach gs (fun g t => { t with mem := { t.mem with granOwn := Store.set 0 g 0 t.mem.granOwn, granZ := Store.set false g true t.mem.granZ } }) s
  let s := forUpTo 64 (fun k t => if t.flag F.HBM_REG_A_VALID k && decide (t.gf F.HBM_REG_A_OWNER k = p) then t.setReg .HBM_REG_A k 0 else t) s
  forUpTo 4 (fun k t => if p < 8 then t.sf (F.HBM_BUDGET_LO_BUDGET.nth p) k 0 else t.sf (F.HBM_BUDGET_HI_BUDGET.nth (p - 8)) k 0) s

/-- BANK_ZEROISE_DONE: block 0-511 a bank, 512 + 96 s + g a granule (R141, R155). -/
def bankZeroiseDone (blk : Nat) (s : State) : State := zeroiseDone blk s

/-- The march engine's record of base `i`. -/
def marchRec (i : Nat) (s : State) : MarchRec := if i = 0 then s.mem.marchW else s.mem.marchE
def setMarch (i : Nat) (r : MarchRec) (s : State) : State :=
  { s with mem := if i = 0 then { s.mem with marchW := r } else { s.mem with marchE := r } }

/-- Block number (as in `MemState.fill`) of unit `u` of the march of base `i`. -/
def marchBlock (i tgt u : Nat) : Nat := if tgt = 0 then 256 * i + u else 512 + 96 * (2 * i + tgt - 1) + u

/-- A unit may be marched (R153). Granules that hold tutor or DMA data are known to software alone. -/
def marchEligible (i : Nat) (s : State) (u : Nat) : Bool :=
  let tgt := s.gf F.BBD_MARCH_CFG_TGT i
  let b := marchBlock i tgt u
  if s.flag F.BBD_MARCH_CFG_PRESERVE i then
    decide (tgt = 0) && (decide (s.gf F.BBD_BANK_STATE b = 0)
      || (decide (s.gf F.BBD_BANK_STATE b = 1) && (decide (s.pst (s.gf F.BBD_BANK_OWNER b) = stLoaded)
        || decide (s.pst (s.gf F.BBD_BANK_OWNER b) = stHalted))))
  else if tgt = 0 then decide (s.gf F.BBD_BANK_STATE b = 0) || decide (s.gf F.BBD_BANK_STATE b = 2)
  else decide (granOwner (b - 512) s = 0) && decide (u < 95)

/-- First byte of the march buffer of base `i`. -/
def marchBuf (i : Nat) (s : State) : Nat :=
  s.gf F.BBD_MARCH_BUF_LO_ADDR i * 1048576 + s.gf F.BBD_MARCH_BUF_HI_ADDR i * 2 ^ 32

/-- A march command outside its conditions (R153). -/
def marchRefuse (rq : Requester) (i cmd : Nat) (s : State) : State :=
  logRefused rq .BBD_MARCH_CMD i cmd (s.sf F.BBD_MARCH_STATUS_STATUS i 0x20)

/-- The raw words of the first bank in the buffer of a preserving run. -/
def marchSave (i buf runs : Nat) (s : State) : State :=
  let s := { s with seq := s.seq + 1 }
  if inBB buf || inHbm buf then s.wbs buf ((List.range 1048576).map fun k => (Config.marchRaw (2 * runs + i) k).toNat) else s

/-- MARCH_START (R153, R154). In preserving mode the raw words of the first bank stand in the buffer, as free bytes: the
specification does not lay out a raw code word. -/
def marchStart (rq : Requester) (i : Nat) (s : State) : State :=
  if !(procOrM rq s) then (denyWrite rq .BBD_MARCH_CMD i 1 s).sf F.BBD_MARCH_STATUS_STATUS i 0x21
  else
    let f := s.gf F.BBD_MARCH_CFG_FIRST i
    let l := max f (s.gf F.BBD_MARCH_CFG_LAST i)
    let pre := s.flag F.BBD_MARCH_CFG_PRESERVE i
    let buf := marchBuf i s
    let bufOk := !pre || !(inBB buf && memOwner buf s != 0) && !(inHbm buf && memOwner buf s != 0)
    if s.gf F.BBD_MARCH_STATUS_STATE i = 0 ∧ bufOk ∧ ((List.range (l + 1 - f)).map (f + ·)).all (marchEligible i s) then
      let r := marchRec i s
      let s := setMarch i { last := l, alg := s.gf F.BBD_MARCH_CFG_ALG i, preserve := pre, tgt := s.gf F.BBD_MARCH_CFG_TGT i, runs := r.runs + 1 } s
      let s := if pre then marchSave i buf r.runs s else s
      let s := ((s.sf F.BBD_MARCH_STATUS_STATUS i 0).sf F.BBD_MARCH_STATUS_STATE i 1).sf F.BBD_MARCH_STATUS_CUR i f
      ((s.sf F.BBD_MARCH_STATUS_FAILS i 0).setReg .BBD_MARCH_FAIL i 0)
    else marchRefuse rq i 1 s

/-- A destructive run leaves its residue in the units from FIRST to `u` (entry 13). -/
def marchResidue (i u : Nat) (s : State) : State :=
  let r := marchRec i s
  let f := s.gf F.BBD_MARCH_CFG_FIRST i
  if r.preserve then s
  else forUpTo (u + 1 - f) (fun k t => { t with mem := t.mem.refill (marchBlock i r.tgt (f + k)) (3 + 4 * r.runs + i) }) s

/-- Failing units of a run: each sets FAILED, the first one and its word are recorded (R153). -/
def marchFails (i : Nat) (fails : List (Nat × Nat)) (s : State) : State :=
  let r := marchRec i s
  let s := match fails with
    | [] => s
    | (u, w) :: _ => ((s.sf F.BBD_MARCH_FAIL_UNIT i u).sf F.BBD_MARCH_FAIL_WORD i w).sf F.BBD_MARCH_FAIL_VALID i 1
  forEach fails (fun e t =>
    let t := t.bump F.BBD_MARCH_STATUS_FAILS i 1
    if r.tgt = 0 then t.sf F.BBD_BANK_FAILED (256 * i + e.1 % 256) 1 else t) s

/-- MARCH_STOP, with the unit the engine has reached (R153, R154). -/
def marchStop (rq : Requester) (i cur : Nat) (s : State) : State :=
  if !(procOrM rq s) then (denyWrite rq .BBD_MARCH_CMD i 2 s).sf F.BBD_MARCH_STATUS_STATUS i 0x21
  else if s.gf F.BBD_MARCH_STATUS_STATE i ≠ 1 then marchRefuse rq i 2 s
  else
    let r := marchRec i s
    let u := min r.last (max cur (s.gf F.BBD_MARCH_CFG_FIRST i))
    let s := (marchResidue i u s).sf F.BBD_MARCH_STATUS_CUR i u
    let s := (s.sf F.BBD_MARCH_STATUS_STATUS i 0).sf F.BBD_MARCH_STATUS_ABORTED i 1
    s.sf F.BBD_MARCH_STATUS_STATE i (if r.preserve then 2 else 0)

/-- MARCH_DONE: the engine reaches LAST, with the failing units and the first failing word of each (R153). -/
def marchDone (i : Nat) (fails : List (Nat × Nat)) (s : State) : State :=
  if s.gf F.BBD_MARCH_STATUS_STATE i ≠ 1 then s
  else
    let r := marchRec i s
    let s := marchFails i fails (marchResidue i r.last s)
    let s := (s.sf F.BBD_MARCH_STATUS_CUR i r.last).sf F.BBD_MARCH_STATUS_DONE i 1
    s.sf F.BBD_MARCH_STATUS_STATE i 0

/-- MARCH_RESTORE_DONE: the bank in progress is restored after STOP (R154). -/
def marchRestoreDone (i : Nat) (s : State) : State :=
  if s.gf F.BBD_MARCH_STATUS_STATE i = 2 then s.sf F.BBD_MARCH_STATUS_STATE i 0 else s

/-- A retirement command outside its conditions (R155). -/
def retireRefuse (rq : Requester) (w : Nat) (s : State) : State :=
  logRefused rq .BBD_RETIRE_CMD 0 w (s.sf F.BBD_RETIRE_STATUS_STATUS 0 0x20)

/-- RETIRE of a bank (R155): a FREE bank at once, an owned or zeroising one on release. -/
def retireBank (rq : Requester) (b : Nat) (s : State) : State :=
  if !(isActiveProctor rq s) then (denyWrite rq .BBD_RETIRE_CMD 0 (b + 65536) s).sf F.BBD_RETIRE_STATUS_STATUS 0 0x21
  else
    let st := s.gf F.BBD_BANK_STATE b
    if st = 2 then retireRefuse rq (b + 65536) s
    else
      let s := okResp 0 (s.sf F.BBD_RETIRE_STATUS_STATUS 0 0)
      let s := report 0 0x30 0xFF 0xFF 0 0 (1 + 256 * b) s
      if st = 0 then s.sf F.BBD_BANK_STATE b 2 else s.sf F.BBD_BANK_RETIRE_PEND b 1

/-- UNRETIRE of a bank (R155): it returns to FREE after zeroising. -/
def unretireBank (rq : Requester) (b : Nat) (s : State) : State :=
  if !(isActiveProctor rq s) then (denyWrite rq .BBD_RETIRE_CMD 0 (b + 131072) s).sf F.BBD_RETIRE_STATUS_STATUS 0 0x21
  else if s.gf F.BBD_BANK_STATE b ≠ 2 then retireRefuse rq (b + 131072) s
  else okResp 0 ((s.sf F.BBD_RETIRE_STATUS_STATUS 0 0).sf F.BBD_BANK_STATE b 3)

/-- HBM_RETIRE: relocate a 4 KiB page of stack `k` into granule 95 (R156). -/
def hbmRetire (rq : Requester) (k page : Nat) (s : State) : State :=
  if !(isActiveProctor rq s) then (denyWrite rq .HBM_RETIRE_CMD k page s).sf F.HBM_RET_STAT_STATUS k 0x21
  else
    let pages := Store.get [] s.mem.pages k
    if s.flag F.HBM_RET_STAT_BUSY k || pages.contains page || decide (page ≥ 95 * 65536) || decide (pages.length ≥ 1024) then
      logRefused rq .HBM_RETIRE_CMD k page (s.sf F.HBM_RET_STAT_STATUS k 0x20)
    else
      let s := okResp 0 ((s.sf F.HBM_RET_STAT_STATUS k 0).sf F.HBM_RET_STAT_BUSY k 1)
      { s with mem := { s.mem with copying := Store.set 0 k (page + 1) s.mem.copying } }

/-- HBM_PAGE_SWITCH: the copy ends and the mapping switches for every requester (R156). -/
def hbmPageSwitch (k : Nat) (s : State) : State :=
  match Store.get 0 s.mem.copying k with
  | 0 => s
  | page + 1 =>
    let pages := Store.get [] s.mem.pages k
    let s := { s with mem := { s.mem with copying := Store.set 0 k 0 s.mem.copying, pages := Store.set [] k (pages ++ [page]) s.mem.pages } }
    let s := (s.sf F.HBM_RET_STAT_BUSY k 0).sf F.HBM_RET_STAT_USED k (pages.length + 1)
    report 0 0x30 0xFF 0xFF 0 0 (2 + 256 * (page + 8388608 * k)) s

end Machine
end Sys2Proof
end

