-- ==== Sys2Proof/Machine/Net.lean ====
section
/-! DEFINITION. The signal network: exports, hallway and base switches, stairwells, the bridge crossing, padding, ownership
(R92-R110). -/
namespace Sys2Proof
namespace Machine

/-- Owner + 1 of segment `g` (4096 x die + 512 x stairwell + segment) (R106). -/
def State.segOwner (s : State) (g : Nat) : Nat :=
  let i := g / 512
  let q := g % 512 / 64
  if bitAt (s.gf F.NET_SW_VALID_VALID i) q = 1 then s.gf (F.NET_SW_OWN_OWN.nth q) i + 1 else 0

/-- Bundle and slot group of a signal slot (R101, R102). -/
def slotGroup (g : Nat) : Nat × Nat :=
  if g < 5504 then (g / 344, g % 344 / 43) else (16 + (g - 5504) / 336, (g - 5504) % 336 / 42)

/-- Owner + 1 of signal slot `g` sent by base `b` (R102, R106). NET_BR_VALID holds West to East in its low byte. -/
def State.slotOwner (s : State) (b g : Nat) : Nat :=
  let (k, q) := slotGroup g
  if b = 0 then
    if bitAt (s.reg .NET_BR_VALID k).toNat q = 1 then s.gf (F.NET_BR_OWN_WE_OWN.nth q) k + 1 else 0
  else
    if bitAt (s.reg .NET_BR_VALID k).toNat (8 + q) = 1 then s.gf (F.NET_BR_OWN_EW_OWN.nth q) k + 1 else 0

/-- Owner + 1 of a logical class. -/
def State.clsOwner (s : State) (n : Nat) : Nat :=
  if s.flag F.CLS_SEQ_STATUS_ASSIGNED n then s.gf F.CLS_SEQ_STATUS_PART n + 1 else 0

/-- A logical class whose physical class is fenced (R391). -/
def State.clsFenced (s : State) (n : Nat) : Bool := Store.get false s.bp.fenced (s.phys n)

/-- One step enable of a line with padding: what stood next moves up, and a new value enters `pad` steps behind. -/
def lineShift (stage cnt pad : Nat) (v : Option Tri) (l : Line) : Line :=
  let t := l.drop 1
  match v with
  | none => t
  | some w =>
    let t := t ++ List.replicate (pad + 1 - t.length) none
    t.set pad (match t.getD pad none with
      | none => some w
      | some y => if w = y then some w else some (Config.netCollision stage cnt))

/-- What a line holds now. -/
def lineNow (l : Line) : Option Tri := l.getD 0 none

/-- The canonical form of a line: no trailing empty places. -/
def lineTrim (l : Line) : Line := (l.reverse.dropWhile (· == none)).reverse

/-- Export line `e` of class `n` after the step enable of step `t` (R93, R109), from the chalk lines as driven at `t`. -/
def exportStep (p t n : Nat) (s : State) : State × List StepFault :=
  if s.clsFenced n then (s, [])
  else
    let k := s.phys n
    let e := Store.get {} s.bp.expTab (4096 * k + s.slotOff p + t)
    let bad := decide (e.err ≥ 2)
    let xm := s.xmode p
    let exp := (List.range 64).foldl (fun m i =>
      let f := bitsAt e.bits (10 * i) 10
      if bad then Store.set .x (64 * k + i) (triUnknown xm) m
      else if bitAt f 9 = 1 then Store.set .x (64 * k + i) (triRead xm (s.chalkAt n (f % 512))) m
      else m) s.bp.exp
    let s := { s with bp := { s.bp with exp := exp } }
    let s := if e.err = 1 then s.bump F.NET_SCHED_CE_COUNT p 1 else if bad then s.bump F.NET_SCHED_UE_COUNT p 1 else s
    (s, if bad then [{ code := 7, locA := 1 + 256 * n, locB := t }] else [])

/-- What a segment carries to readers (R96, R98): contention and no driver read X; the driver, or both, are read from the
registers that hold during the step. -/
def segUp (old : NetState) (g : Nat) : Option Tri :=
  match Store.find old.hallUp g, lineNow (Store.get [] old.baseOut (32768 * (g / 16384) + g % 16384)) with
  | some v, none => some v
  | some _, some _ => some .x
  | none, _ => none
def segDown (old : NetState) (g : Nat) : Option Tri :=
  match Store.find old.hallUp g, lineNow (Store.get [] old.baseOut (32768 * (g / 16384) + g % 16384)) with
  | none, some v => some v
  | some _, some _ => some .x
  | _, none => none

/-- What one switch entry does: nothing (no driver, or X), a value with its padding, and the faults and counts it raises. -/
structure SwRes where
  v : Option Tri := none
  pad : Nat := 0
  xpart : Bool := false
  err : Nat := 0
  fault : List StepFault := []
  deriving DecidableEq, Repr

/-- The hallway entry of destination `d` of die `die`, owned by partition `p`, entry `n` (R94, R95, R107, R109). -/
def hallEntry (p die n d : Nat) (e : SchedEntry) (s : State) : SwRes :=
  let src := bitsAt e.bits 0 13
  let seg := decide (d ≥ 4096)
  let xm := s.xmode p
  if e.err ≥ 2 then
    { v := if seg then none else some (triUnknown xm), err := 2, fault := [{ code := 7, locA := 2 + 256 * die, locB := n }] }
  else
    let r : SwRes := { err := e.err }
    if bitAt e.bits 13 = 0 ∨ (2048 ≤ src ∧ src < 4096) ∨ (seg ∧ src ≥ 4096) then r
    else
      let own := if src < 2048 then s.clsOwner (32 * die + src / 64) else s.segOwner (4096 * die + (src - 4096))
      if own ≠ p + 1 then
        { r with xpart := true, fault := [{ code := 3, locA := 16 * die, locB := d, locC := src }] }
      else if src < 2048 then
        let c := 32 * die + src / 64
        let v := if s.clsFenced c then Tri.x else Store.get .x s.bp.exp (64 * s.phys c + src % 64)
        { r with v := some (triRead xm v), pad := if seg then 0 else s.gf F.NET_PART_LAT_HALL p - 3 }
      else { r with v := some (triRead xm ((segDown s.net (4096 * die + (src - 4096))).getD .x)) }

/-- The base switch entry of destination `d` of base `b` (R99, R100, R105, R107, R109). -/
def baseEntry (p b n d : Nat) (e : SchedEntry) (s : State) : SwRes :=
  let src := bitsAt e.bits 0 15
  let seg := decide (d < 0x4000)
  let xm := s.xmode p
  if e.err ≥ 2 then
    { v := if seg then none else some (triUnknown xm), err := 2, fault := [{ code := 7, locA := 3 + 256 * b, locB := n }] }
  else
    let r : SwRes := { err := e.err }
    if bitAt e.bits 15 = 0 then r
    else
      let own := if src < 0x4000 then s.segOwner (16384 * b + src)
        else if src < 0x6000 then s.slotOwner (1 - b) (src - 0x4000)
        else s.ioOwner b (src - 0x6000) 0
      if own ≠ p + 1 then
        { r with xpart := true, fault := [{ code := 3, locA := 1 + 16 * b, locB := d, locC := src }] }
      else if src < 0x4000 then
        { r with v := some (triRead xm (Store.get .x s.net.baseIn (16384 * b + src))), pad := if seg then s.gf F.NET_PART_LAT_BASE p - 6 else 0 }
      else if src < 0x6000 then
        { r with v := some (triRead xm ((Store.get [] s.net.cross (8192 * (1 - b) + (src - 0x4000))).getD 32 .x))
                 pad := if seg then s.gf F.NET_PART_LAT_BRIDGE p - 40 else 0 }
      else
        { r with v := some (triRead xm (s.srcVal b (src - 0x6000))), pad := if seg then s.gf F.NET_PART_LAT_IO p - 3 else 0 }

/-- The segments partition `p` owns. -/
def segsOf (p : Nat) (s : State) : List Nat :=
  (List.range 64).flatMap fun i => (List.range 8).flatMap fun q =>
    if s.segOwner (512 * i + 64 * q) = p + 1 then (List.range 64).map (fun k => 512 * i + 64 * q + k) else []

/-- The signal slots partition `p` owns, as sent by base `b`. -/
def slotsOf (p b : Nat) (s : State) : List Nat :=
  (List.range 24).flatMap fun k => (List.range 8).flatMap fun q =>
    let first := if k < 16 then 344 * k + 43 * q else 5504 + 336 * (k - 16) + 42 * q
    if s.slotOwner b first = p + 1 then (List.range (if k < 16 then 43 else 42)).map (first + ·) else []

/-- The base output sinks partition `p` owns on base `b`, as indices - 0x6000. -/
def sinksOf (p b : Nat) (s : State) : List Nat :=
  s.net.ioOwn.filterMap fun e => if e.2 = p + 1 ∧ e.1 % 2 = 1 ∧ e.1 / 2 / 8192 = b then some (e.1 / 2 % 8192) else none

/-- Contention among the segments of partition `p` during this step: each counts, the first of each stairwell in a bell is
recorded (R96, R97). -/
def contention (p : Nat) (segs : List Nat) (s : State) : State × List StepFault :=
  let hot := segs.filter fun g =>
    (Store.find s.net.hallUp g).isSome && (lineNow (Store.get [] s.net.baseOut (32768 * (g / 16384) + g % 16384))).isSome
  let s := if hot.isEmpty then s else s.bump F.NET_CONTENTION_COUNT p hot.length
  hot.foldl (fun acc g =>
    let w := g / 512
    if Store.get false acc.1.net.seen (64 * p + w) then acc
    else ({ acc.1 with net := { acc.1.net with seen := Store.set false (64 * p + w) true acc.1.net.seen } },
          acc.2 ++ [{ code := 1, locA := w / 8 + 16 * (w % 8), locB := g % 512 }])) (s, [])

/-- Count what the entries of a switch raised, and collect the faults. -/
def countSw (p : Nat) (rs : List SwRes) (s : State) : State × List StepFault :=
  let ce := (rs.filter fun r => r.err == 1).length
  let ue := (rs.filter fun r => decide (r.err ≥ 2)).length
  let xp := (rs.filter fun r => r.xpart).length
  let s := if ce = 0 then s else s.bump F.NET_SCHED_CE_COUNT p ce
  let s := if ue = 0 then s else s.bump F.NET_SCHED_UE_COUNT p ue
  let s := if xp = 0 then s else s.bump F.NET_XPART_COUNT p xp
  (s, rs.flatMap (·.fault))

/-- One step enable of the network of partition `p` with switch entry `n`: every stage loads from what the stages before it
held (R92, R95, R100, R104, R105). Exports and contention are handled beside it. -/
def netStep (p n : Nat) (segs : List Nat) (old : State) (s : State) : State × List StepFault :=
  let sl := if old.flag F.PART_STATE_DUAL p then old.slot p else 0
  let cnt := (old.part p).allCount
  let classes := old.classes p
  let hall : Nat → Nat → SwRes := fun die d =>
    hallEntry p die n d (Store.get {} old.net.hallTab (((2 * die + sl) * 4200 + n) * 8192 + d)) old
  let base : Nat → Nat → SwRes := fun b d =>
    baseEntry p b n d (Store.get {} old.net.baseTab (((2 * b + sl) * 4200 + n) * 32768 + d)) old
  let impD := classes.flatMap fun c => (List.range 64).map fun i => (c, i, hall (c / 32) (64 * (c % 32) + i))
  let upD := segs.map fun g => (g, hall (g / 4096) (4096 + g % 4096))
  let downD := segs.map fun g => (32768 * (g / 16384) + g % 16384, base (g / 16384) (g % 16384))
  let slotD := [0, 1].flatMap fun b => (slotsOf p b old).map fun g => (32768 * b + 0x4000 + g, base b (0x4000 + g))
  let sinkD := [0, 1].flatMap fun b => (sinksOf p b old).map fun i => (32768 * b + 0x6000 + i, base b (0x6000 + i))
  let outD := downD ++ slotD ++ sinkD
  let o := old.net
  let bp := old.bp
  let imp := impD.foldl (fun m e =>
    Store.set .x (64 * old.phys e.1 + e.2.1) ((lineNow (Store.get [] o.hallImp (64 * e.1 + e.2.1))).getD .x) m) bp.imp
  let hallImp := impD.foldl (fun m e =>
    let k := 64 * e.1 + e.2.1
    Store.set [] k (lineTrim (lineShift k cnt e.2.2.pad e.2.2.v (Store.get [] o.hallImp k))) m) o.hallImp
  let hallUp := upD.foldl (fun m e => match e.2.v with
    | none => Store.del e.1 m
    | some v => Store.put e.1 v m) o.hallUp
  let baseIn := segs.foldl (fun m g => Store.set .x g ((segUp o g).getD .x) m) o.baseIn
  let baseOut := outD.foldl (fun m e =>
    Store.set [] e.1 (lineTrim (lineShift (16384 + e.1) cnt e.2.pad e.2.v (Store.get [] o.baseOut e.1))) m) o.baseOut
  let cross := slotD.foldl (fun m e =>
    let k := 8192 * (e.1 / 32768) + (e.1 % 32768 - 0x4000)
    let l := Store.get [] o.cross k
    let l := if l.isEmpty then List.replicate 33 Tri.x else l
    let l := ((lineNow (Store.get [] o.baseOut e.1)).getD .x :: l).take 33
    Store.set [] k (if l.all (· == .x) then [] else l) m) o.cross
  let frame := sinkD.foldl (fun m e =>
    let k := 8192 * (e.1 / 32768) + (e.1 % 32768 - 0x6000)
    Store.set .x k (Store.get .x o.portIn k) m) o.frame
  let portIn := sinkD.foldl (fun m e =>
    let k := 8192 * (e.1 / 32768) + (e.1 % 32768 - 0x6000)
    Store.set .x k ((lineNow (Store.get [] o.baseOut e.1)).getD .x) m) o.portIn
  let s := { s with
    bp := { s.bp with imp := imp }
    net := { s.net with hallImp := hallImp, hallUp := hallUp, baseIn := baseIn, baseOut := baseOut, cross := cross, frame := frame, portIn := portIn } }
  countSw p (impD.map (·.2.2) ++ upD.map (·.2) ++ outD.map (·.2)) s

/-- Set every stage of the partition to X: at ARM and at the swap of R86 (R108). -/
def clearStages (p : Nat) (s : State) : State :=
  let segs := segsOf p s
  let cls := s.classes p
  let s := forEach cls (fun n t =>
    let k := 64 * t.phys n
    { t with bp := { t.bp with imp := Store.clear k (k + 64) t.bp.imp, exp := Store.clear k (k + 64) t.bp.exp }
             net := { t.net with hallImp := Store.clear (64 * n) (64 * n + 64) t.net.hallImp } }) s
  let s := forEach segs (fun g t => { t with net := { t.net with
    hallUp := Store.del g t.net.hallUp, baseIn := Store.del g t.net.baseIn
    baseOut := Store.del (32768 * (g / 16384) + g % 16384) t.net.baseOut } }) s
  let s := forEach [0, 1] (fun b t => forEach (slotsOf p b t) (fun g t => { t with net := { t.net with
    cross := Store.del (8192 * b + g) t.net.cross, baseOut := Store.del (32768 * b + 0x4000 + g) t.net.baseOut } }) t) s
  forEach [0, 1] (fun b t => forEach (sinksOf p b t) (fun i t => { t with net := { t.net with
    portIn := Store.del (8192 * b + i) t.net.portIn, frame := Store.del (8192 * b + i) t.net.frame
    baseOut := Store.del (32768 * b + 0x6000 + i) t.net.baseOut } }) t) s

end Machine
end Sys2Proof
end

