-- ==== Sys2Proof/Machine/Array.lean ====
section
/-! DEFINITION. The Boolean arrays of a partition: slates, one step of every BP of a class, the following spare, reading and
writing slates as a whole (R29-R57). -/
namespace Sys2Proof
namespace Machine

/-- The start value of an unlisted slate entry of physical class `pc` at an address (R189). -/
def slateFill (x : Store Bool) (pc addr : Nat) : SlateEntry :=
  if Store.get false x (2 * pc + addr / 2048) then SlateEntry.ofTri .x else {}

/-- Slate entry `addr` of physical BP `bp` of physical class `pc`. -/
def State.slateAt (s : State) (pc bp addr : Nat) : SlateEntry :=
  Store.get (slateFill s.bp.slateX pc addr) s.bp.slate ((528 * pc + bp) * 4096 + addr)

/-- Write a slate entry. -/
def putSlate (pc bp addr : Nat) (e : SlateEntry) (s : State) : State :=
  { s with bp := { s.bp with slate := Store.set (slateFill s.bp.slateX pc addr) ((528 * pc + bp) * 4096 + addr) e s.bp.slate } }

/-- The shadow entry (R40). -/
def State.shadowAt (s : State) (pc bp addr : Nat) : SlateEntry :=
  Store.get (slateFill s.bp.shadowX pc addr) s.bp.shadow ((528 * pc + bp) * 4096 + addr)

/-- Physical BP that holds logical BP `k` of logical class `n`. -/
def State.physBp (s : State) (n k : Nat) : Nat := s.gf F.CLS_BP_MAP_PHYS (512 * n + k)

/-- What the BPs of class `n` of partition `p` read from at step `t`. -/
def bpCtx (p n t : Nat) (bp : Nat) (s : State) : BpCtx :=
  let pc := s.phys n
  let off := s.slotOff p
  { t := t, xmode := s.xmode p, b0 := s.flag F.GLB_FEATURE_LEVEL_SR128 0, dual := s.flag F.PART_STATE_DUAL p, base := off
    slate := fun a => s.slateAt pc bp a
    chalk := fun l => s.chalkAt n l
    imp := fun i => s.impAt n i
    ret := Store.get {} s.bp.ret pc }

/-- The timetable word of logical BP `k` of class `n` at step `t`. -/
def imemAt (p n k t : Nat) (s : State) : ImemWord :=
  Store.get {} s.bp.imem ((528 * s.phys n + s.physBp n k) * 4096 + s.slotOff p + t)

/-- The fault record of a BP fault (Table CON-8), and the counter it counts in. -/
def bpFault (n k : Nat) (f : BpFault) : StepFault :=
  match f with
  | .undef d => { code := 2, locA := n, locB := k, locC := d }
  | .parity a => { code := 6, locA := n, locB := k, locC := a }
  | .imem h => { code := 7, locA := 256 * n, locB := k, locC := h }

/-- The value on chalk line `k` goes into entry `t - 1` of a following physical BP, unless the role was IDLE there
(R53, step 2). `t` is the timetable step, or the depth at gap step 0. -/
def followInto (p n k pc bp t : Nat) (old s : State) : State :=
  if t = 0 then s
  else if bitsAt (imemAt p n k (t - 1) old).word.toNat 62 2 = 3 then s
  else putSlate pc bp (s.slotOff p + (t - 1)) (SlateEntry.ofTri (old.chalkAt n k)) s

/-- Physical BP in spare slot `j` of class `n` (R53, R389). -/
def State.spareBp (s : State) (n j : Nat) : Nat := Store.get (512 + j) s.bp.spare (16 * s.phys n + j)

/-- The class follow in progress is one of class `n`: its substitute (R395). -/
def State.clsFollower (s : State) (n : Nat) : Option Nat :=
  if s.flag F.PRC_CLS_SUB_STAT_FOLLOW 0 && decide (s.gf F.PRC_CLS_SUB_STAT_CLASS 0 = n) then some s.rel.clsSub else none

/-- What the followers of class `n` do at step `t` (or at gap 0, `t` the depth): a BP follow, a class follow (R53, R395). -/
def followStep (p n t : Nat) (old s : State) : State :=
  let s := if s.flag F.CLS_SUB_STATUS_FOLLOW n && !(Store.get {} s.bp.follow n).copying then
      let k := s.gf F.CLS_SUB_STATUS_LBP n
      followInto p n k (s.phys n) (s.spareBp n (s.gf F.CLS_SUB_STATUS_SPARE n)) t old s
    else s
  match s.clsFollower n with
  | none => s
  | some f => if s.rel.clsRec.copying then s else forUpTo 512 (fun k u => followInto p n k f k t old u) s

/-- One step of the 512 BPs of class `n` (R37, R41, R50-R52). Every read is of the state before the step. -/
def classStep (p n t : Nat) (old s : State) : State × List StepFault :=
  if old.clsFenced n then (s, [])
  else
    let pc := old.phys n
    (List.range 512).foldl (fun acc k =>
      let w := imemAt p n k t old
      let o := bpStep (bpCtx p n t (old.physBp n k) old) w
      let s := acc.1
      let s := match o.write with
        | none => s
        | some v => putSlate pc (old.physBp n k) (old.slotOff p + t) (SlateEntry.ofTri v) s
      let s := match o.drive with
        | none => s
        | some v => { s with bp := { s.bp with chalk := Store.set .x (512 * pc + k) v s.bp.chalk } }
      let ce := b2n (w.lo == 1) + b2n (w.hi == 1)
      let s := if ce = 0 then s else s.bump F.CLS_IMEM_CE_COUNT n ce
      let s := if o.faults.isEmpty then s
        else
          let ue := (o.faults.filter fun f => match f with | .imem _ => true | _ => false).length
          let pe := (o.faults.filter fun f => match f with | .parity _ => true | _ => false).length
          let s := if ue = 0 then s else s.bump F.CLS_IMEM_UE_COUNT n ue
          if pe = 0 then s else s.bump F.CLS_SLATE_PE_COUNT n pe
      (s, acc.2 ++ o.faults.map (bpFault n k))) (s, [])

end Machine
end Sys2Proof
end

