-- ==== Sys2Proof/Machine/Trace.lean ====
section
/-! DEFINITION. Signal trace: probe lanes, triggers, packets and sinks (R223-R228, R230). -/
namespace Sys2Proof
namespace Machine

/-! States of TRC_PSTAT.STATE. -/
def trcIdle : Nat := 0
def trcRunning : Nat := 1
def trcTriggered : Nat := 2
def trcStopped : Nat := 3

/-- TRC_PSTAT.STATE. -/
def State.trst (s : State) (p : Nat) : Nat := s.gf F.TRC_PSTAT_STATE p

/-- The trace of partition `p` records. -/
def tracing (p : Nat) (s : State) : Bool :=
  (decide (s.trst p = trcRunning) || decide (s.trst p = trcTriggered)) && decide (s.gf F.TRC_PCFG_SINK p ≠ 0)

/-- Bytes that stand in the packet buffer of base `b`: 64 GB/s leave it, 10240 bytes in as many step clocks as the step-clock
code (R227). -/
def tbufHeld (b : Nat) (s : State) : Nat :=
  let (n, t) := Store.get (0, 0) s.trc.tbuf b
  let f := s.gf F.GLB_STEP_FREQ_FREQ 0
  n - (if f = 0 then 0 else 10240 * (s.scc - t) / f)

/-- Number of 64-byte lines of the signal-trace ring. -/
def ringLines (p : Nat) (s : State) : Nat := areaSize p 3 s / 64

/-- Write the full lines that the bytes of the ring make up (R227). -/
def ringFlush (p : Nat) (s : State) : State :=
  let l := (s.trec p).line
  if l.length < 64 ∨ ringLines p s = 0 then s
  else
    let n := s.gf F.TRC_SIG_WR_LINE p
    let s := s.wbs (areaBase p 3 s + 64 * n) (l.take 64)
    let s := s.modTrec p fun r => { r with line := l.drop 64, ringPos := r.ringPos + 1 }
    if n + 1 ≥ ringLines p s then
      if s.flag F.TRC_PCFG_FULL p then
        partEvent p 7 ((s.sf F.TRC_SIG_WR_LINE p (n + 1)).sf F.TRC_PSTAT_STATE p trcStopped)
      else (s.sf F.TRC_SIG_WR_LINE p 0).sf F.TRC_SIG_WR_WRAPPED p 1
    else s.sf F.TRC_SIG_WR_LINE p (n + 1)

/-- Put a packet into the sink of partition `p` (R226, R227). -/
def toSink (p : Nat) (bytes : List Nat) (s : State) : State :=
  if s.gf F.TRC_PCFG_SINK p = 2 then
    funnelPut (0x50 + p) bytes s
  else ringFlush p (s.modTrec p fun r => { r with line := r.line ++ bytes })

/-- The SBELL packet of the bell in progress (Table OBS-4). -/
def sbell (p : Nat) (s : State) : List Nat :=
  [1, b2n (s.flag F.TRC_REPLAY_STAT_ACTIVE p)] ++ toBytes 6 (s.part p).bell

/-- Emit a packet of source 0x50 + p from base `b`: dropped and counted while the buffer is full; the next accepted one
follows LOST and SBELL (R227, R228). -/
def emit (p b : Nat) (bytes : List Nat) (s : State) : State :=
  if sealedOut p s then s
  else
    let held := tbufHeld b s
    let r := s.trec p
    if held + bytes.length > 1048576 then
      let s := s.bump F.TRC_SIG_LOST_COUNT p 1
      s.modTrec p fun r =>
        if r.lost = 0 then { r with lost := 1, lostBell := (s.part p).bell, lostStep := jrnStep (s.curStep p) }
        else { r with lost := r.lost + 1 }
    else
      let s := { s with trc := { s.trc with tbuf := Store.set (0, 0) b (held + bytes.length, s.scc) s.trc.tbuf } }
      let s := if r.lost = 0 then s
        else
          let s := toSink p ([5, 0] ++ toBytes 2 (min r.lost 65535) ++ toBytes 6 r.lostBell ++ toBytes 2 r.lostStep ++ toBytes 4 0) s
          let s := toSink p (sbell p s) s
          s.modTrec p fun r => { r with lost := 0, sent := [] }
      toSink p bytes s

/-- The class has emitted nothing in this bell, or its value differs from the last one (R223). -/
def sigDue (p n v : Nat) (s : State) : Bool :=
  !(s.flag F.TRC_PCFG_MODE p) || !(Store.get false (s.trec p).sent n) || decide (Store.get 0 (s.trec p).last n ≠ v + 1)

/-- The SIG packet of class `n` at timetable step `t` (R223, Table OBS-4). -/
def probeClass (p t n : Nat) (s : State) : State :=
  let e := Store.get 0 s.trc.probe ((2 * n + s.gf F.TRC_PCFG_PBANK p) * 4096 + t)
  let lane : Nat → Nat := fun l => bitsAt e (10 * l) 10
  if (List.range 16).all fun l => bitAt (lane l) 9 = 0 then s
  else
    let val : Nat → Tri := fun l => if bitAt (lane l) 9 = 1 then triRead (s.xmode p) (s.chalkAt n (lane l % 512)) else .zero
    let v := (List.range 16).foldl (fun m l => m + b2n (decide (val l = .one)) * 2 ^ l) 0
    let u := (List.range 16).foldl (fun m l => m + b2n (decide (val l = .x)) * 2 ^ l) 0
    if sigDue p n (v + 65536 * u) s then
      let s := emit p (n / 128) ([2, n] ++ toBytes 2 t ++ toBytes 2 v ++ toBytes 2 u) s
      s.modTrec p fun r => { r with sent := Store.set false n true r.sent, last := Store.set 0 n (v + 65536 * u + 1) r.last }
    else s

/-- Emit STOP and become STOPPED (R225). -/
def traceStop (p bell : Nat) (s : State) : State :=
  let s := if s.gf F.TRC_PCFG_SINK p = 0 then s else emit p (s.leadBase p) ([4, 0] ++ toBytes 6 bell) s
  partEvent p 7 (s.sf F.TRC_PSTAT_STATE p trcStopped)

/-- TRACE_POST_END: the trace has passed the last timetable step of bell B + POST (R225). `last` tells that the bell in
progress is past its last timetable step. -/
def tracePostEnd (p : Nat) (last : Bool) (s : State) : State :=
  if s.trst p ≠ trcTriggered then s
  else
    let e := (s.trec p).trigBell + s.gf F.TRC_TRG_ACT_POST p
    let b := (s.part p).bell
    if b > e ∨ (b = e ∧ last) then traceStop p (min b e) s else s

/-- Pulse a cross-trigger channel (R375): the pulse acts on its destinations at CTI_PULSE. -/
def pulseCti (c : Nat) (s : State) : State := { s with dbg := { s.dbg with cti := s.dbg.cti ++ [c] } }

/-- The partition's bell is past its last timetable step. -/
def pastTimetable (p : Nat) (s : State) : Bool :=
  s.flag F.PART_STATE_IN_GAP p || decide (s.gf F.PART_STATE_STEP p + 1 ≥ s.dImg p)

/-- The trigger of partition `p` fires: SRC 0 design, 1 stopwatch, 2 cross-trigger, 3 FORCE (R224, R225). -/
def traceFire (p src idx : Nat) (st : Nat × Bool) (bell : Nat) (s : State) : State :=
  if s.trst p ≠ trcRunning then s
  else if src ≠ 0 ∧ s.flag F.TRC_REPLAY_STAT_ACTIVE p then s
  else
    let s := (s.sf F.TRC_PSTAT_STATE p trcTriggered).sf F.TRC_TRG_STAT_FIRED p 1
    let s := (s.sf F.TRC_TRG_STAT_SRC p src).sf F.TRC_TRG_STAT_IDX p idx
    let s := (s.sf F.TRC_TRG_STAT_STEP p st.1).sflag F.TRC_TRG_STAT_GAP p st.2
    let s := s.modTrec p fun r => { r with trigBell := bell, haltDone := false }
    let post := s.gf F.TRC_TRG_ACT_POST p
    let s := emit p (s.leadBase p) ([3, src] ++ toBytes 2 (jrnStep st) ++ toBytes 6 bell ++ [idx, 0] ++ toBytes 2 post ++ [0, 0]) s
    let cap := s.flag F.TRC_TRG_ACT_CAP p && !sealedOut p s && decide (s.gf F.TRC_SNAP_STAT_SLOTS p ≠ 0)
      && decide (s.gf F.TRC_AREA_COUNT (4 * p + 1) ≠ 0) && decide (s.gf F.TRC_AREA_COUNT (4 * p + 2) ≠ 0)
    let s := if cap && !(s.flag F.PART_STATE_CAPTURE_PEND p) then
        (s.sf F.PART_STATE_CAPTURE_PEND p 1).modPart p fun r => { r with capArg := 0 }
      else s
    let s := if s.flag F.TRC_TRG_ACT_CTI_OUT p then pulseCti (s.gf F.TRC_TRG_ACT_CTI_CH p) s else s
    tracePostEnd p (pastTimetable p s) s

/-- The HALT action requests its halt in time for gap 0 of bell B + POST, or at the next gap (R225). -/
def traceHalt (p : Nat) (s : State) : State :=
  let r := s.trec p
  if s.flag F.TRC_TRG_ACT_HALT p ∧ s.flag F.TRC_TRG_STAT_FIRED p ∧ !r.haltDone
      ∧ (s.part p).bell ≥ r.trigBell + s.gf F.TRC_TRG_ACT_POST p then
    (s.sf F.PART_STATE_STOP_PEND p 1).modTrec p fun r => { r with haltDone := true }
  else s

/-- Sample the design triggers at timetable step `t`: a bit that fires arrives TRIG steps later (R224). -/
def sampleTriggers (p t : Nat) (s : State) : State :=
  if s.trst p ≠ trcRunning then s
  else
    forUpTo 8 (fun k u =>
      let n := u.gf F.TRC_TRG_SEL_CLASS (8 * p + k)
      let v := triRead (u.xmode p) (u.chalkAt n (u.gf F.TRC_TRG_SEL_LINE (8 * p + k)))
      let hit : Bool := match v with
        | .x => decide (bitAt (u.gf F.TRC_TRG_DES_XFIRE p) k = 1)
        | w => decide (w = Tri.ofBool (bitAt (u.gf F.TRC_TRG_DES_POL p) k = 1))
      if bitAt (u.gf F.TRC_TRG_DES_EN p) k = 1 ∧ hit ∧ u.clsOwner n = p + 1 then
        u.modTrec p fun r => { r with trig := r.trig ++ [((u.part p).count + u.lat p 7, k, t, (u.part p).bell)] }
      else u) s

/-- DESIGN_TRIGGER: a design trigger bit reaches the trigger unit TRIG steps after it was driven (R224). Of several that
arrive together the lowest index is reported. `c` is the count of the step about to run. -/
def designTrigger (p c : Nat) (s : State) : State :=
  match (s.trec p).trig with
  | [] => s
  | (due, k, t, bell) :: r =>
    if c < due then s
    else traceFire p 0 k (t, false) bell (s.modTrec p fun z => { z with trig := r })

/-- The trace's part of timetable step `t`: probe lanes of every class, triggers, the end of the post-trigger count. -/
def traceStep (p t : Nat) (s : State) : State :=
  let s := if tracing p s then forEach (s.classes p) (fun n u => probeClass p t n u) s else s
  tracePostEnd p (decide (t + 1 ≥ s.dImg p)) (sampleTriggers p t s)

/-- The trace's part of a bell start (R223). -/
def traceBell (p : Nat) (s : State) : State :=
  let s := s.modTrec p fun r => { r with sent := [] }
  if tracing p s then emit p (s.leadBase p) (sbell p s) s else s

/-- A trace command is refused (R230). -/
def trcRefuse (rq : Requester) (p cmd st : Nat) (s : State) : State :=
  logViol rq 4 (regAddr .TRC_PCMD p) st 0 cmd (s.sf F.TRC_PSTAT_CMDST p st)

/-- TRC_ARM (Table OBS-6, R228, R230). -/
def trcArm (rq : Requester) (p : Nat) (s : State) : State :=
  if !(partOk rq p s) then denyWrite rq .TRC_PCMD p 1 s
  else if sealedOut p s then trcRefuse rq p 1 0x21 s
  else if (s.trst p = trcIdle ∨ s.trst p = trcStopped) ∧ s.gf F.TRC_PCFG_SINK p ≠ 0 then
    let s := (s.sf F.TRC_PSTAT_STATE p trcRunning).sf F.TRC_PSTAT_CMDST p 0
    let s := s.setReg .TRC_TRG_STAT p 0
    let pass := passCovers p s && s.sealed p
    s.modTrec p fun r => { r with sent := [], last := [], trig := [], lost := 0, haltDone := false, pass := pass
                                  passFrom := if pass && r.passFrom.isNone then some r.ringPos else r.passFrom }
  else trcRefuse rq p 1 0x20 s

/-- TRC_STOP. -/
def trcStop (rq : Requester) (p : Nat) (s : State) : State :=
  if !(partOk rq p s) then denyWrite rq .TRC_PCMD p 2 s
  else if s.trst p = trcRunning ∨ s.trst p = trcTriggered then traceStop p (s.part p).bell (s.sf F.TRC_PSTAT_CMDST p 0)
  else trcRefuse rq p 2 0x20 s

/-- TRC_FORCE. -/
def trcForce (rq : Requester) (p : Nat) (s : State) : State :=
  if !(partOk rq p s) then denyWrite rq .TRC_PCMD p 3 s
  else if s.trst p = trcRunning then traceFire p 3 0 (s.curStep p) (s.part p).bell (s.sf F.TRC_PSTAT_CMDST p 0)
  else trcRefuse rq p 3 0x20 s

end Machine
end Sys2Proof
end

