-- ==== Sys2Proof/Machine/Mailbox.lean ====
section
/-! DEFINITION. Host mailbox inputs (R341-R343). Mailbox 32 x base + m presents base input sources 0x7C00 + 32 m on. -/
namespace Sys2Proof
namespace Machine

/-- Mailbox `g`. -/
def State.mbx (s : State) (g : Nat) : Mbx := Store.get {} s.hif.mbx g

/-- Replace mailbox `g`; its register shows the queue's length. -/
def State.setMbx (s : State) (g : Nat) (m : Mbx) : State :=
  { s with hif := { s.hif with mbx := Store.set {} g m s.hif.mbx } }.sf F.HIF_MBX_STAT_ENTRIES g m.queue.length

/-- Owner + 1 of mailbox `g` (R341). -/
def State.mbxOwner (s : State) (g : Nat) : Nat := s.ioOwner (g / 32) (0x1C00 + 32 * (g % 32)) 0

/-- The mailboxes of partition `p`. -/
def mbxOf (p : Nat) (s : State) : List Nat := (List.range 64).filter fun g => s.mbxOwner g = p + 1

/-- Steps in one bell: depth and gap. -/
def bellLen (p : Nat) (s : State) : Nat := s.gf F.PART_CFG_DEPTH p + 12

/-- Position of the step in progress of a bell: step, or depth + gap step. -/
def stepPos (st : Nat × Bool) (p : Nat) (s : State) : Nat := if st.2 then s.gf F.PART_CFG_DEPTH p + st.1 else st.1

/-- Present an entry's bits on the mailbox's sources (R341, R343). -/
def mbxPresent (g data xmask : Nat) (s : State) : State :=
  let k := 8192 * (g / 32) + 0x1C00 + 32 * (g % 32)
  let src := (List.range 32).foldl (fun m b =>
    Store.set .x (k + b) (if bitAt xmask b = 1 then .x else Tri.ofBool (bitAt data b = 1)) m) s.net.src
  { (s.setMbx g { s.mbx g with data := data, xmask := xmask }) with net := { s.net with src := src } }

/-- The decision of a SCHED mailbox for bell `b`, presented at position `pos`, `notice` steps ahead (R343). -/
def mbxDecide (p g b pos notice : Nat) (s : State) : State :=
  let m := s.mbx g
  let stale := (m.queue.takeWhile fun e => decide (e.bell < b % 2 ^ 48)).length
  let s := if stale = 0 then s else s.bump F.HIF_MBX_STAT_STALE g stale
  let q := m.queue.dropWhile fun e => decide (e.bell < b % 2 ^ 48)
  match q with
  | [] =>
    let s := s.setMbx g { m with queue := [], due := m.due ++ [(pos, none)], waiting := some b }
    raiseLate p (g / 32) 4 g notice b (s.gf F.HIF_MBX_CFG_STEP g) s
  | e :: r =>
    if e.bell = b % 2 ^ 48 then s.setMbx g { m with queue := r, due := m.due ++ [(pos, some e)] }
    else markCorrupt p (s.setMbx g { m with queue := e :: r, due := m.due ++ [(pos, none)] })

/-- The ASYNC decision: the newest entry posted so far is presented at position `pos` (R343). -/
def mbxAsync (g pos : Nat) (s : State) : State :=
  let m := s.mbx g
  match m.queue.getLast? with
  | none => s
  | some e => s.setMbx g { m with queue := [], due := m.due ++ [(pos, some e)] }

/-- MAILBOX_DECISION of every mailbox of partition `p` whose STEP lies 24 steps ahead of linear position `lin`; `first` adds
those a partition could not decide before its bell 0 (R343). -/
def mbxDecisions (p lin : Nat) (first : Bool) (s : State) : State :=
  let len := bellLen p s
  forEach (mbxOf p s) (fun g t =>
    let st := t.gf F.HIF_MBX_CFG_STEP g
    let act : Nat → Nat → Nat → State → State := fun b pos notice u =>
      if u.flag F.HIF_MBX_CFG_MODE g then mbxDecide p g b pos notice u else mbxAsync g pos u
    let t := if first && decide (st < 24) then act (lin / len) (lin / len * len + st) st t else t
    if (lin + 24) % len = st then act ((lin + 24) / len) (lin + 24) 24 t else t) s

/-- MAILBOX_PRESENT of every mailbox of partition `p` at linear position `lin` (R343). -/
def mbxPresents (p lin : Nat) (s : State) : State :=
  forEach (mbxOf p s) (fun g t =>
    let m := t.mbx g
    match m.due.find? (fun d => d.1 == lin) with
    | none => t
    | some (_, e) =>
      let t := t.setMbx g { m with due := m.due.filter fun d => d.1 != lin }
      match e with
      | some e => mbxPresent g e.data e.xmask t
      | none => mbxPresent g 0 0xFFFFFFFF t) s

/-- Empty a mailbox without counting (R341). -/
def mbxEmpty (g : Nat) (s : State) : State := s.setMbx g { s.mbx g with queue := [], due := [], waiting := none }

/-- The requester may post to mailbox `g` and write its registers (R336, R342, R471). -/
def mbxOk (rq : Requester) (g : Nat) (s : State) : Bool :=
  adminOk rq s || (match s.mbxOwner g with | 0 => false | q + 1 => partOk rq q s)

/-- MAILBOX_POST: the write of HIF_MBX_BELL_HI appends the staged entry (R342, R343). -/
def mailboxPost (rq : Requester) (g hi : Nat) (s : State) : State :=
  if !(mbxOk rq g s) then denyWrite rq .HIF_MBX_BELL_HI g hi s
  else
    let s := okResp 0 (s.sf F.HIF_MBX_BELL_HI_BELL g hi)
    let m := s.mbx g
    let own := s.mbxOwner g
    let shut := own ≠ 0 && ((s.part (own - 1)).fence || s.flag F.TRC_REPLAY_STAT_ACTIVE (own - 1))
    if shut then s.sf F.HIF_MBX_STAT_CMDST g 0
    else if m.queue.length ≥ 16 then logRefused rq .HIF_MBX_BELL_HI g hi (s.sf F.HIF_MBX_STAT_CMDST g 0x20)
    else
      let e : MbxEntry := { data := s.gf F.HIF_MBX_DATA_VALUE g, xmask := s.gf F.HIF_MBX_XMASK_VALUE g
                            bell := s.gf F.HIF_MBX_BELL_LO_BELL g + 2 ^ 32 * s.gf F.HIF_MBX_BELL_HI_BELL g }
      let s := s.sf F.HIF_MBX_STAT_CMDST g 0
      match m.waiting with
      | none => s.setMbx g { m with queue := m.queue ++ [e] }
      | some b =>
        if e.bell < b % 2 ^ 48 then s.bump F.HIF_MBX_STAT_STALE g 1
        else
          let len := bellLen (own - 1) s
          let pos := b * len + s.gf F.HIF_MBX_CFG_STEP g
          let due := m.due.map fun d => if d.1 = pos ∧ e.bell = b % 2 ^ 48 then (d.1, some e) else d
          let q := if e.bell = b % 2 ^ 48 then m.queue else m.queue ++ [e]
          let s := s.setMbx g { m with queue := q, due := due, waiting := none }
          let s := if e.bell = b % 2 ^ 48 then s else markCorrupt (own - 1) s
          lateItem (own - 1) (g / 32) 4 g s

end Machine
end Sys2Proof
end

