-- ==== Sys2Proof/Machine/Stopwatch.lean ====
section
/-! DEFINITION. The stopwatch: inputs, records, measurements, bindings, trigger channels, TDC rotation (R231-R255). -/
namespace Sys2Proof
namespace Machine

/-- Divide, rounding as `Config.roundUp` says where the quotient is no whole number. -/
def divFree (n d : Nat) : Nat := n / d + (if n % d = 0 then 0 else b2n (Config.roundUp n d))

/-- Fine LSB of a time in picoseconds: 625/256 ps each. -/
def lsbOf (ps : Nat) : Nat := divFree (ps * 256) 625

/-- Timing input `i`. -/
def State.stwIn (s : State) (i : Nat) : StwIn := Store.get {} s.stw.inputs i
def State.setStwIn (s : State) (i : Nat) (r : StwIn) : State := { s with stw := { s.stw with inputs := Store.set {} i r s.stw.inputs } }

/-- Trigger channel `n`. -/
def State.stwTrg (s : State) (n : Nat) : StwTrg := Store.get {} s.stw.trg n
def State.setStwTrg (s : State) (n : Nat) (r : StwTrg) : State := { s with stw := { s.stw with trg := Store.set {} n r s.stw.trg } }

/-! States of an input. -/
def inOff : Nat := 0
def inIdle : Nat := 1
def inAcq : Nat := 2
def inBound : Nat := 3
def inFailed : Nat := 4

/-- Owner + 1 of input `i`. -/
def State.inOwner (s : State) (i : Nat) : Nat :=
  if s.flag F.STW_IN_STAT_OWNED i then s.gf F.STW_IN_STAT_OWNER i + 1 else 0

/-! ### Measurements (R235, R240) -/

/-- An edge direction of POL: 0 rising, 1 falling, 2 either. -/
def polIs (pol : Nat) (rising : Bool) : Bool := if pol = 2 then true else if pol = 1 then !rising else rising

/-- Edge times of POL on an input. -/
def edgeTimes (pol i : Nat) (l : List (Nat × Bool × Nat)) : List Nat :=
  l.filterMap fun e => if e.1 = i ∧ polIs pol e.2.1 then some e.2.2 else none

/-- Differences of neighbours. -/
def gaps : List Nat → List Nat
  | a :: b :: r => (b - a) :: gaps (b :: r)
  | _ => []

/-- Neighbouring events of a list, kept where `f` gives a value. -/
def pairsWith {α : Type} (f : α → α → Option Nat) : List α → List Nat
  | a :: b :: r => (match f a b with | some v => [v] | none => []) ++ pairsWith f (b :: r)
  | _ => []

/-- Widths of the complete pulses of an input: high for POL rising, low for falling. -/
def widths (pol i : Nat) (l : List (Nat × Bool × Nat)) : List Nat :=
  pairsWith (fun a b => if polIs pol a.2.1 ∧ !polIs pol b.2.1 then some (b.2.2 - a.2.2) else none) (l.filter fun e => e.1 == i)

/-- Events of a pair in order. -/
def pairEvents (i : Nat) (l : List (Nat × Bool × Nat)) : List (Nat × Bool × Nat) := l.filter fun e => e.1 == i || e.1 == i + 1

/-- A complete transition of a pair: low then high crossing rising, high then low falling (Table STW-1). -/
def isTrans (i : Nat) (a b : Nat × Bool × Nat) : Option Bool :=
  if a.1 = i ∧ b.1 = i + 1 ∧ a.2.1 ∧ b.2.1 then some true
  else if a.1 = i + 1 ∧ b.1 = i ∧ !a.2.1 ∧ !b.2.1 then some false
  else none

/-- A runt of a pair: positive, the low crossing rises and falls back; negative, the mirror image. -/
def isRunt (i : Nat) (a b : Nat × Bool × Nat) : Option Bool :=
  if a.1 = i ∧ b.1 = i ∧ a.2.1 ∧ !b.2.1 then some true
  else if a.1 = i + 1 ∧ b.1 = i + 1 ∧ !a.2.1 ∧ b.2.1 then some false
  else none

/-- Slew times of the transitions of POL of a pair. -/
def slews (pol i : Nat) (l : List (Nat × Bool × Nat)) : List Nat :=
  pairsWith (fun a b => match isTrans i a b with
    | some r => if polIs pol r then some (b.2.2 - a.2.2) else none
    | none => none) (pairEvents i l)

/-- Interpolated times of the transitions of POL of a pair (R235). -/
def interps (pol i f : Nat) (l : List (Nat × Bool × Nat)) : List Nat :=
  pairsWith (fun a b => match isTrans i a b with
    | some true => if polIs pol true then some (a.2.2 + divFree (f * (b.2.2 - a.2.2)) 256) else none
    | some false => if polIs pol false then some (b.2.2 - divFree (f * (b.2.2 - a.2.2)) 256) else none
    | none => none) (pairEvents i l)

/-- Runts of POL of a pair. -/
def runts (pol i : Nat) (l : List (Nat × Bool × Nat)) : Nat :=
  (pairsWith (fun a b => match isRunt i a b with
    | some r => if polIs pol r then some 0 else none
    | none => none) (pairEvents i l)).length

/-- From each edge of POL on INPUT to the next edge of POL on PARTNER. -/
def skews (pol i j : Nat) (l : List (Nat × Bool × Nat)) : List Nat :=
  (edgeTimes pol i l).filterMap fun t => ((edgeTimes pol j l).find? fun u => decide (t ≤ u)).map (· - t)

/-- Time at high level from `start` to `stop`. -/
def highTime (start stop : Nat) (level : Bool) : List (Nat × Bool × Nat) → Nat
  | [] => if level then stop - start else 0
  | e :: r => (if level then e.2.2 - start else 0) + highTime e.2.2 stop e.2.1 r

/-- STAT over the values found: FIRST, LAST, MIN, MAX; none where there is no value. -/
def pickStat (stat : Nat) (l : List Nat) : Option Nat :=
  match l with
  | [] => none
  | a :: r => match stat with
    | 0 => some a
    | 1 => (a :: r).getLast?
    | 2 => some (r.foldl min a)
    | _ => some (r.foldl max a)

/-- Kinds that accept rising or falling only clamp either to rising (R240). -/
def kindPol (kind pol : Nat) : Nat :=
  let pol := if pol = 3 then 0 else pol
  if (kind = 1 ∨ kind = 2 ∨ kind = 5) ∧ pol = 2 then 0 else pol

/-- A measurement: its value, or none when VALID = 0 (Table STW-1). -/
def measure (kind pol stat i partner interp : Nat) (pair : Bool) (start stop : Nat) (level : Bool)
    (l : List (Nat × Bool × Nat)) : Option Nat :=
  let pol := kindPol kind pol
  match kind with
  | 0 =>
    let st := if stat = 2 then 0 else if stat = 3 then 1 else stat
    (pickStat st (if pair then interps pol i interp l else edgeTimes pol i l)).map (· - start)
  | 1 => pickStat stat (gaps (edgeTimes pol i l))
  | 2 => pickStat stat (widths pol i l)
  | 3 => some (if stop = start then 0 else divFree (65536 * highTime start stop level (l.filter fun e => e.1 == i)) (stop - start))
  | 4 => some (edgeTimes pol i l).length
  | 5 => pickStat stat (slews pol i l)
  | 6 => some (runts pol i l)
  | 7 => pickStat stat (skews pol i partner l)
  | _ => none

/-! ### Emission of records and packets (R241, R242) -/

/-- Records and packets about input `i` are withheld: a sealed owner in SERVICE without a hall pass (R242). -/
def stwSealed (i : Nat) (s : State) : Bool :=
  match s.inOwner i with
  | 0 => false
  | q + 1 => sealedOut q s

/-- Send bytes to the funnel with source 0x60. -/
def stwFunnel (bytes : List Nat) (s : State) : State := funnelPut 0x60 bytes s

/-- Send a record to the sink of STW_SINK, unless the buffer is full (R242). -/
def stwEmit (bytes : List Nat) (s : State) : State :=
  let sink := s.gf F.STW_SINK_SINK 0
  if sink = 0 then s
  else
    let full := Config.stwFull s.seq
    let s := { s with seq := s.seq + 1 }
    if full then s.bump F.STW_LOST_COUNT 0 1
    else if sink = 2 then stwFunnel bytes s
    else
      let n := granSize * s.gf F.STW_RING_COUNT 0 / 32
      if n = 0 then s
      else
        let e := s.gf F.STW_RING_WR_ENTRY 0
        let base := granAddr (96 * s.gf F.STW_RING_STACK 0 + s.gf F.STW_RING_FIRST 0)
        let s := s.wbs (base + 32 * e) bytes
        if e + 1 ≥ n then (s.sf F.STW_RING_WR_ENTRY 0 0).sf F.STW_RING_WR_WRAPPED 0 1 else s.sf F.STW_RING_WR_ENTRY 0 (e + 1)

/-- The 32 bytes of a record (Table STW-2). -/
def recBytes (i kind tdc flags tag start stop value edges dead : Nat) : List Nat :=
  [0x20, i, kind, tdc] ++ toBytes 2 flags ++ toBytes 2 tag ++ toBytes 8 start ++ toBytes 8 stop ++ toBytes 4 value
    ++ toBytes 2 (min edges 65535) ++ toBytes 2 (min (divFree dead 16) 65535)

/-- Emit a record of input `i` and keep it in STW_IN_LAST; withheld records leave 0 there (R242). -/
def stwRecord (i : Nat) (bytes : List Nat) (s : State) : State :=
  let hide := stwSealed i s
  let s := forUpTo 8 (fun w t => t.setReg .STW_IN_LAST (8 * i + w)
    (BitVec.ofNat 32 (if hide then 0 else fromBytes ((bytes.drop (4 * w)).take 4)))) s
  if hide then s else stwEmit bytes s

/-- FLAGS of a record. -/
def recFlags (valid ovf missed frozen bound discarded aborted failed pair : Bool) (stat : Nat) : Nat :=
  b2n valid + 2 * b2n ovf + 4 * b2n missed + 8 * b2n frozen + 16 * b2n bound + 32 * b2n discarded + 64 * b2n aborted
    + 128 * b2n failed + 256 * b2n pair + 512 * stat

/-! ### Records of an input -/

/-- The staged settings of input `i` come into force at a record start (R238, R255). -/
def stageInput (i : Nat) (s : State) : State :=
  let s := s.setReg .STW_IN_RX i (s.reg .STW_IN_RX_NEXT i)
  let s := s.setReg .STW_IN_DSK i (s.reg .STW_IN_DSK_NEXT i)
  s.setReg .STW_IN_CFG i (s.reg .STW_IN_CFG_NEXT i)

/-- A TDC that waits for a record boundary of input `i` becomes its TDC (R236): the outgoing one starts calibration unless it is
retired. -/
def tdcSwap (i : Nat) (s : State) : State :=
  let r := s.stwIn i
  if r.next = 0 then s
  else
    let t := r.next - 1
    let old := s.gf F.STW_IN_STAT_TDC i
    let s := s.setStwIn i { r with next := 0 }
    let s := if s.gf F.STW_TDC_ROLE old = 3 then s else s.sf F.STW_TDC_ROLE old 2
    let s := (s.sf F.STW_TDC_ROLE t 0).sf F.STW_TDC_INPUT t i
    s.sf F.STW_IN_STAT_TDC i t

/-- Open a record of input `i` at TB `t` (R238). -/
def openRec (i t : Nat) (win : Option (Nat × Nat × Nat)) (s : State) : State :=
  let s := tdcSwap i (stageInput i s)
  let r := s.stwIn i
  let dead := match r.ended with | none => 0 | some e => t - e
  let frz := match win with | none => 0 | some (p, _, _) => s.gf F.PART_FREEZE_CNT_COUNT p
  s.setStwIn i { r with cur := some { start := t, level := s.flag F.STW_IN_STAT_LEVEL i, dead := dead, missed := r.missed, frz := frz, win := win }
                        missed := false }

/-- Emit the record of an unbound input that ends at TB `t` (R239, R241). -/
def closeRec (i t : Nat) (aborted : Bool) (s : State) : State :=
  let r := s.stwIn i
  match r.cur with
  | none => s
  | some c =>
    let inside := c.edges.filter fun e => decide (e.2.2 ≤ t)
    let kind := s.gf F.STW_IN_CFG_KIND i
    let pol := s.gf F.STW_IN_CFG_POL i
    let stat := s.gf F.STW_IN_CFG_STAT i
    let pair := s.flag F.STW_IN_RX_PAIR i && decide (i % 2 = 0)
    let m := measure kind pol stat i (s.gf F.STW_IN_CFG_PARTNER i) (s.gf F.STW_IN_RX_INTERP i) pair c.start t c.level inside
    let m := if c.failed then none else m
    let v := m.getD 0
    let flags := recFlags m.isSome (decide (v ≥ 2 ^ 32)) c.missed false false false aborted c.failed pair stat
    let bytes := recBytes i kind (s.gf F.STW_IN_STAT_TDC i) flags (r.seq % 65536) c.start t (min v (2 ^ 32 - 1))
      (edgeTimes (kindPol kind pol) i inside).length c.dead
    let s := s.setStwIn i { r with cur := none, ended := some t, seq := (r.seq + 1) % 65536
                                   missed := c.edges.any fun e => e.1 == i && decide (t < e.2.2) }
    stwRecord i bytes s

/-! ### Bindings (R243-R247) -/

/-- A binding entry (Table STW-5). -/
structure Bind where
  input : Nat
  kind : Nat
  pol : Nat
  stat : Nat
  limits : Bool
  partner : Nat
  op : Nat
  cl : Nat
  src : Nat
  width : Nat
  shift : Nat
  min : Nat
  max : Nat
  chan : Nat
  deriving DecidableEq, Repr

/-- Read a binding entry from its 32 bytes. -/
def Bind.ofNat (w : Nat) : Bind :=
  let b : Nat → Nat → Nat := fun i n => bitsAt w (8 * i) (8 * n)
  { input := b 0 1 % 64, kind := b 1 1, pol := b 2 1 % 4, stat := b 2 1 / 4 % 4, limits := bitAt (b 2 1) 4 = 1, partner := b 3 1 % 64
    op := b 4 2, cl := b 6 2, src := b 8 2, width := b 10 1, shift := b 11 1, min := b 12 4, max := b 16 4, chan := b 20 1 % 16 }

/-- The bindings in force of partition `p`, with their indices. -/
def State.binds (s : State) (p : Nat) : List (Nat × Bind) :=
  let l := ((s.part p).img (s.slot p)).binds
  (List.range l.length).map fun k => (k, Bind.ofNat (l.getD k 0))

/-- Base of a binding's sources: the input's; for TRIG the one on which the partition owns them. -/
def Bind.base (b : Bind) (p : Nat) (s : State) : Nat :=
  if b.kind = 15 then (if s.ioOwner 0 (b.src - 0x6000) 0 = p + 1 then 0 else 1) else b.input / 32

/-- Bits a binding presents, with their source keys (R245). -/
def bindBits (p : Nat) (b : Bind) (m : Option Nat) (s : State) : List (Nat × Tri) :=
  let k := 8192 * b.base p s + (b.src - 0x6000)
  if b.kind = 15 then [(k, Tri.ofBool (m = some 1))]
  else
    let val : Nat → Tri := fun i => match m with
      | none => .x
      | some v => if b.limits then (if i = 0 then Tri.ofBool (decide (v < b.min)) else Tri.ofBool (decide (v > b.max)))
        else
          let w := v / 2 ^ b.shift
          Tri.ofBool (decide (w ≥ 2 ^ b.width) || decide (bitAt w i = 1))
    (k, Tri.ofBool m.isSome) :: (List.range (if b.limits then 2 else b.width)).map fun i => (k + 1 + i, val i)

/-- Live results are discarded: fence, LOADING, FENCED, replay (R247). -/
def bindShut (p : Nat) (s : State) : Bool :=
  (s.part p).fence || s.flag F.TRC_REPLAY_STAT_ACTIVE p || decide (s.pst p = stLoading) || decide (s.pst p = stFenced)

/-- One binding's record at window close, and its bits on the way to presentation (R241, R245). -/
def closeBind (p k : Nat) (b : Bind) (aborted : Bool) (s : State) : State :=
  let t := s.stw.tb
  let shut := bindShut p s
  let tag := p + 16 * k
  if b.kind = 15 then
    let w := Store.get 0 s.stw.trigWin (256 * p + k)
    if w = 0 then s
    else
      let v := w - 1
      let s := { s with stw := { s.stw with trigWin := Store.set 0 (256 * p + k) 0 s.stw.trigWin } }
      let s := if sealedOut p s then s else stwEmit (recBytes 0 15 0 (recFlags true false false false true shut aborted false false 0) tag t t v 0 0) s
      if shut || aborted then s
      else { s with stw := { s.stw with pres := s.stw.pres ++ [{ p := p, due := (s.part p).count + s.lat p 6, bits := bindBits p b (some v) s }] } }
  else
    match (s.stwIn b.input).cur with
    | none => s
    | some c =>
      let i := b.input
      let inside := c.edges.filter fun e => decide (e.2.2 < t)
      let pair := s.flag F.STW_IN_RX_PAIR i && decide (i % 2 = 0)
      let m := measure b.kind b.pol b.stat i b.partner (s.gf F.STW_IN_RX_INTERP i) pair c.start t c.level inside
      let m := if c.failed then none else m.map fun v => min v (2 ^ 32 - 1)
      let frozen := decide (s.gf F.PART_FREEZE_CNT_COUNT p ≠ c.frz)
      let flags := recFlags m.isSome (m == some (2 ^ 32 - 1)) c.missed frozen true shut aborted c.failed pair b.stat
      let s := stwRecord i (recBytes i b.kind (s.gf F.STW_IN_STAT_TDC i) flags tag c.start t (m.getD 0)
        (edgeTimes (kindPol b.kind b.pol) i inside).length c.dead) s
      if shut || aborted then s
      else { s with stw := { s.stw with pres := s.stw.pres ++ [{ p := p, due := (s.part p).count + s.lat p 6, bits := bindBits p b m s }] } }

/-- End the open bound record of input `i`. -/
def endBound (i : Nat) (s : State) : State :=
  let r := s.stwIn i
  match r.cur with
  | none => s
  | some _ =>
    let s := s.setStwIn i { r with cur := none, ended := some s.stw.tb }
    if s.gf F.STW_IN_STAT_TDC i < 68 ∧ s.gf F.STW_TDC_ROLE (s.gf F.STW_IN_STAT_TDC i) = 3 ∧ r.next = 0 then s.sf F.STW_IN_STAT_STATE i inFailed else s

/-- BINDING_WINDOW at step code `c` of partition `p`: windows close, then windows open (R244). -/
def bindWindows (p c : Nat) (s : State) : State :=
  let l := s.binds p
  let closing := l.filter fun e => e.2.cl == c
  let s := forEach closing (fun e t => closeBind p e.1 e.2 false t) s
  let s := forEach ((closing.filter fun e => e.2.kind != 15).map (·.2.input)).eraseDups (fun i t => endBound i t) s
  let opening := l.filter fun e => e.2.op == c
  forEach opening (fun e t =>
    if e.2.kind = 15 then { t with stw := { t.stw with trigWin := Store.set 0 (256 * p + e.1) 1 t.stw.trigWin } }
    else if t.gf F.STW_IN_STAT_STATE e.2.input = inBound ∧ (t.stwIn e.2.input).cur.isNone then
      openRec e.2.input t.stw.tb (some (p, e.2.op, e.2.cl)) t
    else t) s

/-- BINDING_PRESENT: what is due at the next step enable of partition `p` is presented, `c` being its count (R245). -/
def bindingPresent (p c : Nat) (s : State) : State :=
  let due := s.stw.pres.filter fun e => e.p == p && decide (e.due ≤ c)
  let s := { s with stw := { s.stw with pres := s.stw.pres.filter fun e => !(e.p == p && decide (e.due ≤ c)) } }
  if bindShut p s then s
  else forEach due (fun e t => { t with net := { t.net with src := e.bits.foldl (fun m b => Store.set .x b.1 b.2 m) t.net.src } }) s

/-- At ARM and at a slot swap the bindings' sources are X and pending presentations are discarded (R245, Table STW-8). -/
def bindClear (p : Nat) (s : State) : State :=
  let s := { s with stw := { s.stw with pres := s.stw.pres.filter fun e => e.p != p } }
  forEach (s.binds p) (fun e t =>
    { t with net := { t.net with src := (bindBits p e.2 none t).foldl (fun m b => Store.set .x b.1 .x m) t.net.src } }) s

/-- Open windows of partition `p` end with ABORTED and present nothing (Table STW-8). -/
def bindAbort (p : Nat) (s : State) : State :=
  let l := (s.binds p).filter fun e => if e.2.kind = 15 then decide (Store.get 0 s.stw.trigWin (256 * p + e.1) ≠ 0)
    else match (s.stwIn e.2.input).cur with
      | some c => c.win == some (p, e.2.op, e.2.cl)
      | none => false
  let s := forEach l (fun e t => closeBind p e.1 e.2 true t) s
  let s := forEach ((l.filter fun e => e.2.kind != 15).map (·.2.input)).eraseDups (fun i t => endBound i t) s
  { s with stw := { s.stw with pres := s.stw.pres.filter fun e => e.p != p } }

/-! ### Trigger channels (R248-R251) -/

/-- The inputs channel `n` watches. -/
def watched (n : Nat) (s : State) : List Nat :=
  match s.gf F.STW_TRG_CFG_KIND n with
  | 1 => []
  | 3 => [s.gf F.STW_TRG_CFG_SRC n / 2 * 2, s.gf F.STW_TRG_CFG_SRC n / 2 * 2 + 1]
  | 4 => [s.gf F.STW_TRG_CFG_SRC n / 2 * 2, s.gf F.STW_TRG_CFG_SRC n / 2 * 2 + 1]
  | _ => [s.gf F.STW_TRG_CFG_SRC n]

/-- A value qualifies inside, or with QUAL = 1 outside, [MIN, MAX]. -/
def qualifies (n v : Nat) (s : State) : Bool :=
  let inside := decide ((s.reg .STW_TRG_MIN n).toNat ≤ v) && decide (v ≤ (s.reg .STW_TRG_MAX n).toNat)
  if s.flag F.STW_TRG_CFG_QUAL n then !inside else inside

/-- The newest edge of a channel's history completes an occurrence (Table STW-4). -/
def occurrence (n : Nat) (l : List (Nat × Bool × Nat)) (s : State) : Bool :=
  let pol := if s.gf F.STW_TRG_CFG_POL n = 3 then 0 else s.gf F.STW_TRG_CFG_POL n
  let i := s.gf F.STW_TRG_CFG_SRC n
  let e := i / 2 * 2
  match l.reverse with
  | [] => false
  | z :: r =>
    let y := r.head?
    match s.gf F.STW_TRG_CFG_KIND n with
    | 1 => false
    | 2 => match y with
      | some y => polIs (kindPol 2 pol) y.2.1 && !polIs (kindPol 2 pol) z.2.1 && qualifies n (z.2.2 - y.2.2) s
      | none => false
    | 3 => match y with
      | some y => match isRunt e y z with | some d => polIs pol d | none => false
      | none => false
    | 4 => match y with
      | some y => match isTrans e y z with | some d => polIs (kindPol 5 pol) d && qualifies n (z.2.2 - y.2.2) s | none => false
      | none => false
    | 5 => false
    | _ => polIs pol z.2.1

/-- Count an occurrence of channel `n` at TB `t`: its COUNT-th one fires it 20 ns later (R248, R249). -/
def occur (n t : Nat) (s : State) : State :=
  let r := s.stwTrg n
  if r.occ + 1 ≥ max 1 (s.gf F.STW_TRG_CFG_COUNT n) then s.setStwTrg n { r with occ := 0, pend := r.pend ++ [t] }
  else s.setStwTrg n { r with occ := r.occ + 1 }

/-- A channel that is ARMED and has no firing under way, unless it re-arms. -/
def trgLive (n : Nat) (s : State) : Bool :=
  decide (s.gf F.STW_TRG_STAT_STATE n = 1) && (s.flag F.STW_TRG_CFG_AUTO n || (s.stwTrg n).pend.isEmpty)

/-- STW_EDGE: input `i` crosses its threshold at TB `t`, as the TDC time-stamps it before DESKEW (R231, R234). In RECESS the receivers
are stopped (R443). -/
def stwEdge (i : Nat) (rising : Bool) (t : Nat) (s : State) : State :=
  if s.gf F.RST_PWR_STAT_STATE 0 = 2 then s
  else if s.gf F.STW_IN_STAT_STATE i = inOff ∨ s.gf F.STW_IN_STAT_STATE i = inFailed then s
  else
    let d := s.gf F.STW_IN_DSK_DESKEW i
    let u := if d ≥ 8388608 then t - (16777216 - d) else t + d
    let s := { s with stw := { s.stw with tb := max s.stw.tb t } }
    let s := s.sflag F.STW_IN_STAT_LEVEL i rising
    let s := forUpTo 64 (fun j q =>
      let r := q.stwIn j
      match r.cur with
      | none => if j = i then q.setStwIn i { r with missed := true } else q
      | some c =>
        let uses := j == i || (j % 2 == 0 && i == j + 1)
          || (c.win.isNone && q.gf F.STW_IN_CFG_KIND j == 7 && q.gf F.STW_IN_CFG_PARTNER j == i)
          || (match c.win with | some (p, _, _) => (q.binds p).any (fun b => b.2.input == j && b.2.kind == 7 && b.2.partner == i) | none => false)
        if uses && decide (c.start ≤ u) then q.setStwIn j { r with cur := some { c with edges := c.edges ++ [(i, rising, u)] } } else q) s
    forUpTo 16 (fun n q =>
      if trgLive n q && (watched n q).contains i then
        let r := q.stwTrg n
        let l := (r.hist ++ [(i, rising, u)]).reverse.take 2 |>.reverse
        let pol := q.gf F.STW_TRG_CFG_POL n
        let q := q.setStwTrg n { r with hist := l, since := if polIs pol rising then u else r.since }
        if occurrence n l q then occur n u q else q
      else q) s

/-- A line event of channel `n` is delivered to partition `p` (R250). -/
def deliveredTo (n p : Nat) (force : Bool) (s : State) : Bool :=
  force || s.gf F.STW_TRG_CFG_KIND n == 1 || (watched n s).all fun i => s.inOwner i == 0 || s.inOwner i == p + 1

/-- A channel fires, with its event time, and reaches its destinations (R248-R250, R242). -/
def fireChannel (n t : Nat) (force : Bool) (s : State) : State :=
  let auto := s.flag F.STW_TRG_CFG_AUTO n
  let s := s.sf F.STW_TRG_STAT_STATE n (if auto then 1 else 2)
  let s := s.bumpWrap F.STW_TRG_STAT_FIRES n
  let s := { s with stw := { s.stw with fired := Store.set 0 n t s.stw.fired } }.setReg .STW_TRG_TIME_LO n (BitVec.ofNat 32 t)
  let s := forUpTo 16 (fun p q =>
    if deliveredTo n p force q then
      let q := forEach (q.binds p) (fun e q =>
        if e.2.kind = 15 ∧ e.2.chan = n ∧ Store.get 0 q.stw.trigWin (256 * p + e.1) ≠ 0 then
          { q with stw := { q.stw with trigWin := Store.set 0 (256 * p + e.1) 2 q.stw.trigWin } }
        else q) q
      if bitAt (q.gf F.TRC_TRG_EXT_STW p) n = 1 then traceFire p 1 n (q.curStep p) (q.part p).bell q else q
    else q) s
  let s := if s.flag F.STW_TRG_OUT_LINE_EN n then
      let l := s.gf F.STW_TRG_OUT_LINE n
      let s := { s with stw := { s.stw with drv := Store.set [] l (n :: (Store.get [] s.stw.drv l).filter (· ≠ n)) s.stw.drv } }
      (s.sf ⟨.STW_LINE, 8 + l, 1⟩ 0 1).sf ⟨.STW_LINE, l, 1⟩ 0 0
    else s
  let s := if s.flag F.STW_TRG_OUT_CTI_EN n then pulseCti (s.gf F.STW_TRG_OUT_CTI_CH n) s else s
  let s := if s.flag F.STW_SINK_TRIGPKT 0 && !((watched n s).any fun i => stwSealed i s) then
      stwFunnel ([0x21, n, s.gf F.STW_TRG_CFG_KIND n, b2n force + 2 * b2n auto] ++ toBytes 4 (s.gf F.STW_TRG_STAT_FIRES n) ++ toBytes 8 t) s
    else s
  raiseIrq (20 + n) s

/-- TRIGGER_FIRE: channel `n` fires 20 ns after its qualifying event (R249). -/
def triggerFire (n : Nat) (s : State) : State :=
  let r := s.stwTrg n
  match r.pend with
  | [] => s
  | t :: q =>
    if s.gf F.STW_TRG_STAT_STATE n ≠ 1 then s.setStwTrg n { r with pend := q }
    else
      let s := { s with stw := { s.stw with tb := max s.stw.tb (t + 8192) } }
      fireChannel n t false (s.setStwTrg n { r with pend := q })

/-- TRIGGER_TIMEOUT: no edge of POL for MAX expires a TIMEOUT condition (Table STW-4). -/
def triggerTimeout (n : Nat) (s : State) : State :=
  if trgLive n s ∧ s.gf F.STW_TRG_CFG_KIND n = 5 then
    let r := s.stwTrg n
    let t := r.since + (s.reg .STW_TRG_MAX n).toNat
    let s := { s with stw := { s.stw with tb := max s.stw.tb t } }
    occur n t (s.setStwTrg n { r with since := t })
  else s

/-- INSTR_LINE_RELEASE: the drive of channel `n` ends after WIDTH x 10 ns; `held` tells that another instrument holds the line low
(R249, R251). -/
def instrLineRelease (n : Nat) (held : Bool) (s : State) : State :=
  let l := s.gf F.STW_TRG_OUT_LINE n
  let d := Store.get [] s.stw.drv l
  if d.contains n then
    let d := d.filter (· ≠ n)
    let s := { s with stw := { s.stw with drv := Store.set [] l d s.stw.drv } }
    if d.isEmpty then (s.sf ⟨.STW_LINE, 8 + l, 1⟩ 0 0).sflag ⟨.STW_LINE, l, 1⟩ 0 (!held) else s
  else s

/-- INSTR_LINE_EDGE: a line edge held for 4 periods; edges while this device drives the line are ignored (R251). -/
def instrLineEdge (l : Nat) (rising : Bool) (t : Nat) (s : State) : State :=
  if bitAt (s.gf F.STW_LINE_DRIVE 0) l = 1 then s
  else
    let s := { s with stw := { s.stw with tb := max s.stw.tb t } }
    let s := s.sflag ⟨.STW_LINE, l, 1⟩ 0 rising
    forUpTo 16 (fun n q =>
      let pol := if q.gf F.STW_TRG_CFG_POL n = 3 then 0 else q.gf F.STW_TRG_CFG_POL n
      if trgLive n q && decide (q.gf F.STW_TRG_CFG_KIND n = 1) && decide (q.gf F.STW_TRG_CFG_SRC n % 8 = l) && polIs pol rising then occur n t q else q) s

/-! ### Commands (R252, R253) -/

/-- Writers of the unowned inputs, the trigger, sink, ring and timebase registers (R252). -/
def stwOk (rq : Requester) (s : State) : Bool :=
  match rq with
  | .pf0 => true
  | .monitor => true
  | .core _ .machine => true
  | .core _ .supervisor => true
  | .proctor i => s.proctorActive i.val
  | _ => false

/-- Writers of the registers of input `i`. -/
def stwInOk (rq : Requester) (i : Nat) (s : State) : Bool :=
  match s.inOwner i with
  | 0 => stwOk rq s
  | q + 1 => partOk rq q s

/-- A command of input `i` is refused. -/
def stwInRefuse (rq : Requester) (i cmd : Nat) (s : State) : State :=
  logRefused rq .STW_IN_CMD i cmd (s.sf F.STW_IN_STAT_CMDST i 0x20)

/-- A command of input `i` denied by the access check. -/
def stwInDeny (rq : Requester) (i cmd : Nat) (s : State) : State :=
  (denyWrite rq .STW_IN_CMD i cmd s).sf F.STW_IN_STAT_CMDST i 0x21

/-- STW_IN_ENABLE. -/
def stwInEnable (rq : Requester) (i : Nat) (s : State) : State :=
  if !(stwInOk rq i s) then stwInDeny rq i 1 s
  else if s.gf F.STW_IN_STAT_STATE i = inOff then (s.sf F.STW_IN_STAT_STATE i inIdle).sf F.STW_IN_STAT_CMDST i 0
  else stwInRefuse rq i 1 s

/-- STW_IN_ARM: acquisition starts with a record. -/
def stwInArm (rq : Requester) (i : Nat) (s : State) : State :=
  if !(stwInOk rq i s) then stwInDeny rq i 2 s
  else if s.gf F.STW_IN_STAT_STATE i = inIdle then
    openRec i s.stw.tb none ((s.sf F.STW_IN_STAT_STATE i inAcq).sf F.STW_IN_STAT_CMDST i 0)
  else stwInRefuse rq i 2 s

/-- STW_IN_STOP: the open record ends with ABORTED. -/
def stwInStop (rq : Requester) (i : Nat) (s : State) : State :=
  if !(stwInOk rq i s) then stwInDeny rq i 3 s
  else if s.gf F.STW_IN_STAT_STATE i = inAcq then
    closeRec i s.stw.tb true ((s.sf F.STW_IN_STAT_STATE i inIdle).sf F.STW_IN_STAT_CMDST i 0)
  else stwInRefuse rq i 3 s

/-- STW_IN_DISABLE. -/
def stwInDisable (rq : Requester) (i : Nat) (s : State) : State :=
  if !(stwInOk rq i s) then stwInDeny rq i 4 s
  else if s.gf F.STW_IN_STAT_STATE i = inIdle ∧
      !((List.range 16).any fun n => decide (s.gf F.STW_TRG_STAT_STATE n ≠ 0) && (watched n s).contains i) then
    (s.sf F.STW_IN_STAT_STATE i inOff).sf F.STW_IN_STAT_CMDST i 0
  else stwInRefuse rq i 4 s

/-- RECORD_END: a record of input `i` in ACQ ends by time or by edge count, is emitted, and the next record starts 12 ns later
(R239). -/
def recordEnd (i : Nat) (s : State) : State :=
  let r := s.stwIn i
  match r.cur with
  | none => s
  | some c =>
    if c.win.isSome ∨ s.gf F.STW_IN_STAT_STATE i ≠ inAcq then s
    else
      let len := max 1 (s.gf F.STW_IN_CFG_LEN i)
      let stop := if s.flag F.STW_IN_CFG_END i then (edgeTimes (kindPol 0 (s.gf F.STW_IN_CFG_POL i)) i c.edges)[len - 1]?
        else some (c.start + 262144 * len)
      match stop with
      | none => s
      | some t =>
        let start := t + lsbOf 12000
        let s := closeRec i t false { s with stw := { s.stw with tb := max s.stw.tb t } }
        let late := c.edges.filter fun e => decide (start ≤ e.2.2)
        let gone := c.edges.any fun e => e.1 == i && decide (t < e.2.2) && decide (e.2.2 < start)
        let s := s.setStwIn i { s.stwIn i with missed := gone }
        if s.gf F.STW_TDC_ROLE (s.gf F.STW_IN_STAT_TDC i) = 3 ∧ (s.stwIn i).next = 0 then s.sf F.STW_IN_STAT_STATE i inFailed
        else
          let s := openRec i start none s
          match (s.stwIn i).cur with
          | none => s
          | some n => s.setStwIn i { s.stwIn i with cur := some { n with edges := late } }

/-- A trigger command is refused, or denied. -/
def stwTrgRefuse (rq : Requester) (n cmd : Nat) (s : State) : State :=
  logRefused rq .STW_TRG_CMD n cmd (s.sf F.STW_TRG_STAT_CMDST n 0x20)
def stwTrgDeny (rq : Requester) (n cmd : Nat) (s : State) : State :=
  (denyWrite rq .STW_TRG_CMD n cmd s).sf F.STW_TRG_STAT_CMDST n 0x21

/-- STW_TRG_ARM (Table STW-7). -/
def stwTrgArm (rq : Requester) (n : Nat) (s : State) : State :=
  if !(stwOk rq s) then stwTrgDeny rq n 1 s
  else
    let st := s.gf F.STW_TRG_STAT_STATE n
    let inputs := (watched n s).all fun i =>
      let q := s.gf F.STW_IN_STAT_STATE i
      q == inIdle || q == inAcq || q == inBound
    let kind := s.gf F.STW_TRG_CFG_KIND n
    let pair := kind ≠ 3 ∧ kind ≠ 4 ∨ s.flag F.STW_IN_RX_PAIR (s.gf F.STW_TRG_CFG_SRC n / 2 * 2)
    if (st = 0 ∨ st = 2) ∧ inputs ∧ pair then
      let s := ((s.sf F.STW_TRG_STAT_STATE n 1).sf F.STW_TRG_STAT_CMDST n 0).sf F.STW_TRG_STAT_FIRES n 0
      s.setStwTrg n { since := s.stw.tb }
    else stwTrgRefuse rq n 1 s

/-- STW_TRG_DISARM. -/
def stwTrgDisarm (rq : Requester) (n : Nat) (s : State) : State :=
  if !(stwOk rq s) then stwTrgDeny rq n 2 s
  else if s.gf F.STW_TRG_STAT_STATE n ≠ 0 then
    ((s.sf F.STW_TRG_STAT_STATE n 0).sf F.STW_TRG_STAT_CMDST n 0).setStwTrg n {}
  else stwTrgRefuse rq n 2 s

/-- STW_TRG_FORCE: fires at once with the current TB. -/
def stwTrgForce (rq : Requester) (n : Nat) (s : State) : State :=
  if !(stwOk rq s) then stwTrgDeny rq n 3 s
  else if s.gf F.STW_TRG_STAT_STATE n = 1 then fireChannel n s.stw.tb true (s.sf F.STW_TRG_STAT_CMDST n 0)
  else stwTrgRefuse rq n 3 s

/-- Substitutes left on base `b`. -/
def spares (b : Nat) (s : State) : Nat :=
  ((List.range 34).filter fun t => s.gf F.STW_TDC_ROLE (34 * b + t) ≠ 3).length - 32

/-- SPARES and ROT of STW_CAL_STAT follow the TDCs: a base with no substitute stops rotating (R237). -/
def calStatus (b : Nat) (s : State) : State :=
  let n := spares b s
  if b = 0 then
    let s := s.sf F.STW_CAL_STAT_SPARES_W 0 n
    if n = 0 then s.sf F.STW_CAL_STAT_ROT_W 0 0 else s
  else
    let s := s.sf F.STW_CAL_STAT_SPARES_E 0 n
    if n = 0 then s.sf F.STW_CAL_STAT_ROT_E 0 0 else s

/-- CAL_START (Table STW-7): rotation starts on every base that holds a substitute. -/
def calStart (rq : Requester) (s : State) : State :=
  if !(procOrM rq s) then (denyWrite rq .STW_CAL_CMD 0 1 s).sf F.STW_CAL_STAT_CMDST 0 0x21
  else
    let w := !(s.flag F.STW_CAL_STAT_ROT_W 0) && decide (spares 0 s > 0)
    let e := !(s.flag F.STW_CAL_STAT_ROT_E 0) && decide (spares 1 s > 0)
    if w || e then
      let s := s.sf F.STW_CAL_STAT_CMDST 0 0
      let s := if w then s.sf F.STW_CAL_STAT_ROT_W 0 1 else s
      if e then s.sf F.STW_CAL_STAT_ROT_E 0 1 else s
    else logRefused rq .STW_CAL_CMD 0 1 (s.sf F.STW_CAL_STAT_CMDST 0 0x20)

/-- CAL_STOP. -/
def calStop (rq : Requester) (s : State) : State :=
  if !(procOrM rq s) then (denyWrite rq .STW_CAL_CMD 0 2 s).sf F.STW_CAL_STAT_CMDST 0 0x21
  else if s.flag F.STW_CAL_STAT_ROT_W 0 || s.flag F.STW_CAL_STAT_ROT_E 0 then
    ((s.sf F.STW_CAL_STAT_CMDST 0 0).sf F.STW_CAL_STAT_ROT_W 0 0).sf F.STW_CAL_STAT_ROT_E 0 0
  else logRefused rq .STW_CAL_CMD 0 2 (s.sf F.STW_CAL_STAT_CMDST 0 0x20)

/-- TB_LATCH: TB of West and device time at one instant (R233). -/
def tbLatch (rq : Requester) (s : State) : State :=
  if !(stwOk rq s) then denyWrite rq .STW_TB_CMD 0 1 s
  else
    let s := (s.setReg .STW_TB_LO 0 (BitVec.ofNat 32 s.stw.tb)).setReg .STW_TB_HI 0 (BitVec.ofNat 32 (s.stw.tb / 2 ^ 32))
    let s := s.setReg .STW_TB_NS 0 (BitVec.ofNat 32 s.tim.ns)
    okResp 0 ((s.setReg .STW_TB_SEC_LO 0 (BitVec.ofNat 32 s.tim.sec)).setReg .STW_TB_SEC_HI 0 (BitVec.ofNat 32 (s.tim.sec / 2 ^ 32 % 65536)))

/-! ### TDC rotation (R236, R237) -/

/-- A ready substitute of base `b`. -/
def readyTdc (b : Nat) (s : State) : Option Nat :=
  ((List.range 34).map (34 * b + ·)).find? fun t => decide (s.gf F.STW_TDC_ROLE t = 1)

/-- A substitute is to take over input `i` at its next record boundary, or at once when it has none (R236, step 3). -/
def attachTdc (i t : Nat) (s : State) : State :=
  let s := s.setStwIn i { s.stwIn i with next := t + 1 }
  if (s.stwIn i).cur.isNone then tdcSwap i s else s

/-- Retire a TDC: reported, its input passes to a ready substitute at the next record boundary, the open record ends with FAILED
(R237). -/
def retireTdc (t : Nat) (s : State) : State :=
  let b := t / 34
  let active := decide (s.gf F.STW_TDC_ROLE t = 0)
  let i := s.gf F.STW_TDC_INPUT t
  let s := report 0 0x30 0xFF 0xFF 0 0 (256 * t) (s.sf F.STW_TDC_ROLE t 3)
  let s := if active then
      let r := s.stwIn i
      let s := match r.cur with
        | some c => s.setStwIn i { r with cur := some { c with failed := true } }
        | none => s
      match readyTdc b s with
      | some u => attachTdc i u s
      | none => if (s.stwIn i).cur.isNone then s.sf F.STW_IN_STAT_STATE i inFailed else s
    else s
  calStatus b s

/-- The rotation's next input on base `b`. -/
def rotNext (b : Nat) (s : State) : Nat := if b = 0 then s.stw.rotW else s.stw.rotE
def setRot (b v : Nat) (s : State) : State :=
  if b = 0 then { s with stw := { s.stw with rotW := v % 32 } } else { s with stw := { s.stw with rotE := 32 + v % 32 } }

/-- TDC_HANDOVER: one handover of base `b` per SLOT milliseconds; `drift` is the mean difference seen over at least 16 crossings,
in fine LSB (R236). -/
def tdcHandover (b : Nat) (drift : Option Int) (s : State) : State :=
  let rot := if b = 0 then s.flag F.STW_CAL_STAT_ROT_W 0 else s.flag F.STW_CAL_STAT_ROT_E 0
  if !rot then s
  else
    let slot := s.gf F.STW_CAL_CFG_SLOT 0
    let s := forUpTo 34 (fun k q => q.bump F.STW_TDC_AGE (34 * b + k) slot) s
    let i := rotNext b s
    let prev := if i % 32 = 0 then i + 31 else i - 1
    let s := if (s.stwIn prev).next ≠ 0 then (s.setStwIn prev { s.stwIn prev with next := 0 }).bump F.STW_CAL_STAT_SKIPPED 0 1 else s
    match readyTdc b s with
    | none => s
    | some t =>
      let old := s.gf F.STW_IN_STAT_TDC i
      let s := setRot b (i + 1) s
      let s := attachTdc i t s
      match drift with
      | none => s
      | some d =>
        let s := s.sf F.STW_TDC_DRIFT old (((max (-128) (min 127 d)) % 256).toNat)
        if d.natAbs * 625 > 50 * 256 then retireTdc old s else s

/-- TDC_CAL_DONE: TDC `t` finishes calibration, or fails it; two failures in a row retire it (R236, R237). -/
def tdcCalDone (t : Nat) (ok : Bool) (s : State) : State :=
  if s.gf F.STW_TDC_ROLE t ≠ 2 then s
  else
    let set : Nat → State → State := fun v q => { q with stw := { q.stw with calFail := Store.set 0 t v q.stw.calFail } }
    if ok then (set 0 ((s.sf F.STW_TDC_ROLE t 1).sf F.STW_TDC_AGE t 0))
    else if Store.get 0 s.stw.calFail t ≥ 1 then retireTdc t (set 0 s)
    else set 1 s

/-- TDC_SELF_CHECK_FAIL: an active TDC fails its self-check (R237). -/
def tdcSelfCheckFail (t : Nat) (s : State) : State :=
  if s.gf F.STW_TDC_ROLE t = 0 then retireTdc t s else s

end Machine
end Sys2Proof
end

