-- ==== Sys2Proof/Machine/Links.lean ====
section
/-! DEFINITION. The links of the Xotil ports and of the bridge, and the step clock: working lanes, FMAX, the derate limit, the
floor, training, sparing, replay, chain and vector traffic (R18, R26, R256-R293, R434, R472, R474). Link 2 i receives for port
i, link 2 i + 1 sends; link 16 + 2 k + r is bundle k (24 T0, 25 T1) in direction r (0 West to East). -/
namespace Sys2Proof
namespace Machine

/-- The record of link `l`. -/
def State.lk (s : State) (l : Nat) : LinkRec := Store.get {} s.lnk.links l

/-- Change the record of link `l`. -/
def State.modLk (s : State) (l : Nat) (f : LinkRec → LinkRec) : State :=
  { s with lnk := { s.lnk with links := Store.set {} l (f (s.lk l)) s.lnk.links } }

/-- Send a block on a link: TYPE of Table XOT-1, or 1 for data, and its value. -/
def sendBlock (l type v : Nat) (s : State) : State := { s with lnk := { s.lnk with out := (l, type, v) :: s.lnk.out } }

/-- Send a LINK block (Table XOT-1): subtype in bits 15:8, value in 63:16. -/
def sendLink (l sub v : Nat) (s : State) : State := sendBlock l 0x4B (sub * 256 + v * 65536) s

/-! Link states (LNK_STAT.STATE). -/
def lsOff : Nat := 0
def lsTraining : Nat := 1
def lsReady : Nat := 2
def lsActive : Nat := 3
def lsNap : Nat := 4
def lsRecess : Nat := 5
def lsLoopback : Nat := 6
def lsFailed : Nat := 7

/-- LNK_STAT.STATE of link `l`. -/
def State.lst (s : State) (l : Nat) : Nat := s.gf F.LNK_STAT_STATE l
def State.setLst (s : State) (l st : Nat) : State := s.sf F.LNK_STAT_STATE l st

/-- The other direction of the same port or bundle. -/
def revLink (l : Nat) : Nat := if l % 2 = 0 then l + 1 else l - 1

/-- Link of bundle `k` in direction `r`. -/
def bundleLink (k r : Nat) : Nat := 16 + 2 * k + r

/-- Owner + 1 of port `i`. -/
def State.portOwner (s : State) (i : Nat) : Nat := if s.flag F.XOT_STAT_OWNED i then s.gf F.XOT_STAT_OWNER i + 1 else 0

/-- Owner + 1 of slot group `q` of bundle `k` in direction `r` (R102). -/
def State.groupOwner (s : State) (r k q : Nat) : Nat :=
  if bitAt (s.reg .NET_BR_VALID k).toNat (8 * r + q) = 1 then
    (if r = 0 then s.gf (F.NET_BR_OWN_WE_OWN.nth q) k else s.gf (F.NET_BR_OWN_EW_OWN.nth q) k) + 1
  else 0

/-- The partition is in LOADED, ARMED, RUNNING, FROZEN or HALTED. -/
def State.holds (s : State) (p : Nat) : Bool := decide (2 ≤ s.pst p) && decide (s.pst p ≤ 6)

/-- Partition `p` owns a slot group of bundle `k` in direction `r`; of any bundle. -/
def ownsGroup (p r k : Nat) (s : State) : Bool := (List.range 8).any fun q => s.groupOwner r k q = p + 1
def ownsAnyGroup (p : Nat) (s : State) : Bool := (List.range 26).any fun k => ownsGroup p 0 k s || ownsGroup p 1 k s

/-- The partitions in LOADED to HALTED. -/
def State.holding (s : State) : List Nat := (List.range 16).filter fun p => s.holds p

/-- Bundle-direction in use (R103); T0 and T1 always are for Table XOT-9 (R291). -/
def bundleInUse (k r : Nat) (s : State) : Bool :=
  decide (k ≥ 24) || s.holding.any fun p => ownsGroup p r k s || (decide (16 ≤ k) && ownsAnyGroup p s)

/-- A link in use (R291). -/
def linkInUse (l : Nat) (s : State) : Bool :=
  if l < 16 then decide (s.portOwner (l / 2) ≠ 0) && s.holds (s.portOwner (l / 2) - 1)
  else bundleInUse ((l - 16) / 2) (l % 2) s

/-- Working data lanes n of a link; a link declared dead has none (R398). -/
def lanesOf (l : Nat) (s : State) : Nat :=
  if (s.lk l).dead then 0
  else if l < 16 then s.gf F.LNK_STAT_NLANES l
  else if l % 2 = 0 then s.gf F.NET_BR_STAT_DLANES_WE ((l - 16) / 2)
  else s.gf F.NET_BR_STAT_DLANES_EW ((l - 16) / 2)

/-- Set n in every register that shows it. -/
def setLanes (l n : Nat) (s : State) : State :=
  let s := s.sf F.LNK_STAT_NLANES l n
  if l < 16 then s
  else if l % 2 = 0 then s.sf F.NET_BR_STAT_DLANES_WE ((l - 16) / 2) n
  else s.sf F.NET_BR_STAT_DLANES_EW ((l - 16) / 2) n

/-- The check frames of signal bundle `k` in direction `r` have a carrier (R264). -/
def hasCarrier (k r : Nat) (s : State) : Bool :=
  let n0 := lanesOf (bundleLink 24 r) s
  let n1 := lanesOf (bundleLink 25 r) s
  if k < 12 then decide (6 ≤ n0) || decide (10 ≤ n1) else decide (6 ≤ n1) || decide (10 ≤ n0)

/-- Lanes of a signal bundle-direction that count: none without a carrier of its check frame. -/
def bundleLanes (k r : Nat) (s : State) : Nat := if hasCarrier k r s then lanesOf (bundleLink k r) s else 0

/-- Highest step clock code at which n lanes carry 344 bits per step (R103, Table NET-5); 0 below 400 MHz. -/
def fmaxOf (n : Nat) : Nat :=
  let f := n * 40000 * 64 * 4 / (66 * 25 * 344)
  if f < 64 then 0 else min f 256

/-- FMAX of a signal bundle (R103). -/
def bundleFmax (k : Nat) (s : State) : Nat := fmaxOf (min (bundleLanes k 0 s) (bundleLanes k 1 s))

/-- Width W of a chain port (R275): the sinks of its owner `p`. -/
def chainWidth (i p : Nat) (s : State) : Nat :=
  ((List.range 368).filter fun b => s.ioOwner (i / 4) (0x400 * (i % 4) + b) 1 = p + 1).length

/-- The vector-map entries of port `i` (R283). -/
def vecEntries (p i : Nat) (s : State) : List Nat :=
  ((s.part p).img (s.slot p)).vecMap.filter fun e => bitsAt e 10 3 = i

/-- Demand of a port direction in bits per step, as numerator and denominator (R269). -/
def portDemand (l : Nat) (s : State) : Nat × Nat :=
  match s.portOwner (l / 2) with
  | 0 => (0, 1)
  | p + 1 =>
    let d := s.dImg p + 12
    if s.flag F.PART_LAT_PORT_CTL_CHAIN (8 * p + l / 2) then (chainWidth (l / 2) p s * d + 64, d)
    else if s.flag F.PART_LAT_PORT_CTL_VECTOR (8 * p + l / 2) then
      let n := (vecEntries p (l / 2) s).length
      let per := if l % 2 = 1 then 16 else 32
      (64 * (1 + (n + per - 1) / per), d)
    else (0, 1)

/-- FMAX of a link: a port direction by R269, a signal bundle by R103; T0 and T1 have none. -/
def linkFmax (l : Nat) (s : State) : Nat :=
  if l < 16 then
    let (a, b) := portDemand l s
    if a = 0 then 256 else min 256 (999 * lanesOf l s * 40000 * 63 * 4 * b / (1000 * 66 * 25 * a))
  else if l < 64 then bundleFmax ((l - 16) / 2) s
  else 256

/-! ### The derate limit and the floor (R270, R271) -/

/-- NET_LINK_CFG.FLOOR. -/
def State.floor (s : State) : Nat := s.gf F.NET_LINK_CFG_FLOOR 0

/-- FMAX of unit `u` of R271: bundle 0-23, or 24 + port. -/
def unitFmax (u : Nat) (s : State) : Nat :=
  if u < 24 then bundleFmax u s else min (linkFmax (2 * (u - 24)) s) (linkFmax (2 * (u - 24) + 1) s)

/-- Unit `u` serves partition `p` (R271). -/
def unitServes (u p : Nat) (s : State) : Bool :=
  if u < 24 then ownsGroup p 0 u s || ownsGroup p 1 u s || (decide (16 ≤ u) && ownsAnyGroup p s)
  else decide (s.portOwner (u - 24) = p + 1)

/-- The direction of a unit with fewer working lanes. -/
def worseDir (u : Nat) (s : State) : Nat :=
  let l0 := if u < 24 then bundleLink u 0 else 2 * (u - 24)
  if u < 24 then b2n (decide (bundleLanes u 1 s < bundleLanes u 0 s))
  else b2n (decide (linkFmax (l0 + 1) s < linkFmax l0 s))

/-- Working lanes of a unit in a direction. -/
def unitLanes (u d : Nat) (s : State) : Nat := if u < 24 then bundleLanes u d s else lanesOf (2 * (u - 24) + d) s

/-- One-way times at a step-clock code in steps, rounded up: 6.25 MHz x code. -/
def psToSteps (ps f : Nat) : Nat := (ps * f * 625 + 99999999) / 100000000

/-- Time of one group of 64 blocks on n lanes, ps (R257, R262). -/
def groupTime (n : Nat) : Nat := if n = 0 then 0 else 64 * 1650 / n

/-- Measured data latency of a chain port at a step clock (R276). -/
def dataLat (i p f : Nat) (s : State) : Nat := 6 + psToSteps (s.lk (2 * i)).oneway f + s.lat p 3

/-- Measured control latency: that of the second copy, one group later (R276, R277). -/
def ctlLat (i f : Nat) (s : State) : Nat := psToSteps ((s.lk (2 * i)).oneway + groupTime (lanesOf (2 * i) s)) f

/-- Measured return latency of a vector port (R287). -/
def retLat (i f : Nat) (s : State) : Nat := psToSteps (s.lk (2 * i)).oneway f

/-- The checks of R164 that fail for partition `p` at step clock `f`: port, kind (0 data, 1 control, 2 return), declared,
measured. -/
def latFails (p f : Nat) (s : State) : List (Nat × Nat × Nat × Nat) :=
  let h := s.gf F.PART_FRZ_CHAIN_HORIZON p
  (s.chainPorts p).flatMap (fun i =>
    let data := s.gf F.PART_LAT_PORT_DATA (8 * p + i)
    let ctl := s.gf F.PART_LAT_PORT_CTL_CTL (8 * p + i)
    (if dataLat i p f s > data - (h + 4) then [(i, 0, data, dataLat i p f s)] else [])
      ++ (if ctlLat i f s > ctl then [(i, 1, ctl, ctlLat i f s)] else []))
  ++ (s.vectorPorts p).flatMap (fun i =>
    let v := s.gf F.PART_LAT_PORT_VRET (8 * p + i)
    if retLat i f s > v - 20 then [(i, 2, v, retLat i f s)] else [])

/-- The latency limit of port `i` of partition `p` (R276): it keeps the step clock from rising, and never lowers it. -/
def latLimit (p i : Nat) (s : State) : Nat :=
  let now := s.gf F.GLB_STEP_FREQ_FREQ 0
  (List.range 257).foldl (fun m f =>
    if f > m ∧ (latFails p f s).all (fun e => e.1 != i) then f else m) now

/-- A limit of R18: code, SRC, UNIT, DIR, LANES (R270, R474). -/
abbrev Limit := Nat × Nat × Nat × Nat × Nat

/-- The limits of R270 in the order of SRC and UNIT. -/
def limits (s : State) : List Limit :=
  let fl := s.floor
  let b := (List.range 24).filterMap fun k =>
    if (bundleInUse k 0 s || bundleInUse k 1 s) && decide (fl ≤ bundleFmax k s) then
      some (bundleFmax k s, 2, k, worseDir k s, unitLanes k (worseDir k s) s) else none
  let owned := (List.range 8).filter fun i => linkInUse (2 * i) s
  let po := owned.filterMap fun i =>
    let u := 24 + i
    if fl ≤ unitFmax u s then some (unitFmax u s, 3, i, worseDir u s, unitLanes u (worseDir u s) s) else none
  let r := (List.range 8).filterMap fun i =>
    if s.gf F.XOT_STAT_RFMAX i < 256 then some (s.gf F.XOT_STAT_RFMAX i, 4, i, 0, lanesOf (2 * i) s) else none
  let la := owned.map fun i => (latLimit (s.portOwner i - 1) i s, 5, i, 0, lanesOf (2 * i) s)
  b ++ po ++ r ++ la

/-- The derate limit (R270). -/
def derateLimit (s : State) : Nat := (limits s).foldl (fun m e => min m e.1) 256

/-- At least one link that serves a partition lies below the floor (R271). -/
def anyFloored (s : State) : Bool :=
  (List.range 32).any fun u => decide (unitFmax u s < s.floor) && s.holding.any fun p => unitServes u p s

/-- Bring FREQ's limit, DERATE and the reason up to date for the step clock in force (R474). -/
def clockRegs (s : State) : State :=
  let f := s.gf F.GLB_STEP_FREQ_FREQ 0
  let old := s.reg .GLB_DERATE_REASON 0
  let s := s.sf F.GLB_STEP_FREQ_DERATE 0 (derateLimit s)
  let put : Nat → Nat → Nat → State → State := fun src u d t =>
    ((t.sf F.GLB_DERATE_REASON_SRC 0 src).sf F.GLB_DERATE_REASON_UNIT 0 u).sf F.GLB_DERATE_REASON_DIR 0 d
  let s :=
    if s.gf F.GLB_STEP_TARGET_TARGET 0 = f then put 0 0 0 s
    else if s.clk.thermal = f then put 1 0 0 s
    else match (limits s).find? (fun e => e.1 == f) with
      | some (_, src, u, d, n) => (put src u (if src ≤ 3 then d else 0) s).sf F.GLB_DERATE_REASON_LANES 0 n
      | none => s
  let s := s.sflag F.GLB_DERATE_REASON_FLOORED 0 (anyFloored s)
  if s.reg .GLB_DERATE_REASON 0 = old then s else raiseIrq 39 s

/-- The lowest of host target, thermal limit and derate limit (R18). -/
def clockGoal (s : State) : Nat := min (s.gf F.GLB_STEP_TARGET_TARGET 0) (min s.clk.thermal (derateLimit s))

/-- Send LINK DERATE on every chain port of a partition when the derate limit has changed (R280). -/
def sendDerate (s : State) : State :=
  let d := derateLimit s
  if d = s.clk.sent then s
  else
    let s := { s with clk := { s.clk with sent := d } }
    forUpTo 8 (fun i t => match t.portOwner i with
      | 0 => t
      | p + 1 => if t.flag F.PART_LAT_PORT_CTL_CHAIN (8 * p + i) then sendLink (2 * i + 1) 5 d t else t) s

/-- RST_PWR_STAT shows L, and RUN or THROTTLE outside RECESS (R442, Table RCP-9). -/
def pwrState (s : State) : State :=
  let s := s.sf F.RST_PWR_STAT_LIMIT 0 s.clk.thermal
  if s.gf F.RST_PWR_STAT_STATE 0 = 2 then s
  else s.sf F.RST_PWR_STAT_STATE 0 (b2n (decide (s.clk.thermal < s.gf F.GLB_STEP_TARGET_TARGET 0)))

/-- A limit or the target may have changed: request the change, retarget a pending one, or record a reason that changes no
frequency (R26, R434, Table MAP-5). -/
def reqClock (s : State) : State :=
  let s := pwrState (sendDerate s)
  let g := clockGoal s
  if s.flag F.GLB_STEP_FREQ_PENDING 0 then
    if s.clk.want = g then s else { s with clk := { s.clk with want := g, locked := false } }
  else if g = s.gf F.GLB_STEP_FREQ_FREQ 0 then clockRegs s
  else { (s.sf F.GLB_STEP_FREQ_PENDING 0 1) with clk := { s.clk with want := g, locked := false } }

/-- The 0x0A fault of unit `u` (Table CON-8). -/
def capacityFault (u : Nat) (s : State) : StepFault :=
  let d := worseDir u s
  { code := 10, locA := u + 256 * d, locB := unitLanes u d s, locC := s.floor }

/-- A CAPACITY item of partition `p` for unit `u` is registered or raised, and not being released. -/
def hasCapacity (p u : Nat) (s : State) : Bool :=
  let c := (s.fz p).ctl (s.leadBase p)
  (c.items.contains (12, u) || c.raised.any fun q => q.cause == 12 && q.src == u)
    && !(c.rel.any fun q => q.cause == 12 && q.src == u)

/-- R271 for every partition: 0x0A and the CAPACITY cause while a unit that serves it lies below the floor. -/
def capacity (s : State) : State :=
  forEach s.holding (fun p t =>
    forUpTo 32 (fun u t =>
      let low := decide (unitFmax u t < t.floor) && unitServes u p t
      if low && !(hasCapacity p u t) then
        let cs := t.curStep p
        raiseLead p 12 u (raiseFault p (capacityFault u t) cs.2 cs.1 t)
      else if !low && hasCapacity p u t then releaseItem p (t.leadBase p) 12 u t
      else t) t) s

/-- Everything that follows from a link's lanes, a port's owner or a slot group's owner: FMAX, use, floor, limit. -/
def updLinks (s : State) : State :=
  let s := forUpTo 64 (fun l t =>
    let t := t.sf F.LNK_LAT_FMAX l (linkFmax l t)
    t.sflag F.LNK_STAT_FMAX_OK l (decide (t.floor ≤ linkFmax l t))) s
  let s := forUpTo 24 (fun k t =>
    (t.sf F.NET_BR_STAT_FMAX k (bundleFmax k t)).sflag F.NET_BR_STAT_IN_USE k (bundleInUse k 0 t || bundleInUse k 1 t)) s
  let s := forUpTo 68 (fun l t =>
    if t.lst l = lsReady ∧ linkInUse l t then t.setLst l lsActive
    else if t.lst l = lsActive ∧ !linkInUse l t then t.setLst l lsReady else t) s
  reqClock (capacity s)

/-! ### Step-clock commands -/

/-- Partition `p` does not hold a step-clock change up: it is in its bell gap, in hold steps or waiting for tempo, or does not
run (R26, Table BELL-5). -/
def atClockGap (p : Nat) (s : State) : Bool :=
  decide (s.pst p ≠ stRunning) || s.flag F.PART_STATE_IN_GAP p || s.flag F.PART_STATE_WAITING p
    || decide (s.dImg p ≤ s.gf F.PART_STATE_STEP p)

/-- Every RUNNING partition is in its bell gap or frozen (R26). -/
def clockBoundary (s : State) : Bool := (List.range 16).all fun p => atClockGap p s

/-- STEP_CLOCK_CHANGE: the pending change is applied (R26, R434, R474). -/
def stepClockChange (s : State) : State :=
  if !(s.flag F.GLB_STEP_FREQ_PENDING 0) || !s.clk.locked || !(clockBoundary s) || decide (s.gf F.RST_PWR_STAT_STATE 0 = 2) then s
  else
    let s := s.sf F.GLB_STEP_FREQ_FREQ 0 s.clk.want
    let s := s.sf F.GLB_STEP_FREQ_PENDING 0 0
    let s := clockRegs { s with clk := { s.clk with locked := false } }
    forUpTo 16 (fun p t => releaseCause p 6 t) s

/-- CLKCHG_WINDOW_EXPIRY: 65,536 step clocks after the lock, RUNNING partitions that are not in their gap freeze (R26). -/
def clkchgExpiry (s : State) : State :=
  if !(s.flag F.GLB_STEP_FREQ_PENDING 0) || !s.clk.locked then s
  else
    let s := advanceTo (s.clk.since + 65536) s
    forUpTo 16 (fun p t =>
      if atClockGap p t then t else raiseLead p 6 0 t) s

/-- STEP_PLL_LOCK: the idle PLL locks and the window of R26 begins (R434). -/
def stepPllLock (s : State) : State :=
  if s.flag F.GLB_STEP_FREQ_PENDING 0 && !s.clk.locked then { s with clk := { s.clk with locked := true, since := s.scc } } else s

/-- GLB_STEP_TARGET_WRITE (R472). -/
def stepTargetWrite (rq : Requester) (v : Nat) (s : State) : State :=
  if !(adminOk rq s) then denyWrite rq .GLB_STEP_TARGET 0 v s
  else okResp 0 (reqClock (s.sf F.GLB_STEP_TARGET_TARGET 0 (max 64 (min 256 (v % 512)))))

/-! ### Lanes -/

/-- Instance of a lane register. -/
def laneIdx (l n : Nat) : Nat := 17 * l + n

/-- Data lanes a link trains (XOT_CFG.WIDTH). -/
def linkWidth (l : Nat) (s : State) : Nat := if l < 16 then s.gf F.XOT_CFG_WIDTH (l / 2) else 16

/-- A lane holds a logical position: ACTIVE or DEGRADED. -/
def laneHolds (l n : Nat) (s : State) : Bool :=
  let st := s.gf F.LNK_LANE_STATE (laneIdx l n)
  decide (st = 1 ∨ st = 3)

/-- The spare is free and locked. -/
def spareFree (l : Nat) (s : State) : Bool :=
  decide (s.gf F.LNK_LANE_STATE (laneIdx l 16) = 0) && s.flag F.LNK_LANE_LOCK (laneIdx l 16)

/-- Report-card event 0x0020: a lane was spared or has failed (Table REL-7). -/
def laneReport (l n : Nat) (s : State) : State :=
  let d := n + 256 * lanesOf l s + 65536 * linkFmax l s
  if l < 16 then report 0 0x20 0xFF 4 (l / 2) (l / 2) d s else report 0 0x20 0xFF 3 ((l - 16) / 2) ((l - 16) / 2) d s

/-- A lane is lost with no spare to take its place: n falls by one. -/
def laneDown (l n : Nat) (s : State) : State := laneReport l n (updLinks (setLanes l (lanesOf l s - 1) s))

/-- The spare takes the position of a lane, which becomes FAILED (R267, R268). -/
def spareTakes (l n : Nat) (s : State) : State :=
  let pos := s.gf F.LNK_LANE_POS (laneIdx l n)
  let s := s.sf F.LNK_LANE_STATE (laneIdx l n) 2
  let s := (s.sf F.LNK_LANE_STATE (laneIdx l 16) 1).sf F.LNK_LANE_POS (laneIdx l 16) pos
  laneReport l n (s.sf F.LNK_STAT_SPARE_USED l 1)

/-- Number the positions of the lanes that hold one, in lane order (R256). -/
def renumber (l : Nat) (s : State) : State :=
  ((List.range 17).foldl (fun (e : Nat × State) n =>
    if laneHolds l n e.2 then (e.1 + 1, e.2.sf F.LNK_LANE_POS (laneIdx l n) e.1) else e) (0, s)).2

/-- Start a RETRAIN: its column of Table XOT-2 gives CLOCK and ADAPT no time (R261). -/
def startRetrain (l : Nat) (s : State) : State :=
  ((s.setLst l lsTraining).sf F.LNK_STAT_PHASE l 3).modLk l fun r => { r with train := 2, waking := false, rtt := [] }

/-- Raise the BRIDGE or CHAIN/VECTOR request of a link's late item for a partition, and count it on its port. -/
def raisePortLate (l p notice : Nat) (s : State) : State :=
  let i := l / 2
  let v := s.flag F.PART_LAT_PORT_CTL_VECTOR (8 * p + i)
  if (s.lk l).late then s
  else
    let s := s.modLk l fun r => { r with late := true }
    let s := if v then s.bump F.XOT_VEC_STAT_LATE i 1 else s.bump F.XOT_CH_STAT_LATE i 1
    raiseLate p (i / 4) (if v then 3 else 2) i notice ((s.part p).bell + (s.stepCode p + notice) / (s.dImg p + 12))
      (s.faultCode p + notice) s

/-- The partitions that own a slot group of a bundle-direction and are RUNNING: BRIDGE for each (R265). -/
def raiseBridge (k r notice : Nat) (s : State) : State :=
  forUpTo 16 (fun p t =>
    if t.pst p = stRunning ∧ ownsGroup p r k t then
      let code := t.faultCode p + notice
      raiseLate p (1 - r) 0 (k + 32 * r) notice ((t.part p).bell + code / bellLen p t) (code % bellLen p t) t
    else t) s

/-- LANE_LOCK: 64 blocks with valid headers in a row (R259). -/
def laneLock (l n : Nat) (s : State) : State := s.sf F.LNK_LANE_LOCK (laneIdx l n) 1

/-- LANE_LOSS_OF_LOCK: a lane loses lock. One that holds a position leaves the link and is FAILED at once; the spare takes its
place at the next REMAP if it is free and locked, else n falls by one (R268, Table XOT-10). -/
def laneLoss (l n : Nat) (s : State) : State :=
  let k := laneIdx l n
  let held := laneHolds l n s
  let s := s.sf F.LNK_LANE_LOCK k 0
  if s.lst l ≠ lsReady ∧ s.lst l ≠ lsActive then s
  else if n = 16 ∧ s.gf F.LNK_LANE_STATE k = 0 then s.sf F.LNK_LANE_STATE k 2
  else if !held then s
  else
    let s := s.sf F.LNK_LANE_STATE k 2
    let spare := spareFree l s && (s.lk l).spareOver.isNone && !((s.lk l).lost.any fun e => e.2)
    let s := s.modLk l fun r => { r with lost := r.lost ++ [(n, spare)], spareOver := if r.spareOver.any (fun o => o.1 == n) then none else r.spareOver }
    if spare then s else laneDown l n s

/-- LINK_REMAP: a lost lane is remapped at a group boundary (R268). -/
def linkRemap (l : Nat) (s : State) : State :=
  match (s.lk l).lost with
  | [] => s
  | (n, spare) :: rest =>
    let s := s.modLk l fun r => { r with lost := rest }
    let s := sendLink (revLink l) 7 n s
    if spare then
      if spareFree l s then spareTakes l n s
      else renumber l (laneDown l n s)
    else renumber l s

/-- Errors of a lane in the last 64 AM rows. -/
def errSum (l n : Nat) (s : State) : Nat := (Store.get [] (s.lk l).errs n).foldl (· + ·) 0

/-- Start the spare-over of a degraded lane (R267). -/
def startOver (l n : Nat) (s : State) : State :=
  sendLink (revLink l) 6 n (s.modLk l fun r => { r with spareOver := some (n, 0) })

/-- AM: a marker row is received on link `l`: lanes with a BIP-8 mismatch, blocks with invalid headers since the last row, lanes
whose skew is beyond tolerance. Staged settings apply, errors are counted, spare-overs proceed (R260, R261, R267). -/
def amRow (l bip : Nat) (bad : List (Nat × Nat)) (skew : Nat) (s : State) : State :=
  let s := s.setReg .LNK_CFG l (s.reg .LNK_CFG_NEXT l)
  let s := match (s.lk l).spareOver with
    | some (n, 0) => s.modLk l fun r => { r with spareOver := some (n, 1) }
    | some (n, _) => (spareTakes l n s).modLk l fun r => { r with spareOver := none }
    | none => s
  let s := forUpTo 17 (fun n t =>
    let e := bitAt bip n + (bad.filter (fun b => b.1 == n)).foldl (fun m b => m + b.2) 0
    let t := if l < 16 ∧ l % 2 = 1 then t else t.bump F.LNK_ERR_COUNT (laneIdx l n) e
    let h := (e :: Store.get [] (t.lk l).errs n).take 64
    let h := if h.all (· == 0) then [] else h
    t.modLk l fun r => { r with errs := Store.set [] n h r.errs }) s
  let s := forUpTo 17 (fun n t =>
    if t.gf F.LNK_LANE_STATE (laneIdx l n) = 1 ∧ errSum l n t > t.gf F.LNK_CFG_ERR_THRESH l ∧ n ≠ 16 then
      let t := t.sf F.LNK_LANE_STATE (laneIdx l n) 3
      if spareFree l t && (t.lk l).spareOver.isNone && !((t.lk l).lost.any fun e => e.2) then startOver l n t else t
    else t) s
  forUpTo 17 (fun n t => if bitAt skew n = 1 then laneLoss l n t else t) s

/-! ### Training -/

/-- The port's partner fits its mode (R261). -/
def peerFits (l : Nat) (s : State) : Bool :=
  if l ≥ 16 then true
  else match s.gf F.XOT_STAT_MODE (l / 2), (s.lk l).peer with
    | 1, some (fam, _, _, mode) => decide (fam = 0xDA ∧ mode = 1)
    | 2, some (_, mem, _, _) => decide (mem = 0xFF)
    | 1, none => false
    | 2, none => false
    | _, _ => true

/-- The lanes of a link whose training ends: locked lanes within ERR_THRESH hold positions, others are FAILED; the spare takes
the first missing place (R256, R272). -/
def trainLanes (l : Nat) (s : State) : State :=
  let w := linkWidth l s
  let good : Nat → Bool := fun n => s.flag F.LNK_LANE_LOCK (laneIdx l n) && decide (errSum l n s ≤ s.gf F.LNK_CFG_ERR_THRESH l)
  let lanes := (List.range w).filter good
  let spare := good 16
  let use := spare && decide (lanes.length < w)
  let s := forUpTo w (fun n t => t.sf F.LNK_LANE_STATE (laneIdx l n) (if good n then 1 else 2)) s
  let s := s.sf F.LNK_LANE_STATE (laneIdx l 16) (if use then 1 else if spare then 0 else 2)
  let s := s.sflag F.LNK_STAT_SPARE_USED l use
  renumber l (setLanes l (lanes.length + b2n use) (s.modLk l fun r => { r with lost := [], spareOver := none }))

/-- Record 0x0B for every check of R164 that fails; the action applies only while the partition runs (R164, R170). -/
def latFaults (p : Nat) (s : State) : State :=
  let cs := s.curStep p
  forEach (latFails p (s.gf F.GLB_STEP_FREQ_FREQ 0) s) (fun e t =>
    raiseFault p { code := 11, locA := e.1 + 16 * e.2.1, locB := e.2.2.1, locC := e.2.2.2, corrupt := false } cs.2 cs.1 t) s

/-- Put the measured latencies of a port into LNK_LAT (R276, R287). -/
def showLat (i : Nat) (s : State) : State :=
  let f := s.gf F.GLB_STEP_FREQ_FREQ 0
  match s.portOwner i with
  | 0 => s.sf F.LNK_LAT_CTL (2 * i) (min 255 (ctlLat i f s))
  | p + 1 =>
    let v := s.flag F.PART_LAT_PORT_CTL_VECTOR (8 * p + i)
    let s := s.sf F.LNK_LAT_DATA (2 * i) (min 4095 (if v then retLat i f s else dataLat i p f s))
    s.sf F.LNK_LAT_CTL (2 * i) (min 255 (ctlLat i f s))

/-- MEASURE ends: the mean of the round trips gives the one-way time (R276); a vector port's return time is given (R287). A
chain port's one-way time shows in nanoseconds (R355), whose rounding is open. -/
def measureDone (l vret : Nat) (s : State) : State :=
  let i := l / 2
  let r := s.lk l
  let mean := if r.rtt.isEmpty then 0 else r.rtt.foldl (· + ·) 0 / r.rtt.length
  let t := if s.gf F.XOT_STAT_MODE i = 2 then vret else mean / 2 - r.turn
  let s := if s.gf F.XOT_STAT_MODE i = 1 then
      s.sf F.TIM_CMK_OW_VALUE i (t / 1000 + (if t % 1000 ≠ 0 && Config.roundUp t 1000 then 1 else 0)) else s
  showLat i (s.modLk (2 * i) fun r => { r with oneway := t })

/-- TRAINING_PHASE_DONE: the phase in progress ends (R261). `vret` is a vector port's return time in ps as MEASURE found it. -/
def trainingPhaseDone (l vret : Nat) (s : State) : State :=
  if s.lst l ≠ lsTraining then s
  else
    let ph := s.gf F.LNK_STAT_PHASE l
    let rec' := s.lk l
    let finish : State → State := fun s =>
      let s := s.sf F.LNK_STAT_PHASE l 0
      let s := trainLanes l s
      if lanesOf l s = 0 then updLinks ((s.setLst l lsFailed).modLk l fun r => { r with fails := r.fails + 1 })
      else
        let s := (s.setLst l lsReady).modLk l fun r => { r with fails := 0, await := none, replays := 0 }
        let s := updLinks s
        if l < 16 ∧ rec'.train = 2 then
          match s.portOwner (l / 2) with
          | 0 => s
          | p + 1 => if s.holds p then latFaults p s else s
        else s
    match ph with
    | 1 => if rec'.train = 0 then s.sf F.LNK_STAT_PHASE l 2 else s.sf F.LNK_STAT_PHASE l 3
    | 2 => s.sf F.LNK_STAT_PHASE l 3
    | 3 => s.sf F.LNK_STAT_PHASE l 4
    | 4 => s.sf F.LNK_STAT_PHASE l 5
    | 5 =>
      if !(peerFits l s) then
        updLinks (((s.setLst l lsFailed).sf F.LNK_STAT_PHASE l 0).modLk l fun r => { r with fails := r.fails + 1 })
      else if l < 16 then (s.sf F.LNK_STAT_PHASE l 6).modLk l fun r => { r with rtt := [] }
      else finish s
    | 6 => finish (if l % 2 = 0 then measureDone l vret s else s)
    | _ => s

/-- TRAINING_TIMEOUT: a phase took more than twice its time and training restarts from CLOCK (R261). -/
def trainingTimeout (l : Nat) (s : State) : State :=
  if s.lst l ≠ lsTraining then s
  else (s.sf F.LNK_STAT_PHASE l 1).modLk l fun r => { r with rtt := [], fails := r.fails + b2n (decide (r.train = 2)) }

/-- Start training from a column of Table XOT-2; the port's mode takes effect (XOT_CFG.MODE). -/
def startTraining (l col : Nat) (s : State) : State :=
  let s := if l < 16 then s.sf F.XOT_STAT_MODE (l / 2) (s.gf F.XOT_CFG_MODE (l / 2)) else s
  ((s.setLst l lsTraining).sf F.LNK_STAT_PHASE l 1).modLk l fun r => { r with train := col, waking := false, rtt := [] }

/-! ### Link commands (R290, R291, Table XOT-9) -/

/-- The requester may write the link's registers (R290). -/
def linkOk (rq : Requester) (l : Nat) (s : State) : Bool := if l < 16 then adminOk rq s else procOrM rq s

/-- A link command word as written. -/
def linkWord (cmd kind lane : Nat) : Nat := cmd + 16 * kind + 256 * lane

/-- Refused under Table XOT-9. -/
def linkRefuse (rq : Requester) (l w : Nat) (s : State) : State :=
  logRefused rq .LNK_CMD l w (s.sf F.LNK_STAT_CMDST l 0x20)

/-- Run a link command: access before state (R290, R291). -/
def linkCmd (rq : Requester) (l w : Nat) (legal : Bool) (f : State → State) (s : State) : State :=
  if !(linkOk rq l s) then (denyWrite rq .LNK_CMD l w s).sf F.LNK_STAT_CMDST l 0x21
  else
    let s := okResp 0 s
    if legal then f (s.sf F.LNK_STAT_CMDST l 0) else linkRefuse rq l w s

/-- LINK_ENABLE. -/
def linkEnable (rq : Requester) (l : Nat) (s : State) : State :=
  linkCmd rq l 1 (decide (s.lst l = lsOff)) (startTraining l 0) s

/-- LINK_DISABLE: never T0 or T1. -/
def linkDisable (rq : Requester) (l : Nat) (s : State) : State :=
  let st := s.lst l
  linkCmd rq l 2 (decide (st = lsReady ∨ st = lsNap ∨ st = lsRecess ∨ st = lsFailed) && decide (l < 64))
    (fun s => (s.setLst l lsOff).modLk l fun r => { r with waking := false }) s

/-- LINK_RETRAIN. -/
def linkRetrain (rq : Requester) (l : Nat) (s : State) : State :=
  let st := s.lst l
  linkCmd rq l 3 (decide (st = lsReady ∨ st = lsActive ∨ st = lsFailed)) (startRetrain l) s

/-- LINK_NAP. -/
def linkNap (rq : Requester) (l : Nat) (s : State) : State :=
  linkCmd rq l 4 (decide (s.lst l = lsReady) && !(linkInUse l s)) (fun s => s.setLst l lsNap) s

/-- LINK_RECESS. -/
def linkRecess (rq : Requester) (l : Nat) (s : State) : State :=
  linkCmd rq l 5 (decide (s.lst l = lsReady ∨ s.lst l = lsNap) && !(linkInUse l s))
    (fun s => (s.setLst l lsRecess).modLk l fun r => { r with waking := false }) s

/-- A link leaves nap or recess (R274). -/
def wakeLink (l : Nat) (s : State) : State :=
  if s.lst l = lsNap then s.modLk l fun r => { r with waking := true }
  else if s.lst l = lsRecess then startTraining l 1 s
  else s

/-- LINK_WAKE. -/
def linkWake (rq : Requester) (l : Nat) (s : State) : State :=
  linkCmd rq l 6 (decide (s.lst l = lsNap ∨ s.lst l = lsRecess)) (wakeLink l) s

/-- LOOPBACK: far-end needs the partner's consent, else 0x20 (R273). -/
def linkLoopback (rq : Requester) (l kind : Nat) (consent : Bool) (s : State) : State :=
  linkCmd rq l (linkWord 7 kind 0) (decide (s.lst l = lsReady) && !(linkInUse l s) && (decide (kind ≠ 3) || consent))
    (fun s => (s.setLst l lsLoopback).modLk l fun r => { r with loop := kind }) s

/-- LB_END. -/
def linkLbEnd (rq : Requester) (l : Nat) (s : State) : State :=
  linkCmd rq l 8 (decide (s.lst l = lsLoopback)) (fun s => (s.setLst l lsReady).modLk l fun r => { r with loop := 0 }) s

/-- LINK_SPARE_CMD: a named lane moves to the spare as a degraded lane does (R267, R291, Table XOT-10). -/
def linkSpareCmd (rq : Requester) (l lane : Nat) (s : State) : State :=
  linkCmd rq l (linkWord 9 0 lane)
    (decide (s.lst l = lsReady ∨ s.lst l = lsActive) && spareFree l s && laneHolds l lane s && decide (lane < 16)
      && (s.lk l).spareOver.isNone && !((s.lk l).lost.any fun e => e.2))
    (startOver l lane) s

/-- NAP_IDLE_TIMEOUT: a READY link that nothing uses naps by itself: a port when NAP_EN = 1, a signal bundle always (R274). -/
def napIdle (l : Nat) (s : State) : State :=
  if s.lst l = lsReady ∧ !(linkInUse l s) ∧ l < 64 ∧ (l ≥ 16 ∨ s.flag F.LNK_CFG_NAP_EN l ∧ s.portOwner (l / 2) = 0) then s.setLst l lsNap else s

/-- NAP_EXIT_DONE: the 32 IDLE blocks have passed; `seen` marks the lanes that showed 16 valid headers (R274). -/
def napExitDone (l seen : Nat) (s : State) : State :=
  if s.lst l ≠ lsNap ∨ !(s.lk l).waking then s
  else
    let miss := (List.range 17).filter fun n => (laneHolds l n s || decide (n = 16)) && decide (bitAt seen n = 0)
    let s := forEach miss (fun n t => t.sf F.LNK_LANE_LOCK (laneIdx l n) 0) s
    if miss.isEmpty then updLinks ((s.setLst l lsReady).modLk l fun r => { r with waking := false })
    else startRetrain l s

/-! ### Groups and replay (R262, R263) -/

/-- RETRAIN of a link whose replay failed. -/
def replayFailed (l : Nat) (s : State) : State :=
  if s.lst l = lsReady ∨ s.lst l = lsActive then startRetrain l s else s

/-- Bell length in step codes (R277). -/
def codeLen (p : Nat) (s : State) : Nat := s.dImg p + 12

/-- Step position of the step in progress in step codes. -/
def codeLin (p : Nat) (s : State) : Nat := (s.part p).bell * codeLen p s + s.stepCode p

/-- Presentation position of chain bits produced at a position (R276): CHAIN less the effective IO latency later. -/
def chainDue (p i lin : Nat) (s : State) : Nat := lin + (s.gf F.PART_LAT_PORT_DATA (8 * p + i) - s.lat p 3)

/-- Chain data of a group that arrives checked-good: one entry per step, in step order (R275). -/
def chainData (l : Nat) (data : List Nat) (s : State) : State :=
  let i := l / 2
  match s.portOwner i with
  | 0 => s
  | p + 1 =>
    let s := data.foldl (fun t d => match (t.lk l).rxLin with
      | none => t
      | some lin => t.modLk l fun r => { r with rxLin := some (lin + 1), chain := r.chain ++ [(chainDue p i lin t, if r.rxOk then some d else none)] }) s
    if (s.lk l).late ∧ !data.isEmpty then lateItem p (i / 4) 2 i (s.modLk l fun r => { r with late := false }) else s

/-- CRC_BLOCK: a group ends. A bad one is counted, asked for by REPLAY, and every later group is dropped until it comes again
(R262, R263). On a chain port a bad group makes its items late (R268, Table FRZ-2). -/
def crcBlock (l group : Nat) (good : Bool) (data : List Nat) (s : State) : State :=
  let r := s.lk l
  let bad : State → State := fun s =>
    let n := if r.await = some group then r.replays + 1 else 1
    let s := s.bump F.LNK_CNT_BADGRP l 1
    let s := s.modLk l fun r => { r with await := some group, replays := n }
    let s := if n > 8 then replayFailed l s else sendBlock (revLink l) 0x33 (group * 256) s
    if l ≥ 16 then s
    else match s.portOwner (l / 2), r.rxLin with
      | p + 1, some lin =>
        if s.live p ∧ s.flag F.PART_LAT_PORT_CTL_CHAIN (8 * p + l / 2) then
          raisePortLate l p (chainDue p (l / 2) lin s - codeLin p s) s else s
      | _, _ => s
  match r.await with
  | some g =>
    if group ≠ g then s
    else if good then chainData l data (s.modLk l fun r => { r with await := none, replays := 0, rxGroup := (group + 1) % 4096 })
    else bad s
  | none => if good then chainData l data (s.modLk l fun r => { r with rxGroup := (group + 1) % 4096 }) else bad s

/-- REPLAY received on the reverse direction of transmit link `l`: the transmitter resends from the named group, or retrains when
it no longer holds it or was asked eight times (R263). The transmitter keeps the last 128 groups. -/
def replayMsg (l group : Nat) (s : State) : State :=
  let r := s.lk l
  let n := if r.asked = group ∧ r.asks > 0 then r.asks + 1 else 1
  let back := (r.txGroup + 4096 - group) % 4096
  if n > 8 ∨ back = 0 ∨ back > 128 then replayFailed l (s.modLk l fun r => { r with asks := 0 })
  else (s.bump F.LNK_CNT_RESENT l back).modLk l fun r => { r with asked := group, asks := n }

/-- REPLAY_TIMEOUT: a REPLAY was not answered within 2 us (R263). -/
def replayTimeout (l : Nat) (s : State) : State :=
  if (s.lk l).await.isSome then replayFailed l (s.modLk l fun r => { r with await := none, replays := 0 }) else s

/-- CHECK_FRAME received on transaction bundle `t` in direction `r` (R265): `bad` marks, among the 12 bundles served, the groups
that fail or have no check; `nak` the bundles of the opposite direction asked to resend from `group`; `cw` a control word and the
bell starts beside it; `notice` the steps to the due step of the late values. -/
def checkFrame (t r bad nak group notice : Nat) (cw : Option (Nat × Nat)) (s : State) : State :=
  let s := forUpTo 12 (fun j s =>
    let k := 12 * t + j
    if bitAt bad j = 1 then
      raiseBridge k r notice ((s.bump F.LNK_CNT_BADGRP (bundleLink k r) 1).modLk (bundleLink k r) fun x => { x with await := some group })
    else s) s
  let s := forUpTo 12 (fun j s =>
    let l := bundleLink (12 * t + j) (1 - r)
    if bitAt nak j = 1 then
      let x := s.lk l
      let n := if x.asked = group ∧ x.asks > 0 then x.asks + 1 else 1
      if n > 8 then replayFailed l (s.modLk l fun x => { x with asks := 0 })
      else ((s.bump F.LNK_CNT_RESENT l 1).sf F.LNK_STAT_BEHIND l 1).modLk l fun x => { x with asked := group, asks := n }
    else s) s
  match cw with
  | some (w, starts) => bridgeWord (1 - r) w starts s
  | none => s

/-! ### LINK blocks -/

/-- LINK_CAP: the partner's family, member, level, mode and turnaround (R261, R287). -/
def linkCap (l fam mem lvl mode turn : Nat) (s : State) : State :=
  let s := s.modLk l fun r => { r with peer := some (fam, mem, lvl, mode), turn := turn }
  if l < 16 then (s.sf F.XOT_PEER_MEMBER (l / 2) mem).sf F.XOT_PEER_LEVEL (l / 2) lvl else s

/-- LINK_ID. -/
def linkId (l id : Nat) (s : State) : State := s.modLk l fun r => { r with peerId := id }

/-- LINK_EPOCH (R282). -/
def linkEpoch (i e : Nat) (s : State) : State := s.sf F.XOT_PEER_EPOCH i e

/-- The distance a partition's device advertises, and its upstream port (R278). -/
def setDist (p : Nat) (s : State) : State :=
  let ports := s.chainPorts p
  let best := ports.foldl (fun (b : Option (Nat × Nat)) i => match (s.lk (2 * i)).dist, b with
    | some d, none => some (d, i)
    | some d, some (d', i') => if d < d' then some (d, i) else some (d', i')
    | none, b => b) none
  let lead := s.flag F.PART_FRZ_CHAIN_CHAIN_LEAD p
  let d := if lead then 0 else match best with | some (d, _) => min (d + 1) 255 | none => 0
  forEach ports (fun i t =>
    let t := t.sflag F.XOT_STAT_UPSTREAM i (!lead && decide (best.map Prod.snd = some i))
    if t.gf F.XOT_STAT_DIST i = d then t else sendLink (2 * i + 1) 4 d (t.sf F.XOT_STAT_DIST i d)) s

/-- LINK_DIST (R278). -/
def linkDist (i d : Nat) (s : State) : State :=
  let s := s.modLk (2 * i) fun r => { r with dist := some d }
  match s.portOwner i with
  | 0 => s
  | p + 1 => setDist p s

/-- LINK_DERATE: the port's remote limit (R280). -/
def linkDerate (i f : Nat) (s : State) : State := updLinks (s.sf F.XOT_STAT_RFMAX i (max 64 (min 256 f)))

/-- LINK_SPARE received by the transmitter of link `l`: from the next AM row the lane is sent on both (R267). -/
def linkSpare (l n : Nat) (s : State) : State :=
  if (s.lk l).spareOver.isSome then s
  else (s.sf F.LNK_LANE_STATE (laneIdx l n) 3).modLk l fun r => { r with spareOver := some (n, 0) }

/-- LINK_PROBE: echoed during MEASURE (R261). -/
def linkProbe (l tag : Nat) (s : State) : State := sendLink (revLink l) 9 tag s

/-- LINK_ECHO closes a round trip of `rtt` ps (R276). -/
def linkEcho (l rtt : Nat) (s : State) : State :=
  if s.lst l = lsTraining ∧ s.gf F.LNK_STAT_PHASE l = 6 ∧ (s.lk l).rtt.length < 16 then s.modLk l fun r => { r with rtt := r.rtt ++ [rtt] } else s

/-- LINK_SKIP: frames omitted while the bundle was behind; its queue has drained (R265). -/
def linkSkip (l : Nat) (s : State) : State := s.sf F.LNK_STAT_BEHIND l 0

/-- LINK_FCFG: the port sends the formatter configuration of its descriptor (R283). -/
def linkFcfg (i : Nat) (s : State) : State :=
  match s.portOwner i with
  | 0 => s
  | p + 1 => match ((s.part p).img (s.slot p)).vecPort.find? (fun e => e.1 == i) with
    | some (_, _, f) => sendLink (2 * i + 1) 0x0B f s
    | none => s

/-- BULK: data blocks of an image stream follow, on a READY chain port that no partition owns (R281). -/
def bulkBlock (i n : Nat) (s : State) : State :=
  if s.lst (2 * i) = lsReady ∧ s.gf F.XOT_STAT_MODE i = 1 ∧ s.portOwner i = 0 then s.modLk (2 * i) fun r => { r with bulk := r.bulk + n } else s

/-! ### Chain ports (R275-R279) -/

/-- CHAIN_BELL: the BELL block of a bell's step 0 (R275). The bell received follows the one before it; the first after START is
the partition's own. -/
def chainBell (i bell : Nat) (s : State) : State :=
  match s.portOwner i with
  | 0 => s
  | p + 1 =>
    if !(s.live p) then s
    else
      let l := codeLen p s
      let want := match (s.lk (2 * i)).rxLin with
        | some lin => (lin + l - 1) / l
        | none => (s.part p).bell
      let ok := decide (bell = want % 2 ^ 48)
      let s := s.modLk (2 * i) fun r => { r with rxLin := some (want * l), rxOk := ok }
      if ok then s else (markCorrupt p s).sf F.XOT_CH_STAT_DESYNC i 1

/-- A chain freeze message arrives on port `i` of partition `p` with its SEQ: the first copy of the next SEQ is acted on, the
second copy ignored, any other is a loss (R277). -/
def chainMsg (p i seq : Nat) (f : State → State) (s : State) : State :=
  if s.portOwner i ≠ p + 1 then s
  else
    let last := (s.lk (2 * i)).rxSeq
    if last = seq then s
    else
      let s' := s.modLk (2 * i) fun r => { r with rxSeq := seq }
      if last = 256 ∨ seq = (last + 1) % 256 then f s' else chainLoss p i s'

/-- A chain port sends its W frame-buffer bits for the step, and BELL before those of step 0 (R275). -/
def chainSend (p : Nat) (old : State) (s : State) : State :=
  let cs := old.curStep p
  forEach (s.chainPorts p) (fun i t =>
    let t := if cs = (0, false) then sendBlock (2 * i + 1) 0x78 (256 * (old.part p).bell) t else t
    let bits := (List.range (chainWidth i p t)).map fun b =>
      match Store.get .x old.net.frame (8192 * (i / 4) + 0x400 * (i % 4) + b) with
      | .zero => 0
      | .one => 1
      | .x => b2n (Config.chainX (t.seq + b))
    let v := bits.foldr (fun b m => b + 2 * m) 0
    { (sendBlock (2 * i + 1) 1 v t) with seq := t.seq + 368 }) s

/-- Present the chain bits due at the step about to run, and raise CHAIN for an item not held at its decision point. -/
def chainPresent (p : Nat) (s : State) : State :=
  let lin := codeLin p s
  forEach (s.chainPorts p) (fun i t =>
    let l := 2 * i
    let started := (t.lk l).rxLin
    let chain := t.gf F.PART_LAT_PORT_DATA (8 * p + i)
    let slack := chain - dataLat i p (t.gf F.GLB_STEP_FREQ_FREQ 0) t
    let t := match started with
      | some rx => if chainDue p i rx t ≤ lin + slack ∧ t.pst p = stRunning then raisePortLate l p (chainDue p i rx t - lin) t else t
      | none => t
    match (t.lk l).chain.find? (fun e => e.1 == lin) with
    | none => t
    | some (_, d) =>
      let k := 8192 * (i / 4) + 0x200 + 0x500 * (i % 4)
      let src := (List.range 368).foldl (fun m b =>
        if t.ioOwner (i / 4) (0x200 + 0x500 * (i % 4) + b) 0 = p + 1 then
          Store.set .x (k + b) (match d with | some v => Tri.ofBool (bitAt v b = 1) | none => .x) m
        else m) t.net.src
      { (t.modLk l fun r => { r with chain := r.chain.filter fun e => decide (lin < e.1) }) with net := { t.net with src := src } }) s

/-! ### Vector ports (R284-R288) -/

/-- Bits of a vector-map entry: channel, sample code j, RET (Table XOT-6). -/
def vmChan (e : Nat) : Nat := bitsAt e 0 10
def vmSample (e j : Nat) : Nat := bitsAt e (16 + 16 * j) 16
def vmRet (e : Nat) : Nat := bitsAt e 64 8

/-- Sample the sinks whose sample code is the step in progress (R284). -/
def vecSample (p : Nat) (old s : State) : State :=
  let c := old.stepCode p
  forEach (s.vectorPorts p) (fun i t =>
    forEach (vecEntries p i t) (fun e t =>
      forUpTo 3 (fun j t =>
        if vmSample e j = c then
          let v := Store.get .x old.net.frame (8192 * (i / 4) + 0x400 * (i % 4) + vmChan e)
          t.modLk (2 * i + 1) fun r => { r with samp := Store.set .x (4 * vmChan e + j) v r.samp }
        else t) t) t) s

/-- The state code of a channel (R284, Table XOT-7): X mark when a bit is X and X-mode is on. -/
def vecCode (xm : Bool) (samp : Store Tri) (e : Nat) : Nat :=
  let c : Nat → Tri := fun j => triRead xm (Store.get .x samp (4 * vmChan e + j))
  if c 0 = .x ∨ c 1 = .x ∨ c 2 = .x then 8
  else 4 * b2n (decide (c 2 = .one)) + 2 * b2n (decide (c 1 = .one)) + b2n (decide (c 0 = .one))

/-- Codes packed 4 bits each (R285). -/
def packCodes (l : List Nat) : Nat := l.foldr (fun c m => c % 16 + 16 * m) 0

/-- VECTOR_FRAME_LAUNCH: at LAUNCH a vector port sends VFRAME and the codes of the bell (R285). -/
def vecLaunch (p : Nat) (old s : State) : State :=
  let c := old.stepCode p
  forEach ((s.part p).img (s.slot p)).vecPort (fun d t =>
    if d.2.1 ≠ c then t
    else
      let i := d.1
      let samp := (t.lk (2 * i + 1)).samp
      let codes := (vecEntries p i t).map (vecCode (t.xmode p) samp)
      let t := sendBlock (2 * i + 1) 1 (packCodes codes) (sendBlock (2 * i + 1) 0x87 (256 * (old.part p).bell) t)
      t.modLk (2 * i) fun r => { r with sent := r.sent ++ [((old.part p).bell, codeLin p old)] }) s

/-- A port sends fence frames: its owner's border is fenced or in replay, no image drives it, or no partition owns it (R220, R288). -/
def portFenced (i : Nat) (s : State) : Bool :=
  match s.portOwner i with
  | 0 => true
  | p + 1 => (s.part p).fence || !(s.part p).border || s.flag F.TRC_REPLAY_STAT_ACTIVE p

/-- RFRAME: the returned frame of the next expected bell is held for its presentation; any other is discarded and counted
(R286). -/
def rframe (i bell : Nat) (codes : List Nat) (s : State) : State :=
  if portFenced i s then s
  else match s.portOwner i with
    | 0 => s
    | p + 1 =>
      let l := 2 * i
      match (s.lk l).sent with
      | (b, lin) :: rest =>
        if b % 2 ^ 48 = bell then
          let s := s.modLk l fun r => { r with sent := rest, back := r.back ++ [(lin + s.gf F.PART_LAT_PORT_VRET (8 * p + i), codes)] }
          if (s.lk l).late then lateItem p (i / 4) 3 i (s.modLk l fun r => { r with late := false }) else s
        else markCorrupt p (s.bump F.XOT_VEC_STAT_BADRET i 1)
      | [] => markCorrupt p (s.bump F.XOT_VEC_STAT_BADRET i 1)

/-- The value a return code presents (R286). -/
def retValue (ret code : Nat) : Tri :=
  match ret, code with
  | 1, 0 => .zero
  | 1, 1 => .one
  | 1, 3 => .zero
  | 2, 0 => .zero
  | 2, 1 => .one
  | _, _ => .x

/-- Present the vector returns due at the step about to run; raise VECTOR for one not held at its decision point. -/
def vecPresent (p : Nat) (s : State) : State :=
  let lin := codeLin p s
  forEach (s.vectorPorts p) (fun i t =>
    let l := 2 * i
    let vret := t.gf F.PART_LAT_PORT_VRET (8 * p + i)
    let notice := vret - retLat i (t.gf F.GLB_STEP_FREQ_FREQ 0) t
    let t := match (t.lk l).sent with
      | (_, u) :: _ => if u + vret ≤ lin + notice ∧ t.pst p = stRunning then raisePortLate l p (u + vret - lin) t else t
      | [] => t
    let ents := vecEntries p i t
    let k := 8192 * (i / 4) + 0x200 + 0x500 * (i % 4)
    let put : (Nat → Tri) → Tri → State → State := fun f any t =>
      let src := (List.range ents.length).foldl (fun m n =>
        let e := ents.getD n 0
        if vmRet e = 0 then m else Store.set .x (k + vmChan e) (f n) m) t.net.src
      { t with net := { t.net with src := Store.set .x (k + 0x400) any src } }
    match (t.lk l).back.find? (fun e => e.1 == lin) with
    | some (_, codes) =>
      let vals := fun n => retValue (vmRet (ents.getD n 0)) (codes.getD n 2)
      let fails := (List.range ents.length).filterMap fun n => if vmRet (ents.getD n 0) = 1 then some (vals n) else none
      let any := if fails.contains .one then Tri.one else if fails.contains .x then .x else .zero
      put vals any (t.modLk l fun r => { r with back := r.back.filter fun e => decide (lin < e.1) })
    | none => match (t.lk l).sent with
      | (_, u) :: rest => if u + vret = lin then put (fun _ => .x) .x (t.modLk l fun r => { r with sent := rest }) else t
      | [] => t) s

/-- The clamp code of a border signal in a CLAMP list (Table CFG-6, Table CFG-10): kind 0 vector channel, 1 GPIO output; a
signal not listed takes HOLD, and so do the codes without a meaning for its kind. -/
def clampOf (l : List Nat) (kind sig : Nat) : Nat :=
  match l.find? (fun e => bitsAt e 0 13 = sig ∧ bitAt e 13 = kind) with
  | some e => if bitsAt e 16 3 ≤ 3 ∨ (bitsAt e 16 3 = 4 ∧ kind = 0) then bitsAt e 16 3 else 0
  | none => 0

/-- Codes of a fence frame (R288): the clamps of the image that drove the port, or OFF on every channel. -/
def fenceCodes (i : Nat) (s : State) : List Nat :=
  match s.portOwner i with
  | 0 => List.replicate 1024 2
  | p + 1 =>
    let r := s.part p
    let codes : List Nat → List Nat → List Nat := fun map set =>
      (map.filter fun e => bitsAt e 10 3 = i).map fun e => [0xF, 0, 1, 2, 8].getD (clampOf set 0 (1024 * i + vmChan e)) 0xF
    if r.fence then codes r.clampMap r.clampSet
    else if r.border && s.flag F.TRC_REPLAY_STAT_ACTIVE p then codes (r.img (s.slot p)).vecMap (r.img (s.slot p)).clamps
    else List.replicate 1024 2

/-- AM_PERIOD: once per AM period the transmitter sends AM on every lane, TIME where configured, and fence frames (R260, R279,
R288). -/
def amPeriod (l : Nat) (s : State) : State :=
  let s := sendBlock l 0x1E 0 s
  if l ≥ 16 ∨ l % 2 = 0 then s
  else
    let i := l / 2
    let s := if s.flag F.XOT_CFG_TMARK i && decide (s.gf F.XOT_STAT_MODE i = 1) then sendBlock l 0x69 (256 * (s.dtime % 2 ^ 32)) s else s
    if s.gf F.XOT_STAT_MODE i = 2 && (decide (s.lst l = lsReady) || decide (s.lst l = lsActive)) && portFenced i s then
      sendBlock l 1 (packCodes (fenceCodes i s)) (sendBlock l 0x8B 0 s)
    else s

end Machine
end Sys2Proof
end

