-- ==== Sys2Proof/Machine/Pins.lean ====
section
/-! DEFINITION. GPIO pins: reset states, functions, PART outputs, locking, fuses, bank supplies, boundary scan (R450-R467). -/
namespace Sys2Proof
namespace Machine

/-- The fuse-map field that GPIO `g` took at the last reset of level 0 or 1 (R458). -/
def pinFuse (g : Nat) (s : State) : Nat := bitsAt (s.reg .PIO_FUSE (g / 16)).toNat (2 * (g % 16)) 2

/-- The pin's bank has its supply (R451). -/
def bankGood (g : Nat) (s : State) : Bool := decide (bitAt (s.gf F.PIO_BANK_STAT_GOOD 0) (g / 24) = 1)

/-- Owner + 1 of GPIO output `g` (R456). -/
def State.pinOwner (s : State) (g : Nat) : Nat := if s.flag F.PIO_PIN_CFG_OWNED g then s.gf F.PIO_PIN_CFG_OWNER g + 1 else 0

/-- What a pad is driven with: a level, or none with a pull (0 none, 1 down, 2 up). -/
structure PadDrive where
  level : Option Bool
  pull : Nat
  deriving DecidableEq, Repr

/-- A driven tri-state value: X drives the pad off (R457). -/
def driveTri (v : Tri) (pull : Nat) : PadDrive :=
  match v with
  | .one => ⟨some true, pull⟩
  | .zero => ⟨some false, pull⟩
  | .x => ⟨none, pull⟩

/-- The reset state of a pad (R458). -/
def resetDrive (g : Nat) (s : State) : PadDrive :=
  match pinFuse g s with
  | 3 => ⟨some false, 0⟩
  | n => ⟨none, n⟩

/-- The drive of a PART pin: the image's value, a clamp of Table CFG-10 under the fence and in replay, the reset state while no
image drives it (R79, R204, R220, R457). -/
def partDrive (p g : Nat) (s : State) : PadDrive :=
  let r := s.part p
  let pull := s.gf F.PIO_PIN_CFG_PULL g
  let now := driveTri (Store.get .x s.pio.val g) pull
  let clamp := fun l => match clampOf l 1 g with
    | 1 => (⟨some false, pull⟩ : PadDrive)
    | 2 => ⟨some true, pull⟩
    | 3 => ⟨none, pull⟩
    | _ => now
  if r.fence then clamp r.clampSet
  else if !r.border then resetDrive g s
  else if s.flag F.TRC_REPLAY_STAT_ACTIVE p then clamp (r.img (s.slot p)).clamps
  else now

/-- The drive of a pad by this device (R451, R452, R454, R458). An ALT function's drive is its peripheral's: none here. -/
def padDrive (g : Nat) (s : State) : PadDrive :=
  if !(bankGood g s) then ⟨none, 0⟩
  else if !(s.flag F.PIO_PIN_CFG_RELEASED g) then resetDrive g s
  else
    let pull := s.gf F.PIO_PIN_CFG_PULL g
    let d : PadDrive := match s.gf F.PIO_PIN_CFG_FUNC g with
      | 0 => if bitAt (s.reg .PIO_OE (g / 32)).toNat (g % 32) = 1 then ⟨some (decide (bitAt (s.reg .PIO_OUT (g / 32)).toNat (g % 32) = 1)), pull⟩ else ⟨none, pull⟩
      | 1 => match s.pinOwner g with
        | 0 => resetDrive g s
        | p + 1 => partDrive p g s
      | _ => ⟨none, pull⟩
    let d := if s.flag F.PIO_PIN_CFG_OD g && d.level == some true then ⟨none, pull⟩ else d
    if s.pio.asleep && decide (s.gf F.PIO_PIN_CFG_SLEEP g ≠ 0) then ⟨none, pull⟩ else d

/-- The level PIO_IN reads for a pad: 0 without supply, the level driven, else no defined level (R451, R453). -/
def padLevel (g : Nat) (s : State) : Bool :=
  if !(bankGood g s) then false
  else match (padDrive g s).level with
    | some b => b
    | none => Config.padFloat g s.seq

/-! ### PART outputs (R457) -/

/-- The pins of partition `p` with FUNC = PART. -/
def partPins (p : Nat) (s : State) : List Nat :=
  (List.range 96).filter fun g => s.pinOwner g = p + 1 ∧ s.gf F.PIO_PIN_CFG_FUNC g = 1

/-- Sample the chalk lines of the pins whose step is `t`: the pin takes the value 4 steps later. -/
def pinSample (p t : Nat) (s : State) : State :=
  let new := ((partPins p s).filter fun g => s.gf F.PIO_PSRC_STEP g = t).map fun g =>
    let n := s.gf F.PIO_PSRC_CLASS g
    let v := if s.clsOwner n = p + 1 ∧ t < s.dImg p then triRead (s.xmode p) (s.chalkAt n (s.gf F.PIO_PSRC_LINE g)) else .x
    (g, p, (s.part p).count + 4, v)
  if new.isEmpty then s else { s with pio := { s.pio with pend := s.pio.pend ++ new } }

/-- PART_PIN_DRIVE: the pins take the values due at this step enable. -/
def pinTake (p : Nat) (s : State) : State :=
  let c := (s.part p).count
  let now := s.pio.pend.filter fun e => e.2.1 == p && decide (e.2.2.1 ≤ c)
  if now.isEmpty then s
  else
    { s with pio := { s.pio with
      pend := s.pio.pend.filter fun e => !(e.2.1 == p && decide (e.2.2.1 ≤ c))
      val := now.foldl (fun m e => Store.set .x e.1 e.2.2.2 m) s.pio.val } }

/-- The partition's image drives its pins from step 0 of bell 0 (R79). -/
def pinsOn (p : Nat) (s : State) : State :=
  forEach (partPins p s) (fun g t => t.sf F.PIO_PIN_CFG_RELEASED g 1) s

/-- The partition returns to EMPTY: its pins go back to their reset states and are released; they keep PART (R79, R456). -/
def pinsOff (p : Nat) (s : State) : State :=
  let pins := (List.range 96).filter fun g => s.pinOwner g = p + 1
  let s := forEach pins (fun g t => (((t.sf F.PIO_PIN_CFG_RELEASED g 0).sf F.PIO_PIN_CFG_OWNED g 0).sf F.PIO_PIN_CFG_OWNER g 0)) s
  { s with pio := { s.pio with
    val := pins.foldl (fun m g => Store.del g m) s.pio.val
    pend := s.pio.pend.filter fun e => e.2.1 != p } }

/-! ### Pin configuration (R452-R456) -/

/-- The pin has an entry in Table PIN-5. -/
def hasAlt (g : Nat) : Bool := decide (g ≤ 13) || (decide (24 ≤ g) && decide (g ≤ 27)) || (decide (48 ≤ g) && decide (g ≤ 63))
  || (decide (72 ≤ g) && decide (g ≤ 75))

/-- FUNC, PULL and SLEEP brought into their legal values (R12, R454). -/
def pinCfgClamp (g v : Nat) : Nat :=
  let f := bitsAt v 0 3
  let f := if f = 1 ∨ (f = 2 ∧ hasAlt g) then f else 0
  let pull := bitsAt v 6 2
  let sl := bitsAt v 10 2
  f + 8 * bitsAt v 3 3 + 64 * (if pull = 3 then 0 else pull) + 256 * bitsAt v 8 2 + 1024 * (if sl = 3 then 0 else sl)

/-- PIN_CFG_WRITE: the options change and FUNC switches without a glitch; Sequence PIN-1 is over at once here (entry 22). -/
def pinCfgWrite (rq : Requester) (g v : Nat) (s : State) : State :=
  if !(adminOk rq s) then denyWrite rq .PIO_PIN_CFG g v s
  else if s.flag F.PIO_PIN_CFG_LOCKED g then lockedWrite rq .PIO_PIN_CFG g v s
  else
    let w := pinCfgClamp g v
    let old := (s.reg .PIO_PIN_CFG g).toNat
    let keep := s.flag F.PIO_PIN_CFG_OWNED g && decide (bitsAt w 0 3 ≠ bitsAt old 0 3)
    let w := if keep then w / 8 * 8 + bitsAt old 0 3 else w
    let s := s.setReg .PIO_PIN_CFG g (BitVec.ofNat 32 (w + old / 4096 * 4096))
    let s := s.sf F.PIO_PIN_CFG_RELEASED g 1
    if keep then lockedWrite rq .PIO_PIN_CFG g v s else okResp 0 s

/-! ### Locking (R460) -/

/-- A write of the lock sequence that is out of order: back to the start, 0x20, logged. -/
def pioLockBad (rq : Requester) (w : Nat) (s : State) : State :=
  logRefused rq .PIO_LOCK 0 w ((s.sf F.PIO_STAT_LSTEP 0 0).sf F.PIO_STAT_CMDST 0 0x20)

/-- A refused access to a command of the pins. -/
def pioDeny (rq : Requester) (r : Reg) (w : Nat) (s : State) : State := (denyWrite rq r 0 w s).sf F.PIO_STAT_CMDST 0 0x21

/-- PIO_LOCK_KEY: 0x5A starts the sequence, 0xA5 captures the mask. -/
def pioLockKey (rq : Requester) (key : Nat) (s : State) : State :=
  if !(adminOk rq s) then pioDeny rq .PIO_LOCK key s
  else
    let st := s.gf F.PIO_STAT_LSTEP 0
    let s := okResp 0 s
    if st = 0 ∧ key = 0x5A then (s.sf F.PIO_STAT_LSTEP 0 1).sf F.PIO_STAT_CMDST 0 0
    else if st = 1 ∧ key = 0xA5 then
      let s := (s.sf F.PIO_STAT_LSTEP 0 2).sf F.PIO_STAT_CMDST 0 0
      { s with pio := { s.pio with mask := (List.range 3).map fun k => (s.reg .PIO_LOCK_MASK k).toNat } }
    else pioLockBad rq key s

/-- PIO_LOCK: LOCK = 1 locks the captured pins until reset level 0 or 1. -/
def pioLock (rq : Requester) (s : State) : State :=
  if !(adminOk rq s) then pioDeny rq .PIO_LOCK 256 s
  else if s.gf F.PIO_STAT_LSTEP 0 = 2 then
    let m := s.pio.mask
    let s := forUpTo 3 (fun k t => t.setReg .PIO_LOCK_STAT k (t.reg .PIO_LOCK_STAT k ||| BitVec.ofNat 32 (m.getD k 0))) s
    let s := forUpTo 96 (fun g t => if bitAt (m.getD (g / 32) 0) (g % 32) = 1 then t.sf F.PIO_PIN_CFG_LOCKED g 1 else t) s
    okResp 0 ((s.sf F.PIO_STAT_LSTEP 0 0).sf F.PIO_STAT_CMDST 0 0)
  else pioLockBad rq 256 (okResp 0 s)

/-! ### Fuses, supplies, boundary scan -/

/-- The bits of a fuse write have been added (R459). -/
def fuseDone (s : State) : State :=
  match s.pio.pulse with
  | none => s
  | some (g, v) => { s with pio := { s.pio with pulse := none, fuse := Store.set 0 g (Nat.lor (Store.get 0 s.pio.fuse g) v) s.pio.fuse } }

/-- PIO_FUSE_CMD: bits are ORed into a pin's fuse field; the field acts from the next reset of level 0 or 1 (R459). -/
def pioFuseCmd (rq : Requester) (pin value : Nat) (s : State) : State :=
  let g := min pin 95
  let w := pin + 256 * value
  if !(procOrM rq s) then pioDeny rq .PIO_FUSE_CMD w s
  else if s.gf F.GLB_LCS_STATE 0 ≤ 1 ∧ !(s.flag F.PIO_STAT_BUSY 0) then
    let s := (s.sf F.PIO_STAT_CMDST 0 0).sf F.PIO_STAT_BUSY 0 1
    okResp 0 { s with pio := { s.pio with pulse := some (g, value % 4) } }
  else logRefused rq .PIO_FUSE_CMD 0 w (okResp 0 (s.sf F.PIO_STAT_CMDST 0 0x20))

/-- BANK_SUPPLY_CHANGE: a bank's supply crosses 0.9 V (R451). -/
def bankSupply (b : Nat) (good v12 : Bool) (s : State) : State :=
  (s.sflag ⟨.PIO_BANK_STAT, b, 1⟩ 0 good).sflag ⟨.PIO_BANK_STAT, 4 + b, 1⟩ 0 (good && v12)

/-- JTAG_INSTRUCTION: an instruction is loaded (R462). -/
def jtagInstruction (ir : Nat) (s : State) : State := { s with pio := { s.pio with jtag := ir } }

/-- The operation in effect: EXTEST, EXTEST_PULSE, EXTEST_TRAIN and HIGHZ only while RESET_N is low, other codes BYPASS (R462). -/
def jtagOp (resetLow : Bool) (s : State) : Nat :=
  match s.pio.jtag with
  | 0x01 => 0x01
  | 0x02 => 0x02
  | 0x00 => if resetLow then 0x00 else 0xFF
  | 0x04 => if resetLow then 0x04 else 0xFF
  | 0x05 => if resetLow then 0x05 else 0xFF
  | 0x06 => if resetLow then 0x06 else 0xFF
  | _ => 0xFF

end Machine
end Sys2Proof
end

