-- ==== Sys2Proof/Machine/Tempo.lean ====
section
/-! DEFINITION. Tempo: ticks, the early-tempo policy, tempo inputs, generators, TEMPO_OUT, bell starts (R66-R75, R88, R89, R279). -/
namespace Sys2Proof
namespace Machine

/-! ### Bell debt -/

/-- Bell debt as it stands in PART_TEMPO_STAT. -/
def setDebts (p : Nat) (l : List (Nat × Bool)) (s : State) : State :=
  (s.modPart p fun r => { r with debts := l }).sf F.PART_TEMPO_STAT_DEBT p l.length

/-- Bell debt is discarded and its ticks counted (R75). -/
def discardDebt (p : Nat) (s : State) : State :=
  let n := (s.part p).debts.length
  setDebts p [] (if n = 0 then s else s.bump F.PART_TEMPO_EARLY_COUNT p n)

/-! ### Ticks -/

/-- Number of the bell that the next tick to start a bell would start (R279). -/
def tickBell (p : Nat) (s : State) : Nat :=
  let r := s.part p
  ((if r.bell0 then 0 else r.bell + 1) + b2n r.tick.isSome + r.debts.length) % 2 ^ 48

/-- TEMPO blocks on the chain ports of the chain lead, with the number of the bell the tick starts (R279). -/
def leadTempo (p n : Nat) (s : State) : State :=
  if s.flag F.PART_FRZ_CHAIN_CHAIN_LEAD p then forEach (s.chainPorts p) (fun i t => sendBlock (2 * i + 1) 0x66 (256 * n) t) s else s

/-- The current bell has reached gap 6, or the partition waits for tempo (R68). -/
def bellOpen (p : Nat) (s : State) : Bool :=
  let st := s.curStep p
  s.flag F.PART_STATE_WAITING p || (st.2 && (decide (6 < st.1) || (decide (st.1 = 6) && !(s.part p).fresh)))

/-- The 0x09 fault of a discarded tick (Table CON-8). -/
def tempoFault (p : Nat) (s : State) : State :=
  let cs := s.curStep p
  raiseFault p { code := 9
                 locA := s.gf F.PART_TEMPO_SRC p + 16 * s.gf F.PART_TEMPO_SEL p + 256 * s.gf F.PART_TEMPO_POLICY p
                 locB := s.gf F.PART_TEMPO_STAT_DEBT p, locC := s.gf F.PART_TEMPO_STAT_LAG p, corrupt := false } cs.2 cs.1 s

/-- EARLY_TICK: the early-tempo policy (R74). `bad`: its TEMPO named another bell. -/
def earlyTick (p : Nat) (bad : Bool) (s : State) : State :=
  let s := s.bump F.PART_TEMPO_EARLY_COUNT p 1
  match s.gf F.PART_TEMPO_POLICY p with
  | 0 =>
    let l := (s.part p).debts
    if l.length < 4 then setDebts p (l ++ [(s.scc, bad)]) (leadTempo p (tickBell p s) s) else tempoFault p s
  | 1 => s
  | _ => tempoFault p s

/-- TEMPO_TICK: a tick recognised by partition `p` at this step clock is in time, early or ignored (R68). -/
def takeTick (p : Nat) (bad : Bool) (s : State) : State :=
  if s.flag F.TRC_REPLAY_STAT_ACTIVE p || !(s.live p) then s
  else
    let r := s.part p
    if s.pst p = stRunning ∧ r.debts = [] ∧ r.tick = none ∧ bellOpen p s then
      (leadTempo p (tickBell p s) s).setPart p { r with tick := some s.scc, corruptNext := r.corruptNext || bad }
    else earlyTick p bad s

/-- The partitions whose PART_TEMPO names a source. -/
def tempoUsers (src sel : Nat) (s : State) : List Nat :=
  (List.range 16).filter fun p => s.gf F.PART_TEMPO_SRC p = src ∧ s.gf F.PART_TEMPO_SEL p = sel

/-! ### TEMPO_OUT (R73) -/

/-- A rise of TEMPO_OUT at SCC `t`. -/
def toutRise (t : Nat) (s : State) : State := toutAt { s with tmp := { s.tmp with rises := s.tmp.rises ++ [t] } }

/-- A source of TEMPO_OUT ticks: the output rises 6 step clocks later. -/
def toutTick (src sel : Nat) (s : State) : State :=
  if s.gf F.PART_TOUT_CFG_SRC 0 = src ∧ s.gf F.PART_TOUT_CFG_SEL 0 = sel then toutRise (s.scc + 6) s else s

/-- TEMPO_OUT goes low ahead of a bell start of its partition one step clock away. -/
def toutAhead (p : Nat) (s : State) : State :=
  if s.gf F.PART_TOUT_CFG_SRC 0 = 1 ∧ s.gf F.PART_TOUT_CFG_SEL 0 = p then { s with tmp := { s.tmp with out := false } } else s

/-- TEMPO_OUT_FALL: the output goes low WIDTH step clocks after its rise. -/
def tempoOutFall (s : State) : State := if s.tmp.out then advanceTo s.tmp.fall s else s

/-! ### Tempo inputs (R71) -/

/-- A recognised edge of input `i` reaches partition `p`: the divider takes the first and every (DIV + 1)th. -/
def dividedTick (p : Nat) (s : State) : State :=
  if !(s.live p) then s
  else
    let r := s.part p
    if r.div = 0 then takeTick p false (s.setPart p { r with div := s.gf F.PART_TEMPO_DIV p })
    else s.setPart p { r with div := r.div - 1 }

/-- TEMPO_INPUT_EDGE: an edge at TEMPO_IN_i, at the step-clock edge nearest to it. -/
def tempoInputEdge (i : Nat) (rising : Bool) (s : State) : State :=
  let k := 2 * i + b2n (!rising)
  let last := Store.get 0 s.tmp.last k
  if !(s.flag F.PART_TIN_CFG_EN i) then s
  else if last ≠ 0 ∧ s.scc + 1 - last < s.gf F.PART_TIN_CFG_HOLDOFF i then s
  else
    let s := { s with tmp := { s.tmp with last := Store.set 0 k (s.scc + 1) s.tmp.last } }
    let follow := decide (s.gf F.PART_TIN_CFG_EDGE i = b2n (!rising))
    let s := if follow then s.bumpWrap F.PART_TIN_COUNT_COUNT i else s
    let s := forEach ((tempoUsers 1 i s).filter fun p => s.gf F.PART_TEMPO_EDGE p = b2n (!rising)) (fun p t => dividedTick p t) s
    if follow then toutTick 3 i s else s

/-! ### Generators (R72) -/

/-- Device time in 2^-16 ns. -/
def timeFrac16 (s : State) : Nat := (s.tim.sec * 1000000000 + s.tim.ns) * 65536 + s.tim.frac / 65536

/-- S and P of generator `g` in 2^-16 ns. -/
def genStart (g : Nat) (s : State) : Nat :=
  ((s.gf F.PART_GEN_START_SEC_LO_SEC g + 2 ^ 32 * s.gf F.PART_GEN_START_SEC_HI_SEC g) * 1000000000 + s.gf F.PART_GEN_START_NS_NS g) * 65536
def genPeriod (g : Nat) (s : State) : Nat := s.gf F.PART_GEN_PERIOD_NS_NS g * 65536 + s.gf F.PART_GEN_PERIOD_FRAC_FRAC g

/-- The smallest k whose time has not passed, or with `after` lies after the present. -/
def genNext (g : Nat) (after : Bool) (s : State) : Nat :=
  let now := timeFrac16 s + b2n after
  let p := genPeriod g s
  if now ≤ genStart g s ∨ p = 0 then 0 else (now - genStart g s + p - 1) / p

def setGen (g k : Nat) (s : State) : State := { s with tmp := { s.tmp with gen := Store.set 0 g k s.tmp.gen } }

/-- GEN_CTL_WRITE: EN = 1 starts a stopped generator afresh, EN = 0 stops it. -/
def genCtlWrite (rq : Requester) (g v : Nat) (s : State) : State :=
  if !(adminOk rq s) then denyWrite rq .PART_GEN_CTL g v s
  else
    let s := okResp 0 s
    if v % 2 = 1 then
      if s.flag F.PART_GEN_CTL_EN g then s
      else setGen g (genNext g false s) ((s.sf F.PART_GEN_CTL_EN g 1).sf F.PART_GEN_CTL_ACTIVE g 0)
    else (s.sf F.PART_GEN_CTL_EN g 0).sf F.PART_GEN_CTL_ACTIVE g 0

/-- GENERATOR_TICK: device time has reached S + k P. -/
def generatorTick (g : Nat) (s : State) : State :=
  let k := Store.get 0 s.tmp.gen g
  if !(s.flag F.PART_GEN_CTL_EN g) || decide (timeFrac16 s < genStart g s + k * genPeriod g s) then s
  else
    let s := (setGen g (k + 1) s).sf F.PART_GEN_CTL_ACTIVE g 1
    toutTick 2 g (forEach (tempoUsers 2 g s) (fun p t => takeTick p false t) s)

/-- After a step of device time the generators go on with the first k after the present. -/
def genRestep (s : State) : State :=
  forUpTo 4 (fun g t => if t.flag F.PART_GEN_CTL_EN g then setGen g (genNext g true t) t else t) s

/-! ### Chain tempo (R279) -/

/-- CHAIN_TEMPO: a TEMPO block on port `i` is a tick of the partition whose source it is, and goes on to the other chain
ports. -/
def chainTempo (i bell : Nat) (s : State) : State :=
  match s.portOwner i with
  | 0 => s
  | p + 1 =>
    if !(s.live p) || s.flag F.TRC_REPLAY_STAT_ACTIVE p || !(s.flag F.PART_LAT_PORT_CTL_CHAIN (8 * p + i))
      || decide (s.gf F.PART_TEMPO_SRC p ≠ 3) || decide (s.gf F.PART_TEMPO_SEL p ≠ i) then s
    else
      let bad := decide (bell ≠ tickBell p s)
      let before := ((s.part p).tick, (s.part p).debts)
      let s := takeTick p bad s
      let s := if bad && before != ((s.part p).tick, (s.part p).debts) then s.sf F.XOT_CH_STAT_DESYNC i 1 else s
      forEach ((s.chainPorts p).filter (· ≠ i)) (fun j t => sendBlock (2 * j + 1) 0x66 (256 * bell) t) s

/-! ### Bell start -/

/-- What starts the next bell: SCC of its step 0, LAG, whether it is marked corrupt as it begins. None while the partition waits. -/
def bellCause (p : Nat) (s : State) : Option (Nat × Nat × Bool) :=
  let r := s.part p
  let base := nextScc p s
  if s.flag F.TRC_REPLAY_STAT_ACTIVE p then
    if s.flag F.TRC_PCFG_LOSSLESS p && (decide (tbufHeld 0 s ≠ 0) || decide (tbufHeld 1 s ≠ 0)) then none else some (base, 0, false)
  else match r.tick, r.debts with
    | some t, _ => some (max base (t + 6), max base (t + 6) - (t + 6), r.corruptNext)
    | none, (t, bad) :: _ => some (base, base - (t + 6), bad || r.corruptNext)
    | none, [] => none

/-- BELL_NUM advances and BELL_STAMP records device time (R88, R89). -/
def bellNumber (p : Nat) (s : State) : State :=
  let r := s.part p
  let n := if r.bell0 then 0 else (r.bell + 1) % 2 ^ 48
  let wrap := !r.bell0 && decide (r.bell + 1 = 2 ^ 48)
  let s := s.setPart p { r with bell := n, bell0 := false, stampSec := s.tim.sec, stampNs := s.tim.ns, stampFrac := s.tim.frac / 65536 }
  let s := (s.sf F.PART_BELL_NUM_LO_BELL p n).sf F.PART_BELL_NUM_HI_VALID p 1
  if wrap then s.sf F.PART_BELL_NUM_HI_WRAP p 1 else s

/-- The followers of the partition's classes begin a whole bell (R53). -/
def followBell (p : Nat) (s : State) : State :=
  let s := forEach (s.classes p) (fun n t =>
    if t.flag F.CLS_SUB_STATUS_FOLLOW n then
      let f := Store.get {} t.bp.follow n
      { t with bp := { t.bp with follow := Store.set {} n { f with wholeBell := !f.copying } t.bp.follow } }
    else t) s
  if s.flag F.PRC_CLS_SUB_STAT_FOLLOW 0 && (s.classes p).contains (s.gf F.PRC_CLS_SUB_STAT_CLASS 0) then
    { s with rel := { s.rel with clsRec := { s.rel.clsRec with wholeBell := !s.rel.clsRec.copying } } }
  else s

/-- BELL_START: step 0 of the next bell begins, 6 step clocks after its tick, directly from bell debt, or directly in replay
(R67, R69, R74, R220). Its step enable is the STEP that follows. -/
def bellStart (p : Nat) (s : State) : State :=
  if s.pst p ≠ stRunning ∨ !(s.flag F.PART_STATE_WAITING p) then s
  else match bellCause p s with
    | none => s
    | some (n, lag, bad) =>
      if (match (s.fz p).f with | some f => decide (f ≤ n) | none => false) then s
      else
        let s := advanceTo n s
        let r := s.part p
        let s := if r.tick = none then setDebts p (r.debts.drop 1) s else s
        let s := s.setPart p { s.part p with tick := none, corrupt := (s.part p).corrupt || bad, corruptNext := false, fresh := true }
        let s := (setStep p (0, false) (s.sf F.PART_STATE_WAITING p 0)).sf F.PART_TEMPO_STAT_LAG p (min lag 16777215)
        let s := bellNumber p s
        let s := if (s.part p).border then s else pinsOn p (s.modPart p fun r => { r with border := true, fence := false, clampSet := [], clampMap := [] })
        let s := { s with net := { s.net with seen := Store.clear (64 * p) (64 * p + 64) s.net.seen } }
        let s := followBell p s
        let s := if s.gf F.PART_TOUT_CFG_SRC 0 = 1 ∧ s.gf F.PART_TOUT_CFG_SEL 0 = p then toutRise n s else s
        traceBell p (bellEntry p s)

/-- TEMPO_STALL: no tick has been taken for STALL milliseconds while RUNNING (R70). -/
def tempoStall (p : Nat) (s : State) : State :=
  if s.pst p = stRunning ∧ s.gf F.PART_TEMPO_STALL p ≠ 0 then partEvent p 4 (s.sf F.PART_TEMPO_STAT_STALLED p 1) else s

end Machine
end Sys2Proof
end

