-- ==== Sys2Proof/Machine/Repair.lean ====
section
/-! DEFINITION. Repair copies: timetable and table words taken from the area of PRC_REPAIR (R405). -/
namespace Sys2Proof
namespace Machine

/-- First address of the repair area of partition `p`. -/
def repBase (p : Nat) (s : State) : Nat := granAddr (96 * s.gf F.PRC_REPAIR_STACK p + s.gf F.PRC_REPAIR_FIRST p)

/-- Position of logical class `n` and timetable address `a` in the repair copy of partition `p`: class index x d_img + step; and
N x d_img. -/
def repPos (p n a : Nat) (s : State) : Option (Nat × Nat) :=
  match (s.part p).repSlot with
  | none => none
  | some h =>
    let img := (s.part p).img h
    let off := if s.flag F.PART_STATE_DUAL p then 2048 * h else 0
    match img.res.classes.findIdx? (· == n) with
    | none => none
    | some i => if off ≤ a ∧ a < off + img.dImg then some (i * img.dImg + (a - off), img.res.classes.length * img.dImg) else none

/-- The copy's timetable word of BP role `k`; its export and memory entries. -/
def repWord (p n k a : Nat) (s : State) : Option Nat :=
  (repPos p n a s).map fun x => fromBytes (s.rbs (repBase p s + 8 * (512 * x.1 + k)) 8)
def repExport (p n a : Nat) (s : State) : Option Nat :=
  (repPos p n a s).map fun x =>
    ((List.range 64).map fun e => fromBytes (s.rbs (repBase p s + 4096 * x.2 + 128 * x.1 + 2 * e) 2) % 1024 * 1024 ^ e).sum
def repMem (p n a : Nat) (s : State) : Option Nat :=
  (repPos p n a s).map fun x => fromBytes (s.rbs (repBase p s + 4224 * x.2 + 12 * x.1) 12)

/-- A timetable word that reads as uncorrectable. -/
def ImemWord.bad (w : ImemWord) : Bool := decide (2 ≤ w.lo) || decide (2 ≤ w.hi)

/-- The uncorrectable words of physical BP `b` are rewritten from the copy of role `k` of class `n`, where it has them. -/
def repairBp (p n k b : Nat) (s : State) : State :=
  forEach ((Store.range (4096 * b) (4096 * b + 4096) s.bp.imem).filter fun e => e.2.bad) (fun e t =>
    match repWord p n k (e.1 % 4096) t with
    | some w => { t with bp := { t.bp with imem := Store.set {} e.1 { word := BitVec.ofNat 64 w } t.bp.imem } }
    | none => t) s

/-- The uncorrectable entries of the export and memory tables of physical class `f` are rewritten. -/
def repairTabs (p n f : Nat) (s : State) : State :=
  let bad : Store SchedEntry → List (Nat × SchedEntry) := fun m =>
    (Store.range (4096 * f) (4096 * f + 4096) m).filter fun e => decide (2 ≤ e.2.err)
  let s := forEach (bad s.bp.expTab) (fun e t => match repExport p n (e.1 % 4096) t with
    | some w => { t with bp := { t.bp with expTab := Store.set {} e.1 { bits := w } t.bp.expTab } }
    | none => t) s
  forEach (bad s.bp.memTab) (fun e t => match repMem p n (e.1 % 4096) t with
    | some w => { t with bp := { t.bp with memTab := Store.set {} e.1 { bits := w } t.bp.memTab } }
    | none => t) s

/-- TIMETABLE_REPAIR: the proctor rewrites the uncorrectable words of a partition's classes from its repair copy. -/
def repairPart (p : Nat) (s : State) : State :=
  if (s.part p).repSlot.isNone then s
  else
    let bad := s.bp.imem.filter fun e => e.2.bad
    forEach (s.classes p) (fun n t =>
      let t := forEach ((bad.map fun e => e.1 / 4096).eraseDups.filter fun b => b / 528 = t.phys n) (fun b u =>
        match (List.range 512).find? fun k => u.physBp n k = b % 528 with
        | some k => repairBp p n k b u
        | none => u) t
      repairTabs p n (t.phys n) t) s

end Machine
end Sys2Proof
end

