-- ==== Sys2Proof/Machine/Follow.lean ====
section
/-! DEFINITION. Units and their roles; substitution of a BP and of a class by following (R53-R57, R389-R396). -/
namespace Sys2Proof
namespace Machine

/-! ### Units (R389, R401) -/

def uEnrolled : Nat := 0
def uSubstitute : Nat := 1
def uDetention : Nat := 2
def uSelftest : Nat := 3
def uAbsent : Nat := 4

/-- A unit as it is after level 0: every unit in its identity role (R390, Table REL-1). -/
def unitDefault (kind u : Nat) : UnitRec :=
  match kind with
  | 0 => if u % 33 < 32 then { role := 32 * (u / 33) + u % 33 + 1 } else { state := uSubstitute }
  | 1 => if u % 528 < 512 then { role := u % 528 + 1 } else { state := uSubstitute }
  | 5 => {}
  | 7 => {}
  | 8 => {}
  | _ => { role := u + 1 }

/-- The locker's 896 unit records have room for the units `l` of kind and number, each one record where it is not as after level 0
(Table RCP-4). -/
def lockerRoom (l : List (Nat × Nat)) (s : State) : Bool :=
  decide (s.rel.units.length + (l.filter fun e => (Store.find s.rel.units (1048576 * e.1 + e.2)).isNone).length ≤ 896)

def unitKey (kind u : Nat) : Nat := 1048576 * kind + u

/-- The record of a unit. -/
def State.unit (s : State) (kind u : Nat) : UnitRec := Store.get (unitDefault kind u) s.rel.units (unitKey kind u)

/-- Change the record of a unit. -/
def State.modUnit (s : State) (kind u : Nat) (f : UnitRec → UnitRec) : State :=
  { s with rel := { s.rel with units := Store.set (unitDefault kind u) (unitKey kind u) (f (s.unit kind u)) s.rel.units } }

/-- A unit takes a role. -/
def unitTakes (kind u role : Nat) (s : State) : State := s.modUnit kind u fun r => { r with state := uEnrolled, role := role + 1 }

/-- A unit loses its role to detention, where the role is barred to it (R391, R399). -/
def unitDetained (kind u role : Nat) (s : State) : State :=
  s.modUnit kind u fun r => { r with state := uDetention, role := 0, banned := role + 1, passed := false }

/-! ### Spares of a class -/

/-- Spare slot `j` of class `n` holds a BP that is free to take a role. -/
def spareFreeBp (n j : Nat) (s : State) : Bool := decide ((s.unit 1 (528 * s.phys n + s.spareBp n j)).state = uSubstitute)

/-- CLS_SUB_STATUS.FREE brought up to date. -/
def spareCount (n : Nat) (s : State) : State :=
  s.sf F.CLS_SUB_STATUS_FREE n (((List.range 16).filter fun j => spareFreeBp n j s).length)

/-- Physical BP of physical class `pc` that holds role `k`. -/
def roleHolder (pc k : Nat) (s : State) : Nat :=
  ((List.range 528).find? fun b => (s.unit 1 (528 * pc + b)).role = k + 1).getD k

/-- A follow of a class with no steps to follow: it is copied whole (R56). -/
def copiesWhole (n : Nat) (s : State) : Bool :=
  match s.clsOwner n with
  | 0 => true
  | p + 1 => [stEmpty, stLoaded, stArmed, stHalted, stFenced].contains (s.pst p)

/-- Partition of a class, where it has one; 0 where not. -/
def clsPart (n : Nat) (s : State) : Nat := s.gf F.CLS_SEQ_STATUS_PART n

/-- A snapshot drain of the class's partition is in progress (R55). -/
def draining (n : Nat) (s : State) : Bool := decide (s.clsOwner n ≠ 0) && s.flag F.TRC_SNAP_STAT_DRAINING (clsPart n s)

/-- Timetable words of role `k` of class `n` from one physical BP to another: single-bit errors are corrected on the way (R53, step
1), and a bad word is taken from the repair copy where there is one (R405). -/
def copyWords (n k src dst : Nat) (s : State) : State :=
  let fix : Nat → Nat := fun e => if e = 1 then 0 else e
  let l := (Store.range (4096 * src) (4096 * src + 4096) s.bp.imem).map fun e => (e.1, { e.2 with lo := fix e.2.lo, hi := fix e.2.hi })
  let s := { s with bp := { s.bp with imem := l.foldl (fun m e => Store.set {} (e.1 - 4096 * src + 4096 * dst) e.2 m) (Store.clear (4096 * dst) (4096 * dst + 4096) s.bp.imem) } }
  match s.clsOwner n with
  | 0 => s
  | p + 1 => repairBp p n k dst s

/-- Slate entries `l` of BP `a` of physical class `ca` copied to BP `b` of `cb`. -/
def copyEntries (ca a cb b : Nat) (l : List Nat) (s : State) : State := forEach l (fun x t => putSlate cb b x (t.slateAt ca a x) t) s

/-- The entries that class `n`'s timetable never writes for role `k`: beyond the depth, and the IDLE steps (R53, step 3). -/
def sweepList (p n k : Nat) (s : State) : List Nat :=
  (List.range 4096).filter fun x =>
    !(decide (s.slotOff p ≤ x) && decide (x < s.slotOff p + s.dImg p)
      && decide (bitsAt (imemAt p n k (x - s.slotOff p) s).word.toNat 62 2 ≠ 3))

def State.follow (s : State) (n : Nat) : Follow := Store.get {} s.bp.follow n
def State.setFollow (s : State) (n : Nat) (f : Follow) : State := { s with bp := { s.bp with follow := Store.set {} n f s.bp.follow } }

/-- READY sets when one whole bell has been followed and the sweep has ended (R53, step 4). -/
def readyCheck (n : Nat) (s : State) : State :=
  let s := if s.flag F.CLS_SUB_STATUS_FOLLOW n && !(s.follow n).copying && (s.follow n).covered && (s.follow n).sweep.isEmpty
    then s.sf F.CLS_SUB_STATUS_READY n 1 else s
  if (s.clsFollower n).isSome && !s.rel.clsRec.copying && s.rel.clsRec.covered && s.rel.clsRec.sweep.isEmpty
    then s.sf F.PRC_CLS_SUB_STAT_READY 0 1 else s

/-! ### The commit -/

/-- SUB_COMMIT_APPLY of a BP: the mapping changes, the role's epoch advances, the old BP is fenced and detained (R53, R389). -/
def subApply (n : Nat) (s : State) : State :=
  let pc := s.phys n
  let k := s.gf F.CLS_SUB_STATUS_LBP n
  let j := s.gf F.CLS_SUB_STATUS_SPARE n
  let new := s.spareBp n j
  let old := s.physBp n k
  let s := bumpEpoch 1 (512 * n + k) (s.sf F.CLS_BP_MAP_PHYS (512 * n + k) new)
  let s := unitDetained 1 (528 * pc + old) k (unitTakes 1 (528 * pc + new) k s)
  let s := { s with bp := { s.bp with spare := Store.set (512 + j) (16 * pc + j) old s.bp.spare } }
  let s := ((s.sf F.CLS_SUB_STATUS_FOLLOW n 0).sf F.CLS_SUB_STATUS_READY n 0).sf F.CLS_SUB_STATUS_HELD n 0
  let s := spareCount n (s.setFollow n {})
  report 0 0x10 (if s.clsOwner n = 0 then 0xFF else clsPart n s) 1 (528 * pc + old) (512 * n + k) (k + 65536 * j) s

/-- The window of class `n` reaches another physical class: the mapping of its BPs, its spares, its counters (R58, R395). -/
def classWindow (n : Nat) (s : State) : State :=
  let s := forUpTo 512 (fun k t => t.sf F.CLS_BP_MAP_PHYS (512 * n + k) (roleHolder (t.phys n) k t)) s
  let s := ((s.resetReg .CLS_IMEM_CE n).resetReg .CLS_IMEM_UE n).resetReg .CLS_SLATE_PE n
  spareCount n ((s.resetReg .CLS_SUB_STATUS n).resetReg .CLS_SUB_CMD_STATUS n)

/-- Logical class `n` passes from its physical class to `f`: the mapping, the epoch, the units, the fence (R391, R395). -/
def classTakes (n f : Nat) (s : State) : State :=
  let pc := s.phys n
  let s := { s with bp := { s.bp with clsMap := Store.set (33 * (n / 32) + n % 32) n f s.bp.clsMap
                                      fenced := Store.set false f false (Store.set false pc true s.bp.fenced) } }
  classWindow n (unitDetained 0 pc n (unitTakes 0 f n (bumpEpoch 0 n s)))

/-- The `n` entries of unit `a` copied to unit `b` of a store. -/
def moveKeys {α : Type} (n a b : Nat) (m : Store α) : Store α := Store.copy (n * a) (n * b) n m m

/-- Export, import and return registers and chalk lines of a physical class copied to another. -/
def classState (a b : Nat) (r : BpState) : BpState :=
  { r with exp := moveKeys 64 a b r.exp, imp := moveKeys 64 a b r.imp, chalk := moveKeys 512 a b r.chalk, ret := moveKeys 1 a b r.ret }

/-- The follow of a class is over. -/
def clsFollowEnd (s : State) : State :=
  let s := ((s.sf F.PRC_CLS_SUB_STAT_FOLLOW 0 0).sf F.PRC_CLS_SUB_STAT_READY 0 0).sf F.PRC_CLS_SUB_STAT_HELD 0 0
  { s with rel := { s.rel with clsRec := {} } }

/-- Event 0x0011 for the class that held role `n`: path 0 by following, 1 immediate (Table REL-7). -/
def clsReport (n pc path : Nat) (s : State) : State := report 0 0x11 (if s.clsOwner n = 0 then 0xFF else clsPart n s) 0 pc n (n + 256 * path) s

/-- SUB_COMMIT_APPLY of a class: its export, import and return registers and its chalk lines go over, with the returns in
flight (R395). -/
def clsApply (s : State) : State :=
  let n := s.gf F.PRC_CLS_SUB_STAT_CLASS 0
  let f := s.rel.clsSub
  let pc := s.phys n
  let s := { s with bp := classState pc f s.bp, mem := { s.mem with ret := moveKeys 1 pc f s.mem.ret } }
  clsReport n pc 0 (clsFollowEnd (classTakes n f s))

/-- The held commits of a partition's classes that gap 0 sampled (R53, R65). -/
def subSample (p : Nat) (s : State) : State :=
  let s := forEach (s.classes p) (fun n t =>
    if t.flag F.CLS_SUB_STATUS_HELD n then t.setFollow n { t.follow n with sampled := true } else t) s
  if s.flag F.PRC_CLS_SUB_STAT_HELD 0 && (s.classes p).contains (s.gf F.PRC_CLS_SUB_STAT_CLASS 0) then
    { s with rel := { s.rel with clsRec := { s.rel.clsRec with sampled := true } } } else s

/-- Gap 11: the sampled commits take effect. -/
def subCommits (p : Nat) (s : State) : State :=
  let s := forEach (s.classes p) (fun n t => if t.flag F.CLS_SUB_STATUS_HELD n && (t.follow n).sampled then subApply n t else t) s
  if s.flag F.PRC_CLS_SUB_STAT_HELD 0 && s.rel.clsRec.sampled && (s.classes p).contains (s.gf F.PRC_CLS_SUB_STAT_CLASS 0) then clsApply s else s

/-! ### Following in the gap -/

/-- Gap 0 after the last entry has been followed: a whole bell is covered. -/
def followCovered (p : Nat) (s : State) : State :=
  let s := forEach (s.classes p) (fun n t => if (t.follow n).wholeBell then t.setFollow n { t.follow n with covered := true } else t) s
  let s := if s.rel.clsRec.wholeBell && (s.classes p).contains (s.gf F.PRC_CLS_SUB_STAT_CLASS 0) then
    { s with rel := { s.rel with clsRec := { s.rel.clsRec with covered := true } } } else s
  forEach (s.classes p) (fun n t => readyCheck n t) s

/-- SUBSTITUTION_SWEEP: 32 entries of each following BP in a gap step (R53). -/
def followSweep (p : Nat) (s : State) : State :=
  forEach (s.classes p) (fun n t =>
    let pc := t.phys n
    let t := if t.flag F.CLS_SUB_STATUS_FOLLOW n && !(t.follow n).copying then
        let f := t.follow n
        let t := copyEntries pc (t.physBp n (t.gf F.CLS_SUB_STATUS_LBP n)) pc (t.spareBp n (t.gf F.CLS_SUB_STATUS_SPARE n)) (f.sweep.take 32) t
        t.setFollow n { f with sweep := f.sweep.drop 32 }
      else t
    let t := match t.clsFollower n with
      | none => t
      | some g =>
        let f := t.rel.clsRec
        let t := forUpTo 512 (fun k u => copyEntries pc (u.physBp n k) g (roleHolder g k u) (f.sweep.take 32) u) t
        { t with rel := { t.rel with clsRec := { f with sweep := f.sweep.drop 32 } } }
    readyCheck n t) s

/-- A follow ends without a substitution: by CANCEL, or by the shadow copy of a CAPTURE (R55). -/
def followCancel (n : Nat) (s : State) : State :=
  let s := (((s.sf F.CLS_SUB_STATUS_FOLLOW n 0).sf F.CLS_SUB_STATUS_READY n 0).sf F.CLS_SUB_STATUS_HELD n 0).sf F.CLS_SUB_STATUS_CANCELLED n 1
  (s.sf F.CLS_SUB_CMD_STATUS_BUSY n 0).setFollow n {}
def clsFollowCancel (s : State) : State :=
  let s := (((s.sf F.PRC_CLS_SUB_STAT_FOLLOW 0 0).sf F.PRC_CLS_SUB_STAT_READY 0 0).sf F.PRC_CLS_SUB_STAT_HELD 0 0).sf F.PRC_CLS_SUB_STAT_CANCELLED 0 1
  { s with rel := { s.rel with clsRec := {} } }

/-- Every follow of a partition's classes ends (R55, R396). -/
def followsCancel (p : Nat) (s : State) : State :=
  let s := forEach (s.classes p) (fun n t => if t.flag F.CLS_SUB_STATUS_FOLLOW n then followCancel n t else t) s
  if s.flag F.PRC_CLS_SUB_STAT_FOLLOW 0 && (s.classes p).contains (s.gf F.PRC_CLS_SUB_STAT_CLASS 0) then clsFollowCancel s else s

/-! ### BP substitution commands (R57, Table BP-14) -/

/-- A write of CLS_SUB_CMD: only the active proctor's, and only where the table makes it legal. -/
def subCmd (rq : Requester) (n w : Nat) (legal : Bool) (f : State → State) (s : State) : State :=
  if !(isActiveProctor rq s) then (denyWrite rq .CLS_SUB_CMD n w s).sf F.CLS_SUB_CMD_STATUS_STATUS n 0x21
  else if legal then f (okResp 0 (s.sf F.CLS_SUB_CMD_STATUS_STATUS n 0))
  else logRefused rq .CLS_SUB_CMD n w (okResp 0 (s.sf F.CLS_SUB_CMD_STATUS_STATUS n 0x20))

/-- SUB_FOLLOW. A BP is never given the role in its BANNED, and a role at epoch 0xFFFE is not substituted again (R390, R399). -/
def subFollow (rq : Requester) (n k j : Nat) (s : State) : State :=
  let u := s.unit 1 (528 * s.phys n + s.spareBp n j)
  let ok := !(s.flag F.CLS_SUB_STATUS_FOLLOW n) && spareFreeBp n j s && !(draining n s) && decide (u.banned ≠ k + 1)
    && decide (roleEpoch s 1 (512 * n + k) < 0xFFFE) && lockerRoom [(1, 528 * s.phys n + s.spareBp n j), (1, 528 * s.phys n + s.physBp n k)] s
  subCmd rq n (1 + 65536 * k + 33554432 * j) ok (fun s =>
    let s := (s.sf F.CLS_SUB_STATUS_FOLLOW n 1).sf F.CLS_SUB_STATUS_READY n 0
    let s := ((s.sf F.CLS_SUB_STATUS_HELD n 0).sf F.CLS_SUB_STATUS_LBP n k).sf F.CLS_SUB_STATUS_SPARE n j
    (s.sf F.CLS_SUB_CMD_STATUS_BUSY n 1).setFollow n { copying := true }) s

/-- SUB_COMMIT: held for the next bell gap, or applied at once where nothing steps (R53, R56). -/
def subCommit (rq : Requester) (n : Nat) (s : State) : State :=
  subCmd rq n 2 (s.flag F.CLS_SUB_STATUS_FOLLOW n && s.flag F.CLS_SUB_STATUS_READY n) (fun s =>
    let s := s.sf F.CLS_SUB_STATUS_HELD n 1
    if copiesWhole n s then subApply n s else s) s

/-- SUB_CANCEL. -/
def subCancel (rq : Requester) (n : Nat) (s : State) : State :=
  subCmd rq n 3 (s.flag F.CLS_SUB_STATUS_FOLLOW n || s.flag F.CLS_SUB_STATUS_HELD n) (followCancel n) s

/-! ### Class substitution commands (R395, R396) -/

/-- Substitute class of the die of class `n`: the lowest-numbered free one that is not barred from the role. -/
def freeClass (n : Nat) (s : State) : Option Nat :=
  ((List.range 33).map (33 * (n / 32) + ·)).find? fun f => (s.unit 0 f).state = uSubstitute ∧ (s.unit 0 f).banned ≠ n + 1

/-- A write of PRC_CLS_SUB_CMD. -/
def clsCmd (rq : Requester) (n cmd : Nat) (legal : Bool) (f : State → State) (s : State) : State :=
  let w := cmd + 65536 * n
  if !(isActiveProctor rq s) then (denyWrite rq .PRC_CLS_SUB_CMD 0 w s).sf F.PRC_CLS_SUB_STAT_CMDST 0 0x21
  else if legal then f (okResp 0 (s.sf F.PRC_CLS_SUB_STAT_CMDST 0 0))
  else logRefused rq .PRC_CLS_SUB_CMD 0 w (okResp 0 (s.sf F.PRC_CLS_SUB_STAT_CMDST 0 0x20))

/-- CLS_FOLLOW. One class follow at a time: PRC_CLS_SUB_STAT shows one. -/
def clsFollow (rq : Requester) (n : Nat) (s : State) : State :=
  let ok := !(s.flag F.PRC_CLS_SUB_STAT_FOLLOW 0) && (freeClass n s).isSome && !(draining n s) && !(s.flag F.CLS_SUB_STATUS_FOLLOW n)
    && decide (roleEpoch s 0 n < 0xFFFE) && lockerRoom [(0, (freeClass n s).getD 0), (0, s.phys n)] s
  clsCmd rq n 1 ok (fun s =>
    let s := ((s.sf F.PRC_CLS_SUB_STAT_FOLLOW 0 1).sf F.PRC_CLS_SUB_STAT_READY 0 0).sf F.PRC_CLS_SUB_STAT_HELD 0 0
    { (s.sf F.PRC_CLS_SUB_STAT_CLASS 0 n) with rel := { s.rel with clsSub := (freeClass n s).getD 0, clsRec := { copying := true } } }) s

/-- CLS_COMMIT of the class being followed. -/
def clsCommit (rq : Requester) (n : Nat) (s : State) : State :=
  clsCmd rq n 2 (s.flag F.PRC_CLS_SUB_STAT_FOLLOW 0 && s.flag F.PRC_CLS_SUB_STAT_READY 0) (fun s =>
    let s := s.sf F.PRC_CLS_SUB_STAT_HELD 0 1
    if copiesWhole (s.gf F.PRC_CLS_SUB_STAT_CLASS 0) s then clsApply s else s) s

/-- CLS_CANCEL. -/
def clsCancel (rq : Requester) (n : Nat) (s : State) : State :=
  clsCmd rq n 3 (s.flag F.PRC_CLS_SUB_STAT_FOLLOW 0 || s.flag F.PRC_CLS_SUB_STAT_HELD 0) clsFollowCancel s

/-- Copy the export and memory tables of physical class `pc` to physical class `f`. -/
def moveTabs (pc f : Nat) (s : State) : State :=
  { s with bp := { s.bp with expTab := moveKeys 4096 pc f s.bp.expTab, memTab := moveKeys 4096 pc f s.bp.memTab } }

/-- Copy the timetable words of each role of class `n` to physical class `f`. -/
def copyRoles (n f : Nat) (s : State) : State :=
  let pc := s.phys n
  forUpTo 512 (fun k t => copyWords n k (528 * pc + t.physBp n k) (528 * f + roleHolder f k t) t) s

/-- Copy a class's tables into physical class `f`: timetable words, export and memory tables; probe tables belong to the logical
class here (R393, R395). -/
def copyTables (n f : Nat) (s : State) : State :=
  let pc := s.phys n
  let s := moveTabs pc f (copyRoles n f s)
  match s.clsOwner n with
  | 0 => s
  | p + 1 => repairTabs p n f s

/-- FOLLOW_COPY_DONE: the copy of a BP follow of class `n`, or with `cls` of the class follow of it, ends and the spare follows;
where nothing steps the slates are copied too (R53, R56). -/
def followCopyDone (n : Nat) (cls : Bool) (s : State) : State :=
  let p := clsPart n s
  let pc := s.phys n
  let whole := copiesWhole n s
  if cls then
    match s.clsFollower n with
    | none => s
    | some f =>
      if !s.rel.clsRec.copying then s
      else
        let s := copyTables n f s
        let s := if whole then forUpTo 512 (fun k t => copyEntries pc (t.physBp n k) f (roleHolder f k t) (List.range 4096) t) s else s
        let sweep := if whole then [] else ((List.range 512).flatMap fun k => sweepList p n k s).eraseDups
        readyCheck n { s with rel := { s.rel with clsRec := { covered := whole, sweep := sweep } } }
  else if s.flag F.CLS_SUB_STATUS_FOLLOW n && (s.follow n).copying then
    let k := s.gf F.CLS_SUB_STATUS_LBP n
    let old := s.physBp n k
    let new := s.spareBp n (s.gf F.CLS_SUB_STATUS_SPARE n)
    let s := copyWords n k (528 * pc + old) (528 * pc + new) s
    let s := if whole then copyEntries pc old pc new (List.range 4096) s else s
    readyCheck n ((s.sf F.CLS_SUB_CMD_STATUS_BUSY n 0).setFollow n { covered := whole, sweep := if whole then [] else sweepList p n k s })
  else s

end Machine
end Sys2Proof
end

