-- ==== Sys2Proof/Machine/Snapshot.lean ====
section
/-! DEFINITION. Snapshots: taking one, draining it, restoring it, and the inputs of a replay (R208-R222). -/
namespace Sys2Proof
namespace Machine

/-- PART_CMD_STATUS.PENDING: the command that STATUS reports waits for a bell or a restore. -/
def pendingUpd (p : Nat) (s : State) : State :=
  s.sflag F.PART_CMD_STATUS_PENDING p (match s.gf F.PART_CMD_STATUS_CMD p with
    | 4 => s.flag F.PART_STATE_STOP_PEND p
    | 7 => s.flag F.PART_STATE_CAPTURE_PEND p
    | 8 => s.flag F.TRC_REPLAY_STAT_RESTORING p
    | 15 => s.flag F.PART_COMMIT_COMMIT p
    | _ => false)

/-! ### Slots -/

/-- Bytes of a snapshot slot (R211). -/
def snapSize (p : Nat) (s : State) : Nat := 65536 + (s.classes p).length * 528384

/-- TRC_SNAP_STAT.SLOTS brought up to date. -/
def slotsUpd (p : Nat) (s : State) : State := s.sf F.TRC_SNAP_STAT_SLOTS p (min 16 (areaSize p 0 s / snapSize p s))

/-- First byte of snapshot slot `k`. -/
def snapAddr (p k : Nat) (s : State) : Nat := areaBase p 0 s + k * snapSize p s

/-! ### Copies -/

/-- Copy the entries named by key pairs from one store into another, absent ones as absent. -/
def carry {α : Type} (l : List (Nat × Nat)) (a b : Store α) : Store α :=
  l.foldl (fun m e => match Store.find a e.1 with | some v => Store.put e.2 v m | none => Store.del e.2 m) b

def sameKeys (l : List Nat) : List (Nat × Nat) := l.map fun k => (k, k)
def flipKeys (l : List (Nat × Nat)) : List (Nat × Nat) := l.map fun e => (e.2, e.1)

/-- Physical and logical keys of the `w` registers of each class of a partition. -/
def clsKeys (p w : Nat) (s : State) : List (Nat × Nat) :=
  (s.classes p).flatMap fun n => (List.range w).map fun i => (w * s.phys n + i, w * n + i)

/-- Keys of hallImp, of the base output registers, of the crossings, of sinks and of sources that a partition owns. -/
def impKeys (p : Nat) (s : State) : List Nat := (s.classes p).flatMap fun n => (List.range 64).map (64 * n + ·)
def slotKeys (p : Nat) (s : State) : List Nat := [0, 1].flatMap fun b => (slotsOf p b s).map (8192 * b + ·)
def sinkKeys (p : Nat) (s : State) : List Nat := [0, 1].flatMap fun b => (sinksOf p b s).map (8192 * b + ·)
def srcKeys (p : Nat) (s : State) : List Nat :=
  s.net.ioOwn.filterMap fun e => if e.2 = p + 1 ∧ e.1 % 2 = 0 then some (e.1 / 2) else none
def outKeys (p : Nat) (s : State) : List Nat :=
  (segsOf p s).map (fun g => 32768 * (g / 16384) + g % 16384)
    ++ [0, 1].flatMap fun b => (slotsOf p b s).map (32768 * b + 0x4000 + ·) ++ (sinksOf p b s).map (32768 * b + 0x6000 + ·)

/-- The flight record of a partition (R210). -/
def takeFlight (p : Nat) (s : State) : Flight :=
  let c := (s.part p).count
  { chalk := carry (clsKeys p 512 s) s.bp.chalk [], exp := carry (clsKeys p 64 s) s.bp.exp [], imp := carry (clsKeys p 64 s) s.bp.imp []
    ret := carry (clsKeys p 1 s) s.bp.ret []
    pend := (carry (clsKeys p 1 s) s.mem.ret []).map fun e => (e.1, e.2.map fun r => { r with due := r.due - c })
    hallUp := carry (sameKeys (segsOf p s)) s.net.hallUp [], hallImp := carry (sameKeys (impKeys p s)) s.net.hallImp []
    baseIn := carry (sameKeys (segsOf p s)) s.net.baseIn [], baseOut := carry (sameKeys (outKeys p s)) s.net.baseOut []
    cross := carry (sameKeys (slotKeys p s)) s.net.cross [], portIn := carry (sameKeys (sinkKeys p s)) s.net.portIn []
    frame := carry (sameKeys (sinkKeys p s)) s.net.frame [], src := carry (sameKeys (srcKeys p s)) s.net.src [] }

/-- The registers of the array put back. -/
def putFlightBp (p : Nat) (f : Flight) (s : State) : State :=
  let c := (s.part p).count
  { s with
    bp := { s.bp with
      chalk := carry (flipKeys (clsKeys p 512 s)) f.chalk s.bp.chalk, exp := carry (flipKeys (clsKeys p 64 s)) f.exp s.bp.exp
      imp := carry (flipKeys (clsKeys p 64 s)) f.imp s.bp.imp, ret := carry (flipKeys (clsKeys p 1 s)) f.ret s.bp.ret }
    mem := { s.mem with
      ret := carry (flipKeys (clsKeys p 1 s)) (f.pend.map fun e => (e.1, e.2.map fun r => { r with due := r.due + c })) s.mem.ret } }

/-- The stages of the network put back. -/
def putFlightNet (p : Nat) (f : Flight) (s : State) : State :=
  { s with net := { s.net with
    hallUp := carry (sameKeys (segsOf p s)) f.hallUp s.net.hallUp, hallImp := carry (sameKeys (impKeys p s)) f.hallImp s.net.hallImp
    baseIn := carry (sameKeys (segsOf p s)) f.baseIn s.net.baseIn, baseOut := carry (sameKeys (outKeys p s)) f.baseOut s.net.baseOut
    cross := carry (sameKeys (slotKeys p s)) f.cross s.net.cross, portIn := carry (sameKeys (sinkKeys p s)) f.portIn s.net.portIn
    frame := carry (sameKeys (sinkKeys p s)) f.frame s.net.frame, src := carry (sameKeys (srcKeys p s)) f.src s.net.src } }

/-- The first entry and the number of entries of the slates that a snapshot holds (R210). -/
def snapHalf (p slot : Nat) (s : State) : Nat × Nat := if s.flag F.PART_STATE_DUAL p then (2048 * slot, 2048) else (0, 4096)

/-- SHADOW_COPY: every slate of the partition is copied into its shadow (R209). -/
def shadowCopy (p : Nat) (s : State) : State :=
  forEach (s.classes p) (fun n t =>
    let pc := t.phys n
    { t with bp := { t.bp with shadow := Store.copy (2162688 * pc) (2162688 * pc) 2162688 t.bp.slate t.bp.shadow
                               shadowX := Store.copy (2 * pc) (2 * pc) 2 t.bp.slateX t.bp.shadowX } }) s

/-- The step field of the journal at a snapshot point: gap 2, or the boundary after gap 11. -/
def pointStep (boundary : Bool) : Nat × Bool := if boundary then (11, true) else (2, true)

/-- The slot a CAPTURE uses (R212). -/
def captureSlot (p arg : Nat) (s : State) : Nat :=
  let n := s.gf F.TRC_SNAP_STAT_SLOTS p
  if bitAt arg 15 = 1 then min (arg % 16) (n - 1)
  else match newestOf (s.trec p) (validSlots p s) with
    | some j => if j + 1 ≥ n then 0 else j + 1
    | none => 0

/-- A CAPTURE is taken: the shadow copy, the flight record, the header's content; the drain starts (R209-R214). -/
def takeSnapshot (p : Nat) (boundary : Bool) (s : State) : State :=
  let k := captureSlot p (s.part p).capArg s
  let s := shadowCopy p (followsCancel p (dropSnap p k s))
  let r := s.trec p
  let z : Snap := { flight := takeFlight p s, order := r.orders + 1, bell := (s.part p).bell, boundary := boundary, slot := s.slot p
                    pass := passCovers p s && s.sealed p, cfg := (s.reg .PART_CFG p).toNat, tempo := (s.reg .PART_TEMPO p).toNat
                    action := (s.reg .PART_FAULT_ACTION p).toNat, layout := ((s.part p).img (s.slot p)).layout
                    ident := ((s.part p).img (s.slot p)).ident, undoPos := r.undoPos
                    inPos := if s.flag F.TRC_REPLAY_STAT_ACTIVE p then r.replayPos else r.inPos, slots := [s.slot p] }
  let s := s.modTrec p fun r => { r with snaps := Store.put k z r.snaps, orders := r.orders + 1, jset := [], drainDead := false }
  let s := ((s.sf F.TRC_SNAP_STAT_DRAINING p 1).sf F.TRC_SNAP_STAT_DSLOT p k).sf F.PART_STATE_CAPTURE_PEND p 0
  let i := 16 * p + k
  let s := (s.sf F.TRC_SNAP_BELL_LO_BELL i z.bell).sf F.TRC_SNAP_BELL_HI_BELL i (z.bell / 2 ^ 32)
  let s := (s.sflag F.TRC_SNAP_BELL_HI_POINT i boundary).sf F.TRC_SNAP_BELL_HI_SLOT i z.slot
  sourcesEntries p true (pointStep boundary) (pendingUpd p (snapStatus p s))

/-! ### The drain -/

/-- Code of a slate entry in a snapshot (R187): a parity failure is unknown (R51). -/
def slateCode (xm : Bool) (e : SlateEntry) : Nat :=
  if !e.good then (if xm then 2 else 0) else match e.tri with | .zero => 0 | .one => 1 | .x => 2

/-- The 1 KiB of one BP's slate (R211): entries of the half held, the others 0. -/
def slateBytes (xm : Bool) (first cnt : Nat) (f : Nat → SlateEntry) : List Nat :=
  (List.range 1024).map fun b =>
    ((List.range 4).map fun j =>
      let a := 4 * b + j
      (if first ≤ a ∧ a < first + cnt then slateCode xm (f a) else 0) * 4 ^ j).foldl (· + ·) 0

/-- The header of Table OBS-1. -/
def snapHeader (p : Nat) (z : Snap) (s : State) : List Nat :=
  let cls := s.classes p
  [0x44, 0x58, 0x53, 0x4E, 1, p, b2n z.boundary + 2 * z.slot + 4 * b2n (s.flag F.PART_STATE_DUAL p) + 8 * b2n z.pass, 0]
    ++ toBytes 6 z.bell ++ toBytes 2 cls.length ++ toBytes 32 (cls.foldl (fun m n => m + 2 ^ n) 0) ++ toBytes 8 z.layout
    ++ toBytes 4 z.cfg ++ toBytes 4 z.tempo ++ toBytes 4 z.action ++ toBytes 8 z.undoPos ++ toBytes 8 z.inPos

/-- Where the slate of BP `k` of the `i`th class of a snapshot stands. -/
def snapSlate (base i k : Nat) : Nat := base + 65536 + 528384 * i + 1024 * k

/-- Write the slot: header, then the slates from the shadow. -/
def drainBytes (p k : Nat) (s : State) : State :=
  let z := (s.trec p).snap k
  let base := snapAddr p k s
  let half := snapHalf p z.slot s
  let xm := decide (bitAt z.cfg 14 = 1)
  let s := s.wbs base ((snapHeader p z s) ++ List.replicate (4096 - 84) 0)
  let cls := s.classes p
  forUpTo cls.length (fun i t =>
    let n := cls.getD i 0
    forUpTo 512 (fun b t => t.wbs (snapSlate base i b) (slateBytes xm half.1 half.2 fun a => t.shadowAt (t.phys n) (t.physBp n b) a)) t) s

/-- DRAIN_DONE: the drain ends and the slot becomes VALID, unless the journals overran (R211, R217). A CAPTURE that waited in
HALTED is taken (R212). -/
def drainDone (p : Nat) (s : State) : State :=
  if !(s.flag F.TRC_SNAP_STAT_DRAINING p) then s
  else
    let k := s.gf F.TRC_SNAP_STAT_DSLOT p
    let s := if (s.trec p).drainDead then s else (drainBytes p k s).sf ⟨.TRC_SNAP_STAT, k, 1⟩ p 1
    let s := snapStatus p (s.sf F.TRC_SNAP_STAT_DRAINING p 0)
    if s.pst p = stHalted ∧ s.flag F.PART_STATE_CAPTURE_PEND p then takeSnapshot p true s else s

/-! ### Restoring (R219) -/

/-- Undo one entry: the 32 bytes of Table OBS-2. -/
def undoOne (e : List Nat) (s : State) : State :=
  let b : Nat → Nat := fun i => e.getD i 0
  let a := fromBytes ((e.drop 12).take 6)
  let x : Nat → Bool := fun i => decide (bitAt (b 8) i = 1) || decide (bitAt (b 11) i = 1)
  if inBB a then forUpTo 8 (fun i t => if bitAt (b 9) i = 1 then putByte (a + i) (b i) (x i) t else t) s
  else
    let fl := (s.rb (a + 8)).toNat
    let s := forUpTo 8 (fun i t => if bitAt (b 9) i = 1 then putByte (a + i) (b i) false t else t) s
    hbmReCheck a (putByte (a + 8) (mask8 fun i => if bitAt (b 9) i = 1 then x i else decide (bitAt fl i = 1)) false s)

/-- Unwind the undo journal from its newest entry back to a position, and truncate it there. -/
def unwind (p pos : Nat) (s : State) : State :=
  let top := (s.trec p).undoPos
  let s := (List.range (top - pos)).foldl (fun t i => undoOne (t.rbs (jrnAddr p 0 (top - 1 - i) t) 32) t) s
  s.modTrec p fun r => { r with undoPos := pos }

/-- Read the slates back from the slot. -/
def restoreSlates (p k : Nat) (s : State) : State :=
  let z := (s.trec p).snap k
  let base := snapAddr p k s
  let half := snapHalf p z.slot s
  let cls := s.classes p
  forUpTo cls.length (fun i t =>
    let n := cls.getD i 0
    forUpTo 512 (fun b t =>
      forUpTo half.2 (fun j t =>
        let a := half.1 + j
        let c := bitsAt (t.rb (snapSlate base i b + a / 4)).toNat (2 * (a % 4)) 2
        putSlate (t.phys n) (t.physBp n b) a (SlateEntry.ofTri (if c = 0 then .zero else if c = 1 then .one else .x)) t) t) t) s

/-! ### Inputs of a replay (R216, R220) -/

/-- The journal entry at a position. -/
def inEntry (p pos : Nat) (s : State) : List Nat := s.rbs (jrnAddr p 1 pos s) 32

/-- SOURCES drives the base input registers that the partition owns. -/
def replaySources (p : Nat) (e : List Nat) (s : State) : State :=
  let b := e.getD 1 0
  let g := fromBytes ((e.drop 4).take 2) - 0x300
  let v := fromBytes ((e.drop 8).take 4)
  let u := fromBytes ((e.drop 12).take 4)
  let src := (List.range 32).foldl (fun m i =>
    if s.ioOwner b (32 * g + i) 0 = p + 1 then
      Store.set .x (8192 * b + 32 * g + i) (if bitAt u i = 1 then .x else Tri.ofBool (bitAt v i = 1)) m
    else m) s.net.src
  { s with net := { s.net with src := src } }

/-- HOSTWR is written at its step; the undo journal records it afresh. -/
def replayHostwr (e : List Nat) (s : State) : State :=
  let a := fromBytes ((e.drop 16).take 6)
  let m := (e.drop 8).take 8
  hostStore a (e.getD 4 0) (e.getD 1 0) m (aliasBytes a (e.getD 1 0) m s) s

/-- The stored input entry at `pos` has been taken. -/
def replayTaken (p pos : Nat) (s : State) : State := s.modTrec p fun r => { r with replayPos := pos + 1 }

/-- Take entry `e` by its kind. -/
def replayKind (p pos : Nat) (e : List Nat) (late : Bool) (settings : List Nat → State → State) (s : State) : State :=
  match e.getD 0 0 with
  | 1 => s
  | 2 => replayTaken p pos (replaySources p e s)
  | 3 => replayTaken p pos (replayHostwr e s)
  | _ => if late then replayTaken p pos (settings e s) else s

/-- Take the entries of one step, in order, up to the next BELL; without `late`, up to the next SETTINGS, which `settings` applies. -/
def replayInputs (p : Nat) (st : Nat × Bool) (late : Bool) (settings : List Nat → State → State) (s : State) : State :=
  (List.range ((s.trec p).inPos - (s.trec p).replayPos)).foldl (fun t _ =>
    let pos := (t.trec p).replayPos
    let e := inEntry p pos t
    if pos ≥ (t.trec p).inPos ∨ fromBytes ((e.drop 2).take 2) ≠ jrnStep st then t else replayKind p pos e late settings t) s

/-- Take the BELL entry at the start of a bell. -/
def replayBell (p : Nat) (s : State) : State :=
  let r := s.trec p
  if r.replayPos < r.inPos ∧ (inEntry p r.replayPos s).getD 0 0 = 1 then s.modTrec p fun r => { r with replayPos := r.replayPos + 1 } else s

end Machine
end Sys2Proof
end

