-- ==== Sys2Proof/Machine/PartStep.lean ====
section
/-! DEFINITION. The steps of a partition: commits and the slot swap, timetable steps, gap steps, what arrives with a step (R61-R65, R82-R87,
R163, R219, R393). -/
namespace Sys2Proof
namespace Machine

/-! ### Settings and the slot swap -/

/-- DEPTH under R84. -/
def clampDepth (dual : Bool) (dImg d : Nat) : Nat := max dImg (min (if dual then 2048 else 4096) (d / 8 * 8))

/-- With X-mode off the array registers and the stages hold 0 where they would hold X (R42, R108). -/
def zeroStages (p : Nat) (s : State) : State :=
  let put : List (Nat × Nat) → Store Tri → Store Tri := fun l m => l.foldl (fun m e => Store.set .x e.1 .zero m) m
  let s := { s with bp := { s.bp with chalk := put (clsKeys p 512 s) s.bp.chalk, imp := put (clsKeys p 64 s) s.bp.imp
                                      exp := put (clsKeys p 64 s) s.bp.exp } }
  { s with net := { s.net with
    baseIn := put (sameKeys (segsOf p s)) s.net.baseIn, portIn := put (sameKeys (sinkKeys p s)) s.net.portIn
    frame := put (sameKeys (sinkKeys p s)) s.net.frame
    cross := (slotKeys p s).foldl (fun m k => Store.put k (List.replicate 33 .zero) m) s.net.cross } }

/-- Array registers and stages as for the first bell after START (R42, R46, R86, R108). Reads in flight are discarded. -/
def armStages (p : Nat) (s : State) : State :=
  let s := clearStages p s
  let s := forEach (s.classes p) (fun n t =>
    let k := t.phys n
    { t with bp := { t.bp with chalk := Store.clear (512 * k) (512 * k + 512) t.bp.chalk, ret := Store.del k t.bp.ret }
             mem := { t.mem with ret := Store.del k t.mem.ret } }) s
  let s := s.modPart p fun r => { r with hbmPend := [] }
  if s.xmode p then s else zeroStages p s

/-- Mailbox sources read X until the first presentation (R343). -/
def mbxUnknown (p : Nat) (s : State) : State := forEach (mbxOf p s) (fun g t => mbxPresent g 0 0xFFFFFFFF t) s

/-- SLOT_SWAP: the other slot and its tables are in force from step 0 of the next bell (R86, R87). -/
def swapSlot (p slot : Nat) (s : State) : State :=
  let s := bindAbort p s
  let s := (s.sf F.PART_STATE_SLOT p slot).sf F.PART_STATE_STBY_READY p 1
  let s := s.modTrec p fun r => { r with snaps := r.snaps.map fun e =>
    (e.1, if e.2.slots.contains slot then e.2 else { e.2 with slots := e.2.slots ++ [slot] }) }
  let s := forEach (s.vectorPorts p) (fun i t => t.modLk (2 * i + 1) fun r => { r with samp := [] }) s
  mbxUnknown p (bindClear p (armStages p s))

/-- The settings of a commit take effect (R82, R84, R86, R75). -/
def applySettings (p cfg tempo action : Nat) (s : State) : State :=
  let dual := s.flag F.PART_STATE_DUAL p
  let slot := if dual then bitAt cfg 13 else 0
  let swap := decide (slot ≠ s.slot p)
  let dImg := if swap then ((s.part p).img slot).dImg else s.dImg p
  let old := (s.reg .PART_TEMPO p).toNat
  let s := ((s.sf F.PART_CFG_DEPTH p (clampDepth dual dImg (bitsAt cfg 0 13))).sf F.PART_CFG_SLOT p slot).sf F.PART_CFG_XMODE p (bitAt cfg 14)
  let s := s.sf F.PART_CFG_IMG_DEPTH p dImg
  let s := (s.setReg .PART_TEMPO p (BitVec.ofNat 32 tempo)).setReg .PART_FAULT_ACTION p (BitVec.ofNat 32 action)
  let s := if swap then swapSlot p slot s else s
  if Nat.land (Nat.xor old tempo) 0x00FF0173 ≠ 0 then discardDebt p s else s

/-- A SETTINGS entry of the input journal takes effect. -/
def settingsReplay (p : Nat) (e : List Nat) (s : State) : State :=
  applySettings p (fromBytes ((e.drop 8).take 4)) (fromBytes ((e.drop 12).take 4)) (fromBytes ((e.drop 16).take 4)) s

/-- The result of a commit in PART_CMD_STATUS. -/
def commitStatus (p st : Nat) (s : State) : State :=
  let s := (s.sf F.PART_COMMIT_COMMIT p 0).sf F.PART_STATE_COMMIT_PEND p 0
  pendingUpd p ((s.sf F.PART_CMD_STATUS_STATUS p st).sf F.PART_CMD_STATUS_CMD p 15)

/-- A commit takes effect, or is refused as a whole (R82, R83, R220). -/
def applyCommit (p : Nat) (s : State) : State :=
  let s := s.modPart p fun r => { r with commitSampled := false }
  let trc : State → State := fun t => t.setReg .TRC_PCFG p (t.reg .TRC_PCFG_NEXT p)
  if s.flag F.TRC_REPLAY_STAT_ACTIVE p then commitStatus p 0 (trc s)
  else
    let slot := if s.flag F.PART_STATE_DUAL p then s.gf F.PART_CFG_NEXT_SLOT p else 0
    let badSlot := decide (slot ≠ s.slot p) && !(s.flag F.PART_STATE_STBY_READY p)
    let badSrc := decide (s.gf F.PART_TEMPO_NEXT_SRC p = 3) && !(s.chainPorts p).contains (s.gf F.PART_TEMPO_NEXT_SEL p)
    if badSlot || badSrc then commitStatus p 0x20 (logRefused (s.part p).commitRq .PART_COMMIT p 1 s)
    else
      let s := trc (applySettings p (s.reg .PART_CFG_NEXT p).toNat (s.reg .PART_TEMPO_NEXT p).toNat (s.reg .PART_FAULT_ACTION_NEXT p).toNat s)
      commitStatus p 0 (settingsEntry p s)

/-! ### Halting -/

/-- HALT_ENTRY: the partition enters HALTED and discards bell debt (R64, R75, R76). -/
def haltEnter (p : Nat) (s : State) : State :=
  let s := ((s.sf F.PART_STATE_STATE p stHalted).sf F.PART_STATE_STOP_PEND p 0).sf F.PART_STATE_WAITING p 0
  let s := s.modPart p fun r => { r with haltSampled := false, tick := none }
  let s := frzStatus p (s.setFz p { s.fz p with f := none })
  partEvent p 0 (pendingUpd p (discardDebt p s))

/-! ### What arrives with a step -/

/-- The fault requests due at a step count reach the bell controller and their actions apply (R163, R175). -/
def faultArrive (p c : Nat) (s : State) : State :=
  let now := (s.part p).travel.filter fun q => decide (q.due ≤ c)
  let s := s.modPart p fun r => { r with travel := r.travel.filter fun q => !decide (q.due ≤ c) }
  forEach now (fun q t => match q.action with
    | 0 => t.sf F.PART_STATE_STOP_PEND p 1
    | 1 => raiseLead p 9 0 t
    | _ => t) s

/-- Every design trigger due at a step count. -/
def triggersArrive (p c : Nat) (s : State) : State := (List.range (s.trec p).trig.length).foldl (fun t _ => designTrigger p c t) s

/-- An event that comes with the next step enable, counted steps only: the effect `f` for that step's count. -/
def withNextStep (p : Nat) (f : Nat → State → State) (s : State) : State :=
  let st := nextStep p s
  if canStep p s && (st.2 || decide (st.1 < s.dImg p)) then f ((s.part p).count + 1) (advanceTo (nextScc p s) s) else s

/-- FAULT_REQUEST_ARRIVAL. -/
def faultRequestArrival (p : Nat) (s : State) : State := withNextStep p (faultArrive p) s

/-- DESIGN_TRIGGER as an event of its own. -/
def designTriggerEvent (p : Nat) (s : State) : State := withNextStep p (designTrigger p) s

/-- BINDING_PRESENT as an event of its own. -/
def bindingEvent (p : Nat) (s : State) : State := withNextStep p (bindingPresent p) s

/-- Linear position of the step in progress, hold steps counted (R118, R343). -/
def mbxLin (p : Nat) (s : State) : Nat := (s.part p).bell * bellLen p s + stepPos (s.curStep p) p s

/-- Begin a step: its index, its SCC, its count. -/
def beginStep (p : Nat) (st : Nat × Bool) (counted : Bool) (s : State) : State :=
  let s := setStep p st s
  s.modPart p fun r => { r with fresh := false, lastScc := some s.scc, allCount := r.allCount + 1, count := r.count + b2n counted }

/-- The inputs presented at a step: live, or from the input journal in replay (R216, R220, R245, R275, R286, R343). -/
def presentInputs (p : Nat) (st : Nat × Bool) (s : State) : State :=
  if s.flag F.TRC_REPLAY_STAT_ACTIVE p then
    let s := if st = (0, false) then replayBell p s else s
    replayInputs p st false (settingsReplay p) (bindingPresent p (s.part p).count s)
  else vecPresent p (chainPresent p (mbxPresents p (mbxLin p s) (bindingPresent p (s.part p).count s)))

/-- The mailbox decisions of a step: not in replay, where mailbox inputs are discarded. -/
def decideMailboxes (p : Nat) (st : Nat × Bool) (s : State) : State :=
  if s.flag F.TRC_REPLAY_STAT_ACTIVE p then s
  else mbxDecisions p (mbxLin p s) (decide (st = (0, false)) && decide ((s.part p).bell = 0)) s

/-- What arrives with a counted step, before anything acts on it. -/
def arrivals (p : Nat) (st : Nat × Bool) (s : State) : State :=
  let c := (s.part p).count
  let s := decideMailboxes p st (triggersArrive p c (faultArrive p c s))
  pinTake p (bindWindows p (s.stepCode p) (presentInputs p st s))

/-- Run an operation that answers a state and faults over a list, collecting the faults. -/
def collect {α : Type} (l : List α) (f : α → State → State × List StepFault) (s : State × List StepFault) : State × List StepFault :=
  l.foldl (fun a x => let r := f x a.1; (r.1, a.2 ++ r.2)) s

/-- What a partition sends beside its image's stages at a counted step: vector samples and launches, chain data; nothing in
replay (R220, R275, R284, R285). -/
def sendStep (p : Nat) (old s : State) : State :=
  if s.flag F.TRC_REPLAY_STAT_ACTIVE p then s else chainSend p old (vecLaunch p old (vecSample p old s))

/-- SEQUENCER_CROSS_CHECK_FAIL of class `n`: it is fenced, the bell marked, a halt requested (R393, step 1). -/
def crossFail (p n : Nat) (s : State) : State :=
  if s.clsOwner n ≠ p + 1 ∨ s.clsFenced n then s
  else
    let s := { s with bp := { s.bp with fenced := Store.set false (s.phys n) true s.bp.fenced } }
    s.modPart p fun r => { r with corrupt := true, travel := r.travel ++ [{ due := r.count + s.lat p 8, code := 0, action := 0 }] }

/-! ### Timetable steps -/

/-- A timetable step below d_img, with the classes whose sequencer report fails the cross-check (R37, R93, R134, R169). -/
def activeStep (p t : Nat) (bad : List Nat) (s : State) : State :=
  let s := arrivals p (t, false) s
  let cls := s.classes p
  let s := forEach cls (fun n u => deliverRet p n u) s
  let old := s
  let segs := segsOf p old
  let s := forEach cls (fun n u => followStep p n t old u) s
  let a := collect cls (fun n u => classStep p n t old u) (s, [])
  let a := collect cls (fun n u => exportStep p t n u) a
  let reqs := (cls.filter fun n => !(old.clsFenced n)).map fun n => memPort p t n a.1
  let cmds := reqs.filterMap fun r => match r.1 with | .cmd c => some c | _ => none
  let m := memStep p cmds (t, false) a.1
  let a := (m.1, a.2 ++ reqs.flatMap (·.2) ++ m.2)
  let a := collect [()] (fun _ u => contention p segs u) a
  let a := collect [()] (fun _ u => netStep p t segs old u) a
  let s := sourcesEntries p false (t, false) (pinSample p t (traceStep p t a.1))
  let s := raiseFaults p a.2 false t (sendStep p old s)
  forEach bad (fun n u => crossFail p n u) s

/-- A HALLMON request counts as raised 16 step clocks before gap 0 of the first bell that reaches its gap at least 16 step clocks
after the takeover (Table FRZ-1). -/
def hallCheck (p t : Nat) (s : State) : State :=
  match Store.get 0 s.rel.hallAt p with
  | 0 => s
  | c + 1 =>
    let left := s.gf F.PART_CFG_DEPTH p - t
    if 16 < left ∨ s.scc + left < c + 16 then s
    else
      let s := { s with rel := { s.rel with hallAt := Store.del p s.rel.hallAt } }
      let b := s.leadBase p
      modCtl p b (fun x => { x with raised := x.raised ++ [{ raised := s.scc + left - 16, cause := 10, src := 0 }] }) s

/-- STEP: the next timetable or hold step of a RUNNING partition (R37, R62). At a hold step nothing is enabled. -/
def partStep (p : Nat) (bad : List Nat) (s : State) : State :=
  let st := nextStep p s
  if !(canStep p s) || st.2 then s
  else
    let s := hallCheck p st.1 (advanceTo (nextScc p s) s)
    if st.1 < s.dImg p then activeStep p st.1 bad (beginStep p st true s)
    else decideMailboxes p st (beginStep p st false s)

/-! ### Gap steps -/

/-- GAP_SAMPLE: gap 0 latches the corrupt mark and samples halts, CAPTURE and commits (R64, R65, R225). -/
def gapSample (p : Nat) (s : State) : State :=
  let r := s.part p
  let s := traceHalt p (s.sflag F.PART_STATE_CORRUPT p r.corrupt)
  let s := s.modPart p fun r => { r with
    corrupt := false, haltSampled := s.flag F.PART_STATE_STOP_PEND p
    capSampled := s.flag F.PART_STATE_CAPTURE_PEND p && !(s.flag F.TRC_SNAP_STAT_DRAINING p)
    commitSampled := s.flag F.PART_COMMIT_COMMIT p }
  subSample p s

/-- The bell at which a replay ends (R221). -/
def replayStop (p : Nat) (s : State) : Nat :=
  let e := (s.trec p).replayE
  let b := s.gf F.TRC_REPLAY_STOP_LO_BELL p + 2 ^ 32 * s.gf F.TRC_REPLAY_STOP_HI_BELL p
  if b = 0 ∨ b > e then e else b

/-- REPLAY_END: an end before E truncates the input journal; ACTIVE clears (R221). -/
def replayEnd (p : Nat) (s : State) : State :=
  let s := if (s.part p).bell < (s.trec p).replayE then s.modTrec p fun r => { r with inPos := r.replayPos } else s
  s.sf F.TRC_REPLAY_STAT_ACTIVE p 0

/-- Gap 11: sampled settings, swaps and substitution commits take effect, the proctor repairs timetable words (R405), replay ends, the partition halts, or it waits for tempo
(R64, R82, R221). -/
def gapEnd (p : Nat) (s : State) : State :=
  let s := if (s.part p).commitSampled then applyCommit p s else s
  let s := subCommits p s
  let s := if s.proctorUp then repairPart p s else s
  let replay := s.flag F.TRC_REPLAY_STAT_ACTIVE p
  let s := if replay then replayInputs p (11, true) true (settingsReplay p) s else s
  if (s.part p).rewinding then s
  else
    let ends := replay && decide (replayStop p s ≤ (s.part p).bell)
    let s := if ends then replayEnd p s else s
    if ends || (s.part p).haltSampled then haltEnter p s
    else
      let s := if (s.part p).debts.isEmpty then s else toutAhead p s
      s.sf F.PART_STATE_WAITING p 1

/-- Gap 6: the internal tick of FREE (Table BELL-1). -/
def freeTick (p : Nat) (s : State) : State := if s.gf F.PART_TEMPO_SRC p = 0 then takeTick p false s else s

/-- What the bell controller does at gap step `g` before the stages advance. -/
def gapDuties (p g : Nat) (old s : State) : State :=
  if g = 0 then
    let s := gapSample p s
    followCovered p (forEach (s.classes p) (fun n u => followStep p n (s.dImg p) old u) s)
  else if g = 2 then
    if (s.part p).capSampled then takeSnapshot p false (s.modPart p fun r => { r with capSampled := false }) else s
  else if 3 ≤ g ∧ g ≤ 10 then
    let s := followSweep p s
    if g = 6 then freeTick p s else s
  else s

/-- One gap step (R64, Sequence BELL-1). -/
def gapRun (p g : Nat) (s : State) : State :=
  let s := arrivals p (g, true) (beginStep p (g, true) true s)
  let s := gapDuties p g s s
  let s := forEach (s.classes p) (fun n u => deliverRet p n u) s
  let old := s
  let segs := segsOf p old
  let a := contention p segs s
  let a := collect [()] (fun _ u => netStep p (old.dImg p + g) segs old u) a
  let s := sendStep p old (sourcesEntries p false (g, true) a.1)
  let s := raiseFaults p a.2 true g s
  if g = 11 then gapEnd p s else s

/-- GAP_STEP: the next gap step of a RUNNING partition. -/
def gapStep (p : Nat) (s : State) : State :=
  let st := nextStep p s
  if !(canStep p s) || !st.2 then s else gapRun p st.1 (advanceTo (nextScc p s) s)

/-! ### The end of a rewind (R219) -/

/-- Steps 1 to 3: the undo journal unwound, slates and flight record back, settings and BELL_NUM from the snapshot. -/
def rewindRestore (p k : Nat) (s : State) : State :=
  let z := (s.trec p).snap k
  let s := unwind p z.undoPos s
  let s := (s.sf F.PART_STATE_SLOT p z.slot).setReg .PART_CFG p (BitVec.ofNat 32 z.cfg)
  let s := (s.setReg .PART_TEMPO p (BitVec.ofNat 32 z.tempo)).setReg .PART_FAULT_ACTION p (BitVec.ofNat 32 z.action)
  let s := putFlightNet p z.flight (putFlightBp p z.flight (restoreSlates p k s))
  let s := s.modPart p fun r => { r with bell := z.bell, bell0 := false, corrupt := false, travel := [], missed := [], absent := [], hbmPend := [] }
  let s := discardDebt p (s.sf F.PART_BELL_NUM_LO_BELL p z.bell)
  forEach ((validSlots p s).filter fun j => decide (z.order < ((s.trec p).snap j).order)) (fun j t => dropSnap p j t) s

/-- Step 4: gap steps 2 to 11 of the snapshot's bell as replay. -/
def rewindGap (p : Nat) (s : State) : State :=
  let s := s.modPart p fun r => { r with rewinding := true }
  let s := (List.range 10).foldl (fun t i => gapRun p (2 + i) (advanceTo (nextScc p t) t)) s
  s.modPart p fun r => { r with rewinding := false }

/-- REWIND_DONE: the restore is over and the partition is HALTED in replay (R219). -/
def rewindDone (p : Nat) (s : State) : State :=
  match (s.trec p).rewind with
  | none => s
  | some k =>
    let z := (s.trec p).snap k
    let s := rewindRestore p k s
    let s := s.modTrec p fun r => { r with rewind := none, replayPos := z.inPos, jset := [] }
    let s := s.sf F.TRC_REPLAY_STAT_ACTIVE p 1
    let s := if z.boundary then replayInputs p (11, true) true (settingsReplay p) (setStep p (11, true) s) else rewindGap p s
    let s := s.sf F.TRC_REPLAY_STAT_RESTORING p 0
    pendingUpd p ((s.sf F.PART_CMD_STATUS_STATUS p 0).sf F.PART_CMD_STATUS_CMD p 8)

/-! ### Resuming -/

/-- A partition that leaves FROZEN while it waits for tempo halts at once when a halt is pending: it is at a bell boundary. -/
def afterResume (p : Nat) (s : State) : State :=
  if s.pst p = stRunning ∧ s.flag F.PART_STATE_WAITING p ∧ s.flag F.PART_STATE_STOP_PEND p then haltEnter p s else s

/-- RESUME_POINT: the partition returns to RUNNING and the freeze step is the next to have its enable (R115). -/
def resumePointEvent (p : Nat) (s : State) : State := afterResume p (resumePoint p s)

/-- CHAIN_RESUME_DELAY_EXPIRY. -/
def chainResumeEvent (p : Nat) (s : State) : State := afterResume p (chainResumeExpiry p s)

end Machine
end Sys2Proof
end

