-- ==== Sys2Proof/Machine/Border.lean ====
section
/-! DEFINITION. What a partition holds, and its ways into and out of its resources: the grant, the fence, the return to EMPTY
(R76, R106, R141, R198, R204, R301). -/
namespace Sys2Proof
namespace Machine

/-! ### Ownership -/

/-- Give or take away a logical class. -/
def classOwn (p n : Nat) (own : Bool) (s : State) : State :=
  (s.sflag F.CLS_SEQ_STATUS_ASSIGNED n own).sf F.CLS_SEQ_STATUS_PART n (if own then p else 0)

/-- Give or take away segment group 8 x i + q. -/
def segOwn (p g : Nat) (own : Bool) (s : State) : State :=
  (s.sflag ⟨.NET_SW_VALID, g % 8, 1⟩ (g / 8) own).sf (F.NET_SW_OWN_OWN.nth (g % 8)) (g / 8) (if own then p else 0)

/-- Give or take away slot group 16 x k + q, East to West 8 higher. -/
def slotOwn (p g : Nat) (own : Bool) (s : State) : State :=
  let k := g / 16
  let q := g % 8
  let s := s.sflag ⟨.NET_BR_VALID, g % 16, 1⟩ k own
  if g % 16 < 8 then s.sf (F.NET_BR_OWN_WE_OWN.nth q) k (if own then p else 0) else s.sf (F.NET_BR_OWN_EW_OWN.nth q) k (if own then p else 0)

/-- Give or take away a base input source or output sink; a mailbox that passes on is emptied (R341). -/
def ioOwn (p k : Nat) (own : Bool) (s : State) : State :=
  let s := { s with net := { s.net with ioOwn := Store.set 0 k (if own then p + 1 else 0) s.net.ioOwn } }
  let i := k / 2 % 8192
  if k % 2 = 0 ∧ 0x1C00 ≤ i ∧ i % 32 = 0 then mbxEmpty (32 * (k / 2 / 8192) + (i - 0x1C00) / 32) s else s

/-- Give or take away a Xotil port. -/
def portOwn (p i : Nat) (own : Bool) (s : State) : State :=
  (s.sflag F.XOT_STAT_OWNED i own).sf F.XOT_STAT_OWNER i (if own then p else 0)

/-- Give a stopwatch input, whose open record ends with ABORTED, or take it away; a bound one becomes IDLE (R247). -/
def stwOwn (p i : Nat) (own : Bool) (s : State) : State :=
  let st := s.gf F.STW_IN_STAT_STATE i
  let s := (s.sflag F.STW_IN_STAT_OWNED i own).sf F.STW_IN_STAT_OWNER i (if own then p else 0)
  if own then
    if st = 2 then (closeRec i s.stw.tb true s).sf F.STW_IN_STAT_STATE i 1 else s
  else if st = inBound then (endBound i s).sf F.STW_IN_STAT_STATE i 1 else s

/-- Give a GPIO output, whose FUNC becomes PART (R456). -/
def pinOwn (p g : Nat) (s : State) : State :=
  ((s.sf F.PIO_PIN_CFG_FUNC g 1).sf F.PIO_PIN_CFG_OWNED g 1).sf F.PIO_PIN_CFG_OWNER g p

/-- Take away a GPIO output: it keeps PART and returns to its reset state (R79, R456). -/
def pinDrop (g : Nat) (s : State) : State :=
  let s := ((s.sf F.PIO_PIN_CFG_RELEASED g 0).sf F.PIO_PIN_CFG_OWNED g 0).sf F.PIO_PIN_CFG_OWNER g 0
  { s with pio := { s.pio with val := Store.del g s.pio.val, pend := s.pio.pend.filter fun e => e.1 != g } }

/-- What a partition holds beside memory. -/
def heldRes (p : Nat) (s : State) : Resources :=
  { classes := s.classes p
    segs := (List.range 512).filter fun g => s.segOwner (64 * g) = p + 1
    slots := (List.range 384).filter fun g => s.groupOwner (g % 16 / 8) (g / 16) (g % 8) = p + 1
    io := s.net.ioOwn.filterMap fun e => if e.2 = p + 1 then some e.1 else none
    ports := (List.range 8).filter fun i => s.portOwner i = p + 1
    stw := (List.range 64).filter fun i => s.inOwner i = p + 1
    gpio := (List.range 96).filter fun g => s.pinOwner g = p + 1 }

/-- Give a partition what `r` names. -/
def giveRes (p : Nat) (r : Resources) (s : State) : State :=
  let s := forEach r.classes (fun n t => classOwn p n true t) s
  let s := forEach r.segs (fun g t => segOwn p g true t) s
  let s := forEach r.slots (fun g t => slotOwn p g true t) s
  let s := forEach (r.io.filter fun k => Store.get 0 s.net.ioOwn k ≠ p + 1) (fun k t => ioOwn p k true t) s
  let s := forEach r.ports (fun i t => portOwn p i true t) s
  let s := forEach (r.stw.filter fun i => s.inOwner i ≠ p + 1) (fun i t => stwOwn p i true t) s
  forEach r.gpio (fun g t => pinOwn p g t) s

/-- Take away what a partition holds and `keep` does not name. -/
def dropRes (p : Nat) (keep : Resources) (s : State) : State :=
  let h := heldRes p s
  let s := forEach (h.classes.filter fun n => !keep.classes.contains n) (fun n t => classOwn p n false t) s
  let s := forEach (h.segs.filter fun n => !keep.segs.contains n) (fun n t => segOwn p n false t) s
  let s := forEach (h.slots.filter fun n => !keep.slots.contains n) (fun n t => slotOwn p n false t) s
  let s := forEach (h.io.filter fun n => !keep.io.contains n) (fun n t => ioOwn p n false t) s
  let s := forEach (h.ports.filter fun n => !keep.ports.contains n) (fun n t => portOwn p n false t) s
  let s := forEach (h.stw.filter fun n => !keep.stw.contains n) (fun n t => stwOwn p n false t) s
  forEach (h.gpio.filter fun n => !keep.gpio.contains n) (fun g t => pinDrop g t) s

/-! ### Memory -/

/-- Set partition `p`'s command budget on stack `k`. -/
def setBudget (p k v : Nat) (s : State) : State :=
  if p < 8 then s.sf (F.HBM_BUDGET_LO_BUDGET.nth p) k v else s.sf (F.HBM_BUDGET_HI_BUDGET.nth (p - 8)) k v

/-- The command budget of partition `p` on stack `k`. -/
def budgetOf (p k : Nat) (s : State) : Nat :=
  if p < 8 then s.gf (F.HBM_BUDGET_LO_BUDGET.nth p) k else s.gf (F.HBM_BUDGET_HI_BUDGET.nth (p - 8)) k

/-- Map image bank `i` (256 x base + bank) to physical bank `b` (R141). -/
def bankGive (p i b : Nat) (s : State) : State :=
  ((s.sf F.BBD_BANK_STATE b 1).sf F.BBD_BANK_OWNER b p).sf F.BBD_BANK_IBANK b (i % 256)

/-- Release a bank: it is zeroised before it is free. -/
def bankDrop (b : Nat) (s : State) : State :=
  (((marchAbort b s).sf F.BBD_BANK_STATE b 3).sf F.BBD_BANK_OWNER b 0).sf F.BBD_BANK_IBANK b 0

/-- Map image region 16 x stack + r to a run of granules, with the lowest descriptor free. -/
def regionGive (p i first count : Nat) (s : State) : State :=
  let k := i / 16
  match (List.range 16).find? fun d => !(s.flag F.HBM_REG_A_VALID (16 * k + d)) with
  | none => s
  | some d =>
    let s := ((s.sf F.HBM_REG_A_VALID (16 * k + d) 1).sf F.HBM_REG_A_OWNER (16 * k + d) p).sf F.HBM_REG_A_FIRST (16 * k + d) first
    let s := (s.sf F.HBM_REG_A_COUNT (16 * k + d) count).sf F.HBM_REG_A_IREG (16 * k + d) (i % 16)
    forEach (span (96 * k + first) count) (fun g t => { t with mem := { t.mem with granOwn := Store.set 0 g (p + 1) t.mem.granOwn } }) s

/-- Release the region of a descriptor: its granules are zeroised before they are free. -/
def regionDrop (d : Nat) (s : State) : State :=
  let g0 := 96 * (d / 16) + s.gf F.HBM_REG_A_FIRST d
  let s := forEach (span g0 (s.gf F.HBM_REG_A_COUNT d)) (fun g t => { t with mem := { t.mem with
    granOwn := Store.set 0 g 0 t.mem.granOwn, granZ := Store.set false g true t.mem.granZ } }) s
  s.setReg .HBM_REG_A d 0

/-- The physical banks and the descriptors of a partition, with the image bank (256 x base + bank) and region they serve. -/
def heldBanks (p : Nat) (s : State) : List (Nat × Nat) :=
  ((List.range 512).filter fun b => bankOwner b s = p + 1).map fun b => (256 * (b / 256) + s.gf F.BBD_BANK_IBANK b, b)
def heldRegions (p : Nat) (s : State) : List (Nat × Nat) :=
  ((List.range 64).filter fun d => s.flag F.HBM_REG_A_VALID d && decide (s.gf F.HBM_REG_A_OWNER d = p)).map
    fun d => (16 * (d / 16) + s.gf F.HBM_REG_A_IREG d, d)

/-! ### Zeroising timetables, tables and slates -/

/-- Timetable half of a key 4096 x n + address. -/
def halfIn (a half : Nat) : Bool := decide (a % 4096 / 2048 = half)

/-- Zeroise half `h` of the timetable memory, tables and slates of logical class `n`; slates only where `slates` says so. -/
def zeroClassHalf (n h : Nat) (slates : Bool) (s : State) : State :=
  let pc := s.phys n
  let big : Nat → Bool := fun a => !(decide (a / 2162688 = pc) && halfIn a h)
  let small : Nat → Bool := fun a => !(decide (a / 4096 = pc) && halfIn a h)
  let bp := { s.bp with imem := s.bp.imem.filter fun e => big e.1, expTab := s.bp.expTab.filter fun e => small e.1
                        memTab := s.bp.memTab.filter fun e => small e.1 }
  let bp := if slates then { bp with slate := bp.slate.filter fun e => big e.1, slateX := Store.set false (2 * pc + h) false bp.slateX } else bp
  { s with bp := bp }

/-- Hallway destination `d` of die `die`, base destination `d` of base `b`, belong to partition `p`. -/
def hallOwned (p die d : Nat) (s : State) : Bool :=
  decide ((if d < 2048 then s.clsOwner (32 * die + d / 64) else s.segOwner (4096 * die + (d - 4096))) = p + 1)
def baseOwned (p b d : Nat) (s : State) : Bool :=
  decide ((if d < 0x4000 then s.segOwner (16384 * b + d) else if d < 0x6000 then s.slotOwner b (d - 0x4000) else s.ioOwner b (d - 0x6000) 1) = p + 1)

/-- Zeroise the switch tables of slot `h` at the partition's destinations. -/
def zeroSwitches (p h : Nat) (s : State) : State :=
  let hall : Nat → Bool := fun e =>
    let ds := e / 8192 / 4200
    decide (ds % 2 = h) && hallOwned p (ds / 2) (e % 8192) s
  let base : Nat → Bool := fun e =>
    let bs := e / 32768 / 4200
    decide (bs % 2 = h) && baseOwned p (bs / 2) (e % 32768) s
  { s with net := { s.net with hallTab := s.net.hallTab.filter fun e => !hall e.1, baseTab := s.net.baseTab.filter fun e => !base e.1 } }

/-- Zeroise one timetable slot of a partition. -/
def zeroSlot (p h : Nat) (slates : Bool) (s : State) : State :=
  zeroSwitches p h (forEach (s.classes p) (fun n t => zeroClassHalf n h slates t) s)

/-! ### The fence (R204) -/

/-- The fence falls on a partition whose image has begun bell 0; open windows end and its mailboxes are emptied (R204, R341, Table
STW-8). -/
def fenceBorder (p : Nat) (s : State) : State :=
  let r := s.part p
  let img := r.img (s.slot p)
  let s := bindAbort p s
  let s := forEach (mbxOf p s) (fun g t => mbxEmpty g t) s
  if r.border then s.setPart p { r with border := false, fence := true, clampSet := img.clamps, clampMap := img.vecMap } else s

/-- The partition enters FENCED (R76, R116, R394). -/
def enterFenced (p : Nat) (s : State) : State :=
  let s := dropFreeze p (fenceBorder p s)
  let s := (((s.sf F.PART_STATE_STATE p stFenced).sf F.PART_STATE_WAITING p 0).sf F.PART_STATE_STOP_PEND p 0).sf F.PART_STATE_CAPTURE_PEND p 0
  let s := (s.sf F.PART_STATE_COMMIT_PEND p 0).sf F.PART_COMMIT_COMMIT p 0
  let s := (s.modPart p fun r => { r with arming := false }).sf F.PART_CMD_STATUS_BUSY p 0
  updLinks (partEvent p 1 (pendingUpd p s))

/-! ### The return to EMPTY -/

/-- Latencies, chain settings and budgets of a partition return to their reset values. -/
def clearLat (p : Nat) (s : State) : State :=
  let s := (s.resetReg .NET_PART_LAT p).setReg .PART_FRZ_CHAIN p 0
  let s := (s.sf F.BBD_PART_BB_LAT p 4).sf F.BBD_PART_HBM_LAT p 96
  let s := forUpTo 16 (fun c t => t.setReg .PART_LAT_DECL (16 * p + c) 0) s
  forUpTo 8 (fun i t => (t.setReg .PART_LAT_PORT (8 * p + i) 0).setReg .PART_LAT_PORT_CTL (8 * p + i) 0) s

/-- The repair-copy area of a partition is zeroised (R405). -/
def zeroRepair (p : Nat) (s : State) : State :=
  if !(s.flag F.PRC_REPAIR_EN p) then s
  else
    let g0 := 96 * s.gf F.PRC_REPAIR_STACK p + s.gf F.PRC_REPAIR_FIRST p
    { s with mem := (span g0 (s.gf F.PRC_REPAIR_COUNT p)).foldl (fun m g => m.refill (512 + g) 0) s.mem }

/-- PART_STATE as in EMPTY, and what the partition keeps beside its registers; the fault log stays (R174). -/
def clearPart (p : Nat) (s : State) : State :=
  let s := s.setReg .PART_STATE p 0
  let s := (s.sf F.PART_COMMIT_COMMIT p 0).sf F.PART_CMD_STATUS_BUSY p 0
  let r := s.part p
  let s := s.setPart p { recent := r.recent, recScc := r.recScc, recCnt := r.recCnt }
  let s := (s.sf F.TRC_SNAP_STAT_DRAINING p 0).setReg .TRC_REPLAY_STAT p 0
  { s with ld := { s.ld with autos := Store.del p s.ld.autos } }

/-- DONE_RELEASE: DRIVE follows the conditions of R182. -/
def doneUpd (s : State) : State :=
  let free := s.flag F.PART_LDR_DONE_BOOTED 0 && !(s.flag F.PART_LDR_DONE_FAIL 0) && !(s.flag F.PART_LDR_DONE_HOLD 0)
    && !(s.ld.ctx.any fun e => e.2.gate && decide (s.gf F.PART_LDR_STATUS_STATE e.1 = 1)) && s.ld.autos.all fun e => decide (2 ≤ e.2)
  s.sflag F.PART_LDR_DONE_DRIVE 0 !free

/-- The partition goes to EMPTY: everything it held is zeroised and released (R76, R78, R106, R141). -/
def toEmpty (p : Nat) (s : State) : State :=
  let s := followsCancel p (fenceBorder p s)
  let s := dropAllSnaps p s
  let s := zeroSlot p 1 true (zeroSlot p 0 true (discardDebt p s))
  let s := dropFreeze p (zeroRepair p (armStages p s))
  let s := clearLat p (releaseMemory p (dropRes p {} s))
  let s := s.modTrec p fun r => { r with rewind := none, drainDead := false, jset := [], trig := [] }
  doneUpd (updLinks (partEvent p 2 (slotsUpd p (pendingUpd p (clearPart p s)))))

end Machine
end Sys2Proof
end

