-- ==== Sys2Proof/Machine/Load.lean ====
section
/-! DEFINITION. The loader: contexts, phases and their checks, the grant, sections, completion and failure (R164-R168, R184-R206). -/
namespace Sys2Proof
namespace Machine

def State.ldc (s : State) (c : Nat) : LoadCtx := Store.get {} s.ld.ctx c
def State.setLdc (s : State) (c : Nat) (x : LoadCtx) : State := { s with ld := { s.ld with ctx := Store.set {} c x s.ld.ctx } }
def State.modLdc (s : State) (c : Nat) (f : LoadCtx → LoadCtx) : State := s.setLdc c (f (s.ldc c))

/-- Context `c` is RUNNING; its phase. -/
def ldRunning (c : Nat) (s : State) : Bool := decide (s.gf F.PART_LDR_STATUS_STATE c = 1)
def ldPhase (c : Nat) (s : State) : Nat := s.gf F.PART_LDR_STATUS_PHASE c

/-- The image as received so far, decrypted. -/
def ldPlain (x : LoadCtx) (s : State) : List Nat := plainBytes (Store.get 0 s.ld.keys (imgKey x.bytes)) x.bytes

/-- PARTITION_DESC, LAT_DESC and the resources of the load. -/
def ldDesc (x : LoadCtx) (s : State) : List Nat := sectBytes (ldPlain x s) 1
def ldLat (x : LoadCtx) (s : State) : List Nat := sectBytes (ldPlain x s) 2
def ldRes (x : LoadCtx) (s : State) : Resources := pdRes (ldDesc x s)

/-- A reset of level 2 or wider holds the fabric (R421). -/
def fabricHeld (s : State) : Bool := s.flag F.RST_PEND_ACTIVE 0 || s.rst.src.any fun e => decide (e.2.1 ≤ 2)

/-- Table BELL-4: LOAD is legal for partition `p`. A preserving march bars it (R154), and so does a reset of the fabric. -/
def loadLegal (p : Nat) (s : State) : Bool :=
  let st := s.pst p
  !(fabricHeld s) && (decide (st = stEmpty ∨ st = stLoaded ∨ st = stHalted)
    || (s.live p && s.flag F.PART_STATE_DUAL p && !(s.flag F.PART_STATE_STBY_LOADING p))) && !(marchOn p s)

/-! ### Commands of a context (R196, R197) -/

/-- The requester may write PART_LDR_CMD of context `c` for a partition and a source (R77, R196, R478). -/
def loaderOk (rq : Requester) (c p src : Nat) (s : State) : Bool :=
  partOk rq p s && (match rq with
    | .vf f => decide (src ≤ 1) && (!(ldRunning c s) || vfOwns f.val (s.ldc c).part s)
    | .core _ .supervisor => decide (src ≤ 1)
    | _ => true)

/-- The word a loader command is written with. -/
def ldWord (cmd src p : Nat) (keep gate : Bool) (port : Nat) : Nat := cmd + 4 * src + 16 * p + 256 * b2n keep + 512 * b2n gate + 1024 * port

/-- Begin a load in context `c`. -/
def loadBegin (c src p : Nat) (keep gate : Bool) (port : Nat) (boot : Option (Nat × Nat)) (s : State) : State :=
  let s := s.setLdc c { part := p, src := src, port := port, keep := keep, gate := gate, entry := boot.map Prod.fst, digest := boot.map Prod.snd }
  let s := ((s.sf F.PART_LDR_STATUS_CMDST c 0).sf F.PART_LDR_STATUS_STATE c 1).sf F.PART_LDR_STATUS_PHASE c 1
  doneUpd ({ s with ld := { s.ld with got := Store.set 0 c 0 s.ld.got } }.setReg .PART_LDR_BYTES_LO c 0)

/-- The active proctor's gated load through context 0 before the boot has finished serves the next image entry of the manifest (R181). -/
def bootEntry (rq : Requester) (c p : Nat) (gate : Bool) (s : State) : Option (Nat × Nat) :=
  match s.ld.boots with
  | (i, q, d) :: _ => if isActiveProctor rq s && decide (c = 0) && gate && decide (q = p) then some (i, d) else none
  | [] => none

/-- LOADER_START. -/
def loaderStart (rq : Requester) (c src p : Nat) (keep gate : Bool) (port : Nat) (s : State) : State :=
  let w := ldWord 1 src p keep gate port
  if !(loaderOk rq c p src s) then (denyWrite rq .PART_LDR_CMD c w s).sf F.PART_LDR_STATUS_CMDST c 0x21
  else
    let other := (List.range 4).any fun d => ldRunning d s && decide ((s.ldc d).part = p)
    let chain := decide (src ≠ 3) || (decide (s.lst (2 * port) = lsReady ∨ s.lst (2 * port) = lsActive) && decide (s.gf F.XOT_STAT_MODE port = 1))
    let keepOk := !keep || decide (s.pst p = stLoaded ∨ s.pst p = stHalted)
    if !(ldRunning c s) && loadLegal p s && !other && keepOk && chain then
      let b := bootEntry rq c p gate s
      loadBegin c src p keep gate port b (okResp 0 (if b.isSome then { s with ld := { s.ld with boots := s.ld.boots.drop 1 } } else s))
    else logRefused rq .PART_LDR_CMD c w (okResp 0 (s.sf F.PART_LDR_STATUS_CMDST c 0x20))

/-! ### The end of a load -/

/-- Zeroise what a failed load wrote and release its grant (R201). A standby load leaves the active slot's resources. -/
def loadZeroise (c : Nat) (s : State) : State :=
  let x := s.ldc c
  let p := x.part
  if x.standby then
    let h := 1 - s.slot p
    let s := zeroSlot p h true s
    let active := (s.part p).img (s.slot p)
    let s := forEach x.banks (fun e t => bankDrop e.2 t) s
    let mine := heldRegions p s
    let s := forEach (x.regions.filterMap fun e => (mine.find? fun m => m.1 == e.1).map Prod.snd) (fun d t => regionDrop d t) s
    let s := forUpTo 4 (fun k t => setBudget p k (active.res.budget.getD k 0) t) (dropRes p active.res s)
    (s.sf F.PART_STATE_STBY_LOADING p 0).sf F.PART_STATE_STBY_READY p 0
  else toEmpty p s

/-- A load ends (R201, R203): result, detail, report words, interrupt, DONE. -/
def loadEnd (c : Nat) (e : LoadEnd) (s : State) : State :=
  let x := s.ldc c
  let s := (s.sf F.PART_LDR_STATUS_RESULT c e.result).sf F.PART_LDR_STATUS_DETAIL c e.detail
  let s := (s.sf F.PART_LDR_STATUS_STATE c 0).sf F.PART_LDR_STATUS_PHASE c 0
  let s := ((s.sf F.PART_LDR_REPORT_A_VALUE c e.a).sf F.PART_LDR_REPORT_B_VALUE c e.b).sf F.PART_LDR_REPORT_C_VALUE c e.c
  let s := match x.entry with
    | none => s
    | some n => ((s.sf F.PART_LDR_BOOT_RES_RESULT x.part e.result).sf F.PART_LDR_BOOT_RES_DETAIL x.part e.detail).sf F.PART_LDR_BOOT_RES_ENTRY x.part n
  let s := if x.entry.isSome then s.sf F.PART_LDR_BOOT_RES_VALID x.part 1 else s
  let s := if e.result = 0 then s
    else
      let s := if x.gate then s.sf F.PART_LDR_DONE_FAIL 0 1 else s
      let s := if x.entered || x.entry.isSome then report 0 0x50 x.part 0xFF 0 0 (e.result + 256 * e.detail) s else s
      if x.entered then loadZeroise c s else s
  let s := s.setLdc c {}
  doneUpd (partEvent x.part 6 (raiseIrq (16 + c) s))

/-- Type of the section in progress at a position of the image. -/
def sectAtPos (bytes : List Nat) : Nat :=
  if bytes.length < 256 then 0
  else match (sects (bytes.take 256)).find? fun e => bytes.length < e.off + e.size with
    | some e => e.type
    | none => 0x0F

/-- A load ends with 0x10 TRUNCATED. -/
def loadTrunc (c detail : Nat) (s : State) : State :=
  let b := (s.ldc c).bytes
  loadEnd c { result := 0x10, detail := detail, a := b.length % 2 ^ 32, b := (if b.length < 24 then 0 else imgLength b % 2 ^ 32), c := sectAtPos b } s

/-- LOADER_CANCEL (R197, R206). -/
def loaderCancel (rq : Requester) (c : Nat) (s : State) : State :=
  let x := s.ldc c
  if !(loaderOk rq c x.part x.src s) then (denyWrite rq .PART_LDR_CMD c 2 s).sf F.PART_LDR_STATUS_CMDST c 0x21
  else if ldRunning c s then loadTrunc c 3 (okResp 0 (s.sf F.PART_LDR_STATUS_CMDST c 0))
  else logRefused rq .PART_LDR_CMD c 2 (okResp 0 (s.sf F.PART_LDR_STATUS_CMDST c 0x20))

/-- LOAD_TIMEOUT: no byte for TIMEOUT milliseconds (R202). -/
def loadTimeout (c : Nat) (s : State) : State :=
  if ldRunning c s && decide (ldPhase c s ≤ 3) then loadTrunc c 2 s else s

/-- The load of partition `p` that is in phases 3 to 5 ends with 0x10 and a detail (R206). -/
def loadsEnd (p detail : Nat) (s : State) : State :=
  forUpTo 4 (fun c t => if ldRunning c t && decide ((t.ldc c).part = p) && (t.ldc c).entered then loadTrunc c detail t else t) s

/-! ### Phase 1 -/

/-- An AUTH_FAIL of the header. -/
def authFail (detail type off key : Nat) : LoadEnd := { result := 0x12, detail := detail, a := type, b := off, c := key }

/-- The checks of phase 1, in order (R6, R184, R185, R190, R191). -/
def phaseHeader (c : Nat) (s : State) : Option LoadEnd :=
  let x := s.ldc c
  let h := x.bytes.take 256
  let a := leAt h 0 4
  let b := leAt h 4 4
  let wrong : Nat → LoadEnd := fun d => { result := 0x11, detail := d, a := a, b := b }
  let key := imgKey h
  let size := s.gf F.PART_LDR_SIZE_LO_SIZE c + 2 ^ 32 * s.gf F.PART_LDR_SIZE_HI_SIZE c
  if a ≠ 0x49545844 then some (wrong 1)
  else if h.getD 4 0 ≠ 1 then some (wrong 2)
  else if h.getD 6 0 ≠ 0xDA then some (wrong 3)
  else if h.getD 7 0 ≠ 9 then some (wrong 4)
  else if s.gf F.GLB_FEATURE_LEVEL_LEVEL 0 < h.getD 8 0 then
    some { result := 0x13, detail := 1, a := h.getD 8 0, b := s.gf F.GLB_FEATURE_LEVEL_LEVEL 0 }
  else if size ≠ 0 ∧ size < imgLength h then some { result := 0x10, detail := 1, a := x.bytes.length, b := imgLength h % 2 ^ 32 }
  else match headerFault h with
    | some o => some (authFail 5 0 o key)
    | none =>
      if key = 0xFF then
        if s.gf F.GLB_LCS_STATE 0 ≤ 1 ∧ !(imgEnc h) then none else some (authFail 4 0 11 key)
      else if key ≤ 5 ∧ s.gf (F.SEC_KEY_STATUS_SLOT.nth key) 0 = 1 then none
      else some (authFail 3 0 11 key)

/-! ### Phase 2: the grant (R141, R145, R168, R199, R341) -/

/-- Loads of other contexts whose grant stands and whose LOAD has not been written. -/
def otherGrants (c : Nat) (s : State) : List LoadCtx :=
  (s.ld.ctx.filter fun e => e.1 ≠ c && e.2.declared && !e.2.entered).map Prod.snd

/-- A need of unit kinds against what is free: the failure, with what was needed and what is available. -/
def needFree (kind : Nat) (need : List Nat) (free : Nat → Bool) (dom : Nat) : Option LoadEnd :=
  if need.all free then none
  else some { result := 0x15, detail := 1, a := kind, b := need.length, c := ((List.range dom).filter free).length }

/-- The granules of an area register with STACK, FIRST and COUNT. -/
def areaGrans (st fi co : Fld) (i : Nat) (s : State) : List Nat := span (96 * s.gf st i + s.gf fi i) (s.gf co i)

/-- Granules that a trace area, the stopwatch ring or a repair area holds (R208, R242, R405), and the boot bundle (R179). -/
def areasHeld (s : State) : List Nat :=
  (List.range 64).flatMap (fun i => areaGrans F.TRC_AREA_STACK F.TRC_AREA_FIRST F.TRC_AREA_COUNT i s)
    ++ areaGrans F.STW_RING_STACK F.STW_RING_FIRST F.STW_RING_COUNT 0 s
    ++ areaGrans F.DBG_FUN_CFG_STACK F.DBG_FUN_CFG_FIRST F.DBG_FUN_CFG_COUNT 0 s
    ++ ((List.range 16).filter fun p => s.flag F.PRC_REPAIR_EN p).flatMap
      (fun p => areaGrans F.PRC_REPAIR_STACK F.PRC_REPAIR_FIRST F.PRC_REPAIR_COUNT p s)
    ++ (if s.flag F.PART_LDR_DONE_BOOTED 0 then [] else List.range ((s.ld.push + granSize - 1) / granSize))

/-- A granule is free for the load of context `c`; granules of the partition are, where the load replaces it (R198). -/
def granFree (c : Nat) (repl : Bool) (g : Nat) (s : State) : Bool :=
  let o := granOwner g s
  decide (g % 96 < 95) && (decide (o = 0) || (repl && decide (o = (s.ldc c).part + 1))) && !(Store.get false s.mem.granZ g)
    && !((areasHeld s).contains g)
    && !((otherGrants c s).any fun x => x.regions.any fun e => decide (96 * (e.1 / 16) + e.2.1 ≤ g ∧ g < 96 * (e.1 / 16) + e.2.1 + e.2.2))

/-- A bank is free for the load of context `c`. -/
def bankFree (c : Nat) (repl : Bool) (b : Nat) (s : State) : Bool :=
  (decide (s.gf F.BBD_BANK_STATE b = 0) || (repl && decide (bankOwner b s = (s.ldc c).part + 1)))
    && !((otherGrants c s).any fun x => x.banks.any fun e => e.2 == b)

/-- Map image banks to the lowest free physical banks of their base. -/
def bankMap (c : Nat) (repl : Bool) (need : List Nat) (s : State) : Option (List (Nat × Nat)) :=
  need.foldl (fun a i => match a with
    | none => none
    | some l => ((span (256 * (i / 256)) 256).find? fun b => bankFree c repl b s && !(l.any fun e => e.2 == b)).map fun b => l ++ [(i, b)]) (some [])

/-- Map image regions to the lowest runs of free granules of their stack. -/
def regionMap (c : Nat) (repl : Bool) (need : List (Nat × Nat)) (s : State) : Option (List (Nat × Nat × Nat)) :=
  need.foldl (fun a r => match a with
    | none => none
    | some l =>
      let k := r.1 / 16
      let taken : Nat → Bool := fun g => l.any fun e => e.1 / 16 == k && decide (e.2.1 ≤ g ∧ g < e.2.1 + e.2.2)
      ((List.range 95).find? fun f => (span f r.2).all fun g => decide (g < 95) && granFree c repl (96 * k + g) s && !(taken g)).map
        fun f => l ++ [(r.1, f, r.2)]) (some [])

/-- Descriptors of a stack free for the load. -/
def descFree (c : Nat) (repl : Bool) (k : Nat) (s : State) : Nat :=
  ((List.range 16).filter fun d => !(s.flag F.HBM_REG_A_VALID (16 * k + d)) || (repl && decide (s.gf F.HBM_REG_A_OWNER (16 * k + d) = (s.ldc c).part))).length
    - ((otherGrants c s).map fun x => (x.regions.filter fun e => e.1 / 16 == k).length).sum

/-- An IO entry names an index that exists (R289, R341). -/
def ioExists (k : Nat) : Bool :=
  let i := k / 2 % 8192
  if k % 2 = 0 then
    decide (i < 0x200) || decide (0x1C00 ≤ i) || (decide (0x200 ≤ i) && decide (i < 0x1600) && decide ((i - 0x200) % 0x500 ≤ 0x400))
  else decide (i < 0x1000)

/-- The checks of the units other than memory, in the order of the resource kinds. -/
def unitsFit (c : Nat) (r : Resources) (s : State) : Option LoadEnd :=
  let p := (s.ldc c).part
  let g := (otherGrants c s).map fun x => ldRes x s
  let mine : Nat → Bool := fun o => decide (o = 0 ∨ o = p + 1)
  let cls := needFree 1 r.classes (fun n => mine (s.clsOwner n) && !(s.clsFenced n) && !(g.any fun q => q.classes.contains n)) 256
  let seg := needFree 2 r.segs (fun n => mine (s.segOwner (64 * n)) && !(g.any fun q => q.segs.contains n)) 512
  let slo := needFree 3 r.slots (fun n => mine (s.groupOwner (n % 16 / 8) (n / 16) (n % 8)) && !(g.any fun q => q.slots.contains n)) 384
  let ioF : Nat → Bool := fun k => mine (Store.get 0 s.net.ioOwn k) && !(g.any fun q => q.io.contains k)
  let ioR := if r.io.all fun k => decide (k < 32768) && ioExists k then none
    else some { result := 0x15, detail := 3, a := 4, b := r.io.length, c := 0 : LoadEnd }
  let io := needFree 4 r.io ioF 32768
  let half := r.io.any fun k =>
    let i := k / 2 % 8192
    k % 2 == 0 && decide (0x1C00 ≤ i) && !((span (k / 2 / 32 * 32) 32).all fun j => r.io.contains (2 * j))
  let mb := if half then some { result := 0x15, detail := 1, a := 4, b := r.io.length, c := 0 : LoadEnd } else none
  let prt := needFree 8 r.ports (fun i => mine (s.portOwner i) && !(g.any fun q => q.ports.contains i)) 8
  let stw := needFree 10 r.stw (fun i => mine (s.inOwner i) && !(g.any fun q => q.stw.contains i)) 64
  let pin := needFree 11 r.gpio (fun i => mine (s.pinOwner i) && !(g.any fun q => q.gpio.contains i)) 96
  let lock := if r.gpio.any fun i => s.flag F.PIO_PIN_CFG_LOCKED i && decide (s.gf F.PIO_PIN_CFG_FUNC i ≠ 1) then
    some { result := 0x15, detail := 3, a := 11, b := r.gpio.length, c := 0 : LoadEnd } else none
  [cls, seg, slo, ioR, io, mb, prt, stw, pin, lock].findSome? id

/-- The check of the command budgets (R145). -/
def budgetFit (c : Nat) (r : Resources) (s : State) : Option LoadEnd :=
  (List.range 4).findSome? fun k =>
    let need := r.budget.getD k 0
    let p := (s.ldc c).part
    let held := ((List.range 16).map fun q => if q = p then 0 else budgetOf q k s).sum + ((otherGrants c s).map fun x => (ldRes x s).budget.getD k 0).sum
    if 12 < need ∨ 12 < need + held then some { result := 0x15, detail := 1, a := 7, b := need, c := 12 - held : LoadEnd } else none

/-- What KEEP_STATE requires of the new image (R205). -/
def keepFits (c : Nat) (s : State) : Option LoadEnd :=
  let x := s.ldc c
  let old := (s.part x.part).img (s.slot x.part)
  let d := ldDesc x s
  let r := ldRes x s
  if !x.keep then none
  else if leAt x.bytes 36 8 ≠ old.layout then some { result := 0x16, detail := 1 }
  else if r.classes ≠ old.res.classes ∨ r.banks ≠ old.res.banks ∨ r.regions ≠ old.res.regions ∨ pdImgDepth d ≠ old.dImg ∨ pdDual d ≠ old.dual then
    some { result := 0x16, detail := 2 }
  else none

/-- The checks of phase 2, in order; what the load newly gets of banks and regions. -/
def phaseDecl (c : Nat) (s : State) : Except LoadEnd (List (Nat × Nat) × List (Nat × Nat × Nat)) :=
  let x := s.ldc c
  let p := x.part
  let h := x.bytes.take 256
  let key := imgKey h
  let d := ldDesc x s
  let l := ldLat x s
  let r := ldRes x s
  let off : Nat → Nat := fun t => match sectOf h t with | some e => e.off | none => 0
  let len := match sectOf h 1 with | some e => e.size | none => 0
  let standby := s.live p
  let repl := !standby && !x.keep
  let fits := unitsFit c r s
  let hasB := heldBanks p s
  let hasR := heldRegions p s
  let needB := if repl then r.banks else r.banks.filter fun i => !(hasB.any fun e => e.1 == i)
  let needR := if repl then r.regions else r.regions.filter fun e => !(hasR.any fun m => m.1 == e.1)
  if let some o := firstBad (ldPlain x s) (span (256 + len) (off 2 - (256 + len))) then .error (authFail 5 2 o key)
  else if let some o := pdFault d then .error (authFail 5 1 (off 1 + o) key)
  else if let some o := ldFault l then .error (authFail 5 2 (off 2 + o) key)
  else if let some e := latCheck l (fun k => s.gf F.PART_LAT_ACT_ACT k) r.ports then .error e
  else if standby && (decide (r.classes ≠ s.classes p) || decide (2048 < pdImgDepth d)) then
    .error { result := 0x15, detail := 3, a := 1, b := r.classes.length, c := (s.classes p).length }
  else if let some e := fits then .error e
  else if let some e := budgetFit c r s then .error e
  else if s.flag F.PRC_REPAIR_EN p && decide (granSize * s.gf F.PRC_REPAIR_COUNT p < r.classes.length * pdImgDepth d * 4236) then
    .error { result := 0x15, detail := 1, a := 6, b := r.classes.length, c := s.gf F.PRC_REPAIR_COUNT p }
  else if (List.range 4).any fun k => decide (descFree c repl k s < (needR.filter fun e => e.1 / 16 == k).length) then
    .error { result := 0x15, detail := 1, a := 6, b := needR.length, c := 0 }
  else match bankMap c repl needB s, regionMap c repl needR s with
    | none, _ => .error { result := 0x15, detail := 1, a := 5, b := needB.length, c := ((List.range 512).filter fun b => bankFree c repl b s).length }
    | _, none => .error { result := 0x15, detail := 1, a := 6, b := needR.length, c := 0 }
    | some bs, some gs => match keepFits c s with
      | some e => .error e
      | none => .ok (bs, gs)

/-! ### Entry into phase 3 -/

/-- The latencies of LAT_DESC come into force (R125, R137, R161, R178). -/
def setLat (p : Nat) (l : List Nat) (ident : Nat) (s : State) : State :=
  let act : Nat → Nat := fun c => s.gf F.PART_LAT_ACT_ACT c
  let s := forUpTo 16 (fun c t => t.setReg .PART_LAT_DECL (16 * p + c)
    (BitVec.ofNat 32 (ldDecl l c + 65536 * (if c < 9 ∧ c ≠ 5 then ldDecl l c - act c else 0)))) s
  let s := ((s.sf F.NET_PART_LAT_HALL p (ldDecl l 0)).sf F.NET_PART_LAT_BASE p (ldDecl l 1)).sf F.NET_PART_LAT_BRIDGE p (ldDecl l 2)
  let s := ((s.sf F.NET_PART_LAT_IO p (ldDecl l 3)).sf F.BBD_PART_BB_LAT p (ldDecl l 4)).sf F.BBD_PART_HBM_LAT p (ldDecl l 5)
  let s := forUpTo 8 (fun i t =>
    let ch := bitAt (ldChain l) i
    let ve := bitAt (ldVector l) i
    let t := t.setReg .PART_LAT_PORT (8 * p + i) (BitVec.ofNat 32 (ch * ldData l i + 65536 * (ve * ldVret l i)))
    t.setReg .PART_LAT_PORT_CTL (8 * p + i) (BitVec.ofNat 32 (ch * ldCtl l i + 256 * ch + 512 * ve))) s
  let chained := decide (ldChain l ≠ 0)
  let s := (s.sf F.PART_FRZ_CHAIN_HORIZON p (if chained then ldDecl l 12 else 0)).sflag F.PART_FRZ_CHAIN_CHAINED p chained
  s.sflag F.PART_FRZ_CHAIN_CHAIN_LEAD p (chained && Config.chainLead ident)

/-- The grant of a load is made: units, banks, regions, budgets. -/
def grantAll (c : Nat) (s : State) : State :=
  let x := s.ldc c
  let p := x.part
  let r := ldRes x s
  let s := giveRes p r s
  let s := forEach x.banks (fun e t => bankGive p e.1 e.2 t) s
  let s := forEach x.regions (fun e t => regionGive p e.1 e.2.1 e.2.2 t) s
  let act := if x.standby then ((s.part p).img (s.slot p)).res.budget else []
  forUpTo 4 (fun k t => setBudget p k (max (r.budget.getD k 0) (act.getD k 0)) t) s

/-- Entry into LOADING for a load that replaces the partition (R198, R204, R205). -/
def enterReplace (c : Nat) (s : State) : State :=
  let x := s.ldc c
  let p := x.part
  let r := ldRes x s
  let s := followsCancel p (dropAllSnaps p (fenceBorder p s))
  let s := dropFreeze p (discardDebt p s)
  let s := if x.keep then
      let s := if s.flag F.PART_STATE_DUAL p then zeroSlot p (1 - s.slot p) true s else s
      let s := zeroSlot p (s.slot p) false s
      if s.flag F.PART_STATE_DUAL p then s else zeroSlot p (1 - s.slot p) false s
    else zeroSlot p 1 true (zeroSlot p 0 true s)
  let s := if x.keep then s
    else
      let s := forEach ((heldBanks p s).filter fun e => !(x.banks.any fun b => b.2 == e.2)) (fun e t => bankDrop e.2 t) s
      let s := forEach (heldRegions p s) (fun e t => regionDrop e.2 t) s
      x.regions.foldl (fun t e => { t with mem := { t.mem with granZ := (span (96 * (e.1 / 16) + e.2.1) e.2.2).foldl (fun m g => Store.del g m) t.mem.granZ } }) s
  let s := dropRes p r s
  let s := s.modPart p fun q => { q with repSlot := none, img0 := {}, img1 := {}, hbmPend := [], travel := [], absent := [], missed := [], arming := false }
  let keepSlot := if x.keep && s.flag F.PART_STATE_DUAL p then s.slot p else 0
  let s := (s.setReg .PART_STATE p (BitVec.ofNat 32 stLoading)).sf F.PART_STATE_SLOT p keepSlot
  let s := ((s.sf F.PART_COMMIT_COMMIT p 0).sf F.PART_CMD_STATUS_BUSY p 0).setReg .TRC_REPLAY_STAT p 0
  let s := { s with ld := { s.ld with autos := Store.del p s.ld.autos } }
  updLinks (slotsUpd p (setLat p (ldLat x s) (fromBytes (x.bytes.take 256)) (grantAll c s)))

/-- Entry of a standby load: what only the replaced standby image used is released (R199). -/
def enterStandby (c : Nat) (s : State) : State :=
  let x := s.ldc c
  let p := x.part
  let h := 1 - s.slot p
  let r := ldRes x s
  let a := ((s.part p).img (s.slot p)).res
  let s := (s.sf F.PART_STATE_STBY_LOADING p 1).sf F.PART_STATE_STBY_READY p 0
  let s := forEach ((validSlots p s).filter fun k => ((s.trec p).snap k).slots.contains h) (fun k t => dropSnap p k t) s
  let s := zeroSlot p h true s
  let keep : Resources := { classes := a.classes ++ r.classes, segs := a.segs ++ r.segs, slots := a.slots ++ r.slots, io := a.io ++ r.io
                            ports := a.ports ++ r.ports, stw := a.stw ++ r.stw, gpio := a.gpio ++ r.gpio }
  let s := dropRes p keep s
  let s := forEach ((heldBanks p s).filter fun e => !((a.banks ++ r.banks).contains e.1)) (fun e t => bankDrop e.2 t) s
  let s := forEach ((heldRegions p s).filter fun e => !((a.regions ++ r.regions).any fun m => m.1 == e.1)) (fun e t => regionDrop e.2 t) s
  let s := s.modPart p fun q => if h = 0 then { q with img0 := {}, repSlot := none } else { q with img1 := {}, repSlot := none }
  updLinks (grantAll c s)

/-- The loader writes LOAD (R200): the partition enters LOADING, or its standby slot loads; refused where the state has changed. -/
def loadWrite (c : Nat) (s : State) : State :=
  let x := s.ldc c
  let p := x.part
  if !(loadLegal p s) ∨ x.standby ≠ s.live p ∨ (x.keep ∧ s.pst p ≠ stLoaded ∧ s.pst p ≠ stHalted) then
    let s := logRefused (.device ⟨c % 4096, Nat.mod_lt _ (by decide)⟩) .PART_CMD p 1 ((s.sf F.PART_CMD_STATUS_STATUS p 0x20).sf F.PART_CMD_STATUS_CMD p 1)
    loadEnd c { result := 0x20, a := s.pst p } s
  else
    let s := pendingUpd p ((s.sf F.PART_CMD_STATUS_STATUS p 0).sf F.PART_CMD_STATUS_CMD p 1)
    let s := (s.modLdc c fun y => { y with entered := true }).sf F.PART_LDR_STATUS_PHASE c 3
    if x.standby then enterStandby c s else enterReplace c s

/-! ### Phase 3: sections -/

/-- The timetable slot a load writes, and its first step. -/
def ldSlot (c : Nat) (s : State) : Nat :=
  let x := s.ldc c
  if x.standby then 1 - s.slot x.part else s.slot x.part
def ldDual (c : Nat) (s : State) : Bool :=
  let d := ldDesc (s.ldc c) s
  (s.ldc c).standby || (pdDual d && decide (pdImgDepth d ≤ 2048))
def ldOff (c : Nat) (s : State) : Nat := if ldDual c s then 2048 * ldSlot c s else 0

/-- CLASS_IMEM: the words of each class, step and BP. -/
def putImem (off d : Nat) (cls b : List Nat) (s : State) : State :=
  forUpTo cls.length (fun ci t =>
    let n := cls.getD ci 0
    { t with bp := { t.bp with imem := (List.range d).foldl (fun m st => (List.range 512).foldl (fun m k =>
      Store.set {} ((528 * t.phys n + t.physBp n k) * 4096 + off + st) { word := BitVec.ofNat 64 (leAt b (8 * ((ci * d + st) * 512 + k)) 8) } m) m) t.bp.imem } }) s

/-- EXPORT_TABLE: 64 fields of 10 bits for each class and step. -/
def putExport (off d : Nat) (cls b : List Nat) (s : State) : State :=
  forUpTo cls.length (fun ci t =>
    let n := cls.getD ci 0
    { t with bp := { t.bp with expTab := (List.range d).foldl (fun m st =>
      Store.set {} (4096 * t.phys n + off + st)
        { bits := ((List.range 64).map fun e => (leAt b (128 * (ci * d + st) + 2 * e) 2 % 1024) * 1024 ^ e).sum } m) t.bp.expTab } }) s

/-- MEM_TABLE: one entry of 96 bits for each class and step. -/
def putMem (off d : Nat) (cls b : List Nat) (s : State) : State :=
  forUpTo cls.length (fun ci t =>
    let n := cls.getD ci 0
    { t with bp := { t.bp with memTab := (List.range d).foldl (fun m st =>
      Store.set {} (4096 * t.phys n + off + st) { bits := leAt b (12 * (ci * d + st)) 12 } m) t.bp.memTab } }) s

/-- The entries of a switch table: for each unit, for each owned destination, `d` + 12 entries of 16 bits. -/
def putSwitch (slot d wid : Nat) (units : List (List Nat)) (mask : Nat) (b : List Nat) (m : Store SchedEntry) : Store SchedEntry :=
  ((List.range units.length).foldl (fun (a : Store SchedEntry × Nat) u =>
    (units.getD u []).foldl (fun (a : Store SchedEntry × Nat) dest =>
      ((List.range (d + 12)).foldl (fun m e =>
        Store.set {} (((2 * u + slot) * 4200 + e) * wid + dest) { bits := leAt b (a.2 + 2 * e) 2 % mask } m) a.1, a.2 + 2 * (d + 12))) a) (m, 0)).1

/-- The foreign source of a hallway or base entry that would cross the partition's border (R23): its kind and index. -/
def foreign (base : Bool) (u w : Nat) (r : Resources) : Option (Nat × Nat) :=
  if !base then
    let i := w % 8192
    if w / 8192 % 2 = 0 ∨ (2048 ≤ i ∧ i < 4096) then none
    else if i < 2048 then (if r.classes.contains (32 * u + i / 64) then none else some (1, i))
    else if r.segs.contains (64 * u + (i - 4096) / 64) then none else some (2, i)
  else
    let i := w % 32768
    if w / 32768 = 0 then none
    else if i < 0x4000 then (if r.segs.contains (256 * u + i / 64) then none else some (2, i))
    else if i < 0x6000 then
      let g := slotGroup (i - 0x4000)
      if r.slots.contains (16 * g.1 + 8 * (1 - u) + g.2) then none else some (3, i)
    else if r.io.contains (2 * (8192 * u + (i - 0x6000))) then none else some (4, i)

/-- Every destination and its entries, with the unit, of a switch section. -/
def switchWords (d : Nat) (units : List (List Nat)) (b : List Nat) : List (Nat × Nat) :=
  ((List.range units.length).foldl (fun (a : List (Nat × Nat) × Nat) u =>
    let n := (units.getD u []).length * (d + 12)
    (a.1 ++ (List.range n).map (fun k => (u, leAt b (a.2 + 2 * k) 2)), a.2 + 2 * n)) ([], 0)).1

/-- A resource fault found as a section is written (R168). -/
def undeclared (kind what limit : Nat) : LoadEnd := { result := 0x15, detail := 2, a := kind, b := what, c := limit }

/-- The entries of MEM_TABLE against the declarations: banks and regions, budgets, returns due at one step (R137, R145, R168). -/
def memCheck (r : Resources) (d bb hbm : Nat) (b : List Nat) : Option LoadEnd :=
  let cls := r.classes
  let ent : Nat → Nat → Nat := fun ci st => leAt b (12 * (ci * d + st)) 12
  let op : Nat → Nat := fun e => e % 4
  let act : Nat → Bool := fun e => decide (op e = 1 ∨ op e = 2) && decide (e / 4 % 4 ≠ 3)
  let stack : Nat → Nat → Nat := fun ci e => 2 * (cls.getD ci 0 / 128) + (e / 4 % 4 - 1)
  let one : Option LoadEnd := ((List.range cls.length).flatMap fun ci => (List.range d).map fun st => (ci, ent ci st)).findSome? fun x =>
    let e := x.2
    let sel := e / 16 % 256
    if !(act e) then none
    else if e / 4 % 4 = 0 then (if r.banks.contains (256 * (cls.getD x.1 0 / 128) + sel) then none else some (undeclared 5 sel 0))
    else if r.regions.any fun g => g.1 == 16 * stack x.1 e + sel % 16 then none else some (undeclared 6 (sel % 16) 0)
  let bud : Option LoadEnd := (List.range d).findSome? fun st => (List.range 4).findSome? fun k =>
    let n := ((List.range cls.length).filter fun ci => act (ent ci st) && decide (ent ci st / 4 % 4 ≠ 0) && decide (stack ci (ent ci st) = k)).length
    if r.budget.getD k 0 < n then some { result := 0x15, detail := 3, a := 7, b := n, c := r.budget.getD k 0 : LoadEnd } else none
  let due : Option LoadEnd := (List.range cls.length).findSome? fun ci =>
    let l := (List.range d).filterMap fun st => if op (ent ci st) = 1 ∧ act (ent ci st) then
      some ((st + if ent ci st / 4 % 4 = 0 then bb else hbm) % (d + 12)) else none
    if l.eraseDups.length = l.length then none else some { result := 0x15, detail := 3, a := 14, b := cls.getD ci 0, c := 0 : LoadEnd }
  [one, bud, due].findSome? id

/-! ### INIT_STATE (R188, R189, R199, R205) -/

/-- Memory with the load's banks and regions at the start value. -/
def ldFilled (x : LoadCtx) (xm : Bool) (m : MemState) : MemState :=
  let m := x.banks.foldl (fun m e => m.refill e.2 (b2n xm)) m
  x.regions.foldl (fun m e => (span (96 * (e.1 / 16) + e.2.1) e.2.2).foldl (fun m g => m.refill (512 + g) (b2n xm)) m) m

def ldFill (x : LoadCtx) (xm : Bool) (s : State) : State := { s with mem := ldFilled x xm s.mem }

/-- Fill: the start value of every slate entry and byte that the load reaches. -/
def startFill (c : Nat) (s : State) : State :=
  let x := s.ldc c
  let d := ldDesc x s
  let xm := pdXmode d
  if x.keep then s
  else
    let r := ldRes x s
    let halves := if ldDual c s then [ldSlot c s] else [0, 1]
    let s := forEach r.classes (fun n t => forEach halves (fun h t =>
      { t with bp := { t.bp with slateX := Store.set false (2 * t.phys n + h) xm t.bp.slateX } }) t) s
    ldFill x xm s

/-- A slate record. -/
def initSlate (c : Nat) (r : InitRec) (s : State) : Except LoadEnd State :=
  let x := s.ldc c
  let xm := pdXmode (ldDesc x s)
  let size := if ldDual c s then 2048 else 4096
  if !((ldRes x s).classes.contains r.unit) then .error (undeclared 1 r.unit 0)
  else if 512 ≤ r.bp ∨ size < r.first + r.count then .error { result := 0x15, detail := 3, a := 1, b := r.first + r.count, c := size }
  else .ok (forUpTo r.count (fun i t =>
    let v : Tri := match r.val i with | 0 => .zero | 1 => .one | _ => if xm then .x else .zero
    putSlate (t.phys r.unit) (t.physBp r.unit r.bp) (ldOff c s + r.first + i) (SlateEntry.ofTri v) t) s)

/-- One word of a bank or region: an unknown byte is X with X-mode on, 0 with it off. -/
def initWord (a v : Nat) (xm : Bool) (s : State) : State :=
  let fl := bitsAt v 64 8
  let s := forUpTo 8 (fun i t =>
    let u := decide (bitAt fl i = 1)
    putByte (a + i) (if u then 0 else bitsAt v (8 * i) 8) (u && xm && inBB a) t) s
  if inBB a then s else hbmReCheck a (putByte (a + 8) (if xm then fl else 0) false s)

/-- A bank or region record; one for memory the load did not newly get is skipped in a standby load. -/
def initMem (c : Nat) (r : InitRec) (s : State) : Except LoadEnd State :=
  let x := s.ldc c
  let p := x.part
  let res := ldRes x s
  let xm := pdXmode (ldDesc x s)
  let bank := decide (r.type = 2)
  let key := if bank then 256 * r.unit + r.sub else 16 * r.unit + r.sub
  let size := if bank then 65536 else match res.regions.find? fun e => e.1 == key with | some e => e.2 * 16777216 | none => 0
  let kind := if bank then 5 else 6
  let declared := if bank then decide (r.unit < 2) && res.banks.contains key else decide (r.unit < 4 ∧ r.sub < 16) && res.regions.any fun e => e.1 == key
  let new := if bank then x.banks.any fun e => e.1 == key else x.regions.any fun e => e.1 == key
  if !declared then .error (undeclared kind r.sub 0)
  else if x.standby && !new then .ok (s.modLdc c fun y => { y with skipped := y.skipped + 1 })
  else if size < r.first + r.count then .error { result := 0x15, detail := 3, a := kind, b := r.first + r.count, c := size }
  else
    let addr : Option Nat := if bank then (bankFor p r.unit r.sub s).map fun b => bankAddr b
      else (regionFor p r.unit r.sub s).map fun d => granAddr (96 * r.unit + s.gf F.HBM_REG_A_FIRST (16 * r.unit + d))
    match addr with
    | none => .ok s
    | some a => .ok (forUpTo r.count (fun i t => initWord (a + (if bank then 8 else 16) * (r.first + i)) (r.val i) xm t) s)

/-- The records in order; KEEP_STATE applies those with CONST. -/
def initAll (c : Nat) : List InitRec → State → Except LoadEnd State
  | [], s => .ok s
  | r :: rs, s =>
    if (s.ldc c).keep && !r.const then initAll c rs s
    else match (if r.type = 1 then initSlate c r s else initMem c r s) with
      | .ok t => initAll c rs t
      | .error e => .error e

/-- The repair copy of a section goes to the area of PRC_REPAIR[p]: CLASS_IMEM, then EXPORT_TABLE, then MEM_TABLE (R405). -/
def repairCopy (c t : Nat) (b : List Nat) (s : State) : State :=
  let x := s.ldc c
  let p := x.part
  if !(s.flag F.PRC_REPAIR_EN p) then s
  else
    let n := (ldRes x s).classes.length * pdImgDepth (ldDesc x s)
    let base := granAddr (96 * s.gf F.PRC_REPAIR_STACK p + s.gf F.PRC_REPAIR_FIRST p)
    match t with
    | 3 => (s.wbs base b).modPart p fun r => { r with repSlot := some (ldSlot c s) }
    | 4 => s.wbs (base + 4096 * n) b
    | 7 => s.wbs (base + 4224 * n) b
    | _ => s

/-- An authentication failure of the section layer, at an offset. -/
def sectFault (c ty off : Nat) (s : State) : Except LoadEnd State := .error (authFail 5 ty off (imgKey (s.ldc c).bytes))

/-- Replace the hallway or the base switch tables. -/
def State.putHallTab (s : State) (m : Store SchedEntry) : State := { s with net := { s.net with hallTab := m } }
def State.putBaseTab (s : State) (m : Store SchedEntry) : State := { s with net := { s.net with baseTab := m } }

/-- A HALL_SWITCH section. -/
def takeHall (c : Nat) (b : List Nat) (s : State) : Except LoadEnd State :=
  let r := ldRes (s.ldc c) s
  let d := pdImgDepth (ldDesc (s.ldc c) s)
  let units := (List.range 8).map (hallDests r)
  match (switchWords d units b).findSome? fun w => foreign false w.1 w.2 r with
  | some f => .error (undeclared f.1 f.2 0)
  | none => .ok (s.putHallTab (putSwitch (ldSlot c s) d 8192 units 16384 b s.net.hallTab))

/-- A BASE_SWITCH section. -/
def takeBase (c : Nat) (b : List Nat) (s : State) : Except LoadEnd State :=
  let r := ldRes (s.ldc c) s
  let d := pdImgDepth (ldDesc (s.ldc c) s)
  let units := (List.range 2).map (baseDests r)
  match (switchWords d units b).findSome? fun w => foreign true w.1 w.2 r with
  | some f => .error (undeclared f.1 f.2 0)
  | none => .ok (s.putBaseTab (putSwitch (ldSlot c s) d 32768 units 65536 b s.net.baseTab))

/-- A memory-table section. -/
def takeMem (c : Nat) (b : List Nat) (s : State) : Except LoadEnd State :=
  let x := s.ldc c
  let d := pdImgDepth (ldDesc x s)
  let r := ldRes x s
  let l := ldLat x s
  match memCheck r d (ldDecl l 4) (ldDecl l 5) b with
  | some f => .error f
  | none => .ok (repairCopy c 7 b (putMem (ldOff c s) d r.classes b s))

/-- A vector section. -/
def takeVector (c off : Nat) (b : List Nat) (s : State) : Except LoadEnd State :=
  let x := s.ldc c
  let r := ldRes x s
  match vmFault b (ldVector (ldLat x s)) (pdImgDepth (ldDesc x s)) with
  | some o => sectFault c 8 (off + o) s
  | none =>
    if (vmEntries b).any fun w =>
      let i := bitsAt w 10 3
      let ch := bitsAt w 0 10
      !(r.io.contains (2 * (8192 * (i / 4) + 0x400 * (i % 4) + ch) + 1))
        || (decide (bitsAt w 64 8 ≠ 0) && !(r.io.contains (2 * (8192 * (i / 4) + 0x200 + 0x500 * (i % 4) + ch))))
    then .error { result := 0x15, detail := 3, a := 9, b := (vmEntries b).length, c := 0 }
    else .ok s

/-- A bindings section. -/
def takeBinds (c off : Nat) (b : List Nat) (s : State) : Except LoadEnd State :=
  let x := s.ldc c
  match bindSectFault b with
  | some o => sectFault c 9 (off + o) s
  | none =>
    if bindsFit (ldRes x s) (pdImgDepth (ldDesc x s)) (bindEntries b) then .ok s
    else .error { result := 0x15, detail := 3, a := 10, b := (bindEntries b).length, c := 0 }

/-- An initial-state section. -/
def takeInit (c off : Nat) (b : List Nat) (s : State) : Except LoadEnd State :=
  match initRecs (b.length + 1) 0 b with
  | .error o => sectFault c 0x0A (off + o) s
  | .ok rs => initAll c rs (startFill c s)

/-- The effect of a section by its type. -/
def sectEffect (c ty off : Nat) (b : List Nat) (s : State) : Except LoadEnd State :=
  let d := pdImgDepth (ldDesc (s.ldc c) s)
  let r := ldRes (s.ldc c) s
  match ty with
  | 3 => .ok (repairCopy c 3 b (putImem (ldOff c s) d r.classes b s))
  | 4 => .ok (repairCopy c 4 b (putExport (ldOff c s) d r.classes b s))
  | 5 => takeHall c b s
  | 6 => takeBase c b s
  | 7 => takeMem c b s
  | 8 => takeVector c off b s
  | 9 => takeBinds c off b s
  | 0x0A => takeInit c off b s
  | _ => .ok s

/-- Take one section: its size, the zeros before it, its checks, its content (R185, R187, R200). -/
def takeSect (c : Nat) (e : Sect) (gap : Nat) (s : State) : Except LoadEnd State :=
  let x := s.ldc c
  let raw := ldPlain x s
  let b := (raw.drop e.off).take e.size
  let badSize := match expectSize (ldRes x s) (pdImgDepth (ldDesc x s)) e.type b with | some n => decide (n ≠ e.size) | none => false
  match firstBad raw (span gap (e.off - gap)) with
  | some o => sectFault c e.type o s
  | none => if badSize then sectFault c e.type e.off s else sectEffect c e.type e.off b s

/-- Phase 4: the tag or the digest (R190, R191). -/
def verify (x : LoadCtx) (s : State) : Option LoadEnd :=
  let h := x.bytes.take 256
  let o := sigOff h
  let key := imgKey h
  let body := x.bytes.take o
  if x.digest.any fun d => d ≠ Config.sha384 x.bytes then some (authFail 2 0x0F o key)
  else if key = 0xFF then
    if Config.sha384 body = leAt x.bytes (o + 16) 48 then none else some (authFail 2 0x0F o key)
  else
    let k := Store.get 0 s.ld.keys key
    let tag := if imgEnc h then Config.gcmTag k (imgIv h) h (body.drop 256) else Config.gcmTag k (imgIv h) body []
    if tag = leAt x.bytes o 16 then none else some (authFail 1 0x0F o key)

/-- A section that the load requires and the table leaves out: VECTOR_MAP with vector ports, STOPWATCH_BIND with stopwatch inputs
(Table CFG-5), or a left-out section that is not empty. -/
def missingSect (x : LoadCtx) (s : State) : Option LoadEnd :=
  let h := x.bytes.take 256
  if ldVector (ldLat x s) ≠ 0 ∧ (sectOf h 8).isNone then some (authFail 5 8 9 (imgKey h))
  else if (ldRes x s).stw ≠ [] ∧ (sectOf h 9).isNone then some (authFail 5 9 9 (imgKey h))
  else none

/-- One action of the loader, if the bytes it needs have arrived; nothing otherwise. -/
def loadAct (c : Nat) (s : State) : State :=
  let x := s.ldc c
  let h := x.bytes.take 256
  let n := x.bytes.length
  let endOf : Nat → Nat := fun t => match sectOf h t with | some e => e.off + e.size | none => 0
  if !(ldRunning c s) then s
  else match ldPhase c s with
    | 1 =>
      if n < 256 then s
      else match phaseHeader c s with
        | some e => loadEnd c e s
        | none => s.sf F.PART_LDR_STATUS_PHASE c 2
    | 2 =>
      if x.declared ∨ n < max (endOf 1) (endOf 2) then s
      else match phaseDecl c s with
        | .error e => loadEnd c e s
        | .ok (bs, gs) => s.modLdc c fun y => { y with declared := true, banks := bs, regions := gs, standby := s.live y.part, taken := 2 }
    | 3 => match (sects h)[x.taken]? with
      | none => s
      | some e =>
        if n < e.off + e.size then s
        else if e.type = 0x0F then
          match (match missingSect x s with | some f => some f | none => verify x s) with
          | some f => loadEnd c f (s.sf F.PART_LDR_STATUS_PHASE c 4)
          | none => s.sf F.PART_LDR_STATUS_PHASE c 5
        else
          let gap := match (sects h)[x.taken - 1]? with | some g => g.off + g.size | none => 256
          match takeSect c e gap s with
          | .error f => loadEnd c f s
          | .ok t => t.modLdc c fun y => { y with taken := y.taken + 1 }
    | _ => s

/-- The bytes that arrive: from device memory for MEMORY, as given otherwise; bytes beyond SIZE do not exist, bytes beyond LENGTH are
discarded (R202, Table CFG-9). A chain delivers no more than its BULK blocks announce (R281). -/
def arriving (c : Nat) (data : List Nat) (s : State) : List Nat :=
  let x := s.ldc c
  let n := x.bytes.length
  let size := s.gf F.PART_LDR_SIZE_LO_SIZE c + 2 ^ 32 * s.gf F.PART_LDR_SIZE_HI_SIZE c
  let addr := (s.gf F.PART_LDR_ADDR_LO_ADDR c + 2 ^ 32 * s.gf F.PART_LDR_ADDR_HI_ADDR c) % 2 ^ 48
  let d := if x.src = 0 then
      (if inBB addr ∨ inHbm addr ∨ addr < 0x100000000 then s.rbs (addr + n) data.length else [])
    else if x.src = 3 then data.take (8 * (s.lk (2 * x.port)).bulk) else data
  let d := if size = 0 ∨ x.src = 3 then d else d.take (size - n)
  if n + d.length < 256 then d else d.take (imgLength (x.bytes ++ d) - n)

/-- LOAD_SECTION: the loader takes the next bytes of the image and does what they allow; `last` says that a CHAIN stream ends here. -/
def loadSection (c : Nat) (data : List Nat) (last : Bool) (s : State) : State :=
  if !(ldRunning c s) || decide (3 < ldPhase c s) then s
  else
    let s := if (s.ldc c).declared && !(s.ldc c).entered then loadWrite c s else s
    if !(ldRunning c s) then s
    else
      let x := s.ldc c
      let d := arriving c data s
      let s := if x.src = 3 then s.modLk (2 * x.port) fun r => { r with bulk := r.bulk - (d.length + 7) / 8 } else s
      let s := s.modLdc c fun y => { y with bytes := y.bytes ++ d }
      let n := x.bytes.length + d.length
      let s := { s with ld := { s.ld with got := Store.set 0 c n s.ld.got } }.sf F.PART_LDR_BYTES_LO_BYTES c n
      let s := (List.range 16).foldl (fun t _ => loadAct c t) s
      if last && ldRunning c s && decide (x.src = 3) && decide (ldPhase c s ≤ 3) then
        if n < 256 ∨ n < imgLength (s.ldc c).bytes then loadTrunc c 1 s else s
      else s

/-! ### Completion -/

/-- A PART_TEMPO value under its clamps (R12, R84). -/
def tempoClamp (w : Nat) : Nat :=
  let w := Nat.land w 0xFFFF0773
  let w := if (bitsAt w 0 2 = 1 ∨ bitsAt w 0 2 = 2) ∧ 3 < bitsAt w 4 3 then w - 16 * bitsAt w 4 3 + 48 else w
  if bitsAt w 9 2 = 3 then w - 512 else w

/-- A PART_FAULT_ACTION value under its clamps (R175, R177). -/
def actionClamp (w : Nat) : Nat :=
  ((List.range 11).map fun i =>
    let a := bitsAt w (2 * i) 2
    (if a = 3 ∨ (i = 9 ∧ a = 2) then 0 else a) * 4 ^ i).sum

/-- What the partition keeps of a loaded image. -/
def slotImage (x : LoadCtx) (s : State) : SlotImg :=
  let raw := ldPlain x s
  let d := ldDesc x s
  let vm := sectBytes raw 8
  let bd := sectBytes raw 9
  { dImg := pdImgDepth d, ident := leAt x.bytes (sigOff x.bytes) 64, sealed := bitAt (x.bytes.getD 10 0) 1 = 1, autostart := pdAuto d
    xmode := pdXmode d, dual := pdDual d, layout := leAt x.bytes 36 8, vecMap := vmEntries vm, vecPort := vmPorts vm
    binds := bindEntries bd, clamps := pdClamps d, res := ldRes x s }

/-- The settings of PARTITION_DESC come into force (R84, R176, R186). -/
def loadedSettings (c : Nat) (s : State) : State :=
  let x := s.ldc c
  let p := x.part
  let d := ldDesc x s
  let dual := ldDual c s
  let depth := clampDepth dual (pdImgDepth d) (leAt d 4 2)
  let slot := s.slot p
  let cfg := depth + 8192 * slot + 16384 * b2n (pdXmode d)
  let s := s.setReg .PART_CFG p (BitVec.ofNat 32 (cfg + 65536 * pdImgDepth d + 536870912 * b2n dual))
  let s := s.setReg .PART_CFG_NEXT p (BitVec.ofNat 32 cfg)
  let t := BitVec.ofNat 32 (tempoClamp (leAt d 8 4))
  let a := BitVec.ofNat 32 (actionClamp (leAt d 12 4))
  let s := (s.setReg .PART_TEMPO p t).setReg .PART_TEMPO_NEXT p t
  let s := (s.setReg .PART_FAULT_ACTION p a).setReg .PART_FAULT_ACTION_NEXT p a
  s.sflag F.PART_STATE_DUAL p dual

/-- ARM is taken: the work begins (Table BELL-4). -/
def armBegin (p : Nat) (s : State) : State := (s.modPart p fun r => { r with arming := true }).sf F.PART_CMD_STATUS_BUSY p 1

/-- The bound inputs of a partition enter BOUND (R247). -/
def bindInputs (p : Nat) (s : State) : State :=
  forEach ((List.range 64).filter fun i => s.inOwner i = p + 1 ∧ (s.binds p).any fun e => e.2.kind ≠ 15 ∧ e.2.input = i)
    (fun i t => if t.gf F.STW_IN_STAT_STATE i = inFailed then t else t.sf F.STW_IN_STAT_STATE i inBound) s

/-- LOAD_COMPLETE: the fill is over (R200): the partition is LOADED, or its standby image is ready. A DONE-gated AUTOSTART image
gets ARM. -/
def loadComplete (c : Nat) (s : State) : State :=
  if !(ldRunning c s) ∨ ldPhase c s ≠ 5 then s
  else
    let x := s.ldc c
    let p := x.part
    let img := slotImage x s
    let h := ldSlot c s
    let fin : LoadEnd := { result := 0, a := imgLength x.bytes % 2 ^ 32, b := x.skipped }
    let s := s.modPart p fun r => if h = 0 then { r with img0 := img } else { r with img1 := img }
    if x.standby then loadEnd c fin ((s.sf F.PART_STATE_STBY_LOADING p 0).sf F.PART_STATE_STBY_READY p 1)
    else
      let s := bindInputs p ((loadedSettings c s).sf F.PART_STATE_STATE p stLoaded)
      let auto := x.gate && img.autostart
      let s := if auto then { s with ld := { s.ld with autos := Store.set 0 p 1 s.ld.autos } } else s
      let s := updLinks (loadEnd c fin (slotsUpd p s))
      if auto then armBegin p (pendingUpd p ((s.sf F.PART_CMD_STATUS_STATUS p 0).sf F.PART_CMD_STATUS_CMD p 2)) else s

end Machine
end Sys2Proof
end

