-- ==== Sys2Proof/Machine/PartCmd.lean ====
section
/-! DEFINITION. Partition commands, commits, the fault log's tail and the DONE pin (R76-R84, R116, R117, R164, R174, R182, R183, R212,
R218). -/
namespace Sys2Proof
namespace Machine

/-! ### A write of PART_CMD (R77, R78) -/

/-- PART_CMD_STATUS after a command. -/
def cmdStatus (p cmd st : Nat) (s : State) : State :=
  pendingUpd p ((s.sf F.PART_CMD_STATUS_STATUS p st).sf F.PART_CMD_STATUS_CMD p cmd)

/-- Commands that a preserving march bars (R154): LOAD, ARM, START, RESUME, REWIND. -/
def marchBars (cmd : Nat) : Bool := [1, 2, 3, 5, 8].contains cmd

/-- A command of partition `p`: the access check comes first, then the state check; a refused command has no effect (R77, R78, R154,
R218). -/
def partCmd (rq : Requester) (p cmd arg : Nat) (access legal : Bool) (f : State → State) (s : State) : State :=
  let w := cmd + 256 * arg
  if !(partOk rq p s && access) then cmdStatus p cmd 0x21 (denyWrite rq .PART_CMD p w s)
  else if !legal || (s.flag F.TRC_REPLAY_STAT_RESTORING p && decide (cmd ≠ 9)) || (marchBars cmd && marchOn p s) then
    cmdStatus p cmd 0x20 (logRefused rq .PART_CMD p w (okResp 0 s))
  else f (cmdStatus p cmd 0 (okResp 0 s))

/-- The requester is the loader working in a context whose grant for partition `p` stands. -/
def loaderFor (rq : Requester) (p : Nat) (s : State) : Option Nat :=
  match rq with
  | .device n => if n.val < 4 ∧ ldRunning n.val s ∧ (s.ldc n.val).declared ∧ !(s.ldc n.val).entered ∧ (s.ldc n.val).part = p then some n.val else none
  | _ => none

/-- LOAD: written by the loader alone (R77, R200). -/
def cmdLoad (rq : Requester) (p : Nat) (s : State) : State :=
  match loaderFor rq p s with
  | some c => loadWrite c s
  | none => cmdStatus p 1 0x21 (denyWrite rq .PART_CMD p 1 s)

/-- ARM. -/
def cmdArm (rq : Requester) (p arg : Nat) (s : State) : State :=
  partCmd rq p 2 arg true (decide (s.pst p = stLoaded)) (armBegin p) s

/-- To RUNNING, waiting for the next bell; FREE ticks at once; causes recorded meanwhile are raised (Table BELL-4, R75, R116). -/
def runBegin (p : Nat) (s : State) : State :=
  let s := ((s.sf F.PART_STATE_STATE p stRunning).sf F.PART_STATE_WAITING p 1).sf F.PART_STATE_STOP_PEND p 0
  let s := discardDebt p (s.modPart p fun r => { r with
    tick := if s.gf F.PART_TEMPO_SRC p = 0 then some s.scc else none, div := 0, haltSampled := false })
  reRaise p s

/-- START. -/
def cmdStart (rq : Requester) (p arg : Nat) (s : State) : State :=
  partCmd rq p 3 arg true (decide (s.pst p = stArmed)) (fun s =>
    runBegin p (((s.modPart p fun r => { r with bell0 := true }).sf F.PART_STATE_IN_GAP p 0).sf F.PART_STATE_STEP p 0)) s

/-- STOP_AT_BELL: written while the partition waits for tempo it halts at once (Table BELL-5). -/
def cmdStop (rq : Requester) (p arg : Nat) (s : State) : State :=
  partCmd rq p 4 arg true (s.live p) (fun s =>
    if s.pst p = stRunning ∧ s.flag F.PART_STATE_WAITING p then haltEnter p s
    else pendingUpd p (s.sf F.PART_STATE_STOP_PEND p 1)) s

/-- Clock-good of a domain (R436). -/
def clockGood (d : Nat) (s : State) : Bool := decide (bitAt (s.gf F.RST_CLKGOOD_GOOD (d / 32)) (d % 32) = 1)

/-- RESUME in FROZEN: DEBUG and FAULT are released, CLKFAIL where the clock is good, HALLMON where a proctor is active (R117). -/
def resumeFrozen (p : Nat) (s : State) : State :=
  let s := releaseCause p 9 (releaseCause p 8 s)
  let z := s.fz p
  let clk : Nat → State → State := fun b t =>
    forEach ((z.ctl b).items.filter fun i => decide (i.1 = 7) && clockGood i.2 s) (fun i t => releaseItem p b 7 i.2 t) t
  let s := clk 1 (clk 0 s)
  if s.proctorActive 0 || s.proctorActive 1 then releaseCause p 10 s else s

/-- RESUME. -/
def cmdResume (rq : Requester) (p arg : Nat) (s : State) : State :=
  partCmd rq p 5 arg true (decide (s.pst p = stHalted ∨ s.pst p = stFrozen)) (fun s =>
    if s.pst p = stFrozen then resumeFrozen p s else runBegin p s) s

/-- FREEZE_NOW: the monitor's alone (R77); one debug hold, however often it is written (R78). -/
def cmdFreezeNow (rq : Requester) (p arg : Nat) (s : State) : State :=
  partCmd rq p 6 arg (decide (rq = .monitor)) (s.live p) (fun s =>
    if s.hasCause p 8 || ((s.fz p).ctl (s.leadBase p)).raised.any fun q => q.cause == 8 then s else raiseLead p 8 0 s) s

/-- CAPTURE (R209, R212, R228). -/
def cmdCapture (rq : Requester) (p arg : Nat) (s : State) : State :=
  let areas := decide (s.gf F.TRC_SNAP_STAT_SLOTS p ≠ 0 ∧ s.gf F.TRC_AREA_COUNT (4 * p + 1) ≠ 0 ∧ s.gf F.TRC_AREA_COUNT (4 * p + 2) ≠ 0)
  let st := s.live p || decide (s.pst p = stHalted)
  partCmd rq p 7 arg (!(sealedOut p s)) (st && areas) (fun s =>
    if s.flag F.PART_STATE_CAPTURE_PEND p then s
    else
      let s := s.modPart p fun r => { r with capArg := arg }
      if s.pst p = stHalted ∧ !(s.flag F.TRC_SNAP_STAT_DRAINING p) then takeSnapshot p true s
      else pendingUpd p (s.sf F.PART_STATE_CAPTURE_PEND p 1)) s

/-- The snapshot slot that ARG selects for REWIND (R212). -/
def rewindSlot (p arg : Nat) (s : State) : Option Nat :=
  let n := s.gf F.TRC_SNAP_STAT_SLOTS p
  let k := if bitAt arg 15 = 1 then some (min (arg % 16) (n - 1)) else newestOf (s.trec p) (validSlots p s)
  match k with
  | some k => if snapValid p k s then some k else none
  | none => none

/-- The timetable slot of a snapshot still holds the same image (R80). -/
def sameImage (p : Nat) (z : Snap) (s : State) : Bool :=
  (decide (z.slot = s.slot p) || s.flag F.PART_STATE_STBY_READY p) && decide (((s.part p).img z.slot).ident = z.ident)

/-- REWIND: the restore begins (R218, R219). -/
def cmdRewind (rq : Requester) (p arg : Nat) (s : State) : State :=
  let k := rewindSlot p arg s
  let ok := match k with | some k => sameImage p ((s.trec p).snap k) s | none => false
  partCmd rq p 8 arg (!(sealedOut p s)) (decide (s.pst p = stHalted) && ok && !(s.flag F.TRC_SNAP_STAT_DRAINING p)) (fun s =>
    pendingUpd p ((s.modTrec p fun r => { r with rewind := k, replayE := (s.part p).bell }).sf F.TRC_REPLAY_STAT_RESTORING p 1)) s

/-- ABORT: loads of the partition end, then it goes to EMPTY (R206). -/
def abortPart (p : Nat) (s : State) : State := toEmpty p (loadsEnd p 4 s)

/-- ABORT. -/
def cmdAbort (rq : Requester) (p arg : Nat) (s : State) : State :=
  partCmd rq p 9 arg true (decide (s.pst p ≠ stEmpty)) (abortPart p) s

/-- UNLOAD. -/
def cmdUnload (rq : Requester) (p arg : Nat) (s : State) : State :=
  partCmd rq p 10 arg true ([stLoaded, stArmed, stHalted, stFenced].contains (s.pst p)) (toEmpty p) s

/-! ### The end of ARM -/

/-- ARM empties the fault log and resets its counters (R174), and the freeze registers (R130). -/
def armLogs (p : Nat) (s : State) : State :=
  let s := forUpTo 64 (fun e t => t.sf ⟨.PART_FAULT_LOG, 31, 1⟩ (frec p e 0) 0) s
  let s := ((s.resetReg .PART_FAULT_HEAD p).resetReg .PART_FAULT_TAIL p).resetReg .PART_FAULT_LOST p
  let s := (((s.resetReg .PART_FREEZE_CNT p).resetReg .PART_FROZEN_CLOCKS_LO p).resetReg .PART_FROZEN_CLOCKS_HI p).resetReg .PART_NOTICE p
  let s := ((s.resetReg .PART_FRZ_LAST p).resetReg .PART_FRZ_LAST_BELL_LO p).resetReg .PART_FRZ_LAST_BELL_HI p
  s.setFz p { s.fz p with clocks := 0 }

/-- The partition becomes ARMED (Table BELL-4, R42, R46, R88, R108, R343). -/
def armed (p : Nat) (s : State) : State :=
  let s := armLogs p s
  let s := s.modPart p fun r => { r with
    arming := false, corrupt := false, corruptNext := false, haltSampled := false, capSampled := false, commitSampled := false
    count := 0, allCount := 0, lastScc := none, tick := none, bell0 := true, div := 0, bell := 0, travel := [], recent := [], recScc := 0
    recCnt := 0, missed := [], absent := [], stuck := false, fresh := false, debts := [], rewinding := false }
  let s := s.sf F.PART_TEMPO_STAT_DEBT p 0
  let s := mbxUnknown p (bindClear p (armStages p (s.sf F.PART_STATE_SLOT p (s.gf F.PART_CFG_SLOT p))))
  let s := ((s.sf F.PART_STATE_STEP p 0).sf F.PART_STATE_IN_GAP p 0).sf F.PART_STATE_CORRUPT p 0
  let s := ((s.sf F.PART_BELL_NUM_LO_BELL p 0).sf F.PART_BELL_NUM_HI_VALID p 0).sf F.PART_STATE_STATE p stArmed
  let s := forEach (s.vectorPorts p) (fun i t => linkFcfg i t) s
  let s := if Store.get 0 s.ld.autos p = 1 then { s with ld := { s.ld with autos := Store.set 0 p 2 s.ld.autos } } else s
  doneUpd (s.sf F.PART_CMD_STATUS_BUSY p 0)

/-- ARM_DONE: the work of ARM is over. A lowered limit is waited for (Table NET-7); the checks of R164 may keep the partition LOADED. -/
def armDone (p : Nat) (s : State) : State :=
  if s.pst p ≠ stLoaded ∨ !(s.part p).arming then s
  else if s.flag F.GLB_STEP_FREQ_PENDING 0 ∧ s.clk.want < s.gf F.GLB_STEP_FREQ_FREQ 0 then s
  else if !(latFails p (s.gf F.GLB_STEP_FREQ_FREQ 0) s).isEmpty then
    let s := latFaults p ((s.modPart p fun r => { r with arming := false }).sf F.PART_CMD_STATUS_BUSY p 0)
    if Store.get 0 s.ld.autos p = 1 then doneUpd (s.sf F.PART_LDR_DONE_FAIL 0 1) else s
  else armed p s

/-! ### Settings -/

/-- A write of PART_CFG_NEXT under its clamps (R84). -/
def cfgNextWrite (p w : Nat) (s : State) : State :=
  let dual := s.flag F.PART_STATE_DUAL p
  let slot := if dual then bitAt w 13 else 0
  s.setReg .PART_CFG_NEXT p (BitVec.ofNat 32 (clampDepth dual (s.dImg p) (bitsAt w 0 13) + 8192 * slot + 16384 * bitAt w 14))

/-- A write of PART_TEMPO_NEXT and of PART_FAULT_ACTION_NEXT (R84, R175). -/
def tempoNextWrite (p w : Nat) (s : State) : State := s.setReg .PART_TEMPO_NEXT p (BitVec.ofNat 32 (tempoClamp w))
def actionNextWrite (p w : Nat) (s : State) : State := s.setReg .PART_FAULT_ACTION_NEXT p (BitVec.ofNat 32 (actionClamp w))

/-- A commit that has not been sampled is withdrawn (R83). -/
def commitWithdraw (p : Nat) (s : State) : State :=
  if (s.part p).commitSampled then s else pendingUpd p ((s.sf F.PART_COMMIT_COMMIT p 0).sf F.PART_STATE_COMMIT_PEND p 0)

/-- COMMIT = 1 (R82): sampled at the gap while the partition runs, at once at a bell boundary, refused otherwise. -/
def commitWrite (rq : Requester) (p w : Nat) (s : State) : State :=
  let s := s.modPart p fun r => { r with commitRq := rq }
  if s.flag F.TRC_REPLAY_STAT_RESTORING p then cmdStatus p 15 0x20 (logRefused rq .PART_COMMIT p w s)
  else if s.live p then cmdStatus p 15 0 ((s.sf F.PART_COMMIT_COMMIT p 1).sf F.PART_STATE_COMMIT_PEND p 1)
  else if [stLoaded, stArmed, stHalted].contains (s.pst p) then applyCommit p s
  else cmdStatus p 15 0x20 (logRefused rq .PART_COMMIT p w s)

/-- PART_COMMIT written with COMMIT = 1, `cancel` with CANCEL = 1 beside it. -/
def partCommit (rq : Requester) (p : Nat) (cancel : Bool) (s : State) : State :=
  let w := 1 + 2 * b2n cancel
  if !(partOk rq p s) then denyWrite rq .PART_COMMIT p w s
  else commitWrite rq p w (okResp 0 (if cancel then commitWithdraw p s else s))

/-- PART_COMMIT written with CANCEL = 1 alone. -/
def partCommitCancel (rq : Requester) (p : Nat) (s : State) : State :=
  if !(partOk rq p s) then denyWrite rq .PART_COMMIT p 2 s else okResp 0 (commitWithdraw p s)

/-! ### The fault log's tail (R174) -/

/-- A write of PART_FAULT_TAIL: records up to, not including, the written value are consumed. -/
def faultTailWrite (rq : Requester) (p v : Nat) (s : State) : State :=
  if !(partOk rq p s) then denyWrite rq .PART_FAULT_TAIL p v s
  else
    let head := s.gf F.PART_FAULT_HEAD_HEAD p
    let tail := s.gf F.PART_FAULT_TAIL_TAIL p
    let unread := s.gf F.PART_FAULT_HEAD_UNREAD p
    let n := (v % 64 + 64 - tail) % 64
    let s := okResp 0 s
    if v % 64 = head ∨ unread < n then (s.sf F.PART_FAULT_TAIL_TAIL p head).sf F.PART_FAULT_HEAD_UNREAD p 0
    else (s.sf F.PART_FAULT_TAIL_TAIL p (v % 64)).sf F.PART_FAULT_HEAD_UNREAD p (unread - n)

/-! ### The DONE pin (R182, R183) -/

/-- The active proctor as a requester; the monitor's rights where the token is with nobody. -/
def tokenHolder (s : State) : Requester := if s.proctorActive 1 then .proctor 1 else if s.proctorActive 0 then .proctor 0 else .monitor

/-- DONE_SENSED: the level of the DONE line as sensed. A rise starts every partition that waits for it. -/
def doneSensed (high : Bool) (s : State) : State :=
  if !high then s.sf F.PART_LDR_DONE_SENSED 0 0
  else if s.flag F.PART_LDR_DONE_SENSED 0 ∨ s.flag F.PART_LDR_DONE_DRIVE 0 then s
  else
    let s := raiseIrq 36 (s.sf F.PART_LDR_DONE_SENSED 0 1)
    forUpTo 16 (fun p t =>
      if Store.get 0 t.ld.autos p = 2 then
        let t := { t with ld := { t.ld with autos := Store.set 0 p 3 t.ld.autos } }
        if t.pst p = stArmed then cmdStart (tokenHolder t) p 0 t else t
      else t) s

end Machine
end Sys2Proof
end

