-- ==== Sys2Proof/Machine/DevMem.lean ====
section
/-! DEFINITION. Accesses to the device's memories and to host apertures, by any requester (R132, R139, R149, R150, R296, R333, R335,
R336, R468, R469). Control space is served by the register operations. -/
namespace Sys2Proof
namespace Machine

/-- The ranges of Table MAP-1. -/
inductive Region where
  | control
  | ram
  | ramAlias (set : Bool)
  | bb
  | bbAlias (set : Bool)
  | hbm
  | aperture (f : Nat)
  | none
  deriving DecidableEq, Repr

/-- An address lies in `n` bytes from `b` on. -/
def within (a b n : Nat) : Bool := decide (b ≤ a) && decide (a < b + n)

/-- First address of the host apertures (R335). -/
def apBase : Nat := 0x800000000000

/-- The range an address lies in. -/
def regionAt (a : Nat) : Region :=
  if a < 0x10000000 then .control
  else if inRam a then .ram
  else if within a 0x180000000 0x1000000 then .ramAlias true
  else if within a 0x190000000 0x1000000 then .ramAlias false
  else if inBB a then .bb
  else if within a 0x210000000 0x10000000 then .bbAlias true
  else if within a 0x220000000 0x10000000 then .bbAlias false
  else if inHbm a then .hbm
  else if within a apBase 0x400000000000 then .aperture ((a - apBase) / 2 ^ 40)
  else .none

/-- The memory address behind an alias address. -/
def plainAddr (a : Nat) : Nat :=
  match regionAt a with
  | .ramAlias set => a - (if set then 0x80000000 else 0x90000000)
  | .bbAlias set => a - (if set then 0x10000000 else 0x20000000)
  | _ => a

/-- An access to an address that maps to no block or memory (R469). -/
def denyNowhere (rq : Requester) (access a data : Nat) (s : State) : State :=
  { logViol rq access a 0x21 4 data s with resp := { data := 0, status := 0x21, errkind := 4 } }

/-- The aperture of function `f` answers (R335). -/
def apOpen (f : Nat) (s : State) : Bool :=
  (decide (f = 0) || s.hif.vfEnable) && (decide (s.gf F.HIF_AP_LO_ADDR f ≠ 0) || decide (s.gf F.HIF_AP_HI_ADDR f ≠ 0))

/-- Host address of an aperture address. -/
def apHost (f a : Nat) (s : State) : Nat :=
  (s.gf F.HIF_AP_HI_ADDR f * 2 ^ 32 + s.gf F.HIF_AP_LO_ADDR f * 4096 + (a - apBase) % 2 ^ 40) % 2 ^ 64

/-- Requesters whose requests a host aperture carries: tutor cores and device units (R335). -/
def apUser : Requester → Bool
  | .core _ _ => true
  | .device _ => true
  | _ => false

/-- A host function's requests reach the blackboard, its aliases and HBM outside granule 95 alone (R333); a virtual function only
what it owns (R336). -/
def hostReach (rq : Requester) (a : Nat) (s : State) : Option Nat :=
  let host := match rq with | .pf0 => true | .vf _ => true | _ => false
  let m := plainAddr a
  if !host then none
  else if !(inBB m || inHbm m) || spareGran m then some 4
  else match rq with
    | .vf f =>
      let mine := match memOwner m s with | 0 => false | q + 1 => vfOwns f.val q s
      let g := granOf m
      let area := inHbm m && decide (g / 96 = s.gf F.HIF_VF_MEM_STACK f.val) && decide (s.gf F.HIF_VF_MEM_FIRST f.val ≤ g % 96)
        && decide (g % 96 < s.gf F.HIF_VF_MEM_FIRST f.val + s.gf F.HIF_VF_MEM_COUNT f.val)
      if s.hif.vfEnable && (mine || area) then none else some 1
    | _ => none

/-- The unit that holds core role `c`, if one does (R397). -/
def coreUnit (c : Nat) (s : State) : Option Nat :=
  (List.range 64).find? fun u => decide ((s.unit 2 u).role = c + 1) && decide ((s.unit 2 u).state = uEnrolled)

/-- A local RAM whose core role is vacant answers no access (R397). -/
def ramVacant (a : Nat) (s : State) : Bool := inRam (plainAddr a) && (coreUnit (ramCore (plainAddr a)) s).isNone

/-- The 8-byte words that `n` bytes from `a` on touch. -/
def spanWords (a n : Nat) : List Nat := (List.range ((a % 8 + n + 7) / 8)).map fun i => a / 8 * 8 + 8 * i

/-- Do `f` on each word; a violation ends it, and an error stands in the answer. -/
def eachWord (l : List Nat) (f : Nat → State → State) (s : State) : State :=
  l.foldl (fun t w =>
    if t.resp.errkind = 1 ∨ t.resp.errkind = 4 then t
    else
      let u := f w t
      if u.resp.status = 0 ∧ t.resp.status ≠ 0 then { u with resp := t.resp } else u) (okResp 0 s)

/-- An uncorrectable byte in a span. -/
def spanBad (a n : Nat) (s : State) : Bool := (List.range n).any fun i => decide (s.mem.err (a + i) ≥ 2)

/-- A clock of the stack's channels has failed: requests that are no design access end with ERRKIND 7 (Table RCP-7). -/
def stackFailed (a : Nat) (s : State) : Bool :=
  let m := plainAddr a
  inHbm m && s.rst.failed.any fun d => decide (345 ≤ d) && decide (d < 409) && decide ((d - 345) / 16 = (m - hbmBase) / hbmStack)

/-- A request ended by TIMEOUT (Table HIF-4). -/
def timedOut (s : State) : State := { s.bump F.NET_TN_ERR_TIMEOUT 0 1 with resp := { data := 0, status := 0x21, errkind := 7 } }

/-- Read `n` bytes from `a` on: the bytes, and the answer in `resp`. -/
def memRead (rq : Requester) (a n : Nat) (s : State) : List Nat × State :=
  let ok : State → List Nat × State := fun t => let b := t.rbs (plainAddr a) n; (b, okResp (fromBytes b) t)
  match hostReach rq a s with
  | some 1 => ([], denyAddr rq 0 a 0 s)
  | some _ => ([], denyNowhere rq 0 a 0 s)
  | none =>
    if ramVacant a s then ([], denyNowhere rq 0 a 0 s)
    else if stackFailed a s then ([], timedOut s)
    else match regionAt a with
    | .control => ([], denyAddr rq 0 a 0 s)
    | .none => ([], denyNowhere rq 0 a 0 s)
    | .aperture f =>
      if apUser rq && apOpen f s then
        let b := (List.range n).map fun i => (Config.hostByte i s.seq).toNat
        (b, okResp (fromBytes b) { s with hif := { s.hif with out := (f, apHost f a s, false, b) :: s.hif.out }, seq := s.seq + 1 })
      else ([], denyNowhere rq 0 a 0 s)
    | .ram => if spanBad a n s then ([], badData s) else ok s
    | .ramAlias _ => if spanBad (plainAddr a) n s then ([], badData s) else ok s
    | _ =>
      let t := eachWord (spanWords (plainAddr a) n) (fun w u => hostRead rq w u) (wakeAccess rq s)
      if t.resp.status ≠ 0 then ([], t) else ok t

/-- Byte enables and data of the 8-byte word `w` of a write of bytes `b` from `a` on; `en` says which bytes are enabled. -/
def wordBe (a n : Nat) (en : Nat → Bool) (w : Nat) : Nat :=
  ((List.range 8).map fun i => if a ≤ w + i ∧ w + i < a + n ∧ en (w + i - a) then 2 ^ i else 0).sum
def wordData (a : Nat) (b : List Nat) (w : Nat) : Nat :=
  ((List.range 8).map fun i => (if a ≤ w + i then b.getD (w + i - a) 0 % 256 else 0) * 256 ^ i).sum

/-- A byte written through a bit-set or bit-clear alias of a local RAM (R150, Table TUT-2). -/
def ramMerge (set : Bool) (a v : Nat) (s : State) : State :=
  let old := (s.rb a).toNat
  putByte a (if set then Nat.lor old v else Nat.land old (255 - v)) false s

/-- Write bytes from `a` on. -/
def memWrite (rq : Requester) (a : Nat) (b : List Nat) (en : Nat → Bool) (s : State) : State :=
  let n := b.length
  let m := plainAddr a
  let data := fromBytes (b.take 4)
  let on : List Nat := (List.range n).filter en
  match hostReach rq a s with
  | some 1 => denyAddr rq (writeAccess rq) a data s
  | some _ => denyNowhere rq (writeAccess rq) a data s
  | none =>
    if ramVacant a s then denyNowhere rq (writeAccess rq) a data s
    else if stackFailed a s then timedOut s
    else match regionAt a with
    | .control => denyAddr rq (writeAccess rq) a data s
    | .none => denyNowhere rq (writeAccess rq) a data s
    | .aperture f =>
      if apUser rq && apOpen f s then
        okResp 0 { s with hif := { s.hif with out := (f, apHost f a s, true, b) :: s.hif.out } }
      else denyNowhere rq (writeAccess rq) a data s
    | .ram => okResp 0 (forEach on (fun i t => putByte (a + i) (b.getD i 0) false t) s)
    | .ramAlias set =>
      let bad := on.any fun i => decide (s.mem.err (m + i) ≥ 2)
      let t := forEach (on.filter fun i => decide (s.mem.err (m + i) < 2)) (fun i t => ramMerge set (m + i) (b.getD i 0) t) s
      if bad then badData t else okResp 0 t
    | .bbAlias set =>
      eachWord (spanWords m n) (fun w t => if wordBe m n en w = 0 then t else aliasWrite rq set (w - bbBase) (wordBe m n en w) (wordData m b w) t) (wakeAccess rq s)
    | _ => eachWord (spanWords m n) (fun w t => if wordBe m n en w = 0 then t else hostWrite rq w (wordBe m n en w) (wordData m b w) t) (wakeAccess rq s)

end Machine
end Sys2Proof
end

