-- ==== Sys2Proof/Machine/Tutor.lean ====
section
/-! DEFINITION. Tutor cores as the dispatcher and the monitor see them, and the core trace (R294-R306, R367, R377-R383). -/
namespace Sys2Proof
namespace Machine

/-! ### Cores -/

def State.core (s : State) (c : Nat) : CoreRec := Store.get {} s.dsp.cores c
def State.modCore (s : State) (c : Nat) (f : CoreRec → CoreRec) : State :=
  { s with dsp := { s.dsp with cores := Store.set {} c (f (s.core c)) s.dsp.cores } }

def coreReset : Nat := 0
def coreRunning : Nat := 1
def coreHalted : Nat := 2
def coreLockup : Nat := 3

/-- DBG_CORE_STAT.STATE of core `c`. -/
def State.cst (s : State) (c : Nat) : Nat := s.gf F.DBG_CORE_STAT_STATE c

/-- Register `n` of core `c`, and a write of it: x0 reads 0 and discards writes. -/
def xRead (c n : Nat) (s : State) : Nat := if n = 0 then 0 else Store.get 0 s.dsp.x (32 * c + n)
def xWrite (c n v : Nat) (s : State) : State :=
  if n = 0 then s else { s with dsp := { s.dsp with x := Store.set 0 (32 * c + n) (v % 2 ^ 64) s.dsp.x } }

/-- A CSR held for core `c`. -/
def csrHeld (c n : Nat) (s : State) : Nat := Store.get 0 s.dsp.csr (4096 * c + n)
def csrPut (c n v : Nat) (s : State) : State :=
  { s with dsp := { s.dsp with csr := Store.set 0 (4096 * c + n) (v % 2 ^ 64) s.dsp.csr } }

/-- dxtmo, dxctl, dxwdog (Table TUT-4). -/
def csrTmo : Nat := 0x5C0
def csrCtl : Nat := 0x7C0
def csrWdog : Nat := 0x7C1

/-- PRIV codes of a mode (Table HIF-2). -/
def privCode : Priv → Nat
  | .user => 0
  | .supervisor => 1
  | .machine => 3

/-- A value that a core's own execution gives (entry 10): it is free. -/
def coreDraw (k w : Nat) (s : State) : Nat := Config.coreValue k s.seq % 2 ^ w
def drawn (s : State) : State := { s with seq := s.seq + 1 }

/-- The core carries out an Xdax instruction now: it runs, does not wait, and the device is not in RECESS (R443). -/
def coreFree (c : Nat) (s : State) : Bool :=
  decide (s.cst c = coreRunning) && (s.core c).wait.isNone && decide (s.gf F.RST_PWR_STAT_STATE 0 ≠ 2)

/-- A core is eligible for dispatch (R313). -/
def eligible (c : Nat) (s : State) : Bool :=
  s.flag F.DSP_CORE_CFG_EN c && decide (s.cst c = coreRunning) && (coreUnit c s).isSome

/-! ### Core trace -/

def trcOff : Nat := 0
def ctRunning : Nat := 1
def ctTriggered : Nat := 2
def ctStopped : Nat := 3

/-- What the hall pass in force names of core `c` (R384). -/
def passCore (c : Nat) (s : State) : Bool :=
  match s.dbg.pass with
  | some h => s.flag F.DBG_HP_STAT_ACTIVE 0 && decide (bitAt (s.gf F.DBG_HP_STAT_SCOPE 0) 0 = 1) && decide (bitAt h.cores c = 1)
  | none => false

/-- M-mode of core `c` is excluded from trace and debug (Table DBG-8). -/
def coreExcluded (c : Nat) (s : State) : Bool := s.inService && !passCore c s

/-- The trace of core `c` emits. -/
def coreTracing (c : Nat) (s : State) : Bool :=
  let t := (s.core c).trc
  (decide (s.gf F.DBG_CORE_STAT_TRC c = ctRunning) || decide (s.gf F.DBG_CORE_STAT_TRC c = ctTriggered)) && !t.held && !t.paused

/-- The bytes of a packet, with the count of core clocks since the last timed packet where TS is set (R377). -/
def ctBytes (c type hi : Nat) (timed : Bool) (body : List Nat) (s : State) : List Nat :=
  let ts := timed && decide (bitAt (s.core c).trc.flags 1 = 1)
  [type + 16 * b2n ts + 32 * hi] ++ body ++ (if ts then toBytes 2 (coreDraw (16 * c + 9) 16 s) else [])

/-- Give a packet of core `c` to the funnel. -/
def ctPut (c : Nat) (b : List Nat) (s : State) : State :=
  s.modCore c (fun r => { r with trc := { r.trc with since := r.trc.since + b.length } }) |> drawn |> funnelPut (1 + c) b

/-- The SYNC packet: privilege, next instruction, mcycle, ASID; what execution gives is free. -/
def ctSync (c hi : Nat) (s : State) : State :=
  let body := [(s.core c).priv] ++ toBytes 6 (coreDraw (16 * c) 48 s) ++ toBytes 6 (coreDraw (16 * c + 1) 48 s) ++ toBytes 2 (coreDraw (16 * c + 2) 16 s)
  let s := ctPut c (ctBytes c 1 hi false body s) s
  s.modCore c fun r => { r with trc := { r.trc with since := 0 } }

/-- A packet of core `c`, where its trace emits and its mode is not excluded (R378, R383); SYNC comes first where one is due. A span in
M-mode that is excluded is closed by GAP kind 0. -/
def ctEmit (c type hi : Nat) (timed : Bool) (body : List Nat) (s : State) : State :=
  let r := s.core c
  if !(coreTracing c s) then s
  else if coreExcluded c s ∧ r.priv = 3 then s.modCore c fun r => { r with trc := { r.trc with excl := true } }
  else
    let s := if r.trc.excl then
        ctPut c (ctBytes c 8 0 true (toBytes 5 (coreDraw (16 * c + 3) 40 s)) s) (s.modCore c fun r => { r with trc := { r.trc with excl := false } })
      else s
    let b := ctBytes c type hi timed body s
    let s := if 2 ^ r.trc.syncLog < (s.core c).trc.since + b.length then ctSync c 0 s else s
    if type = 1 then ctSync c hi s else ctPut c b s

/-- SLEEP before the core's clock stops: 0 WFI, 1 dx.bellwait, 2 dx.deskpop, 3 device recess (R380). -/
def ctSleep (c kind : Nat) (s : State) : State :=
  let s := ctEmit c 6 kind true ([0] ++ toBytes 4 (coreDraw (16 * c + 4) 32 s)) s
  s.modCore c fun r => { r with trc := { r.trc with asleep := true } }

/-- WAKE and SYNC as the clock starts again. -/
def ctWake (c : Nat) (s : State) : State :=
  if (s.core c).trc.asleep then
    let s := s.modCore c fun r => { r with trc := { r.trc with asleep := false } }
    ctEmit c 1 0 false [] (ctEmit c 7 0 false (toBytes 5 (coreDraw (16 * c + 5) 40 s)) s)
  else s

/-- The core trace trigger (R379): the first one emits SYNC with TRIG. -/
def ctTrigger (c : Nat) (s : State) : State :=
  if s.gf F.DBG_CORE_STAT_TRC c = ctRunning then ctEmit c 1 1 false [] (s.sf F.DBG_CORE_STAT_TRC c ctTriggered) else s

/-- CORE_TRACE_STOP: POST instructions after the trigger have retired (R379). -/
def coreTraceStop (c : Nat) (s : State) : State :=
  if s.gf F.DBG_CORE_STAT_TRC c = ctTriggered then (ctEmit c 1 2 false [] s).sf F.DBG_CORE_STAT_TRC c ctStopped else s

end Machine
end Sys2Proof
end

