-- ==== Sys2Proof/Machine/Dispatcher.lean ====
section
/-! DEFINITION. The dispatcher: queues, delay lists, placement, desk slots, completion (R307-R320). -/
namespace Sys2Proof
namespace Machine

/-! ### Queues -/

def qDisabled : Nat := 0
def qEnabled : Nat := 1
def qPaused : Nat := 2
def qDraining : Nat := 3

/-- DSP_Q_STAT.STATE of queue `q`. -/
def State.qst (s : State) (q : Nat) : Nat := s.gf F.DSP_Q_STAT_STATE q

/-- The dispatcher that serves queue `q`, that of its HOME base, as a requester (Table HIF-10). -/
def qUnit (q : Nat) (s : State) : Requester := if s.gf F.DSP_Q_CFG_HOME q = 0 then .device 0x10 else .device 0x11

/-- k of R307; address of ring slot `i`; descriptors in the ring. -/
def qDepth (q : Nat) (s : State) : Nat := min 16 (s.gf F.DSP_Q_RING_HI_DEPTH_LOG2 q)
def qSlot (q i : Nat) (s : State) : Nat :=
  (s.gf F.DSP_Q_RING_HI_ADDR q * 2 ^ 32 + s.gf F.DSP_Q_RING_LO_ADDR q * 32 + 32 * (i % 2 ^ qDepth q s)) % 2 ^ 48
def qCount (q : Nat) (s : State) : Nat := (s.gf F.DSP_Q_TAIL_TAIL q + 2 ^ 17 - s.gf F.DSP_Q_HEAD_HEAD q) % 2 ^ 17
def qFull (q : Nat) (s : State) : Bool := decide (2 ^ qDepth q s ≤ qCount q s)

/-- Tasks returned to the head of a queue; tasks whose delay has expired; the ring's head as read, once it may run. -/
def qBack (q : Nat) (s : State) : List Task := Store.get [] s.dsp.back q
def qExpd (q : Nat) (s : State) : List Task := Store.get [] s.dsp.expd q
def qTop (q : Nat) (s : State) : Option Task := Store.find s.dsp.top q
def setBack (q : Nat) (l : List Task) (s : State) : State := { s with dsp := { s.dsp with back := Store.set [] q l s.dsp.back } }
def setExpd (q : Nat) (l : List Task) (s : State) : State := { s with dsp := { s.dsp with expd := Store.set [] q l s.dsp.expd } }
def setTop (q : Nat) (t : Option Task) (s : State) : State :=
  { s with dsp := { s.dsp with top := match t with | some t => Store.put q t s.dsp.top | none => Store.del q s.dsp.top } }

/-- The task at the head of a queue (R313). -/
def qHead (q : Nat) (s : State) : Option Task :=
  match qBack q s, qExpd q s with
  | t :: _, _ => some t
  | [], t :: _ => some t
  | [], [] => qTop q s

/-- A queue is ready: ENABLED, below its in-flight limit, with a task that may run. A pending configuration holds it (R312). -/
def qReady (q : Nat) (s : State) : Bool :=
  decide (s.qst q = qEnabled) && !(s.flag F.DSP_Q_STAT_COMMIT_PEND q)
    && decide (s.gf F.DSP_Q_STAT_INFLIGHT q < s.gf F.DSP_Q_CFG_INFLIGHT q) && (qHead q s).isSome

/-! ### Completion (R310, R335) -/

/-- The function that owns queue `q`; none for INTERNAL. -/
def qFunction (q : Nat) (s : State) : Option Nat :=
  let o := s.gf F.DSP_Q_CFG_OWNER q
  if o < 64 then some o else none

/-- Write a completion record, but to no other function's aperture (R335). -/
def cplWrite (q addr : Nat) (b : List Nat) (s : State) : State :=
  let rq := qUnit q s
  let a := addr % 2 ^ 48 / 16 * 16
  match regionAt a with
  | .aperture f =>
    if qFunction q s = some f then memWrite rq a b (fun _ => true) s
    else logViol rq 1 a 0x21 1 (fromBytes (b.take 4)) s
  | _ => memWrite rq a b (fun _ => true) s

/-- The completion of a task: record, then interrupt (R310, R339, R340). -/
def complete (t : Task) (status core : Nat) (s : State) : State :=
  let r := s.resp
  let s := if bitAt t.flags 0 = 1 then
      let b := toBytes 2 t.tag ++ toBytes 2 status ++ toBytes 2 t.queue ++ [core, min 255 t.disp] ++ toBytes 8 (coreDraw 1024 64 s)
      cplWrite t.queue t.cpl b (drawn s)
    else s
  let s := if bitAt t.flags 1 = 1 ∧ s.flag F.HIF_QIRQ_EN t.queue then
      sendMsix (s.gf F.HIF_QIRQ_FN t.queue) (s.gf F.HIF_QIRQ_VECTOR t.queue) s
    else s
  { s with resp := r }

/-! ### The head of a ring -/

/-- A descriptor (Table TUT-6). -/
def taskOf (q prio : Nat) (b : List Nat) : Task :=
  let at' : Nat → Nat → Nat := fun o n => fromBytes ((b.drop o).take n)
  { entry := at' 0 8, arg := at' 8 8, delay := at' 16 3, flags := at' 19 1, tag := at' 20 2, cpl := at' 24 8, queue := q, prio := prio }

/-- A task enters a delay list: due counts ascend, and tasks of one count stand in order of priority, then of entry (R317). -/
def delayInsert (cnt : Nat) (e : Nat × Task) : List (Nat × Task) → List (Nat × Task)
  | [] => [e]
  | x :: r =>
    let d : Nat → Nat := fun v => (v + 2 ^ 32 - cnt) % 2 ^ 32
    if d e.1 < d x.1 ∨ (e.1 = x.1 ∧ e.2.prio < x.2.prio) then e :: x :: r else x :: delayInsert cnt e r

def delayList (n : Nat) (s : State) : List (Nat × Task) := Store.get [] s.dsp.lists n
def setDelay (n : Nat) (l : List (Nat × Task)) (s : State) : State :=
  { s with dsp := { s.dsp with lists := Store.set [] n l s.dsp.lists } }.sf F.DSP_TICK_STAT_OCC n l.length

/-- A task of queue `q` stands in a delay list. -/
def qDelayed (q : Nat) (s : State) : Bool := s.dsp.lists.any fun e => e.2.any fun x => x.2.queue == q

/-- Take the ring's head out of the ring. -/
def qAdvance (q : Nat) (s : State) : State := s.sf F.DSP_Q_HEAD_HEAD q (s.gf F.DSP_Q_HEAD_HEAD q + 1)

/-- Look at the ring's head until a task stands there that may run, that must wait, or the ring is empty (R307, R309, R317). `fuel`
bounds the descriptors looked at: a ring holds at most 2^16. -/
def qSettle (fuel q : Nat) (s : State) : State :=
  match fuel with
  | 0 => s
  | fuel + 1 =>
    let ordered := s.flag F.DSP_Q_CFG_ORDERED q
    if s.qst q ≠ qEnabled ∨ s.flag F.DSP_Q_STAT_COMMIT_PEND q ∨ qCount q s = 0 ∨ (qHead q s).isSome ∨ (ordered ∧ qDelayed q s) then s
    else
      let r := s.resp
      let (b, u) := memRead (qUnit q s) (qSlot q (s.gf F.DSP_Q_HEAD_HEAD q) s) 32 s
      let ok := decide (u.resp.status = 0)
      let u := u.withResp r
      if !ok then (u.sf F.DSP_Q_STAT_RDERR q 1).sf F.DSP_Q_STAT_STATE q qPaused
      else
        let t := taskOf q (s.gf F.DSP_Q_CFG_PRIO q) b
        if t.entry = 0 ∨ 2 ^ 48 ≤ t.entry then
          qSettle fuel q (complete t 0xFFFE 0xFF ((qAdvance q u).bump F.DSP_BADDESC_COUNT 0 1))
        else if t.delay = 0 then setTop q (some t) u
        else
          let n := s.gf F.DSP_Q_CFG_TICK q
          if 4096 ≤ (delayList n u).length then u
          else
            let cnt := u.gf F.DSP_TICK_CNT_COUNT n
            qSettle fuel q (qAdvance q (setDelay n (delayInsert cnt ((cnt + t.delay) % 2 ^ 32, t) (delayList n u)) u))

/-- Settle a queue: as many descriptors as its ring holds. -/
def settle (q : Nat) (s : State) : State := qSettle (qCount q s + 1) q s

/-- Queues whose status is not as at reset, in rising order: every queue that is not DISABLED is among them. -/
def liveQueues (s : State) : List Nat :=
  ((s.regs.filter fun e => decide (e.1 % regStride = Reg.DSP_Q_STAT.ctorIdx)).map fun e => e.1 / regStride).filter fun q => s.qst q ≠ qDisabled

/-! ### In-flight count and boundaries -/

/-- What follows when a queue's in-flight count has fallen (R311, R312, Table TUT-9). -/
def qBoundary (q : Nat) (s : State) : State :=
  if s.gf F.DSP_Q_STAT_INFLIGHT q ≠ 0 then s
  else
    let s := if s.flag F.DSP_Q_STAT_COMMIT_PEND q then
        (s.setReg .DSP_Q_CFG q (s.reg .DSP_Q_CFG_NEXT q)).sf F.DSP_Q_STAT_COMMIT_PEND q 0
      else s
    settle q (if s.qst q = qDraining then s.sf F.DSP_Q_STAT_STATE q qDisabled else s)

/-- One task fewer is in flight. -/
def qLess (q : Nat) (s : State) : State := qBoundary q (s.sf F.DSP_Q_STAT_INFLIGHT q (s.gf F.DSP_Q_STAT_INFLIGHT q - 1))

/-- Return a desk-slot entry to the head of its queue (R315, R316). -/
def qReturn (t : Task) (s : State) : State := qLess t.queue (setBack t.queue (t :: qBack t.queue s) s)

/-- Return the desk-slot entries of core `c` that `f` picks, the first one to the front of its queue. -/
def deskReturn (c : Nat) (f : Task → Bool) (s : State) : State :=
  let l := (s.core c).desk
  let s := s.modCore c fun r => { r with desk := l.filter fun t => !f t }
  forEach (l.filter f).reverse (fun t u => qReturn t u) s

/-- All of them (R316). -/
def deskEmpty (c : Nat) (s : State) : State := deskReturn c (fun _ => true) s

/-- The running task of core `c` is lost (R316). -/
def taskLost (c : Nat) (s : State) : State :=
  match (s.core c).cur with
  | none => s
  | some t => qLess t.queue (complete t 0xFFFF c (s.modCore c fun r => { r with cur := none }))

/-! ### Placement (R313-R315) -/

/-- A desk slot is kept in ascending priority number, then in order of placement. -/
def deskInsert (t : Task) : List Task → List Task
  | [] => [t]
  | x :: r => if t.prio < x.prio then t :: x :: r else x :: deskInsert t r

/-- Cores eligible for a queue. -/
def coresFor (q : Nat) (s : State) : List Nat :=
  (List.range 64).filter fun c => decide (bitAt (s.gf F.DSP_Q_CFG_CLUSTERS q) (c / 8) = 1) && eligible c s

/-- The core waits in dx.deskpop. -/
def inDeskpop (c : Nat) (s : State) : Bool :=
  match (s.core c).wait with
  | some w => w.bell.isNone
  | none => false

/-- The core R314 chooses for a task of queue `q`: first class not empty, HOME base first, lowest number. -/
def chooseCore (q : Nat) (s : State) : Option Nat :=
  let l := coresFor q s
  let home := s.gf F.DSP_Q_CFG_HOME q
  let pick : (Nat → Bool) → Option Nat := fun f =>
    match l.find? fun c => f c && decide (c / 32 = home) with
    | some c => some c
    | none => l.find? f
  match pick fun c => inDeskpop c s && decide ((s.core c).desk.length < 2) with
  | some c => some c
  | none => match pick fun c => decide ((s.core c).desk.length = 0) with
    | some c => some c
    | none => pick fun c => decide ((s.core c).desk.length = 1)

/-- The desk-slot entry R315 displaces for a task of priority `prio`: largest priority number above it, most recent placement. -/
def victim (q prio : Nat) (s : State) : Option (Nat × Task) :=
  ((coresFor q s).flatMap fun c => (s.core c).desk.map fun t => (c, t)).foldl (fun b e =>
    if e.2.prio ≤ prio then b
    else match b with
      | none => some e
      | some x => if x.2.prio < e.2.prio ∨ (x.2.prio = e.2.prio ∧ x.2.order < e.2.order) then some e else b) none

/-- Take the head task out of queue `q`. -/
def qTake (q : Nat) (s : State) : State :=
  match qBack q s, qExpd q s with
  | _ :: r, _ => setBack q r s
  | [], _ :: r => setExpd q r s
  | [], [] => setTop q none (qAdvance q s)

/-- dx.deskpop takes entry 0: it becomes the current task and rd receives its ENTRY (R300). -/
def popTask (c rd : Nat) (s : State) : State :=
  match (s.core c).desk with
  | [] => s
  | t :: r => xWrite c rd t.entry (s.modCore c fun z => { z with desk := r, cur := some t, wait := none })

/-- Place the head task of queue `q` on core `c`; a core that waits in dx.deskpop takes it at once. -/
def placeOn (q c : Nat) (s : State) : State :=
  match qHead q s with
  | none => s
  | some t =>
    let n := s.dsp.order + 1
    let s := settle q (qTake q (s.sf F.DSP_Q_STAT_INFLIGHT q (s.gf F.DSP_Q_STAT_INFLIGHT q + 1)))
    let s := { s with dsp := { s.dsp with order := n } }
    let s := { s with dsp := { s.dsp with rr := Store.set 0 (s.gf F.DSP_Q_CFG_PRIO q) ((q + 1) % 16384) s.dsp.rr } }
    let s := s.modCore c fun r => { r with desk := deskInsert { t with order := n } r.desk }
    match (s.core c).wait with
    | some w => if w.bell.isNone then ctWake c (popTask c w.rd s) else s
    | none => s

/-- Displace an entry of core `c` for the head task of queue `q` (R315). -/
def displace (q c : Nat) (v : Task) (s : State) : State :=
  let s := s.modCore c fun r => { r with desk := r.desk.filter fun t => t.order != v.order }
  let s := qReturn { v with disp := v.disp + 1 } (s.bump F.DSP_DISPLACED_COUNT 0 1)
  placeOn q c s

/-- Ready queues in the order of R313: levels ascending, in a level from its round-robin pointer on. -/
def readyOrder (s : State) : List Nat :=
  let l := (liveQueues s).filter fun q => qReady q s
  (List.range 32).flatMap fun lv =>
    let m := l.filter fun q => s.gf F.DSP_Q_CFG_PRIO q = lv
    let ptr := Store.get 0 s.dsp.rr lv
    (m.filter fun q => ptr ≤ q) ++ m.filter fun q => q < ptr

/-- TASK_PLACE: the first ready task that finds a core with a free entry, or an entry to displace, is placed. -/
def taskPlace (s : State) : State :=
  let can : Nat → Option (Nat × Nat × Option Task) := fun q => match chooseCore q s with
    | some c => some (q, c, none)
    | none => match victim q (s.gf F.DSP_Q_CFG_PRIO q) s with
      | some (c, v) => some (q, c, some v)
      | none => none
  match (readyOrder s).findSome? can with
  | some (q, c, none) => placeOn q c s
  | some (q, c, some v) => displace q c v s
  | none => s

/-! ### Tick sources (R317, R318) -/

/-- The count of tick source `n` advances; tasks that fall due expire (R317). -/
def tickAdvance (n : Nat) (s : State) : State :=
  let cnt := (s.gf F.DSP_TICK_CNT_COUNT n + 1) % 2 ^ 32
  let s := s.sf F.DSP_TICK_CNT_COUNT n cnt
  let l := delayList n s
  let s := if l.any (fun e => e.1 == cnt) then setDelay n (l.filter fun e => e.1 != cnt) s else s
  let s := forEach (l.filter fun e => e.1 == cnt) (fun e t => setExpd e.2.queue (qExpd e.2.queue t ++ [{ e.2 with delay := 0 }]) t) s
  if l.any (fun e => e.1 == cnt) then forEach (liveQueues s) (fun q t => settle q t) s else s

/-- TICK_SOURCE_TICK: device time, a bell or a trigger channel gives a tick (Table TUT-8). -/
def tickSource (n : Nat) (s : State) : State :=
  let p := s.gf F.DSP_TICK_CFG_SEL n
  match s.gf F.DSP_TICK_CFG_KIND n with
  | 1 => tickAdvance n s
  | 2 => if s.pst p = stRunning ∧ !(s.flag F.PART_STATE_WAITING p) then tickAdvance n s else s
  | 3 => tickAdvance n s
  | _ => s

/-- An advance of a SOFT source: whether it was one (R303). -/
def softTick (n : Nat) (s : State) : Bool := decide (s.gf F.DSP_TICK_CFG_KIND n = 4)

/-! ### Queue commands (R308, R311, R312) -/

/-- Requesters that DSP_Q_CMD admits for queue `q`. -/
def qCmdOk (rq : Requester) (q : Nat) (s : State) : Bool :=
  match rq with
  | .pf0 => true
  | .monitor => true
  | .core _ .machine => true
  | .core _ .supervisor => true
  | .proctor i => s.proctorActive i.val
  | .vf f => s.hif.vfEnable && decide (s.gf F.DSP_Q_CFG_OWNER q = f.val) && decide (f.val ≠ 0)
  | _ => false

/-- A queue command. -/
def qCmd (rq : Requester) (q cmd : Nat) (legal : Bool) (f : State → State) (s : State) : State :=
  if !(qCmdOk rq q s) then (denyWrite rq .DSP_Q_CMD q cmd s).sf F.DSP_Q_STAT_CMDST q 0x21
  else if !legal then logRefused rq .DSP_Q_CMD q cmd (okResp 0 (s.sf F.DSP_Q_STAT_CMDST q 0x20))
  else f (okResp 0 (s.sf F.DSP_Q_STAT_CMDST q 0))

/-- Q_ENABLE. -/
def qEnable (rq : Requester) (q : Nat) (s : State) : State :=
  qCmd rq q 1 (decide (s.qst q = qDisabled ∧ 1 ≤ qDepth q s)) (fun s => settle q (s.sf F.DSP_Q_STAT_STATE q qEnabled)) s

/-- Q_DISABLE: pushes are refused and desk-slot entries return. -/
def qDisable (rq : Requester) (q : Nat) (s : State) : State :=
  qCmd rq q 2 (decide (s.qst q = qEnabled ∨ s.qst q = qPaused)) (fun s =>
    let s := setTop q none (s.sf F.DSP_Q_STAT_STATE q qDraining)
    qBoundary q (forUpTo 64 (fun c t => deskReturn c (fun x => x.queue == q) t) s)) s

/-- Q_PAUSE: the ring's head is read again at UNPAUSE. -/
def qPause (rq : Requester) (q : Nat) (s : State) : State :=
  qCmd rq q 3 (decide (s.qst q = qEnabled)) (fun s => setTop q none (s.sf F.DSP_Q_STAT_STATE q qPaused)) s

/-- Q_UNPAUSE. -/
def qUnpause (rq : Requester) (q : Nat) (s : State) : State :=
  qCmd rq q 4 (decide (s.qst q = qPaused)) (fun s => settle q ((s.sf F.DSP_Q_STAT_STATE q qEnabled).sf F.DSP_Q_STAT_RDERR q 0)) s

/-- Drop the tasks of queue `q` from every delay list. -/
def delayDrop (q : Nat) (s : State) : State :=
  forUpTo 4 (fun n t =>
    if (delayList n t).any (fun e => e.2.queue == q) then setDelay n ((delayList n t).filter fun e => e.2.queue != q) t else t) s

/-- Q_FLUSH: nothing of the queue is left but what runs or stands in desk slots. -/
def qFlush (rq : Requester) (q : Nat) (s : State) : State :=
  qCmd rq q 5 (decide (s.qst q = qDisabled ∨ s.qst q = qPaused)) (fun s =>
    let s := setTop q none (setExpd q [] (setBack q [] (s.sf F.DSP_Q_HEAD_HEAD q (s.gf F.DSP_Q_TAIL_TAIL q))))
    delayDrop q s) s

/-- A DSP_Q_CFG value under its clamps. -/
def qCfgClamp (w : Nat) : Nat :=
  let w := w % 2 ^ 30
  let w := if bitsAt w 16 6 = 0 then w + 65536 else w
  if 64 ≤ bitsAt w 23 7 then w - bitsAt w 23 7 * 2 ^ 23 + 0x40 * 2 ^ 23 else w

/-- Q_CFG_NEXT_WRITE: staged for the queue's next task boundary (R312). -/
def qCfgNextWrite (rq : Requester) (q w : Nat) (s : State) : State :=
  if !(adminOk rq s) then denyWrite rq .DSP_Q_CFG_NEXT q w s
  else
    let s := okResp 0 ((s.setReg .DSP_Q_CFG_NEXT q (BitVec.ofNat 32 (qCfgClamp w))).sf F.DSP_Q_STAT_COMMIT_PEND q 1)
    let s := setTop q none s
    qBoundary q (forUpTo 64 (fun c t => deskReturn c (fun x => x.queue == q) t) s)

/-- A push is legal: ENABLED or PAUSED, and the ring not full (Table TUT-5). -/
def pushLegal (q : Nat) (s : State) : Bool := (decide (s.qst q = qEnabled) || decide (s.qst q = qPaused)) && !qFull q s

/-- QUEUE_TAIL_WRITE: a write of DSP_Q_TAIL (R308, R311). -/
def queueTailWrite (rq : Requester) (q v : Nat) (s : State) : State :=
  let own := s.gf F.DSP_Q_CFG_OWNER q
  let ok := match rq with
    | .pf0 => true
    | .monitor => true
    | .proctor i => s.proctorActive i.val
    | .vf f => s.hif.vfEnable && decide (own = f.val) && decide (f.val ≠ 0)
    | _ => false
  if own = 0x40 ∨ !ok then (denyWrite rq .DSP_Q_TAIL q v s).sf F.DSP_Q_STAT_CMDST q 0x21
  else if !(pushLegal q s) then logRefused rq .DSP_Q_TAIL q v (okResp 0 (s.sf F.DSP_Q_STAT_CMDST q 0x20))
  else
    let head := s.gf F.DSP_Q_HEAD_HEAD q
    let n := (v % 2 ^ 17 + 2 ^ 17 - head) % 2 ^ 17
    settle q (okResp 0 ((s.sf F.DSP_Q_TAIL_TAIL q (head + min n (2 ^ qDepth q s))).sf F.DSP_Q_STAT_CMDST q 0))

/-- A write of DSP_TICK_CMD (R303, R318). -/
def tickCmdWrite (rq : Requester) (w : Nat) (s : State) : State :=
  let n := w % 4
  if !(adminOk rq s) then (denyWrite rq .DSP_TICK_CMD 0 w s).sf F.DSP_TICK_STAT_CMDST n 0x21
  else if bitAt w 8 = 0 then okResp 0 s
  else if softTick n s then tickAdvance n (okResp 0 (s.sf F.DSP_TICK_STAT_CMDST n 0))
  else logRefused rq .DSP_TICK_CMD 0 w (okResp 0 (s.sf F.DSP_TICK_STAT_CMDST n 0x20))

/-- CORE_CFG_WRITE: EN = 0 returns the desk slot of core `c` (R316); a vacant role's EN reads 0 (R397). -/
def coreCfgWrite (rq : Requester) (c : Nat) (en : Bool) (s : State) : State :=
  if !(adminOk rq s) then denyWrite rq .DSP_CORE_CFG c (b2n en) s
  else
    let s := okResp 0 (s.sflag F.DSP_CORE_CFG_EN c (en && (coreUnit c s).isSome))
    if en then s else deskEmpty c s

end Machine
end Sys2Proof
end

