-- ==== Sys2Proof/Machine/Xdax.lean ====
section
/-! DEFINITION. The Xdax instructions (R298-R305). A row gives the core, the mode it runs in, rd, and the values of rs1 and rs2; what it
does besides writing rd is here, fetching and retiring it is the core's own. -/
namespace Sys2Proof
namespace Machine

/-- An Xdax instruction: it needs a core that runs and does not wait, and raises an illegal-instruction exception in U mode while
dxctl.UX = 0 (R298). -/
def xdax (c : Nat) (m : Priv) (f : State → State) (s : State) : State :=
  if !(coreFree c s) then s
  else
    let s := s.modCore c fun r => { r with priv := privCode m }
    if m = .user ∧ bitAt (csrHeld c csrCtl s) 0 = 0 then s.modCore c fun r => { r with trap := some 2 } else f s

/-- rd of dx.bellwait (R299). -/
def bellResult (p reason : Nat) (s : State) : Nat := (s.part p).bell % 2 ^ 48 + reason * 2 ^ 60

/-- The core stops its clock and waits (text after R303). -/
def waitBegin (c : Nat) (w : CoreWait) (s : State) : State :=
  (ctSleep c (if w.bell.isSome then 1 else 2) s).modCore c fun r => { r with wait := some w }

/-- DX_BELLWAIT. Where the bell is reached and the partition is not live, the bell is taken as the reason. -/
def dxBellwait (c : Nat) (m : Priv) (rd v1 v2 : Nat) (s : State) : State :=
  let p := v1 % 16
  let target := v2 % 2 ^ 48
  xdax c m (fun s =>
    if target ≤ (s.part p).bell % 2 ^ 48 then xWrite c rd (bellResult p 0 s) s
    else if !(s.live p) then xWrite c rd (bellResult p 1 s) s
    else waitBegin c { bell := some (p, target), rd := rd } s) s

/-- The end of a wait holds (R299): 0 the bell, 1 the partition's state, 2 an interrupt, 3 the limit. -/
def bellEnds (c p target reason : Nat) (s : State) : Bool :=
  match reason with
  | 0 => decide (target ≤ (s.part p).bell % 2 ^ 48)
  | 1 => !(s.live p)
  | 2 => true
  | _ => decide (csrHeld c csrTmo s % 65536 ≠ 0)

/-- BELLWAIT_WAKE. -/
def bellwaitWake (c reason : Nat) (s : State) : State :=
  match (s.core c).wait with
  | some { bell := some (p, target), rd := rd } =>
    if bellEnds c p target reason s then
      ctWake c (xWrite c rd (bellResult p reason s) (s.modCore c fun r => { r with wait := none }))
    else s
  | _ => s

/-- The value of rd that says no task (R300), and the one that says STATE_ERR. -/
def deskEmptyValue : Nat := 2 ^ 63
def deskOpenValue : Nat := 2 ^ 63 + 0x20

/-- DX_DESKPOP: `nowait` is rs1[0]. -/
def dxDeskpop (c : Nat) (m : Priv) (rd v1 : Nat) (s : State) : State :=
  xdax c m (fun s =>
    if (s.core c).cur.isSome then
      xWrite c rd deskOpenValue (logRefused (.core ⟨c % 64, Nat.mod_lt _ (by decide)⟩ m) .DSP_DESK_STAT c 0 s)
    else if !(s.core c).desk.isEmpty then popTask c rd s
    else if v1 % 2 = 1 then xWrite c rd deskEmptyValue s
    else waitBegin c { bell := none, rd := rd } s) s

/-- DESKPOP_TIMEOUT: the limit of dxtmo, or an interrupt, ends the wait with the empty value. -/
def deskpopTimeout (c : Nat) (irq : Bool) (s : State) : State :=
  match (s.core c).wait with
  | some { bell := none, rd := rd } =>
    if irq || decide (csrHeld c csrTmo s / 65536 % 65536 ≠ 0) then
      ctWake c (xWrite c rd deskEmptyValue (s.modCore c fun r => { r with wait := none }))
    else s
  | _ => s

/-- DX_DESKDONE (R301, R310). -/
def dxDeskdone (c : Nat) (m : Priv) (rd v1 : Nat) (s : State) : State :=
  xdax c m (fun s =>
    match (s.core c).cur with
    | none => xWrite c rd 0x20 (logRefused (.core ⟨c % 64, Nat.mod_lt _ (by decide)⟩ m) .DSP_DESK_STAT c 0 s)
    | some t =>
      let st := v1 % 65536
      let s := complete t (if st = 0xFFFF ∨ st = 0xFFFE then 0xFFFD else st) c s
      xWrite c rd 0 (qLess t.queue (s.modCore c fun r => { r with cur := none }))) s

/-- DX_QPUSH: `v2` is the device address of the descriptor, after the core's own translation (R302). -/
def dxQpush (c : Nat) (m : Priv) (rd v1 v2 : Nat) (s : State) : State :=
  let q := v1 % 16384
  let rq : Requester := .core ⟨c % 64, Nat.mod_lt _ (by decide)⟩ m
  let trap : State → State := fun s => s.modCore c fun r => { r with trap := some 5 }
  xdax c m (fun s =>
    if s.gf F.DSP_Q_CFG_OWNER q ≠ 0x40 then
      xWrite c rd 0x21 (logViol rq 4 (regAddr .DSP_Q_TAIL q) 0x21 1 0 (s.sf F.DSP_Q_STAT_CMDST q 0x21))
    else if !(pushLegal q s) then xWrite c rd 0x20 (logRefused rq .DSP_Q_TAIL q 0 (s.sf F.DSP_Q_STAT_CMDST q 0x20))
    else if regionAt (v2 % 2 ^ 48) = .control then trap s
    else
      let p := memRead rq (v2 % 2 ^ 48) 32 s
      let u := p.2
      if u.resp.status ≠ 0 then trap u
      else
        let tail := u.gf F.DSP_Q_TAIL_TAIL q
        let u := memWrite (qUnit q u) (qSlot q tail u) p.1 (fun _ => true) u
        let u := settle q ((u.sf F.DSP_Q_TAIL_TAIL q (tail + 1)).sf F.DSP_Q_STAT_CMDST q 0)
        xWrite c rd (tail * 65536) u) s

/-- DX_TICK (R303). -/
def dxTick (c : Nat) (m : Priv) (rd v1 : Nat) (s : State) : State :=
  let n := v1 % 4
  xdax c m (fun s =>
    if softTick n s then xWrite c rd 0 (tickAdvance n s)
    else xWrite c rd 0x20 (logRefused (.core ⟨c % 64, Nat.mod_lt _ (by decide)⟩ m) .DSP_TICK_CMD 0 (n + 256) s)) s

end Machine
end Sys2Proof
end

