-- ==== Sys2Proof/Machine/Hif.lean ====
section
/-! DEFINITION. PCI Express functions: their resets, configuration space and masked vectors (R330, R336-R339, R357). -/
namespace Sys2Proof
namespace Machine

/-- The MSI-X table entries of function `f` (R339). -/
def msixShare (f : Nat) (s : State) : Nat :=
  let n := s.gf F.HIF_CFG_PER_VF 0
  if f = 0 then 2048 - 63 * n else n

/-- A function's MSI-X table returns to reset: every vector masked, none pending. -/
def msixReset (f : Nat) (s : State) : State :=
  { s with hif := { s.hif with unmasked := Store.clear (2048 * f) (2048 * f + 2048) s.hif.unmasked
                               msixPend := Store.clear (2048 * f) (2048 * f + 2048) s.hif.msixPend } }

/-- The queues a function owns that take DISABLE. -/
def vfQueues (f : Nat) (s : State) : List Nat :=
  (liveQueues s).filter fun q => s.gf F.DSP_Q_CFG_OWNER q = f && (decide (s.qst q = qEnabled) || decide (s.qst q = qPaused))

/-- VF_FLR: a Function Level Reset of VF `f` (R337). -/
def vfFlr (f : Nat) (s : State) : State :=
  if f = 0 ∨ !s.hif.vfEnable then s
  else
    let r := s.resp
    let s := forUpTo 16 (fun p t =>
      if vfOwns f p t then
        let t := forEach (mbxOf p t) (fun g t => mbxEmpty g t) t
        if t.pst p = stEmpty then t else abortPart p t
      else t) s
    let s := forEach (vfQueues f s) (fun q t => qDisable .pf0 q t) s
    let s := (s.setReg .HIF_VF_WIN_LO f 0).setReg .HIF_VF_WIN_HI f 0
    let s := (s.setReg .HIF_AP_LO f 0).setReg .HIF_AP_HI f 0
    { msixReset f s with resp := r }

/-- The state of every function returns to reset and VF Enable clears; no partition is aborted and queues run on (R337). -/
def hifReset (s : State) : State :=
  let s := [Reg.HIF_CFG, .HIF_WIN_LO, .HIF_WIN_HI, .HIF_VF_OWN, .HIF_VF_MEM, .HIF_VF_WIN_LO, .HIF_VF_WIN_HI, .HIF_AP_LO, .HIF_AP_HI].foldl
    (fun t r => t.resetAll r) s
  { s with hif := { s.hif with vfEnable := false, ptmEnable := false, unmasked := [], msixPend := [], aer := [] } }

/-- LINK_DOWN. -/
def linkDown (s : State) : State := hifReset (s.setReg .HIF_LINK_STAT 0 0)

/-- MSIX_UNMASK: a pending message is sent (R339). -/
def msixUnmask (f v : Nat) (s : State) : State :=
  if msixShare f s ≤ v then s
  else
    let k := 2048 * f + v
    let s := { s with hif := { s.hif with unmasked := Store.set false k true s.hif.unmasked } }
    if Store.get false s.hif.msixPend k then
      sendMsix f v { s with hif := { s.hif with msixPend := Store.set false k false s.hif.msixPend } }
    else s

/-- CONFIGURATION_SPACE_WRITE: VF Enable and PTM Enable as the host writes them (R330, R357). -/
def configWrite (vf ptm : Bool) (s : State) : State := { s with hif := { s.hif with vfEnable := vf, ptmEnable := ptm } }

end Machine
end Sys2Proof
end

