-- ==== Sys2Proof/Machine/Time.lean ====
section
/-! DEFINITION. Device time, its corrections, PTP timestamps, chain time markers and PTM (R346-R359). -/
namespace Sys2Proof
namespace Machine

/-- One nanosecond, one second and the whole range of device time, in units of 2^-32 ns (R346, R347). -/
def nsUnit : Nat := 2 ^ 32
def secUnit : Nat := 1000000000 * nsUnit
def timeSpan : Nat := 2 ^ 48 * secUnit

/-- Device time as one number in units of 2^-32 ns, and a new device time from one. -/
def timeUnits (s : State) : Nat := (s.tim.sec * 1000000000 + s.tim.ns) * nsUnit + s.tim.frac
def setTimeUnits (v : Int) (s : State) : State :=
  let t := (v % (timeSpan : Int)).toNat
  { s with tim := { s.tim with sec := t / secUnit, ns := t / nsUnit % 1000000000, frac := t % nsUnit } }

/-! ### Events (R359) -/

/-- An event enabled in TIM_EVT_EN stands in TIM_EVT. -/
def timLevel (s : State) : Bool := decide (Nat.land (s.gf F.TIM_EVT_EVT 0) (s.gf F.TIM_EVT_EN_EVT 0) ≠ 0)

/-- Set bit `k` of TIM_EVT; source 41 rises with the first enabled bit. -/
def timEvent (k : Nat) (s : State) : State :=
  let was := timLevel s
  let s := s.sf ⟨.TIM_EVT, k, 1⟩ 0 1
  if !was && timLevel s then raiseIrq 41 s else s

/-! ### The clock (R347, R350, R351) -/

/-- TIM_RATE as a signed number, 0 while REFCLK_AO has failed (Table RCP-7); its bound of 500 ppm. -/
def timRate (s : State) : Int :=
  let v := s.gf F.TIM_RATE_RATE 0
  if s.rst.failed.contains 413 then 0
  else if v < 2 ^ 31 then v else (v : Int) - 2 ^ 32
def rateMax : Int := 5368709
def clampRate (v : Int) : Int := max (-rateMax) (min rateMax v)

/-- The slew increment: SLEW ppm of 2.5 ns with the sign of what is left, under the clamp of the total rate (R351). The rounding of
SLEW to a whole number of units is open. -/
def slewInc (s : State) : Int :=
  let k : Int := divFree (s.gf F.TIM_CFG_SLEW 0 * 10737418240) 1000000
  let d := if s.tim.slew < 0 then -k else k
  let inc := clampRate (timRate s + d) - timRate s
  if s.tim.slew < 0 then max inc s.tim.slew else min inc s.tim.slew

/-- A slew advances by one increment; its end sets SLEW_DONE. -/
def slewStep (s : State) : State :=
  if s.tim.slew = 0 then s
  else
    let left := s.tim.slew - slewInc s
    let s := { s with tim := { s.tim with slew := left } }
    if left = 0 then timEvent 2 (s.sf F.TIM_STAT_SLEWING 0 0) else s

/-- A pending step is added to device time (Table TIM-1); generators go on from the corrected time (R353). -/
def applyStep (s : State) : State :=
  match s.tim.step with
  | none => s
  | some o =>
    let s := setTimeUnits ((timeUnits s : Int) + o) { s with tim := { s.tim with step := none, ptmStepped := true } }
    timEvent 0 (genRestep (s.sf F.TIM_STAT_STATE 0 1))

/-- TIME_INCREMENT: 2.5 ns, the rate and any slew; then a pending step. -/
def timeAdvance (s : State) : State :=
  let add : Int := 10737418240 + timRate s + (if s.tim.slew = 0 then 0 else slewInc s)
  applyStep (setTimeUnits ((timeUnits s : Int) + add) (slewStep s))

/-- TIM_OFS in units of 2^-32 ns. -/
def timOfs (s : State) : Int :=
  let m : Int := ((s.gf F.TIM_OFS_3_SEC 0 * 2 ^ 32 + s.gf F.TIM_OFS_2_SEC 0) * 1000000000 + s.gf F.TIM_OFS_1_NS 0) * nsUnit + s.gf F.TIM_OFS_0_FRAC 0 * 65536
  if s.flag F.TIM_OFS_0_NEG 0 then -m else m

/-- A TIM command: access, then the state (R350). -/
def timCmd (rq : Requester) (w : Nat) (f : State → State) (s : State) : State :=
  if !(adminOk rq s) then (denyWrite rq .TIM_CMD 0 w s).sf F.TIM_STAT_CMDST 0 0x21
  else f (okResp 0 (s.sf F.TIM_STAT_CMDST 0 0))

/-- A command refused. -/
def timRefuse (rq : Requester) (w : Nat) (s : State) : State := logRefused rq .TIM_CMD 0 w (s.sf F.TIM_STAT_CMDST 0 0x20)

/-- TIME_STEP (Table TIM-1, Table TIM-2): both the offset and a running slew's remainder count against JUMP by their size. -/
def timeStep (rq : Requester) (s : State) : State :=
  timCmd rq 1 (fun s =>
    let o := timOfs s
    match s.gf F.TIM_STAT_STATE 0 with
    | 0 => { s with tim := { s.tim with step := some o } }
    | 1 =>
      if o.natAbs + s.tim.slew.natAbs ≤ s.gf F.TIM_CFG_JUMP 0 * nsUnit then
        let n := o + s.tim.slew
        let s := { s with tim := { s.tim with slew := n } }
        if n = 0 then timEvent 2 (s.sf F.TIM_STAT_SLEWING 0 0) else s.sf F.TIM_STAT_SLEWING 0 1
      else
        let s := timRefuse rq 1 { s with tim := { s.tim with slew := 0 } }
        timEvent 1 (((s.sf F.TIM_STAT_SLEWING 0 0).sf F.TIM_STAT_STATE 0 2).sf F.TIM_STAT_JUMP 0 1)
    | _ => timRefuse rq 1 s) s

/-- Abandon a slew and return the correction state to FREE (R348, Table TIM-1). -/
def timeFree (s : State) : State :=
  { ((s.sf F.TIM_STAT_SLEWING 0 0).sf F.TIM_STAT_STATE 0 0) with tim := { s.tim with slew := 0 } }

/-- TIME_REARM. -/
def timeRearm (rq : Requester) (s : State) : State :=
  timCmd rq 2 (fun s =>
    if s.gf F.TIM_STAT_STATE 0 = 0 then timRefuse rq 2 s
    else timeFree { s with tim := { s.tim with ptmStepped := true } }) s

/-- TIM_RATE_WRITE: clamped to 500 ppm; locked in HOLDOVER (R347, R352). -/
def timRateWrite (rq : Requester) (w : Nat) (s : State) : State :=
  if !(adminOk rq s) then denyWrite rq .TIM_RATE 0 w s
  else if s.gf F.TIM_STAT_STATE 0 = 2 then lockedWrite rq .TIM_RATE 0 w s
  else
    let v : Int := if w % 2 ^ 32 < 2 ^ 31 then (w % 2 ^ 32 : Nat) else ((w % 2 ^ 32 : Nat) : Int) - 2 ^ 32
    okResp 0 (s.sf F.TIM_RATE_RATE 0 ((clampRate v) % (2 ^ 32 : Int)).toNat)

/-! ### PTP (R354) -/

/-- Device time moved by a latency in units of 2^-4 ns, as a timestamp. -/
def stampAt (lat : Int) (seqId msgType : Nat) (s : State) : TxTs :=
  let t := (((timeUnits s : Int) + lat * 2 ^ 28) % (timeSpan : Int)).toNat
  { seqId := seqId, msgType := msgType, sec := t / secUnit, ns := t / nsUnit % 1000000000, frac := t / 65536 % 65536 }

/-- TIM_TXTS_0 shows the oldest entry and the level. -/
def txtsShow (s : State) : State :=
  let s := s.sf F.TIM_TXTS_0_LEVEL 0 s.tim.fifo.length
  match s.tim.fifo with
  | [] => ((s.sf F.TIM_TXTS_0_SEQID 0 0).sf F.TIM_TXTS_0_MSGTYPE 0 0).sf F.TIM_TXTS_0_VALID 0 0
  | e :: _ => ((s.sf F.TIM_TXTS_0_SEQID 0 e.seqId).sf F.TIM_TXTS_0_MSGTYPE 0 e.msgType).sf F.TIM_TXTS_0_VALID 0 1

/-- PTP_EVENT_TX: Sync is type 0 and Pdelay_Resp type 3; over IPv6 one-step falls back to two-step. -/
def ptpTx (msgType seqId : Nat) (ipv6 : Bool) (s : State) : State :=
  if !(s.flag F.TIM_ETH_CFG_EN 0) then s
  else
    let e := stampAt (s.gf F.TIM_ETH_CFG_TXLAT 0) seqId msgType s
    if s.flag F.TIM_ETH_CFG_ONESTEP 0 ∧ !ipv6 ∧ (msgType = 0 ∨ msgType = 3) then
      { s with tim := { s.tim with oneStep := e :: s.tim.oneStep } }
    else if 64 ≤ s.tim.fifo.length then s.bump F.TIM_TXTS_0_LOST 0 1
    else timEvent 3 (txtsShow { s with tim := { s.tim with fifo := s.tim.fifo ++ [e] } })

/-- PTP_EVENT_RX: the receive time goes into the receive descriptor. -/
def ptpRx (msgType seqId : Nat) (s : State) : State :=
  if !(s.flag F.TIM_ETH_CFG_EN 0) then s
  else { s with tim := { s.tim with rx := stampAt (-(s.gf F.TIM_ETH_CFG_RXLAT 0 : Int)) seqId msgType s :: s.tim.rx } }

/-- A read of TIM_TXTS_0 pops the entry, latches its partners and clears LOST. -/
def txtsRead (s : State) : State :=
  let v := (s.reg .TIM_TXTS_0 0).toNat
  let s := match s.tim.fifo with
    | [] => ((s.setReg .TIM_TXTS_1 0 0).setReg .TIM_TXTS_2 0 0).setReg .TIM_TXTS_3 0 0
    | e :: r =>
      let s := (s.setReg .TIM_TXTS_1 0 (BitVec.ofNat 32 e.ns)).setReg .TIM_TXTS_2 0 (BitVec.ofNat 32 e.sec)
      { s.setReg .TIM_TXTS_3 0 (BitVec.ofNat 32 (e.sec / 2 ^ 32 % 65536 + 65536 * e.frac)) with tim := { s.tim with fifo := r } }
  okResp v (txtsShow (s.sf F.TIM_TXTS_0_LOST 0 0))

/-- TXTS_POP. -/
def txtsPop (rq : Requester) (s : State) : State := if !(readOk rq s) then denyRead rq .TIM_TXTS_0 0 s else txtsRead s

/-! ### Chain time markers (R355) -/

/-- CHAIN_TIME_MARKER: a TIME block at chain port `i`; `good` says that its group checked good at first arrival. -/
def chainMarker (i m : Nat) (good : Bool) (s : State) : State :=
  if !good || decide (s.gf F.XOT_STAT_MODE i ≠ 1) || !(decide (s.lst (2 * i) = lsReady) || decide (s.lst (2 * i) = lsActive)) then s
  else
    let d := s.dtime
    let s := { s with tim := { s.tim with cmk := Store.set (0, 0) i (m % 2 ^ 32, d) s.tim.cmk } }
    timEvent 6 (s.sf F.TIM_CMK_ARR_LO_VALUE i d)

/-! ### PTM (R357) -/

/-- An exchange begins: t1 is D as the request leaves. -/
def ptmBegin (s : State) : State :=
  let d := s.dtime
  { ((s.sf F.TIM_PTM_STAT_BUSY 0 1).sf F.TIM_PTM_T1_LO_VALUE 0 d) with tim := { s.tim with ptmStepped := false, ptmT1 := d } }

/-- PTM_TRIGGER. -/
def ptmTrigger (rq : Requester) (s : State) : State :=
  if !(adminOk rq s) then (denyWrite rq .TIM_PTM_CMD 0 1 s).sf F.TIM_PTM_STAT_CMDST 0 0x21
  else if s.hif.ptmEnable && !(s.flag F.TIM_PTM_STAT_BUSY 0) then ptmBegin (okResp 0 (s.sf F.TIM_PTM_STAT_CMDST 0 0))
  else logRefused rq .TIM_PTM_CMD 0 1 (okResp 0 (s.sf F.TIM_PTM_STAT_CMDST 0 0x20))

/-- PTM_PERIOD: an automatic exchange. -/
def ptmPeriod (s : State) : State :=
  if s.hif.ptmEnable && decide (s.gf F.TIM_PTM_CFG_PERIOD 0 ≠ 0) && !(s.flag F.TIM_PTM_STAT_BUSY 0) then ptmBegin s else s

/-- An exchange ends. -/
def ptmEnd (valid fail : Bool) (s : State) : State :=
  let span := s.tim.ptmStepped
  let s := (s.sf F.TIM_PTM_STAT_BUSY 0 0).sflag F.TIM_PTM_STAT_STEPPED 0 span
  let s := s.sflag F.TIM_PTM_STAT_VALID 0 (valid && !span)
  if fail then timEvent 5 s else if valid && !span then timEvent 4 s else s

/-- PTM_RESPONSE: a ResponseD with Master Time and Propagation Delay, or a plain Response. -/
def ptmResponse (full : Bool) (mst pdly : Nat) (s : State) : State :=
  if !(s.flag F.TIM_PTM_STAT_BUSY 0) then s
  else if !full then ptmEnd false true s
  else
    let d := s.dtime
    let s := ((s.sf F.TIM_PTM_T4_LO_VALUE 0 d).sf F.TIM_PTM_MST_LO_VALUE 0 mst).sf F.TIM_PTM_PDLY_VALUE 0 pdly
    ptmEnd true false { s with tim := { s.tim with ptmT4 := d, ptmMst := mst % 2 ^ 64 } }

/-- PTM_TIMEOUT: no response within 1 ms. -/
def ptmTimeout (s : State) : State := if s.flag F.TIM_PTM_STAT_BUSY 0 then ptmEnd false true s else s

end Machine
end Sys2Proof
end

