-- ==== Sys2Proof/Machine/HallPass.lean ====
section
/-! DEFINITION. The end of a hall pass and what it zeroises (R228, R385). -/
namespace Sys2Proof
namespace Machine

/-- Zero `n` bytes from `a` on, which lie in one block of memory. -/
def zeroSpan (a n : Nat) (s : State) : State :=
  if fillCode s.mem.fill a = 0 then { s with mem := { s.mem with mem := Store.clear a (a + n) s.mem.mem } }
  else s.wbs a (List.replicate n 0)

/-- Snapshots taken under a pass are dropped and zeroised. -/
def passSnaps (p : Nat) (s : State) : State :=
  forEach ((s.trec p).snaps.filter fun e => e.2.pass) (fun e t =>
    let t := zeroSpan (snapAddr p e.1 t) (snapSize p t) (dropSnap p e.1 t)
    snapStatus p (t.modTrec p fun r => { r with snaps := Store.del e.1 r.snaps, drainDead := r.drainDead || decide (t.gf F.TRC_SNAP_STAT_DSLOT p = e.1) })) s

/-- The entries of one journal are zeroised. -/
def passJournal (p kind : Nat) (s : State) : State :=
  let pos := if kind = 0 then (s.trec p).undoPos else (s.trec p).inPos
  let n := min pos (jrnCap p kind s)
  forUpTo n (fun i t => zeroSpan (jrnAddr p kind (pos - 1 - i) t) 32 t) s

/-- The ring lines written under the pass are zeroised. -/
def passRing (p : Nat) (s : State) : State :=
  match (s.trec p).passFrom with
  | none => s
  | some f =>
    let cap := ringLines p s
    let n := min ((s.trec p).ringPos - f) cap
    let at0 := s.gf F.TRC_SIG_WR_LINE p
    let s := forUpTo n (fun i t => zeroSpan (areaBase p 3 t + 64 * ((at0 + cap - 1 - i) % cap)) 64 t) s
    s.modTrec p fun r => { r with passFrom := none, line := [] }

/-- What R228 asks of partition `p` as a pass that covers it ends. -/
def passEndPart (p : Nat) (s : State) : State :=
  let s := if (s.trec p).pass ∧ (s.trst p = trcRunning ∨ s.trst p = trcTriggered) then traceStop p (s.part p).bell s else s
  let had := (s.trec p).snaps.any fun e => e.2.pass
  let s := if had then passJournal p 1 (passJournal p 0 (passSnaps p s)) else s
  (passRing p s).modTrec p fun r => { r with pass := false }

/-- The pass in force ends (R385). -/
def passEnd (s : State) : State :=
  if !(s.flag F.DBG_HP_STAT_ACTIVE 0) then s
  else
    let s := forEach ((List.range 16).filter fun p => bitAt (s.gf F.DBG_HP_STAT_PARTS 0) p = 1) (fun p t => passEndPart p t) s
    { s.setReg .DBG_HP_STAT 0 0 with dbg := { s.dbg with pass := none } }

/-- HALL_PASS_EXPIRY: device time has passed NOT_AFTER. -/
def hallPassExpiry (s : State) : State :=
  match s.dbg.pass with
  | some h => if h.notAfter * secUnit < timeUnits s then passEnd s else s
  | none => s

end Machine
end Sys2Proof
end

