-- ==== Sys2Proof/Machine/CoreDbg.lean ====
section
/-! DEFINITION. Monitor frames, halting a tutor core, comparators, cross-triggering (R360, R367-R376, R379). -/
namespace Sys2Proof
namespace Machine

/-! ### Frames (Table DBG-1) -/

/-- One bit of CRC-32, least significant bit first (R262, R360). -/
def crc32bit (c : Nat) : Nat := if c % 2 = 1 then Nat.xor (c / 2) 0xEDB88320 else c / 2

/-- CRC-32 over bytes. -/
def crc32 (l : List Nat) : Nat :=
  Nat.xor (l.foldl (fun c b => (List.range 8).foldl (fun c _ => crc32bit c) (Nat.xor c b)) 0xFFFFFFFF) 0xFFFFFFFF

/-- A frame. -/
def monFrame (flags seq cmd status : Nat) (payload : List Nat) : List Nat :=
  let b := [0x44, 0x4D, 1, flags] ++ toBytes 2 seq ++ [cmd, status] ++ toBytes 2 payload.length ++ [0, 0] ++ payload
  b ++ toBytes 4 (crc32 b)

/-- An EVENT frame goes to the last Ethernet address that sent a valid request (R361, R362). -/
def eventFrame (mask : Nat) (s : State) : State :=
  if s.dbg.peer ∧ s.flag F.DBG_MBX_STAT_ONLINE 0 then
    { s with dbg := { s.dbg with out := (1, monFrame 4 0 1 0 (toBytes 8 mask)) :: s.dbg.out } }
  else s

/-! ### Halt (R367, R368) -/

/-- A halt request: only a running core takes it; a comparator is reported before HALT (Table DBG-10). -/
def haltRequest (c cause cmp : Nat) (s : State) : State :=
  if s.cst c ≠ coreRunning then s
  else s.modCore c fun r => { r with halt := match r.halt with
    | none => some (cause, cmp)
    | some h => if cause = 2 ∧ h.1 ≠ 2 then some (cause, cmp) else some h }

/-- What a core's own execution has left in x1-x31 (entry 10). -/
def drawRegs (c : Nat) (s : State) : State :=
  drawn (forUpTo 31 (fun n t => xWrite c (n + 1) (coreDraw (4096 + 64 * c + n + 1) 64 s) t) s)

/-- dxtmo, dxctl and dxwdog are kept; what the monitor has seen of the other CSRs ends as the core runs on. -/
def csrForget (c : Nat) (s : State) : State :=
  { s with dsp := { s.dsp with csr := Store.clear (4096 * (64 + c)) (4096 * (65 + c)) s.dsp.csr } }

/-- A core enters HALTED. -/
def enterHalted (c cause cmp pc priv : Nat) (s : State) : State :=
  let s := deskEmpty c s
  let s := s.modCore c fun r => { r with wait := none }
  let s := (ctWake c s).modCore c fun r => { r with pc := pc, priv := priv, halt := none, step := none }
  let s := ((s.sf F.DBG_CORE_STAT_STATE c coreHalted).sf F.DBG_CORE_STAT_DEFER c 0).sflag F.DBG_CORE_STAT_MPRIV c (decide (priv = 3))
  let s := (s.sf F.DBG_CORE_STAT_CAUSE c cause).sf F.DBG_CORE_STAT_CMP c cmp
  let s := forEach ((List.range 16).filter fun k => bitAt (s.gf F.DBG_CTI_CORE_OUT c) k = 1) (fun k t => pulseCti k t) s
  eventFrame (2 ^ c) s

/-- CORE_HALT: the core is at an instruction boundary. `pc` names its next instruction and `m` its mode there; `lr` says that it
holds a reservation whose SC has not retired and fewer than 64 instructions have retired since: the halt is deferred. -/
def coreHalt (c : Nat) (pc : Nat) (m : Priv) (lr : Bool) (s : State) : State :=
  match (s.core c).halt with
  | none => s
  | some (cause, cmp) =>
    if s.cst c ≠ coreRunning ∨ s.gf F.RST_PWR_STAT_STATE 0 = 2 then s
    else if lr then s.sf F.DBG_CORE_STAT_DEFER c 1
    else enterHalted c cause cmp pc (privCode m) (drawRegs c (csrForget c s))

/-- A core leaves reset at an entry address; with ONRESET it halts before its first instruction (R367, R427). -/
def coreStart (c entry : Nat) (s : State) : State :=
  let s := s.modCore c fun r => { r with pc := entry, priv := 3 }
  if s.flag F.DBG_CORE_STAT_ONRESET c then enterHalted c 5 0 entry 3 s else s.sf F.DBG_CORE_STAT_STATE c coreRunning

/-! ### Comparators (R371, R372) -/

/-- Comparator `k` of core `c`. -/
def State.cmpr (s : State) (c k : Nat) : Cmpr := Store.get {} (s.core c).cmps k
def cmprRange (s : State) (c k : Nat) : Bool := decide (k % 2 = 0) && decide (bitAt (s.cmpr c k).mode 0 = 1)
def cmprLink (s : State) (c k : Nat) : Bool := decide (bitAt (s.cmpr c k).mode 1 = 1)

/-- Comparator `k` only bounds the range of the one before it. -/
def cmprBound (s : State) (c k : Nat) : Bool := decide (k % 2 = 1) && cmprRange s c (k - 1)

/-- The link target of comparator `k`: the next one that its own range does not take. -/
def linkTarget (s : State) (c k : Nat) : Nat := if cmprRange s c k then k + 2 else k + 1

/-- Comparator `k` is the target of a link. -/
def cmprLinked (s : State) (c k : Nat) : Bool := (List.range k).any fun j => !cmprBound s c j && cmprLink s c j && decide (linkTarget s c j = k)

/-- An address matches comparator `k`. -/
def addrHit (s : State) (c k a : Nat) : Bool :=
  let v := (s.cmpr c k).value
  if cmprRange s c k then decide (v ≤ a) && decide (a < (s.cmpr c (k + 1)).value) else decide (a = v)

/-- Comparator `k` matches an instruction at `pc` in mode `m`, with the access it makes, if any. -/
def cmprHit (s : State) (c k : Nat) (m : Priv) (asid pc : Nat) (acc : Option CoreAcc) : Bool :=
  let z := s.cmpr c k
  let any : CoreAcc → Bool := fun x => (List.range x.len).any fun i => addrHit s c k (x.addr + i)
  decide (bitAt z.priv (privCode m) = 1) && !(decide (m = .machine) && coreExcluded c s) && (decide (z.ctxen = 0) || decide (z.asid = asid))
    && (match z.kind, acc with
      | 1, _ => addrHit s c k pc
      | 2, some x => decide (x.kind ≠ 1) && any x
      | 3, some x => decide (x.kind ≠ 0) && any x
      | 4, some x => any x
      | 5, some x => decide (Nat.land (Nat.xor x.data z.value) z.mask = 0)
      | _, _ => false)

/-- Comparator `k` acts now: before the instruction executes (no access given) or after it retires. -/
def cmprActs (s : State) (c k : Nat) (m : Priv) (asid pc : Nat) (acc : Option CoreAcc) : Bool :=
  let z := s.cmpr c k
  let t := linkTarget s c k
  let early := if cmprLink s c k then decide (z.kind = 1 ∧ (s.cmpr c t).kind = 1) else decide (z.kind = 1)
  !cmprBound s c k && !cmprLinked s c k && decide (early = acc.isNone) && cmprHit s c k m asid pc acc
    && (!cmprLink s c k || cmprHit s c t m asid pc acc)

/-- TRACE_ON starts a trace that waits for it, or ends a pause with a GAP of kind 1 (R378). -/
def traceOn (c : Nat) (s : State) : State :=
  let t := (s.core c).trc
  let s1 := s.modCore c fun r => { r with trc := { r.trc with held := false, paused := false } }
  if t.held then ctEmit c 1 0 false [] s1
  else if t.paused then ctEmit c 1 0 false [] (ctEmit c 8 1 true (toBytes 5 (coreDraw (16 * c + 6) 40 s1)) s1)
  else s

/-- A DATA packet (Table DBG-6). -/
def dataPacket (c k : Nat) (x : CoreAcc) (s : State) : State :=
  if bitAt (s.core c).trc.flags 2 = 1 then
    ctEmit c 4 (b2n (decide (x.kind ≠ 0)) + 2 * Nat.log2 x.len) true ([k] ++ toBytes 6 x.addr ++ toBytes 8 x.data) s
  else s

/-- The actions of comparator `k`. -/
def cmprActions (c k : Nat) (acc : Option CoreAcc) (s : State) : State :=
  let a := (s.cmpr c k).action
  let on : Nat → Bool := fun b => decide (bitAt a b = 1)
  let s := if on 1 then traceOn c s else s
  let s := if on 3 then (match acc with | some x => dataPacket c k x s | none => s) else s
  let s := if on 5 then ctTrigger c s else s
  let s := if on 2 ∧ coreTracing c s then s.modCore c fun r => { r with trc := { r.trc with paused := true } } else s
  let s := if on 4 then pulseCti ((s.cmpr c k).chan % 16) s else s
  if on 0 then haltRequest c 2 k s else s

/-- COMPARATOR_MATCH: an instruction of core `c` meets its comparators. -/
def comparatorMatch (c : Nat) (m : Priv) (asid pc : Nat) (acc : Option CoreAcc) (s : State) : State :=
  if s.cst c ≠ coreRunning ∨ s.gf F.RST_PWR_STAT_STATE 0 = 2 then s
  else forEach ((List.range 8).filter fun k => cmprActs s c k m asid pc acc) (fun k t => cmprActions c k acc t)
    (s.modCore c fun r => { r with priv := privCode m })

/-- A descriptor of Table DBG-4 under the clamps of R372. -/
def cmprOf (c k : Nat) (b : List Nat) (s : State) : Cmpr :=
  let at' : Nat → Nat → Nat := fun o n => fromBytes ((b.drop o).take n)
  let range := bitAt (at' 17 1) 0 * b2n (decide (k % 2 = 0))
  let t := if range = 1 then k + 2 else k + 1
  let link := if 8 ≤ t then 0 else bitAt (at' 17 1) 1
  let priv := Nat.land (at' 18 1) (if coreExcluded c s then 3 else 11)
  { value := at' 0 8, mask := at' 8 8, kind := at' 16 1, mode := range + 2 * link, priv := priv, ctxen := at' 19 1 % 2, asid := at' 20 2
    action := at' 22 1 % 64, chan := at' 23 1 % 16 }

/-! ### Cross-triggering (R375, R376) -/

/-- A pulse on channel `k` reaches partition `p`'s freeze: FREEZE_NOW as from the monitor, ignored unless the partition is live. -/
def ctiFreeze (p : Nat) (s : State) : State :=
  if !(s.live p) || s.hasCause p 8 || ((s.fz p).ctl (s.leadBase p)).raised.any fun q => q.cause == 8 then s else raiseLead p 8 0 s

/-- CTI_PULSE: the oldest pulse acts on its destinations (Table DBG-5). -/
def ctiPulse (s : State) : State :=
  match s.dbg.cti with
  | [] => s
  | k :: r =>
    let s := { s with dbg := { s.dbg with cti := r } }
    let s := forUpTo 64 (fun c t =>
      let t := if bitAt (t.gf F.DBG_CTI_CORE_IN c) k = 1 then haltRequest c 3 0 t else t
      if bitAt (t.core c).trc.cti k = 1 then ctTrigger c t else t) s
    forUpTo 16 (fun p t =>
      let t := if bitAt (t.gf F.TRC_TRG_EXT_CTI p) k = 1 then traceFire p 2 k (t.curStep p) (t.part p).bell t else t
      if bitAt (t.gf F.DBG_CTI_FRZ_IN p) k = 1 then ctiFreeze p t else t) s

/-- DBG_CTI_PULSE_WRITE: the monitor's alone (R388). -/
def ctiPulseWrite (rq : Requester) (w : Nat) (s : State) : State :=
  if rq ≠ .monitor then denyWrite rq .DBG_CTI_PULSE 0 w s
  else forEach ((List.range 16).filter fun k => bitAt w k = 1) (fun k t => pulseCti k t) (okResp 0 s)

/-! ### The PCI Express mailbox (R361, R362) -/

/-- MBX_GO: a request frame of LEN bytes in DBG_MBX_REQ. No transport is served while no proctor is active. -/
def mbxGo (rq : Requester) (len : Nat) (s : State) : State :=
  let w := 1 + 65536 * len
  if rq ≠ .pf0 then denyWrite rq .DBG_MBX_CTL 0 w s
  else if s.flag F.DBG_MBX_STAT_BUSY 0 then logRefused rq .DBG_MBX_CTL 0 w (okResp 0 (s.sf F.DBG_MBX_STAT_CMDST 0 0x20))
  else
    let s := okResp 0 ((s.sf F.DBG_MBX_STAT_CMDST 0 0).sf F.DBG_MBX_CTL_LEN 0 (max 16 (min 1040 len)))
    if s.flag F.DBG_MBX_STAT_ONLINE 0 then wakeBy 2 (s.sf F.DBG_MBX_STAT_BUSY 0 1) else s

end Machine
end Sys2Proof
end

