-- ==== Sys2Proof/Machine/Keys.lean ====
section
/-! DEFINITION. Key slots, life cycle, root key hashes and the security version counter (R192-R195). A write takes effect as its fuse or
BBRAM pulse ends. -/
namespace Sys2Proof
namespace Machine

/-- A number from the words of a data register array. -/
def wordsOf (r : Reg) (n : Nat) (s : State) : Nat := ((List.range n).map fun j => (s.reg r j).toNat * 2 ^ (32 * j)).sum

/-- A write pulse begins: BUSY until its end. -/
def pulseStart (block slot what : Nat) (s : State) : State :=
  { s.sf F.SEC_KEY_STATUS_BUSY 0 1 with ld := { s.ld with pulse := some (block, slot, what) } }

/-- A fuse or BBRAM write is in progress. -/
def pulseBusy (s : State) : Bool := s.flag F.SEC_KEY_STATUS_BUSY 0

/-- A command of a SEC block: access, then BUSY and its legal conditions (R192, text before R193). -/
def secCmd (rq : Requester) (r : Reg) (w : Nat) (st : Fld) (legal : Bool) (f : State → State) (s : State) : State :=
  if !(procOrM rq s) then (denyWrite rq r 0 w s).sf st 0 0x21
  else if !legal || pulseBusy s then logRefused rq r 0 w (okResp 0 (s.sf st 0 0x20))
  else f (okResp 0 (s.sf st 0 0))

/-! ### Key slots (Table CFG-8) -/

/-- State of key slot `k`: 0 EMPTY, 1 VALID, 2 REVOKED. -/
def keyState (k : Nat) (s : State) : Nat := s.gf (F.SEC_KEY_STATUS_SLOT.nth k) 0

/-- A key command; SEC_KEY_DATA is zeroised after every one. -/
def keyCmd (rq : Requester) (slot op : Nat) (legal : Nat → Bool) (what : Nat) (s : State) : State :=
  let k := min slot 5
  let t := secCmd rq .SEC_KEY_CMD (slot + 16 * op) F.SEC_KEY_STATUS_CMDST (legal k) (pulseStart 0 k what) s
  if procOrM rq s then forUpTo 8 (fun j t => t.setReg .SEC_KEY_DATA j 0) t else t

/-- KEY_PROGRAM. -/
def keyProgram (rq : Requester) (slot : Nat) (s : State) : State :=
  let lc := s.gf F.GLB_LCS_STATE 0
  keyCmd rq slot 1 (fun k => if k ≤ 3 then decide (keyState k s = 0 ∧ lc ≤ 1) else decide (lc = 1 ∨ lc = 2)) (1 + wordsOf .SEC_KEY_DATA 8 s) s

/-- KEY_REVOKE: eFuse slots. -/
def keyRevoke (rq : Requester) (slot : Nat) (s : State) : State :=
  keyCmd rq slot 2 (fun k => decide (k ≤ 3 ∧ keyState k s = 1 ∧ s.gf F.GLB_LCS_STATE 0 ≠ 0)) 0 s

/-- KEY_CLEAR: BBRAM slots. -/
def keyClear (rq : Requester) (slot : Nat) (s : State) : State :=
  keyCmd rq slot 3 (fun k => decide (4 ≤ k ∧ keyState k s = 1)) 0 s

/-- Loads that use a lost slot end at once with 0x12, detail KEY_LOST (Table CFG-15). -/
def keyLost (k : Nat) (s : State) : State :=
  forUpTo 4 (fun c t =>
    let x := t.ldc c
    if ldRunning c t ∧ 256 ≤ x.bytes.length ∧ imgKey x.bytes = k then loadEnd c (authFail 6 (sectAtPos x.bytes) (x.bytes.length % 2 ^ 32) k) t else t) s

/-- A key slot takes a state, and its key goes or comes. -/
def setKey (k st key : Nat) (s : State) : State :=
  { s.sf (F.SEC_KEY_STATUS_SLOT.nth k) 0 st with ld := { s.ld with keys := Store.set 0 k key s.ld.keys } }

/-- VBAT_LOSS: loss of VBAT or tamper zeroisation. -/
def vbatLoss (s : State) : State :=
  keyLost 5 (keyLost 4 (setKey 5 0 0 (setKey 4 0 0 s)))

/-! ### Life cycle (R193) -/

/-- LC_ADVANCE (Table CFG-16). -/
def lcAdvance (rq : Requester) (s : State) : State :=
  let lc := s.gf F.GLB_LCS_STATE 0
  let ok := match lc with
    | 0 => true
    | 1 => (List.range 4).any fun k => decide (s.gf (F.SEC_RK_STAT_SLOT.nth k) 0 = 1)
    | 2 => s.flag F.DBG_HP_STAT_ACTIVE 0 && decide (bitAt (s.gf F.DBG_HP_STAT_SCOPE 0) 2 = 1)
    | _ => false
  secCmd rq .SEC_LC_CMD 1 F.SEC_LC_STAT_CMDST ok (pulseStart 1 0 (lc + 1)) s

/-! ### Root keys (R194) -/

/-- State of root key hash slot `k`. -/
def rkState (k : Nat) (s : State) : Nat := s.gf (F.SEC_RK_STAT_SLOT.nth k) 0

/-- A root key command; SEC_RK_DATA is zeroised after every one. -/
def rkCmd (rq : Requester) (k op : Nat) (legal : Bool) (what : Nat) (s : State) : State :=
  let t := secCmd rq .SEC_RK_CMD (k + 16 * op) F.SEC_RK_STAT_CMDST legal (pulseStart 2 k what) s
  if procOrM rq s then forUpTo 12 (fun j t => t.setReg .SEC_RK_DATA j 0) t else t

/-- RK_PROGRAM (Table CFG-17). -/
def rkProgram (rq : Requester) (k : Nat) (s : State) : State :=
  rkCmd rq k 1 (decide (rkState k s = 0 ∧ s.gf F.GLB_LCS_STATE 0 ≤ 1)) (1 + wordsOf .SEC_RK_DATA 12 s) s

/-- RK_REVOKE (Table CFG-17). -/
def rkRevoke (rq : Requester) (k : Nat) (s : State) : State :=
  let lc := s.gf F.GLB_LCS_STATE 0
  rkCmd rq k 2 (decide (rkState k s = 1 ∧ (lc = 1 ∨ lc = 2)) && (List.range 4).any fun j => j ≠ k && decide (rkState j s = 1)) 0 s

/-- A public key's digest stands in a VALID root key hash slot (R180, R384). -/
def rkAccepts (pub : List Nat) (s : State) : Bool :=
  (List.range 4).any fun k => decide (rkState k s = 1 ∧ Store.get 0 s.ld.rk k = Config.sha384 pub)

/-! ### Security version counter (R195) -/

/-- SVN_ADVANCE. -/
def svnAdvance (rq : Requester) (value : Nat) (s : State) : State :=
  let v := min value 64
  let lc := s.gf F.GLB_LCS_STATE 0
  let ok := decide ((lc = 1 ∨ lc = 2) ∧ s.gf F.SEC_SVN_STAT_SVN 0 < v) && (match s.ld.svn with | some m => decide (v ≤ m) | none => false)
  secCmd rq .SEC_SVN_CMD (1 + 256 * value) F.SEC_SVN_STAT_CMDST ok (pulseStart 3 0 v) s

/-! ### The end of a pulse -/

/-- What a pulse leaves: key slot, root key slot or counter. -/
def pulseEffect (block slot what : Nat) (s : State) : State :=
  match block with
  | 0 =>
    if what = 0 then keyLost slot (setKey slot (if slot ≤ 3 then 2 else 0) 0 s)
    else setKey slot 1 (what - 1) s
  | 2 =>
    if what = 0 then s.sf (F.SEC_RK_STAT_SLOT.nth slot) 0 2
    else { s.sf (F.SEC_RK_STAT_SLOT.nth slot) 0 1 with ld := { s.ld with rk := Store.set 0 slot (what - 1) s.ld.rk } }
  | 3 => s.sf F.SEC_SVN_STAT_SVN 0 what
  | _ => s

end Machine
end Sys2Proof
end

