-- ==== Sys2Proof/Machine/Rel.lean ====
section
/-! DEFINITION. Declaring units dead, self-tests and re-enrolment, thresholds, stale items, proctors and the hall monitor
(R180, R181, R386, R389-R416). -/
namespace Sys2Proof
namespace Machine

/-! ### Cores under reset (R316, R427) -/

/-- A core is reset alone: its tasks leave it, its own registers are lost. Comparators and trace settings belong to the debug unit
and stay. -/
def coreResetUnit (c : Nat) (s : State) : State :=
  let s := taskLost c (deskEmpty c s)
  let s := s.modCore c fun r => { cmps := r.cmps, trc := { r.trc with asleep := false } }
  let s := { s with dsp := { s.dsp with csr := s.dsp.csr.filter fun e => e.1 / 4096 ≠ c } }
  let s := { s with dsp := { s.dsp with x := s.dsp.x.filter fun e => e.1 / 32 ≠ c } }
  (s.sf F.DBG_CORE_STAT_STATE c coreReset).sf F.DBG_CORE_STAT_DEFER c 0

/-- The local RAM of core role `c` is zeroised. -/
def zeroRam (c : Nat) (s : State) : State := { s with mem := s.mem.refill (896 + c) 0 }

/-! ### Declaring units dead (R391, R393, R394, R397, R398) -/

/-- PART of a report on logical class `n`. -/
def clsPartOr (n : Nat) (s : State) : Nat := if s.clsOwner n = 0 then 0xFF else clsPart n s

/-- PARTITION_FENCE: the partition of class `n`, if any, enters FENCED with event 0x0017. -/
def fencePart (n : Nat) (s : State) : State :=
  match s.clsOwner n with
  | 0 => s
  | p + 1 => report 0 0x17 p 0xFF 0 0 0 (enterFenced p s)

/-- A load in progress of the partition of class `n` ends with UNIT_LOST (Table CFG-15). -/
def unitLost (n : Nat) (s : State) : State :=
  match s.clsOwner n with
  | 0 => s
  | p + 1 => if s.pst p = stLoading then loadsEnd p 6 s else s

/-- Slates and registers of physical class `f`, now class `n`, as a class starts: X, or 0 with X-mode off (R393, step 4). -/
def freshClass (n f : Nat) (s : State) : State :=
  let xm := match s.clsOwner n with | 0 => false | p + 1 => s.xmode p
  let lo := 2162688 * f
  let bp := { s.bp with slate := Store.clear lo (lo + 2162688) s.bp.slate
                        slateX := Store.set false (2 * f) xm (Store.set false (2 * f + 1) xm s.bp.slateX)
                        imp := Store.clear (64 * f) (64 * f + 64) s.bp.imp, exp := Store.clear (64 * f) (64 * f + 64) s.bp.exp
                        chalk := Store.clear (512 * f) (512 * f + 512) s.bp.chalk, ret := Store.del f s.bp.ret }
  let zeros : Nat → Store Tri → Store Tri := fun w m => (List.range w).foldl (fun m i => Store.set .x (w * f + i) .zero m) m
  let bp := if xm then bp else { bp with imp := zeros 64 bp.imp, exp := zeros 64 bp.exp, chalk := zeros 512 bp.chalk }
  { s with bp := bp, mem := { s.mem with ret := Store.del f s.mem.ret }
           net := { s.net with hallImp := Store.clear (64 * n) (64 * n + 64) s.net.hallImp } }

/-- Every timetable word of physical class `f` reads without uncorrectable error. -/
def wordsGood (f : Nat) (s : State) : Bool := (Store.range (2162688 * f) (2162688 * f + 2162688) s.bp.imem).all fun e => !e.2.bad

/-- Class role `n` is declared dead with nothing stepping on it: a substitute takes it with the tables, its state is lost; with no
substitute, or words that nobody has, the role stays empty (R393, R394). -/
def classDead (n ground : Nat) (s : State) : State :=
  let pc := s.phys n
  let s := { s with bp := { s.bp with fenced := Store.set false pc true s.bp.fenced } }
  let s := if s.flag F.CLS_SUB_STATUS_FOLLOW n then followCancel n s else s
  let s := if (s.clsFollower n).isSome then clsFollowCancel s else s
  let s := report 0 0x12 (clsPartOr n s) 0 pc n ground s
  let empty : State → State := fun s => fencePart n (unitDetained 0 pc n (bumpEpoch 0 n s))
  match freeClass n s with
  | none => empty s
  | some f =>
    let t := copyTables n f s
    if roleEpoch s 0 n < 0xFFFE ∧ wordsGood f t ∧ lockerRoom [(0, f), (0, pc)] s then clsReport n pc 1 (freshClass n f (classTakes n f t))
    else empty s

/-- A class is declared dead. One of a live partition is fenced and halts it first (R393). -/
def declareClass (n ground : Nat) (s : State) : State :=
  let s := unitLost n s
  match s.clsOwner n with
  | 0 => classDead n ground s
  | p + 1 => if s.live p then crossFail p n s else classDead n ground s

/-- CLASS_IMMEDIATE_SUBSTITUTE: the partition of a class that failed the cross-check is HALTED. -/
def classImmediate (n : Nat) (s : State) : State :=
  if !s.proctorUp ∨ !(s.clsFenced n) ∨ (s.unit 0 (s.phys n)).role ≠ n + 1 then s
  else match s.clsOwner n with
    | 0 => s
    | p + 1 => if s.pst p = stHalted then classDead n 2 s else s

/-- The follow by which a BP is substituted (Table REL-2), with the lowest spare that may take the role; none where there is none. -/
def bpFollow (n k : Nat) (s : State) : Option State :=
  let pc := s.phys n
  if roleEpoch s 1 (512 * n + k) < 0xFFFE then
    match (List.range 16).find? fun j => spareFreeBp n j s && decide ((s.unit 1 (528 * pc + s.spareBp n j)).banned ≠ k + 1)
      && lockerRoom [(1, 528 * pc + s.spareBp n j), (1, 528 * pc + s.physBp n k)] s with
    | some j => some (if s.flag F.CLS_SUB_STATUS_FOLLOW n || draining n s then s else subFollow (tokenHolder s) n k j s)
    | none =>
      if (freeClass n s).isSome then
        some (if s.flag F.PRC_CLS_SUB_STAT_FOLLOW 0 || draining n s || s.flag F.CLS_SUB_STATUS_FOLLOW n then s else clsFollow (tokenHolder s) n s)
      else none
  else none

/-- Logical class whose window reaches physical class `pc`. -/
def classOfPhys (pc : Nat) (s : State) : Option Nat := (List.range 256).find? fun n => s.phys n = pc

/-- A BP that holds role `k` is declared dead. -/
def declareBp (u k ground : Nat) (s : State) : State :=
  match classOfPhys (u / 528) s with
  | none => unitDetained 1 u k s
  | some n =>
    let s := unitLost n s
    match bpFollow n k s with
    | some t => t
    | none =>
      let role := 512 * n + k
      let s := report 0 0x12 (clsPartOr n s) 1 u role ground s
      fencePart n (unitDetained 1 u k (bumpEpoch 1 role s))

/-- A re-enrolled core of the cluster that may take role `c`. -/
def coreSpare (c : Nat) (s : State) : Option Nat :=
  ((List.range 8).map (8 * (c / 8) + ·)).find? fun v => (s.unit 2 v).state = uSubstitute ∧ (s.unit 2 v).banned ≠ c + 1

/-- A re-enrolled core takes a vacant role of its cluster (R397). -/
def coreTakes (c v : Nat) (s : State) : State := unitTakes 2 v c s

/-- A core is declared dead (R316, R397). -/
def declareCore (u c ground : Nat) (s : State) : State :=
  let s := report 0 0x12 0xFF 2 u c ground s
  let s := zeroRam c (coreResetUnit c s)
  let room := decide (roleEpoch s 2 c < 0xFFFE)
  let s := unitDetained 2 u c (bumpEpoch 2 c s)
  match coreSpare c s with
  | some v => if room && lockerRoom [(2, v)] s then coreTakes c v s else s.sf F.DSP_CORE_CFG_EN c 0
  | none => s.sf F.DSP_CORE_CFG_EN c 0

/-- The links of a bundle, of a port, or on which a chained device sends. -/
def unitLinks (kind u : Nat) : List Nat :=
  match kind with
  | 3 => [16 + 2 * u, 17 + 2 * u]
  | 4 => [2 * u, 2 * u + 1]
  | 6 => [2 * u]
  | _ => []

/-- A bundle, port or chained device is declared dead: no working lanes, lanes off, blocks discarded (R391, R398). -/
def declareLink (kind u ground : Nat) (s : State) : State :=
  let s := report 0 0x12 0xFF kind u u ground s
  let s := unitDetained kind u u (bumpEpoch kind u s)
  updLinks (forEach (unitLinks kind u) (fun l t => (setLanes l 0 (t.setLst l lsFailed)).modLk l fun r => { r with dead := true }) s)

/-- The other proctor, as the active one sees it. -/
def otherProctor (s : State) : Nat := if s.proctorActive 1 then 0 else 1

/-- STATE of proctor `i`, and a new one. -/
def procState (i : Nat) (s : State) : Nat := s.gf F.PRC_PROC_STAT_STATE i
def setProc (i st : Nat) (s : State) : State := s.sf F.PRC_PROC_STAT_STATE i st

/-- A proctor enters detention: held in reset, its heartbeats ignored (R391, R412). -/
def procDetained (i : Nat) (s : State) : State :=
  let s := setProc i 4 (unitDetained 5 i 0 s)
  { s with rel := { s.rel with hb := Store.clear (2 * i) (2 * i + 2) s.rel.hb } }

/-- A unit is declared dead, on a row of Table REL-2 as its ground. -/
def declareUnit (kind u ground : Nat) (s : State) : State :=
  let r := s.unit kind u
  if kind = 5 then
    if s.proctorActive u ∨ procState u s = 4 then s else procDetained u (report 0 0x12 0xFF 5 u 0 ground s)
  else if r.state ≠ uEnrolled ∨ r.role = 0 then s
  else match kind with
    | 0 => declareClass (r.role - 1) ground s
    | 1 => declareBp u (r.role - 1) ground s
    | 2 => declareCore u (r.role - 1) ground s
    | 3 => declareLink 3 u ground s
    | 4 => declareLink 4 u ground s
    | 6 => declareLink 6 u ground s
    | _ => s

/-- Units of each kind (Table REL-1). -/
def unitCount (kind : Nat) : Nat :=
  match kind with
  | 0 => 264
  | 1 => 139392
  | 2 => 64
  | 3 => 26
  | 4 => 8
  | 5 => 2
  | 6 => 8
  | 7 => 8
  | _ => 1

/-- DECLARE_DEAD: by the active proctor; none is declared while the hall monitor is in control (R415). -/
def declareDead (kind u ground : Nat) (s : State) : State :=
  if !s.proctorUp ∨ unitCount kind ≤ u then s else declareUnit kind u ground s

/-! ### Stale items (R391, R392) -/

/-- EPOCH_STALE: an item under an old epoch of a role is dropped: 0x0C in every partition the unit served, event 0x0013 at most once
a second for a unit. -/
def epochStale (kind u role ep parts : Nat) (s : State) : State :=
  let cur := roleEpoch s kind role
  if ep = cur then s
  else
    let f : StepFault := { code := 12, locA := kind, locB := role, locC := cur + 65536 * ep, corrupt := false }
    let l := (List.range 16).filter fun p => bitAt parts p = 1
    let s := forEach l (fun p t => raiseFault p f (t.curStep p).2 (t.curStep p).1 t) s
    let last := Store.get 0 s.rel.stale (unitKey kind u)
    if last ≠ 0 ∧ s.dtime < last - 1 + 1000000000 then s.bump F.PRC_STALE_COUNT 0 1
    else
      let s := report 0 0x13 (l.headD 0xFF) kind u role ep s
      { s with rel := { s.rel with stale := Store.set 0 (unitKey kind u) (s.dtime + 1) s.rel.stale } }

/-- A link whose unit is declared dead discards what it receives. -/
def whileAlive (l : Nat) (f : State → State) (s : State) : State := if (s.lk l).dead then s else f s

/-! ### Self-tests and re-enrolment (R399, R400, R406) -/

/-- STATE of a unit as the roll call shows it (Table REL-4): a proctor's from PRC_PROC_STAT. -/
def unitState (kind u : Nat) (s : State) : Nat :=
  if kind = 5 ∧ (s.unit 5 u).state ≠ uSelftest then (if procState u s = 4 then uDetention else uEnrolled) else (s.unit kind u).state

/-- A write of PRC_UNIT_CMD: kind and unit clamped (R12). -/
def unitCmd (rq : Requester) (cmd kind unit : Nat) (legal : Nat → Nat → Bool) (f : Nat → Nat → State → State) (s : State) : State :=
  let w := cmd + 4 * kind + 256 * unit
  let k := min kind 8
  let u := min unit (unitCount k - 1)
  if rq ≠ .pf0 then (denyWrite rq .PRC_UNIT_CMD 0 w s).sf F.PRC_UNIT_STAT_CMDST 0 0x21
  else if legal k u then f k u (okResp 0 (s.sf F.PRC_UNIT_STAT_CMDST 0 0))
  else logRefused rq .PRC_UNIT_CMD 0 w (okResp 0 (s.sf F.PRC_UNIT_STAT_CMDST 0 0x20))

/-- SELFTEST (Table REL-3). -/
def selftest (rq : Requester) (kind unit : Nat) (s : State) : State :=
  unitCmd rq 1 kind unit (fun k u => decide (unitState k u s = uDetention) && !(s.flag F.PRC_UNIT_STAT_BUSY 0)) (fun k u s =>
    let s := (s.sf F.PRC_UNIT_STAT_BUSY 0 1).modUnit k u fun r => { r with state := uSelftest, passed := false }
    { s with rel := { s.rel with test := some (k, u) } }) s

/-- The memories of a unit are left zeroised (Table REL-3). -/
def unitZero (kind u : Nat) (s : State) : State :=
  let bps : Nat → Nat → State → State := fun b n s =>
    { s with bp := { s.bp with imem := Store.clear (4096 * b) (4096 * (b + n)) s.bp.imem, slate := Store.clear (4096 * b) (4096 * (b + n)) s.bp.slate } }
  match kind with
  | 0 =>
    let s := bps (528 * u) 528 s
    { s with bp := { s.bp with expTab := Store.clear (4096 * u) (4096 * u + 4096) s.bp.expTab, memTab := Store.clear (4096 * u) (4096 * u + 4096) s.bp.memTab
                               slateX := Store.clear (2 * u) (2 * u + 2) s.bp.slateX } }
  | 1 => (bps u 1 s)
  | _ => s

/-- SELFTEST_DONE. -/
def selftestDone (pass : Bool) (s : State) : State :=
  match s.rel.test with
  | none => s
  | some (k, u) =>
    let s := unitZero k u s
    let s := (s.sflag F.PRC_UNIT_STAT_PASS 0 pass).sf F.PRC_UNIT_STAT_BUSY 0 0
    let s := s.modUnit k u fun r => { r with state := uDetention, passed := pass }
    report 0 0x14 0xFF k u ((s.unit k u).banned - 1) (b2n (!pass)) { s with rel := { s.rel with test := none } }

/-- A unit joins its pool. Bundles, ports and chained devices take their one role again and train (R398). -/
def enrolUnit (k u : Nat) (s : State) : State :=
  let s := s.modUnit k u fun r => { r with state := uSubstitute, reenrol := min 255 (r.reenrol + 1), passed := false }
  let s := report 0 0x15 0xFF k u ((s.unit k u).banned - 1) 0 s
  match k with
  | 1 => match classOfPhys (u / 528) s with | some n => spareCount n s | none => s
  | 2 => match ((List.range 8).map (8 * (u / 8) + ·)).find? fun c => (coreUnit c s).isNone ∧ (s.unit 2 u).banned ≠ c + 1 with
    | some c => coreTakes c u s
    | none => s
  | 3 => forEach (unitLinks 3 u) (fun l t => startTraining l 0 (t.modLk l fun r => { r with dead := false })) (unitTakes 3 u u s)
  | 4 => forEach (unitLinks 4 u) (fun l t => startTraining l 0 (t.modLk l fun r => { r with dead := false })) (unitTakes 4 u u s)
  | 6 => forEach (unitLinks 6 u) (fun l t => startTraining l 0 (t.modLk l fun r => { r with dead := false })) (unitTakes 6 u u s)
  | _ => s

/-- ENROL (Table REL-3); a proctor leaves detention only through LOAD_STANDBY or RELOAD (R414). -/
def enrol (rq : Requester) (kind unit : Nat) (s : State) : State :=
  unitCmd rq 2 kind unit (fun k u => decide (k ≠ 5 ∧ unitState k u s = uDetention) && (s.unit k u).passed) enrolUnit s

/-- ECC_SELFTEST_START (R406). -/
def eccStart (rq : Requester) (s : State) : State :=
  if !(procOrM rq s) then (denyWrite rq .PRC_ECCST_CMD 0 1 s).sf F.PRC_ECCST_STAT_CMDST 0 0x21
  else if s.flag F.PRC_ECCST_STAT_BUSY 0 then logRefused rq .PRC_ECCST_CMD 0 1 (okResp 0 (s.sf F.PRC_ECCST_STAT_CMDST 0 0x20))
  else okResp 0 ((s.sf F.PRC_ECCST_STAT_CMDST 0 0).sf F.PRC_ECCST_STAT_BUSY 0 1)

/-- An array fails the ECC self-test: the unit that holds it is declared dead, a bank retired. `kind` is a unit kind, 7 a blackboard
bank, else a memory that no unit of Table REL-1 holds. -/
def eccFail (m kind u : Nat) (s : State) : State :=
  let s := report 0 0x03 0xFF (if kind < 7 then kind else 0xFF) (if kind < 7 then u else 0) 0 m s
  if !s.proctorUp then s
  else if kind < 7 then declareDead kind u (if kind = 2 then 3 else if kind = 0 then 2 else if kind ≤ 1 then 0 else if kind ≤ 4 then 4 else kind) s
  else if kind = 7 ∧ u < 512 then retireBank (tokenHolder s) u s else s

/-- ECC_SELFTEST_DONE: the arrays that failed, by memory code of Table REL-8, with their holders. -/
def eccDone (fails : List (Nat × Nat × Nat)) (s : State) : State :=
  if !(s.flag F.PRC_ECCST_STAT_BUSY 0) then s
  else
    let l := fails.filter fun e => e.1 < 13 ∧ e.1 ≠ 5
    let mask := ((List.range 15).map fun m => if l.any fun e => e.1 == m then 2 ^ m else 0).sum
    let s := (s.sf F.PRC_ECCST_STAT_BUSY 0 0).sf F.PRC_ECCST_STAT_FAILED 0 mask
    forEach l (fun e t => eccFail e.1 e.2.1 e.2.2 t) s

/-! ### Thresholds (R407, Table REL-6) -/

/-- Threshold `k` is reached on a BP that holds role `r` of class `n`. -/
def bpThreshold (n r m a u : Nat) (s : State) : State :=
  match bpFollow n r s with
  | some t => t
  | none => report 0 0x16 (clsPartOr n s) 1 u (512 * n + r) (m + 256 * a) s

/-- THRESHOLD_REACHED: threshold `k` of unit `u` stands at `count`, in memory `m` at index `a`. For k = 7 and 8, `u` is 2^23 x stack +
page. -/
def thresholdReached (k count u m a : Nat) (s : State) : State :=
  let d := m + 256 * a
  if !s.proctorUp ∨ count < s.gf F.PRC_THRESH_VALUE k then s
  else
    let r := s.unit (if k ≤ 2 then 1 else 2) u
    let kind := if k ≤ 2 then 1 else if k ≤ 4 then 2 else 0xFF
    let s := if k = 3 then s else report 0 (if [1, 2, 6, 8].contains k then 2 else 1) 0xFF kind (if k ≤ 4 then u else 0) (r.role - 1) d s
    if k ≤ 2 then
      match classOfPhys (u / 528) s with
      | none => s
      | some n =>
        if r.role = 0 ∨ r.state ≠ uEnrolled then s
        else if k = 2 then
          if s.clsOwner n ≠ 0 ∧ (s.part (clsPart n s)).repSlot.isSome then bpThreshold n (r.role - 1) m a u (repairPart (clsPart n s) s) else s
        else bpThreshold n (r.role - 1) m a u s
    else if k ≤ 4 then
      let c := r.role - 1
      if r.role = 0 ∨ r.state ≠ uEnrolled then s
      else if (coreSpare c s).isNone then report 0 0x16 0xFF 2 u c d s
      else if k = 3 then declareCore u c 3 s
      else
        let s := deskEmpty c (s.sf F.DSP_CORE_CFG_EN c 0)
        if (s.core c).cur.isNone then declareCore u c 3 s else s
    else if k ≤ 6 then (if u < 512 then retireBank (tokenHolder s) u s else s)
    else hbmRetire (tokenHolder s) (u / 8388608 % 4) (u % 8388608) s

/-! ### The token (R408, R411, R412) -/

/-- The device watchdog starts again with a full period (R429). -/
def dwdogReload (s : State) : State := s.sf F.RST_DWDOG_STAT_REMAIN 0 (s.gf F.RST_DWDOG_CFG_PERIOD 0)

/-- The monitor goes offline: a request in execution gets no answer, cached answers are lost (R362). -/
def monitorDown (s : State) : State :=
  let s := (s.sf F.DBG_MBX_STAT_ONLINE 0 0).sf F.DBG_MBX_STAT_BUSY 0 0
  { s with dbg := { s.dbg with ports := [] } }

/-- A free choice that R412 leaves to the new active proctor. -/
def commitChoice (s : State) : Bool := decide (Config.coreValue 2049 s.seq % 2 = 1)

/-- The claimant cancels every follow that is not READY, and commits or cancels each READY one. -/
def claimFollows (rq : Requester) (s : State) : State :=
  let s := forUpTo 256 (fun n t =>
    if !(t.flag F.CLS_SUB_STATUS_FOLLOW n) then t
    else if t.flag F.CLS_SUB_STATUS_READY n ∧ commitChoice t then subCommit rq n (drawn t)
    else followCancel n (drawn t)) s
  if !(s.flag F.PRC_CLS_SUB_STAT_FOLLOW 0) then s
  else if s.flag F.PRC_CLS_SUB_STAT_READY 0 ∧ commitChoice s then clsCommit rq (s.gf F.PRC_CLS_SUB_STAT_CLASS 0) (drawn s)
  else clsFollowCancel (drawn s)

/-- The hall monitor gives control up (R416). -/
def hallRelease (s : State) : State :=
  if s.flag F.PRC_HM_STAT_ACTIVE 0 then
    let s := report 1 0x41 0xFF 0xFF 0 0 1 (s.sf F.PRC_HM_STAT_ACTIVE 0 0)
    { s with rel := { s.rel with alertHm := false, hallAt := [] } }
  else s

/-- Proctor `j` as a requester. -/
def procRq (j : Nat) : Requester := .proctor (if j = 0 then 0 else 1)

/-- Proctor `j` becomes ACTIVE: the role's epoch advances, the former holder enters detention (R412). -/
def takeToken (j ground : Nat) (s : State) : State :=
  let a := 1 - j
  let s := if procState a s = 3 then procDetained a s else s
  let s := setProc j 3 (bumpEpoch 5 0 s)
  let s := { s with ld := { s.ld with svn := match Store.get 0 s.rel.fw j with | 0 => none | v + 1 => some v } }
  let s := hallRelease s
  let s := report 0 0x40 0xFF 5 j 0 (ground + 256 * j) s
  let s := claimFollows (procRq j) s
  dwdogReload ((monitorDown s).sf F.DBG_MBX_STAT_ONLINE 0 1)

/-- TOKEN_CLAIM by a STANDBY proctor; a role at epoch 0xFFFE passes on no more (R390). -/
def tokenClaim (j ground : Nat) (s : State) : State :=
  if procState j s = 2 ∧ !(Store.get false s.rel.stopped j) ∧ roleEpoch s 5 0 < 0xFFFE then takeToken j ground s else s

/-- TOKEN_RENEW: a proctor whose epoch the token no longer holds halts and enters detention (R408). -/
def tokenRenew (i e : Nat) (s : State) : State :=
  if procState i s ≠ 2 ∧ procState i s ≠ 3 then s
  else if s.proctorActive i ∧ e = roleEpoch s 5 0 then s
  else procDetained i (if s.proctorActive i then monitorDown s else s)

/-! ### Heartbeats and failures (R409-R411) -/

/-- HEARTBEAT of proctor `i` on path `t`. -/
def heartbeat (i t : Nat) (s : State) : State :=
  if procState i s = 4 ∨ procState i s = 0 ∨ Store.get false s.rel.stopped i then s
  else
    let s := s.sf (if t = 0 then F.PRC_PROC_STAT_HB_T else F.PRC_PROC_STAT_HB_S) i 1
    { s with rel := { s.rel with hb := Store.set 0 (2 * i + t) (Store.get 0 s.rel.hb (2 * i + t) + 1) s.rel.hb } }

/-- An event of kind DEGRADED, to which Table REL-7 gives no number: it is free. -/
def degraded (i : Nat) (s : State) : State := reportSev 2 0 (Config.coreValue 2048 s.seq % 65536) 0xFF 5 i 0 0 (drawn s)

/-- HEARTBEAT_TIMEOUT: nothing came from proctor `i` for 4 periods on the paths of `miss`. -/
def heartbeatTimeout (i miss : Nat) (s : State) : State :=
  let lost : Nat → State → State := fun t s =>
    let s := s.sf (if t = 0 then F.PRC_PROC_STAT_HB_T else F.PRC_PROC_STAT_HB_S) i 0
    { s with rel := { s.rel with hb := Store.set 0 (2 * i + t) 0 s.rel.hb } }
  match miss with
  | 0 => s
  | 1 => degraded i (lost 0 s)
  | 2 => degraded i (lost 1 s)
  | _ =>
    let s := lost 1 (lost 0 s)
    if s.proctorActive i then tokenClaim (1 - i) 1 s else s

/-- PROCTOR_WATCHDOG_EXPIRY and LOCKSTEP_MISMATCH: the pair stops at once and sends FAIL (R410). -/
def proctorStops (i : Nat) (s : State) : State :=
  if procState i s = 0 ∨ procState i s = 4 then s
  else
    let s := if s.proctorActive i then monitorDown s else s
    { s with rel := { s.rel with stopped := Store.set false i true s.rel.stopped, hb := Store.clear (2 * i) (2 * i + 2) s.rel.hb } }

/-- FAIL_MSG of proctor `i` reaches the other one. -/
def failMsg (i : Nat) (s : State) : State := if s.proctorActive i then tokenClaim (1 - i) 0 s else s

/-! ### Proctor commands (R413, Table REL-10) -/

/-- A write of PRC_PROC_CMD; the status stands with the proctor commanded. -/
def procCmd (rq : Requester) (w i : Nat) (access legal : Bool) (f : State → State) (s : State) : State :=
  if !access then (denyWrite rq .PRC_PROC_CMD 0 w s).sf F.PRC_PROC_STAT_CMDST i 0x21
  else if legal then f (okResp 0 (s.sf F.PRC_PROC_STAT_CMDST i 0))
  else logRefused rq .PRC_PROC_CMD 0 w (okResp 0 (s.sf F.PRC_PROC_STAT_CMDST i 0x20))

/-- A proctor boots: 0 after reset, 1 as STANDBY, 2 by RELOAD. -/
def procBoots (i what : Nat) (s : State) : State :=
  let old := procState i s
  let s := ((setProc i 1 s).sf F.PRC_PROC_STAT_HB_T i 0).sf F.PRC_PROC_STAT_HB_S i 0
  { s with rel := { s.rel with boot := Store.set (0, 0) i (what, old) s.rel.boot, stopped := Store.set false i false s.rel.stopped
                               hb := Store.clear (2 * i) (2 * i + 2) s.rel.hb } }

/-- LOAD_STANDBY. -/
def loadStandby (rq : Requester) (s : State) : State :=
  let j := otherProctor s
  procCmd rq 1 j (pf0OrProctor rq s) ((s.proctorActive 0 || s.proctorActive 1) && [0, 2, 4].contains (procState j s)) (procBoots j 1) s

/-- SWITCH: the other proctor is STANDBY and has sent 4 consecutive heartbeats. -/
def switchProctor (rq : Requester) (s : State) : State :=
  let j := otherProctor s
  let beats := max (Store.get 0 s.rel.hb (2 * j)) (Store.get 0 s.rel.hb (2 * j + 1))
  procCmd rq 2 j (pf0OrProctor rq s) ((s.proctorActive 0 || s.proctorActive 1) && decide (procState j s = 2 ∧ 4 ≤ beats)) (tokenClaim j 2) s

/-- RELOAD: by host physical function 0 while the hall monitor is in control (R416). -/
def reload (rq : Requester) (i : Nat) (s : State) : State :=
  procCmd rq (3 + 4 * i) i (decide (rq = .pf0)) (s.flag F.PRC_HM_STAT_ACTIVE 0) (procBoots i 2) s

/-! ### Boot manifests (R180, Table CFG-2) -/

/-- Entry `i` of a manifest: TYPE, PART, the component's bytes, DIGEST. -/
def mfEntry (b : List Nat) (i : Nat) : Nat × Nat × List Nat × Nat :=
  let o := 112 + 80 * i
  (b.getD o 0, b.getD (o + 1) 0, (b.drop (leAt b (o + 8) 8)).take (leAt b (o + 16) 8), leAt b (o + 24) 48)

/-- The entries in use. -/
def mfEntries (b : List Nat) : List (Nat × Nat × Nat × List Nat × Nat) := (List.range (min 16 (leAt b 6 2))).map fun i => (i, mfEntry b i)

/-- MANIFEST_CHECK: the ROM accepts the manifest and its firmware components. -/
def manifestOk (b : List Nat) (s : State) : Bool :=
  let pub := (b.drop 16).take 96
  decide (1536 ≤ b.length) && decide (b.take 4 = [0x44, 0x58, 0x42, 0x4D]) && decide (leAt b 4 2 = 1) && rkAccepts pub s
    && Config.ecdsaOk pub (b.take 1392) ((b.drop 1392).take 96) && decide (s.gf F.SEC_SVN_STAT_SVN 0 ≤ leAt b 8 4)
    && (mfEntries b).all fun e => !(decide (1 ≤ e.2.1) && decide (e.2.1 ≤ 3)) || decide (Config.sha384 e.2.2.2.1 = e.2.2.2.2)

/-- The manifests that proctor `i`'s boot ROM tries, in order: what the boot source delivers, or the bundle in device memory (R179,
R413, R416). -/
def bootSources (i : Nat) (a b : List Nat) (s : State) : List (List Nat) :=
  if (Store.get (0, 0) s.rel.boot i).1 = 0 then
    match s.gf F.RST_STRAP_BOOTSEL 0 with
    | 0 => [a, b]
    | 1 => [s.rbs hbmBase s.ld.push]
    | 2 => [a]
    | 3 => [a]
    | _ => []
  else [s.rbs ((s.reg .PRC_PROC_SRC_LO 0).toNat + 2 ^ 32 * ((s.reg .PRC_PROC_SRC_HI 0).toNat % 65536)) (s.reg .PRC_PROC_LEN 0).toNat]

/-- The state that Table DBG-8 excludes is zeroised before trace of it opens (R386). -/
def secZeroise (s : State) : State :=
  let s := forUpTo 16 (fun p t => if t.sealed p then abortPart p t else t) s
  forUpTo 64 (fun c t => zeroRam c t) s

/-- The mappings and detentions of the locker's unit records stand again, without a new epoch (R59, R390). -/
def reapply (s : State) : State :=
  let of : Nat → List (Nat × UnitRec) := fun k => (Store.range (1048576 * k) (1048576 * k + 1048576) s.rel.units).map fun e => (e.1 - 1048576 * k, e.2)
  let s := (of 0).foldl (fun t e => { t with bp := { t.bp with
    clsMap := if e.2.role = 0 then t.bp.clsMap else Store.set (33 * ((e.2.role - 1) / 32) + (e.2.role - 1) % 32) (e.2.role - 1) e.1 t.bp.clsMap
    fenced := if e.2.state = uDetention then Store.set false e.1 true t.bp.fenced else t.bp.fenced } }) s
  let s := (of 1).foldl (fun t e => match classOfPhys (e.1 / 528) t with
    | some n => if e.2.role = 0 then t else t.sf F.CLS_BP_MAP_PHYS (512 * n + (e.2.role - 1)) (e.1 % 528)
    | none => t) s
  let walk : Nat → Nat → Nat := fun pc j => (List.range 17).foldl (fun u _ => let r := s.unit 1 (528 * pc + u); if r.role = 0 then u else r.role - 1) (512 + j)
  let s := (List.range 264).foldl (fun t pc => if (of 1).any (fun e => e.1 / 528 == pc) then
      { t with bp := { t.bp with spare := (List.range 16).foldl (fun m j => Store.set (512 + j) (16 * pc + j) (walk pc j) m) t.bp.spare } }
    else t) s
  forUpTo 256 (fun n t => spareCount n t) s

/-- The first firmware after a reset starts the device: retirements, HBM, tutor cores, the monitor (R181, steps 2 and 3). -/
def firstStart (entry : Nat) (images : List (Nat × Nat × Nat)) (s : State) : State :=
  let s := reapply s
  let s := forUpTo 4 (fun k t => if bitAt (t.gf F.RST_UNIT_MISC_HBM 0) k = 1 then t else t.sf F.HBM_STATUS_READY k 1) s
  let s := forUpTo 64 (fun c t =>
    let t := { t with rst := { t.rst with entry := Store.set 0 c (entry + 1) t.rst.entry } }
    let held := bitAt (t.gf F.RST_UNIT_CORE_LO_CORE 0 + 2 ^ 32 * t.gf F.RST_UNIT_CORE_HI_CORE 0) c = 1
    if held ∨ (coreUnit c t).isNone ∨ t.cst c ≠ coreReset then t else coreStart c entry t) s
  { (s.sf F.GLB_LCS_ROM_PHASE 0 0) with ld := { s.ld with boots := images } }

/-- Accepted proctor firmware starts: `svn` is its manifest's, none where the host gave it; `images` the manifest's image entries. -/
def fwStarts (i what entry : Nat) (svn : Option Nat) (images : List (Nat × Nat × Nat)) (s : State) : State :=
  let tag := match svn with | none => 0 | some v => v + 1
  let s := { s.sf F.PRC_PROC_STAT_RESULT i 0 with rel := { s.rel with fw := Store.set 0 i tag s.rel.fw, alertRom := false } }
  let s := report 2 0x42 0xFF 5 i 0 (svn.getD 0) s
  let s := s.modUnit 5 i fun _ => { reenrol := min 255 ((s.unit 5 i).reenrol + b2n (decide (what ≠ 0 ∧ (s.unit 5 i).state = uDetention))) }
  if s.proctorActive 0 || s.proctorActive 1 || decide (what = 1) then setProc i 2 s
  else
    let hm := s.flag F.PRC_HM_STAT_ACTIVE 0
    let s := if what = 2 then takeToken i 3 s
      else ({ setProc i 3 s with ld := { s.ld with svn := svn } } |> dwdogReload).sf F.DBG_MBX_STAT_ONLINE 0 1
    let s := if (what = 2 ∧ hm) ∨ svn.isNone then secZeroise s else s
    if s.flag F.GLB_LCS_ROM_PHASE 0 then firstStart entry images s else s

/-- SVN and image entries of a manifest. -/
def mfImages (m : List Nat) : List (Nat × Nat × Nat) :=
  (mfEntries m).filterMap fun e => if e.2.1 = 4 then some (e.1, e.2.2.1, e.2.2.2.2) else none

/-- The boot ROM accepts nothing (R180, R414, R416). -/
def fwRejected (i what prior n : Nat) (s : State) : State :=
  if what = 0 then
    if n = 0 then s
    else
      let s := forUpTo n (fun k t => report 2 0x51 0xFF 5 i 0 k t) (s.sf F.PRC_PROC_STAT_RESULT i 0x12)
      { s with rel := { s.rel with alertRom := true } }
  else setProc i (if prior = 4 then 4 else 0) (report 2 0x42 0xFF 5 i 0 (0x12 * 2 ^ 32) (s.sf F.PRC_PROC_STAT_RESULT i 0x12))

/-- PROCTOR_FIRMWARE_LOADED: `a` and `b` are the bundles that the boot source delivers, `host` says that the host gives the firmware to a
ROM that waits for it, `ecc` is the proctor's ECC self-test, `entry` the entry address of the tutor firmware. -/
def fwLoaded (i : Nat) (a b : List Nat) (host ecc : Bool) (entry : Nat) (s : State) : State :=
  if procState i s ≠ 1 then s
  else
    let x := Store.get (0, 0) s.rel.boot i
    if x.1 ≠ 0 ∧ !ecc then procDetained i (report 2 0x03 0xFF 5 i 0 10 s)
    else if host ∧ x.1 = 0 then
      if 4 ≤ s.gf F.RST_STRAP_BOOTSEL 0 ∨ s.rel.alertRom then fwStarts i 0 entry none [] s else s
    else
      let src := bootSources i a b s
      match src.find? fun m => manifestOk m s with
      | some m => fwStarts i x.1 entry (some (leAt m 8 4)) (if x.1 = 0 then mfImages m else []) s
      | none => fwRejected i x.1 x.2 src.length s

/-! ### The hall monitor (R415) -/

/-- HALL_MONITOR_TAKEOVER: the token has not been renewed for 200 us. -/
def hallTakeover (s : State) : State :=
  if s.flag F.PRC_HM_STAT_ACTIVE 0 then s
  else
    let s := (s.sf F.PRC_HM_STAT_ACTIVE 0 1).bump F.PRC_HM_STAT_TAKEOVERS 0 1
    let s := monitorDown (forUpTo 2 (fun i t => if t.proctorActive i then procDetained i t else t) s)
    let s := report 1 0x41 0xFF 0xFF 0 0 0 (raiseIrq 40 { s with rel := { s.rel with alertHm := true } })
    let s := if s.flag F.PRC_HM_CFG_POLICY 0 then
        forUpTo 16 (fun p t => if t.pst p = stRunning then { t with rel := { t.rel with hallAt := Store.set 0 p (t.scc + 1) t.rel.hallAt } } else t) s
      else s
    if s.flag F.PRC_HM_CFG_WDOG_RESET 0 then s else dwdogReload s

end Machine
end Sys2Proof
end

