-- ==== Sys2Proof/Machine/Reset.lean ====
section
/-! DEFINITION. Reset sources and levels, the release sequence, unit resets, the device watchdog (R420-R432, R306, R445). -/
namespace Sys2Proof
namespace Machine

/-! ### Reset sources (Table RCP-1) -/

def srcPor : Nat := 0
def srcBor : Nat := 1
def srcPin : Nat := 2
def srcWdog : Nat := 3
def srcSwreq : Nat := 4
def srcDbgreq : Nat := 5
def srcClkfail : Nat := 6
def srcLockup : Nat := 7
def srcTherm : Nat := 8
def srcUnit : Nat := 9

/-- Step of Sequence RCP-1 at which a level's release begins (R423). -/
def firstStep (lvl : Nat) : Nat := if lvl = 0 then 0 else if lvl = 1 then 2 else 7

/-- A level covers step `k` of the sequence. -/
def covers (lvl k : Nat) : Bool := decide (lvl = 0) || (decide (lvl = 1) && decide (2 ≤ k)) || (decide (lvl = 2) && decide (k = 7))

/-! ### What level 1 keeps (Table RCP-2) -/

/-- Registers of the always-on domain and of what is fused or kept in the locker. -/
def keptRegs : List Reg :=
  [.PRC_RC_STAT, .PRC_RC, .TIM_RATE, .TIM_CFG, .RST_CAUSE, .RST_SWREQ, .RST_DBGREQ, .RST_UNIT_STAT, .RST_PEND, .RST_STRAP, .RST_CLK_STAT
   , .RST_CLK_CFG, .RST_RAIL_STAT, .RST_TEMP, .RST_THR_CFG, .RST_PWR_STAT, .RST_PWR_WAKE, .RST_DWDOG_CFG, .RST_DWDOG_STAT, .LCK_REG
   , .PIO_BANK_STAT, .GLB_ID, .GLB_UID, .GLB_LCS, .DIE_ID, .GLB_FEATURE_LEVEL, .SEC_KEY_STATUS, .SEC_RK_STAT, .SEC_SVN_STAT, .SEC_LC_STAT]

/-- The entries of the registers `l`. -/
def pickRegs (l : List Reg) (m : Store Word) : Store Word := m.filter fun e => l.any fun r => decide (e.1 % regStride = r.ctorIdx)

/-- Registers that a reset other than level 0 leaves as they are, one field each: the retirements of banks, TDCs and HBM pages, the
takeovers of the hall monitor (R156, R236, R430). -/
def keepFields (s t : State) : State :=
  let t := forUpTo 512 (fun b t => if s.gf F.BBD_BANK_STATE b = 2 then t.sf F.BBD_BANK_STATE b 2 else t) t
  let t := forUpTo 68 (fun i t => if s.gf F.STW_TDC_ROLE i = 3 then t.sf F.STW_TDC_ROLE i 3 else t) t
  let t := forUpTo 4 (fun k t => t.sf F.HBM_RET_STAT_USED k (s.gf F.HBM_RET_STAT_USED k)) t
  t.sf F.PRC_HM_STAT_TAKEOVERS 0 (s.gf F.PRC_HM_STAT_TAKEOVERS 0)

/-- Status fields of commands in the kept registers return to reset. -/
def clearStatus (t : State) : State :=
  let t := ((t.sf F.SEC_KEY_STATUS_CMDST 0 0).sf F.SEC_RK_STAT_CMDST 0 0).sf F.SEC_SVN_STAT_CMDST 0 0
  (t.sf F.SEC_LC_STAT_CMDST 0 0).sf F.GLB_LCS_ROM_PHASE 0 1

/-- The fuse fields of the pins act from now on (R458, R459). -/
def loadFuses (t : State) : State :=
  forUpTo 6 (fun j t => t.setReg .PIO_FUSE j (BitVec.ofNat 32 ((List.range 16).map fun m => Store.get 0 t.pio.fuse (16 * j + m) * 4 ^ m).sum)) t

/-- Memory after level 1: the blackboard and design regions are zeroised; what a local RAM or other HBM holds is open; the locker's memory
stays (Table RCP-2). -/
def memAfter (s : State) : MemState :=
  let code := 3 + (4 * s.seq + 2)
  let gran := (List.range 384).filterMap fun g => if Store.get 0 s.mem.granOwn g = 0 then some (512 + g, code) else none
  let ram := (List.range 64).map fun c => (896 + c, code)
  { mem := s.mem.mem.filter fun e => e.1 < 0x10000000, fill := gran ++ ram, pages := s.mem.pages
    marchW := { runs := s.mem.marchW.runs }, marchE := { runs := s.mem.marchE.runs } }

/-- The step clock as it starts: at the thermal limit. -/
def clockStart (t : State) : State :=
  let t := t.sf F.GLB_STEP_FREQ_FREQ 0 t.clk.thermal
  let t := t.sf F.GLB_DERATE_REASON_SRC 0 (b2n (decide (t.clk.thermal < 256)))
  (t.sf F.RST_PWR_STAT_STATE 0 (b2n (decide (t.clk.thermal < 256)))).sf F.RST_PWR_STAT_EXITING 0 0

/-- Proctors in detention stay there; clocks outside the always-on domain stop; TAP and always-on stay clocked. -/
def clocksStop (s t : State) : State :=
  let on : Nat → State → State := fun d t => if clockGood d s then t.sf ⟨.RST_CLKGOOD, d % 32, 1⟩ (d / 32) 1 else t
  let t := on 414 (on 413 t)
  forUpTo 2 (fun i t => if (s.unit 5 i).state = uDetention then setProc i 4 t else t) t

/-- What is left of the state when every block outside the always-on domain is cleared. -/
def deviceCleared (s : State) : State :=
  { pending := s.pending, regs := pickRegs keptRegs s.regs, mem := memAfter s
    tim := { sec := s.tim.sec, ns := s.tim.ns, frac := s.tim.frac, ptmStepped := s.tim.ptmStepped }
    rel := { rcSeq := s.rel.rcSeq, units := s.rel.units }
    dbg := { nonce := s.dbg.nonce + 1 }
    clk := { thermal := s.clk.thermal, want := s.clk.thermal }
    pio := { fuse := s.pio.fuse, pulse := s.pio.pulse, jtag := s.pio.jtag }
    ld := { keys := s.ld.keys, rk := s.ld.rk, pulse := s.ld.pulse }
    rst := { s.rst with entry := [], recessed := [], rel3 := [], failed := s.rst.failed.filter fun d => d = 413 }
    resp := s.resp, seq := s.seq + 1 }

/-- Level 1: every block outside the always-on domain (R421). -/
def deviceReset (s : State) : State :=
  let s := passEnd s
  clockStart (clocksStop s (loadFuses (clearStatus (keepFields s ((deviceCleared s).sf F.RST_DWDOG_STAT_PAUSED 0 0)))))

/-- A fuse or BBRAM write cut short: an eFuse bit is settled one way or the other, a BBRAM slot reads EMPTY (R425). -/
def pulseCut (s : State) : State :=
  let took := decide (Config.coreValue 2050 s.seq % 2 = 1)
  let s := if took then fuseDone s else { s with pio := { s.pio with pulse := none } }
  let s := match s.ld.pulse with
    | none => s
    | some (b, slot, what) =>
      if b = 0 ∧ 4 ≤ slot then setKey slot 0 0 s
      else if !took then s
      else if b = 1 then s.sf F.GLB_LCS_STATE 0 what
      else pulseEffect b slot what s
  drawn { s with ld := { s.ld with pulse := none } }

/-- Registers that level 0 leaves: the supplies, the identity, what eFuse and BBRAM hold. -/
def coldRegs : List Reg :=
  [.RST_RAIL_STAT, .PIO_BANK_STAT, .GLB_ID, .GLB_UID, .GLB_LCS, .DIE_ID, .GLB_FEATURE_LEVEL, .SEC_KEY_STATUS, .SEC_RK_STAT,
      .SEC_SVN_STAT, .SEC_LC_STAT]

/-- What is left of the state at level 0. -/
def coldCleared (s : State) : State :=
  { pending := s.pending, resp := s.resp, seq := s.seq
    regs := pickRegs coldRegs s.regs
    dbg := { nonce := s.dbg.nonce + 1 }
    pio := { fuse := s.pio.fuse }
    ld := { keys := s.ld.keys, rk := s.ld.rk }
    rst := { pinLow := s.rst.pinLow, src := s.rst.src.filter fun e => e.1 ≠ srcTherm } }

/-- Level 0: everything but eFuse and BBRAM (R421). The supplies are as they are. -/
def coldReset (s : State) : State := loadFuses (clearStatus ((coldCleared (pulseCut s)).sf F.SEC_KEY_STATUS_BUSY 0 0))

/-- Registers of level 2: partition state, sequencers, signal network, freeze units, capture and trace (Table RCP-2). -/
def fabricRegs : List Reg :=
  [.CLS_SUB_CMD, .CLS_SUB_CMD_STATUS, .CLS_IMEM_CE, .CLS_IMEM_UE, .CLS_SLATE_PE, .CLS_SLATE_SEL, .CLS_SLATE_DATA, .CLS_SEQ_STATUS
   , .PART_STATE, .PART_CMD, .PART_CMD_STATUS, .PART_CFG, .PART_CFG_NEXT, .PART_TEMPO, .PART_TEMPO_NEXT, .PART_COMMIT, .PART_TEMPO_STAT
   , .PART_TEMPO_EARLY, .PART_BELL_NUM_LO, .PART_BELL_NUM_HI, .PART_BELL_STAMP_0, .PART_BELL_STAMP_1, .PART_BELL_STAMP_2, .PART_BELL_STAMP_3
   , .NET_PART_LAT, .NET_CONTENTION, .NET_XPART, .NET_SCHED_CE, .NET_SCHED_UE, .NET_SW_OWN, .NET_SW_VALID, .NET_BR_OWN_WE, .NET_BR_OWN_EW
   , .NET_BR_VALID, .PART_FREEZE_CNT, .PART_FROZEN_CLOCKS_LO, .PART_FROZEN_CLOCKS_HI, .PART_FRZ_STATUS, .PART_FRZ_LAST
   , .PART_FRZ_LAST_BELL_LO, .PART_FRZ_LAST_BELL_HI, .PART_FRZ_LAST_LEN, .PART_NOTICE, .PART_FRZ_CHAIN, .PART_FAULT_ACTION
   , .PART_FAULT_ACTION_NEXT, .PART_FAULT_HEAD, .PART_FAULT_TAIL, .PART_FAULT_LOST, .PART_FAULT_LOG, .PART_LAT_DECL, .PART_LAT_PORT
   , .PART_LAT_PORT_CTL, .TRC_PCFG, .TRC_PCFG_NEXT, .TRC_PCMD, .TRC_PSTAT, .TRC_TRG_DES, .TRC_TRG_EXT, .TRC_TRG_ACT, .TRC_TRG_STAT
   , .TRC_TRG_SEL, .TRC_AREA, .TRC_SNAP_STAT, .TRC_JRN_STAT, .TRC_SIG_WR, .TRC_SIG_LOST, .TRC_REPLAY_STOP_LO, .TRC_REPLAY_STOP_HI
   , .TRC_REPLAY_STAT, .TRC_SNAP_BELL_LO, .TRC_SNAP_BELL_HI, .TRC_PRB_SEL, .TRC_PRB_DATA]

/-- The arrays, the network and the units of level 2 return to reset. -/
def fabricArrays (s : State) : State :=
  { s with
    bp := { clsMap := s.bp.clsMap, fenced := s.bp.fenced, spare := s.bp.spare }
    net := {}, parts := [], frz := {}, trc := { jbuf := s.trc.jbuf, tbuf := s.trc.tbuf, funLine := s.trc.funLine, funPos := s.trc.funPos, funLost := s.trc.funLost } }

/-- Level 2: loads end with 0x10 RESET, every partition goes to EMPTY (R421, Table CFG-15). -/
def fabricReset (s : State) : State :=
  let s := forUpTo 4 (fun c t => if ldRunning c t then loadTrunc c 5 t else t) s
  let s := forUpTo 16 (fun p t => if t.pst p = stEmpty then t else toEmpty p t) s
  let s := forUpTo 256 (fun n t => if t.flag F.CLS_SUB_STATUS_FOLLOW n then followCancel n t else t) s
  let s := if s.flag F.PRC_CLS_SUB_STAT_FOLLOW 0 then clsFollowCancel s else s
  fabricArrays (fabricRegs.foldl (fun t r => t.resetAll r) s)

/-! ### Asserting and releasing -/

/-- A fuse or BBRAM write is in progress (R425). -/
def anyPulse (s : State) : Bool := pulseBusy s || s.flag F.PIO_STAT_BUSY 0

/-- The sequence begins again no later than level `lvl` needs, and waits for its source. -/
def seqAssert (lvl src : Nat) (s : State) : State :=
  let st := if s.flag F.RST_PEND_ACTIVE 0 then min (s.gf F.RST_PEND_STEP 0) (firstStep lvl) else firstStep lvl
  let s := ((s.sf F.RST_PEND_ACTIVE 0 1).sf F.RST_PEND_STEP 0 st).sf F.RST_PEND_WAIT_SRC 0 1
  let cur := match s.rst.cur with
    | none => (lvl, src)
    | some c => if lvl < c.1 then (lvl, src) else c
  (s.sf F.RST_CAUSE_LEVEL 0 cur.1).sf F.RST_PEND_WAIT_CLK 0 0 |> fun s => { s with rst := { s.rst with cur := some cur } }

/-- A source of level 0 to 2 asserts: its reach is reset, unless a source asserted already covers it. -/
def assertNow (src lvl detail : Nat) (s : State) : State :=
  let held := s.rst.src.any fun e => decide (e.2.1 ≤ lvl)
  let s := if held then s
    else if lvl = 0 then coldReset s
    else if lvl = 1 then deviceReset s
    else fabricReset s
  let s := if src ≤ 7 then s.sf ⟨.RST_CAUSE, src, 1⟩ 0 1 else s
  let s := { s with rst := { s.rst with src := if s.rst.src.contains (src, lvl, detail) then s.rst.src else s.rst.src ++ [(src, lvl, detail)] } }
  seqAssert lvl src s

/-- A reset source asserts; one of level 1 or 2 waits for a write pulse in progress (R425). -/
def assertReset (src lvl detail : Nat) (s : State) : State :=
  if lvl ≠ 0 ∧ anyPulse s then
    if s.rst.held.contains (src, lvl, detail) then s else { s with rst := { s.rst with held := s.rst.held ++ [(src, lvl, detail)] } }
  else assertNow src lvl detail s

/-- A reset source releases. -/
def releaseReset (f : Nat × Nat × Nat → Bool) (s : State) : State :=
  { s with rst := { s.rst with src := s.rst.src.filter fun e => !f e } }

/-! ### Unit resets (R427, Table RCP-3) -/

/-- Words of RST_UNIT by address order: cores low and high, classes 0-7, others. -/
def unitReg (j : Nat) : Reg × Nat :=
  if j = 0 then (.RST_UNIT_CORE_LO, 0) else if j = 1 then (.RST_UNIT_CORE_HI, 0) else if j < 10 then (.RST_UNIT_CLS, j - 2) else (.RST_UNIT_MISC, 0)

/-- Bit `b` of word `j` of RST_UNIT. -/
def unitBit (j b : Nat) (s : State) : Bool := decide (bitAt (s.reg (unitReg j).1 (unitReg j).2).toNat b = 1)

/-- The bit of tutor core `c` is set. -/
def coreHeld (c : Nat) (s : State) : Bool := unitBit (c / 32) (c % 32) s

/-- Assertion of bit `b` of word `j` is legal. -/
def unitLegal (j b : Nat) (s : State) : Bool :=
  if j < 2 then true
  else if j < 10 then
    let n := 32 * (j - 2) + b
    match s.clsOwner n with
    | 0 => true
    | p + 1 => [stEmpty, stLoading, stLoaded, stHalted, stFenced].contains (s.pst p)
  else if b < 8 then decide (s.lst (2 * b) ≠ lsActive ∧ s.lst (2 * b + 1) ≠ lsActive)
  else if b < 12 then
    let k := b - 8
    (List.range 96).all (fun g => match granOwner (96 * k + g) s with | 0 => true | p + 1 => decide (s.pst p = stEmpty))
      && !((areasHeld s).any fun g => g / 96 == k)
      && (List.range 64).all fun f => decide (s.gf F.HIF_VF_MEM_COUNT f = 0 ∨ s.gf F.HIF_VF_MEM_STACK f ≠ k)
  else true

/-- A port goes to OFF. -/
def portOff (i : Nat) (s : State) : State :=
  updLinks (forEach [2 * i, 2 * i + 1] (fun l t => (setLanes l 0 ((t.setLst l lsOff).sf F.LNK_STAT_PHASE l 0)).modLk l fun r => { dead := r.dead }) s)

/-- Memory with the unowned granules of stack `k` at free contents. -/
def memLost (k q : Nat) (m : MemState) : MemState :=
  (List.range 96).foldl (fun m g => if Store.get 0 m.granOwn (96 * k + g) = 0 then m.refill (512 + 96 * k + g) (3 + (4 * q + 2)) else m) m

def stackFree (k : Nat) (s : State) : State := { s with mem := memLost k s.seq s.mem }

/-- A stack outside design regions loses what it holds as its controller is reset. -/
def stackLost (k : Nat) (s : State) : State := drawn (stackFree k s)

/-- The stopwatch is reset (Table STW-8). -/
def stwReset (s : State) : State :=
  let s := forUpTo 64 (fun i t => closeRec i t.stw.tb true t) s
  let s := forUpTo 64 (fun i t => if t.gf F.STW_IN_STAT_STATE i = inBound then t else t.sf F.STW_IN_STAT_STATE i inOff) s
  let s := forUpTo 16 (fun n t => (t.sf F.STW_TRG_STAT_STATE n 0).setStwTrg n {}) s
  [Reg.STW_IN_RX, .STW_IN_RX_NEXT, .STW_IN_DSK, .STW_IN_DSK_NEXT].foldl (fun t r => t.resetAll r) s

/-- A class is reset: its partition as under ABORT, a load of it ends with 0x10 RESET. -/
def classReset (n : Nat) (s : State) : State :=
  let s := match s.clsOwner n with
    | 0 => s
    | p + 1 =>
      let s := loadsEnd p 5 s
      if s.pst p = stEmpty then s else toEmpty p s
  [Reg.CLS_IMEM_CE, .CLS_IMEM_UE, .CLS_SLATE_PE, .CLS_SLATE_SEL, .CLS_SLATE_DATA].foldl (fun t r => t.resetReg r n) s

/-- The block of bit `b` of word `j` enters reset. -/
def unitAssert (j b : Nat) (s : State) : State :=
  if j < 2 then coreResetUnit (32 * j + b) s
  else if j < 10 then classReset (32 * (j - 2) + b) s
  else if b < 8 then portOff b s
  else if b < 12 then stackLost (b - 8) (s.sf F.HBM_STATUS_READY (b - 8) 0)
  else if b = 12 then stwReset s
  else if b = 18 then (s.resetAll .PIO_OUT).resetAll .PIO_OE
  else s

/-- Clock domains a block uses (R424). -/
def unitDomains (j b : Nat) : List Nat :=
  if j < 2 then [266 + (32 * j + b) / 8]
  else if j < 10 then [32 * (j - 2) + b]
  else if b < 8 then []
  else if b < 12 then (List.range 16).map fun c => 345 + 16 * (b - 8) + c
  else if b = 12 then [409, 410, 411, 412]
  else [415 + (b - 13)]

/-- A tutor core starts at the address its firmware was given; one that the proctor firmware has not started stays in reset. -/
def coreRelease (c : Nat) (s : State) : State :=
  match Store.find s.rst.entry c with
  | some e => if (coreUnit c s).isSome ∧ !(coreHeld c s) then coreStart c (e - 1) s else s
  | none => s

/-- The block of bit `b` of word `j` leaves reset, unless a wider reset covers it. -/
def unitRelease (j b : Nat) (s : State) : State :=
  if unitBit j b s then s
  else if j < 2 then (if s.cst (32 * j + b) = coreReset then coreRelease (32 * j + b) s else s)
  else if j = 10 ∧ 8 ≤ b ∧ b < 12 then (if s.proctorUp then s.sf F.HBM_STATUS_READY (b - 8) 1 else s)
  else s

/-- The pending level 3 releases whose clocks are good are applied; RST_PEND shows what is left (R424). -/
def unitPend (s : State) : State :=
  let ready : Nat × Nat → Bool := fun e => (unitDomains e.1 e.2).all fun d => clockGood d s
  let go := s.rst.rel3.filter ready
  let left := s.rst.rel3.filter fun e => !ready e
  let s := { s with rst := { s.rst with rel3 := left } }
  let s := s.sflag F.RST_PEND_UNIT 0 !left.isEmpty
  let s := match left.head? with
    | none => s
    | some e => match (unitDomains e.1 e.2).find? fun d => !(clockGood d s) with
      | some d => if s.flag F.RST_PEND_ACTIVE 0 then s else s.sf F.RST_PEND_DOMAIN 0 d
      | none => s
  forEach go (fun e t => unitRelease e.1 e.2 t) s

/-- RST_UNIT_WRITE: word `j` is written `v`. -/
def rstUnitWrite (rq : Requester) (j v : Nat) (s : State) : State :=
  let r := unitReg j
  if !(adminOk rq s) then (denyWrite rq r.1 r.2 v s).sf F.RST_UNIT_STAT_CMDST 0 0x21
  else
    let v := if j = 10 then v % 2 ^ 19 else v
    let ups := (List.range 32).filter fun b => bitAt v b = 1 ∧ !(unitBit j b s)
    let bad := ups.filter fun b => !(unitLegal j b s)
    let good := ups.filter fun b => unitLegal j b s
    let downs := (List.range 32).filter fun b => bitAt v b = 0 ∧ unitBit j b s
    let s := okResp 0 (s.sf F.RST_UNIT_STAT_CMDST 0 (if bad.isEmpty then 0 else 0x20))
    let s := forEach good (fun b t => t.sf ⟨r.1, b, 1⟩ r.2 1) s
    let s := forEach downs (fun b t => t.sf ⟨r.1, b, 1⟩ r.2 0) s
    let s := if anyPulse s then { s with rst := { s.rst with held := s.rst.held ++ good.map fun b => (srcUnit, 3, 64 * j + b) } }
      else forEach good (fun b t => unitAssert j b t) s
    let s := unitPend { s with rst := { s.rst with rel3 := (s.rst.rel3.filter fun e => !(e.1 == j && good.contains e.2)) ++ downs.map fun b => (j, b) } }
    if bad.isEmpty then s else logRefused rq r.1 r.2 v s

/-! ### LOCKUP (R306) -/

/-- The core enters LOCKUP: reset alone for 16 reference cycles. -/
def coreLockupNow (c : Nat) (s : State) : State :=
  let u := (coreUnit c s).getD c
  let s := (coreResetUnit c s).sf F.DBG_CORE_STAT_STATE c coreLockup
  let s := report 0 0x80 0xFF 2 u c 0 ((s.sf ⟨.RST_CAUSE, srcLockup, 1⟩ 0 1).sf F.RST_CAUSE_LEVEL 0 3)
  { s with rst := { s.rst with src := s.rst.src ++ [(srcLockup, 3, c)] } }

/-- LOCKUP of core `c`; no further effect where its RST_UNIT bit is set (Table RCP-10). -/
def lockup (c : Nat) (s : State) : State :=
  if coreHeld c s then s
  else if anyPulse s then { s.sf F.DBG_CORE_STAT_STATE c coreLockup with rst := { s.rst with held := s.rst.held ++ [(srcLockup, 3, c)] } }
  else coreLockupNow c s

/-- CORE_WATCHDOG_EXPIRY: the first expiry sets EXP1, the second is LOCKUP. The watchdog is off with PERIOD 0, and pauses while the core is
halted and in RECESS (R306, R373, R443). -/
def coreWatchdog (c : Nat) (s : State) : State :=
  let w := csrHeld c csrWdog s
  if w % 2 ^ 32 = 0 ∨ s.cst c ≠ coreRunning ∨ s.gf F.RST_PWR_STAT_STATE 0 = 2 then s
  else if bitAt w 33 = 0 then csrPut c csrWdog (w + 2 ^ 33) s
  else lockup c s

/-- MTVEC_FETCH_FAULT. -/
def mtvecFault (c : Nat) (s : State) : State := if s.cst c = coreRunning then lockup c s else s

/-! ### Supplies and pins -/

/-- POR releases once both of its rails are good and REFCLK_AO is clock-good (Table RCP-1). -/
def porTry (s : State) : State :=
  if bitAt (s.gf F.RST_RAIL_STAT_GOOD 0) 0 = 1 ∧ bitAt (s.gf F.RST_RAIL_STAT_GOOD 0) 1 = 1 ∧ clockGood 413 s then
    releaseReset (fun e => decide (e.1 = srcPor)) s
  else s

/-- POWER_ON: the supplies rise from nothing; every monitor asserts until its rail is good. -/
def powerOn (s : State) : State :=
  let s := assertNow srcPor 0 0 { s.setReg .RST_RAIL_STAT 0 0 with rst := {} }
  { s with rst := { s.rst with src := s.rst.src ++ (List.range 9).map fun r => (srcBor, 1, r + 2) } }

/-- Level that a rail's monitor causes. -/
def railLevel (r : Nat) : Nat := if r < 2 then 0 else 1

/-- BROWN_OUT of rail `r`; VBAT, which has no monitor, is row 2 of Table RCP-8. -/
def brownOut (r : Nat) (s : State) : State :=
  let s := assertReset srcBor (railLevel r) r (s.sf ⟨.RST_RAIL_STAT, r, 1⟩ 0 0)
  s.sf F.RST_CAUSE_RAIL 0 (if r < 2 then r else r + 1)

/-- RAIL_GOOD of rail `r`. -/
def railGood (r : Nat) (s : State) : State :=
  porTry (releaseReset (fun e => decide (e.1 = srcBor ∧ e.2.2 = r)) (s.sf ⟨.RST_RAIL_STAT, r, 1⟩ 0 1))

/-- RESET_N_ASSERT and RESET_N_RELEASE. -/
def resetNAssert (s : State) : State := assertReset srcPin 1 0 { s with rst := { s.rst with pinLow := true } }
def resetNRelease (s : State) : State :=
  releaseReset (fun e => decide (e.1 = srcPin)) { s with rst := { s.rst with pinLow := false } }

/-! ### The device watchdog (R429) -/

/-- DEVICE_WATCHDOG_EXPIRY; a paused count does not expire (R374). -/
def dwdogExpiry (s : State) : State :=
  if s.flag F.DBG_DWDOG_PAUSE 0 then s
  else assertReset srcWdog 1 0 ((s.sf F.RST_DWDOG_STAT_REMAIN 0 0).sf F.RST_DWDOG_STAT_EXPIRED 0 1)

/-- The boot ROM of a proctor, the active proctor and the hall monitor kick. -/
def kickOk (rq : Requester) (s : State) : Bool :=
  match rq with
  | .proctor i => s.proctorActive i.val || decide (procState i.val s = 1)
  | .hallMonitor => s.flag F.PRC_HM_STAT_ACTIVE 0
  | _ => false

/-- DWDOG_KICK; a wrong KEY is logged. -/
def dwdogKick (rq : Requester) (key : Nat) (s : State) : State :=
  if !(kickOk rq s) then denyWrite rq .RST_DWDOG_KICK 0 key s
  else if key = 0xD9 then dwdogReload (okResp 0 s)
  else logRefused rq .RST_DWDOG_KICK 0 key (okResp 0 s)

/-- DWDOG_CFG_WRITE. -/
def dwdogCfg (rq : Requester) (v : Nat) (s : State) : State :=
  if !(isActiveProctor rq s) then denyWrite rq .RST_DWDOG_CFG 0 v s
  else dwdogReload (okResp 0 (s.sf F.RST_DWDOG_CFG_PERIOD 0 (max 10 (v % 65536))))

/-! ### Requests for a reset (R420, R428) -/

/-- SWREQ. -/
def swReq (rq : Requester) (lvl : Nat) (s : State) : State :=
  if !(decide (rq = .pf0) || procOrM rq s) then denyWrite rq .RST_SWREQ 0 lvl s
  else if lvl = 1 ∨ lvl = 2 then assertReset srcSwreq lvl 0 (okResp 0 s) else okResp 0 s

/-- DBGREQ_PULSE: PULSE = 1 with HOLD as it stands. -/
def dbgreqPulse (rq : Requester) (s : State) : State :=
  if rq ≠ .monitor then denyWrite rq .RST_DBGREQ 0 1 s else assertReset srcDbgreq 2 0 (okResp 0 s)

/-- DBGREQ_HOLD: HOLD is written. -/
def dbgreqHold (rq : Requester) (hold : Bool) (s : State) : State :=
  if rq ≠ .monitor then denyWrite rq .RST_DBGREQ 0 (2 * b2n hold) s
  else
    let s := okResp 0 (s.sflag F.RST_DBGREQ_HOLD 0 hold)
    if hold then assertReset srcDbgreq 2 1 s else releaseReset (fun e => decide (e.1 = srcDbgreq ∧ e.2.2 = 1)) s

/-- RESET_SOURCE_TIMEOUT: a source held for 16 reference cycles releases: WDOG, SWREQ, a DBGREQ pulse, the LOCKUP of core `c`. -/
def sourceTimeout (src c : Nat) (s : State) : State :=
  if src = srcLockup then
    if s.rst.src.contains (srcLockup, 3, c) then
      let s := releaseReset (fun e => e == (srcLockup, 3, c)) s
      let s := if s.cst c = coreLockup then coreRelease c (s.sf F.DBG_CORE_STAT_STATE c coreReset) else s
      if s.proctorUp then report 0 0x60 0xFF 0xFF 0 0 (3 + 256 * srcLockup) s else s
    else s
  else if src = srcWdog ∨ src = srcSwreq then releaseReset (fun e => decide (e.1 = src)) s
  else if src = srcDbgreq then releaseReset (fun e => decide (e.1 = src ∧ e.2.2 = 0)) s
  else s

/-- Resets held by a pulse take place as it ends. -/
def heldRelease (s : State) : State :=
  if anyPulse s then s
  else
    let l := s.rst.held
    let s := { s with rst := { s.rst with held := [] } }
    let s := forEach l (fun e t =>
      if e.1 = srcUnit then unitAssert (e.2.2 / 64) (e.2.2 % 64) t
      else if e.1 = srcLockup then coreLockupNow e.2.2 t
      else assertNow e.1 e.2.1 e.2.2 t) s
    let s := if s.rst.pinLow then s else releaseReset (fun e => decide (e.1 = srcPin)) s
    if s.flag F.RST_DBGREQ_HOLD 0 then s else releaseReset (fun e => decide (e.1 = srcDbgreq ∧ e.2.2 = 1)) s

/-- WRITE_PULSE_END: a fuse write of the pins, or of the SEC block, ends (R425, R459). The life-cycle write ends by LC_ADVANCE_DONE. -/
def writePulseEnd (pio : Bool) (s : State) : State :=
  if pio then heldRelease ((fuseDone s).sf F.PIO_STAT_BUSY 0 0)
  else match s.ld.pulse with
    | none => s
    | some (b, slot, what) =>
      if b = 1 then s
      else
        let s := (pulseEffect b slot what s).sf F.SEC_KEY_STATUS_BUSY 0 0
        heldRelease { s with ld := { s.ld with pulse := none } }

/-- LC_ADVANCE_DONE: the new state takes effect; a level 1 reset follows (R193, R386). Sealed state is zeroised ahead of RETURN. -/
def lcAdvanceDone (s : State) : State :=
  match s.ld.pulse with
  | some (1, _, st) =>
    let s := passEnd s
    let s := if st = 3 then secZeroise s else s
    let s := ((s.sf F.GLB_LCS_STATE 0 st).sf F.SEC_LC_STAT_STATE 0 st).sf F.SEC_KEY_STATUS_BUSY 0 0
    let s := (s.sf F.DBG_DWDOG_PAUSE 0 0).sf F.RST_DWDOG_STAT_PAUSED 0 0
    assertReset srcSwreq 1 0 { s with ld := { s.ld with pulse := none } } |> heldRelease
  | _ => s

/-! ### The release sequence (R423, R424) -/

/-- Domains whose clocks step `k` waits for. -/
def stepDomains (k : Nat) : List Nat :=
  match k with
  | 0 => [413]
  | 4 => [264, 265, 342]
  | 6 => (List.range 4).map (409 + ·) ++ (List.range 6).map (415 + ·)
  | 7 => List.range 264
  | _ => []

/-- STRAP_SAMPLE (R432). -/
def strapSample (boot clk : Nat) (s : State) : State :=
  let refused := decide (clk = 3 ∧ 2 ≤ s.gf F.GLB_LCS_STATE 0)
  let s := (s.sf F.RST_STRAP_BOOTSEL 0 boot).sf F.RST_STRAP_CLKMODE 0 (if refused then 0 else clk)
  s.sflag F.RST_STRAP_CLKTEST_REFUSED 0 refused

/-- What a release step does (Sequence RCP-1). -/
def stepEffect (k boot clk : Nat) (s : State) : State :=
  match k with
  | 2 => strapSample boot clk s
  | 4 => forEach [64, 65, 66, 67] (fun l t => startTraining l 0 t) s
  | 5 =>
    let s := forUpTo 2 (fun i t => if procState i t = 4 then t else procBoots i 0 t) s
    let c := s.rst.cur.getD (1, srcPin)
    report 2 0x60 0xFF 0xFF 0 0 (c.1 + 256 * (c.2 % 8)) (dwdogReload s)
  | 7 =>
    let s := (s.sf F.RST_PEND_ACTIVE 0 0).sf F.RST_PEND_STEP 0 0
    let c := s.rst.cur
    let s := { s with rst := { s.rst with cur := none } }
    match c with
    | some (2, src) => if s.proctorUp then report 0 0x60 0xFF 0xFF 0 0 (2 + 256 * src) s else s
    | _ => s
  | _ => s

/-- RELEASE_STEP: the pending step is applied once no source covers it and its clocks are good; the straps stand at `boot` and `clk`. -/
def releaseStep (boot clk : Nat) (s : State) : State :=
  if !(s.flag F.RST_PEND_ACTIVE 0) then s
  else
    let k := s.gf F.RST_PEND_STEP 0
    if s.rst.src.any fun e => covers e.2.1 k then (s.sf F.RST_PEND_WAIT_SRC 0 1).sf F.RST_PEND_WAIT_CLK 0 0
    else
      let s := s.sf F.RST_PEND_WAIT_SRC 0 0
      match (stepDomains k).find? fun d => !(clockGood d s) with
      | some d => (s.sf F.RST_PEND_WAIT_CLK 0 1).sf F.RST_PEND_DOMAIN 0 d
      | none => stepEffect k boot clk ((s.sf F.RST_PEND_WAIT_CLK 0 0).sf F.RST_PEND_STEP 0 (k + 1))

/-! ### Booting from the staging area (R179) -/

/-- HBM_STACK_TRAINED: under BOOTSEL 1 the boot ROM has trained stack 0. -/
def hbmStackTrained (s : State) : State :=
  if s.gf F.RST_STRAP_BOOTSEL 0 = 1 ∧ (procState 0 s = 1 ∨ procState 1 s = 1) ∧ !(unitBit 10 8 s) then
    (s.sf F.HBM_STATUS_READY 0 1).sf F.PART_LDR_DONE_STAGE_RDY 0 1
  else s

/-- BOOT_PUSH: PART_LDR_BOOT announces a bundle of `len` bytes at the staging area. -/
def bootPush (rq : Requester) (len : Nat) (s : State) : State :=
  if !(adminOk rq s) then denyWrite rq .PART_LDR_BOOT 0 len s
  else if s.gf F.RST_STRAP_BOOTSEL 0 = 1 ∧ s.flag F.PART_LDR_DONE_STAGE_RDY 0 ∧ !(s.flag F.PART_LDR_DONE_BOOTED 0) then
    okResp 0 { s with ld := { s.ld with push := len } }
  else okResp 0 s

end Machine
end Sys2Proof
end

