-- ==== Sys2Proof/Machine/Power.lean ====
section
/-! DEFINITION. Clock monitors, temperature and the power states (R433-R444). -/
namespace Sys2Proof
namespace Machine

/-! ### Clock monitors (R435-R437, Tables RCP-6 and RCP-7) -/

/-- Set or clear the clock-good bit of domain `d`. -/
def setGood (d : Nat) (b : Bool) (s : State) : State := s.sflag ⟨.RST_CLKGOOD, d % 32, 1⟩ (d / 32) b

/-- CLOCK_GOOD: resets held for the clock release, and unit releases that waited for it. -/
def clockGoodUp (d : Nat) (s : State) : State :=
  let s := setGood d true s
  let s := { s with rst := { s.rst with failed := s.rst.failed.filter fun e => e ≠ d } }
  porTry (unitPend (releaseReset (fun e => decide (e.1 = srcClkfail ∧ e.2.2 = d)) s))

/-- Step of Sequence RCP-1 that releases a domain; 8 for one that a step never holds. -/
def domainStep (d : Nat) : Nat :=
  if d < 264 then 7 else if d < 266 then 4 else if d < 274 then 6 else if d = 342 then 4 else if 345 ≤ d ∧ d ≤ 412 then 6
  else if 415 ≤ d then 6 else 8

/-- Domain `d` is out of reset. -/
def domainOut (d : Nat) (s : State) : Bool :=
  decide (domainStep d = 8) || !(s.flag F.RST_PEND_ACTIVE 0 && decide (s.gf F.RST_PEND_STEP 0 ≤ domainStep d))

/-- Link whose forwarded clock a domain receives (Table RCP-6). -/
def clockLink (d : Nat) : Nat :=
  if d < 326 then bundleLink ((d - 274) % 26) (1 - (d - 274) / 26)
  else if d < 334 then 2 * (d - 326) else 2 * (d - 334) + 1

/-- A bank of base `b` is granted to partition `p`. -/
def bankOn (p b : Nat) (s : State) : Bool := (heldBanks p s).any fun e => e.2 / 256 == b

/-- Partitions that the failure of domain `d` freezes. -/
def failFreezes (d : Nat) (s : State) : List Nat :=
  (List.range 16).filter fun p =>
    if d < 256 then decide (s.clsOwner d = p + 1)
    else if d < 264 then (s.classes p).any fun n => n / 32 == d - 256
    else if d < 266 then
      let b := d - 264
      ((s.classes p).any fun n => n / 128 == b) || bankOn p b s || (List.range 4).any fun i => decide (s.portOwner (4 * b + i) = p + 1)
    else if 345 ≤ d ∧ d < 409 then (heldRegions p s).any fun e => e.2 / 16 == (d - 345) / 16
    else false

/-- The handling of `d` is a freeze. -/
def failIsFreeze (d : Nat) : Bool := decide (d < 266) || (decide (345 ≤ d) && decide (d < 409))

/-- The stopwatch of base `b` has lost a clock: open records end with FAILED. -/
def stwClockLost (b : Nat) (s : State) : State :=
  forUpTo 32 (fun k t =>
    let i := 32 * b + k
    match (t.stwIn i).cur with
    | none => t
    | some c =>
      let t := t.setStwIn i { t.stwIn i with cur := some { c with failed := true } }
      if c.win.isSome then t else closeRec i t.stw.tb false t) s

/-- The handling of Table RCP-7 beside the freeze. -/
def failSide (d : Nat) (s : State) : State :=
  if 264 ≤ d ∧ d < 266 then proctorStops (d - 264) s
  else if 266 ≤ d ∧ d < 274 then forEach ((List.range 8).map (8 * (d - 266) + ·)) (fun c t => if t.cst c = coreRunning ∨ t.cst c = coreHalted then lockup c t else t) s
  else if d = 342 then linkDown s
  else if 409 ≤ d ∧ d < 413 then stwClockLost ((d - 409) / 2) s
  else s

/-- CLKFAIL (R436): ALERT_N, its report-card entry, to which Table REL-7 gives no number, and the policy of Table RCP-7 or R437. -/
def clkFail (d : Nat) (s : State) : State :=
  let s := (s.sf F.RST_CLK_STAT_FAIL 0 1).sf F.RST_CLK_STAT_LAST 0 d
  let s := report 0 (Config.coreValue 2051 s.seq % 65536) 0xFF 0xFF 0 0 d (drawn s)
  let s := { s with rst := { s.rst with failed := if s.rst.failed.contains d then s.rst.failed else s.rst.failed ++ [d] } }
  if d = 413 ∨ (failIsFreeze d && s.flag F.RST_CLK_CFG_CLKFAIL_RESET 0) then assertReset srcClkfail 1 d s
  else failSide d (forEach (failFreezes d s) (fun p t => raiseLead p 7 d (markCorrupt p t)) s)

/-- CLOCK_FAIL: no CLKFAIL while the domain's release is pending; a bridge or Xotil clock is a failed forwarded clock (R268). -/
def clockFail (d : Nat) (s : State) : State :=
  let was := clockGood d s
  let s := setGood d false s
  if 274 ≤ d ∧ d < 342 then
    let l := clockLink d
    if s.lst l = lsReady ∨ s.lst l = lsActive then startRetrain l s else s
  else if was && domainOut d s then clkFail d s
  else s

/-! ### Temperature (R440, R441) -/

/-- A reading of 8 bits in degrees. -/
def degrees (t : Nat) : Int := if t < 128 then t else (t : Int) - 256

/-- L takes a value between 400 MHz and 1.6 GHz. -/
def setThermal (l : Nat) (s : State) : State :=
  let l := max 64 (min 256 l)
  if l = s.clk.thermal then s else reqClock { s with clk := { s.clk with thermal := l } }

/-- One sensor's reading is shown. -/
def showTemp (i t : Nat) (s : State) : State :=
  let s := s.sf F.RST_TEMP_TEMP i t
  if degrees (s.gf F.RST_TEMP_PEAK i) < degrees t then s.sf F.RST_TEMP_PEAK i t else s

/-- TEMP_SAMPLE: the twelve sensors are read. -/
def tempSample (l : List Nat) (s : State) : State :=
  let l := (List.range 12).map fun i => l.getD i 0 % 256
  let s := forUpTo 12 (fun i t => showTemp i (l.getD i 0) t) s
  let top := l.foldl (fun m t => max m (degrees t)) (-128)
  let s := if 115 ≤ top then assertReset srcTherm 1 0 s else s
  let step := s.gf F.RST_THR_CFG_STEP 0
  if 108 ≤ top then setThermal 64 { s with rst := { s.rst with hot := true, cool := 0 } }
  else if 100 ≤ top then
    let first := !s.rst.hot
    let s := { s with rst := { s.rst with hot := true, cool := 0 } }
    if first then setThermal (s.clk.thermal - step) s else s
  else
    let low := decide (top < 100 - (s.gf F.RST_THR_CFG_HYST 0 : Int))
    { s with rst := { s.rst with hot := false, cool := if low then min 1000 (s.rst.cool + 1) else 0 } }

/-- THROTTLE_ADJUST: PERIOD milliseconds have passed; 10 ms below the hysteresis are 1,000 samples. -/
def throttleAdjust (s : State) : State :=
  let step := s.gf F.RST_THR_CFG_STEP 0
  if s.rst.hot then setThermal (s.clk.thermal - step) s
  else if 1000 ≤ s.rst.cool then setThermal (s.clk.thermal + step) s
  else s

/-! ### RECESS (R443, R444) -/

/-- A write of RST_PWR_CMD. -/
def pwrCmd (rq : Requester) (cmd : Nat) (legal : Bool) (f : State → State) (s : State) : State :=
  if !(adminOk rq s) then (denyWrite rq .RST_PWR_CMD 0 cmd s).sf F.RST_PWR_STAT_CMDST 0 0x21
  else if legal then f (okResp 0 (s.sf F.RST_PWR_STAT_CMDST 0 0))
  else logRefused rq .RST_PWR_CMD 0 cmd (okResp 0 (s.sf F.RST_PWR_STAT_CMDST 0 0x20))

/-- RECESS is legal. -/
def recessLegal (s : State) : Bool :=
  (List.range 16).all (fun p => !([stLoading, stArmed, stRunning, stFrozen].contains (s.pst p)))
    && !((List.range 4).any fun c => ldRunning c s)
    && !((List.range 2).any fun i => decide (s.gf F.BBD_MARCH_STATUS_STATE i = 1))
    && !(s.flag F.PRC_HM_STAT_ACTIVE 0)

/-- A pending step-clock change is applied ahead of RECESS (Table RCP-10). -/
def clockNow (s : State) : State :=
  if s.flag F.GLB_STEP_FREQ_PENDING 0 then stepClockChange { s with clk := { s.clk with locked := true } } else s

/-- The device enters RECESS. -/
def enterRecess (s : State) : State :=
  let s := clockNow s
  let s := forUpTo 64 (fun c t => if t.cst c = coreRunning ∧ !(t.core c).trc.asleep then ctSleep c 3 t else t) s
  let l := (List.range 64).filter fun l => [lsTraining, lsReady, lsActive, lsNap].contains (s.lst l)
  let s := forEach l (fun l t => ((t.setLst l lsRecess).sf F.LNK_STAT_PHASE l 0).modLk l fun r => { r with waking := false }) s
  let s := forUpTo 4 (fun k t => if t.flag F.HBM_STATUS_READY k then t.sf F.HBM_STATUS_SELFREF k 1 else t) s
  let s := { s with rst := { s.rst with recessed := l }, pio := { s.pio with asleep := true } }
  s.sf F.RST_PWR_STAT_STATE 0 2

/-- PWR_RECESS. -/
def pwrRecess (rq : Requester) (s : State) : State :=
  pwrCmd rq 1 (recessLegal s) (fun s => if s.gf F.RST_PWR_STAT_STATE 0 = 2 then s else enterRecess s) s

/-- PWR_WAKE: legal in RECESS alone. -/
def pwrWake (rq : Requester) (s : State) : State := pwrCmd rq 2 (decide (s.gf F.RST_PWR_STAT_STATE 0 = 2)) (wakeBy 0) s

/-- RECESS_EXIT_DONE: clocks, stacks and cores go on; links train from recess. -/
def recessExit (s : State) : State :=
  if s.gf F.RST_PWR_STAT_STATE 0 ≠ 2 ∨ !(s.flag F.RST_PWR_STAT_EXITING 0) then s
  else
    let l := s.rst.recessed
    let s := { (s.sf F.RST_PWR_STAT_EXITING 0 0).sf F.RST_PWR_STAT_STATE 0 0 with rst := { s.rst with recessed := [] }, pio := { s.pio with asleep := false } }
    let s := forUpTo 4 (fun k t => t.sf F.HBM_STATUS_SELFREF k 0) s
    let s := forEach l (fun l t => if t.lst l = lsRecess then startTraining l 1 t else t) s
    let s := forUpTo 64 (fun c t => if t.cst c = coreRunning ∧ (t.core c).wait.isNone then ctWake c t else t) s
    reqClock s

/-- GPIO_WAKE: the pin rose for 1 us after a low level. -/
def gpioWake (s : State) : State := wakeBy 4 s

/-- ETHERNET_FRAME: a frame addressed to the device. -/
def ethernetFrame (s : State) : State := wakeBy 3 s

end Machine
end Sys2Proof
end

