-- ==== Sys2Proof/Machine/AccView.lean ====
section
/-! DEFINITION. Control space as a requester sees it: which register an address names, to whom a register belongs, who may read and
write it, and what a read shows (R8-R13, R336, R388, R401, R402, R430, R431, R470, R471, R478, R479). -/
namespace Sys2Proof
namespace Machine

/-! ### Addresses (R470) -/

/-- The instance whose offset in a register's window is `off`. -/
def dimIndex : List (Nat × Nat) → Nat → Option Nat
  | [], off => if off = 0 then some 0 else none
  | (st, n) :: r, off =>
    if off / st < n then (dimIndex r (off % st)).map fun k => off / st * r.foldl (fun m d => m * d.2) 1 + k else none

/-- The instance of register `r` at control-space address `a`. -/
def instAt (r : Reg) (a : Nat) : Option Nat :=
  let (b, dims) := r.window
  let inner := dims.foldl (fun m d => m * d.2) 1
  if r.isLink then
    (List.range 68).findSome? fun l =>
      if lnkWindow l + b ≤ a then (dimIndex dims (a - (lnkWindow l + b))).map (inner * l + ·) else none
  else if b ≤ a then dimIndex dims (a - b) else none

/-- The registers of virtual functions hold none for f = 0 (R336). -/
def noRegister (r : Reg) (i : Nat) : Bool :=
  decide (r.count ≤ i) || (decide (i = 0) && [Reg.HIF_VF_OWN, .HIF_VF_MEM, .HIF_VF_WIN_LO, .HIF_VF_WIN_HI].contains r)

/-- The register at a control-space address. -/
def regAt (a : Nat) : Option (Reg × Nat) :=
  allRegs.findSome? fun r => (instAt r a).bind fun i => if noRegister r i then none else some (r, i)

/-! ### Whose a register is (R471) -/

/-- The outermost index of instance `i`. -/
def regOuter (r : Reg) (i : Nat) : Nat := i / (r.window.2.drop 1).foldl (fun m d => m * d.2) 1

/-- The partition + 1 that instance `i` of a register belongs to, 0 for none. -/
def regOwner (r : Reg) (i : Nat) (s : State) : Nat :=
  let b := r.window.1
  let k := regOuter r i
  if r.isLink then 0
  else if 0x200000 ≤ b ∧ b < 0x300000 then k + 1
  else if 0xE00000 ≤ b ∧ b < 0xE10000 then k + 1
  else if 0x400000 ≤ b ∧ b < 0x800000 then s.clsOwner k
  else if 0x800100 ≤ b ∧ b < 0x800120 then k + 1
  else if 0xA01100 ≤ b ∧ b < 0xA01110 then k + 1
  else match r with
    | .PART_LDR_BOOT_RES => k + 1
    | .HIF_PEVT_EN => k + 1
    | .PRC_REPAIR => k + 1
    | .STW_IN_RX => s.inOwner k
    | .STW_IN_RX_NEXT => s.inOwner k
    | .STW_IN_DSK => s.inOwner k
    | .STW_IN_DSK_NEXT => s.inOwner k
    | .STW_IN_CFG => s.inOwner k
    | .STW_IN_CFG_NEXT => s.inOwner k
    | .STW_IN_CMD => s.inOwner k
    | .STW_IN_STAT => s.inOwner k
    | .STW_IN_LAST => s.inOwner k
    | .HIF_MBX_CFG => s.mbxOwner k
    | .HIF_MBX_DATA => s.mbxOwner k
    | .HIF_MBX_XMASK => s.mbxOwner k
    | .HIF_MBX_BELL_LO => s.mbxOwner k
    | .HIF_MBX_BELL_HI => s.mbxOwner k
    | .HIF_MBX_STAT => s.mbxOwner k
    | .PIO_PSRC => s.pinOwner k
    | _ => 0

/-- The registers of loader context c (R207). -/
def isLdrCtx (r : Reg) : Bool := decide (0x380000 ≤ r.window.1) && decide (r.window.1 < 0x380100)

/-- A virtual function owns queue `q` (R336). -/
def vfQueue (f q : Nat) (s : State) : Bool := s.hif.vfEnable && decide (f ≠ 0) && decide (s.gf F.DSP_Q_CFG_OWNER q = f)

/-- Loader context `c` is open to a virtual function: IDLE, or its current or last load targets a partition it owns (R478). -/
def vfContext (f c : Nat) (s : State) : Bool :=
  s.hif.vfEnable && (decide (s.gf F.PART_LDR_STATUS_STATE c = 0) || vfOwns f (s.ldc c).part s)

/-- What a virtual function may reach (R336, R478): what its partitions have, and the shared registers listed. -/
def vfReach (f : Nat) (r : Reg) (i : Nat) (s : State) : Bool :=
  if isLdrCtx r then vfContext f i s
  else match r with
    | .HIF_AP_LO => s.hif.vfEnable && decide (i = f)
    | .HIF_AP_HI => s.hif.vfEnable && decide (i = f)
    | .HIF_QIRQ => vfQueue f i s
    | .DSP_Q_CMD => vfQueue f i s
    | .DSP_Q_TAIL => vfQueue f i s
    | .HIF_PEVT_EN => vfOwns f i s
    | _ => match regOwner r i s with
      | 0 => false
      | p + 1 => vfOwns f p s

/-! ### Who may read (R471, R388) -/

/-- Registers of the DBG block, and those of its mailbox that only the host has. -/
def isDbg (r : Reg) : Bool := decide (0x1400000 ≤ r.window.1) && decide (r.window.1 < 0x1500000)
def isMbxFrame : Reg → Bool
  | .DBG_MBX_CTL => true
  | .DBG_MBX_REQ => true
  | .DBG_MBX_RSP => true
  | _ => false

/-- The requester may read instance `i` of a register. -/
def mayRead (rq : Requester) (r : Reg) (i : Nat) (s : State) : Bool :=
  if isMbxFrame r then decide (rq = .pf0)
  else if isDbg r then adminOk rq s
  else match rq with
    | .vf f => vfReach f.val r i s || (decide (r = .PIO_PIN_CFG) && (match s.pinOwner i with | 0 => false | p + 1 => vfOwns f.val p s))
    | _ => readOk rq s

/-! ### What a read shows -/

/-- Where a unit's name tag stands in the locker, and its size (Table RCP-4, Table REL-4). -/
def tagPlace (kind u : Nat) : Option (Nat × Nat) :=
  match kind with
  | 0 => some (0x8300 + 8 * u, 8)
  | 2 => some (0x8C00 + 8 * u, 8)
  | 4 => some (0x8200 + 32 * u, 32)
  | 7 => some (0x8100 + 32 * u, 32)
  | 8 => some (0x8000, 256)
  | _ => none

/-- Control-space address of locker memory (R431). -/
def lockerBase : Nat := 0x1510000

/-- Word `w` of a name tag. -/
def tagWord (kind u w : Nat) (s : State) : Nat :=
  match tagPlace kind u with
  | some (o, n) => if 4 * w < n then fromBytes (s.rbs (lockerBase + o + 4 * w) 4) else 0
  | none => 0

/-- Write word `w` of a name tag. -/
def tagWrite (kind u w v : Nat) (s : State) : State :=
  match tagPlace kind u with
  | some (o, n) => if 4 * w < n then s.wbs (lockerBase + o + 4 * w) (toBytes 4 v) else s
  | none => s

/-- The role + 1 whose epoch a unit's record shows, as a role number of its kind (Table REL-4). -/
def rollRole (kind u : Nat) (s : State) : Nat :=
  let r := s.unit kind u
  if kind = 5 then (if s.proctorActive u then 1 else 0)
  else if r.state = uDetention ∨ r.state = uSelftest then r.banned else r.role

/-- EPOCH of a roll-call record. -/
def rollEpoch (kind u : Nat) (s : State) : Nat :=
  match rollRole kind u s with
  | 0 => Config.rollEpoch (unitKey kind u) s.seq % 65536
  | k + 1 =>
    if kind = 1 then
      match classOfPhys (u / 528) s with
      | some n => roleEpoch s 1 (512 * n + k)
      | none => Config.rollEpoch (unitKey kind u) s.seq % 65536
    else roleEpoch s kind k

/-- HWID of a unit: 16 bytes. -/
def rollHwid (kind u : Nat) (s : State) : List Nat :=
  let d := match kind with
    | 0 => u / 33
    | 1 => u / 528 / 33
    | 2 => 8 + u / 32
    | 3 => 16 + u
    | 4 => 8 + u / 4
    | 5 => 8 + u
    | 6 => 64 + u
    | _ => u
  if kind = 8 then (List.range 4).flatMap fun w => toBytes 4 (s.reg .GLB_UID w).toNat
  else if kind = 7 then toBytes 8 (Config.dieIdentity d) ++ List.replicate 8 0
  else toBytes 8 (Config.dieIdentity d) ++ [kind] ++ toBytes 3 u ++ [0, 0, 0, 0]

/-- The roll-call record of a unit (Table REL-4). -/
def rollRecord (kind u : Nat) (s : State) : List Nat :=
  let r := s.unit kind u
  let role := if kind = 5 then (if s.proctorActive u then 0 else 0xFFFF) else if r.role = 0 then 0xFFFF else r.role - 1
  let len := match tagPlace kind u with | some (_, n) => n / 8 | none => 0
  rollHwid kind u s ++ toBytes 2 (rollEpoch kind u s) ++ [unitState kind u s, kind] ++ toBytes 2 role
    ++ toBytes 2 (if r.banned = 0 then 0xFFFF else r.banned - 1) ++ toBytes 4 u ++ [r.reenrol, len, 0, 0]

/-- One slate or shadow entry as CLS_SLATE_DATA shows it: as it stands; 0 for an image under load or sealed (R60, R199, R228). -/
def slateView (n : Nat) (s : State) : Nat :=
  let k := s.gf F.CLS_SLATE_SEL_LBP n
  let a := s.gf F.CLS_SLATE_SEL_ADDR n
  let pc := s.phys n
  let e := if s.flag F.CLS_SLATE_SEL_SHADOW n then s.shadowAt pc (s.physBp n k) a else s.slateAt pc (s.physBp n k) a
  let hide := match s.clsOwner n with
    | 0 => false
    | p + 1 => decide (s.pst p = stLoading) || sealedOut p s
  if hide then 0 else b2n e.v + 2 * b2n e.u + 4 * b2n e.p + 8 * b2n (!e.good)

/-- CLS_SEQ_STATUS: the step of the partition that owns class `n`. -/
def seqView (n w : Nat) (s : State) : Nat :=
  match s.clsOwner n with
  | 0 => w % 32
  | p + 1 => w % 32 + 32 * s.slot p + 64 * s.gf F.PART_STATE_IN_GAP p + 65536 * s.gf F.PART_STATE_STEP p

/-- BBD_WORD_STAT of the selected word (R158). -/
def wordView (s : State) : Nat :=
  let a := bbBase + 8 * s.gf F.BBD_WORD_SEL_WORD 0
  let m : (Nat → Bool) → Nat := mask8
  m (fun i => s.mem.isX (a + i)) + 256 * m (fun i => decide (s.mem.err (a + i) = 1)) + 65536 * m (fun i => decide (s.mem.err (a + i) ≥ 2))

/-- DSP_DESK_STAT of core `c`. -/
def deskView (c : Nat) (s : State) : Nat :=
  let r := s.core c
  let w := match r.wait with | some x => x.bell.isNone | none => false
  let prio : Nat → Nat := fun k => match r.desk[k]? with | some t => t.prio | none => 0
  r.desk.length + 4 * b2n r.cur.isSome + 8 * b2n w + 16 * b2n (eligible c s) + 256 * prio 0 + 65536 * prio 1

/-- Selected probe-table entry (R230). -/
def probeKey (s : State) : Nat := (2 * s.gf F.TRC_PRB_SEL_CLASS 0 + s.gf F.TRC_PRB_SEL_BANK 0) * 4096 + s.gf F.TRC_PRB_SEL_STEP 0

/-- The value of a register as it stands, its write-only fields 0 (Table SCO-8, R479). -/
def regView (r : Reg) (i : Nat) (s : State) : Nat :=
  let w := (s.reg r i &&& ~~~ r.masks.wo).toNat
  match r with
  | .CLS_SEQ_STATUS => seqView i w s
  | .CLS_SLATE_DATA => slateView i s
  | .PART_SCC_LO => s.scc % 2 ^ 32
  | .PART_FROZEN_CLOCKS_LO => (s.fz i).clocks % 2 ^ 32
  | .TIM_NOW_0 => s.tim.frac / 65536
  | .TRC_PRB_DATA => bitsAt (Store.get 0 s.trc.probe (probeKey s)) (32 * i) 32
  | .BBD_WORD_STAT => wordView s
  | .DSP_DESK_STAT => deskView i s
  | .DSP_Q_STAT => w + 8 * b2n (qReady i s)
  | .PIO_IN => mask32 fun b => padLevel (32 * i + b) s
  | .PRC_RCALL => fromBytes (((rollRecord (s.gf F.PRC_RCALL_SEL_KIND 0) (s.gf F.PRC_RCALL_SEL_UNIT 0) s).drop (4 * i)).take 4)
  | .PRC_NAME_DATA => tagWord (s.gf F.PRC_NAME_SEL_KIND 0) (s.gf F.PRC_NAME_SEL_UNIT 0) i s
  | .XOT_NAME => tagWord 4 (i / 8) (i % 8) s
  | .NET_TN_RT_DATA => Store.get 0 s.tn.rt (128 * s.gf F.NET_TN_RT_SEL_IFACE 0 + s.gf F.NET_TN_RT_SEL_DEST 0)
  | .RST_DWDOG_STAT =>
    let n := w % 65536
    if n = 0 then w else w - n + (1 + Config.dwdogSpent s.seq % n)
  | _ => w

/-- Registers a read of which shows a free value: the counter moves on. -/
def freeView : Reg → Bool
  | .PIO_IN => true
  | .PRC_RCALL => true
  | .RST_DWDOG_STAT => true
  | _ => false

/-! ### Reads with an effect -/

/-- A read of a latching register captures the value of its latched partners (R89, R130, R207, R255, R349, R479). -/
def latchRead (r : Reg) (i : Nat) (s : State) : State :=
  match r with
  | .PART_BELL_NUM_LO =>
    let x := s.part i
    let s := (s.sf F.PART_BELL_NUM_HI_BELL i (x.bell / 2 ^ 32)).sf F.PART_BELL_STAMP_0_FRAC i x.stampFrac
    ((s.sf F.PART_BELL_STAMP_1_NS i x.stampNs).sf F.PART_BELL_STAMP_2_SEC i x.stampSec).sf F.PART_BELL_STAMP_3_SEC i (x.stampSec / 2 ^ 32)
  | .PART_FROZEN_CLOCKS_LO => s.sf F.PART_FROZEN_CLOCKS_HI_CLOCKS i ((s.fz i).clocks / 2 ^ 32)
  | .PART_SCC_LO => s.sf F.PART_SCC_HI_SCC 0 (s.scc / 2 ^ 32)
  | .PART_LDR_BYTES_LO => s.sf F.PART_LDR_BYTES_HI_BYTES i (Store.get 0 s.ld.got i / 2 ^ 32)
  | .STW_TRG_TIME_LO => s.sf F.STW_TRG_TIME_HI_TB i (Store.get 0 s.stw.fired i / 2 ^ 32)
  | .TIM_NOW_0 => ((s.sf F.TIM_NOW_1_NS 0 s.tim.ns).sf F.TIM_NOW_2_SEC 0 s.tim.sec).sf F.TIM_NOW_3_SEC 0 (s.tim.sec / 2 ^ 32)
  | .TIM_CMK_ARR_LO =>
    let x := Store.get (0, 0) s.tim.cmk i
    (s.sf F.TIM_CMK_ARR_HI_VALUE i (x.2 / 2 ^ 32)).sf F.TIM_CMK_MARK_VALUE i x.1
  | .TIM_PTM_T1_LO => s.sf F.TIM_PTM_T1_HI_VALUE 0 (s.tim.ptmT1 / 2 ^ 32)
  | .TIM_PTM_T4_LO => s.sf F.TIM_PTM_T4_HI_VALUE 0 (s.tim.ptmT4 / 2 ^ 32)
  | .TIM_PTM_MST_LO => s.sf F.TIM_PTM_MST_HI_VALUE 0 (s.tim.ptmMst / 2 ^ 32)
  | _ => s

/-- RCL fields clear as they are read (R10). -/
def clearRead (r : Reg) (i : Nat) (s : State) : State :=
  if r.masks.rcl = 0 then s else s.setReg r i (s.reg r i &&& ~~~ r.masks.rcl)

/-- A register whose read has a side effect that FORCE must allow (R366). -/
def poppingRead (r : Reg) : Bool := decide (r.masks.rcl ≠ 0)

/-- Read a register; under `peek` without its side effect (R10, R13, R365, R479). -/
def regRead (rq : Requester) (r : Reg) (i : Nat) (peek : Bool) (s : State) : State :=
  if noRegister r i then okResp 0 s
  else if !(mayRead rq r i s) then denyRead rq r i s
  else
    let v := regView r i s
    let t := if freeView r then { s with seq := s.seq + 1 } else s
    if peek then okResp v t
    else if r = .TIM_TXTS_0 then txtsRead t
    else okResp v (clearRead r i (latchRead r i t))

/-! ### Locker memory (R430, R431) -/

/-- Byte of locker memory. -/
def lockerByte (o : Nat) (s : State) : Nat :=
  if o < 0x8000 then (s.reg .PRC_RC (o / 4)).toNat / 256 ^ (o % 4) % 256
  else if o < 0x9000 then (s.rb (lockerBase + o)).toNat
  else if o < 0x9040 then mask8 fun j => decide (s.gf F.BBD_BANK_STATE (8 * (o - 0x9000) + j) = 2)
  else if o < 0x9050 then mask8 fun j => decide (8 * (o - 0x9040) + j < 68) && decide (s.gf F.STW_TDC_ROLE (8 * (o - 0x9040) + j) = 3)
  else if o < 0x9400 ∨ 0xA000 ≤ o ∧ o < 0xFC00 then (Config.lockerByte o s.seq).toNat
  else if o < 0xA000 then 0
  else (s.rb (lockerBase + o)).toNat

/-- Read a word of locker memory. -/
def lockerRead (rq : Requester) (o : Nat) (s : State) : State :=
  if !(readOk rq s) then { logViol rq 0 (lockerBase + o) 0x21 1 0 s with resp := { data := 0, status := 0x21, errkind := 1 } }
  else okResp (fromBytes ((List.range 4).map fun j => lockerByte (o + j) s)) { s with seq := s.seq + 1 }

/-- Write a word of locker memory: the user area alone. -/
def lockerWrite (rq : Requester) (o v : Nat) (s : State) : State :=
  if adminOk rq s ∧ 0xFC00 ≤ o then okResp 0 (s.wbs (lockerBase + o) (toBytes 4 v))
  else { logViol rq (writeAccess rq) (lockerBase + o) 0x21 1 v s with resp := { data := 0, status := 0x21, errkind := 1 } }

end Machine
end Sys2Proof
end

