-- ==== Sys2Proof/Machine/Route.lean ====
section
/-! DEFINITION. The transaction network's source-route tables (R321, R326, R327). -/
namespace Sys2Proof
namespace Machine

/-- The router of a node, as (x, y) on its base: index 6 y + x (R321). -/
def nodeAt (n : Nat) : Nat × Nat := (n % 64 % 6, n % 64 / 6)

/-- One hop on the mesh: 0 +x, 1 -x, 2 +y, 3 -y (Table HIF-2); none where it would leave the mesh. -/
def meshHop (o : Option (Nat × Nat)) (h : Nat) : Option (Nat × Nat) :=
  match o with
  | none => none
  | some (x, y) =>
    match h with
    | 0 => if x < 5 then some (x + 1, y) else none
    | 1 => if 0 < x then some (x - 1, y) else none
    | 2 => if y < 7 then some (x, y + 1) else none
    | _ => if 0 < y then some (x, y - 1) else none

/-- The hops of a route-table word. -/
def rtHops (w : Nat) : List Nat := (List.range (bitsAt w 24 4)).map fun k => bitsAt w (2 * k) 2

/-- West first: no -x hop follows another hop (R326). -/
def westFirst (l : List Nat) : Bool := (l.dropWhile fun h => decide (h = 1)).all fun h => decide (h ≠ 1)

/-- The router of gateway `g` (0 T0, 1 T1) on a base (R327). -/
def gateAt (base g : Nat) : Nat × Nat := (if base = 0 then 5 else 0, 3 + g)

/-- A valid entry's route from `iface` to `dest`: it obeys the west-first rule and ends at the destination, or at the gateway the entry
names where the destination lies on the other base (R326). -/
def routeOk (iface dest w : Nat) : Bool :=
  let goal := if iface / 64 = dest / 64 then nodeAt dest else gateAt (iface / 64) (bitsAt w 28 1)
  westFirst (rtHops w) && decide ((rtHops w).foldl meshHop (some (nodeAt iface)) = some goal)

/-- The selected entry. -/
def rtSel (s : State) : Nat × Nat := (s.gf F.NET_TN_RT_SEL_IFACE 0, s.gf F.NET_TN_RT_SEL_DEST 0)
def rtKey (s : State) : Nat := 128 * (rtSel s).1 + (rtSel s).2

/-- The word an entry takes from a write: HOPS clamped to 12, reserved bits 0 (R12, R345). -/
def rtWord (v : Nat) : Nat := v % 2 ^ 24 + min 12 (bitsAt v 24 4) * 2 ^ 24 + bitAt v 28 * 2 ^ 28 + bitAt v 31 * 2 ^ 31

/-- A write of NET_TN_RT_DATA: a valid entry that breaks R326 is refused and logged, with a STATUS that R326 leaves open. -/
def routeWrite (rq : Requester) (v : Nat) (s : State) : State :=
  if !(procOrM rq s) then denyWrite rq .NET_TN_RT_DATA 0 v s
  else if bitAt v 31 = 1 ∧ routeOk (rtSel s).1 (rtSel s).2 (rtWord v) = false then
    logViol rq (writeAccess rq) (regAddr .NET_TN_RT_DATA 0) (Config.coreValue 2063 s.seq % 256) 0 v (okResp 0 { s with seq := s.seq + 1 })
  else okResp 0 { s with tn := { s.tn with rt := Store.set 0 (rtKey s) (rtWord v) s.tn.rt } }

end Machine
end Sys2Proof
end

