-- ==== Sys2Proof/Machine/Access.lean ====
section
/-! DEFINITION. Writes of control space: who may write, what is locked, which values are clamped, what a write sets off (R10-R13, R84,
R91, R158, R208, R230, R253, R255, R293, R320, R345, R359, R388, R419, R446, R457, R460, R467, R471-R480). -/
namespace Sys2Proof
namespace Machine

/-! ### Who may write (R471 and the chapters' own lists) -/

/-- The writers of a register whose chapter names none: the administrators, and the partition's own where it belongs to one (R471). -/
def defaultOk (rq : Requester) (r : Reg) (i : Nat) (s : State) : Bool :=
  adminOk rq s || (match regOwner r i s with | 0 => false | p + 1 => partOk rq p s)

/-- Only the monitor writes these (R388). -/
def monitorWrites : Reg → Bool
  | .DBG_CTI_CORE => true
  | .DBG_CTI_FRZ => true
  | .DBG_CTI_PULSE => true
  | .DBG_FUN_CFG => true
  | .DBG_DWDOG => true
  | .RST_DBGREQ => true
  | _ => false

/-- The active proctor and tutor cores in M mode write these (R153, R192, R252, R345, R406, R459; bridge links, R290). -/
def procWrites : Reg → Bool
  | .BBD_MARCH_CMD => true
  | .NET_LINK_CFG => true
  | .NET_TN_RT_SEL => true
  | .NET_TN_RT_DATA => true
  | .STW_CAL_CMD => true
  | .PRC_ECCST_CMD => true
  | .PIO_FUSE_CMD => true
  | .SEC_KEY_CMD => true
  | .SEC_KEY_DATA => true
  | .SEC_LC_CMD => true
  | .SEC_RK_CMD => true
  | .SEC_RK_DATA => true
  | .SEC_SVN_CMD => true
  | _ => false

/-- The active proctor alone writes these (R53, R155, R156, R395, R429). -/
def activeWrites : Reg → Bool
  | .CLS_SUB_CMD => true
  | .PRC_CLS_SUB_CMD => true
  | .BBD_RETIRE_CMD => true
  | .HBM_RETIRE_CMD => true
  | .RST_DWDOG_CFG => true
  | _ => false

/-- Host physical function 0 and the active proctor write these (R336, R407, R413, R419). -/
def hostProcWrites : Reg → Bool
  | .HIF_VF_OWN => true
  | .PRC_PROC_CMD => true
  | .PRC_PROC_SRC_LO => true
  | .PRC_PROC_SRC_HI => true
  | .PRC_PROC_LEN => true
  | .PRC_HM_CFG => true
  | .PRC_THRESH => true
  | _ => false

/-- Trigger, sink, ring and timebase registers of the stopwatch (R252). -/
def stwShared : Reg → Bool
  | .STW_TRG_CFG => true
  | .STW_TRG_MIN => true
  | .STW_TRG_MAX => true
  | .STW_TRG_OUT => true
  | .STW_TRG_CMD => true
  | .STW_SINK => true
  | .STW_RING => true
  | .STW_RING_WR => true
  | .STW_TB_CMD => true
  | _ => false

/-- The requester may write instance `i` of a register. -/
def mayWrite (rq : Requester) (r : Reg) (i : Nat) (s : State) : Bool :=
  let b := r.window.1
  if monitorWrites r then decide (rq = .monitor) && (decide (r ≠ .DBG_DWDOG) || decide (s.gf F.GLB_LCS_STATE 0 = 1))
  else if procWrites r then procOrM rq s
  else if activeWrites r then isActiveProctor rq s
  else if hostProcWrites r then pf0OrProctor rq s
  else if stwShared r then stwOk rq s
  else if isMbxFrame r then decide (rq = .pf0)
  else if r.isLink then linkOk rq (regOuter r i / (if r = .LNK_ERR ∨ r = .LNK_LANE then 17 else 1)) s
  else if 0xD00000 ≤ b ∧ b < 0xD00040 then stwInOk rq i s
  else if isLdrCtx r then adminOk rq s || (match rq with | .vf f => vfContext f.val i s | _ => false)
  else match r with
    | .PRC_UNIT_CMD => decide (rq = .pf0)
    | .RST_DWDOG_KICK => kickOk rq s
    | .RST_SWREQ => decide (rq = .pf0) || procOrM rq s
    | .PART_FAULT_ACTION_NEXT => partOk rq i s
    | .PART_FAULT_TAIL => partOk rq i s
    | .PART_CMD => partOk rq i s
    | .PRC_REPAIR => partOk rq i s
    | .PIO_PSRC => (match s.pinOwner i with | 0 => false | p + 1 => partOk rq p s)
    | .HIF_PEVT_EN => adminOk rq s || (match rq with | .vf f => vfOwns f.val i s | _ => false)
    | .HIF_AP_LO => adminOk rq s || (match rq with | .vf f => vfReach f.val r i s | _ => false)
    | .HIF_AP_HI => adminOk rq s || (match rq with | .vf f => vfReach f.val r i s | _ => false)
    | .HIF_QIRQ => adminOk rq s || (match rq with | .vf f => vfReach f.val r i s | _ => false)
    | .DSP_Q_CMD => qCmdOk rq i s
    | _ => defaultOk rq r i s

/-! ### What is locked (R10) -/

/-- All 32 bits where a condition holds. -/
def lockAll (b : Bool) : Nat := if b then 0xFFFFFFFF else 0

/-- Trace area `a` of partition `p` is locked (R208). -/
def areaLocked (p a : Nat) (s : State) : Bool :=
  if a = 3 then decide (s.trst p = trcRunning) || decide (s.trst p = trcTriggered)
  else !(validSlots p s).isEmpty || s.flag F.TRC_SNAP_STAT_DRAINING p || s.flag F.PART_STATE_CAPTURE_PEND p
    || s.flag F.TRC_REPLAY_STAT_RESTORING p || (s.trec p).rewind.isSome

/-- The bits of instance `i` that are locked now. -/
def lockMask (r : Reg) (i : Nat) (s : State) : Nat :=
  match r with
  | .PART_GEN_START_NS => lockAll (s.flag F.PART_GEN_CTL_EN i)
  | .PART_GEN_START_SEC_LO => lockAll (s.flag F.PART_GEN_CTL_EN i)
  | .PART_GEN_START_SEC_HI => lockAll (s.flag F.PART_GEN_CTL_EN i)
  | .PART_GEN_PERIOD_NS => lockAll (s.flag F.PART_GEN_CTL_EN i)
  | .PART_GEN_PERIOD_FRAC => lockAll (s.flag F.PART_GEN_CTL_EN i)
  | .BBD_PART => lockAll (s.live i)
  | .TRC_AREA => lockAll (areaLocked (i / 4) (i % 4) s)
  | .TRC_PRB_DATA =>
    match s.clsOwner (s.gf F.TRC_PRB_SEL_CLASS 0) with
    | 0 => 0
    | p + 1 => lockAll (s.live p && decide (s.gf F.TRC_PCFG_PBANK p = s.gf F.TRC_PRB_SEL_BANK 0))
  | .STW_TRG_CFG => lockAll (decide (s.gf F.STW_TRG_STAT_STATE i ≠ 0))
  | .STW_TRG_MIN => lockAll (decide (s.gf F.STW_TRG_STAT_STATE i ≠ 0))
  | .STW_TRG_MAX => lockAll (decide (s.gf F.STW_TRG_STAT_STATE i ≠ 0))
  | .STW_TRG_OUT => lockAll (decide (s.gf F.STW_TRG_STAT_STATE i ≠ 0))
  | .STW_RING => lockAll (decide (s.gf F.STW_SINK_SINK 0 = 1))
  | .XOT_CFG => if s.portOwner i = 0 then 0 else 0x1F3
  | .DSP_TICK_CFG => lockAll (!(delayList i s).isEmpty)
  | .DSP_TICK_PERIOD => lockAll (!(delayList i s).isEmpty)
  | .DSP_Q_RING_LO => lockAll (decide (s.qst i ≠ qDisabled))
  | .DSP_Q_RING_HI => lockAll (decide (s.qst i ≠ qDisabled))
  | .HIF_CFG => lockAll s.hif.vfEnable
  | .HIF_VF_MEM => lockAll s.hif.vfEnable
  | .HIF_VF_OWN => (List.range 16).foldl (fun m p => m + (if s.pst p = stEmpty then 0 else 2 ^ p)) 0
  | .HIF_MBX_CFG => match s.mbxOwner i with | 0 => 0 | p + 1 => lockAll (s.live p)
  | .DBG_FUN_CFG => if s.gf F.DBG_FUN_CFG_SINK 0 = 1 then 0x3FFFC else 0
  | .PRC_HM_CFG => lockAll (s.flag F.PRC_HM_STAT_ACTIVE 0)
  | .PRC_REPAIR => lockAll (decide (s.pst i ≠ stEmpty))
  | .PIO_PSRC =>
    lockAll (s.flag F.PIO_PIN_CFG_LOCKED i || (match s.pinOwner i with | 0 => false | p + 1 => [stArmed, stRunning, stFrozen].contains (s.pst p)))
  | .PIO_OE => (s.reg .PIO_LOCK_STAT i).toNat
  | _ => 0

/-! ### Legal values (R12) -/

/-- Bring the field at `lo` of width `w` into [a, b]. -/
def clampAt (lo w a b v : Nat) : Nat :=
  let f := bitsAt v lo w
  v - f * 2 ^ lo + max a (min b f) * 2 ^ lo

/-- Replace the field at `lo` of width `w`. -/
def putAt (lo w x v : Nat) : Nat := v - bitsAt v lo w * 2 ^ lo + x % 2 ^ w * 2 ^ lo

/-- FIRST below 95 and FIRST + COUNT at most 95, for an area with FIRST at bit `lo` and COUNT above it. -/
def clampArea (lo v : Nat) : Nat :=
  let v := clampAt lo 7 0 94 v
  clampAt (lo + 7) 7 0 (95 - bitsAt v lo 7) v

/-- A field code that is not legal becomes `x`. -/
def clampTo (lo w : Nat) (legal : Nat → Bool) (x v : Nat) : Nat := if legal (bitsAt v lo w) then v else putAt lo w x v

/-- STW_IN_CFG_NEXT of input `i` (R240, R255). -/
def stwCfgClamp (i v : Nat) : Nat :=
  let v := clampTo 0 4 (fun k => decide (k ≤ 7)) 0 v
  let v := clampTo 4 2 (fun k => decide (k ≤ 2)) 0 v
  let p := bitsAt v 8 6
  let v := if p / 32 = i / 32 then v else putAt 8 6 (if i < 32 then 31 else 32) v
  clampAt 16 16 1 65535 v

/-- THRESH of STW_IN_RX_NEXT: -500 to +500 mV in two's complement. -/
def stwRxClamp (v : Nat) : Nat :=
  let t := bitsAt v 0 10
  putAt 0 10 (if t < 512 then min t 500 else max t 524) v

/-- XOT_CFG: the width clamped down to 4, 8 or 16; 16 in chain mode (R293). -/
def xotClamp (v : Nat) : Nat :=
  let v := clampTo 0 2 (fun k => decide (k ≤ 2)) 0 v
  let w := bitsAt v 4 5
  putAt 4 5 (if bitsAt v 0 2 = 1 ∨ 16 ≤ w then 16 else if 8 ≤ w then 8 else 4) v

/-- The node in the 7 bits at `lo`: 0-47 and 64-111 are nodes (R321); the nearest one is taken. -/
def clampNode (lo v : Nat) : Nat :=
  let n := bitsAt v lo 7
  putAt lo 7 (if n % 64 < 48 then n else if n < 56 then 47 else if n < 64 then 64 else 111) v

/-- A write of `v` by `rq` brought into the legal values. -/
def clampReg (rq : Requester) (r : Reg) (i v : Nat) (s : State) : Nat :=
  match r with
  | .PART_TIN_CFG => clampAt 8 8 8 255 v
  | .PART_GEN_START_NS => clampAt 0 30 0 999999999 v
  | .PART_GEN_PERIOD_NS => clampAt 0 32 5 0xFFFFFFFF v
  | .PART_TOUT_CFG => clampAt 8 8 1 255 (if 2 ≤ bitsAt v 0 2 then clampAt 4 4 0 3 v else v)
  | .BBD_MARCH_CFG =>
    let v := clampAt 4 2 0 2 (clampAt 0 2 0 2 v)
    let v := if bitsAt v 4 2 = 0 then v else clampAt 24 8 0 94 (clampAt 16 8 0 94 v)
    clampAt 24 8 (bitsAt v 16 8) 255 v
  | .PART_LDR_CFG => clampAt 0 16 1 65535 v
  | .TRC_PCFG_NEXT => clampTo 0 2 (fun k => decide (k ≤ 2)) 0 v
  | .TRC_AREA => clampArea 2 v
  | .STW_IN_RX_NEXT => stwRxClamp v
  | .STW_IN_CFG_NEXT => stwCfgClamp i v
  | .STW_TRG_CFG => clampAt 16 8 1 255 (clampTo 10 2 (fun k => decide (k ≤ 2)) 0 (clampTo 0 3 (fun k => decide (k ≤ 5)) 0 v))
  | .STW_TRG_OUT => clampAt 4 8 1 255 v
  | .STW_CAL_CFG => clampAt 0 8 1 255 v
  | .STW_SINK => clampTo 0 2 (fun k => decide (k ≤ 2)) 0 v
  | .STW_RING => clampArea 2 v
  | .XOT_CFG => xotClamp v
  | .LNK_CFG_NEXT => clampAt 16 16 1 65535 (clampAt 0 8 1 255 v)
  | .NET_LINK_CFG => clampAt 0 9 64 256 v
  | .DSP_TICK_CFG => clampTo 0 3 (fun k => decide (k ≤ 4)) 0 v
  | .DSP_TICK_PERIOD => clampAt 0 32 100 0xFFFFFFFF v
  | .DSP_Q_RING_HI => clampAt 16 5 0 16 v
  | .HIF_CFG => clampAt 0 6 0 32 v
  | .HIF_VF_MEM => clampArea 2 v
  | .HIF_IRQ_ROUTE => if bitsAt v 22 2 = 1 then clampAt 0 11 0 (msixShare (bitsAt v 16 6) s - 1) v else v
  | .HIF_MBX_CFG => match s.mbxOwner i with | 0 => v | p + 1 => clampAt 16 12 0 (s.dImg p - 1) v
  | .HIF_QIRQ => match rq with | .vf f => putAt 16 6 f.val v | _ => v
  | .NET_TN_CFG => clampAt 0 16 10 65535 v
  | .NET_TN_RT_SEL => clampNode 8 (clampNode 0 v)
  | .TIM_OFS_1 => clampAt 0 30 0 999999999 v
  | .TIM_CFG => clampAt 20 9 1 500 (clampAt 0 20 1 1000000 v)
  | .DBG_FUN_CFG => clampArea 4 (clampTo 0 2 (fun k => decide (k ≤ 1)) 0 v)
  | .PRC_RCALL_SEL => let v := clampAt 0 4 0 8 v; clampAt 4 18 0 (unitCount (bitsAt v 0 4) - 1) v
  | .PRC_NAME_SEL => let v := clampAt 0 4 0 8 v; clampAt 4 18 0 (unitCount (bitsAt v 0 4) - 1) v
  | .PRC_THRESH => clampAt 0 16 1 65535 v
  | .PRC_REPAIR => clampArea 3 v
  | .RST_THR_CFG => clampAt 16 4 1 10 (clampAt 8 8 1 100 (clampAt 0 8 1 64 v))
  | _ => v

/-! ### Writes that would place an area wrongly -/

/-- Granules of an area with STACK at `lo`, then FIRST and COUNT. -/
def areaOf (lo v : Nat) : List Nat := span (96 * bitsAt v lo 2 + bitsAt v (lo + 2) 7) (bitsAt v (lo + 9) 7)

/-- The area lies in the virtual function's HIF_VF_MEM range (R471). -/
def inVfMem (f : Nat) (l : List Nat) (s : State) : Bool :=
  l.all fun g => (areaGrans F.HIF_VF_MEM_STACK F.HIF_VF_MEM_FIRST F.HIF_VF_MEM_COUNT f s).contains g

/-- The write is an access violation by where it would place an area (R208, R471). -/
def areaBad (rq : Requester) (r : Reg) (i v : Nat) (s : State) : Bool :=
  match r with
  | .TRC_AREA =>
    let l := areaOf 0 v
    l.any (fun g => decide (granOwner g s ≠ 0))
      || (List.range 64).any (fun j => decide (j ≠ i) && (areaGrans F.TRC_AREA_STACK F.TRC_AREA_FIRST F.TRC_AREA_COUNT j s).any fun g => l.contains g)
      || (match rq with | .vf f => !(inVfMem f.val l s) | _ => false)
  | .PRC_REPAIR => match rq with | .vf f => !(inVfMem f.val (areaOf 1 v) s) | _ => false
  | _ => false

/-- A bit of HIF_VF_OWN[f] that another virtual function holds (R336). -/
def secondOwner (f v : Nat) (s : State) : Bool :=
  (List.range 64).any fun g => decide (g ≠ f ∧ g ≠ 0) && decide (Nat.land (s.gf F.HIF_VF_OWN_PARTS g) v ≠ 0)

/-! ### What a write sets off -/

/-- A write of PART_LDR_DONE: the active proctor ends the boot with bit 4, once no entry is left (R181, R182). -/
def doneWrite (rq : Requester) (v : Nat) (s : State) : State :=
  let busy := s.ld.ctx.any fun e => e.2.entry.isSome && ldRunning e.1 s
  let s := if isActiveProctor rq s && decide (bitAt v 4 = 1) && s.ld.boots.isEmpty && !busy then s.sf F.PART_LDR_DONE_BOOTED 0 1 else s
  doneUpd s

/-- After the register holds its new value: `old` is the state before the write, `v` the word written. -/
def afterWrite (rq : Requester) (r : Reg) (i v : Nat) (old s : State) : State :=
  match r with
  | .TRC_AREA => if i % 4 = 0 then slotsUpd (i / 4) s else s
  | .STW_RING => if s.reg r i = old.reg r i then s else s.setReg .STW_RING_WR 0 0
  | .PART_LDR_DONE => doneWrite rq v s
  | .NET_LINK_CFG => updLinks s
  | .TIM_EVT => if s.tim.fifo.isEmpty then s else s.sf ⟨.TIM_EVT, 3, 1⟩ 0 1
  | .TIM_EVT_EN => if !(timLevel old) && timLevel s then raiseIrq 41 s else s
  | .HIF_IRQ_PEND_HI => if timLevel s && decide (2 ≤ s.gf F.HIF_IRQ_ROUTE_TGT 41) then s.sf ⟨.HIF_IRQ_PEND_HI, 9, 1⟩ 0 1 else s
  | .PIO_OE =>
    forUpTo 32 (fun b t => if bitAt v b = 1 ∧ bitAt (s.reg .PIO_OE i).toNat b = 1 then t.sf F.PIO_PIN_CFG_RELEASED (32 * i + b) 1 else t) s
  | .DBG_FUN_CFG =>
    if (s.reg r i).toNat / 4 = (old.reg r i).toNat / 4 then s
    else { s.setReg .DBG_FUN_WR 0 0 with trc := { s.trc with funLine := [], funPos := 0 } }
  | .DBG_DWDOG => s.sf F.RST_DWDOG_STAT_PAUSED 0 (v % 2)
  | _ => s

/-! ### The plain write -/

/-- The word a register holds after a write, locks apart: RW and RWL fields set, W1C bits cleared, W1S bits set (R10). -/
def writtenWord (m : Masks) (old v : Word) : Word :=
  (((old &&& ~~~ (m.rw ||| m.rwl)) ||| (v &&& (m.rw ||| m.rwl))) &&& ~~~ (v &&& m.w1c)) ||| (v &&& m.w1s)

/-- A write of a register's fields by type; a locked field keeps its value and the write is refused for it (R10, R12). -/
def regStore (rq : Requester) (r : Reg) (i : Nat) (v : Nat) (s : State) : State :=
  let m := r.masks
  let old := s.reg r i
  let w := BitVec.ofNat 32 v
  let lk := BitVec.ofNat 32 (lockMask r i s) &&& m.rwl
  let want := BitVec.ofNat 32 (clampReg rq r i (writtenWord m old w).toNat s)
  if lk = 0 then
    if areaBad rq r i want.toNat s then denyWrite rq r i v s
    else if r = .HIF_VF_OWN ∧ secondOwner i v s then lockedWrite rq r i v s
    else afterWrite rq r i v s (s.setReg r i want)
  else
    let only := decide ((m.rw ||| m.rwl ||| m.w1c ||| m.w1s) &&& ~~~ lk = 0)
    let changed := decide (w &&& lk ≠ old &&& lk)
    let t := if only then s else afterWrite rq r i v s (s.setReg r i ((want &&& ~~~ lk) ||| (old &&& lk)))
    if r = .HIF_VF_OWN ∧ secondOwner i v s then lockedWrite rq r i v s
    else if only || changed then lockedWrite rq r i v t else t

/-- A write of a probe-table word (R223). -/
def probeWrite (rq : Requester) (j v : Nat) (s : State) : State :=
  if lockMask .TRC_PRB_DATA j s ≠ 0 then lockedWrite rq .TRC_PRB_DATA j v s
  else
    let k := probeKey s
    { s with trc := { s.trc with probe := Store.set 0 k (putAt (32 * j) 32 v (Store.get 0 s.trc.probe k)) s.trc.probe } }

/-! ### Registers whose write is a command -/

/-- A command word without a command: nothing but the access check. -/
def noCommand (rq : Requester) (r : Reg) (i v : Nat) (s : State) : State :=
  if mayWrite rq r i s then s else denyWrite rq r i v s

/-- A write of PART_CMD (Table BELL-4). -/
def partCmdWrite (rq : Requester) (p v : Nat) (s : State) : State :=
  let a := bitsAt v 8 16
  match v % 16 with
  | 1 => cmdLoad rq p s
  | 2 => cmdArm rq p a s
  | 3 => cmdStart rq p a s
  | 4 => cmdStop rq p a s
  | 5 => cmdResume rq p a s
  | 6 => cmdFreezeNow rq p a s
  | 7 => cmdCapture rq p a s
  | 8 => cmdRewind rq p a s
  | 9 => cmdAbort rq p a s
  | 10 => cmdUnload rq p a s
  | _ => noCommand rq .PART_CMD p v s

/-- A write of a link's LNK_CMD; the partner's consent to a far-end loopback is the partner's own. -/
def linkCmdWrite (rq : Requester) (l v : Nat) (s : State) : State :=
  match v % 16 with
  | 1 => linkEnable rq l s
  | 2 => linkDisable rq l s
  | 3 => linkRetrain rq l s
  | 4 => linkNap rq l s
  | 5 => linkRecess rq l s
  | 6 => linkWake rq l s
  | 7 => linkLoopback rq l (bitsAt v 4 2) (decide (Config.coreValue 2061 s.seq % 2 = 1)) { s with seq := s.seq + 1 }
  | 8 => linkLbEnd rq l s
  | 9 => linkSpareCmd rq l (bitsAt v 8 5) s
  | _ => noCommand rq .LNK_CMD l v s

/-- Commands of partitions, loaders, traces and the stopwatch. -/
def cmdWriteA (rq : Requester) (r : Reg) (i v : Nat) (s : State) : Option State :=
  match r with
  | .PART_CMD => some (partCmdWrite rq i v s)
  | .PART_COMMIT =>
    some (if bitAt v 0 = 1 then partCommit rq i (decide (bitAt v 1 = 1)) s else if bitAt v 1 = 1 then partCommitCancel rq i s
      else noCommand rq r i v s)
  | .PART_FAULT_TAIL => some (faultTailWrite rq i v s)
  | .PART_GEN_CTL => some (genCtlWrite rq i v s)
  | .PART_LDR_CMD =>
    some (match v % 4 with
      | 1 => loaderStart rq i (bitsAt v 2 2) (bitsAt v 4 4) (decide (bitAt v 8 = 1)) (decide (bitAt v 9 = 1)) (bitsAt v 10 3) s
      | 2 => loaderCancel rq i s
      | _ => if loaderOk rq i (bitsAt v 4 4) (bitsAt v 2 2) s then s else denyWrite rq r i v s)
  | .PART_LDR_BOOT => some (bootPush rq v s)
  | .TRC_PCMD =>
    some (match v % 4 with
      | 1 => trcArm rq i s
      | 2 => trcStop rq i s
      | 3 => trcForce rq i s
      | _ => noCommand rq r i v s)
  | .STW_IN_CMD =>
    some (match v % 8 with
      | 1 => stwInEnable rq i s
      | 2 => stwInArm rq i s
      | 3 => stwInStop rq i s
      | 4 => stwInDisable rq i s
      | _ => noCommand rq r i v s)
  | .STW_TRG_CMD =>
    some (match v % 4 with
      | 1 => stwTrgArm rq i s
      | 2 => stwTrgDisarm rq i s
      | 3 => stwTrgForce rq i s
      | _ => noCommand rq r i v s)
  | .STW_CAL_CMD =>
    some (match v % 4 with
      | 1 => calStart rq s
      | 2 => calStop rq s
      | _ => noCommand rq r i v s)
  | .STW_TB_CMD => some (if v % 2 = 1 then tbLatch rq s else noCommand rq r i v s)
  | .LNK_CMD => some (linkCmdWrite rq i v s)
  | .CLS_SUB_CMD =>
    some (match v % 4 with
      | 1 => subFollow rq i (bitsAt v 16 9) (bitsAt v 25 4) s
      | 2 => subCommit rq i s
      | 3 => subCancel rq i s
      | _ => noCommand rq r i v s)
  | _ => none

/-- Commands of memories, keys, the dispatcher, the host interface and time. -/
def cmdWriteB (rq : Requester) (r : Reg) (i v : Nat) (s : State) : Option State :=
  match r with
  | .BBD_MARCH_CMD =>
    some (match v % 4 with
      | 1 => marchStart rq i s
      | 2 => marchStop rq i (Config.coreValue 2062 s.seq % 256) { s with seq := s.seq + 1 }
      | _ => noCommand rq r i v s)
  | .BBD_RETIRE_CMD =>
    some (match bitsAt v 16 2 with
      | 1 => retireBank rq (v % 512) s
      | 2 => unretireBank rq (v % 512) s
      | _ => noCommand rq r i v s)
  | .HBM_RETIRE_CMD => some (hbmRetire rq i (bitsAt v 0 23) s)
  | .SEC_KEY_CMD =>
    some (match bitsAt v 4 2 with
      | 1 => keyProgram rq (v % 8) s
      | 2 => keyRevoke rq (v % 8) s
      | 3 => keyClear rq (v % 8) s
      | _ => if procOrM rq s then forUpTo 8 (fun j t => t.setReg .SEC_KEY_DATA j 0) s else denyWrite rq r i v s)
  | .SEC_LC_CMD => some (if v % 4 = 1 then lcAdvance rq s else noCommand rq r i v s)
  | .SEC_RK_CMD =>
    some (match bitsAt v 4 2 with
      | 1 => rkProgram rq (v % 4) s
      | 2 => rkRevoke rq (v % 4) s
      | _ => if procOrM rq s then forUpTo 12 (fun j t => t.setReg .SEC_RK_DATA j 0) s else denyWrite rq r i v s)
  | .SEC_SVN_CMD => some (if v % 2 = 1 then svnAdvance rq (bitsAt v 8 7) s else noCommand rq r i v s)
  | .DSP_TICK_CMD => some (tickCmdWrite rq v s)
  | .DSP_CORE_CFG => some (coreCfgWrite rq i (decide (v % 2 = 1)) s)
  | .DSP_Q_CFG_NEXT => some (qCfgNextWrite rq i v s)
  | .DSP_Q_TAIL => some (queueTailWrite rq i v s)
  | .DSP_Q_CMD =>
    some (match v % 8 with
      | 1 => qEnable rq i s
      | 2 => qDisable rq i s
      | 3 => qPause rq i s
      | 4 => qUnpause rq i s
      | 5 => qFlush rq i s
      | _ => noCommand rq r i v s)
  | .HIF_MBX_BELL_HI => some (mailboxPost rq i v s)
  | .NET_TN_RT_DATA => some (routeWrite rq v s)
  | .TIM_CMD =>
    some (match v % 4 with
      | 1 => timeStep rq s
      | 2 => timeRearm rq s
      | _ => noCommand rq r i v s)
  | .TIM_RATE => some (timRateWrite rq v s)
  | .TIM_PTM_CMD => some (if v % 2 = 1 then ptmTrigger rq s else noCommand rq r i v s)
  | _ => none

/-- A write of RST_DBGREQ: PULSE and HOLD. -/
def dbgreqWrite (rq : Requester) (v : Nat) (s : State) : State :=
  if rq ≠ .monitor then denyWrite rq .RST_DBGREQ 0 v s
  else
    let hold := decide (bitAt v 1 = 1)
    let s := if hold == s.flag F.RST_DBGREQ_HOLD 0 then s else dbgreqHold rq hold s
    if bitAt v 0 = 1 then dbgreqPulse rq s else s

/-- A write of PIO_LOCK: a key, or LOCK (R460). -/
def pioLockWrite (rq : Requester) (v : Nat) (s : State) : State :=
  if bitAt v 8 = 1 then pioLock rq s else pioLockKey rq (v % 256) s

/-- The word of RST_UNIT that a register is, as `unitReg` numbers them. -/
def unitWord (r : Reg) (i : Nat) : Nat := ((List.range 11).find? fun j => decide (unitReg j = (r, i))).getD 0

/-- Commands of the monitor's mailbox, the proctors, resets, power, pins and the step clock. -/
def cmdWriteC (rq : Requester) (r : Reg) (i v : Nat) (s : State) : Option State :=
  match r with
  | .DBG_MBX_CTL => some (if v % 2 = 1 then mbxGo rq (bitsAt v 16 11) s else noCommand rq r i v s)
  | .DBG_CTI_PULSE => some (ctiPulseWrite rq (v % 65536) s)
  | .PRC_PROC_CMD =>
    some (match v % 4 with
      | 1 => loadStandby rq s
      | 2 => switchProctor rq s
      | 3 => reload rq (bitAt v 2) s
      | _ => noCommand rq r i v s)
  | .PRC_CLS_SUB_CMD =>
    some (match v % 4 with
      | 1 => clsFollow rq (bitsAt v 16 8) s
      | 2 => clsCommit rq (bitsAt v 16 8) s
      | 3 => clsCancel rq (bitsAt v 16 8) s
      | _ => noCommand rq r i v s)
  | .PRC_UNIT_CMD =>
    some (match v % 4 with
      | 1 => selftest rq (bitsAt v 2 4) (bitsAt v 8 18) s
      | 2 => enrol rq (bitsAt v 2 4) (bitsAt v 8 18) s
      | _ => noCommand rq r i v s)
  | .PRC_ECCST_CMD => some (if v % 2 = 1 then eccStart rq s else noCommand rq r i v s)
  | .RST_SWREQ => some (swReq rq (v % 4) s)
  | .RST_DBGREQ => some (dbgreqWrite rq v s)
  | .RST_UNIT_CORE_LO => some (rstUnitWrite rq (unitWord r i) v s)
  | .RST_UNIT_CORE_HI => some (rstUnitWrite rq (unitWord r i) v s)
  | .RST_UNIT_CLS => some (rstUnitWrite rq (unitWord r i) v s)
  | .RST_UNIT_MISC => some (rstUnitWrite rq (unitWord r i) v s)
  | .RST_DWDOG_CFG => some (dwdogCfg rq v s)
  | .RST_DWDOG_KICK => some (dwdogKick rq (v % 256) s)
  | .RST_PWR_CMD =>
    some (match v % 4 with
      | 1 => pwrRecess rq s
      | 2 => pwrWake rq s
      | _ => noCommand rq r i v s)
  | .PIO_PIN_CFG => some (pinCfgWrite rq i v s)
  | .PIO_LOCK => some (pioLockWrite rq v s)
  | .PIO_FUSE_CMD => some (pioFuseCmd rq (v % 128) (bitsAt v 8 2) s)
  | .GLB_STEP_TARGET => some (stepTargetWrite rq v s)
  | _ => none

/-- The write of a register that has an operation of its own. -/
def cmdWrite (rq : Requester) (r : Reg) (i v : Nat) (s : State) : Option State :=
  match cmdWriteA rq r i v s with
  | some t => some t
  | none => match cmdWriteB rq r i v s with
    | some t => some t
    | none => cmdWriteC rq r i v s

/-- Staged settings with clamps of their own, and registers that show other state. -/
def stagedWrite (rq : Requester) (r : Reg) (i v : Nat) (s : State) : State :=
  match r with
  | .PART_CFG_NEXT => cfgNextWrite i v s
  | .PART_TEMPO_NEXT => tempoNextWrite i v s
  | .PART_FAULT_ACTION_NEXT => actionNextWrite i v s
  | .TRC_PRB_DATA => probeWrite rq i v s
  | .PRC_NAME_DATA => tagWrite (s.gf F.PRC_NAME_SEL_KIND 0) (s.gf F.PRC_NAME_SEL_UNIT 0) i v s
  | .XOT_NAME => tagWrite 4 (i / 8) (i % 8) v s
  | _ => regStore rq r i v s

/-- The fields that any write can touch. -/
def writable (m : Masks) : Word := m.rw ||| m.rwl ||| m.wo ||| m.w1c ||| m.w1s

/-- Write `v` to instance `i` of a register: a register without writable fields ignores it, an access violation changes nothing
(R10, R13, R470, R471). -/
def regWrite (rq : Requester) (r : Reg) (i v : Nat) (s : State) : State :=
  let s := okResp 0 s
  if noRegister r i then s
  else match cmdWrite rq r i v s with
    | some t => t
    | none =>
      if writable r.masks = 0 then s
      else if !(mayWrite rq r i s) then denyWrite rq r i v s
      else stagedWrite rq r i v s

end Machine
end Sys2Proof
end

