-- ==== Sys2Proof/Machine/ExecAccess.lean ====
section
/-! DEFINITION. The commands that read and write control space by themselves. -/
namespace Sys2Proof
namespace Machine

/-- REGISTER_WRITE (R10). -/
def execRegisterWrite (rq : Requester) (r : Reg) (inst : Nat) (v : Word) (s : State) : Out :=
  .next (regWrite rq r inst v.toNat s)

/-- RCL_READ (R10). -/
def execRclRead (rq : Requester) (r : Reg) (ix : Nat) (peek : Bool) (s : State) : Out :=
  .next (regRead rq r ix (peek && decide (rq = .monitor)) s)

/-- LATCHING_READ (R479). -/
def execLatchingRead (rq : Requester) (r : Reg) (ix : Nat) (peek : Bool) (s : State) : Out :=
  .next (regRead rq r ix (peek && decide (rq = .monitor)) s)

/-- ROUTE_TABLE_WRITE (R326). -/
def execRouteTableWrite (rq : Requester) (v : Word) (s : State) : Out :=
  .next (routeWrite rq v.toNat s)

end Machine
end Sys2Proof
end

