-- ==== Sys2Proof/Machine/ExecDebug.lean ====
section
/-! DEFINITION. The commands of the debug chapter that no monitor frame carries. -/
namespace Sys2Proof
namespace Machine

/-- MBX_GO (R361). -/
def execMbxGo (rq : Requester) (len : BitVec 11) (s : State) : Out :=
  .next (mbxGo rq len.toNat s)

/-- HALL_PASS_EXPIRY (R385). -/
def execHallPassExpiry (s : State) : Out :=
  .next (hallPassExpiry s)

/-- CORE_HALT (R367). -/
def execCoreHalt (c : Fin 64) (pc : BitVec 64) (m : Priv) (lr : Bool) (s : State) : Out :=
  .next (coreHalt c pc.toNat m lr s)

/-- COMPARATOR_MATCH (R371). -/
def execComparatorMatch (c : Fin 64) (m : Priv) (asid : BitVec 16) (pc : BitVec 64) (acc : Option CoreAcc) (s : State) : Out :=
  .next (comparatorMatch c m asid.toNat pc.toNat acc s)

/-- CTI_PULSE (R375). -/
def execCtiPulse (s : State) : Out :=
  .next (ctiPulse s)

/-- DBG_CTI_PULSE_WRITE (R375). -/
def execDbgCtiPulseWrite (rq : Requester) (w : BitVec 16) (s : State) : Out :=
  .next (ctiPulseWrite rq w.toNat s)

end Machine
end Sys2Proof
end

