-- ==== Sys2Proof/Machine/ExecFollow.lean ====
section
/-! DEFINITION. The commands of substitution by follow and commit. -/
namespace Sys2Proof
namespace Machine

/-- SUB_FOLLOW (R57). -/
def execSubFollow (rq : Requester) (n : Fin 256) (k : BitVec 9) (j : BitVec 4) (s : State) : Out :=
  .next (subFollow rq n k.toNat j.toNat s)

/-- SUB_COMMIT (R57). -/
def execSubCommit (rq : Requester) (n : Fin 256) (s : State) : Out :=
  .next (subCommit rq n s)

/-- SUB_CANCEL (R57). -/
def execSubCancel (rq : Requester) (n : Fin 256) (s : State) : Out :=
  .next (subCancel rq n s)

/-- FOLLOW_COPY_DONE (R53). -/
def execFollowCopyDone (n : Fin 256) (cls : Bool) (s : State) : Out :=
  .next (followCopyDone n cls s)

/-- CLS_FOLLOW (R395). -/
def execClsFollow (rq : Requester) (n : Fin 256) (s : State) : Out :=
  .next (clsFollow rq n s)

/-- CLS_COMMIT (R395). -/
def execClsCommit (rq : Requester) (n : Fin 256) (s : State) : Out :=
  .next (clsCommit rq n s)

/-- CLS_CANCEL (R395). -/
def execClsCancel (rq : Requester) (n : Fin 256) (s : State) : Out :=
  .next (clsCancel rq n s)

end Machine
end Sys2Proof
end

