-- ==== Sys2Proof/Machine/ExecFreeze.lean ====
section
/-! DEFINITION. The commands of the freeze chapter, but for those whose effect takes a step. -/
namespace Sys2Proof
namespace Machine

/-- FREEZE_REGISTRATION (R113). -/
def execFreezeRegistration (p : Fin 16) (b : Fin 2) (s : State) : Out :=
  .next (freezeRegistration p b s)

/-- LATE_ITEM_ARRIVAL (R115). -/
def execLateItemArrival (p : Fin 16) (b : Fin 2) (cause : Fin 13) (src : Fin 2048) (s : State) : Out :=
  .next (lateItem p b cause src s)

/-- BRIDGE_CONTROL_WORD_RX (R124). -/
def execBridgeControlWordRx (b : Fin 2) (w : BitVec 64) (starts : BitVec 16) (s : State) : Out :=
  .next (bridgeWord b w.toNat starts.toNat s)

/-- BRIDGE_FREEZE_MSG (R123). -/
def execBridgeFreezeMsg (b : Fin 2) (mask : BitVec 16) (tgt : BitVec 18) (s : State) : Out :=
  .next (bridgeFreeze b mask.toNat tgt.toNat s)

/-- BRIDGE_CLEAR_MSG (R115). -/
def execBridgeClearMsg (b : Fin 2) (mask : BitVec 16) (s : State) : Out :=
  .next (bridgeClear b mask.toNat s)

/-- BRIDGE_RESUME_MSG (R115). -/
def execBridgeResumeMsg (b : Fin 2) (mask : BitVec 16) (tgt : BitVec 18) (s : State) : Out :=
  .next (bridgeResume b mask.toNat tgt.toNat s)

end Machine
end Sys2Proof
end

