-- ==== Sys2Proof/Machine/ExecHif.lean ====
section
/-! DEFINITION. The commands of PCI Express functions. -/
namespace Sys2Proof
namespace Machine

/-- VF_FLR (R337). -/
def execVfFlr (f : Fin 64) (s : State) : Out :=
  .next (vfFlr f s)

/-- PF_FLR (R337). -/
def execPfFlr (s : State) : Out :=
  .next (hifReset s)

/-- HOT_RESET (R337). -/
def execHotReset (s : State) : Out :=
  .next (hifReset s)

/-- LINK_DOWN (R337). -/
def execLinkDown (s : State) : Out :=
  .next (linkDown s)

/-- MSIX_UNMASK (R339). -/
def execMsixUnmask (f : Fin 64) (v : BitVec 11) (s : State) : Out :=
  .next (msixUnmask f v.toNat s)

/-- CONFIGURATION_SPACE_WRITE (R330). -/
def execConfigurationSpaceWrite (vf : Bool) (ptm : Bool) (s : State) : Out :=
  .next (configWrite vf ptm s)

end Machine
end Sys2Proof
end

