-- ==== Sys2Proof/Machine/ExecKeys.lean ====
section
/-! DEFINITION. The commands of key slots, life cycle, root keys and the security version counter. -/
namespace Sys2Proof
namespace Machine

/-- KEY_PROGRAM (R192). -/
def execKeyProgram (rq : Requester) (slot : BitVec 4) (s : State) : Out :=
  .next (keyProgram rq slot.toNat s)

/-- KEY_REVOKE (R192). -/
def execKeyRevoke (rq : Requester) (slot : BitVec 4) (s : State) : Out :=
  .next (keyRevoke rq slot.toNat s)

/-- KEY_CLEAR (R192). -/
def execKeyClear (rq : Requester) (slot : BitVec 4) (s : State) : Out :=
  .next (keyClear rq slot.toNat s)

/-- VBAT_LOSS (R192). -/
def execVbatLoss (s : State) : Out :=
  .next (vbatLoss s)

/-- LC_ADVANCE (R193). -/
def execLcAdvance (rq : Requester) (s : State) : Out :=
  .next (lcAdvance rq s)

/-- RK_PROGRAM (R194). -/
def execRkProgram (rq : Requester) (k : BitVec 2) (s : State) : Out :=
  .next (rkProgram rq k.toNat s)

/-- RK_REVOKE (R194). -/
def execRkRevoke (rq : Requester) (k : BitVec 2) (s : State) : Out :=
  .next (rkRevoke rq k.toNat s)

/-- SVN_ADVANCE (R195). -/
def execSvnAdvance (rq : Requester) (value : BitVec 8) (s : State) : Out :=
  .next (svnAdvance rq value.toNat s)

end Machine
end Sys2Proof
end

