-- ==== Sys2Proof/Machine/ExecLinks.lean ====
section
/-! DEFINITION. The commands of the step clock, the Xotil ports, the bridge and the chain. -/
namespace Sys2Proof
namespace Machine

/-- CH_FREEZE (R126). -/
def execChFreeze (p : Fin 16) (port : Fin 8) (seq : BitVec 8) (bell : BitVec 48) (code : BitVec 13) (s : State) : Out :=
  .next (whileAlive (2 * port) (chainMsg p port seq.toNat (chFreeze p port bell.toNat code.toNat)) s)

/-- CH_FROZEN (R126). -/
def execChFrozen (p : Fin 16) (port : Fin 8) (seq : BitVec 8) (bell : BitVec 48) (code : BitVec 13) (s : State) : Out :=
  .next (whileAlive (2 * port) (chainMsg p port seq.toNat (chFrozen p port bell.toNat code.toNat)) s)

/-- CH_CLEAR (R126). -/
def execChClear (p : Fin 16) (port : Fin 8) (seq : BitVec 8) (s : State) : Out :=
  .next (whileAlive (2 * port) (chainMsg p port seq.toNat (chClear p port)) s)

/-- CH_RESUME (R126). -/
def execChResume (p : Fin 16) (port : Fin 8) (seq : BitVec 8) (bell : BitVec 48) (code : BitVec 13) (delay : BitVec 32) (s : State) : Out :=
  .next (whileAlive (2 * port) (fun s => chainMsg p port seq.toNat (chResume p port bell.toNat code.toNat delay.toNat (ctlLat port (s.gf F.GLB_STEP_FREQ_FREQ 0) s)) s) s)

/-- STEP_CLOCK_CHANGE (R26). -/
def execStepClockChange (s : State) : Out :=
  .next (stepClockChange s)

/-- CLKCHG_WINDOW_EXPIRY (R26). -/
def execClkchgWindowExpiry (s : State) : Out :=
  .next (clkchgExpiry s)

/-- STEP_PLL_LOCK (R434). -/
def execStepPllLock (s : State) : Out :=
  .next (stepPllLock s)

/-- GLB_STEP_TARGET_WRITE (R472). -/
def execGlbStepTargetWrite (rq : Requester) (v : BitVec 32) (s : State) : Out :=
  .next (stepTargetWrite rq v.toNat s)

/-- LANE_LOCK (R259). -/
def execLaneLock (l : Fin 68) (n : Fin 17) (s : State) : Out :=
  .next (laneLock l n s)

/-- LANE_LOSS_OF_LOCK (R268). -/
def execLaneLossOfLock (l : Fin 68) (n : Fin 17) (s : State) : Out :=
  .next (laneLoss l n s)

/-- AM (R260). -/
def execAm (l : Fin 68) (bip : BitVec 17) (bad : List (Nat × Nat)) (skew : BitVec 17) (s : State) : Out :=
  .next (whileAlive l (amRow l bip.toNat bad skew.toNat) s)

/-- AM_PERIOD (R260). -/
def execAmPeriod (l : Fin 68) (s : State) : Out :=
  .next (amPeriod l s)

/-- TRAINING_PHASE_DONE (R261). -/
def execTrainingPhaseDone (l : Fin 68) (v : BitVec 32) (s : State) : Out :=
  .next (trainingPhaseDone l v.toNat s)

/-- TRAINING_TIMEOUT (R261). -/
def execTrainingTimeout (l : Fin 68) (s : State) : Out :=
  .next (trainingTimeout l s)

/-- CRC_BLOCK (R262). -/
def execCrcBlock (l : Fin 68) (group : BitVec 12) (good : Bool) (data : List Nat) (s : State) : Out :=
  .next (whileAlive l (crcBlock l group.toNat good data) s)

/-- REPLAY (R263). -/
def execReplay (l : Fin 68) (group : BitVec 12) (s : State) : Out :=
  .next (whileAlive (revLink l) (replayMsg l group.toNat) s)

/-- REPLAY_TIMEOUT (R263). -/
def execReplayTimeout (l : Fin 68) (s : State) : Out :=
  .next (replayTimeout l s)

/-- CHECK_FRAME (R265). -/
def execCheckFrame (t : Fin 2) (r : Fin 2) (bad : BitVec 12) (nak : BitVec 12) (group : BitVec 12) (notice : Nat) (cw : Option (Nat × Nat)) (s : State) : Out :=
  .next (checkFrame t r bad.toNat nak.toNat group.toNat notice cw s)

/-- LINK_CAP (R261). -/
def execLinkCap (l : Fin 68) (fam : BitVec 8) (mem : BitVec 8) (lvl : BitVec 8) (mode : BitVec 8) (turn : BitVec 32) (s : State) : Out :=
  .next (whileAlive l (linkCap l fam.toNat mem.toNat lvl.toNat mode.toNat turn.toNat) s)

/-- LINK_ID (R261). -/
def execLinkId (l : Fin 68) (id : BitVec 48) (s : State) : Out :=
  .next (whileAlive l (linkId l id.toNat) s)

/-- LINK_EPOCH (R282). -/
def execLinkEpoch (ix : Fin 8) (e : BitVec 16) (s : State) : Out :=
  .next (whileAlive (2 * ix) (linkEpoch ix e.toNat) s)

/-- LINK_DIST (R278). -/
def execLinkDist (ix : Fin 8) (d : BitVec 8) (s : State) : Out :=
  .next (whileAlive (2 * ix) (linkDist ix d.toNat) s)

/-- LINK_DERATE (R280). -/
def execLinkDerate (ix : Fin 8) (f : BitVec 16) (s : State) : Out :=
  .next (whileAlive (2 * ix) (linkDerate ix f.toNat) s)

/-- LINK_SPARE (R267). -/
def execLinkSpare (l : Fin 68) (n : Fin 17) (s : State) : Out :=
  .next (whileAlive (revLink l) (linkSpare l n) s)

/-- LINK_REMAP (R268). -/
def execLinkRemap (l : Fin 68) (s : State) : Out :=
  .next (linkRemap l s)

/-- LINK_PROBE (R261). -/
def execLinkProbe (l : Fin 68) (tag : BitVec 32) (s : State) : Out :=
  .next (whileAlive l (linkProbe l tag.toNat) s)

/-- LINK_ECHO (R276). -/
def execLinkEcho (l : Fin 68) (rtt : BitVec 32) (s : State) : Out :=
  .next (whileAlive l (linkEcho l rtt.toNat) s)

/-- LINK_SKIP (R265). -/
def execLinkSkip (l : Fin 68) (s : State) : Out :=
  .next (whileAlive l (linkSkip l) s)

/-- LINK_FCFG (R283). -/
def execLinkFcfg (ix : Fin 8) (s : State) : Out :=
  .next (linkFcfg ix s)

/-- CHAIN_BELL (R275). -/
def execChainBell (ix : Fin 8) (bell : BitVec 48) (s : State) : Out :=
  .next (whileAlive (2 * ix) (chainBell ix bell.toNat) s)

/-- RFRAME (R286). -/
def execRframe (ix : Fin 8) (bell : BitVec 48) (codes : List Nat) (s : State) : Out :=
  .next (whileAlive (2 * ix) (rframe ix bell.toNat codes) s)

/-- BULK (R281). -/
def execBulk (ix : Fin 8) (n : BitVec 16) (s : State) : Out :=
  .next (whileAlive (2 * ix) (bulkBlock ix n.toNat) s)

/-- NAP_IDLE_TIMEOUT (R274). -/
def execNapIdleTimeout (l : Fin 68) (s : State) : Out :=
  .next (napIdle l s)

/-- LINK_ENABLE (R291). -/
def execLinkEnable (rq : Requester) (l : Fin 68) (s : State) : Out :=
  .next (linkEnable rq l s)

/-- LINK_DISABLE (R291). -/
def execLinkDisable (rq : Requester) (l : Fin 68) (s : State) : Out :=
  .next (linkDisable rq l s)

/-- LINK_RETRAIN (R291). -/
def execLinkRetrain (rq : Requester) (l : Fin 68) (s : State) : Out :=
  .next (linkRetrain rq l s)

/-- LINK_NAP (R291). -/
def execLinkNap (rq : Requester) (l : Fin 68) (s : State) : Out :=
  .next (linkNap rq l s)

/-- LINK_RECESS (R291). -/
def execLinkRecess (rq : Requester) (l : Fin 68) (s : State) : Out :=
  .next (linkRecess rq l s)

/-- LINK_WAKE (R291). -/
def execLinkWake (rq : Requester) (l : Fin 68) (s : State) : Out :=
  .next (linkWake rq l s)

/-- LOOPBACK (R273). -/
def execLoopback (rq : Requester) (l : Fin 68) (kind : BitVec 4) (consent : Bool) (s : State) : Out :=
  .next (linkLoopback rq l kind.toNat consent s)

/-- LB_END (R291). -/
def execLbEnd (rq : Requester) (l : Fin 68) (s : State) : Out :=
  .next (linkLbEnd rq l s)

/-- LINK_SPARE_CMD (R291). -/
def execLinkSpareCmd (rq : Requester) (l : Fin 68) (lane : BitVec 8) (s : State) : Out :=
  .next (linkSpareCmd rq l lane.toNat s)

/-- NAP_EXIT_DONE (R274). -/
def execNapExitDone (l : Fin 68) (seen : BitVec 17) (s : State) : Out :=
  .next (napExitDone l seen.toNat s)

end Machine
end Sys2Proof
end

