-- ==== Sys2Proof/Machine/ExecLoad.lean ====
section
/-! DEFINITION. The commands of the loader contexts. -/
namespace Sys2Proof
namespace Machine

/-- LOADER_START (R197). -/
def execLoaderStart (rq : Requester) (c : Fin 4) (src : BitVec 2) (p : Fin 16) (keep : Bool) (gate : Bool) (port : Fin 8) (s : State) : Out :=
  .next (loaderStart rq c src.toNat p keep gate port s)

/-- LOADER_CANCEL (R197). -/
def execLoaderCancel (rq : Requester) (c : Fin 4) (s : State) : Out :=
  .next (loaderCancel rq c s)

/-- LOAD_SECTION (R200). -/
def execLoadSection (c : Fin 4) (data : List Byte) (last : Bool) (s : State) : Out :=
  .next (loadSection c (data.map (·.toNat)) last s)

/-- LOAD_COMPLETE (R200). -/
def execLoadComplete (c : Fin 4) (s : State) : Out :=
  .next (loadComplete c s)

/-- LOAD_TIMEOUT (R202). -/
def execLoadTimeout (c : Fin 4) (s : State) : Out :=
  .next (loadTimeout c s)

end Machine
end Sys2Proof
end

