-- ==== Sys2Proof/Machine/ExecMemory.lean ====
section
/-! DEFINITION. The commands of the design-memory chapter. -/
namespace Sys2Proof
namespace Machine

/-- HBM_SCHEDULE (R146). -/
def execHbmSchedule (p : Fin 16) (stack : Fin 4) (chan : Fin 32) (late : Bool) (s : State) : Out :=
  .next (hbmSchedule p stack chan late s)

/-- HBM_REFRESH (R147). -/
def execHbmRefresh (stack : Fin 4) (temp : Fin 256) (s : State) : Out :=
  .next (hbmRefresh stack temp s)

/-- DESIGN_MEMORY_ACCESS (R148). -/
def execDesignMemoryAccess (rq : Requester) (write : Bool) (a : BitVec 48) (be : BitVec 8) (data : BitVec 64) (s : State) : Out :=
  .next (designMemoryAccess rq write a.toNat be.toNat data.toNat s)

/-- BIT_SET_ALIAS_WRITE (R150). -/
def execBitSetAliasWrite (rq : Requester) (o : BitVec 28) (be : BitVec 8) (data : BitVec 64) (s : State) : Out :=
  .next (bitSetAlias rq o.toNat be.toNat data.toNat s)

/-- BIT_CLEAR_ALIAS_WRITE (R150). -/
def execBitClearAliasWrite (rq : Requester) (o : BitVec 28) (be : BitVec 8) (data : BitVec 64) (s : State) : Out :=
  .next (bitClearAlias rq o.toNat be.toNat data.toNat s)

/-- ECC_WRITEBACK (R151). -/
def execEccWriteback (b : Fin 512) (s : State) : Out :=
  .next (eccWriteback b s)

/-- BACKGROUND_SCRUB (R151). -/
def execBackgroundScrub (b : Fin 512) (w : BitVec 16) (s : State) : Out :=
  .next (backgroundScrub b w.toNat s)

/-- BANK_ZEROISE_DONE (R141). -/
def execBankZeroiseDone (blk : Fin 896) (s : State) : Out :=
  .next (bankZeroiseDone blk s)

/-- MARCH_START (R153). -/
def execMarchStart (rq : Requester) (ix : Fin 2) (s : State) : Out :=
  .next (marchStart rq ix s)

/-- MARCH_STOP (R153). -/
def execMarchStop (rq : Requester) (ix : Fin 2) (cur : Fin 256) (s : State) : Out :=
  .next (marchStop rq ix cur s)

/-- MARCH_DONE (R153). -/
def execMarchDone (ix : Fin 2) (fails : List (Nat × Nat)) (s : State) : Out :=
  .next (marchDone ix fails s)

/-- RETIRE (R155). -/
def execRetire (rq : Requester) (b : Fin 512) (s : State) : Out :=
  .next (retireBank rq b s)

/-- UNRETIRE (R155). -/
def execUnretire (rq : Requester) (b : Fin 512) (s : State) : Out :=
  .next (unretireBank rq b s)

/-- HBM_RETIRE (R156). -/
def execHbmRetire (rq : Requester) (k : Fin 4) (page : BitVec 23) (s : State) : Out :=
  .next (hbmRetire rq k page.toNat s)

/-- HBM_PAGE_SWITCH (R156). -/
def execHbmPageSwitch (k : Fin 4) (s : State) : Out :=
  .next (hbmPageSwitch k s)

/-- MARCH_RESTORE_DONE (R154). -/
def execMarchRestoreDone (ix : Fin 2) (s : State) : Out :=
  .next (marchRestoreDone ix s)

end Machine
end Sys2Proof
end

