-- ==== Sys2Proof/Machine/TNet.lean ====
section
/-! DEFINITION. Requests on the transaction network and through the BARs: routing, epochs, control space, memory, atomic operations,
responses and timeouts (R13, R296, R297, R321-R335, R338, R366, R469, R477; Tables HIF-2 to HIF-7, HIF-10). -/
namespace Sys2Proof
namespace Machine

/-! ### Packets -/

/-- Bundle T0 or T1 carries packets from base `b`: its direction is READY or ACTIVE (R327). -/
def gateUp (b g : Nat) (s : State) : Bool :=
  let st := s.lst (bundleLink (24 + g) b)
  (decide (st = lsReady) || decide (st = lsActive)) && !(s.lk (bundleLink (24 + g) b)).dead

/-- A packet from node `src` reaches node `dst`: a valid entry names its gateway, dimension order uses either bundle (R326, R327). -/
def crosses (src dst : Nat) (s : State) : Bool :=
  let e := Store.get 0 s.tn.rt (128 * src + dst)
  decide (src / 64 = dst / 64)
    || (if bitAt e 31 = 1 then gateUp (src / 64) (bitAt e 28) s else gateUp (src / 64) 0 s || gateUp (src / 64) 1 s)

/-- A host function as a requester. -/
def isHost : Requester → Bool
  | .pf0 => true
  | .vf _ => true
  | _ => false

/-- The number of a host function. -/
def hostFn : Requester → Nat
  | .vf f => f.val
  | _ => 0

def isCore : Requester → Bool
  | .core _ _ => true
  | _ => false

/-- Requesters that carry the epoch of a role (Table HIF-10). -/
def hasEpoch : Requester → Bool
  | .core _ _ => true
  | .proctor _ => true
  | .monitor => true
  | _ => false

/-- The unit whose packet carries a stale epoch: the former holder of a core role, else the role's number; a proctor by number. -/
def staleUnit (rq : Requester) (s : State) : Nat :=
  match rq with
  | .core c _ => ((List.range 72).find? fun u => decide ((s.unit 2 u).banned = c.val + 1)).getD c.val
  | .proctor i => i.val
  | _ => 0

/-- A stale packet is dropped at the fence (R324, R391). -/
def stalePkt (rq : Requester) (ep : Nat) (s : State) : State :=
  match rq with
  | .core c _ => epochStale 2 (staleUnit rq s) c.val ep 0 s
  | _ => epochStale 5 (staleUnit rq s) 0 ep 0 s

/-- An answer with an error that the target logs (Table HIF-4). -/
def errLogged (rq : Requester) (access addr status kind data : Nat) (s : State) : State :=
  { logViol rq access addr status kind data s with resp := { data := 0, status := status, errkind := kind } }

/-! ### Control space (R332, R469, R470) -/

/-- First offset that lies in no block. -/
def ctrlEnd : Nat := 0x1700000

/-- Read one word of control space: the monitor's read of a register with a side effect needs the peek attribute or FORCE (R366). -/
def ctrlRead (rq : Requester) (peek force : Bool) (a : Nat) (s : State) : State :=
  if ctrlEnd ≤ a then denyNowhere rq 0 a 0 s
  else if within a lockerBase 0x10000 then lockerRead rq (a - lockerBase) s
  else match regAt a with
    | none => okResp 0 s
    | some (r, i) =>
      if rq = .monitor ∧ poppingRead r ∧ !peek ∧ !force then errLogged rq 0 a 0x23 3 0 s
      else regRead rq r i (peek && decide (rq = .monitor)) s

/-- Write one word of control space. -/
def ctrlWrite (rq : Requester) (a v : Nat) (s : State) : State :=
  if ctrlEnd ≤ a then denyNowhere rq (writeAccess rq) a v s
  else if within a lockerBase 0x10000 then lockerWrite rq (a - lockerBase) v s
  else match regAt a with
    | none => okResp 0 s
    | some (r, i) => regWrite rq r i v s

/-- A 64-bit access is checked as two 32-bit ones, then performed lower address first; a violation of either half performs neither. -/
def ctrlPair (f : Nat → State → State) (a : Nat) (s : State) : State :=
  let t := f a s
  let u := f (a + 4) s
  if t.resp.errkind ≠ 0 then t
  else if u.resp.errkind ≠ 0 then u
  else
    let w := f (a + 4) t
    w.withResp { w.resp with data := t.resp.data + w.resp.data * 2 ^ 32 }

/-- Size and alignment that control space takes. -/
def ctrlForm (a n : Nat) : Bool := (decide (n = 4) && decide (a % 4 = 0)) || (decide (n = 8) && decide (a % 8 = 0))

/-- Read `n` bytes of control space. -/
def ctrlReadN (rq : Requester) (peek force : Bool) (a n : Nat) (s : State) : State :=
  if !(ctrlForm a n) then denyAddr rq 0 a 0 s
  else if n = 4 then ctrlRead rq peek force a s
  else ctrlPair (fun x t => ctrlRead rq peek force x t) a s

/-- Write bytes to control space, all of them enabled. -/
def ctrlWriteN (rq : Requester) (a : Nat) (b : List Nat) (en : Nat → Bool) (s : State) : State :=
  if !(ctrlForm a b.length) || !((List.range b.length).all en) then denyAddr rq (writeAccess rq) a (fromBytes (b.take 4)) s
  else if b.length = 4 then ctrlWrite rq a (fromBytes b) s
  else ctrlPair (fun x t => ctrlWrite rq x (fromBytes ((b.drop (x - a)).take 4)) t) a s

/-! ### BARs (Table HIF-6) -/

/-- The device address that offset `o` of BAR 2 reaches (R333). -/
def windowAddr (rq : Requester) (o : Nat) (s : State) : Nat :=
  match rq with
  | .vf f => (s.gf F.HIF_VF_WIN_HI_ADDR f.val * 2 ^ 32 + s.gf F.HIF_VF_WIN_LO_ADDR f.val * 2 ^ 28 + o % 2 ^ 34) % 2 ^ 64
  | _ =>
    let w := o / 2 ^ 32 % 16
    (s.gf F.HIF_WIN_HI_ADDR w * 2 ^ 32 + s.gf F.HIF_WIN_LO_ADDR w * 2 ^ 28 + o % 2 ^ 32) % 2 ^ 64

/-- A read of a doorbell page: offset 0 returns the head of a queue that is the function's own (R334, R336). -/
def doorRead (rq : Requester) (o : Nat) (s : State) : State :=
  let q := o / 4096 % 16384
  if o % 4096 ≠ 0 then okResp 0 s
  else match rq with
    | .vf f => if vfQueue f.val q s then okResp (regView .DSP_Q_HEAD q s) s else denyRead rq .DSP_Q_HEAD q s
    | _ => okResp (regView .DSP_Q_HEAD q s) s

/-- A write to a doorbell page. -/
def doorWrite (rq : Requester) (o n v : Nat) (s : State) : State :=
  if o % 4096 = 0 ∧ n = 4 then queueTailWrite rq (o / 4096 % 16384) v (okResp 0 s) else okResp 0 s

/-! ### What the target does -/

/-- Perform a read at its target: the bytes read, with the answer. -/
def targetRead (rq : Requester) (bar : Nat) (peek force : Bool) (a n : Nat) (s : State) : List Nat × State :=
  if isHost rq ∧ bar = 2 then
    let t := doorRead rq a s
    (toBytes n t.resp.data, t)
  else if isHost rq ∧ bar = 1 then memRead rq (windowAddr rq a s) n s
  else if (if isHost rq then a % 2 ^ 28 else a) < 0x10000000 then
    let t := ctrlReadN rq peek force (if isHost rq then a % 2 ^ 28 else a) n s
    (toBytes n t.resp.data, t)
  else memRead rq a n s

/-- Perform a write at its target. -/
def targetWrite (rq : Requester) (bar : Nat) (a : Nat) (b : List Nat) (en : Nat → Bool) (s : State) : State :=
  if isHost rq ∧ bar = 2 then doorWrite rq a b.length (fromBytes b) s
  else if isHost rq ∧ bar = 1 then memWrite rq (windowAddr rq a s) b en s
  else if (if isHost rq then a % 2 ^ 28 else a) < 0x10000000 then ctrlWriteN rq (if isHost rq then a % 2 ^ 28 else a) b en s
  else memWrite rq a b en s

/-- A number of `w` bits in two's complement. -/
def signedOf (w n : Nat) : Int := if n < 2 ^ (w - 1) then n else (n : Int) - 2 ^ w

/-- The word an AMO stores: of the old value and the operand, both below 2 ^ (8 w). -/
def amoValue (op : AmoOp) (w old v : Nat) : Nat :=
  let lt : Bool := decide (signedOf (8 * w) old < signedOf (8 * w) v)
  match op with
  | .swap => v
  | .add => (old + v) % 2 ^ (8 * w)
  | .xor => Nat.xor old v
  | .and => Nat.land old v
  | .or => Nat.lor old v
  | .min => if lt then old else v
  | .max => if lt then v else old
  | .minu => Nat.min old v
  | .maxu => Nat.max old v

/-- A memory that performs AMOs: local RAMs, the blackboard, HBM, none of the aliases (R296, R297). -/
def amoMemory (a : Nat) : Bool :=
  match regionAt a with
  | .ram => true
  | .bb => true
  | .hbm => true
  | _ => false

/-- Perform an AMO at the memory that holds its word: the old value is the answer. -/
def targetAmo (rq : Requester) (op : AmoOp) (w a v : Nat) (s : State) : List Nat × State :=
  if regionAt a = .none ∨ ramVacant a s then ([], denyNowhere rq 3 a v s)
  else if !(amoMemory a) then ([], denyAddr rq 3 a v s)
  else
    let p := memRead rq a w s
    if p.2.resp.status ≠ 0 then ([], p.2)
    else
      let u := memWrite rq a (toBytes w (amoValue op w (fromBytes p.1) (v % 2 ^ (8 * w)))) (fun _ => true) p.2
      (p.1, okResp (fromBytes p.1) u)

/-! ### Answers -/

/-- Keep what a target answered for the way back; the requester has seen nothing yet. -/
def answered (rq : Requester) (k : Pkt) (kind : Nat) (old : BusResp) (b : List Nat) (t : State) : State :=
  let lost := decide (k.cut.val = 2) || !(crosses k.dst.val k.src.val t)
  let ans := if lost then none else some (if t.resp.status = 0 then b else [], t.resp.status, t.resp.errkind)
  let t := if lost then t.bump F.NET_TN_ERR_DROPPED 0 1 else t
  { t with resp := old, tn := { t.tn with flight := t.tn.flight ++ [{ rq := rq, tag := k.tag.toNat, kind := kind, ans := ans }] } }

/-- A non-posted request that gets no response. -/
def unanswered (rq : Requester) (k : Pkt) (kind : Nat) (t : State) : State :=
  { t with tn := { t.tn with flight := t.tn.flight ++ [{ rq := rq, tag := k.tag.toNat, kind := kind }] } }

/-- A core's exception for an access of a kind (R329): load, store or AMO access fault, instruction access fault. -/
def accessFault (kind : Nat) : Nat := if kind = 0 then 5 else if kind = 3 then 1 else 7

/-- The core takes an access-fault exception. -/
def coreFault (rq : Requester) (kind : Nat) (s : State) : State :=
  match rq with
  | .core c _ => s.modCore c.val fun r => { r with trap := some (accessFault kind) }
  | _ => s

/-- What Table TUT-2 refuses in the core itself: no packet leaves (R296). -/
def coreBars (rq : Requester) (kind a n : Nat) : Bool :=
  isCore rq && (if kind = 2 then !(amoMemory a) else decide (a < 0x10000000) && !(decide (n = 4) && decide (a % 4 = 0)))

/-- A request on its way: a core's own checks, the epoch at the fence, the route, the packet's form, then `f` at the target, which
gives the bytes of the answer. -/
def request (rq : Requester) (k : Pkt) (kind access n : Nat) (bad : Bool) (f : State → List Nat × State) (s : State) : State :=
  if n = 0 ∨ 256 < n then s
  else if coreBars rq kind k.addr.toNat n then coreFault rq kind s
  else if k.cut.val = 1 ∨ !(crosses k.src.val k.dst.val s) then unanswered rq k kind (s.bump F.NET_TN_ERR_DROPPED 0 1)
  else if hasEpoch rq ∧ k.epoch.toNat ≠ reqEpoch rq s then unanswered rq k kind (stalePkt rq k.epoch.toNat s)
  else if bad ∨ 4096 < k.addr.toNat % 4096 + n then answered rq k kind s.resp [] (errLogged rq access k.addr.toNat 0x21 6 0 s)
  else
    let p := f s
    answered rq k kind s.resp p.1 p.2

/-- NET_READ: `fetch` marks an instruction fetch, `op` a reserved OP code (R325). -/
def netRead (rq : Requester) (k : Pkt) (n : Nat) (peek force fetch badOp : Bool) (s : State) : State :=
  request rq k (if fetch then 3 else 0) 0 n badOp (fun t => targetRead rq k.bar.val peek force k.addr.toNat n t) s

/-- Byte enables cover the first 64 bytes of the data (R323). -/
def enables (be i : Nat) : Bool := decide (64 ≤ i) || decide (bitAt be i = 1)

/-- NET_WRITE: non-posted, from a device requester; every host write is posted (R338). -/
def netWrite (rq : Requester) (k : Pkt) (be : Nat) (b : List Nat) (s : State) : State :=
  if isHost rq then s
  else request rq k 1 1 b.length false (fun t => ([], targetWrite rq k.bar.val k.addr.toNat b (enables be) t)) s

/-- The newest entry of the violation log, where the write made one by this requester, carries ACCESS 2 (Table REL-9). -/
def markPosted (rq : Requester) (old t : State) : State :=
  let e := (t.gf F.PRC_VIOL_STAT_HEAD 0 + 63) % 64
  let w := (t.reg .PRC_VIOL (8 * e + 4)).toNat
  if t.reg .PRC_VIOL_STAT 0 ≠ old.reg .PRC_VIOL_STAT 0 ∧ bitsAt (t.reg .PRC_VIOL (8 * e + 3)).toNat 16 16 = reqCode rq ∧ w % 256 = 1 then
    t.setReg .PRC_VIOL (8 * e + 4) (BitVec.ofNat 32 (w + 1))
  else t

/-- NET_WRITE_P: performed without a response; where it fails it is dropped (R325, R338). -/
def netWriteP (rq : Requester) (k : Pkt) (be : Nat) (b : List Nat) (s : State) : State :=
  let n := b.length
  if n = 0 ∨ 256 < n then s
  else if coreBars rq 1 k.addr.toNat n then coreFault rq 1 s
  else if k.cut.val = 1 ∨ !(crosses k.src.val k.dst.val s) then s.bump F.NET_TN_ERR_DROPPED 0 1
  else if hasEpoch rq ∧ k.epoch.toNat ≠ reqEpoch rq s then { stalePkt rq k.epoch.toNat s with resp := s.resp }
  else if 4096 < k.addr.toNat % 4096 + n then { errLogged rq 2 k.addr.toNat 0x21 6 (fromBytes (b.take 4)) s with resp := s.resp }
  else { markPosted rq s (targetWrite rq k.bar.val k.addr.toNat b (enables be) s) with resp := s.resp }

/-- NET_AMO: a word of 4 or 8 bytes, aligned; the host and the monitor send none. -/
def netAmo (rq : Requester) (k : Pkt) (op : AmoOp) (wide : Bool) (v : Nat) (s : State) : State :=
  let w := if wide then 8 else 4
  if isHost rq ∨ k.addr.toNat % w ≠ 0 then s
  else request rq k 2 3 w false (fun t => targetAmo rq op w k.addr.toNat v t) s

/-! ### The way back -/

/-- The oldest outstanding request of a requester under a tag. -/
def findReq (rq : Requester) (tag : Nat) (s : State) : Option TnReq := s.tn.flight.find? fun r => decide (r.rq = rq) && decide (r.tag = tag)
def dropReq (rq : Requester) (tag : Nat) (s : State) : State :=
  { s with tn := { s.tn with flight := s.tn.flight.eraseP fun r => decide (r.rq = rq) && decide (r.tag = tag) } }

/-- A requester takes an error: a core an access fault, a host function a Completer Abort (R329, Table HIF-7). -/
def takesError (r : TnReq) (errkind : Nat) (s : State) : State :=
  let s := coreFault r.rq r.kind s
  if isHost r.rq ∧ errkind ≠ 4 ∧ errkind ≠ 5 then { s with hif := { s.hif with aer := Store.set false (hostFn r.rq) true s.hif.aer } } else s

/-- RESPONSE: the answer reaches its requester; one that was lost, or whose request has timed out, does nothing (R328). -/
def response (rq : Requester) (tag : Nat) (s : State) : State :=
  match findReq rq tag s with
  | none => s
  | some r => match r.ans with
    | none => s
    | some (b, st, ek) =>
      let s := { dropReq rq tag s with resp := { data := fromBytes b, status := st, errkind := ek } }
      if st = 0 then s else takesError r ek s

/-- REQUEST_TIMEOUT: no response for TMO: ERRKIND 7, counted (R328). -/
def requestTimeout (rq : Requester) (tag : Nat) (s : State) : State :=
  match findReq rq tag s with
  | none => s
  | some r => takesError r 7 (timedOut (dropReq rq tag s))

/-! ### Doorbells and apertures -/

/-- DOORBELL: a write of `v` to page `q` acts as a tail write by the function (R334). -/
def doorbell (f q v : Nat) (s : State) : State :=
  queueTailWrite (if h : f < 64 then (if f = 0 then .pf0 else .vf ⟨f, h⟩) else .pf0) q v (okResp 0 s)

/-- APERTURE_REQUEST: a device request to function `f`'s aperture at offset `o` becomes a memory request of that function (R335). -/
def apertureRequest (rq : Requester) (f o : Nat) (write : Bool) (b : List Nat) (s : State) : State :=
  let a := apBase + f * 2 ^ 40 + o
  if write then memWrite rq a b (fun _ => true) s else (memRead rq a b.length s).2

end Machine
end Sys2Proof
end

