-- ==== Sys2Proof/Machine/Monitor.lean ====
section
/-! DEFINITION. The monitor: its transports and commands, its view of a halted core, hall passes (R360-R370, R372, R378, R383-R385). -/
namespace Sys2Proof
namespace Machine

/-! ### Transports (R360-R362) -/

/-- A request frame: MAGIC, VERSION, LEN and CRC are right. -/
def frameOk (b : List Nat) : Bool :=
  let n := leAt b 8 2
  decide (b.take 3 = [0x44, 0x4D, 1]) && decide (n ≤ 1024) && decide (b.length = 16 + n) && decide (leAt b (12 + n) 4 = crc32 (b.take (12 + n)))

/-- The frame in DBG_MBX_REQ. -/
def mbxFrame (s : State) : List Nat :=
  ((List.range 260).flatMap fun w => toBytes 4 (s.reg .DBG_MBX_REQ w).toNat).take (s.gf F.DBG_MBX_CTL_LEN 0)

/-- UART framing: delimited by 0x7E, 0x7E and 0x7D escaped (R361). -/
def uartBytes (b : List Nat) : List Nat :=
  [0x7E] ++ (b.flatMap fun x => if x = 0x7E ∨ x = 0x7D then [0x7D, Nat.xor x 0x20] else [x]) ++ [0x7E]

/-- Send a response on transport `t`: 0 PCI Express, 1 Ethernet, 2 UART. -/
def monSend (t : Nat) (b : List Nat) (s : State) : State :=
  if t = 0 then
    let s := forUpTo ((b.length + 3) / 4) (fun w u => u.setReg .DBG_MBX_RSP w (BitVec.ofNat 32 (fromBytes ((b.drop (4 * w)).take 4)))) s
    ((s.sf F.DBG_MBX_STAT_RLEN 0 b.length).sf F.DBG_MBX_STAT_DONE 0 1).sf F.DBG_MBX_STAT_BUSY 0 0
  else { s with dbg := { s.dbg with out := (t, if t = 2 then uartBytes b else b) :: s.dbg.out } }

/-- What a command answers: status, payload, state. -/
abbrev MonAns := Nat × List Nat × State

/-- A payload of the wrong length or content: 0x21 with ERRKIND 6 (R363). -/
def malformed (s : State) : MonAns := (0x21, [6], s)

/-- A chip-management request has been seen. -/
def peerSeen (s : State) : State := { s with dbg := { s.dbg with peer := true } }

/-- The answer last given on transport `t`. -/
def cacheAnswer (t sq : Nat) (out : List Nat) (s : State) : State :=
  { s with dbg := { s.dbg with ports := Store.set {} t { seq := some sq, resp := out } s.dbg.ports } }

/-- Execute a request and answer it. -/
def monServe (t sq : Nat) (b : List Nat) (f : State → MonAns) (s : State) : State :=
  let a := f s
  let out := monFrame 1 sq (b.getD 6 0) a.1 a.2.1
  monSend t out (cacheAnswer t sq out (a.2.2.withResp s.resp))

/-- Execute a request once and answer it; a repeat of the last answered SEQ is answered from the cache (R362). -/
def monAnswer (t : Nat) (b : List Nat) (f : State → MonAns) (s : State) : State :=
  let sq := leAt b 4 2
  let p := Store.get ({} : MonPort) s.dbg.ports t
  let s := wakeBy 2 (if t = 1 then peerSeen s else s)
  if p.seq = some sq then monSend t p.resp s else monServe t sq b f s

/-- A request on transport `t` is to be served: the mailbox's request is BUSY, and the monitor runs. -/
def monServes (t : Nat) (s : State) : Bool := s.flag F.DBG_MBX_STAT_ONLINE 0 && (decide (t ≠ 0) || s.flag F.DBG_MBX_STAT_BUSY 0)

/-- The frame of a request: from the mailbox, or as the other transports deliver it. -/
def monBytes (t : Nat) (b : List Nat) (s : State) : List Nat := if t = 0 then mbxFrame s else b

/-- A request with CMD `cmd` and a payload of `len` bytes. -/
def monCmd (t cmd : Nat) (b : List Nat) (len : List Nat → Nat) (f : List Nat → State → MonAns) (s : State) : State :=
  let b := monBytes t b s
  let pl := (b.drop 12).take (leAt b 8 2)
  if !(monServes t s) || !(frameOk b) || decide (b.getD 6 0 ≠ cmd) then s
  else monAnswer t b (fun s => if pl.length = len pl then f pl s else malformed s) s

/-- FORCE of a request's frame. -/
def monForce (t : Nat) (b : List Nat) (s : State) : Bool := decide (bitAt ((monBytes t b s).getD 3 0) 1 = 1)

/-! ### Run control (R363, R367-R370) -/

/-- The cores of a mask. -/
def maskCores (m : Nat) : List Nat := (List.range 64).filter fun c => bitAt m c = 1

/-- The mask of the cores that are HALTED. -/
def haltedMask (l : List Nat) (s : State) : Nat := ((l.filter fun c => s.cst c = coreHalted).map (2 ^ ·)).sum

/-- HALT of one core. -/
def haltCore (onreset : Bool) (c : Nat) (s : State) : State :=
  if onreset ∧ (s.cst c = coreReset ∨ s.cst c = coreLockup) then s.sf F.DBG_CORE_STAT_ONRESET c 1 else haltRequest c 1 0 s

/-- MON_HALT. -/
def monHalt (t : Nat) (b : List Nat) (s : State) : State :=
  monCmd t 1 b (fun _ => 9) (fun pl s =>
    let l := maskCores (leAt pl 0 8)
    let s := forEach l (haltCore (decide (bitAt (pl.getD 8 0) 0 = 1))) s
    (0, toBytes 8 (haltedMask l s), s)) s

/-- A halted core continues at its DPC: ONRESET ends, the trace emits INDIRECT kind 3 and SYNC (R370, R378, R380). -/
def resumeCore (c : Nat) (s : State) : State :=
  let s := csrForget c ((s.sf F.DBG_CORE_STAT_STATE c coreRunning).sf F.DBG_CORE_STAT_ONRESET c 0)
  ctEmit c 1 0 false [] (ctEmit c 3 3 true ([0] ++ toBytes 6 (s.core c).pc) s)

/-- MON_RESUME. -/
def monResume (t : Nat) (b : List Nat) (s : State) : State :=
  monCmd t 2 b (fun _ => 8) (fun pl s =>
    let l := maskCores (leAt pl 0 8)
    let h := l.filter fun c => s.cst c = coreHalted
    let s := forEach l (fun c t => t.sf F.DBG_CORE_STAT_ONRESET c 0) s
    (0, toBytes 8 ((h.map (2 ^ ·)).sum), forEach h resumeCore s)) s

/-- The STEP of a halted core: where it has ended, the core's own execution has left a program counter, a mode and registers (entry
10); else it halts when the step ends. -/
def stepCore (c : Nat) (stepie ended : Bool) (s : State) : State :=
  let s := csrForget c s
  if ended then
    let pc := coreDraw (16 * c + 7) 64 s
    let m := coreDraw (16 * c + 8) 2 s
    enterHalted c 4 0 pc (if m = 2 then 0 else m) (drawRegs c (drawn s))
  else (s.sf F.DBG_CORE_STAT_STATE c coreRunning).modCore c fun r => { r with halt := some (4, 0), step := some stepie }

/-- MON_STEP: `ended` within 1 ms. -/
def monStep (t : Nat) (b : List Nat) (ended : Bool) (s : State) : State :=
  monCmd t 3 b (fun _ => 4) (fun pl s =>
    let c := pl.getD 0 0
    if 64 ≤ c then malformed s
    else if s.cst c ≠ coreHalted then (0x20, [], s)
    else
      let s := stepCore c (decide (bitAt (pl.getD 1 0) 0 = 1)) ended s
      (0, [s.cst c], s)) s

/-! ### The monitor's view of a core (R364) -/

/-- A CSR of the core's own execution, as the monitor last saw or wrote it while the core is halted. -/
def csrSeen (c n : Nat) (s : State) : Option Nat :=
  match csrHeld (64 + c) n s with
  | 0 => none
  | v + 1 => some v

/-- Forget what was seen of a CSR: its value after a write is the core's own rule. -/
def csrUnseen (c n : Nat) (s : State) : State := { s with dsp := { s.dsp with csr := Store.set 0 (4096 * (64 + c) + n) 0 s.dsp.csr } }
def csrSee (c n v : Nat) (s : State) : State :=
  { s with dsp := { s.dsp with csr := Store.set 0 (4096 * (64 + c) + n) (v % 2 ^ 64 + 1) s.dsp.csr } }

/-- Interrupt sources routed to core `c` with a target kind (2 MEIP, 3 SEIP) that are pending. -/
def irqAt (c tgt : Nat) (s : State) : Bool :=
  (List.range 64).any fun n => decide (s.gf F.HIF_IRQ_ROUTE_TGT n = tgt) && decide (s.gf F.HIF_IRQ_ROUTE_TARGET n = c)
    && decide (bitAt (if n < 32 then (s.reg .HIF_IRQ_PEND_LO 0).toNat else (s.reg .HIF_IRQ_PEND_HI 0).toNat) (n % 32) = 1)

/-- The bits of mip that this device drives: DESK, WDOG, MSIP, MEIP, SEIP (R305, R340); the others are the core's own. -/
def mipOf (c own : Nat) (s : State) : Nat :=
  let r := s.core c
  let keep := Nat.land own (2 ^ 1 + 2 ^ 5 + 2 ^ 7)
  keep + 2 ^ 3 * s.gf F.DSP_MSIP_MSIP c + 2 ^ 9 * b2n (irqAt c 3 s) + 2 ^ 11 * b2n (irqAt c 2 s)
    + 2 ^ 16 * b2n (!r.desk.isEmpty && r.cur.isNone) + 2 ^ 17 * bitAt (csrHeld c csrWdog s) 33

/-- dxcore, dxtask0-3, dxdesk (Table TUT-4). -/
def dxCsr (c n : Nat) (s : State) : Option Nat :=
  let r := s.core c
  let f : (Task → Nat) → Nat := fun g => match r.cur with | some t => g t | none => 0
  let pr : Nat → Nat := fun k => match r.desk[k]? with | some t => t.prio | none => 0
  match n with
  | 0xCC0 => some (c + 64 * (c / 32) + 128 * (c / 8) + 65536 * roleEpoch s 2 c)
  | 0xCC1 => some (f (·.entry))
  | 0xCC2 => some (f (·.arg))
  | 0xCC3 => some (f fun t => t.queue + 65536 * t.prio + 2 ^ 24 * t.flags + 2 ^ 32 * t.tag + 2 ^ 48 * b2n (decide (t.disp ≠ 0)) + 2 ^ 49)
  | 0xCC4 => some (f (·.cpl))
  | 0xCC5 => some (r.desk.length + 256 * pr 0 + 65536 * pr 1)
  | 0x5C0 => some (csrHeld c csrTmo s)
  | 0x7C0 => some (csrHeld c csrCtl s)
  | 0x7C1 => some (csrHeld c csrWdog s)
  | _ => none

/-- mhpmcounter3-31, their event selectors and their user copies: fixed at 0 (R295). -/
def hpmCsr (n : Nat) : Bool :=
  (decide (0xB03 ≤ n) && decide (n ≤ 0xB1F)) || (decide (0x323 ≤ n) && decide (n ≤ 0x33F)) || (decide (0xC03 ≤ n) && decide (n ≤ 0xC1F))

/-- A CSR's value with the state that has drawn it; what only the core's own execution knows is free, and holds until the core runs. -/
def csrRead (c n : Nat) (s : State) : Nat × State :=
  match dxCsr c n s with
  | some v => (v, s)
  | none =>
    if n = 0x301 then (0x8000000000941105, s)
    else if n = 0xF14 then (c, s)
    else if hpmCsr n then (0, s)
    else
      let v := (csrSeen c n s).getD (coreDraw (2 ^ 20 + 4096 * c + n) 64 s)
      (if n = 0x344 then mipOf c v s else v, if (csrSeen c n s).isSome then s else csrSee c n v (drawn s))

/-- A write of a CSR as by the core in M mode. Scratch registers and counters hold the value; satp takes Bare and Sv39 alone; fixed and
read-only CSRs ignore it; what else a CSR holds after it is the core's own rule. -/
def csrWrite (c n v : Nat) (s : State) : State :=
  match n with
  | 0x5C0 => csrPut c csrTmo (v % 2 ^ 32) s
  | 0x7C0 => csrPut c csrCtl (v % 4) s
  | 0x7C1 => csrPut c csrWdog (v % 2 ^ 32) s
  | 0x180 => if v / 2 ^ 60 % 16 = 0 ∨ v / 2 ^ 60 % 16 = 8 then csrSee c n v s else s
  | 0x340 => csrSee c n v s
  | 0x140 => csrSee c n v s
  | 0xB00 => csrSee c n v s
  | 0xB02 => csrSee c n v s
  | _ => if n = 0x301 ∨ n / 1024 % 4 = 3 ∨ hpmCsr n then s else csrUnseen c n s

/-! ### Virtual memory of a core (Sv39; R295, R364) -/

/-- A page-table entry allows an access: V, R or W, U under the privilege with SUM and MXR of mstatus; A and D as the core's own rule
has it. -/
def pteAllows (e priv mstatus : Nat) (write strict : Bool) : Bool :=
  let bit := bitAt e
  let user := decide (bit 4 = 1)
  (if priv = 0 then user else !user || decide (bitAt mstatus 18 = 1))
    && (if write then decide (bit 2 = 1) else decide (bit 1 = 1) || (decide (bitAt mstatus 19 = 1) && decide (bit 3 = 1)))
    && (!strict || (decide (bit 6 = 1) && (!write || decide (bit 7 = 1))))

/-- Walk the levels of Sv39 from the table at `base`: the physical address, none for a translation fault. -/
def sv39Walk (va priv mstatus : Nat) (write strict : Bool) (s : State) : List Nat → Nat → Option Nat
  | [], _ => none
  | lv :: r, base =>
    let e := fromBytes (s.rbs (base + 8 * (va / 2 ^ (12 + 9 * lv) % 512)) 8)
    let ppn := e / 1024 % 2 ^ 44
    if bitAt e 0 = 0 ∨ (bitAt e 1 = 0 ∧ bitAt e 2 = 1) ∨ e / 2 ^ 54 ≠ 0 then none
    else if bitAt e 1 = 0 ∧ bitAt e 3 = 0 then sv39Walk va priv mstatus write strict s r (ppn * 4096)
    else if ppn % 2 ^ (9 * lv) ≠ 0 ∨ !(pteAllows e priv mstatus write strict) then none
    else some (ppn * 4096 + va % 2 ^ (12 + 9 * lv))

/-- Translate through the core's satp and privilege at the halt. -/
def translate (c va : Nat) (write : Bool) (s : State) : Option Nat × State :=
  let priv := (s.core c).priv
  let satp := (csrRead c 0x180 s).1
  let s := (csrRead c 0x180 s).2
  if priv = 3 ∨ satp / 2 ^ 60 = 0 then (some (va % 2 ^ 48), s)
  else
    let ms := (csrRead c 0x300 s).1
    let s := (csrRead c 0x300 s).2
    let strict := decide (Config.coreValue 2064 s.seq % 2 = 1)
    let top := va / 2 ^ 38
    if top ≠ 0 ∧ top ≠ 2 ^ 26 - 1 then (none, drawn s)
    else ((sv39Walk va priv ms write strict s [2, 1, 0] (satp % 2 ^ 44 * 4096)).map (· % 2 ^ 48), drawn s)

/-! ### READ, WRITE and PEEK (R364-R366) -/

/-- The result of one element: its bytes, or the status and ERRKIND of a failure. -/
abbrev Elem := Except (Nat × Nat) (List Nat) × State

/-- The answer that a network access left. -/
def elemOf (b : List Nat) (t : State) : Elem :=
  if t.resp.status = 0 then (.ok b, t) else (.error (t.resp.status, t.resp.errkind), t)

/-- One element in device memory or control space. -/
def devElem (peek force : Bool) (w : Option Nat) (size a : Nat) (s : State) : Elem :=
  if 4096 < a % 4096 + size then
    (.error (0x21, 6), errLogged .monitor (if w.isSome then 1 else 0) a 0x21 6 (w.getD 0) s)
  else match w with
    | none => let p := targetRead .monitor 0 peek force a size s; elemOf p.1 p.2
    | some v => elemOf [] (targetWrite .monitor 0 a (toBytes size v) (fun _ => true) s)

/-- One element of a space of Table DBG-3. -/
def monElem (space c : Nat) (peek force : Bool) (w : Option Nat) (size a : Nat) (s : State) : Elem :=
  match space with
  | 0 => devElem peek force w size (a % 2 ^ 48) s
  | 1 =>
    if 32 < a then (.error (0x21, 4), s)
    else match w with
      | none => (.ok (toBytes size (if a = 32 then (s.core c).pc else xRead c a s)), s)
      | some v => (.ok [], if a = 32 then s.modCore c fun r => { r with pc := v } else xWrite c a v s)
  | 2 =>
    if 4095 < a then (.error (0x21, 4), s)
    else match w with
      | none => (.ok (toBytes size (csrRead c a s).1), (csrRead c a s).2)
      | some v => (.ok [], csrWrite c a v s)
  | _ =>
    let r := translate c a w.isSome s
    match r.1 with
    | none => (.error (0x21, 4), r.2)
    | some p => devElem peek force w size p r.2

/-- The elements in order; the first failure ends them with its ERRKIND and the offset of the element (R363). -/
def monElems (f : Nat → State → Elem) (size : Nat) : List Nat → List Nat → State → MonAns
  | [], acc, s => (0, acc, s)
  | k :: r, acc, s =>
    match f k s with
    | (.ok b, t) => monElems f size r (acc ++ b) t
    | (.error (st, ek), t) => (st, [ek, 0] ++ toBytes 2 (size * k), t)

/-- READ, WRITE or PEEK of a payload. -/
def monAccess (write peek force : Bool) (pl : List Nat) (s : State) : MonAns :=
  let space := pl.getD 0 0
  let c := pl.getD 1 0
  let size := pl.getD 2 0
  let count := leAt pl 4 2
  let a := leAt pl 8 8
  let step := if space = 1 ∨ space = 2 then 1 else size
  if !([1, 2, 4, 8].contains size) || decide (1024 < count * size) || decide (3 < space) || (decide (space ≠ 0) && (peek || decide (64 ≤ c))) then malformed s
  else if space ≠ 0 ∧ s.cst c ≠ coreHalted then (0x20, [], s)
  else if space ≠ 0 ∧ coreExcluded c s ∧ s.gf F.DBG_CORE_STAT_MPRIV c = 1 then (0x21, [1, 0, 0, 0], s)
  else monElems (fun k s =>
    monElem space c peek force (if write then some (leAt pl (16 + size * k) size) else none) size ((a + step * k) % 2 ^ 64) s) size (List.range count) [] s

/-- MON_READ. -/
def monRead (t : Nat) (b : List Nat) (s : State) : State := monCmd t 4 b (fun _ => 16) (monAccess false false (monForce t b s)) s

/-- MON_WRITE. -/
def monWrite (t : Nat) (b : List Nat) (s : State) : State :=
  monCmd t 5 b (fun pl => 16 + leAt pl 4 2 * pl.getD 2 0) (monAccess true false false) s

/-- MON_PEEK. -/
def monPeek (t : Nat) (b : List Nat) (s : State) : State := monCmd t 6 b (fun _ => 16) (monAccess false true false) s

/-! ### Comparators, trace, partitions -/

/-- Load a comparator: SETBP takes OFF and EXEC, SETWP OFF and LOAD to DATA; another KIND is clamped (R12). -/
def setCmpr (bp : Bool) (pl : List Nat) (s : State) : MonAns :=
  let c := pl.getD 0 0
  let k := pl.getD 1 0
  let z := cmprOf c k (pl.drop 2) s
  let kind := if bp then min z.kind 1 else if z.kind = 1 then 0 else min z.kind 5
  if 64 ≤ c ∨ 8 ≤ k then malformed s
  else (0, [], s.modCore c fun r => { r with cmps := Store.set {} k { z with kind := kind } r.cmps })

/-- MON_SETBP and MON_SETWP. -/
def monSetbp (t : Nat) (b : List Nat) (s : State) : State := monCmd t 7 b (fun _ => 26) (setCmpr true) s
def monSetwp (t : Nat) (b : List Nat) (s : State) : State := monCmd t 8 b (fun _ => 26) (setCmpr false) s

/-- TRACECFG of one core (Table DBG-7). A halted core's SYNC comes at its resume (Table DBG-10). -/
def traceCfg (flags syncLog cti post c : Nat) (s : State) : State :=
  let on := decide (bitAt flags 0 = 1)
  let held := on && decide (bitAt flags 3 = 1)
  let s := s.modCore c fun r => { r with trc :=
    { flags := flags % 16, syncLog := max 8 (min 16 syncLog), cti := cti, post := post, held := held, asleep := r.trc.asleep } }
  let s := s.sf F.DBG_CORE_STAT_TRC c (if on then ctRunning else trcOff)
  if s.cst c = coreRunning then ctEmit c 1 0 false [] s else s

/-- MON_TRACECFG. -/
def monTracecfg (t : Nat) (b : List Nat) (s : State) : State :=
  monCmd t 9 b (fun _ => 16) (fun pl s =>
    (0, [], forEach (maskCores (leAt pl 0 8)) (traceCfg (pl.getD 8 0) (pl.getD 9 0) (leAt pl 10 2) (leAt pl 12 4)) s)) s

/-- MON_FREEZE: FREEZE_NOW to each named partition, or RESUME to each that is FROZEN. -/
def monFreeze (t : Nat) (b : List Nat) (s : State) : State :=
  monCmd t 10 b (fun _ => 3) (fun pl s =>
    let l := (List.range 16).filter fun p => bitAt (leAt pl 0 2) p = 1
    let op := pl.getD 2 0
    if 2 ≤ op then malformed s
    else
      let s := if op = 0 then forEach l (fun p t => cmdFreezeNow .monitor p 0 t) s
        else forEach (l.filter fun p => s.pst p = stFrozen) (fun p t => cmdResume .monitor p 0 t) s
      (0, (List.range 16).map fun p => s.gf F.PART_CMD_STATUS_STATUS p, s)) s

/-- MON_CAPTURE. -/
def monCapture (t : Nat) (b : List Nat) (s : State) : State :=
  monCmd t 11 b (fun _ => 4) (fun pl s =>
    let p := pl.getD 0 0
    if 16 ≤ p then malformed s
    else
      let s := cmdCapture .monitor p (leAt pl 2 2) s
      (s.gf F.PART_CMD_STATUS_STATUS p, toBytes 4 (s.reg .PART_CMD_STATUS p).toNat, s)) s

/-! ### Hall passes (R384, R385) -/

/-- The monitor's nonce. -/
def nonceBytes (s : State) : List Nat := toBytes 16 (Config.nonce s.dbg.nonce).toNat

/-- The device's hardware identity (R384, R401). -/
def deviceId (s : State) : List Nat := rollHwid 8 0 s

/-- A pass meets every condition of R384. -/
def passOk (p : List Nat) (s : State) : Bool :=
  let pub := (p.drop 64).take 96
  decide (p.take 5 = [0x44, 0x58, 0x48, 0x50, 1]) && decide ((p.drop 8).take 16 = deviceId s) && decide ((p.drop 24).take 16 = nonceBytes s)
    && rkAccepts pub s && Config.ecdsaOk pub (p.take 160) ((p.drop 160).take 96) && decide (timeUnits s < leAt p 40 8 * secUnit)

/-- A pass comes into force; it replaces the one before it. -/
def passTake (p : List Nat) (s : State) : State :=
  let s := passEnd s
  let s := ((s.sf F.DBG_HP_STAT_ACTIVE 0 1).sf F.DBG_HP_STAT_SCOPE 0 (p.getD 5 0 % 8)).sf F.DBG_HP_STAT_PARTS 0 (leAt p 6 2)
  { s with dbg := { s.dbg with pass := some { notAfter := leAt p 40 8, cores := leAt p 48 8 } } }

/-- PRESENT: a new nonce is drawn either way; a refusal is logged. -/
def present (p : List Nat) (s : State) : MonAns :=
  let fresh : State → State := fun s => { s with dbg := { s.dbg with nonce := s.dbg.nonce + 1 } }
  if passOk p s then (0, [], fresh (passTake p s))
  else (0x21, [], fresh (logViol .monitor 4 (regAddr .DBG_HP_STAT 0) 0x21 1 0 s))

/-- A HALLPASS request with SUB `sub` and `len` bytes after it. -/
def hallpassCmd (t : Nat) (b : List Nat) (sub len : Nat) (f : List Nat → State → MonAns) (s : State) : State :=
  if (monBytes t b s).getD 12 0 ≠ sub ∨ leAt (monBytes t b s) 8 2 = 0 then s
  else monCmd t 12 b (fun _ => 1 + len) (fun pl s => f (pl.drop 1) s) s

/-- HALLPASS_NONCE, HALLPASS_PRESENT, HALLPASS_WITHDRAW. -/
def hallpassNonce (t : Nat) (b : List Nat) (s : State) : State := hallpassCmd t b 0 0 (fun _ s => (0, nonceBytes s, s)) s
def hallpassPresent (t : Nat) (b : List Nat) (s : State) : State := hallpassCmd t b 1 256 present s
def hallpassWithdraw (t : Nat) (b : List Nat) (s : State) : State := hallpassCmd t b 2 0 (fun _ s => (0, [], passEnd s)) s

/-! ### Frames that are no request -/

/-- A frame whose command is none of Table DBG-2, or a HALLPASS whose SUB is. -/
def frameReserved (b : List Nat) : Bool :=
  let cmd := b.getD 6 0
  decide (cmd = 0) || decide (12 < cmd) || (decide (cmd = 12) && (decide (leAt b 8 2 = 0) || decide (2 < b.getD 12 0)))

/-- A frame discarded (R360, R362). -/
def badFrame (t : Nat) (s : State) : State :=
  let s := s.bump F.DBG_MBX_STAT_BADFRM 0 1
  if t = 0 then s.sf F.DBG_MBX_STAT_BUSY 0 0 else s

/-- BAD_MONITOR_FRAME: `busy` says that it arrives while its transport's request executes; a reserved CMD is answered MALFORMED. -/
def badMonitorFrame (t : Nat) (b : List Nat) (busy : Bool) (s : State) : State :=
  let b := monBytes t b s
  if !(monServes t s) then s
  else if busy ∧ t ≠ 0 then s.bump F.DBG_MBX_STAT_BADFRM 0 1
  else if !(frameOk b) then badFrame t s
  else if frameReserved b then monAnswer t b (fun s => malformed s) s
  else s

end Machine
end Sys2Proof
end

