-- ==== Sys2Proof/Machine/ExecMonitor.lean ====
section
/-! DEFINITION. The commands of the monitor. -/
namespace Sys2Proof
namespace Machine

/-- MON_HALT (R363). -/
def execMonHalt (t : Fin 3) (b : List Byte) (s : State) : Out :=
  .next (monHalt t (b.map (·.toNat)) s)

/-- MON_RESUME (R370). -/
def execMonResume (t : Fin 3) (b : List Byte) (s : State) : Out :=
  .next (monResume t (b.map (·.toNat)) s)

/-- MON_STEP (R369). -/
def execMonStep (t : Fin 3) (b : List Byte) (ended : Bool) (s : State) : Out :=
  .next (monStep t (b.map (·.toNat)) ended s)

/-- MON_READ (R364). -/
def execMonRead (t : Fin 3) (b : List Byte) (s : State) : Out :=
  .next (monRead t (b.map (·.toNat)) s)

/-- MON_WRITE (R364). -/
def execMonWrite (t : Fin 3) (b : List Byte) (s : State) : Out :=
  .next (monWrite t (b.map (·.toNat)) s)

/-- MON_PEEK (R365). -/
def execMonPeek (t : Fin 3) (b : List Byte) (s : State) : Out :=
  .next (monPeek t (b.map (·.toNat)) s)

/-- MON_SETBP (R363). -/
def execMonSetbp (t : Fin 3) (b : List Byte) (s : State) : Out :=
  .next (monSetbp t (b.map (·.toNat)) s)

/-- MON_SETWP (R363). -/
def execMonSetwp (t : Fin 3) (b : List Byte) (s : State) : Out :=
  .next (monSetwp t (b.map (·.toNat)) s)

/-- MON_TRACECFG (R378). -/
def execMonTracecfg (t : Fin 3) (b : List Byte) (s : State) : Out :=
  .next (monTracecfg t (b.map (·.toNat)) s)

/-- MON_FREEZE (R363). -/
def execMonFreeze (t : Fin 3) (b : List Byte) (s : State) : Out :=
  .next (monFreeze t (b.map (·.toNat)) s)

/-- MON_CAPTURE (R363). -/
def execMonCapture (t : Fin 3) (b : List Byte) (s : State) : Out :=
  .next (monCapture t (b.map (·.toNat)) s)

/-- HALLPASS_NONCE (R384). -/
def execHallpassNonce (t : Fin 3) (b : List Byte) (s : State) : Out :=
  .next (hallpassNonce t (b.map (·.toNat)) s)

/-- HALLPASS_PRESENT (R384). -/
def execHallpassPresent (t : Fin 3) (b : List Byte) (s : State) : Out :=
  .next (hallpassPresent t (b.map (·.toNat)) s)

/-- HALLPASS_WITHDRAW (R385). -/
def execHallpassWithdraw (t : Fin 3) (b : List Byte) (s : State) : Out :=
  .next (hallpassWithdraw t (b.map (·.toNat)) s)

/-- BAD_MONITOR_FRAME (R360). -/
def execBadMonitorFrame (t : Fin 3) (b : List Byte) (busy : Bool) (s : State) : Out :=
  .next (badMonitorFrame t (b.map (·.toNat)) busy s)

end Machine
end Sys2Proof
end

