-- ==== Sys2Proof/Machine/ExecNet.lean ====
section
/-! DEFINITION. The commands of the transaction network, the doorbells and the host apertures. -/
namespace Sys2Proof
namespace Machine

/-- NET_READ (R323). -/
def execNetRead (rq : Requester) (k : Pkt) (len : Byte) (peek : Bool) (force : Bool) (fetch : Bool) (badOp : Bool) (s : State) : Out :=
  .next (netRead rq k (len.toNat + 1) peek force fetch badOp s)

/-- NET_WRITE (R323). -/
def execNetWrite (rq : Requester) (k : Pkt) (be : BitVec 64) (data : List Byte) (s : State) : Out :=
  .next (netWrite rq k be.toNat (data.map (·.toNat)) s)

/-- NET_WRITE_P (R323). -/
def execNetWriteP (rq : Requester) (k : Pkt) (be : BitVec 64) (data : List Byte) (s : State) : Out :=
  .next (netWriteP rq k be.toNat (data.map (·.toNat)) s)

/-- NET_AMO (R297). -/
def execNetAmo (rq : Requester) (k : Pkt) (op : AmoOp) (wide : Bool) (v : BitVec 64) (s : State) : Out :=
  .next (netAmo rq k op wide v.toNat s)

/-- RESPONSE (R325). -/
def execResponse (rq : Requester) (tag : Byte) (s : State) : Out :=
  .next (response rq tag.toNat s)

/-- REQUEST_TIMEOUT (R328). -/
def execRequestTimeout (rq : Requester) (tag : Byte) (s : State) : Out :=
  .next (requestTimeout rq tag.toNat s)

/-- DOORBELL (R334). -/
def execDoorbell (f : Fin 64) (q : Fin 16384) (v : Word) (s : State) : Out :=
  .next (doorbell f q v.toNat s)

/-- APERTURE_REQUEST (R335). -/
def execApertureRequest (rq : Requester) (f : Fin 64) (off : BitVec 40) (write : Bool) (data : List Byte) (s : State) : Out :=
  .next (apertureRequest rq f off.toNat write (data.map (·.toNat)) s)

end Machine
end Sys2Proof
end

