-- ==== Sys2Proof/Machine/ExecPartCmd.lean ====
section
/-! DEFINITION. The partition commands, commits, the fault log's tail and the DONE pin. -/
namespace Sys2Proof
namespace Machine

/-- LOAD (R78). -/
def execLoad (rq : Requester) (p : Fin 16) (s : State) : Out :=
  .next (cmdLoad rq p s)

/-- ARM (R78). -/
def execArm (rq : Requester) (p : Fin 16) (arg : BitVec 16) (s : State) : Out :=
  .next (cmdArm rq p arg.toNat s)

/-- ARM_DONE (R76). -/
def execArmDone (p : Fin 16) (s : State) : Out :=
  .next (armDone p s)

/-- START (R78). -/
def execStart (rq : Requester) (p : Fin 16) (arg : BitVec 16) (s : State) : Out :=
  .next (cmdStart rq p arg.toNat s)

/-- STOP_AT_BELL (R78). -/
def execStopAtBell (rq : Requester) (p : Fin 16) (arg : BitVec 16) (s : State) : Out :=
  .next (cmdStop rq p arg.toNat s)

/-- RESUME (R78). -/
def execResume (rq : Requester) (p : Fin 16) (arg : BitVec 16) (s : State) : Out :=
  .next (cmdResume rq p arg.toNat s)

/-- FREEZE_NOW (R78). -/
def execFreezeNow (rq : Requester) (p : Fin 16) (arg : BitVec 16) (s : State) : Out :=
  .next (cmdFreezeNow rq p arg.toNat s)

/-- CAPTURE (R78). -/
def execCapture (rq : Requester) (p : Fin 16) (arg : BitVec 16) (s : State) : Out :=
  .next (cmdCapture rq p arg.toNat s)

/-- REWIND (R78). -/
def execRewind (rq : Requester) (p : Fin 16) (arg : BitVec 16) (s : State) : Out :=
  .next (cmdRewind rq p arg.toNat s)

/-- ABORT (R78). -/
def execAbort (rq : Requester) (p : Fin 16) (arg : BitVec 16) (s : State) : Out :=
  .next (cmdAbort rq p arg.toNat s)

/-- UNLOAD (R78). -/
def execUnload (rq : Requester) (p : Fin 16) (arg : BitVec 16) (s : State) : Out :=
  .next (cmdUnload rq p arg.toNat s)

/-- PART_COMMIT (R82). -/
def execPartCommit (rq : Requester) (p : Fin 16) (cancel : Bool) (s : State) : Out :=
  .next (partCommit rq p cancel s)

/-- PART_COMMIT_CANCEL (R83). -/
def execPartCommitCancel (rq : Requester) (p : Fin 16) (s : State) : Out :=
  .next (partCommitCancel rq p s)

/-- FAULT_TAIL_WRITE (R174). -/
def execFaultTailWrite (rq : Requester) (p : Fin 16) (v : BitVec 32) (s : State) : Out :=
  .next (faultTailWrite rq p v.toNat s)

/-- DONE_SENSED (R183). -/
def execDoneSensed (high : Bool) (s : State) : Out :=
  .next (doneSensed high s)

end Machine
end Sys2Proof
end

