-- ==== Sys2Proof/Machine/ExecPins.lean ====
section
/-! DEFINITION. The commands of the pins. -/
namespace Sys2Proof
namespace Machine

/-- PIN_CFG_WRITE (R455). -/
def execPinCfgWrite (rq : Requester) (g : Fin 96) (v : BitVec 32) (s : State) : Out :=
  .next (pinCfgWrite rq g v.toNat s)

/-- PIO_FUSE_CMD (R459). -/
def execPioFuseCmd (rq : Requester) (pin : BitVec 8) (value : BitVec 2) (s : State) : Out :=
  .next (pioFuseCmd rq pin.toNat value.toNat s)

/-- PIO_LOCK_KEY (R460). -/
def execPioLockKey (rq : Requester) (key : BitVec 8) (s : State) : Out :=
  .next (pioLockKey rq key.toNat s)

/-- PIO_LOCK (R460). -/
def execPioLock (rq : Requester) (s : State) : Out :=
  .next (pioLock rq s)

/-- BANK_SUPPLY_CHANGE (R451). -/
def execBankSupplyChange (b : Fin 4) (good : Bool) (v12 : Bool) (s : State) : Out :=
  .next (bankSupply b good v12 s)

/-- JTAG_INSTRUCTION (R462). -/
def execJtagInstruction (ir : BitVec 8) (s : State) : Out :=
  .next (jtagInstruction ir.toNat s)

end Machine
end Sys2Proof
end

