-- ==== Sys2Proof/Machine/ExecPower.lean ====
section
/-! DEFINITION. The commands of clocks, temperature and power. -/
namespace Sys2Proof
namespace Machine

/-- CLOCK_GOOD (R436). -/
def execClockGood (d : Fin 421) (s : State) : Out :=
  .next (clockGoodUp d s)

/-- CLOCK_FAIL (R436). -/
def execClockFail (d : Fin 421) (s : State) : Out :=
  .next (clockFail d s)

/-- TEMP_SAMPLE (R440). -/
def execTempSample (t : List Byte) (s : State) : Out :=
  .next (tempSample (t.map (·.toNat)) s)

/-- THROTTLE_ADJUST (R440). -/
def execThrottleAdjust (s : State) : Out :=
  .next (throttleAdjust s)

/-- PWR_RECESS (R443). -/
def execPwrRecess (rq : Requester) (s : State) : Out :=
  .next (pwrRecess rq s)

/-- PWR_WAKE (R444). -/
def execPwrWake (rq : Requester) (s : State) : Out :=
  .next (pwrWake rq s)

/-- GPIO_WAKE (R444). -/
def execGpioWake (s : State) : Out :=
  .next (gpioWake s)

/-- RECESS_EXIT_DONE (R444). -/
def execRecessExitDone (s : State) : Out :=
  .next (recessExit s)

/-- ETHERNET_FRAME (R444). -/
def execEthernetFrame (s : State) : Out :=
  .next (ethernetFrame s)

end Machine
end Sys2Proof
end

