-- ==== Sys2Proof/Machine/ExecRel.lean ====
section
/-! DEFINITION. The commands of the reliability chapter. -/
namespace Sys2Proof
namespace Machine

/-- CLASS_IMMEDIATE_SUBSTITUTE (R393). -/
def execClassImmediateSubstitute (n : Fin 256) (s : State) : Out :=
  .next (classImmediate n s)

/-- DECLARE_DEAD (R391). -/
def execDeclareDead (kind : Fin 7) (u : BitVec 18) (ground : Fin 7) (s : State) : Out :=
  .next (declareDead kind u.toNat ground s)

/-- EPOCH_STALE (R391). -/
def execEpochStale (kind : Fin 7) (u : BitVec 18) (role : BitVec 18) (ep : BitVec 16) (parts : BitVec 16) (s : State) : Out :=
  .next (epochStale kind u.toNat role.toNat ep.toNat parts.toNat s)

/-- THRESHOLD_REACHED (R407). -/
def execThresholdReached (k : Fin 9) (count : BitVec 16) (u : BitVec 26) (m : Fin 15) (a : BitVec 40) (s : State) : Out :=
  .next (thresholdReached k count.toNat u.toNat m a.toNat s)

/-- SELFTEST (R400). -/
def execSelftest (rq : Requester) (kind : BitVec 4) (unit : BitVec 18) (s : State) : Out :=
  .next (selftest rq kind.toNat unit.toNat s)

/-- SELFTEST_DONE (R400). -/
def execSelftestDone (pass : Bool) (s : State) : Out :=
  .next (selftestDone pass s)

/-- ENROL (R400). -/
def execEnrol (rq : Requester) (kind : BitVec 4) (unit : BitVec 18) (s : State) : Out :=
  .next (enrol rq kind.toNat unit.toNat s)

/-- ECC_SELFTEST_START (R406). -/
def execEccSelftestStart (rq : Requester) (s : State) : Out :=
  .next (eccStart rq s)

/-- ECC_SELFTEST_DONE (R406). -/
def execEccSelftestDone (fails : List (Nat × Nat × Nat)) (s : State) : Out :=
  .next (eccDone fails s)

/-- TOKEN_RENEW (R408). -/
def execTokenRenew (ix : Fin 2) (e : BitVec 16) (s : State) : Out :=
  .next (tokenRenew ix e.toNat s)

/-- HEARTBEAT (R409). -/
def execHeartbeat (ix : Fin 2) (path : Fin 2) (s : State) : Out :=
  .next (heartbeat ix path s)

/-- HEARTBEAT_TIMEOUT (R411). -/
def execHeartbeatTimeout (ix : Fin 2) (miss : BitVec 2) (s : State) : Out :=
  .next (heartbeatTimeout ix miss.toNat s)

/-- PROCTOR_WATCHDOG_EXPIRY (R410). -/
def execProctorWatchdogExpiry (ix : Fin 2) (s : State) : Out :=
  .next (proctorStops ix s)

/-- LOCKSTEP_MISMATCH (R410). -/
def execLockstepMismatch (ix : Fin 2) (s : State) : Out :=
  .next (proctorStops ix s)

/-- FAIL_MSG (R411). -/
def execFailMsg (ix : Fin 2) (s : State) : Out :=
  .next (failMsg ix s)

/-- LOAD_STANDBY (R413). -/
def execLoadStandby (rq : Requester) (s : State) : Out :=
  .next (loadStandby rq s)

/-- SWITCH (R413). -/
def execSwitch (rq : Requester) (s : State) : Out :=
  .next (switchProctor rq s)

/-- RELOAD (R416). -/
def execReload (rq : Requester) (ix : Fin 2) (s : State) : Out :=
  .next (reload rq ix s)

/-- PROCTOR_FIRMWARE_LOADED (R416). -/
def execProctorFirmwareLoaded (ix : Fin 2) (a : List Byte) (b : List Byte) (host : Bool) (ecc : Bool) (entry : BitVec 48) (s : State) : Out :=
  .next (fwLoaded ix (a.map (·.toNat)) (b.map (·.toNat)) host ecc entry.toNat s)

/-- HALL_MONITOR_TAKEOVER (R415). -/
def execHallMonitorTakeover (s : State) : Out :=
  .next (hallTakeover s)

end Machine
end Sys2Proof
end

