-- ==== Sys2Proof/Machine/ExecReset.lean ====
section
/-! DEFINITION. The commands of resets and of the release sequence. -/
namespace Sys2Proof
namespace Machine

/-- BOOT_PUSH (R179). -/
def execBootPush (rq : Requester) (len : BitVec 32) (s : State) : Out :=
  .next (bootPush rq len.toNat s)

/-- LC_ADVANCE_DONE (R193). -/
def execLcAdvanceDone (s : State) : Out :=
  .next (lcAdvanceDone s)

/-- CORE_WATCHDOG_EXPIRY (R306). -/
def execCoreWatchdogExpiry (c : Fin 64) (s : State) : Out :=
  .next (coreWatchdog c s)

/-- POWER_ON (R420). -/
def execPowerOn (s : State) : Out :=
  .next (powerOn s)

/-- BROWN_OUT (R439). -/
def execBrownOut (r : Fin 11) (s : State) : Out :=
  .next (brownOut r s)

/-- RAIL_GOOD (R439). -/
def execRailGood (r : Fin 11) (s : State) : Out :=
  .next (railGood r s)

/-- RESET_N_ASSERT (R420). -/
def execResetNAssert (s : State) : Out :=
  .next (resetNAssert s)

/-- RESET_N_RELEASE (R422). -/
def execResetNRelease (s : State) : Out :=
  .next (resetNRelease s)

/-- DEVICE_WATCHDOG_EXPIRY (R429). -/
def execDeviceWatchdogExpiry (s : State) : Out :=
  .next (dwdogExpiry s)

/-- DWDOG_KICK (R429). -/
def execDwdogKick (rq : Requester) (key : BitVec 8) (s : State) : Out :=
  .next (dwdogKick rq key.toNat s)

/-- DWDOG_CFG_WRITE (R429). -/
def execDwdogCfgWrite (rq : Requester) (v : BitVec 32) (s : State) : Out :=
  .next (dwdogCfg rq v.toNat s)

/-- SWREQ (R420). -/
def execSwreq (rq : Requester) (lvl : BitVec 2) (s : State) : Out :=
  .next (swReq rq lvl.toNat s)

/-- DBGREQ_PULSE (R420). -/
def execDbgreqPulse (rq : Requester) (s : State) : Out :=
  .next (dbgreqPulse rq s)

/-- DBGREQ_HOLD (R420). -/
def execDbgreqHold (rq : Requester) (hold : Bool) (s : State) : Out :=
  .next (dbgreqHold rq hold s)

/-- RST_UNIT_WRITE (R427). -/
def execRstUnitWrite (rq : Requester) (j : Fin 11) (v : BitVec 32) (s : State) : Out :=
  .next (rstUnitWrite rq j v.toNat s)

/-- RESET_SOURCE_TIMEOUT (R420). -/
def execResetSourceTimeout (src : Fin 8) (c : Fin 64) (s : State) : Out :=
  .next (sourceTimeout src c s)

/-- RELEASE_STEP (R423). -/
def execReleaseStep (boot : BitVec 3) (clk : BitVec 2) (s : State) : Out :=
  .next (releaseStep boot.toNat clk.toNat s)

/-- WRITE_PULSE_END (R425). -/
def execWritePulseEnd (pio : Bool) (s : State) : Out :=
  .next (writePulseEnd pio s)

/-- MTVEC_FETCH_FAULT (R306). -/
def execMtvecFetchFault (c : Fin 64) (s : State) : Out :=
  .next (mtvecFault c s)

/-- HBM_STACK_TRAINED (R179). -/
def execHbmStackTrained (s : State) : Out :=
  .next (hbmStackTrained s)

end Machine
end Sys2Proof
end

