-- ==== Sys2Proof/Machine/ExecStep.lean ====
section
/-! DEFINITION. The commands that are steps of a partition, or come with one. -/
namespace Sys2Proof
namespace Machine

/-- STEP (R37). -/
def execStep (p : Fin 16) (bad : List (Fin 256)) (s : State) : Out :=
  .next (partStep p (bad.map Fin.val) s)

/-- GAP_STEP (R64). -/
def execGapStep (p : Fin 16) (s : State) : Out :=
  .next (gapStep p s)

/-- FAULT_REQUEST_ARRIVAL (R163). -/
def execFaultRequestArrival (p : Fin 16) (s : State) : Out :=
  .next (faultRequestArrival p s)

/-- FREEZE_POINT (R114). -/
def execFreezePoint (p : Fin 16) (s : State) : Out :=
  .next (freezePoint p s)

/-- RESUME_POINT (R115). -/
def execResumePoint (p : Fin 16) (s : State) : Out :=
  .next (resumePointEvent p s)

/-- CHAIN_RESUME_DELAY_EXPIRY (R126). -/
def execChainResumeDelayExpiry (p : Fin 16) (s : State) : Out :=
  .next (chainResumeEvent p s)

/-- DRAIN_DONE (R211). -/
def execDrainDone (p : Fin 16) (s : State) : Out :=
  .next (drainDone p s)

/-- REWIND_DONE (R219). -/
def execRewindDone (p : Fin 16) (s : State) : Out :=
  .next (rewindDone p s)

/-- DESIGN_TRIGGER (R224). -/
def execDesignTrigger (p : Fin 16) (s : State) : Out :=
  .next (designTriggerEvent p s)

/-- BINDING_PRESENT (R245). -/
def execBindingPresent (p : Fin 16) (s : State) : Out :=
  .next (bindingEvent p s)

end Machine
end Sys2Proof
end

