-- ==== Sys2Proof/Machine/ExecStopwatch.lean ====
section
/-! DEFINITION. The commands of the stopwatch and of the host mailboxes. -/
namespace Sys2Proof
namespace Machine

/-- STW_EDGE (R234). -/
def execStwEdge (ix : Fin 64) (rising : Bool) (t : BitVec 64) (s : State) : Out :=
  .next (stwEdge ix rising t.toNat s)

/-- RECORD_END (R239). -/
def execRecordEnd (ix : Fin 64) (s : State) : Out :=
  .next (recordEnd ix s)

/-- TDC_HANDOVER (R236). -/
def execTdcHandover (b : Fin 2) (drift : Option Int) (s : State) : Out :=
  .next (tdcHandover b drift s)

/-- TDC_CAL_DONE (R236). -/
def execTdcCalDone (t : Fin 68) (ok : Bool) (s : State) : Out :=
  .next (tdcCalDone t ok s)

/-- TRIGGER_FIRE (R249). -/
def execTriggerFire (n : Fin 16) (s : State) : Out :=
  .next (triggerFire n s)

/-- TRIGGER_TIMEOUT (R248). -/
def execTriggerTimeout (n : Fin 16) (s : State) : Out :=
  .next (triggerTimeout n s)

/-- INSTR_LINE_RELEASE (R249). -/
def execInstrLineRelease (n : Fin 16) (held : Bool) (s : State) : Out :=
  .next (instrLineRelease n held s)

/-- INSTR_LINE_EDGE (R251). -/
def execInstrLineEdge (l : Fin 8) (rising : Bool) (t : BitVec 64) (s : State) : Out :=
  .next (instrLineEdge l rising t.toNat s)

/-- STW_IN_ENABLE (R253). -/
def execStwInEnable (rq : Requester) (ix : Fin 64) (s : State) : Out :=
  .next (stwInEnable rq ix s)

/-- STW_IN_ARM (R253). -/
def execStwInArm (rq : Requester) (ix : Fin 64) (s : State) : Out :=
  .next (stwInArm rq ix s)

/-- STW_IN_STOP (R253). -/
def execStwInStop (rq : Requester) (ix : Fin 64) (s : State) : Out :=
  .next (stwInStop rq ix s)

/-- STW_IN_DISABLE (R253). -/
def execStwInDisable (rq : Requester) (ix : Fin 64) (s : State) : Out :=
  .next (stwInDisable rq ix s)

/-- STW_TRG_ARM (R253). -/
def execStwTrgArm (rq : Requester) (n : Fin 16) (s : State) : Out :=
  .next (stwTrgArm rq n s)

/-- STW_TRG_DISARM (R253). -/
def execStwTrgDisarm (rq : Requester) (n : Fin 16) (s : State) : Out :=
  .next (stwTrgDisarm rq n s)

/-- STW_TRG_FORCE (R253). -/
def execStwTrgForce (rq : Requester) (n : Fin 16) (s : State) : Out :=
  .next (stwTrgForce rq n s)

/-- CAL_START (R253). -/
def execCalStart (rq : Requester) (s : State) : Out :=
  .next (calStart rq s)

/-- CAL_STOP (R253). -/
def execCalStop (rq : Requester) (s : State) : Out :=
  .next (calStop rq s)

/-- TB_LATCH (R233). -/
def execTbLatch (rq : Requester) (s : State) : Out :=
  .next (tbLatch rq s)

/-- MAILBOX_POST (R342). -/
def execMailboxPost (rq : Requester) (g : Fin 64) (hi : BitVec 32) (s : State) : Out :=
  .next (mailboxPost rq g hi.toNat s)

/-- TDC_SELF_CHECK_FAIL (R237). -/
def execTdcSelfCheckFail (t : Fin 68) (s : State) : Out :=
  .next (tdcSelfCheckFail t s)

end Machine
end Sys2Proof
end

