-- ==== Sys2Proof/Machine/ExecTempo.lean ====
section
/-! DEFINITION. The commands of tempo. -/
namespace Sys2Proof
namespace Machine

/-- TEMPO_INPUT_EDGE (R71). -/
def execTempoInputEdge (ix : Fin 4) (rising : Bool) (s : State) : Out :=
  .next (tempoInputEdge ix rising s)

/-- GENERATOR_TICK (R72). -/
def execGeneratorTick (g : Fin 4) (s : State) : Out :=
  .next (generatorTick g s)

/-- CHAIN_TEMPO (R279). -/
def execChainTempo (ix : Fin 8) (bell : BitVec 48) (s : State) : Out :=
  .next (whileAlive (2 * ix) (chainTempo ix bell.toNat) s)

/-- BELL_START (R67). -/
def execBellStart (p : Fin 16) (s : State) : Out :=
  .next (bellStart p s)

/-- TEMPO_OUT_FALL (R73). -/
def execTempoOutFall (s : State) : Out :=
  .next (tempoOutFall s)

/-- TEMPO_STALL (R70). -/
def execTempoStall (p : Fin 16) (s : State) : Out :=
  .next (tempoStall p s)

/-- GEN_CTL_WRITE (R72). -/
def execGenCtlWrite (rq : Requester) (g : Fin 4) (v : BitVec 32) (s : State) : Out :=
  .next (genCtlWrite rq g v.toNat s)

end Machine
end Sys2Proof
end

