-- ==== Sys2Proof/Machine/ExecTime.lean ====
section
/-! DEFINITION. The commands of device time. -/
namespace Sys2Proof
namespace Machine

/-- TIME_INCREMENT (R347). -/
def execTimeIncrement (s : State) : Out :=
  .next (timeAdvance s)

/-- TIME_STEP (R350). -/
def execTimeStep (rq : Requester) (s : State) : Out :=
  .next (timeStep rq s)

/-- TIME_REARM (R350). -/
def execTimeRearm (rq : Requester) (s : State) : Out :=
  .next (timeRearm rq s)

/-- TIM_RATE_WRITE (R347). -/
def execTimRateWrite (rq : Requester) (v : BitVec 32) (s : State) : Out :=
  .next (timRateWrite rq v.toNat s)

/-- PTP_EVENT_TX (R354). -/
def execPtpEventTx (kind : BitVec 4) (seqId : BitVec 16) (ipv6 : Bool) (s : State) : Out :=
  .next (ptpTx kind.toNat seqId.toNat ipv6 s)

/-- PTP_EVENT_RX (R354). -/
def execPtpEventRx (kind : BitVec 4) (seqId : BitVec 16) (s : State) : Out :=
  .next (ptpRx kind.toNat seqId.toNat s)

/-- TXTS_POP (R354). -/
def execTxtsPop (rq : Requester) (s : State) : Out :=
  .next (txtsPop rq s)

/-- CHAIN_TIME_MARKER (R355). -/
def execChainTimeMarker (ix : Fin 8) (m : BitVec 32) (good : Bool) (s : State) : Out :=
  .next (whileAlive (2 * ix) (chainMarker ix m.toNat good) s)

/-- PTM_TRIGGER (R357). -/
def execPtmTrigger (rq : Requester) (s : State) : Out :=
  .next (ptmTrigger rq s)

/-- PTM_PERIOD (R357). -/
def execPtmPeriod (s : State) : Out :=
  .next (ptmPeriod s)

/-- PTM_RESPONSE (R357). -/
def execPtmResponse (full : Bool) (mst : BitVec 64) (pdly : BitVec 32) (s : State) : Out :=
  .next (ptmResponse full mst.toNat pdly.toNat s)

/-- PTM_TIMEOUT (R357). -/
def execPtmTimeout (s : State) : Out :=
  .next (ptmTimeout s)

end Machine
end Sys2Proof
end

