-- ==== Sys2Proof/Machine/ExecTrace.lean ====
section
/-! DEFINITION. The commands of the capture, trace and replay chapter. -/
namespace Sys2Proof
namespace Machine

/-- TRC_ARM (R230). -/
def execTrcArm (rq : Requester) (p : Fin 16) (s : State) : Out :=
  .next (trcArm rq p s)

/-- TRC_STOP (R230). -/
def execTrcStop (rq : Requester) (p : Fin 16) (s : State) : Out :=
  .next (trcStop rq p s)

/-- TRC_FORCE (R230). -/
def execTrcForce (rq : Requester) (p : Fin 16) (s : State) : Out :=
  .next (trcForce rq p s)

end Machine
end Sys2Proof
end

