-- ==== Sys2Proof/Machine/ExecTutor.lean ====
section
/-! DEFINITION. The commands of the tutor cores and the dispatcher. -/
namespace Sys2Proof
namespace Machine

/-- DX_BELLWAIT (R299). -/
def execDxBellwait (c : Fin 64) (m : Priv) (rd : Fin 32) (v1 : BitVec 64) (v2 : BitVec 64) (s : State) : Out :=
  .next (dxBellwait c m rd v1.toNat v2.toNat s)

/-- BELLWAIT_WAKE (R299). -/
def execBellwaitWake (c : Fin 64) (reason : Fin 4) (s : State) : Out :=
  .next (bellwaitWake c reason s)

/-- DX_DESKPOP (R300). -/
def execDxDeskpop (c : Fin 64) (m : Priv) (rd : Fin 32) (v1 : BitVec 64) (s : State) : Out :=
  .next (dxDeskpop c m rd v1.toNat s)

/-- DESKPOP_TIMEOUT (R300). -/
def execDeskpopTimeout (c : Fin 64) (irq : Bool) (s : State) : Out :=
  .next (deskpopTimeout c irq s)

/-- DX_DESKDONE (R301). -/
def execDxDeskdone (c : Fin 64) (m : Priv) (rd : Fin 32) (v1 : BitVec 64) (s : State) : Out :=
  .next (dxDeskdone c m rd v1.toNat s)

/-- DX_QPUSH (R302). -/
def execDxQpush (c : Fin 64) (m : Priv) (rd : Fin 32) (v1 : BitVec 64) (v2 : BitVec 64) (s : State) : Out :=
  .next (dxQpush c m rd v1.toNat v2.toNat s)

/-- DX_TICK (R303). -/
def execDxTick (c : Fin 64) (m : Priv) (rd : Fin 32) (v1 : BitVec 64) (s : State) : Out :=
  .next (dxTick c m rd v1.toNat s)

/-- QUEUE_TAIL_WRITE (R308). -/
def execQueueTailWrite (rq : Requester) (q : Fin 16384) (v : BitVec 32) (s : State) : Out :=
  .next (queueTailWrite rq q v.toNat s)

/-- Q_ENABLE (R311). -/
def execQEnable (rq : Requester) (q : Fin 16384) (s : State) : Out :=
  .next (qEnable rq q s)

/-- Q_PAUSE (R311). -/
def execQPause (rq : Requester) (q : Fin 16384) (s : State) : Out :=
  .next (qPause rq q s)

/-- Q_UNPAUSE (R311). -/
def execQUnpause (rq : Requester) (q : Fin 16384) (s : State) : Out :=
  .next (qUnpause rq q s)

/-- Q_DISABLE (R311). -/
def execQDisable (rq : Requester) (q : Fin 16384) (s : State) : Out :=
  .next (qDisable rq q s)

/-- Q_FLUSH (R311). -/
def execQFlush (rq : Requester) (q : Fin 16384) (s : State) : Out :=
  .next (qFlush rq q s)

/-- Q_CFG_NEXT_WRITE (R312). -/
def execQCfgNextWrite (rq : Requester) (q : Fin 16384) (w : BitVec 32) (s : State) : Out :=
  .next (qCfgNextWrite rq q w.toNat s)

/-- TASK_PLACE (R313). -/
def execTaskPlace (s : State) : Out :=
  .next (taskPlace s)

/-- TICK_SOURCE_TICK (R318). -/
def execTickSourceTick (n : Fin 4) (s : State) : Out :=
  .next (tickSource n s)

/-- CORE_CFG_WRITE (R316). -/
def execCoreCfgWrite (rq : Requester) (c : Fin 64) (en : Bool) (s : State) : Out :=
  .next (coreCfgWrite rq c en s)

/-- CORE_TRACE_STOP (R379). -/
def execCoreTraceStop (c : Fin 64) (s : State) : Out :=
  .next (coreTraceStop c s)

end Machine
end Sys2Proof
end

