-- ==== Sys2Proof/Machine/Dispatch.lean ====
section
/-! DEFINITION. One arm per command: its meaning, or its refusal by name. -/
namespace Sys2Proof
namespace Machine

/-- The effect of a command on everything but the queue. -/
def exec (i : Instr) (s : State) : Host.Outcome State Fault Refusal :=
  match i with
  | .registerWrite rq r inst v => Sys2Proof.Machine.execRegisterWrite rq r inst v s
  | .rclRead rq r ix peek => Sys2Proof.Machine.execRclRead rq r ix peek s
  | .latchingRead rq r ix peek => Sys2Proof.Machine.execLatchingRead rq r ix peek s
  | .step p bad => Sys2Proof.Machine.execStep p bad s
  | .gapStep p => Sys2Proof.Machine.execGapStep p s
  | .tempoInputEdge ix rising => Sys2Proof.Machine.execTempoInputEdge ix rising s
  | .generatorTick g => Sys2Proof.Machine.execGeneratorTick g s
  | .chainTempo ix bell => Sys2Proof.Machine.execChainTempo ix bell s
  | .bellStart p => Sys2Proof.Machine.execBellStart p s
  | .tempoOutFall => Sys2Proof.Machine.execTempoOutFall s
  | .tempoStall p => Sys2Proof.Machine.execTempoStall p s
  | .genCtlWrite rq g v => Sys2Proof.Machine.execGenCtlWrite rq g v s
  | .load rq p => Sys2Proof.Machine.execLoad rq p s
  | .arm rq p arg => Sys2Proof.Machine.execArm rq p arg s
  | .armDone p => Sys2Proof.Machine.execArmDone p s
  | .start rq p arg => Sys2Proof.Machine.execStart rq p arg s
  | .stopAtBell rq p arg => Sys2Proof.Machine.execStopAtBell rq p arg s
  | .resume rq p arg => Sys2Proof.Machine.execResume rq p arg s
  | .freezeNow rq p arg => Sys2Proof.Machine.execFreezeNow rq p arg s
  | .capture rq p arg => Sys2Proof.Machine.execCapture rq p arg s
  | .rewind rq p arg => Sys2Proof.Machine.execRewind rq p arg s
  | .abort rq p arg => Sys2Proof.Machine.execAbort rq p arg s
  | .unload rq p arg => Sys2Proof.Machine.execUnload rq p arg s
  | .partCommit rq p cancel => Sys2Proof.Machine.execPartCommit rq p cancel s
  | .partCommitCancel rq p => Sys2Proof.Machine.execPartCommitCancel rq p s
  | .faultRequestArrival p => Sys2Proof.Machine.execFaultRequestArrival p s
  | .faultTailWrite rq p v => Sys2Proof.Machine.execFaultTailWrite rq p v s
  | .freezeRegistration p b => Sys2Proof.Machine.execFreezeRegistration p b s
  | .freezePoint p => Sys2Proof.Machine.execFreezePoint p s
  | .resumePoint p => Sys2Proof.Machine.execResumePoint p s
  | .lateItemArrival p b cause src => Sys2Proof.Machine.execLateItemArrival p b cause src s
  | .bridgeControlWordRx b w starts => Sys2Proof.Machine.execBridgeControlWordRx b w starts s
  | .bridgeFreezeMsg b mask tgt => Sys2Proof.Machine.execBridgeFreezeMsg b mask tgt s
  | .bridgeClearMsg b mask => Sys2Proof.Machine.execBridgeClearMsg b mask s
  | .bridgeResumeMsg b mask tgt => Sys2Proof.Machine.execBridgeResumeMsg b mask tgt s
  | .chFreeze p port seq bell code => Sys2Proof.Machine.execChFreeze p port seq bell code s
  | .chFrozen p port seq bell code => Sys2Proof.Machine.execChFrozen p port seq bell code s
  | .chClear p port seq => Sys2Proof.Machine.execChClear p port seq s
  | .chResume p port seq bell code delay => Sys2Proof.Machine.execChResume p port seq bell code delay s
  | .chainResumeDelayExpiry p => Sys2Proof.Machine.execChainResumeDelayExpiry p s
  | .stepClockChange => Sys2Proof.Machine.execStepClockChange s
  | .clkchgWindowExpiry => Sys2Proof.Machine.execClkchgWindowExpiry s
  | .stepPllLock => Sys2Proof.Machine.execStepPllLock s
  | .glbStepTargetWrite rq v => Sys2Proof.Machine.execGlbStepTargetWrite rq v s
  | .hbmSchedule p stack chan late => Sys2Proof.Machine.execHbmSchedule p stack chan late s
  | .hbmRefresh stack temp => Sys2Proof.Machine.execHbmRefresh stack temp s
  | .designMemoryAccess rq write a be data => Sys2Proof.Machine.execDesignMemoryAccess rq write a be data s
  | .bitSetAliasWrite rq o be data => Sys2Proof.Machine.execBitSetAliasWrite rq o be data s
  | .bitClearAliasWrite rq o be data => Sys2Proof.Machine.execBitClearAliasWrite rq o be data s
  | .eccWriteback b => Sys2Proof.Machine.execEccWriteback b s
  | .backgroundScrub b w => Sys2Proof.Machine.execBackgroundScrub b w s
  | .bankZeroiseDone blk => Sys2Proof.Machine.execBankZeroiseDone blk s
  | .marchStart rq ix => Sys2Proof.Machine.execMarchStart rq ix s
  | .marchStop rq ix cur => Sys2Proof.Machine.execMarchStop rq ix cur s
  | .marchDone ix fails => Sys2Proof.Machine.execMarchDone ix fails s
  | .retire rq b => Sys2Proof.Machine.execRetire rq b s
  | .unretire rq b => Sys2Proof.Machine.execUnretire rq b s
  | .hbmRetire rq k page => Sys2Proof.Machine.execHbmRetire rq k page s
  | .hbmPageSwitch k => Sys2Proof.Machine.execHbmPageSwitch k s
  | .loaderStart rq c src p keep gate port => Sys2Proof.Machine.execLoaderStart rq c src p keep gate port s
  | .loaderCancel rq c => Sys2Proof.Machine.execLoaderCancel rq c s
  | .loadSection c data last => Sys2Proof.Machine.execLoadSection c data last s
  | .loadComplete c => Sys2Proof.Machine.execLoadComplete c s
  | .loadTimeout c => Sys2Proof.Machine.execLoadTimeout c s
  | .bootPush rq len => Sys2Proof.Machine.execBootPush rq len s
  | .doneSensed high => Sys2Proof.Machine.execDoneSensed high s
  | .keyProgram rq slot => Sys2Proof.Machine.execKeyProgram rq slot s
  | .keyRevoke rq slot => Sys2Proof.Machine.execKeyRevoke rq slot s
  | .keyClear rq slot => Sys2Proof.Machine.execKeyClear rq slot s
  | .vbatLoss => Sys2Proof.Machine.execVbatLoss s
  | .lcAdvance rq => Sys2Proof.Machine.execLcAdvance rq s
  | .lcAdvanceDone => Sys2Proof.Machine.execLcAdvanceDone s
  | .rkProgram rq k => Sys2Proof.Machine.execRkProgram rq k s
  | .rkRevoke rq k => Sys2Proof.Machine.execRkRevoke rq k s
  | .svnAdvance rq value => Sys2Proof.Machine.execSvnAdvance rq value s
  | .drainDone p => Sys2Proof.Machine.execDrainDone p s
  | .rewindDone p => Sys2Proof.Machine.execRewindDone p s
  | .trcArm rq p => Sys2Proof.Machine.execTrcArm rq p s
  | .trcStop rq p => Sys2Proof.Machine.execTrcStop rq p s
  | .trcForce rq p => Sys2Proof.Machine.execTrcForce rq p s
  | .designTrigger p => Sys2Proof.Machine.execDesignTrigger p s
  | .stwEdge ix rising t => Sys2Proof.Machine.execStwEdge ix rising t s
  | .recordEnd ix => Sys2Proof.Machine.execRecordEnd ix s
  | .bindingPresent p => Sys2Proof.Machine.execBindingPresent p s
  | .tdcHandover b drift => Sys2Proof.Machine.execTdcHandover b drift s
  | .tdcCalDone t ok => Sys2Proof.Machine.execTdcCalDone t ok s
  | .triggerFire n => Sys2Proof.Machine.execTriggerFire n s
  | .triggerTimeout n => Sys2Proof.Machine.execTriggerTimeout n s
  | .instrLineRelease n held => Sys2Proof.Machine.execInstrLineRelease n held s
  | .instrLineEdge l rising t => Sys2Proof.Machine.execInstrLineEdge l rising t s
  | .stwInEnable rq ix => Sys2Proof.Machine.execStwInEnable rq ix s
  | .stwInArm rq ix => Sys2Proof.Machine.execStwInArm rq ix s
  | .stwInStop rq ix => Sys2Proof.Machine.execStwInStop rq ix s
  | .stwInDisable rq ix => Sys2Proof.Machine.execStwInDisable rq ix s
  | .stwTrgArm rq n => Sys2Proof.Machine.execStwTrgArm rq n s
  | .stwTrgDisarm rq n => Sys2Proof.Machine.execStwTrgDisarm rq n s
  | .stwTrgForce rq n => Sys2Proof.Machine.execStwTrgForce rq n s
  | .calStart rq => Sys2Proof.Machine.execCalStart rq s
  | .calStop rq => Sys2Proof.Machine.execCalStop rq s
  | .tbLatch rq => Sys2Proof.Machine.execTbLatch rq s
  | .laneLock l n => Sys2Proof.Machine.execLaneLock l n s
  | .laneLossOfLock l n => Sys2Proof.Machine.execLaneLossOfLock l n s
  | .am l bip bad skew => Sys2Proof.Machine.execAm l bip bad skew s
  | .amPeriod l => Sys2Proof.Machine.execAmPeriod l s
  | .trainingPhaseDone l v => Sys2Proof.Machine.execTrainingPhaseDone l v s
  | .trainingTimeout l => Sys2Proof.Machine.execTrainingTimeout l s
  | .crcBlock l group good data => Sys2Proof.Machine.execCrcBlock l group good data s
  | .replay l group => Sys2Proof.Machine.execReplay l group s
  | .replayTimeout l => Sys2Proof.Machine.execReplayTimeout l s
  | .checkFrame t r bad nak group notice cw => Sys2Proof.Machine.execCheckFrame t r bad nak group notice cw s
  | .linkCap l fam mem lvl mode turn => Sys2Proof.Machine.execLinkCap l fam mem lvl mode turn s
  | .linkId l id => Sys2Proof.Machine.execLinkId l id s
  | .linkEpoch ix e => Sys2Proof.Machine.execLinkEpoch ix e s
  | .linkDist ix d => Sys2Proof.Machine.execLinkDist ix d s
  | .linkDerate ix f => Sys2Proof.Machine.execLinkDerate ix f s
  | .linkSpare l n => Sys2Proof.Machine.execLinkSpare l n s
  | .linkRemap l => Sys2Proof.Machine.execLinkRemap l s
  | .linkProbe l tag => Sys2Proof.Machine.execLinkProbe l tag s
  | .linkEcho l rtt => Sys2Proof.Machine.execLinkEcho l rtt s
  | .linkSkip l => Sys2Proof.Machine.execLinkSkip l s
  | .linkFcfg ix => Sys2Proof.Machine.execLinkFcfg ix s
  | .chainBell ix bell => Sys2Proof.Machine.execChainBell ix bell s
  | .rframe ix bell codes => Sys2Proof.Machine.execRframe ix bell codes s
  | .bulk ix n => Sys2Proof.Machine.execBulk ix n s
  | .napIdleTimeout l => Sys2Proof.Machine.execNapIdleTimeout l s
  | .linkEnable rq l => Sys2Proof.Machine.execLinkEnable rq l s
  | .linkDisable rq l => Sys2Proof.Machine.execLinkDisable rq l s
  | .linkRetrain rq l => Sys2Proof.Machine.execLinkRetrain rq l s
  | .linkNap rq l => Sys2Proof.Machine.execLinkNap rq l s
  | .linkRecess rq l => Sys2Proof.Machine.execLinkRecess rq l s
  | .linkWake rq l => Sys2Proof.Machine.execLinkWake rq l s
  | .loopback rq l kind consent => Sys2Proof.Machine.execLoopback rq l kind consent s
  | .lbEnd rq l => Sys2Proof.Machine.execLbEnd rq l s
  | .linkSpareCmd rq l lane => Sys2Proof.Machine.execLinkSpareCmd rq l lane s
  | .dxBellwait c m rd v1 v2 => Sys2Proof.Machine.execDxBellwait c m rd v1 v2 s
  | .bellwaitWake c reason => Sys2Proof.Machine.execBellwaitWake c reason s
  | .dxDeskpop c m rd v1 => Sys2Proof.Machine.execDxDeskpop c m rd v1 s
  | .deskpopTimeout c irq => Sys2Proof.Machine.execDeskpopTimeout c irq s
  | .dxDeskdone c m rd v1 => Sys2Proof.Machine.execDxDeskdone c m rd v1 s
  | .dxQpush c m rd v1 v2 => Sys2Proof.Machine.execDxQpush c m rd v1 v2 s
  | .dxTick c m rd v1 => Sys2Proof.Machine.execDxTick c m rd v1 s
  | .coreWatchdogExpiry c => Sys2Proof.Machine.execCoreWatchdogExpiry c s
  | .queueTailWrite rq q v => Sys2Proof.Machine.execQueueTailWrite rq q v s
  | .qEnable rq q => Sys2Proof.Machine.execQEnable rq q s
  | .qPause rq q => Sys2Proof.Machine.execQPause rq q s
  | .qUnpause rq q => Sys2Proof.Machine.execQUnpause rq q s
  | .qDisable rq q => Sys2Proof.Machine.execQDisable rq q s
  | .qFlush rq q => Sys2Proof.Machine.execQFlush rq q s
  | .qCfgNextWrite rq q w => Sys2Proof.Machine.execQCfgNextWrite rq q w s
  | .taskPlace => Sys2Proof.Machine.execTaskPlace s
  | .tickSourceTick n => Sys2Proof.Machine.execTickSourceTick n s
  | .coreCfgWrite rq c en => Sys2Proof.Machine.execCoreCfgWrite rq c en s
  | .netRead rq k len peek force fetch badOp => Sys2Proof.Machine.execNetRead rq k len peek force fetch badOp s
  | .netWrite rq k be data => Sys2Proof.Machine.execNetWrite rq k be data s
  | .netWriteP rq k be data => Sys2Proof.Machine.execNetWriteP rq k be data s
  | .netAmo rq k op wide v => Sys2Proof.Machine.execNetAmo rq k op wide v s
  | .response rq tag => Sys2Proof.Machine.execResponse rq tag s
  | .requestTimeout rq tag => Sys2Proof.Machine.execRequestTimeout rq tag s
  | .routeTableWrite rq v => Sys2Proof.Machine.execRouteTableWrite rq v s
  | .doorbell f q v => Sys2Proof.Machine.execDoorbell f q v s
  | .apertureRequest rq f off write data => Sys2Proof.Machine.execApertureRequest rq f off write data s
  | .vfFlr f => Sys2Proof.Machine.execVfFlr f s
  | .pfFlr => Sys2Proof.Machine.execPfFlr s
  | .hotReset => Sys2Proof.Machine.execHotReset s
  | .linkDown => Sys2Proof.Machine.execLinkDown s
  | .msixUnmask f v => Sys2Proof.Machine.execMsixUnmask f v s
  | .mailboxPost rq g hi => Sys2Proof.Machine.execMailboxPost rq g hi s
  | .timeIncrement => Sys2Proof.Machine.execTimeIncrement s
  | .timeStep rq => Sys2Proof.Machine.execTimeStep rq s
  | .timeRearm rq => Sys2Proof.Machine.execTimeRearm rq s
  | .timRateWrite rq v => Sys2Proof.Machine.execTimRateWrite rq v s
  | .ptpEventTx kind seqId ipv6 => Sys2Proof.Machine.execPtpEventTx kind seqId ipv6 s
  | .ptpEventRx kind seqId => Sys2Proof.Machine.execPtpEventRx kind seqId s
  | .txtsPop rq => Sys2Proof.Machine.execTxtsPop rq s
  | .chainTimeMarker ix m good => Sys2Proof.Machine.execChainTimeMarker ix m good s
  | .ptmTrigger rq => Sys2Proof.Machine.execPtmTrigger rq s
  | .ptmPeriod => Sys2Proof.Machine.execPtmPeriod s
  | .ptmResponse full mst pdly => Sys2Proof.Machine.execPtmResponse full mst pdly s
  | .ptmTimeout => Sys2Proof.Machine.execPtmTimeout s
  | .mbxGo rq len => Sys2Proof.Machine.execMbxGo rq len s
  | .monHalt t b => Sys2Proof.Machine.execMonHalt t b s
  | .monResume t b => Sys2Proof.Machine.execMonResume t b s
  | .monStep t b ended => Sys2Proof.Machine.execMonStep t b ended s
  | .monRead t b => Sys2Proof.Machine.execMonRead t b s
  | .monWrite t b => Sys2Proof.Machine.execMonWrite t b s
  | .monPeek t b => Sys2Proof.Machine.execMonPeek t b s
  | .monSetbp t b => Sys2Proof.Machine.execMonSetbp t b s
  | .monSetwp t b => Sys2Proof.Machine.execMonSetwp t b s
  | .monTracecfg t b => Sys2Proof.Machine.execMonTracecfg t b s
  | .monFreeze t b => Sys2Proof.Machine.execMonFreeze t b s
  | .monCapture t b => Sys2Proof.Machine.execMonCapture t b s
  | .hallpassNonce t b => Sys2Proof.Machine.execHallpassNonce t b s
  | .hallpassPresent t b => Sys2Proof.Machine.execHallpassPresent t b s
  | .hallpassWithdraw t b => Sys2Proof.Machine.execHallpassWithdraw t b s
  | .hallPassExpiry => Sys2Proof.Machine.execHallPassExpiry s
  | .coreHalt c pc m lr => Sys2Proof.Machine.execCoreHalt c pc m lr s
  | .comparatorMatch c m asid pc acc => Sys2Proof.Machine.execComparatorMatch c m asid pc acc s
  | .ctiPulse => Sys2Proof.Machine.execCtiPulse s
  | .dbgCtiPulseWrite rq w => Sys2Proof.Machine.execDbgCtiPulseWrite rq w s
  | .coreTraceStop c => Sys2Proof.Machine.execCoreTraceStop c s
  | .subFollow rq n k j => Sys2Proof.Machine.execSubFollow rq n k j s
  | .subCommit rq n => Sys2Proof.Machine.execSubCommit rq n s
  | .subCancel rq n => Sys2Proof.Machine.execSubCancel rq n s
  | .followCopyDone n cls => Sys2Proof.Machine.execFollowCopyDone n cls s
  | .clsFollow rq n => Sys2Proof.Machine.execClsFollow rq n s
  | .clsCommit rq n => Sys2Proof.Machine.execClsCommit rq n s
  | .clsCancel rq n => Sys2Proof.Machine.execClsCancel rq n s
  | .classImmediateSubstitute n => Sys2Proof.Machine.execClassImmediateSubstitute n s
  | .declareDead kind u ground => Sys2Proof.Machine.execDeclareDead kind u ground s
  | .epochStale kind u role ep parts => Sys2Proof.Machine.execEpochStale kind u role ep parts s
  | .thresholdReached k count u m a => Sys2Proof.Machine.execThresholdReached k count u m a s
  | .selftest rq kind unit => Sys2Proof.Machine.execSelftest rq kind unit s
  | .selftestDone pass => Sys2Proof.Machine.execSelftestDone pass s
  | .enrol rq kind unit => Sys2Proof.Machine.execEnrol rq kind unit s
  | .eccSelftestStart rq => Sys2Proof.Machine.execEccSelftestStart rq s
  | .eccSelftestDone fails => Sys2Proof.Machine.execEccSelftestDone fails s
  | .tokenRenew ix e => Sys2Proof.Machine.execTokenRenew ix e s
  | .heartbeat ix path => Sys2Proof.Machine.execHeartbeat ix path s
  | .heartbeatTimeout ix miss => Sys2Proof.Machine.execHeartbeatTimeout ix miss s
  | .proctorWatchdogExpiry ix => Sys2Proof.Machine.execProctorWatchdogExpiry ix s
  | .lockstepMismatch ix => Sys2Proof.Machine.execLockstepMismatch ix s
  | .failMsg ix => Sys2Proof.Machine.execFailMsg ix s
  | .loadStandby rq => Sys2Proof.Machine.execLoadStandby rq s
  | .switch rq => Sys2Proof.Machine.execSwitch rq s
  | .reload rq ix => Sys2Proof.Machine.execReload rq ix s
  | .proctorFirmwareLoaded ix a b host ecc entry => Sys2Proof.Machine.execProctorFirmwareLoaded ix a b host ecc entry s
  | .hallMonitorTakeover => Sys2Proof.Machine.execHallMonitorTakeover s
  | .powerOn => Sys2Proof.Machine.execPowerOn s
  | .brownOut r => Sys2Proof.Machine.execBrownOut r s
  | .railGood r => Sys2Proof.Machine.execRailGood r s
  | .resetNAssert => Sys2Proof.Machine.execResetNAssert s
  | .resetNRelease => Sys2Proof.Machine.execResetNRelease s
  | .deviceWatchdogExpiry => Sys2Proof.Machine.execDeviceWatchdogExpiry s
  | .dwdogKick rq key => Sys2Proof.Machine.execDwdogKick rq key s
  | .dwdogCfgWrite rq v => Sys2Proof.Machine.execDwdogCfgWrite rq v s
  | .swreq rq lvl => Sys2Proof.Machine.execSwreq rq lvl s
  | .dbgreqPulse rq => Sys2Proof.Machine.execDbgreqPulse rq s
  | .dbgreqHold rq hold => Sys2Proof.Machine.execDbgreqHold rq hold s
  | .rstUnitWrite rq j v => Sys2Proof.Machine.execRstUnitWrite rq j v s
  | .resetSourceTimeout src c => Sys2Proof.Machine.execResetSourceTimeout src c s
  | .releaseStep boot clk => Sys2Proof.Machine.execReleaseStep boot clk s
  | .clockGood d => Sys2Proof.Machine.execClockGood d s
  | .clockFail d => Sys2Proof.Machine.execClockFail d s
  | .tempSample t => Sys2Proof.Machine.execTempSample t s
  | .throttleAdjust => Sys2Proof.Machine.execThrottleAdjust s
  | .pwrRecess rq => Sys2Proof.Machine.execPwrRecess rq s
  | .pwrWake rq => Sys2Proof.Machine.execPwrWake rq s
  | .gpioWake => Sys2Proof.Machine.execGpioWake s
  | .recessExitDone => Sys2Proof.Machine.execRecessExitDone s
  | .pinCfgWrite rq g v => Sys2Proof.Machine.execPinCfgWrite rq g v s
  | .pioFuseCmd rq pin value => Sys2Proof.Machine.execPioFuseCmd rq pin value s
  | .pioLockKey rq key => Sys2Proof.Machine.execPioLockKey rq key s
  | .pioLock rq => Sys2Proof.Machine.execPioLock rq s
  | .bankSupplyChange b good v12 => Sys2Proof.Machine.execBankSupplyChange b good v12 s
  | .jtagInstruction ir => Sys2Proof.Machine.execJtagInstruction ir s
  | .napExitDone l seen => Sys2Proof.Machine.execNapExitDone l seen s
  | .writePulseEnd pio => Sys2Proof.Machine.execWritePulseEnd pio s
  | .tdcSelfCheckFail t => Sys2Proof.Machine.execTdcSelfCheckFail t s
  | .mtvecFetchFault c => Sys2Proof.Machine.execMtvecFetchFault c s
  | .ethernetFrame => Sys2Proof.Machine.execEthernetFrame s
  | .hbmStackTrained => Sys2Proof.Machine.execHbmStackTrained s
  | .marchRestoreDone ix => Sys2Proof.Machine.execMarchRestoreDone ix s
  | .configurationSpaceWrite vf ptm => Sys2Proof.Machine.execConfigurationSpaceWrite vf ptm s
  | .badMonitorFrame t b busy => Sys2Proof.Machine.execBadMonitorFrame t b busy s

end Machine
end Sys2Proof
end

