-- ==== Sys2Proof/Machine/Step.lean ====
section
/-! DEFINITION. One step of the block: the command at the front of the queue is taken out and has its effect. -/
namespace Sys2Proof
namespace Machine

/-- The state with the queue's front removed. -/
def State.popPending (s : State) : State := { s with pending := s.pending.tail }

/-- One step: the command at the front runs on the state with the queue's rest. On an empty queue one step clock passes
(entry 1). -/
def step (s : State) : Host.Outcome State Fault Refusal :=
  match s.pending with
  | [] => .next (idle s)
  | c :: _ => exec c s.popPending

/-- No row of the table has bits, so no word spells a command and the queue stays as it is (entry 4). -/
def State.withFetchWord (s : State) (nbits w : Nat) : State :=
  match decodeTableWord nbits w with
  | some c => { s with pending := c :: s.pending }
  | none => s

end Machine
end Sys2Proof
end

