-- ==== Sys2Proof/Safety.lean ====
section
/-! DEFINITION. The terms in which statements speak: the canonical form of a state, the identity of a device, and what a command
leaves alone. The block has no fault and no refusal, so a run is safe when every step keeps these. -/
namespace Sys2Proof
namespace Machine

/-- The register file and the memory are in their canonical forms: keys strictly rising, no entry at its default. -/
def State.Canonical (s : State) : Prop := Store.wf regDefault s.regs = true ∧ s.mem.wf = true

/-- The registers that no command may change: the device's identity and its feature level (R5). -/
def SameIdentity (s t : State) : Prop :=
  ∀ r ∈ [Reg.GLB_ID, .GLB_UID, .DIE_ID, .GLB_FEATURE_LEVEL], ∀ i, t.reg r i = s.reg r i

/-- The parts of the state beside the registers. -/
inductive Part where
  /-- The step-clock count. -/
  | scc
  /-- The slates, design memories and latches of the BPs. -/
  | bp
  /-- The hall, base and step networks' tables and stages. -/
  | net
  /-- The partition records. -/
  | parts
  /-- The freeze controllers. -/
  | frz
  /-- The memories: bytes, fills, code words. -/
  | mem
  /-- Device time and its inputs. -/
  | tim
  /-- The host interface. -/
  | hif
  /-- The reliability records. -/
  | rel
  /-- Traces and captures. -/
  | trc
  /-- The monitor and the debug units. -/
  | dbg
  /-- The stopwatch. -/
  | stw
  /-- The links. -/
  | lnk
  /-- The step clock. -/
  | clk
  /-- The pins. -/
  | pio
  /-- The tempo inputs and generators. -/
  | tmp
  /-- The loader contexts. -/
  | ld
  /-- The dispatchers and the tutor cores. -/
  | dsp
  /-- The tutor network. -/
  | tn
  /-- The reset sequences. -/
  | rst
  /-- The last answer given to a requester. -/
  | resp
  /-- The model's count of free values drawn. -/
  | seq
  deriving DecidableEq, Repr

/-- A part is the same in two states. -/
def Part.same (s t : State) : Part → Prop
  | .scc => t.scc = s.scc
  | .bp => t.bp = s.bp
  | .net => t.net = s.net
  | .parts => t.parts = s.parts
  | .frz => t.frz = s.frz
  | .mem => t.mem = s.mem
  | .tim => t.tim = s.tim
  | .hif => t.hif = s.hif
  | .rel => t.rel = s.rel
  | .trc => t.trc = s.trc
  | .dbg => t.dbg = s.dbg
  | .stw => t.stw = s.stw
  | .lnk => t.lnk = s.lnk
  | .clk => t.clk = s.clk
  | .pio => t.pio = s.pio
  | .tmp => t.tmp = s.tmp
  | .ld => t.ld = s.ld
  | .dsp => t.dsp = s.dsp
  | .tn => t.tn = s.tn
  | .rst => t.rst = s.rst
  | .resp => t.resp = s.resp
  | .seq => t.seq = s.seq

/-- The frame: from `s` to `t` at most the registers `rs` and the parts `ps` change; the queue stays, and so does every byte of memory
where the memories are not among the parts. -/
structure Only (rs : List Reg) (ps : List Part) (s t : State) : Prop where
  pending : t.pending = s.pending
  reg : ∀ r, r ∉ rs → ∀ i, t.reg r i = s.reg r i
  part : ∀ p, p ∉ ps → p.same s t
  bytes : Part.mem ∉ ps → ∀ a, t.rb a = s.rb a

/-- What the end of a load, the release of a partition's resources and the loss of a unit may write. -/
def loadEndRegs : List Reg :=
  [.CLS_SUB_STATUS, .CLS_SUB_CMD_STATUS, .CLS_SEQ_STATUS, .PART_STATE, .PART_CMD_STATUS, .PART_COMMIT, .PART_TEMPO_STAT,
   .PART_TEMPO_EARLY, .NET_PART_LAT, .NET_SW_OWN, .NET_SW_VALID, .NET_BR_OWN_WE, .NET_BR_OWN_EW, .NET_BR_VALID, .NET_BR_STAT,
   .PART_FRZ_STATUS, .PART_FRZ_CHAIN, .BBD_BANK, .BBD_PART, .BBD_MARCH_STATUS, .HBM_BUDGET_LO, .HBM_BUDGET_HI, .HBM_REG_A,
   .PART_FAULT_HEAD, .PART_FAULT_LOST, .PART_LAT_DECL, .PART_LAT_PORT, .PART_LAT_PORT_CTL, .PART_FAULT_LOG, .PART_LDR_STATUS,
   .PART_LDR_REPORT_A, .PART_LDR_REPORT_B, .PART_LDR_REPORT_C, .PART_LDR_DONE, .PART_LDR_BOOT_RES, .TRC_SNAP_STAT, .TRC_JRN_STAT,
   .TRC_REPLAY_STAT, .STW_IN_STAT, .STW_IN_LAST, .STW_RING_WR, .STW_LOST, .XOT_STAT, .LNK_STAT, .LNK_LAT, .HIF_IRQ_PEND_LO,
   .HIF_IRQ_PEND_HI, .HIF_MBX_STAT, .DBG_FUN_WR, .DBG_FUN_LOST, .PRC_CLS_SUB_STAT, .PRC_RC_STAT, .PRC_RC, .RST_PWR_STAT,
   .PIO_PIN_CFG, .GLB_STEP_FREQ, .GLB_DERATE_REASON]

/-- What a queue and the DMA reads of its ring may write. -/
def queueRegs : List Reg :=
  [.BBD_BANK, .BBD_CE, .BBD_UE, .BBD_UE_ADDR_LO, .BBD_UE_ADDR_HI, .HBM_CE, .HBM_UE, .TRC_SNAP_STAT, .TRC_JRN_STAT, .DSP_BADDESC,
   .DSP_TICK_STAT, .DSP_Q_HEAD, .DSP_Q_STAT, .HIF_IRQ_PEND_LO, .HIF_IRQ_PEND_HI, .NET_TN_ERR, .PRC_VIOL_STAT, .PRC_RC_STAT,
   .PRC_VIOL, .PRC_RC, .RST_PWR_STAT]

/-- What a refused access leaves: the violation log and its interrupt (R13, R404). -/
def violRegs : List Reg :=
  [.HIF_IRQ_PEND_LO, .HIF_IRQ_PEND_HI, .PRC_VIOL_STAT, .PRC_VIOL]

/-- What a fault record leaves, with its interrupt (R174). -/
def faultRegs : List Reg :=
  [.PART_FAULT_HEAD, .PART_FAULT_LOST, .PART_FAULT_LOG, .HIF_IRQ_PEND_LO, .HIF_IRQ_PEND_HI]

/-- What a partition's trace engine writes. -/
def traceRegs : List Reg :=
  [.TRC_PSTAT, .TRC_SIG_WR, .TRC_SIG_LOST, .HIF_IRQ_PEND_LO, .HIF_IRQ_PEND_HI, .DBG_FUN_WR, .DBG_FUN_LOST]

/-- What a class substitution writes (R53, R395). -/
def subRegs : List Reg :=
  [.CLS_SUB_STATUS, .CLS_SUB_CMD_STATUS, .CLS_IMEM_CE, .CLS_IMEM_UE, .CLS_SLATE_PE, .CLS_BP_MAP, .HIF_IRQ_PEND_LO,
   .HIF_IRQ_PEND_HI, .PRC_CLS_SUB_STAT, .PRC_RC_STAT, .PRC_RC]

/-- What a partition's halt writes (R77, R78). -/
def haltRegs : List Reg :=
  [.PART_STATE, .PART_CMD_STATUS, .PART_TEMPO_STAT, .PART_TEMPO_EARLY, .PART_FRZ_STATUS, .HIF_IRQ_PEND_LO, .HIF_IRQ_PEND_HI]

/-- What a link's change of state may write (R256, R26). -/
def linkRegs : List Reg :=
  [.NET_BR_STAT, .PART_FRZ_STATUS, .PART_FAULT_HEAD, .PART_FAULT_LOST, .PART_FAULT_LOG, .LNK_STAT, .LNK_LAT, .HIF_IRQ_PEND_LO,
   .HIF_IRQ_PEND_HI, .RST_PWR_STAT, .GLB_STEP_FREQ, .GLB_DERATE_REASON]

/-- What a report leaves: the report card and its interrupt (R403). -/
def reportRegs : List Reg :=
  [.HIF_IRQ_PEND_LO, .HIF_IRQ_PEND_HI, .PRC_RC_STAT, .PRC_RC]

/-- What a stopwatch writer writes (R242). -/
def writerRegs : List Reg :=
  [.STW_IN_STAT, .STW_IN_LAST, .STW_RING_WR, .STW_LOST, .DBG_FUN_WR, .DBG_FUN_LOST]

/-- What a snapshot's end writes. -/
def snapshotRegs : List Reg :=
  [.CLS_SUB_STATUS, .CLS_SUB_CMD_STATUS, .PART_STATE, .PART_CMD_STATUS, .TRC_SNAP_STAT, .TRC_JRN_STAT, .TRC_SNAP_BELL_LO,
   .TRC_SNAP_BELL_HI, .PRC_CLS_SUB_STAT]

/-- What the monitor's answer on a transport writes (R360). -/
def monAnswerRegs : List Reg :=
  [.DBG_MBX_STAT, .DBG_MBX_RSP, .RST_PWR_STAT]

/-- What a function's reset writes. -/
def hostRegs : List Reg :=
  [.HIF_CFG, .HIF_WIN_LO, .HIF_WIN_HI, .HIF_VF_OWN, .HIF_VF_MEM, .HIF_VF_WIN_LO, .HIF_VF_WIN_HI, .HIF_AP_LO, .HIF_AP_HI]

/-- The registers that a read of their partner latches (R479). -/
def latchRegs : List Reg :=
  [.PART_BELL_NUM_HI, .PART_BELL_STAMP_0, .PART_BELL_STAMP_1, .PART_BELL_STAMP_2, .PART_BELL_STAMP_3, .PART_FROZEN_CLOCKS_HI,
   .PART_SCC_HI, .PART_LDR_BYTES_HI, .STW_TRG_TIME_HI, .TIM_NOW_1, .TIM_NOW_2, .TIM_NOW_3, .TIM_CMK_ARR_HI, .TIM_CMK_MARK,
   .TIM_PTM_T1_HI, .TIM_PTM_T4_HI, .TIM_PTM_MST_HI]

/-- The feature level is the lowest stepping of the eight compute dies (R5). -/
def LowestStepping (s : State) : Prop :=
  (∀ i < 8, s.gf F.GLB_FEATURE_LEVEL_LEVEL 0 ≤ s.gf F.DIE_ID_STEP i) ∧ ∃ i < 8, s.gf F.GLB_FEATURE_LEVEL_LEVEL 0 = s.gf F.DIE_ID_STEP i

/-- The values that the four operands a, b, c, d of an instruction word read (R30, R32, R33). -/
def operandValues (x : BpCtx) (w : Nat) : Tri × Tri × Tri × Tri :=
  let wide : Nat → Nat → Rd := if bitsAt w 62 2 = 2 then readPort x else readWide x
  ((wide 0 (bitsAt w 33 13)).1, (wide 1 (bitsAt w 20 13)).1, (readShort x 2 (bitsAt w 10 10)).1, (readShort x 3 (bitsAt w 0 10)).1)

/-- The truth-table index `n` agrees with every operand that is 0 or 1 (R48). -/
def agrees (x : BpCtx) (w n : Nat) : Prop :=
  let v := operandValues x w
  let fits : Tri → Nat → Prop := fun o k => o = .x ∨ o = Tri.ofBool (decide (bitAt n k = 1))
  fits v.1 0 ∧ fits v.2.1 1 ∧ fits v.2.2.1 2 ∧ fits v.2.2.2 3

/-- The commands that may move a partition between states: those of Table BELL-4, loads, freezes and halts with what can cause one, the
loss of units, resets, and the accesses that can carry a partition command (R76). -/
def mayMovePartition : Instr → Bool
  | .bridgeControlWordRx _ _ _ => true
  | .trcForce _ _ => true
  | .triggerFire _ => true
  | .stwTrgForce _ _ => true
  | .checkFrame _ _ _ _ _ _ _ => true
  | .bellStart _ => true
  | .step _ _ => true
  | .gapStep _ => true
  | .faultRequestArrival _ => true
  | .freezePoint _ => true
  | .resumePoint _ => true
  | .chainResumeDelayExpiry _ => true
  | .drainDone _ => true
  | .rewindDone _ => true
  | .designTrigger _ => true
  | .load _ _ => true
  | .armDone _ => true
  | .start _ _ _ => true
  | .stopAtBell _ _ _ => true
  | .resume _ _ _ => true
  | .capture _ _ _ => true
  | .abort _ _ _ => true
  | .unload _ _ _ => true
  | .partCommit _ _ _ => true
  | .partCommitCancel _ _ => true
  | .doneSensed _ => true
  | .loaderCancel _ _ => true
  | .loadSection _ _ _ => true
  | .loadComplete _ => true
  | .loadTimeout _ => true
  | .vbatLoss => true
  | .ctiPulse => true
  | .classImmediateSubstitute _ => true
  | .declareDead _ _ _ => true
  | .eccSelftestDone _ => true
  | .proctorFirmwareLoaded _ _ _ _ _ _ => true
  | .lcAdvanceDone => true
  | .powerOn => true
  | .brownOut _ => true
  | .resetNAssert => true
  | .deviceWatchdogExpiry => true
  | .swreq _ _ => true
  | .dbgreqPulse _ => true
  | .dbgreqHold _ _ => true
  | .rstUnitWrite _ _ _ => true
  | .writePulseEnd _ => true
  | .clockFail _ => true
  | .tempSample _ => true
  | .vfFlr _ => true
  | .registerWrite _ _ _ _ => true
  | .rclRead _ _ _ _ => true
  | .latchingRead _ _ _ _ => true
  | .netRead _ _ _ _ _ _ _ => true
  | .netWrite _ _ _ _ => true
  | .netWriteP _ _ _ _ => true
  | .monRead _ _ => true
  | .monWrite _ _ => true
  | .monPeek _ _ => true
  | .monFreeze _ _ => true
  | .monCapture _ _ => true
  | _ => false

/-- A refusal stands in the violation log: the entry at the old head carries the status and the error kind, and the head has moved
on by one (R13, R404). -/
def Logged (status kind : Nat) (s t : State) : Prop :=
  let e := s.gf F.PRC_VIOL_STAT_HEAD 0 % 64
  (t.reg .PRC_VIOL (8 * e + 4)).toNat / 256 % 65536 = status + 256 * kind ∧ t.gf F.PRC_VIOL_STAT_HEAD 0 = (e + 1) % 64

/-- The word at `x` lies in a bank or granule that is zeroising, and `y` in the same one. -/
def inZeroising (x : Nat) (s : State) (y : Nat) : Bool :=
  (inBB x && inBB y && decide (bankOf y = bankOf x) && decide (s.gf F.BBD_BANK_STATE (bankOf x) = 3)) ||
    (inHbm x && inHbm y && decide (granOf y = granOf x) && Store.get false s.mem.granZ (granOf x))

/-- The 32 bytes of a journal entry. -/
def inJournalEntry (b y : Nat) : Bool := decide (b ≤ y) && decide (y < b + 32)

/-- The bytes that an access to the design-memory word at `x` may change: the word, the check byte of its HBM slot, the block whose
zeroising the access waits for, and the next entries of its owner's undo and input journals (R136, R139, R214, R216). -/
def designStored (x : Nat) (s : State) (y : Nat) : Bool :=
  (decide (x ≤ y) && decide (y < x + 8)) || (inHbm x && decide (y = x / 16 * 16 + 9)) || inZeroising x s y ||
    match memOwner x s with
    | 0 => false
    | q + 1 => inJournalEntry (jrnAddr q 0 (s.trec q).undoPos s) y || inJournalEntry (jrnAddr q 1 (s.trec q).inPos s) y

end Machine
end Sys2Proof
end

