-- ==== Sys2Proof/Certificates/Slice0/Obligations.lean ====
section
/-! DEFINITION. The statements for the provers. A statement that names several commands is the conjunction of one clause for each:
for every state and operands that meet the hypotheses, the command answers the next state that the clause describes. -/
open Sys2Proof Sys2Proof.Machine

/-- A step is the front command on the state with the queue's rest; on an empty queue one step clock passes. For every command
c, queue l and state s, a step of s with the queue c, l is exec of c on s with the queue l. On an empty queue a step answers
idle s, which lets one step clock pass: that is the model's choice (log entry 1). (00_scope.md, 95_what_each_step_holds.md) -/
def Obligations.AStepRunsTheFrontCommandOrIdles : Prop :=
  (∀ (c : Instr) (l : List Instr) (s : State), step { s with pending := c :: l } = exec c { s with pending := l }) ∧
  (∀ s : State, s.pending = [] → step s = .next (idle s) ∧ (idle s).scc = s.scc + 1 ∧ (idle s).pending = [])

/-- The reset state meets the invariants: canonical forms, an empty queue and the lowest stepping as feature level. At reset the
register file and the memory are in their canonical forms, no command waits, and GLB_FEATURE_LEVEL is the lowest of the
steppings of the compute dies. The memory lists nothing. The fused steppings are the model's choice (log entry 5). (R5,
06_design_memory.md, 19_register_map.md) -/
def Obligations.ResetStateIsCanonical : Prop :=
  State.reset.Canonical ∧ State.reset.pending = [] ∧ State.reset.mem.mem = [] ∧ LowestStepping State.reset

/-- The values that the register map gives for reset stand in the reset state. The reset values of Table MAP and of the register
blocks stand in the reset state, at every instance: the map of BPs to themselves; every partition EMPTY with a notice of 255;
tempo inputs and generators off, with a period of 5 ns; the loader contexts, stopwatch inputs, ports, links, tick sources,
queues, tutor cores, network, device time, violation log, thermal control, device watchdog, pins and step clock as their blocks
give them. (R61, R65, R91, R426, R429, R440, R473, 19_register_map.md) -/
def Obligations.ResetLeavesTheStatedValues : Prop :=
  (∀ c < 256, State.reset.reg .CLS_SUB_STATUS c = 0x10) ∧ (∀ k < 131072,
    State.reset.reg .CLS_BP_MAP k = BitVec.ofNat 32 (k % 512)) ∧
  (∀ p < 16, State.reset.reg .PART_STATE p = 0 ∧ State.reset.reg .PART_NOTICE p = 0xFF ∧
    State.reset.reg .NET_PART_LAT p = 0x3280603) ∧
  (∀ g < 4, State.reset.reg .PART_TIN_CFG g = 0x800 ∧ State.reset.reg .PART_GEN_CTL g = 0 ∧
    State.reset.reg .PART_GEN_PERIOD_NS g = 5) ∧
  State.reset.reg .PART_TOUT_CFG 0 = 0x800 ∧ (∀ b < 26, State.reset.reg .NET_BR_STAT b = 0x1001010) ∧
  (∀ c < 12, State.reset.reg .PART_LDR_CFG c = 0x7D0) ∧ State.reset.reg .PART_LDR_DONE 0 = 4 ∧
  (∀ i < 64, State.reset.reg .STW_IN_RX i = 0x801400 ∧ State.reset.reg .STW_IN_CFG i = 0x10000) ∧
  (∀ x < 8, State.reset.reg .XOT_CFG x = 0x100 ∧ State.reset.reg .XOT_STAT x = 0x1000000) ∧ (∀ l < 68,
    State.reset.reg .LNK_CFG l = 0x400108) ∧
  (∀ n < 4, State.reset.reg .DSP_TICK_PERIOD n = 0x3E8) ∧ (∀ q < 64, State.reset.reg .DSP_Q_CFG q = 0x10000) ∧
  (∀ c < 64, State.reset.reg .DSP_CORE_CFG c = 1 ∧ State.reset.reg .DSP_MTIMECMP_LO c = 0xFFFFFFFF) ∧
  State.reset.reg .NET_TN_CFG 0 = 0x64 ∧ State.reset.reg .TIM_CFG 0 = 0x64003E8 ∧ State.reset.reg .PRC_VIOL_STAT 0 = 0 ∧
  State.reset.reg .RST_THR_CFG 0 = 0x30108 ∧ State.reset.reg .RST_DWDOG_CFG 0 = 0x3E8 ∧ (∀ i < 356,
    State.reset.reg .PIO_PIN_CFG i = 8) ∧
  State.reset.reg .GLB_ID 0 = 0x00A009DA ∧ State.reset.reg .GLB_STEP_TARGET 0 = 0x100 ∧ State.reset.reg .GLB_STEP_FREQ 0 = 0x1000100

/-- Every step keeps the register file and the memory in canonical form. From every state whose register file and memory are in
canonical form (keys strictly rising, no entry at its default), whatever command stands in front of the queue and whatever its
operands, the next state's register file and memory are in canonical form. (R5, 06_design_memory.md, 19_register_map.md) -/
def Obligations.StepKeepsTheCanonicalForm : Prop :=
  ∀ s t : State, s.Canonical → step s = .next t → t.Canonical

/-- Every step answers a next state, takes exactly the front command and keeps the device's identity. From every state a step
answers a next state: no command faults and none is refused. The queue of the next state is the old one without its front.
GLB_ID, GLB_UID, the DIE_ID registers and GLB_FEATURE_LEVEL are as they were, so a feature level that is the lowest stepping
stays the lowest stepping. (R5, 00_scope.md) -/
def Obligations.EveryStepAnswersAndKeepsTheIdentity : Prop :=
  ∀ s : State, ∃ t, step s = .next t ∧ t.pending = s.pending.tail ∧ SameIdentity s t ∧ (LowestStepping s → LowestStepping t)

/-- EVAL and PORT give TT[8d + 4c + 2b + a] when no operand is X. For every BP context and instruction word of KIND EVAL or PORT
whose four operands read the values a, b, c and d, each 0 or 1, the entry written and the value driven are the bit 8d + 4c + 2b
+ a of the word's truth table. (R31) -/
def Obligations.EvalAndPortIndexTheTruthTable : Prop :=
  ∀ (x : BpCtx) (w : Nat) (a b c d : Bool), bitsAt w 62 2 = 0 ∨ bitsAt w 62 2 = 2 →
    operandValues x w = (Tri.ofBool a, Tri.ofBool b, Tri.ofBool c, Tri.ofBool d) →
    (bpEval x w).write = some (Tri.ofBool (decide (bitAt (bitsAt w 46 16) (8 * b2n d + 4 * b2n c + 2 * b2n b + b2n a) = 1))) ∧
    (bpEval x w).drive = (bpEval x w).write

/-- With X operands the result is the common bit of every agreeing truth-table entry, and X where they differ. For every
instruction word of KIND EVAL or PORT, let K be the truth-table indices that agree with every operand that is 0 or 1. If the
truth table holds 0 at every index of K the result is 0, if it holds 1 at every one the result is 1, and if it holds both the
result is X. (R48) -/
def Obligations.UnknownOperandsGiveTheExactResult : Prop :=
  ∀ (x : BpCtx) (w : Nat) (r : Tri), bitsAt w 62 2 = 0 ∨ bitsAt w 62 2 = 2 → (bpEval x w).write = some r →
    ((∀ n < 16, agrees x w n → bitAt (bitsAt w 46 16) n = 0) → r = .zero) ∧
    ((∀ n < 16, agrees x w n → bitAt (bitsAt w 46 16) n = 1) → r = .one) ∧
    ((∃ n < 16, agrees x w n ∧ bitAt (bitsAt w 46 16) n = 0) → (∃ n < 16, agrees x w n ∧ bitAt (bitsAt w 46 16) n = 1) → r = .x)

/-- A monitor frame that is built is accepted, and every field of it reads back. For every flags, command and status byte, every
16-bit sequence number and every payload of at most 1,024 bytes, the frame of Table DBG-1 passes the check of MAGIC, VERSION,
LEN and CRC, and its SEQ, CMD, STATUS, LEN and payload read back as they were put in. (R360, 15_debug_and_core_trace.md) -/
def Obligations.MonitorFramesReadBack : Prop :=
  ∀ (flags seq cmd status : Nat) (pl : List Nat), flags < 256 → cmd < 256 → status < 256 → seq < 65536 → pl.length ≤ 1024 →
    (∀ b ∈ pl, b < 256) →
    frameOk (monFrame flags seq cmd status pl) = true ∧
    (monFrame flags seq cmd status pl).getD 3 0 = flags ∧ leAt (monFrame flags seq cmd status pl) 4 2 = seq ∧
    (monFrame flags seq cmd status pl).getD 6 0 = cmd ∧ (monFrame flags seq cmd status pl).getD 7 0 = status ∧
    leAt (monFrame flags seq cmd status pl) 8 2 = pl.length ∧ ((monFrame flags seq cmd status pl).drop 12).take pl.length = pl

/-- Steps, gap steps, freeze and resume points, and what arrives with a step. A STEP and a GAP_STEP of a partition that can step
come at its next step clock and PART_STATE shows that step; after gap 11 the partition waits for tempo or is HALTED. A fault
request due at the next step arrives, and a HALT_AT_BELL request sets STOP_PEND. At its freeze point a RUNNING partition enters
FROZEN and its freeze count advances; at its resume point, or when the chain delay has run out, a FROZEN one returns to RUNNING,
or halts where it waits at a bell boundary with a halt pending. A finished drain makes the snapshot VALID; a finished rewind
leaves the partition in replay at the snapshot's bell. A design trigger due at the next step fires a running trace; a
presentation due at the next step leaves the queue. (R37, R64, R114, R115, R126, R163, R217, R219, R224) -/
def Obligations.StepEventsTakeEffect : Prop :=
  (∀ (s : State) (p : Fin 16) (bad : List (Fin 256)) (n : Nat),
      canStep p s = true →
      nextStep p s = (n, false) →
      n < 4096 →
      ∃ t, exec (.step p bad) s = .next t ∧
        t.scc = nextScc p s ∧ t.gf F.PART_STATE_STEP p = n ∧ t.gf F.PART_STATE_IN_GAP p = 0) ∧
  (∀ (s : State) (p : Fin 16) (g : Nat),
      canStep p s = true →
      nextStep p s = (g, true) →
      (s.part p).rewinding = false →
      g < 12 →
      ∃ t, exec (.gapStep p) s = .next t ∧
        t.scc = nextScc p s ∧ t.gf F.PART_STATE_STEP p = g ∧ t.gf F.PART_STATE_IN_GAP p = 1 ∧ (g = 11 →
          t.flag F.PART_STATE_WAITING p = true ∨ t.pst p = stHalted)) ∧
  (∀ (s : State) (p : Fin 16) (n : Nat) (gap : Bool),
      canStep p s = true →
      nextStep p s = (n, gap) →
      (gap = true ∨ n < s.dImg p) →
      ∃ t, exec (.faultRequestArrival p) s = .next t ∧
        (∀ q ∈ (t.part p).travel, (s.part p).count + 1 < q.due) ∧ ((∃ q ∈ (s.part p).travel, q.due ≤ (s.part p).count + 1 ∧
          q.action = 0) → t.flag F.PART_STATE_STOP_PEND p = true)) ∧
  (∀ (s : State) (p : Fin 16) (f : Nat),
      (s.fz p).f = some f →
      s.scc ≤ f →
      s.pst p = stRunning →
      ∃ t, exec (.freezePoint p) s = .next t ∧
        t.pst p = stFrozen ∧ t.scc = f ∧ (t.fz p).f = none ∧
          t.gf F.PART_FREEZE_CNT_COUNT p = (s.gf F.PART_FREEZE_CNT_COUNT p + 1) % 2 ^ 32) ∧
  (∀ (s : State) (p : Fin 16) (r : Nat),
      (s.fz p).r = some r →
      s.scc ≤ r →
      s.pst p = stFrozen →
      ∃ t, exec (.resumePoint p) s = .next t ∧
        t.scc = r ∧ (t.fz p).r = none ∧
          (t.pst p = if s.flag F.PART_STATE_WAITING p && s.flag F.PART_STATE_STOP_PEND p then stHalted else stRunning)) ∧
  (∀ (s : State) (p : Fin 16) (r x : Nat),
      (s.fz p).chDelay = some (r, x) →
      s.scc ≤ r →
      s.pst p = stFrozen →
      ∃ t, exec (.chainResumeDelayExpiry p) s = .next t ∧
        t.scc = r ∧ (t.fz p).chDelay = none ∧
          (t.pst p = if s.flag F.PART_STATE_WAITING p && s.flag F.PART_STATE_STOP_PEND p then stHalted else stRunning)) ∧
  (∀ (s : State) (p : Fin 16),
      s.flag F.TRC_SNAP_STAT_DRAINING p = true →
      (s.trec p).drainDead = false →
      s.flag F.PART_STATE_CAPTURE_PEND p = false →
      ∃ t, exec (.drainDone p) s = .next t ∧
        t.flag F.TRC_SNAP_STAT_DRAINING p = false ∧ bitAt (t.gf F.TRC_SNAP_STAT_VALID p) (s.gf F.TRC_SNAP_STAT_DSLOT p) = 1) ∧
  (∀ (s : State) (p : Fin 16) (k : Nat),
      (s.trec p).rewind = some k →
      ((s.trec p).snap k).boundary = true →
      ∃ t, exec (.rewindDone p) s = .next t ∧
        (t.trec p).rewind = none ∧ t.flag F.TRC_REPLAY_STAT_ACTIVE p = true ∧ t.flag F.TRC_REPLAY_STAT_RESTORING p = false ∧
          t.gf F.PART_CMD_STATUS_CMD p = 8 ∧ t.gf F.PART_CMD_STATUS_STATUS p = 0 ∧ (t.part p).bell = ((s.trec p).snap k).bell) ∧
  (∀ (s : State) (p : Fin 16) (due k at_ bell : Nat) (l : List (Nat × Nat × Nat × Nat)),
      canStep p s = true →
      ((nextStep p s).2 = true ∨ (nextStep p s).1 < s.dImg p) →
      ((s.trec p).trig = (due, k, at_, bell) :: l) →
      due ≤ (s.part p).count + 1 →
      s.trst p = trcRunning →
      ∃ t, exec (.designTrigger p) s = .next t ∧
        (t.trec p).trig = l ∧ t.flag F.TRC_TRG_STAT_FIRED p = true ∧ t.gf F.TRC_TRG_STAT_IDX p = k % 2 ^ 4) ∧
  (∀ (s : State) (p : Fin 16),
      canStep p s = true →
      ((nextStep p s).2 = true ∨ (nextStep p s).1 < s.dImg p) →
      ∃ t, exec (.bindingPresent p) s = .next t ∧
        t.scc = nextScc p s ∧ (∀ e ∈ t.stw.pres, e ∈ s.stw.pres ∧ ¬(e.p = p ∧ e.due ≤ (s.part p).count + 1)))

/-- Tempo inputs, generators, chain tempo, bell starts and TEMPO_OUT. An enabled tempo input outside its holdoff recognises an
edge and counts it where EDGE follows it; a RUNNING partition alone on that input, waiting and without a tick, takes it. A
generator whose time has come counts up its k and becomes ACTIVE. A TEMPO block on the chain port that is a partition's source
is its tick and goes on to the other chain ports. A bell starts at the SCC its cause gives, with step 0, its number and its LAG.
TEMPO_OUT falls after WIDTH step clocks. A stalled RUNNING partition sets STALLED. A write of PART_GEN_CTL starts a stopped
generator afresh or stops it. (R66, R67, R68, R70, R71, R72, R73, R88, R279) -/
def Obligations.TempoEventsTakeEffect : Prop :=
  (∀ (s : State) (ix : Fin 4) (rising : Bool),
      s.flag F.PART_TIN_CFG_EN ix = true →
      (Store.get 0 s.tmp.last (2 * ix.val + b2n (!rising)) = 0 ∨ s.gf F.PART_TIN_CFG_HOLDOFF ix ≤ s.scc + 1 - Store.get 0
        s.tmp.last (2 * ix.val + b2n (!rising))) →
      ∃ t, exec (.tempoInputEdge ix rising) s = .next t ∧
        Store.get 0 t.tmp.last (2 * ix.val + b2n (!rising)) = s.scc + 1 ∧
          t.gf F.PART_TIN_COUNT_COUNT ix = (s.gf F.PART_TIN_COUNT_COUNT ix + b2n (decide (s.gf F.PART_TIN_CFG_EDGE ix = b2n
          (!rising)))) % 2 ^ 32) ∧
  (∀ (s : State) (ix : Fin 4) (rising : Bool) (p : Fin 16),
      s.flag F.PART_TIN_CFG_EN ix = true →
      (Store.get 0 s.tmp.last (2 * ix.val + b2n (!rising)) = 0 ∨ s.gf F.PART_TIN_CFG_HOLDOFF ix ≤ s.scc + 1 - Store.get 0
        s.tmp.last (2 * ix.val + b2n (!rising))) →
      (tempoUsers 1 ix s = [p.val]) →
      (s.gf F.PART_TEMPO_EDGE p = b2n (!rising)) →
      s.pst p = stRunning →
      s.flag F.TRC_REPLAY_STAT_ACTIVE p = false →
      (s.part p).div = 0 →
      ((s.part p).debts = []) →
      (s.part p).tick = none →
      bellOpen p s = true →
      ∃ t, exec (.tempoInputEdge ix rising) s = .next t ∧
        (t.part p).tick = some s.scc) ∧
  (∀ (s : State) (g : Fin 4),
      s.flag F.PART_GEN_CTL_EN g = true →
      genStart g s + Store.get 0 s.tmp.gen g * genPeriod g s ≤ timeFrac16 s →
      ∃ t, exec (.generatorTick g) s = .next t ∧
        Store.get 0 t.tmp.gen g = Store.get 0 s.tmp.gen g + 1 ∧ t.flag F.PART_GEN_CTL_ACTIVE g = true) ∧
  (∀ (s : State) (ix : Fin 8) (bell : BitVec 48) (p : Fin 16),
      (s.lk (2 * ix.val)).dead = false →
      s.portOwner ix = p.val + 1 →
      s.pst p = stRunning →
      s.flag F.TRC_REPLAY_STAT_ACTIVE p = false →
      (ix.val ∈ s.chainPorts p) →
      s.gf F.PART_TEMPO_SRC p = 3 →
      s.gf F.PART_TEMPO_SEL p = ix.val →
      ((s.part p).debts = []) →
      (s.part p).tick = none →
      bellOpen p s = true →
      ∃ t, exec (.chainTempo ix bell) s = .next t ∧
        (t.part p).tick = some s.scc ∧ (∀ j ∈ s.chainPorts p, j ≠ ix.val → (2 * j + 1, 0x66, 256 * bell.toNat) ∈ t.lnk.out)) ∧
  (∀ (s : State) (p : Fin 16) (n lag : Nat) (bad : Bool),
      s.pst p = stRunning →
      s.flag F.PART_STATE_WAITING p = true →
      bellCause p s = some (n, lag, bad) →
      (∀ f ∈ (s.fz p).f, n < f) →
      ∃ t, exec (.bellStart p) s = .next t ∧
        t.scc = n ∧ t.flag F.PART_STATE_WAITING p = false ∧ t.gf F.PART_STATE_STEP p = 0 ∧ t.gf F.PART_STATE_IN_GAP p = 0 ∧
          ((t.part p).bell = (if (s.part p).bell0 then 0 else ((s.part p).bell + 1) % 2 ^ 48)) ∧
          t.gf F.PART_BELL_NUM_LO_BELL p = (t.part p).bell % 2 ^ 32 ∧ t.gf F.PART_TEMPO_STAT_LAG p = min lag 16777215) ∧
  (∀ (s : State),
      s.tmp.out = true →
      s.scc < s.tmp.fall →
      (∀ r ∈ s.tmp.rises, s.tmp.fall < r) →
      ∃ t, exec .tempoOutFall s = .next t ∧
        t.scc = s.tmp.fall ∧ t.tmp.out = false) ∧
  (∀ (s : State) (p : Fin 16),
      s.pst p = stRunning →
      s.gf F.PART_TEMPO_STALL p ≠ 0 →
      ∃ t, exec (.tempoStall p) s = .next t ∧
        t.flag F.PART_TEMPO_STAT_STALLED p = true) ∧
  (∀ (s : State) (rq : Requester) (g : Fin 4) (v : BitVec 32),
      adminOk rq s = true →
      ∃ t, exec (.genCtlWrite rq g v) s = .next t ∧
        t.flag F.PART_GEN_CTL_EN g = decide (v.toNat % 2 = 1) ∧ ((v.toNat % 2 = 0 ∨ s.flag F.PART_GEN_CTL_EN g = false) →
          t.flag F.PART_GEN_CTL_ACTIVE g = false) ∧ ((v.toNat % 2 = 1 ∧ s.flag F.PART_GEN_CTL_EN g = false) →
          Store.get 0 t.tmp.gen g = genNext g false s) ∧ t.resp.status = 0)

/-- LOAD, ARM, START and the DONE lines have their effects where Table BELL-4 admits them. From an admitted requester, in a
state that admits it, and where neither a preserving march nor a restore bars it: LOAD by the loader enters its context's phase
3; ARM makes the partition busy until ARM_DONE, with no limit pending and no failed latency check, makes it ARMED; START makes
an ARMED partition RUNNING and waiting for bell 0. A rise of a released DONE line is sensed and takes its waiting partitions on.
(R76, R77, R78, R117) -/
def Obligations.LoadArmAndStartTakeEffect : Prop :=
  (∀ (s : State) (rq : Requester) (p : Fin 16) (c : Fin 4),
      loaderFor rq p s = some c.val →
      loadLegal p s = true →
      (s.ldc c).standby = s.live p →
      ((s.ldc c).keep = true → s.pst p = stLoaded ∨ s.pst p = stHalted) →
      ∃ t, exec (.load rq p) s = .next t ∧
        (t.ldc c).entered = true ∧ t.gf F.PART_LDR_STATUS_PHASE c = 3) ∧
  (∀ (s : State) (rq : Requester) (p : Fin 16) (arg : BitVec 16),
      partOk rq p s = true →
      s.pst p = stLoaded →
      s.flag F.TRC_REPLAY_STAT_RESTORING p = false →
      marchOn p s = false →
      ∃ t, exec (.arm rq p arg) s = .next t ∧
        (t.part p).arming = true ∧ t.flag F.PART_CMD_STATUS_BUSY p = true ∧ t.gf F.PART_CMD_STATUS_CMD p = 2 ∧
          t.gf F.PART_CMD_STATUS_STATUS p = 0) ∧
  (∀ (s : State) (p : Fin 16),
      s.pst p = stLoaded →
      (s.part p).arming = true →
      (s.flag F.GLB_STEP_FREQ_PENDING 0 = false ∨ s.gf F.GLB_STEP_FREQ_FREQ 0 ≤ s.clk.want) →
      (latFails p (s.gf F.GLB_STEP_FREQ_FREQ 0) s = []) →
      ∃ t, exec (.armDone p) s = .next t ∧
        t.pst p = stArmed ∧ t.flag F.PART_CMD_STATUS_BUSY p = false ∧ (t.part p).count = 0 ∧ (t.part p).bell0 = true ∧
          (t.part p).arming = false) ∧
  (∀ (s : State) (rq : Requester) (p : Fin 16) (arg : BitVec 16),
      partOk rq p s = true →
      s.pst p = stArmed →
      s.flag F.TRC_REPLAY_STAT_RESTORING p = false →
      marchOn p s = false →
      ∃ t, exec (.start rq p arg) s = .next t ∧
        t.pst p = stRunning ∧ t.flag F.PART_STATE_WAITING p = true ∧ t.gf F.PART_STATE_STEP p = 0 ∧
          t.gf F.PART_STATE_IN_GAP p = 0 ∧ (t.part p).bell0 = true ∧ (t.part p).debts = [] ∧
          ((t.part p).tick = if s.gf F.PART_TEMPO_SRC p = 0 then some s.scc else none)) ∧
  (∀ (s : State) (high : Bool) (p : Fin 16),
      high = true →
      s.flag F.PART_LDR_DONE_SENSED 0 = false →
      s.flag F.PART_LDR_DONE_DRIVE 0 = false →
      Store.get 0 s.ld.autos p = 2 →
      ∃ t, exec (.doneSensed high) s = .next t ∧
        t.flag F.PART_LDR_DONE_SENSED 0 = true ∧ Store.get 0 t.ld.autos p = 3) ∧
  (∀ (s : State) (high : Bool),
      high = false →
      ∃ t, exec (.doneSensed high) s = .next t ∧
        t.flag F.PART_LDR_DONE_SENSED 0 = false)

/-- STOP_AT_BELL, RESUME, FREEZE_NOW, CAPTURE, REWIND, ABORT and UNLOAD have their effects. From an admitted requester, in a
state that admits it, and where no restore bars it: STOP_AT_BELL sets STOP_PEND or halts at once; RESUME runs a HALTED partition
or releases a FROZEN one's debug and fault holds; FREEZE_NOW by the monitor raises the debug hold; CAPTURE is pending or,
HALTED, drains at once; REWIND begins its restore; ABORT and UNLOAD leave the partition EMPTY. (R76, R77, R182, R183, R206,
R212, R218) -/
def Obligations.StopResumeAndEndTakeEffect : Prop :=
  (∀ (s : State) (rq : Requester) (p : Fin 16) (arg : BitVec 16),
      partOk rq p s = true →
      s.live p = true →
      s.flag F.TRC_REPLAY_STAT_RESTORING p = false →
      ∃ t, exec (.stopAtBell rq p arg) s = .next t ∧
        ((s.pst p = stRunning ∧ s.flag F.PART_STATE_WAITING p = true) → t.pst p = stHalted) ∧ (¬(s.pst p = stRunning ∧
          s.flag F.PART_STATE_WAITING p = true) → t.flag F.PART_STATE_STOP_PEND p = true ∧ t.pst p = s.pst p)) ∧
  (∀ (s : State) (rq : Requester) (p : Fin 16) (arg : BitVec 16),
      partOk rq p s = true →
      s.pst p = stHalted →
      s.flag F.TRC_REPLAY_STAT_RESTORING p = false →
      marchOn p s = false →
      ∃ t, exec (.resume rq p arg) s = .next t ∧
        t.pst p = stRunning ∧ t.flag F.PART_STATE_WAITING p = true) ∧
  (∀ (s : State) (rq : Requester) (p : Fin 16) (arg : BitVec 16) (b : Fin 2),
      partOk rq p s = true →
      s.pst p = stFrozen →
      s.flag F.TRC_REPLAY_STAT_RESTORING p = false →
      marchOn p s = false →
      ∃ t, exec (.resume rq p arg) s = .next t ∧
        (∀ i ∈ ((s.fz p).ctl b).items, i.1 = 8 ∨ i.1 = 9 → (⟨s.scc, i.1, i.2⟩ : FrzReq) ∈ ((t.fz p).ctl b).rel)) ∧
  (∀ (s : State) (rq : Requester) (p : Fin 16) (arg : BitVec 16),
      rq = .monitor →
      s.live p = true →
      s.flag F.TRC_REPLAY_STAT_RESTORING p = false →
      s.hasCause p 8 = false →
      (∀ q ∈ ((s.fz p).ctl (s.leadBase p)).raised, q.cause ≠ 8) →
      ∃ t, exec (.freezeNow rq p arg) s = .next t ∧
        ((t.fz p).ctl (s.leadBase p)).raised = ((s.fz p).ctl (s.leadBase p)).raised ++ [⟨s.scc, 8, 0⟩]) ∧
  (∀ (s : State) (rq : Requester) (p : Fin 16) (arg : BitVec 16),
      partOk rq p s = true →
      sealedOut p s = false →
      (s.live p = true ∨ s.pst p = stHalted) →
      s.flag F.TRC_REPLAY_STAT_RESTORING p = false →
      s.gf F.TRC_SNAP_STAT_SLOTS p ≠ 0 →
      s.gf F.TRC_AREA_COUNT (4 * p.val + 1) ≠ 0 →
      s.gf F.TRC_AREA_COUNT (4 * p.val + 2) ≠ 0 →
      s.flag F.PART_STATE_CAPTURE_PEND p = false →
      ∃ t, exec (.capture rq p arg) s = .next t ∧
        ((s.pst p = stHalted ∧ s.flag F.TRC_SNAP_STAT_DRAINING p = false) → t.flag F.TRC_SNAP_STAT_DRAINING p = true ∧
          (t.trec p).orders = (s.trec p).orders + 1) ∧ (¬(s.pst p = stHalted ∧ s.flag F.TRC_SNAP_STAT_DRAINING p = false) →
          t.flag F.PART_STATE_CAPTURE_PEND p = true ∧ (t.part p).capArg = arg.toNat)) ∧
  (∀ (s : State) (rq : Requester) (p : Fin 16) (arg : BitVec 16) (k : Nat),
      partOk rq p s = true →
      sealedOut p s = false →
      s.pst p = stHalted →
      s.flag F.TRC_REPLAY_STAT_RESTORING p = false →
      s.flag F.TRC_SNAP_STAT_DRAINING p = false →
      marchOn p s = false →
      rewindSlot p arg.toNat s = some k →
      sameImage p ((s.trec p).snap k) s = true →
      ∃ t, exec (.rewind rq p arg) s = .next t ∧
        (t.trec p).rewind = some k ∧ t.flag F.TRC_REPLAY_STAT_RESTORING p = true ∧ t.flag F.PART_CMD_STATUS_PENDING p = true) ∧
  (∀ (s : State) (rq : Requester) (p : Fin 16) (arg : BitVec 16),
      partOk rq p s = true →
      s.pst p ≠ stEmpty →
      ∃ t, exec (.abort rq p arg) s = .next t ∧
        t.pst p = stEmpty ∧ (t.part p).travel = [] ∧ (t.part p).tick = none) ∧
  (∀ (s : State) (rq : Requester) (p : Fin 16) (arg : BitVec 16),
      partOk rq p s = true →
      (s.pst p ∈ [stLoaded, stArmed, stHalted, stFenced]) →
      s.flag F.TRC_REPLAY_STAT_RESTORING p = false →
      ∃ t, exec (.unload rq p arg) s = .next t ∧
        t.pst p = stEmpty)

/-- Commits, their cancellation, and the fault log's tail. A commit written while the partition runs is pending until the gap;
at a bell boundary, with a ready slot and a legal tempo source, the next tempo and fault-action settings are in force at once.
CANCEL withdraws a commit that has not been sampled. A write of the fault log's tail consumes the records up to the written
value, or all where the value is the head or lies beyond the unread records. (R82, R83, R84, R174) -/
def Obligations.SettingsAndFaultLogWritesTakeEffect : Prop :=
  (∀ (s : State) (rq : Requester) (p : Fin 16) (cancel : Bool),
      partOk rq p s = true →
      s.live p = true →
      s.flag F.TRC_REPLAY_STAT_RESTORING p = false →
      ∃ t, exec (.partCommit rq p cancel) s = .next t ∧
        t.flag F.PART_COMMIT_COMMIT p = true ∧ t.flag F.PART_STATE_COMMIT_PEND p = true ∧ t.gf F.PART_CMD_STATUS_CMD p = 15 ∧
          t.gf F.PART_CMD_STATUS_STATUS p = 0) ∧
  (∀ (s : State) (rq : Requester) (p : Fin 16) (cancel : Bool),
      partOk rq p s = true →
      (s.pst p ∈ [stLoaded, stArmed, stHalted]) →
      s.flag F.TRC_REPLAY_STAT_RESTORING p = false →
      s.flag F.TRC_REPLAY_STAT_ACTIVE p = false →
      s.flag F.PART_STATE_STBY_READY p = true →
      (s.gf F.PART_TEMPO_NEXT_SRC p ≠ 3 ∨ s.gf F.PART_TEMPO_NEXT_SEL p ∈ s.chainPorts p) →
      ∃ t, exec (.partCommit rq p cancel) s = .next t ∧
        t.reg .PART_TEMPO p = s.reg .PART_TEMPO_NEXT p ∧ t.reg .PART_FAULT_ACTION p = s.reg .PART_FAULT_ACTION_NEXT p ∧
          t.flag F.PART_COMMIT_COMMIT p = false ∧ t.gf F.PART_CMD_STATUS_STATUS p = 0) ∧
  (∀ (s : State) (rq : Requester) (p : Fin 16),
      partOk rq p s = true →
      (s.part p).commitSampled = false →
      ∃ t, exec (.partCommitCancel rq p) s = .next t ∧
        t.flag F.PART_COMMIT_COMMIT p = false ∧ t.flag F.PART_STATE_COMMIT_PEND p = false) ∧
  (∀ (s : State) (rq : Requester) (p : Fin 16) (v : BitVec 32) (n : Nat),
      partOk rq p s = true →
      (v.toNat % 64 + 64 - s.gf F.PART_FAULT_TAIL_TAIL p) % 64 = n →
      ∃ t, exec (.faultTailWrite rq p v) s = .next t ∧
        ((v.toNat % 64 = s.gf F.PART_FAULT_HEAD_HEAD p ∨ s.gf F.PART_FAULT_HEAD_UNREAD p < n) →
          t.gf F.PART_FAULT_TAIL_TAIL p = s.gf F.PART_FAULT_HEAD_HEAD p ∧ t.gf F.PART_FAULT_HEAD_UNREAD p = 0) ∧
          (¬(v.toNat % 64 = s.gf F.PART_FAULT_HEAD_HEAD p ∨ s.gf F.PART_FAULT_HEAD_UNREAD p < n) →
          t.gf F.PART_FAULT_TAIL_TAIL p = v.toNat % 64 ∧ t.gf F.PART_FAULT_HEAD_UNREAD p = s.gf F.PART_FAULT_HEAD_UNREAD p - n))

/-- Substitution of a BP and of a class by follow and commit. From the active proctor, where the table makes it legal:
SUB_FOLLOW and CLS_FOLLOW begin the copy; the end of the copy starts the following and has covered a whole bell where nothing
steps; SUB_COMMIT and CLS_COMMIT are held for the gap of a class that steps, and are applied at once to one that does not: the
role's BP, or the logical class's physical class, becomes the spare; SUB_CANCEL and CLS_CANCEL end the follow and set CANCELLED.
(R53, R56, R57, R390, R395, R396) -/
def Obligations.SubstitutionCommandsTakeEffect : Prop :=
  (∀ (s : State) (rq : Requester) (n : Fin 256) (k : BitVec 9) (j : BitVec 4),
      isActiveProctor rq s = true →
      s.flag F.CLS_SUB_STATUS_FOLLOW n = false →
      spareFreeBp n j.toNat s = true →
      draining n s = false →
      (s.unit 1 (528 * s.phys n + s.spareBp n j.toNat)).banned ≠ k.toNat + 1 →
      roleEpoch s 1 (512 * n.val + k.toNat) < 0xFFFE →
      (lockerRoom [(1, 528 * s.phys n + s.spareBp n j.toNat), (1, 528 * s.phys n + s.physBp n k.toNat)] s = true) →
      ∃ t, exec (.subFollow rq n k j) s = .next t ∧
        t.flag F.CLS_SUB_STATUS_FOLLOW n = true ∧ t.gf F.CLS_SUB_STATUS_LBP n = k.toNat ∧ t.gf F.CLS_SUB_STATUS_SPARE n = j.toNat ∧
          t.flag F.CLS_SUB_CMD_STATUS_BUSY n = true ∧ t.follow n = { copying := true }) ∧
  (∀ (s : State) (rq : Requester) (n : Fin 256),
      isActiveProctor rq s = true →
      (s.flag F.CLS_SUB_STATUS_FOLLOW n = true ∧ s.flag F.CLS_SUB_STATUS_READY n = true) →
      copiesWhole n s = false →
      ∃ t, exec (.subCommit rq n) s = .next t ∧
        t.flag F.CLS_SUB_STATUS_HELD n = true) ∧
  (∀ (s : State) (rq : Requester) (n : Fin 256),
      isActiveProctor rq s = true →
      (s.flag F.CLS_SUB_STATUS_FOLLOW n = true ∧ s.flag F.CLS_SUB_STATUS_READY n = true) →
      copiesWhole n s = true →
      s.spareBp n (s.gf F.CLS_SUB_STATUS_SPARE n) < 528 →
      ∃ t, exec (.subCommit rq n) s = .next t ∧
        t.gf F.CLS_BP_MAP_PHYS (512 * n.val + s.gf F.CLS_SUB_STATUS_LBP n) = s.spareBp n (s.gf F.CLS_SUB_STATUS_SPARE n) ∧
          t.flag F.CLS_SUB_STATUS_FOLLOW n = false) ∧
  (∀ (s : State) (rq : Requester) (n : Fin 256),
      isActiveProctor rq s = true →
      (s.flag F.CLS_SUB_STATUS_FOLLOW n = true ∨ s.flag F.CLS_SUB_STATUS_HELD n = true) →
      ∃ t, exec (.subCancel rq n) s = .next t ∧
        t.flag F.CLS_SUB_STATUS_FOLLOW n = false ∧ t.flag F.CLS_SUB_STATUS_HELD n = false ∧
          t.flag F.CLS_SUB_STATUS_CANCELLED n = true) ∧
  (∀ (s : State) (rq : Requester) (n : Fin 256) (f : Nat),
      isActiveProctor rq s = true →
      s.flag F.PRC_CLS_SUB_STAT_FOLLOW 0 = false →
      freeClass n s = some f →
      draining n s = false →
      s.flag F.CLS_SUB_STATUS_FOLLOW n = false →
      roleEpoch s 0 n < 0xFFFE →
      (lockerRoom [(0, f), (0, s.phys n)] s = true) →
      ∃ t, exec (.clsFollow rq n) s = .next t ∧
        t.flag F.PRC_CLS_SUB_STAT_FOLLOW 0 = true ∧ t.gf F.PRC_CLS_SUB_STAT_CLASS 0 = n.val ∧ t.rel.clsSub = f ∧
          t.rel.clsRec = { copying := true }) ∧
  (∀ (s : State) (rq : Requester) (n : Fin 256) (m : Nat),
      isActiveProctor rq s = true →
      (s.flag F.PRC_CLS_SUB_STAT_FOLLOW 0 = true ∧ s.flag F.PRC_CLS_SUB_STAT_READY 0 = true) →
      s.gf F.PRC_CLS_SUB_STAT_CLASS 0 = m →
      copiesWhole m s = false →
      ∃ t, exec (.clsCommit rq n) s = .next t ∧
        t.flag F.PRC_CLS_SUB_STAT_HELD 0 = true) ∧
  (∀ (s : State) (rq : Requester) (n : Fin 256) (m : Nat),
      isActiveProctor rq s = true →
      (s.flag F.PRC_CLS_SUB_STAT_FOLLOW 0 = true ∧ s.flag F.PRC_CLS_SUB_STAT_READY 0 = true) →
      s.gf F.PRC_CLS_SUB_STAT_CLASS 0 = m →
      copiesWhole m s = true →
      ∃ t, exec (.clsCommit rq n) s = .next t ∧
        t.phys m = s.rel.clsSub ∧ t.flag F.PRC_CLS_SUB_STAT_FOLLOW 0 = false) ∧
  (∀ (s : State) (rq : Requester) (n : Fin 256),
      isActiveProctor rq s = true →
      (s.flag F.PRC_CLS_SUB_STAT_FOLLOW 0 = true ∨ s.flag F.PRC_CLS_SUB_STAT_HELD 0 = true) →
      ∃ t, exec (.clsCancel rq n) s = .next t ∧
        t.flag F.PRC_CLS_SUB_STAT_FOLLOW 0 = false ∧ t.flag F.PRC_CLS_SUB_STAT_HELD 0 = false ∧
          t.flag F.PRC_CLS_SUB_STAT_CANCELLED 0 = true) ∧
  (∀ (s : State) (n : Fin 256),
      s.flag F.CLS_SUB_STATUS_FOLLOW n = true →
      (s.follow n).copying = true →
      ∃ t, exec (.followCopyDone n false) s = .next t ∧
        t.flag F.CLS_SUB_CMD_STATUS_BUSY n = false ∧ (t.follow n).copying = false ∧ (t.follow n).covered = copiesWhole n s) ∧
  (∀ (s : State) (n : Fin 256) (f : Nat),
      s.clsFollower n = some f →
      s.rel.clsRec.copying = true →
      ∃ t, exec (.followCopyDone n true) s = .next t ∧
        t.rel.clsRec.copying = false ∧ t.rel.clsRec.covered = copiesWhole n s)

/-- The freeze commands register requests, release items, and act on bridge messages. A request raised on a RUNNING partition
without a freeze point registers at its registration point, and the freeze point is 16 step clocks later. A late item that
arrives for a live partition raises its release and is no longer absent. A control word with a good CRC, the next SEQ and the
base's own bell starts acts as the message it carries. A bridge FREEZE gives a spanning RUNNING partition its freeze point and
sets OTHER_BASE; a CLEAR to the lead base marks the other base clear; a RESUME to the other base gives a FROZEN partition its
resume point. (R113, R115, R123, R124) -/
def Obligations.FreezeCommandsTakeEffect : Prop :=
  (∀ (s : State) (p : Fin 16) (b : Fin 2) (t0 cause src : Nat),
      s.pst p = stRunning →
      (s.fz p).f = none →
      (s.fz p).r = none →
      ((s.fz p).ctl b = { raised := [⟨t0, cause, src⟩] }) →
      s.scc ≤ t0 + 2 →
      ∃ t, exec (.freezeRegistration p b) s = .next t ∧
        t.scc = regPoint t0 ∧ (t.fz p).f = some (regPoint t0 + 16) ∧ (cause, src) ∈ ((t.fz p).ctl b).items) ∧
  (∀ (s : State) (p : Fin 16) (b : Fin 2) (cause : Fin 13) (src : Fin 2048),
      s.live p = true →
      ((cause.val, src.val) ∈ ((s.fz p).ctl b).items) →
      ∃ t, exec (.lateItemArrival p b cause src) s = .next t ∧
        ((t.fz p).ctl b).rel = ((s.fz p).ctl b).rel ++ [⟨s.scc, cause.val, src.val⟩] ∧ (∀ e ∈ (t.part p).absent,
          ¬(e.1 = cause.val ∧ e.2.1 = src.val))) ∧
  (∀ (s : State) (b : Fin 2) (w : BitVec 64) (starts : BitVec 16),
      crc8ctl w.toNat = bitsAt w.toNat 56 8 →
      bitsAt w.toNat 0 2 = 1 →
      rxSeq b s ≠ bitsAt w.toNat 2 4 →
      (rxSeq b s = 16 ∨ bitsAt w.toNat 2 4 = (rxSeq b s + 1) % 16) →
      bitsAt w.toNat 40 16 = starts.toNat →
      ∃ t, exec (.bridgeControlWordRx b w starts) s = .next t ∧
        exec (.bridgeFreezeMsg b (BitVec.ofNat 16 (bitsAt w.toNat 6 16)) (BitVec.ofNat 18 (bitsAt w.toNat 22 18))) (setRxSeq b
          (bitsAt w.toNat 2 4) s) = .next t) ∧
  (∀ (s : State) (b : Fin 2) (mask : BitVec 16) (tgt : BitVec 18) (p : Fin 16),
      bitAt mask.toNat p = 1 →
      s.spans p = true →
      s.pst p = stRunning →
      (s.fz p).f = none →
      ∃ t, exec (.bridgeFreezeMsg b mask tgt) s = .next t ∧
        (t.fz p).f = some (extendTgt s.scc tgt.toNat) ∧ (11, 0) ∈ ((t.fz p).ctl b).items) ∧
  (∀ (s : State) (b : Fin 2) (mask : BitVec 16) (p : Fin 16),
      bitAt mask.toNat p = 1 →
      s.spans p = true →
      s.leadBase p = b →
      ∃ t, exec (.bridgeClearMsg b mask) s = .next t ∧
        ((t.fz p).ctl b).clear = true) ∧
  (∀ (s : State) (b : Fin 2) (mask : BitVec 16) (tgt : BitVec 18) (p : Fin 16),
      bitAt mask.toNat p = 1 →
      s.spans p = true →
      b.val ≠ s.leadBase p →
      s.pst p = stFrozen →
      ∃ t, exec (.bridgeResumeMsg b mask tgt) s = .next t ∧
        (t.fz p).r = some (extendTgt s.scc tgt.toNat))

/-- The loader: start, bytes, completion, cancel and timeout. LOADER_START of an idle context, by a requester and in a state
that admit it, makes the context RUNNING in phase 1 for its partition with no byte received. Bytes that reach a context of
phases 1 to 3 are counted. At the end of phase 5 the load ends with result 0, and the partition is LOADED, or its standby image
is ready. LOADER_CANCEL and the timeout end a load with 0x10 and their details. (R196, R197, R200, R201, R202) -/
def Obligations.LoaderCommandsTakeEffect : Prop :=
  (∀ (s : State) (rq : Requester) (c : Fin 4) (src : BitVec 2) (p : Fin 16) (keep gate : Bool) (port : Fin 8),
      loaderOk rq c p src.toNat s = true →
      ldRunning c s = false →
      loadLegal p s = true →
      (∀ d ∈ List.range 4, ¬(ldRunning d s = true ∧ (s.ldc d).part = p.val)) →
      (keep = true → s.pst p = stLoaded ∨ s.pst p = stHalted) →
      (src.toNat = 3 → (s.lst (2 * port.val) = lsReady ∨ s.lst (2 * port.val) = lsActive) ∧ s.gf F.XOT_STAT_MODE port = 1) →
      ∃ t, exec (.loaderStart rq c src p keep gate port) s = .next t ∧
        ldRunning c t = true ∧ ldPhase c t = 1 ∧ (t.ldc c).part = p.val ∧ (t.ldc c).src = src.toNat ∧ (t.ldc c).bytes = [] ∧
          Store.get 0 t.ld.got c = 0 ∧ t.gf F.PART_LDR_STATUS_CMDST c = 0) ∧
  (∀ (s : State) (rq : Requester) (c : Fin 4),
      loaderOk rq c (s.ldc c).part (s.ldc c).src s = true →
      ldRunning c s = true →
      ∃ t, exec (.loaderCancel rq c) s = .next t ∧
        ldRunning c t = false ∧ t.gf F.PART_LDR_STATUS_RESULT c = 0x10 ∧ t.gf F.PART_LDR_STATUS_DETAIL c = 3) ∧
  (∀ (s : State) (c : Fin 4) (data : List Byte) (last : Bool),
      ldRunning c s = true →
      ldPhase c s ≤ 3 →
      ((s.ldc c).declared = true → (s.ldc c).entered = true) →
      ∃ t, exec (.loadSection c data last) s = .next t ∧
        Store.get 0 t.ld.got c = (s.ldc c).bytes.length + (arriving c (data.map (·.toNat)) s).length ∧
          t.gf F.PART_LDR_BYTES_LO_BYTES c = Store.get 0 t.ld.got c % 2 ^ 32) ∧
  (∀ (s : State) (c : Fin 4),
      ldRunning c s = true →
      ldPhase c s = 5 →
      (s.ldc c).standby = false →
      ∃ t, exec (.loadComplete c) s = .next t ∧
        t.pst (s.ldc c).part = stLoaded ∧ ldRunning c t = false ∧ t.gf F.PART_LDR_STATUS_RESULT c = 0) ∧
  (∀ (s : State) (c : Fin 4),
      ldRunning c s = true →
      ldPhase c s = 5 →
      (s.ldc c).standby = true →
      ∃ t, exec (.loadComplete c) s = .next t ∧
        t.flag F.PART_STATE_STBY_READY (s.ldc c).part = true ∧ t.flag F.PART_STATE_STBY_LOADING (s.ldc c).part = false ∧
          ldRunning c t = false ∧ t.gf F.PART_LDR_STATUS_RESULT c = 0) ∧
  (∀ (s : State) (c : Fin 4),
      ldRunning c s = true →
      ldPhase c s ≤ 3 →
      ∃ t, exec (.loadTimeout c) s = .next t ∧
        ldRunning c t = false ∧ t.gf F.PART_LDR_STATUS_RESULT c = 0x10 ∧ t.gf F.PART_LDR_STATUS_DETAIL c = 2)

/-- The step clock: target, lock, window and change. A write of the host target by an admitted requester is clamped to 64 to 256
and stands. When the idle PLL locks, a pending change is locked and its window begins. When the window ends, the RUNNING
partitions that are not in their gap raise the clock-change freeze at that step clock. A locked change at a boundary, outside
RECESS, gives FREQ the wanted code and is no longer pending. (R26, R434, R472) -/
def Obligations.StepClockCommandsTakeEffect : Prop :=
  (∀ (s : State),
      s.flag F.GLB_STEP_FREQ_PENDING 0 = true →
      s.clk.locked = true →
      clockBoundary s = true →
      s.gf F.RST_PWR_STAT_STATE 0 ≠ 2 →
      s.clk.want < 512 →
      ∃ t, exec .stepClockChange s = .next t ∧
        t.gf F.GLB_STEP_FREQ_FREQ 0 = s.clk.want ∧ t.flag F.GLB_STEP_FREQ_PENDING 0 = false ∧ t.clk.locked = false) ∧
  (∀ (s : State) (p : Fin 16),
      s.flag F.GLB_STEP_FREQ_PENDING 0 = true →
      s.clk.locked = true →
      s.scc ≤ s.clk.since + 65536 →
      atClockGap p s = false →
      ∃ t, exec .clkchgWindowExpiry s = .next t ∧
        t.scc = s.clk.since + 65536 ∧ ((t.fz p).ctl (s.leadBase p)).raised = ((s.fz p).ctl (s.leadBase p)).raised ++
          [⟨s.clk.since + 65536, 6, 0⟩]) ∧
  (∀ (s : State),
      s.flag F.GLB_STEP_FREQ_PENDING 0 = true →
      s.clk.locked = false →
      ∃ t, exec .stepPllLock s = .next t ∧
        t.clk.locked = true ∧ t.clk.since = s.scc) ∧
  (∀ (s : State) (rq : Requester) (v : BitVec 32),
      adminOk rq s = true →
      ∃ t, exec (.glbStepTargetWrite rq v) s = .next t ∧
        t.gf F.GLB_STEP_TARGET_TARGET 0 = max 64 (min 256 (v.toNat % 512)) ∧ t.resp.status = 0)

/-- The link commands move links between the states of Table XOT-9. From an admitted requester and in a state that admits it:
LINK_ENABLE starts training from OFF, LINK_RETRAIN a retrain, LINK_DISABLE leads to OFF, LINK_NAP and LINK_RECESS put an unused
link to sleep, LINK_WAKE begins its way back, LOOPBACK and LB_END begin and end a loopback, and LINK_SPARE_CMD starts a spare-
over. An idle link naps by itself where it may, and the end of the nap exit leads to READY or ACTIVE, or to a retrain when a
lane was not seen. (R267, R273, R274, R290, R291) -/
def Obligations.LinkStateCommandsTakeEffect : Prop :=
  (∀ (s : State) (rq : Requester) (l : Fin 68),
      linkOk rq l s = true →
      s.lst l = lsOff →
      ∃ t, exec (.linkEnable rq l) s = .next t ∧
        t.lst l = lsTraining ∧ t.gf F.LNK_STAT_PHASE l = 1 ∧ (t.lk l).train = 0 ∧ t.gf F.LNK_STAT_CMDST l = 0) ∧
  (∀ (s : State) (rq : Requester) (l : Fin 68),
      linkOk rq l s = true →
      (s.lst l = lsReady ∨ s.lst l = lsNap ∨ s.lst l = lsRecess ∨ s.lst l = lsFailed) →
      l.val < 64 →
      ∃ t, exec (.linkDisable rq l) s = .next t ∧
        t.lst l = lsOff) ∧
  (∀ (s : State) (rq : Requester) (l : Fin 68),
      linkOk rq l s = true →
      (s.lst l = lsReady ∨ s.lst l = lsActive ∨ s.lst l = lsFailed) →
      ∃ t, exec (.linkRetrain rq l) s = .next t ∧
        t.lst l = lsTraining ∧ t.gf F.LNK_STAT_PHASE l = 3 ∧ (t.lk l).train = 2) ∧
  (∀ (s : State) (rq : Requester) (l : Fin 68),
      linkOk rq l s = true →
      s.lst l = lsReady →
      linkInUse l s = false →
      ∃ t, exec (.linkNap rq l) s = .next t ∧
        t.lst l = lsNap) ∧
  (∀ (s : State) (rq : Requester) (l : Fin 68),
      linkOk rq l s = true →
      (s.lst l = lsReady ∨ s.lst l = lsNap) →
      linkInUse l s = false →
      ∃ t, exec (.linkRecess rq l) s = .next t ∧
        t.lst l = lsRecess) ∧
  (∀ (s : State) (rq : Requester) (l : Fin 68),
      linkOk rq l s = true →
      (s.lst l = lsNap ∨ s.lst l = lsRecess) →
      ∃ t, exec (.linkWake rq l) s = .next t ∧
        (s.lst l = lsNap → (t.lk l).waking = true) ∧ (s.lst l = lsRecess → t.lst l = lsTraining ∧ (t.lk l).train = 1)) ∧
  (∀ (s : State) (rq : Requester) (l : Fin 68) (kind : BitVec 4) (consent : Bool),
      linkOk rq l s = true →
      s.lst l = lsReady →
      linkInUse l s = false →
      (kind.toNat = 3 → consent = true) →
      ∃ t, exec (.loopback rq l kind consent) s = .next t ∧
        t.lst l = lsLoopback ∧ (t.lk l).loop = kind.toNat) ∧
  (∀ (s : State) (rq : Requester) (l : Fin 68),
      linkOk rq l s = true →
      s.lst l = lsLoopback →
      ∃ t, exec (.lbEnd rq l) s = .next t ∧
        t.lst l = lsReady ∧ (t.lk l).loop = 0) ∧
  (∀ (s : State) (rq : Requester) (l : Fin 68) (lane : BitVec 8),
      linkOk rq l s = true →
      (s.lst l = lsReady ∨ s.lst l = lsActive) →
      spareFree l s = true →
      laneHolds l lane.toNat s = true →
      lane.toNat < 16 →
      (s.lk l).spareOver = none →
      (∀ e ∈ (s.lk l).lost, e.2 = false) →
      ∃ t, exec (.linkSpareCmd rq l lane) s = .next t ∧
        (t.lk l).spareOver = some (lane.toNat, 0) ∧ t.lnk.out = (revLink l, 0x4B, 6 * 256 + lane.toNat * 65536) :: s.lnk.out) ∧
  (∀ (s : State) (l : Fin 68),
      s.lst l = lsReady →
      linkInUse l s = false →
      l.val < 64 →
      (16 ≤ l.val ∨ (s.flag F.LNK_CFG_NAP_EN l = true ∧ s.portOwner (l.val / 2) = 0)) →
      ∃ t, exec (.napIdleTimeout l) s = .next t ∧
        t.lst l = lsNap) ∧
  (∀ (s : State) (l : Fin 68) (seen : BitVec 17),
      s.lst l = lsNap →
      (s.lk l).waking = true →
      (∀ n ∈ List.range 17, (laneHolds l n s = true ∨ n = 16) → bitAt seen.toNat n ≠ 0) →
      ∃ t, exec (.napExitDone l seen) s = .next t ∧
        (t.lst l = lsReady ∨ t.lst l = lsActive) ∧ (t.lk l).waking = false) ∧
  (∀ (s : State) (l : Fin 68) (seen : BitVec 17) (n : Fin 17),
      s.lst l = lsNap →
      (s.lk l).waking = true →
      (laneHolds l n s = true ∨ n = 16) →
      bitAt seen.toNat n = 0 →
      ∃ t, exec (.napExitDone l seen) s = .next t ∧
        t.lst l = lsTraining ∧ (t.lk l).train = 2 ∧ t.flag F.LNK_LANE_LOCK (laneIdx l n) = false)

/-- Lanes and marker rows. Lock and loss of lock show in the lane's LOCK bit, and a lane that holds a position of a link in
service is FAILED at once; LINK_REMAP takes the first lost lane off the list, tells the partner, and brings the spare in where
it is promised and free. A marker row takes the staged settings over and counts errors. AM_PERIOD sends AM. (R259, R260, R261,
R262) -/
def Obligations.LaneEventsTakeEffect : Prop :=
  (∀ (s : State) (l : Fin 68) (n : Fin 17),
      ∃ t, exec (.laneLock l n) s = .next t ∧
        t.flag F.LNK_LANE_LOCK (laneIdx l n) = true) ∧
  (∀ (s : State) (l : Fin 68) (n : Fin 17),
      (s.lst l = lsReady ∨ s.lst l = lsActive) →
      laneHolds l n s = true →
      ∃ t, exec (.laneLossOfLock l n) s = .next t ∧
        t.flag F.LNK_LANE_LOCK (laneIdx l n) = false ∧ t.gf F.LNK_LANE_STATE (laneIdx l n) = 2) ∧
  (∀ (s : State) (l : Fin 68) (n : Nat) (spare : Bool) (rest : List (Nat × Bool)),
      ((s.lk l).lost = (n, spare) :: rest) →
      ∃ t, exec (.linkRemap l) s = .next t ∧
        (t.lk l).lost = rest ∧ (revLink l, 0x4B, 7 * 256 + n * 65536) ∈ t.lnk.out ∧ (spare = true ∧ spareFree l s = true →
          t.gf F.LNK_LANE_STATE (laneIdx l 16) = 1 ∧ t.flag F.LNK_STAT_SPARE_USED l = true)) ∧
  (∀ (s : State) (l : Fin 68) (bip : BitVec 17) (bad : List (Nat × Nat)) (skew : BitVec 17) (n : Fin 17),
      (s.lk l).dead = false →
      ∃ t, exec (.am l bip bad skew) s = .next t ∧
        t.reg .LNK_CFG l = s.reg .LNK_CFG_NEXT l ∧ (¬(l.val < 16 ∧ l.val % 2 = 1) →
          t.gf F.LNK_ERR_COUNT (laneIdx l n) = min (s.gf F.LNK_ERR_COUNT (laneIdx l n) + (bitAt bip.toNat n + (bad.filter (fun b =>
          b.1 == n.val)).foldl (fun m b => m + b.2) 0)) (2 ^ F.LNK_ERR_COUNT.w - 1))) ∧
  (∀ (s : State) (l : Fin 68),
      ∃ t, exec (.amPeriod l) s = .next t ∧
        (l.val, 0x1E, 0) ∈ t.lnk.out)

/-- Training, groups, replay and check frames. Training goes through its phases and ends; a timeout restarts it. A good group
advances the receiver, a bad one is counted, awaited and asked for; REPLAY resends; an unanswered REPLAY ends the wait. A check
frame marks each bad bundle. (R262, R263, R265, R268) -/
def Obligations.TrainingAndReplayTakeEffect : Prop :=
  (∀ (s : State) (l : Fin 68) (v : BitVec 32) (ph : Nat),
      s.lst l = lsTraining →
      s.gf F.LNK_STAT_PHASE l = ph →
      (1 ≤ ph ∧ ph ≤ 4) →
      ∃ t, exec (.trainingPhaseDone l v) s = .next t ∧
        (t.gf F.LNK_STAT_PHASE l = if ph = 1 ∧ (s.lk l).train ≠ 0 then 3 else ph + 1) ∧ t.lst l = lsTraining) ∧
  (∀ (s : State) (l : Fin 68) (v : BitVec 32),
      s.lst l = lsTraining →
      (s.gf F.LNK_STAT_PHASE l = 6 ∨ (s.gf F.LNK_STAT_PHASE l = 5 ∧ 16 ≤ l.val)) →
      ∃ t, exec (.trainingPhaseDone l v) s = .next t ∧
        t.gf F.LNK_STAT_PHASE l = 0 ∧ (t.lst l = lsFailed ∨ t.lst l = lsReady ∨ t.lst l = lsActive)) ∧
  (∀ (s : State) (l : Fin 68),
      s.lst l = lsTraining →
      ∃ t, exec (.trainingTimeout l) s = .next t ∧
        t.gf F.LNK_STAT_PHASE l = 1 ∧ (t.lk l).rtt = [] ∧ t.lst l = lsTraining) ∧
  (∀ (s : State) (l : Fin 68) (group : BitVec 12) (data : List Nat),
      (s.lk l).dead = false →
      ((s.lk l).await = none ∨ (s.lk l).await = some group.toNat) →
      ∃ t, exec (.crcBlock l group true data) s = .next t ∧
        (t.lk l).rxGroup = (group.toNat + 1) % 4096 ∧ (t.lk l).await = none) ∧
  (∀ (s : State) (l : Fin 68) (group : BitVec 12) (data : List Nat),
      (s.lk l).dead = false →
      (s.lk l).await = none →
      ∃ t, exec (.crcBlock l group false data) s = .next t ∧
        (t.lk l).await = some group.toNat ∧ (revLink l, 0x33, group.toNat * 256) ∈ t.lnk.out ∧
          t.gf F.LNK_CNT_BADGRP l = min (s.gf F.LNK_CNT_BADGRP l + 1) (2 ^ F.LNK_CNT_BADGRP.w - 1)) ∧
  (∀ (s : State) (l : Fin 68) (group : BitVec 12) (back : Nat),
      (s.lk (revLink l)).dead = false →
      (s.lk l).asks < 8 →
      ((s.lk l).txGroup + 4096 - group.toNat) % 4096 = back →
      (1 ≤ back ∧ back ≤ 128) →
      ∃ t, exec (.replay l group) s = .next t ∧
        t.gf F.LNK_CNT_RESENT l = min (s.gf F.LNK_CNT_RESENT l + back) (2 ^ F.LNK_CNT_RESENT.w - 1) ∧
          (t.lk l).asked = group.toNat) ∧
  (∀ (s : State) (l : Fin 68),
      (s.lk l).await.isSome = true →
      ∃ t, exec (.replayTimeout l) s = .next t ∧
        (t.lk l).await = none ∧ ((s.lst l = lsReady ∨ s.lst l = lsActive) → t.lst l = lsTraining)) ∧
  (∀ (s : State) (u r : Fin 2) (bad nak group : BitVec 12) (notice : Nat) (cw : Option (Nat × Nat)) (j : Fin 12),
      bitAt bad.toNat j = 1 →
      ∃ t, exec (.checkFrame u r bad nak group notice cw) s = .next t ∧
        (t.lk (bundleLink (12 * u.val + j.val) r)).await = some group.toNat ∧
          t.gf F.LNK_CNT_BADGRP (bundleLink (12 * u.val + j.val) r) = min (s.gf F.LNK_CNT_BADGRP (bundleLink (12 * u.val + j.val)
          r) + 1) (2 ^ F.LNK_CNT_BADGRP.w - 1))

/-- The LINK blocks and BULK set what they carry. On a link that is not dead: CAP, ID and EPOCH record the partner; DIST its
distance; DERATE the port's remote limit, clamped; SPARE doubles the lane; PROBE is echoed; ECHO adds a round trip during
MEASURE; SKIP clears BEHIND; BULK announces data blocks on an unowned READY chain port. LINK_FCFG sends the formatter
configuration of the port's descriptor. (R261, R267, R278, R280, R281, R282, R283) -/
def Obligations.LinkBlocksTakeEffect : Prop :=
  (∀ (s : State) (l : Fin 68) (fam mem lvl mode : BitVec 8) (turn : BitVec 32),
      (s.lk l).dead = false →
      ∃ t, exec (.linkCap l fam mem lvl mode turn) s = .next t ∧
        (t.lk l).peer = some (fam.toNat, mem.toNat, lvl.toNat, mode.toNat) ∧ (t.lk l).turn = turn.toNat ∧ (l.val < 16 →
          t.gf F.XOT_PEER_MEMBER (l.val / 2) = mem.toNat ∧ t.gf F.XOT_PEER_LEVEL (l.val / 2) = lvl.toNat)) ∧
  (∀ (s : State) (l : Fin 68) (id : BitVec 48),
      (s.lk l).dead = false →
      ∃ t, exec (.linkId l id) s = .next t ∧
        (t.lk l).peerId = id.toNat) ∧
  (∀ (s : State) (ix : Fin 8) (e : BitVec 16),
      (s.lk (2 * ix.val)).dead = false →
      ∃ t, exec (.linkEpoch ix e) s = .next t ∧
        t.gf F.XOT_PEER_EPOCH ix = e.toNat) ∧
  (∀ (s : State) (ix : Fin 8) (d : BitVec 8),
      (s.lk (2 * ix.val)).dead = false →
      ∃ t, exec (.linkDist ix d) s = .next t ∧
        (t.lk (2 * ix.val)).dist = some d.toNat) ∧
  (∀ (s : State) (ix : Fin 8) (f : BitVec 16),
      (s.lk (2 * ix.val)).dead = false →
      ∃ t, exec (.linkDerate ix f) s = .next t ∧
        t.gf F.XOT_STAT_RFMAX ix = max 64 (min 256 f.toNat)) ∧
  (∀ (s : State) (l : Fin 68) (n : Fin 17),
      (s.lk (revLink l)).dead = false →
      (s.lk l).spareOver = none →
      ∃ t, exec (.linkSpare l n) s = .next t ∧
        t.gf F.LNK_LANE_STATE (laneIdx l n) = 3 ∧ (t.lk l).spareOver = some (n.val, 0)) ∧
  (∀ (s : State) (l : Fin 68) (tag : BitVec 32),
      (s.lk l).dead = false →
      ∃ t, exec (.linkProbe l tag) s = .next t ∧
        t.lnk.out = (revLink l, 0x4B, 9 * 256 + tag.toNat * 65536) :: s.lnk.out) ∧
  (∀ (s : State) (l : Fin 68) (rtt : BitVec 32),
      (s.lk l).dead = false →
      (s.lst l = lsTraining ∧ s.gf F.LNK_STAT_PHASE l = 6) →
      (s.lk l).rtt.length < 16 →
      ∃ t, exec (.linkEcho l rtt) s = .next t ∧
        (t.lk l).rtt = (s.lk l).rtt ++ [rtt.toNat]) ∧
  (∀ (s : State) (l : Fin 68),
      (s.lk l).dead = false →
      ∃ t, exec (.linkSkip l) s = .next t ∧
        t.flag F.LNK_STAT_BEHIND l = false) ∧
  (∀ (s : State) (ix : Fin 8) (p : Fin 16) (a f : Nat),
      s.portOwner ix = p.val + 1 →
      (((s.part p).img (s.slot p)).vecPort.find? (fun e => e.1 == ix.val) = some (ix.val, a, f)) →
      ∃ t, exec (.linkFcfg ix) s = .next t ∧
        t.lnk.out = (2 * ix.val + 1, 0x4B, 0x0B * 256 + f * 65536) :: s.lnk.out) ∧
  (∀ (s : State) (ix : Fin 8) (n : BitVec 16),
      (s.lk (2 * ix.val)).dead = false →
      s.lst (2 * ix.val) = lsReady →
      s.gf F.XOT_STAT_MODE ix = 1 →
      s.portOwner ix = 0 →
      ∃ t, exec (.bulk ix n) s = .next t ∧
        (t.lk (2 * ix.val)).bulk = (s.lk (2 * ix.val)).bulk + n.toNat)

/-- Chain bells, returned frames and the chain freeze messages. On a live link whose port a partition owns: the BELL block fixes
the position of the chain bits that follow and marks a bell that is not the expected one; the returned frame of the oldest
launch is held for its presentation, any other is counted and marks the bell. A chain freeze message with the next SEQ is acted
on: CH_FREEZE is forwarded and gives a RUNNING partition its freeze point; CH_FROZEN and CH_CLEAR are recorded; CH_RESUME gives
a FROZEN partition the end of its delay. (R126, R275, R277, R286) -/
def Obligations.ChainAndVectorFramesTakeEffect : Prop :=
  (∀ (s : State) (ix : Fin 8) (bell : BitVec 48) (p : Fin 16) (want : Nat),
      (s.lk (2 * ix.val)).dead = false →
      s.portOwner ix = p.val + 1 →
      s.live p = true →
      (want = ((s.lk (2 * ix.val)).rxLin.map fun lin => (lin + codeLen p s - 1) / codeLen p s).getD (s.part p).bell) →
      ∃ t, exec (.chainBell ix bell) s = .next t ∧
        (t.lk (2 * ix.val)).rxLin = some (want * codeLen p s) ∧ (t.lk (2 * ix.val)).rxOk = decide (bell.toNat = want % 2 ^ 48) ∧
          (bell.toNat ≠ want % 2 ^ 48 → t.flag F.XOT_CH_STAT_DESYNC ix = true ∧ (t.part p).corrupt = true)) ∧
  (∀ (s : State) (ix : Fin 8) (bell : BitVec 48) (codes : List Nat) (p : Fin 16) (b lin : Nat) (rest : List (Nat × Nat)),
      (s.lk (2 * ix.val)).dead = false →
      s.portOwner ix = p.val + 1 →
      portFenced ix s = false →
      ((s.lk (2 * ix.val)).sent = (b, lin) :: rest) →
      b % 2 ^ 48 = bell.toNat →
      ∃ t, exec (.rframe ix bell codes) s = .next t ∧
        (t.lk (2 * ix.val)).sent = rest ∧ (t.lk (2 * ix.val)).back = (s.lk (2 * ix.val)).back ++
          [(lin + s.gf F.PART_LAT_PORT_VRET (8 * p.val + ix.val), codes)]) ∧
  (∀ (s : State) (ix : Fin 8) (bell : BitVec 48) (codes : List Nat) (p : Fin 16),
      (s.lk (2 * ix.val)).dead = false →
      s.portOwner ix = p.val + 1 →
      portFenced ix s = false →
      ((s.lk (2 * ix.val)).sent.head?.map (fun e => e.1 % 2 ^ 48) ≠ some bell.toNat) →
      ∃ t, exec (.rframe ix bell codes) s = .next t ∧
        (t.part p).corrupt = true ∧ t.gf F.XOT_VEC_STAT_BADRET ix = min (s.gf F.XOT_VEC_STAT_BADRET ix + 1) (2 ^
          F.XOT_VEC_STAT_BADRET.w - 1)) ∧
  (∀ (s : State) (p : Fin 16) (port : Fin 8) (seq : BitVec 8) (bell : BitVec 48) (code : BitVec 13) (b : Nat),
      (s.lk (2 * port.val)).dead = false →
      s.portOwner port = p.val + 1 →
      ((s.lk (2 * port.val)).rxSeq = 256 ∨ seq.toNat = ((s.lk (2 * port.val)).rxSeq + 1) % 256) →
      (s.lk (2 * port.val)).rxSeq ≠ seq.toNat →
      b = extendBell (s.part p).bell bell.toNat →
      s.pst p = stRunning →
      (s.fz p).f = none →
      ∃ t, exec (.chFreeze p port seq bell code) s = .next t ∧
        (t.fz p).f = some (s.scc + ((b * (s.dImg p + 12) + code.toNat) - ((s.part p).bell * (s.dImg p + 12) + s.stepCode p))) ∧ (5,
          port.val) ∈ ((t.fz p).ctl (s.leadBase p)).items ∧ (∀ j ∈ s.chainPorts p, j ≠ port.val → (j, 0, b, code.toNat,
          0) ∈ t.frz.chOut) ∧ (t.lk (2 * port.val)).rxSeq = seq.toNat) ∧
  (∀ (s : State) (p : Fin 16) (port : Fin 8) (seq : BitVec 8) (bell : BitVec 48) (code : BitVec 13),
      (s.lk (2 * port.val)).dead = false →
      s.portOwner port = p.val + 1 →
      ((s.lk (2 * port.val)).rxSeq = 256 ∨ seq.toNat = ((s.lk (2 * port.val)).rxSeq + 1) % 256) →
      (s.lk (2 * port.val)).rxSeq ≠ seq.toNat →
      ∃ t, exec (.chFrozen p port seq bell code) s = .next t ∧
        (port.val, extendBell (s.part p).bell bell.toNat * 8192 + code.toNat) ∈ (t.fz p).chFrozen) ∧
  (∀ (s : State) (p : Fin 16) (port : Fin 8) (seq : BitVec 8),
      (s.lk (2 * port.val)).dead = false →
      s.portOwner port = p.val + 1 →
      ((s.lk (2 * port.val)).rxSeq = 256 ∨ seq.toNat = ((s.lk (2 * port.val)).rxSeq + 1) % 256) →
      (s.lk (2 * port.val)).rxSeq ≠ seq.toNat →
      ∃ t, exec (.chClear p port seq) s = .next t ∧
        port.val ∈ (t.fz p).chClear) ∧
  (∀ (s : State) (p : Fin 16) (port : Fin 8) (seq : BitVec 8) (bell : BitVec 48) (code : BitVec 13) (delay : BitVec 32) (fmax :
    Nat),
      (s.lk (2 * port.val)).dead = false →
      s.portOwner port = p.val + 1 →
      ((s.lk (2 * port.val)).rxSeq = 256 ∨ seq.toNat = ((s.lk (2 * port.val)).rxSeq + 1) % 256) →
      (s.lk (2 * port.val)).rxSeq ≠ seq.toNat →
      s.pst p = stFrozen →
      fmax = extendBell (s.part p).bell bell.toNat * 8192 + code.toNat →
      ∃ t, exec (.chResume p port seq bell code delay) s = .next t ∧
        (t.fz p).chDelay = some (s.scc + ((delay.toNat - ctlLat port (s.gf F.GLB_STEP_FREQ_FREQ 0) s) - idxDiff (s.dImg p)
          (freezeIdx p s) fmax), fmax))

/-- Accesses to design memory, aliases, write-back, scrub, refresh. A read of a blackboard or HBM word that is not zeroising and
holds no uncorrectable byte answers the bytes that stand there. A write that nothing bars stores its enabled bytes, and an alias
write to the blackboard merges them by OR or by AND NOT, an X code counting as 0. A write-back and a scrub leave no correctable
byte in their word. A scheduled HBM read leaves the list, and a late one is counted; a refresh shows the temperature. (R136,
R139, R147, R148, R149, R150, R151) -/
def Obligations.DesignMemoryAccessesTakeEffect : Prop :=
  (∀ (s : State) (p : Fin 16) (stack : Fin 4) (chan : Fin 32) (late : Bool) (e : Nat × Nat × Nat × Nat × Nat),
      ((s.part p).hbmPend.find? (fun e => e.2.1 == stack.val) = some e) →
      ∃ t, exec (.hbmSchedule p stack chan late) s = .next t ∧
        ((t.part p).hbmPend = (s.part p).hbmPend.filter (fun x => x != e)) ∧ (late = true →
          t.gf F.HBM_LATE_COUNT stack = min (s.gf F.HBM_LATE_COUNT stack + 1) (2 ^ F.HBM_LATE_COUNT.w - 1))) ∧
  (∀ (s : State) (stack : Fin 4) (temp : Fin 256),
      ∃ t, exec (.hbmRefresh stack temp) s = .next t ∧
        t.gf F.HBM_STATUS_TEMP stack = temp.val ∧ t.flag F.HBM_STATUS_HOT stack = decide (85 < temp.val)) ∧
  (∀ (s : State) (rq : Requester) (a : BitVec 48) (be : BitVec 8) (data : BitVec 64) (x : Nat),
      x = a.toNat / 8 * 8 →
      ((inBB x = true ∧ s.gf F.BBD_BANK_STATE (bankOf x) ≠ 3) ∨ (inHbm x = true ∧ Store.get false s.mem.granZ (granOf x) = false)) →
      spareGran x = false →
      (inRepair x s = false ∨ isActiveProctor rq s = true) →
      (∀ i ∈ List.range 8, s.mem.err (x + i) < 2) →
      ∃ t, exec (.designMemoryAccess rq false a be data) s = .next t ∧
        t.resp = { data := fromBytes (s.rbs x 8) }) ∧
  (∀ (s : State) (rq : Requester) (a : BitVec 48) (be : BitVec 8) (data : BitVec 64) (i : Fin 8) (x : Nat),
      x = a.toNat / 8 * 8 →
      (inBB x = true ∨ inHbm x = true) →
      spareGran x = false →
      (inRepair x s = false ∨ isActiveProctor rq s = true) →
      hostWriteBarred x s = false →
      bitAt be.toNat i = 1 →
      (inBB x = true ∨ memOwner x s = 0 ∨ x % 16 = 0 ∨ i.val = 0) →
      ∃ t, exec (.designMemoryAccess rq true a be data) s = .next t ∧
        t.rb (x + i.val) = BitVec.ofNat 8 (data.toNat / 256 ^ i.val) ∧ t.resp = { data := 0 }) ∧
  (∀ (s : State) (rq : Requester) (o : BitVec 28) (be : BitVec 8) (data : BitVec 64) (i : Fin 8) (x : Nat),
      x = bbBase + o.toNat / 8 * 8 →
      hostWriteBarred x s = false →
      s.gf F.BBD_BANK_STATE (bankOf x) ≠ 3 →
      (∀ j ∈ List.range 8, s.mem.err (x + j) < 2) →
      bitAt be.toNat i = 1 →
      ∃ t, exec (.bitSetAliasWrite rq o be data) s = .next t ∧
        (t.rb (x + i.val) = (if s.mem.isX (x + i.val) then 0 else s.rb (x + i.val)) ||| BitVec.ofNat 8 (data.toNat / 256 ^ i.val))
          ∧ t.resp = { data := 0 }) ∧
  (∀ (s : State) (rq : Requester) (o : BitVec 28) (be : BitVec 8) (data : BitVec 64) (i : Fin 8) (x : Nat),
      x = bbBase + o.toNat / 8 * 8 →
      hostWriteBarred x s = false →
      s.gf F.BBD_BANK_STATE (bankOf x) ≠ 3 →
      (∀ j ∈ List.range 8, s.mem.err (x + j) < 2) →
      bitAt be.toNat i = 1 →
      ∃ t, exec (.bitClearAliasWrite rq o be data) s = .next t ∧
        (t.rb (x + i.val) = (if s.mem.isX (x + i.val) then 0 else s.rb (x + i.val)) &&& ~~~(BitVec.ofNat 8 (data.toNat / 256 ^
          i.val))) ∧ t.resp = { data := 0 }) ∧
  (∀ (s : State) (b : Fin 512) (w : Nat) (i : Fin 8),
      Store.get 0 s.mem.wb b = w + 1 →
      ∃ t, exec (.eccWriteback b) s = .next t ∧
        Store.get 0 t.mem.wb b = 0 ∧ t.mem.err (bankAddr b + 8 * w + i.val) ≠ 1) ∧
  (∀ (s : State) (b : Fin 512) (w : BitVec 16) (i : Fin 8),
      s.gf F.BBD_SCRUB_CFG_PERIOD 0 ≠ 0 →
      ∃ t, exec (.backgroundScrub b w) s = .next t ∧
        t.mem.err (bankAddr b + 8 * w.toNat + i.val) ≠ 1)

/-- Zeroising, march tests, retirement of banks and pages. A bank that has zeroised reads 0 and is FREE, or RETIRED where that
waited; a granule is no longer zeroising. An admitted MARCH_START on eligible units runs from FIRST; MARCH_STOP aborts at the
unit reached and restores a preserving run; MARCH_DONE and the restore end in IDLE. From the active proctor RETIRE takes a FREE
bank out at once and another on release, UNRETIRE zeroises it, HBM_RETIRE begins the copy of a page, and the switch puts it on
the list. (R141, R153, R154, R155, R156) -/
def Obligations.BankAndPageCommandsTakeEffect : Prop :=
  (∀ (s : State) (blk : Fin 896) (x : Fin 524288),
      blk.val < 512 →
      s.gf F.BBD_BANK_STATE blk = 3 →
      ∃ t, exec (.bankZeroiseDone blk) s = .next t ∧
        (t.gf F.BBD_BANK_STATE blk = if s.flag F.BBD_BANK_RETIRE_PEND blk then 2 else 0) ∧ t.rb (bankAddr blk + x.val) = 0) ∧
  (∀ (s : State) (blk : Fin 896),
      512 ≤ blk.val →
      Store.get false s.mem.granZ (blk.val - 512) = true →
      ∃ t, exec (.bankZeroiseDone blk) s = .next t ∧
        Store.get false t.mem.granZ (blk.val - 512) = false) ∧
  (∀ (s : State) (rq : Requester) (ix : Fin 2),
      procOrM rq s = true →
      s.gf F.BBD_MARCH_STATUS_STATE ix = 0 →
      (s.flag F.BBD_MARCH_CFG_PRESERVE ix = true → memOwner (marchBuf ix s) s = 0) →
      (∀ u ∈ List.range 256, s.gf F.BBD_MARCH_CFG_FIRST ix ≤ u ∧
        u ≤ max (s.gf F.BBD_MARCH_CFG_FIRST ix) (s.gf F.BBD_MARCH_CFG_LAST ix) → marchEligible ix s u = true) →
      ∃ t, exec (.marchStart rq ix) s = .next t ∧
        t.gf F.BBD_MARCH_STATUS_STATE ix = 1 ∧ t.gf F.BBD_MARCH_STATUS_CUR ix = s.gf F.BBD_MARCH_CFG_FIRST ix ∧
          t.gf F.BBD_MARCH_STATUS_FAILS ix = 0 ∧ t.gf F.BBD_MARCH_STATUS_STATUS ix = 0) ∧
  (∀ (s : State) (rq : Requester) (ix : Fin 2) (cur : Fin 256),
      procOrM rq s = true →
      s.gf F.BBD_MARCH_STATUS_STATE ix = 1 →
      ∃ t, exec (.marchStop rq ix cur) s = .next t ∧
        (t.gf F.BBD_MARCH_STATUS_STATE ix = if (marchRec ix s).preserve then 2 else 0) ∧
          t.flag F.BBD_MARCH_STATUS_ABORTED ix = true ∧
          t.gf F.BBD_MARCH_STATUS_CUR ix = min (marchRec ix s).last (max cur.val (s.gf F.BBD_MARCH_CFG_FIRST ix))) ∧
  (∀ (s : State) (ix : Fin 2) (fails : List (Nat × Nat)),
      s.gf F.BBD_MARCH_STATUS_STATE ix = 1 →
      ∃ t, exec (.marchDone ix fails) s = .next t ∧
        t.gf F.BBD_MARCH_STATUS_STATE ix = 0 ∧ t.flag F.BBD_MARCH_STATUS_DONE ix = true) ∧
  (∀ (s : State) (rq : Requester) (b : Fin 512),
      isActiveProctor rq s = true →
      s.gf F.BBD_BANK_STATE b ≠ 2 →
      ∃ t, exec (.retire rq b) s = .next t ∧
        (s.gf F.BBD_BANK_STATE b = 0 → t.gf F.BBD_BANK_STATE b = 2) ∧ (s.gf F.BBD_BANK_STATE b ≠ 0 →
          t.flag F.BBD_BANK_RETIRE_PEND b = true)) ∧
  (∀ (s : State) (rq : Requester) (b : Fin 512),
      isActiveProctor rq s = true →
      s.gf F.BBD_BANK_STATE b = 2 →
      ∃ t, exec (.unretire rq b) s = .next t ∧
        t.gf F.BBD_BANK_STATE b = 3 ∧ t.gf F.BBD_RETIRE_STATUS_STATUS 0 = 0) ∧
  (∀ (s : State) (rq : Requester) (k : Fin 4) (page : BitVec 23),
      isActiveProctor rq s = true →
      s.flag F.HBM_RET_STAT_BUSY k = false →
      (page.toNat ∉ Store.get [] s.mem.pages k) →
      page.toNat < 95 * 65536 →
      ((Store.get [] s.mem.pages k).length < 1024) →
      ∃ t, exec (.hbmRetire rq k page) s = .next t ∧
        t.flag F.HBM_RET_STAT_BUSY k = true ∧ Store.get 0 t.mem.copying k = page.toNat + 1) ∧
  (∀ (s : State) (k : Fin 4) (page : Nat),
      Store.get 0 s.mem.copying k = page + 1 →
      ∃ t, exec (.hbmPageSwitch k) s = .next t ∧
        Store.get [] t.mem.pages k = Store.get [] s.mem.pages k ++ [page] ∧ t.flag F.HBM_RET_STAT_BUSY k = false ∧
          Store.get 0 t.mem.copying k = 0) ∧
  (∀ (s : State) (ix : Fin 2),
      s.gf F.BBD_MARCH_STATUS_STATE ix = 2 →
      ∃ t, exec (.marchRestoreDone ix) s = .next t ∧
        t.gf F.BBD_MARCH_STATUS_STATE ix = 0)

/-- Stopwatch inputs, records, the timebase and the TDCs. An edge of an enabled input sets its level, moves TB on, and joins its
open record at its deskewed time. A record in ACQ ends at its end, counts its sequence number, and the next one opens. Enable,
arm, stop and disable, by a requester that may, move the input between OFF, IDLE and ACQ. TB_LATCH shows TB and device time.
Rotation, where it runs, hands the next input a ready TDC and records its drift; a calibrated TDC becomes a substitute, a
failing one is counted and the second time retired, and an active one that fails its self-check is retired. CAL_START and
CAL_STOP start and stop rotation. (R231, R233, R234, R236, R237, R239, R252, R253) -/
def Obligations.StopwatchInputsTakeEffect : Prop :=
  (∀ (s : State) (ix : Fin 64) (rising : Bool) (u : BitVec 64) (d tc : Nat) (c : StwRec),
      s.gf F.RST_PWR_STAT_STATE 0 ≠ 2 →
      (s.gf F.STW_IN_STAT_STATE ix ≠ inOff ∧ s.gf F.STW_IN_STAT_STATE ix ≠ inFailed) →
      d = s.gf F.STW_IN_DSK_DESKEW ix →
      (tc = if 8388608 ≤ d then u.toNat - (16777216 - d) else u.toNat + d) →
      (s.stwIn ix).cur = some c →
      ∃ t, exec (.stwEdge ix rising u) s = .next t ∧
        t.flag F.STW_IN_STAT_LEVEL ix = rising ∧ t.stw.tb = max s.stw.tb u.toNat ∧ (c.start ≤ tc →
          (t.stwIn ix).cur = some { c with edges := c.edges ++ [(ix.val, rising, tc)] })) ∧
  (∀ (s : State) (ix : Fin 64) (c : StwRec) (stop : Nat),
      s.gf F.STW_IN_STAT_STATE ix = inAcq →
      (s.stwIn ix).cur = some c →
      c.win = none →
      ((if s.flag F.STW_IN_CFG_END ix then (edgeTimes (kindPol 0 (s.gf F.STW_IN_CFG_POL ix)) ix c.edges)[max 1 (s.gf
        F.STW_IN_CFG_LEN ix) - 1]? else some (c.start + 262144 * max 1 (s.gf F.STW_IN_CFG_LEN ix))) = some stop) →
      ∃ t, exec (.recordEnd ix) s = .next t ∧
        (t.stwIn ix).ended = some stop ∧ (t.stwIn ix).seq = ((s.stwIn ix).seq + 1) % 65536) ∧
  (∀ (s : State) (b : Fin 2) (k : Nat),
      ((if b = 0 then s.flag F.STW_CAL_STAT_ROT_W 0 else s.flag F.STW_CAL_STAT_ROT_E 0) = true) →
      readyTdc b s = some k →
      ∃ t, exec (.tdcHandover b none) s = .next t ∧
        rotNext b t = 32 * b.val + (rotNext b s + 1) % 32 ∧
          ((t.stwIn (rotNext b s)).next = k + 1 ∨ ((s.stwIn (rotNext b s)).cur = none ∧
          t.gf F.STW_IN_STAT_TDC (rotNext b s) = k))) ∧
  (∀ (s : State) (b : Fin 2) (d : Int) (k : Nat),
      ((if b = 0 then s.flag F.STW_CAL_STAT_ROT_W 0 else s.flag F.STW_CAL_STAT_ROT_E 0) = true) →
      readyTdc b s = some k →
      ∃ t, exec (.tdcHandover b (some d)) s = .next t ∧
        t.gf F.STW_TDC_DRIFT (s.gf F.STW_IN_STAT_TDC (rotNext b s)) = ((max (-128) (min 127 d)) % 256).toNat ∧
          (12800 < d.natAbs * 625 → t.gf F.STW_TDC_ROLE (s.gf F.STW_IN_STAT_TDC (rotNext b s)) = 3)) ∧
  (∀ (s : State) (u : Fin 68) (ok : Bool),
      s.gf F.STW_TDC_ROLE u = 2 →
      ∃ t, exec (.tdcCalDone u ok) s = .next t ∧
        (ok = true → t.gf F.STW_TDC_ROLE u = 1 ∧ t.gf F.STW_TDC_AGE u = 0 ∧ Store.get 0 t.stw.calFail u = 0) ∧ (ok = false ∧
          Store.get 0 s.stw.calFail u = 0 → Store.get 0 t.stw.calFail u = 1) ∧ (ok = false ∧ Store.get 0 s.stw.calFail u ≠ 0 →
          t.gf F.STW_TDC_ROLE u = 3)) ∧
  (∀ (s : State) (rq : Requester) (ix : Fin 64),
      stwInOk rq ix s = true →
      s.gf F.STW_IN_STAT_STATE ix = inOff →
      ∃ t, exec (.stwInEnable rq ix) s = .next t ∧
        t.gf F.STW_IN_STAT_STATE ix = inIdle ∧ t.gf F.STW_IN_STAT_CMDST ix = 0) ∧
  (∀ (s : State) (rq : Requester) (ix : Fin 64),
      stwInOk rq ix s = true →
      s.gf F.STW_IN_STAT_STATE ix = inIdle →
      ∃ t, exec (.stwInArm rq ix) s = .next t ∧
        t.gf F.STW_IN_STAT_STATE ix = inAcq ∧ (t.stwIn ix).cur.map (·.start) = some s.stw.tb ∧
          t.reg .STW_IN_CFG ix = s.reg .STW_IN_CFG_NEXT ix) ∧
  (∀ (s : State) (rq : Requester) (ix : Fin 64),
      stwInOk rq ix s = true →
      s.gf F.STW_IN_STAT_STATE ix = inAcq →
      ∃ t, exec (.stwInStop rq ix) s = .next t ∧
        t.gf F.STW_IN_STAT_STATE ix = inIdle ∧ (t.stwIn ix).cur = none) ∧
  (∀ (s : State) (rq : Requester) (ix : Fin 64),
      stwInOk rq ix s = true →
      s.gf F.STW_IN_STAT_STATE ix = inIdle →
      (∀ n ∈ List.range 16, s.gf F.STW_TRG_STAT_STATE n = 0 ∨ ix.val ∉ watched n s) →
      ∃ t, exec (.stwInDisable rq ix) s = .next t ∧
        t.gf F.STW_IN_STAT_STATE ix = inOff) ∧
  (∀ (s : State) (rq : Requester),
      stwOk rq s = true →
      ∃ t, exec (.tbLatch rq) s = .next t ∧
        t.reg .STW_TB_LO 0 = BitVec.ofNat 32 s.stw.tb ∧ t.reg .STW_TB_HI 0 = BitVec.ofNat 32 (s.stw.tb / 2 ^ 32) ∧
          t.reg .STW_TB_NS 0 = BitVec.ofNat 32 s.tim.ns ∧ t.reg .STW_TB_SEC_LO 0 = BitVec.ofNat 32 s.tim.sec) ∧
  (∀ (s : State) (rq : Requester),
      procOrM rq s = true →
      ((s.flag F.STW_CAL_STAT_ROT_W 0 = false ∧ 0 < spares 0 s) ∨ (s.flag F.STW_CAL_STAT_ROT_E 0 = false ∧ 0 < spares 1 s)) →
      ∃ t, exec (.calStart rq) s = .next t ∧
        (0 < spares 0 s → t.flag F.STW_CAL_STAT_ROT_W 0 = true) ∧ (0 < spares 1 s → t.flag F.STW_CAL_STAT_ROT_E 0 = true) ∧
          t.gf F.STW_CAL_STAT_CMDST 0 = 0) ∧
  (∀ (s : State) (rq : Requester),
      procOrM rq s = true →
      (s.flag F.STW_CAL_STAT_ROT_W 0 = true ∨ s.flag F.STW_CAL_STAT_ROT_E 0 = true) →
      ∃ t, exec (.calStop rq) s = .next t ∧
        t.flag F.STW_CAL_STAT_ROT_W 0 = false ∧ t.flag F.STW_CAL_STAT_ROT_E 0 = false) ∧
  (∀ (s : State) (u : Fin 68),
      s.gf F.STW_TDC_ROLE u = 0 →
      ∃ t, exec (.tdcSelfCheckFail u) s = .next t ∧
        t.gf F.STW_TDC_ROLE u = 3)

/-- Trigger channels, instrument lines and mailbox posts. A channel with a firing under way fires with its event time, counts
it, and stays ARMED or is FIRED; FORCE fires it with the TB of now. A TIMEOUT channel counts an occurrence each MAX. ARM and
DISARM, by a requester that may, set its state. The end of a drive leaves the line to the others, and an edge of a line the
device does not drive shows in STW_LINE. A post to a mailbox that is open, not full and not waited for appends the staged entry.
(R242, R248, R249, R251, R253, R342, R343) -/
def Obligations.TriggersAndMailboxesTakeEffect : Prop :=
  (∀ (s : State) (n : Fin 16) (at_ : Nat) (rest : List Nat),
      ((s.stwTrg n).pend = at_ :: rest) →
      s.gf F.STW_TRG_STAT_STATE n = 1 →
      ∃ t, exec (.triggerFire n) s = .next t ∧
        (t.stwTrg n).pend = rest ∧ t.stw.tb = max s.stw.tb (at_ + 8192) ∧
          (t.gf F.STW_TRG_STAT_STATE n = if s.flag F.STW_TRG_CFG_AUTO n then 1 else 2) ∧
          t.gf F.STW_TRG_STAT_FIRES n = (s.gf F.STW_TRG_STAT_FIRES n + 1) % 2 ^ F.STW_TRG_STAT_FIRES.w ∧
          t.reg .STW_TRG_TIME_LO n = BitVec.ofNat 32 at_ ∧ Store.get 0 t.stw.fired n = at_) ∧
  (∀ (s : State) (n : Fin 16) (lim : Nat),
      trgLive n s = true →
      s.gf F.STW_TRG_CFG_KIND n = 5 →
      (s.reg .STW_TRG_MAX n).toNat = lim →
      ∃ t, exec (.triggerTimeout n) s = .next t ∧
        (t.stwTrg n).since = (s.stwTrg n).since + lim ∧ ((t.stwTrg n).occ = 0 ∨ (t.stwTrg n).occ = (s.stwTrg n).occ + 1)) ∧
  (∀ (s : State) (n : Fin 16) (held : Bool),
      (n.val ∈ Store.get [] s.stw.drv (s.gf F.STW_TRG_OUT_LINE n)) →
      ∃ t, exec (.instrLineRelease n held) s = .next t ∧
        n.val ∉ Store.get [] t.stw.drv (s.gf F.STW_TRG_OUT_LINE n) ∧ ((∀ m ∈ Store.get [] s.stw.drv (s.gf F.STW_TRG_OUT_LINE n),
          m = n.val) → t.flag ⟨.STW_LINE, 8 + s.gf F.STW_TRG_OUT_LINE n, 1⟩ 0 = false ∧ t.flag ⟨.STW_LINE,
          s.gf F.STW_TRG_OUT_LINE n, 1⟩ 0 = !held)) ∧
  (∀ (s : State) (l : Fin 8) (rising : Bool) (u : BitVec 64),
      bitAt (s.gf F.STW_LINE_DRIVE 0) l = 0 →
      ∃ t, exec (.instrLineEdge l rising u) s = .next t ∧
        t.flag ⟨.STW_LINE, l.val, 1⟩ 0 = rising ∧ t.stw.tb = max s.stw.tb u.toNat) ∧
  (∀ (s : State) (rq : Requester) (n : Fin 16),
      stwOk rq s = true →
      (s.gf F.STW_TRG_STAT_STATE n = 0 ∨ s.gf F.STW_TRG_STAT_STATE n = 2) →
      (∀ i ∈ watched n s, s.gf F.STW_IN_STAT_STATE i = inIdle ∨ s.gf F.STW_IN_STAT_STATE i = inAcq ∨ s.gf F.STW_IN_STAT_STATE i =
        inBound) →
      (s.gf F.STW_TRG_CFG_KIND n = 3 ∨ s.gf F.STW_TRG_CFG_KIND n = 4 →
        s.flag F.STW_IN_RX_PAIR (s.gf F.STW_TRG_CFG_SRC n / 2 * 2) = true) →
      ∃ t, exec (.stwTrgArm rq n) s = .next t ∧
        t.gf F.STW_TRG_STAT_STATE n = 1 ∧ t.gf F.STW_TRG_STAT_FIRES n = 0 ∧ t.stwTrg n = { since := s.stw.tb }) ∧
  (∀ (s : State) (rq : Requester) (n : Fin 16),
      stwOk rq s = true →
      s.gf F.STW_TRG_STAT_STATE n ≠ 0 →
      ∃ t, exec (.stwTrgDisarm rq n) s = .next t ∧
        t.gf F.STW_TRG_STAT_STATE n = 0 ∧ t.stwTrg n = {}) ∧
  (∀ (s : State) (rq : Requester) (n : Fin 16),
      stwOk rq s = true →
      s.gf F.STW_TRG_STAT_STATE n = 1 →
      ∃ t, exec (.stwTrgForce rq n) s = .next t ∧
        (t.gf F.STW_TRG_STAT_STATE n = if s.flag F.STW_TRG_CFG_AUTO n then 1 else 2) ∧
          t.gf F.STW_TRG_STAT_FIRES n = (s.gf F.STW_TRG_STAT_FIRES n + 1) % 2 ^ F.STW_TRG_STAT_FIRES.w ∧
          Store.get 0 t.stw.fired n = s.stw.tb) ∧
  (∀ (s : State) (rq : Requester) (g : Fin 64) (hi : BitVec 32),
      mbxOk rq g s = true →
      (∀ p ∈ List.range 16, s.mbxOwner g = p + 1 → (s.part p).fence = false ∧ s.flag F.TRC_REPLAY_STAT_ACTIVE p = false) →
      s.mbxOwner g ≤ 16 →
      (s.mbx g).queue.length < 16 →
      (s.mbx g).waiting = none →
      ∃ t, exec (.mailboxPost rq g hi) s = .next t ∧
        (t.mbx g).queue = (s.mbx g).queue ++
          [{ data := s.gf F.HIF_MBX_DATA_VALUE g, xmask := s.gf F.HIF_MBX_XMASK_VALUE g, bell := s.gf F.HIF_MBX_BELL_LO_BELL g + 2 ^ 32 * (hi.toNat % 65536) }] ∧ t.gf F.HIF_MBX_STAT_CMDST g = 0)

/-- TRC_ARM, TRC_STOP and TRC_FORCE. From a requester that may command the partition: TRC_ARM of an idle or stopped trace with a
sink, of a partition that is not sealed, starts the trace with a clear trigger status; TRC_STOP ends a running or triggered one;
TRC_FORCE fires the trigger of a running one outside replay. (R225, R230) -/
def Obligations.TraceCommandsTakeEffect : Prop :=
  (∀ (s : State) (rq : Requester) (p : Fin 16),
      partOk rq p s = true →
      sealedOut p s = false →
      (s.trst p = trcIdle ∨ s.trst p = trcStopped) →
      s.gf F.TRC_PCFG_SINK p ≠ 0 →
      ∃ t, exec (.trcArm rq p) s = .next t ∧
        t.trst p = trcRunning ∧ t.gf F.TRC_PSTAT_CMDST p = 0 ∧ t.reg .TRC_TRG_STAT p = 0 ∧ (t.trec p).trig = []) ∧
  (∀ (s : State) (rq : Requester) (p : Fin 16),
      partOk rq p s = true →
      (s.trst p = trcRunning ∨ s.trst p = trcTriggered) →
      ∃ t, exec (.trcStop rq p) s = .next t ∧
        t.trst p = trcStopped ∧ t.gf F.TRC_PSTAT_CMDST p = 0) ∧
  (∀ (s : State) (rq : Requester) (p : Fin 16),
      partOk rq p s = true →
      s.trst p = trcRunning →
      s.flag F.TRC_REPLAY_STAT_ACTIVE p = false →
      ∃ t, exec (.trcForce rq p) s = .next t ∧
        t.flag F.TRC_TRG_STAT_FIRED p = true ∧ t.gf F.TRC_TRG_STAT_SRC p = 3 ∧ (t.trec p).trigBell = (s.part p).bell)

/-- Pin configuration, locking, fuses, supplies and boundary scan. A write of an unlocked pin's configuration by an admitted
requester takes its clamped options, and its function unless the pin is owned. The lock sequence goes 0x5A, 0xA5 (the mask is
captured), LOCK, which locks the captured pins. A fuse command in BLANK or BOARD begins a pulse for its pin. A bank's supply
shows in PIO_BANK_STAT. A boundary-scan instruction is loaded. (R451, R454, R459, R460, R462) -/
def Obligations.PinCommandsTakeEffect : Prop :=
  (∀ (s : State) (rq : Requester) (g : Fin 96) (v : BitVec 32),
      adminOk rq s = true →
      s.flag F.PIO_PIN_CFG_LOCKED g = false →
      s.flag F.PIO_PIN_CFG_OWNED g = false →
      ∃ t, exec (.pinCfgWrite rq g v) s = .next t ∧
        (t.reg .PIO_PIN_CFG g).toNat % 4096 = pinCfgClamp g v.toNat ∧ t.flag F.PIO_PIN_CFG_RELEASED g = true ∧ t.resp.status = 0) ∧
  (∀ (s : State) (rq : Requester) (key : BitVec 8),
      adminOk rq s = true →
      s.gf F.PIO_STAT_LSTEP 0 = 0 →
      key = 0x5A →
      ∃ t, exec (.pioLockKey rq key) s = .next t ∧
        t.gf F.PIO_STAT_LSTEP 0 = 1 ∧ t.gf F.PIO_STAT_CMDST 0 = 0) ∧
  (∀ (s : State) (rq : Requester) (key : BitVec 8),
      adminOk rq s = true →
      s.gf F.PIO_STAT_LSTEP 0 = 1 →
      key = 0xA5 →
      ∃ t, exec (.pioLockKey rq key) s = .next t ∧
        t.gf F.PIO_STAT_LSTEP 0 = 2 ∧ t.pio.mask = [(s.reg .PIO_LOCK_MASK 0).toNat, (s.reg .PIO_LOCK_MASK 1).toNat,
          (s.reg .PIO_LOCK_MASK 2).toNat]) ∧
  (∀ (s : State) (rq : Requester) (g : Fin 96),
      adminOk rq s = true →
      s.gf F.PIO_STAT_LSTEP 0 = 2 →
      bitAt (s.pio.mask.getD (g.val / 32) 0) (g.val % 32) = 1 →
      ∃ t, exec (.pioLock rq) s = .next t ∧
        t.flag F.PIO_PIN_CFG_LOCKED g = true ∧ bitAt (t.reg .PIO_LOCK_STAT (g.val / 32)).toNat (g.val % 32) = 1 ∧
          t.gf F.PIO_STAT_LSTEP 0 = 0) ∧
  (∀ (s : State) (rq : Requester) (pin : BitVec 8) (value : BitVec 2),
      procOrM rq s = true →
      s.gf F.GLB_LCS_STATE 0 ≤ 1 →
      s.flag F.PIO_STAT_BUSY 0 = false →
      ∃ t, exec (.pioFuseCmd rq pin value) s = .next t ∧
        t.flag F.PIO_STAT_BUSY 0 = true ∧ t.pio.pulse = some (min pin.toNat 95, value.toNat)) ∧
  (∀ (s : State) (b : Fin 4) (good v12 : Bool),
      ∃ t, exec (.bankSupplyChange b good v12) s = .next t ∧
        t.flag ⟨.PIO_BANK_STAT, b.val, 1⟩ 0 = good ∧ t.flag ⟨.PIO_BANK_STAT, 4 + b.val, 1⟩ 0 = (good && v12)) ∧
  (∀ (s : State) (ir : BitVec 8),
      ∃ t, exec (.jtagInstruction ir) s = .next t ∧
        t.pio.jtag = ir.toNat ∧ t.regs = s.regs)

/-- Device time: the increment, the step, the rearm and the rate. With no step pending and no slew running, an increment adds
2.5 ns and TIM_RATE units of 2^-32 ns. A pending step is added at the end of the increment; the state is then JUMPED and the
device-time event 0 is set. STEP in FREE makes TIM_OFS the pending step; in state 1 a size within JUMP becomes the slew, a
larger one is refused and goes to HOLDOVER. REARM returns the correction state to FREE and ends the slew. A rate write is
clamped to 5,368,709 either way, outside HOLDOVER. (R347, R348, R350, R353) -/
def Obligations.DeviceTimeCommandsTakeEffect : Prop :=
  (∀ (s : State),
      s.tim.step = none →
      s.tim.slew = 0 →
      ∃ t, exec .timeIncrement s = .next t ∧
        (timeUnits t : Int) = ((timeUnits s : Int) + 10737418240 + timRate s) % (timeSpan : Int)) ∧
  (∀ (s : State) (o : Int),
      s.tim.step = some o →
      s.tim.slew = 0 →
      ∃ t, exec .timeIncrement s = .next t ∧
        (timeUnits t : Int) = ((timeUnits s : Int) + 10737418240 + timRate s + o) % (timeSpan : Int) ∧ t.tim.step = none ∧
          t.gf F.TIM_STAT_STATE 0 = 1 ∧ bitAt (t.gf F.TIM_EVT_EVT 0) 0 = 1) ∧
  (∀ (s : State) (rq : Requester),
      adminOk rq s = true →
      s.gf F.TIM_STAT_STATE 0 = 0 →
      ∃ t, exec (.timeStep rq) s = .next t ∧
        t.tim.step = some (timOfs s) ∧ t.gf F.TIM_STAT_CMDST 0 = 0) ∧
  (∀ (s : State) (rq : Requester),
      adminOk rq s = true →
      s.gf F.TIM_STAT_STATE 0 = 1 →
      (timOfs s).natAbs + s.tim.slew.natAbs ≤ s.gf F.TIM_CFG_JUMP 0 * nsUnit →
      ∃ t, exec (.timeStep rq) s = .next t ∧
        t.tim.slew = timOfs s + s.tim.slew ∧ t.gf F.TIM_STAT_CMDST 0 = 0 ∧
          t.flag F.TIM_STAT_SLEWING 0 = decide (timOfs s + s.tim.slew ≠ 0)) ∧
  (∀ (s : State) (rq : Requester),
      adminOk rq s = true →
      s.gf F.TIM_STAT_STATE 0 = 1 →
      s.gf F.TIM_CFG_JUMP 0 * nsUnit < (timOfs s).natAbs + s.tim.slew.natAbs →
      ∃ t, exec (.timeStep rq) s = .next t ∧
        t.tim.slew = 0 ∧ t.gf F.TIM_STAT_STATE 0 = 2 ∧ t.gf F.TIM_STAT_CMDST 0 = 0x20 ∧ t.flag F.TIM_STAT_JUMP 0 = true ∧
          t.flag F.TIM_STAT_SLEWING 0 = false ∧ bitAt (t.gf F.TIM_EVT_EVT 0) 1 = 1) ∧
  (∀ (s : State) (rq : Requester),
      adminOk rq s = true →
      s.gf F.TIM_STAT_STATE 0 ≠ 0 →
      ∃ t, exec (.timeRearm rq) s = .next t ∧
        t.gf F.TIM_STAT_STATE 0 = 0 ∧ t.tim.slew = 0 ∧ t.flag F.TIM_STAT_SLEWING 0 = false ∧ t.gf F.TIM_STAT_CMDST 0 = 0) ∧
  (∀ (s : State) (rq : Requester) (v : BitVec 32),
      adminOk rq s = true →
      s.gf F.TIM_STAT_STATE 0 ≠ 2 →
      ∃ t, exec (.timRateWrite rq v) s = .next t ∧
        (t.gf F.TIM_RATE_RATE 0 : Int) = (max (-5368709) (min 5368709 (BitVec.toInt v))) % 4294967296)

/-- PTP timestamps, chain time markers and PTM exchanges. With the port's timestamps enabled, a two-step transmission of an
event message puts a timestamp, device time plus TXLAT, at the end of the FIFO and shows its length; a full FIFO counts a loss;
one-step Sync and Pdelay_Resp messages carry it themselves; a receive event stamps device time less RXLAT. Reading TIM_TXTS_0
answers it and pops the oldest entry, with its nanoseconds and seconds in the partner registers. A good TIME block on a vector-
mode port that is READY or ACTIVE records the marker's number with its arrival time. A PTM exchange begins with t1, ends valid
with t4, the master time and the propagation delay of a ResponseD unless a step fell within it, and ends invalid on a plain
Response or the timeout. (R354, R355, R357) -/
def Obligations.TimestampAndPtmCommandsTakeEffect : Prop :=
  (∀ (s : State) (kind : BitVec 4) (seqId : BitVec 16) (ipv6 : Bool),
      s.flag F.TIM_ETH_CFG_EN 0 = true →
      (s.flag F.TIM_ETH_CFG_ONESTEP 0 = false ∨ ipv6 = true ∨ (kind ≠ 0 ∧ kind ≠ 3)) →
      s.tim.fifo.length < 64 →
      ∃ t, exec (.ptpEventTx kind seqId ipv6) s = .next t ∧
        t.tim.fifo = s.tim.fifo ++ [stampAt (s.gf F.TIM_ETH_CFG_TXLAT 0) seqId.toNat kind.toNat s] ∧
          t.gf F.TIM_TXTS_0_LEVEL 0 = s.tim.fifo.length + 1 ∧ bitAt (t.gf F.TIM_EVT_EVT 0) 3 = 1) ∧
  (∀ (s : State) (kind : BitVec 4) (seqId : BitVec 16) (ipv6 : Bool),
      s.flag F.TIM_ETH_CFG_EN 0 = true →
      (s.flag F.TIM_ETH_CFG_ONESTEP 0 = false ∨ ipv6 = true ∨ (kind ≠ 0 ∧ kind ≠ 3)) →
      64 ≤ s.tim.fifo.length →
      ∃ t, exec (.ptpEventTx kind seqId ipv6) s = .next t ∧
        t.tim.fifo = s.tim.fifo ∧ t.gf F.TIM_TXTS_0_LOST 0 = min (s.gf F.TIM_TXTS_0_LOST 0 + 1) (2 ^ F.TIM_TXTS_0_LOST.w - 1)) ∧
  (∀ (s : State) (kind : BitVec 4) (seqId : BitVec 16) (ipv6 : Bool),
      s.flag F.TIM_ETH_CFG_EN 0 = true →
      s.flag F.TIM_ETH_CFG_ONESTEP 0 = true →
      ipv6 = false →
      (kind = 0 ∨ kind = 3) →
      ∃ t, exec (.ptpEventTx kind seqId ipv6) s = .next t ∧
        t.tim.fifo = s.tim.fifo ∧ t.tim.oneStep = stampAt (s.gf F.TIM_ETH_CFG_TXLAT 0) seqId.toNat kind.toNat s :: s.tim.oneStep) ∧
  (∀ (s : State) (kind : BitVec 4) (seqId : BitVec 16),
      s.flag F.TIM_ETH_CFG_EN 0 = true →
      ∃ t, exec (.ptpEventRx kind seqId) s = .next t ∧
        t.tim.rx = stampAt (-(s.gf F.TIM_ETH_CFG_RXLAT 0 : Int)) seqId.toNat kind.toNat s :: s.tim.rx) ∧
  (∀ (s : State) (rq : Requester) (e : TxTs) (rest : List TxTs),
      readOk rq s = true →
      (s.tim.fifo = e :: rest) →
      ∃ t, exec (.txtsPop rq) s = .next t ∧
        t.tim.fifo = rest ∧ t.resp.status = 0 ∧ t.resp.data = (s.reg .TIM_TXTS_0 0).toNat ∧
          (t.reg .TIM_TXTS_1 0).toNat = e.ns % 2 ^ 32 ∧ (t.reg .TIM_TXTS_2 0).toNat = e.sec % 2 ^ 32 ∧
          t.gf F.TIM_TXTS_0_LOST 0 = 0) ∧
  (∀ (s : State) (ix : Fin 8) (m : BitVec 32) (good : Bool),
      (s.lk (2 * ix.val)).dead = false →
      good = true →
      s.gf F.XOT_STAT_MODE ix = 1 →
      (s.lst (2 * ix.val) = lsReady ∨ s.lst (2 * ix.val) = lsActive) →
      ∃ t, exec (.chainTimeMarker ix m good) s = .next t ∧
        Store.get (0, 0) t.tim.cmk ix = (m.toNat, s.dtime) ∧ bitAt (t.gf F.TIM_EVT_EVT 0) 6 = 1) ∧
  (∀ (s : State) (rq : Requester),
      adminOk rq s = true →
      s.hif.ptmEnable = true →
      s.flag F.TIM_PTM_STAT_BUSY 0 = false →
      ∃ t, exec (.ptmTrigger rq) s = .next t ∧
        t.flag F.TIM_PTM_STAT_BUSY 0 = true ∧ t.gf F.TIM_PTM_STAT_CMDST 0 = 0 ∧ t.tim.ptmT1 = s.dtime) ∧
  (∀ (s : State),
      s.hif.ptmEnable = true →
      s.gf F.TIM_PTM_CFG_PERIOD 0 ≠ 0 →
      s.flag F.TIM_PTM_STAT_BUSY 0 = false →
      ∃ t, exec .ptmPeriod s = .next t ∧
        t.flag F.TIM_PTM_STAT_BUSY 0 = true ∧ t.tim.ptmT1 = s.dtime) ∧
  (∀ (s : State) (full : Bool) (mst : BitVec 64) (pdly : BitVec 32),
      s.flag F.TIM_PTM_STAT_BUSY 0 = true →
      full = true →
      ∃ t, exec (.ptmResponse full mst pdly) s = .next t ∧
        t.tim.ptmT4 = s.dtime ∧ t.tim.ptmMst = mst.toNat ∧ t.gf F.TIM_PTM_PDLY_VALUE 0 = pdly.toNat ∧
          t.flag F.TIM_PTM_STAT_BUSY 0 = false ∧ t.flag F.TIM_PTM_STAT_STEPPED 0 = s.tim.ptmStepped ∧
          t.flag F.TIM_PTM_STAT_VALID 0 = !s.tim.ptmStepped) ∧
  (∀ (s : State) (full : Bool) (mst : BitVec 64) (pdly : BitVec 32),
      s.flag F.TIM_PTM_STAT_BUSY 0 = true →
      full = false →
      ∃ t, exec (.ptmResponse full mst pdly) s = .next t ∧
        t.flag F.TIM_PTM_STAT_BUSY 0 = false ∧ t.flag F.TIM_PTM_STAT_VALID 0 = false ∧ bitAt (t.gf F.TIM_EVT_EVT 0) 5 = 1) ∧
  (∀ (s : State),
      s.flag F.TIM_PTM_STAT_BUSY 0 = true →
      ∃ t, exec .ptmTimeout s = .next t ∧
        t.flag F.TIM_PTM_STAT_BUSY 0 = false ∧ t.flag F.TIM_PTM_STAT_VALID 0 = false ∧ bitAt (t.gf F.TIM_EVT_EVT 0) 5 = 1)

/-- Function level resets, the host link and MSI-X. With VF Enable set, a reset of VF f closes its windows and apertures and
masks its vectors. A PF reset, a hot reset or the loss of the host link clears VF Enable, masks every vector and returns the
function configuration to its reset values; the loss of the link also clears HIF_LINK_STAT. Unmasking a vector sends the message
it holds, if any. A configuration-space write sets VF Enable and PTM Enable. (R330, R336, R337, R339) -/
def Obligations.FunctionCommandsTakeEffect : Prop :=
  (∀ (s : State) (f : Fin 64),
      f ≠ 0 →
      s.hif.vfEnable = true →
      ∃ t, exec (.vfFlr f) s = .next t ∧
        t.reg .HIF_VF_WIN_LO f = 0 ∧ t.reg .HIF_VF_WIN_HI f = 0 ∧ t.reg .HIF_AP_LO f = 0 ∧ t.reg .HIF_AP_HI f = 0 ∧
          (∀ k ∈ List.range 2048, Store.get false t.hif.unmasked (2048 * f.val + k) = false ∧
          Store.get false t.hif.msixPend (2048 * f.val + k) = false)) ∧
  (∀ (s : State),
      ∃ t, exec .pfFlr s = .next t ∧
        t.hif.vfEnable = false ∧ t.hif.ptmEnable = false ∧ t.hif.unmasked = [] ∧ t.hif.msixPend = [] ∧
          t.reg .HIF_CFG 0 = State.reset.reg .HIF_CFG 0) ∧
  (∀ (s : State),
      ∃ t, exec .hotReset s = .next t ∧
        t.hif.vfEnable = false ∧ t.hif.ptmEnable = false ∧ t.hif.unmasked = [] ∧ t.hif.msixPend = [] ∧
          t.reg .HIF_CFG 0 = State.reset.reg .HIF_CFG 0) ∧
  (∀ (s : State),
      ∃ t, exec .linkDown s = .next t ∧
        t.hif.vfEnable = false ∧ t.hif.ptmEnable = false ∧ t.hif.unmasked = [] ∧ t.hif.msixPend = [] ∧
          t.reg .HIF_CFG 0 = State.reset.reg .HIF_CFG 0 ∧ t.reg .HIF_LINK_STAT 0 = 0) ∧
  (∀ (s : State) (f : Fin 64) (v : BitVec 11),
      v.toNat < msixShare f s →
      ∃ t, exec (.msixUnmask f v) s = .next t ∧
        Store.get false t.hif.unmasked (2048 * f.val + v.toNat) = true ∧
          Store.get false t.hif.msixPend (2048 * f.val + v.toNat) = false ∧
          (t.hif.msi = if Store.get false s.hif.msixPend (2048 * f.val + v.toNat) then (f.val,
          v.toNat) :: s.hif.msi else s.hif.msi)) ∧
  (∀ (s : State) (vf ptm : Bool),
      ∃ t, exec (.configurationSpaceWrite vf ptm) s = .next t ∧
        t.hif.vfEnable = vf ∧ t.hif.ptmEnable = ptm)

/-- Key slots, life cycle, root keys and the security version counter. From a proctor core or a core in machine mode, with no
pulse in progress: programming an EMPTY eFuse slot in BLANK or BOARD, a battery-backed slot in BOARD or FIELD, revoking a VALID
eFuse slot past BLANK, clearing a VALID battery-backed slot, advancing the life cycle from BLANK, or from BOARD once a root key
is VALID, programming an EMPTY root key in BLANK or BOARD, revoking one of several VALID root keys, and raising the version
counter within the manifest's number each begin a pulse with BUSY and CMDST 0; a key's data registers read zero after its
command. Loss of VBAT empties slots 4 and 5. (R192, R193, R194, R195) -/
def Obligations.KeyCommandsTakeEffect : Prop :=
  (∀ (s : State) (rq : Requester) (slot : BitVec 4),
      procOrM rq s = true →
      s.flag F.SEC_KEY_STATUS_BUSY 0 = false →
      slot.toNat ≤ 3 →
      (keyState slot.toNat s = 0 ∧ s.gf F.GLB_LCS_STATE 0 ≤ 1) →
      ∃ t, exec (.keyProgram rq slot) s = .next t ∧
        t.flag F.SEC_KEY_STATUS_BUSY 0 = true ∧ t.gf F.SEC_KEY_STATUS_CMDST 0 = 0 ∧ t.ld.pulse = some (0, slot.toNat,
          1 + wordsOf .SEC_KEY_DATA 8 s) ∧ (∀ j ∈ List.range 8, t.reg .SEC_KEY_DATA j = 0)) ∧
  (∀ (s : State) (rq : Requester) (slot : BitVec 4),
      procOrM rq s = true →
      s.flag F.SEC_KEY_STATUS_BUSY 0 = false →
      (slot.toNat = 4 ∨ slot.toNat = 5) →
      (s.gf F.GLB_LCS_STATE 0 = 1 ∨ s.gf F.GLB_LCS_STATE 0 = 2) →
      ∃ t, exec (.keyProgram rq slot) s = .next t ∧
        t.flag F.SEC_KEY_STATUS_BUSY 0 = true ∧ t.gf F.SEC_KEY_STATUS_CMDST 0 = 0 ∧ t.ld.pulse = some (0, slot.toNat,
          1 + wordsOf .SEC_KEY_DATA 8 s) ∧ (∀ j ∈ List.range 8, t.reg .SEC_KEY_DATA j = 0)) ∧
  (∀ (s : State) (rq : Requester) (slot : BitVec 4),
      procOrM rq s = true →
      s.flag F.SEC_KEY_STATUS_BUSY 0 = false →
      slot.toNat ≤ 3 →
      (keyState slot.toNat s = 1 ∧ s.gf F.GLB_LCS_STATE 0 ≠ 0) →
      ∃ t, exec (.keyRevoke rq slot) s = .next t ∧
        t.flag F.SEC_KEY_STATUS_BUSY 0 = true ∧ t.gf F.SEC_KEY_STATUS_CMDST 0 = 0 ∧ t.ld.pulse = some (0, slot.toNat, 0) ∧
          (∀ j ∈ List.range 8, t.reg .SEC_KEY_DATA j = 0)) ∧
  (∀ (s : State) (rq : Requester) (slot : BitVec 4),
      procOrM rq s = true →
      s.flag F.SEC_KEY_STATUS_BUSY 0 = false →
      4 ≤ slot.toNat →
      keyState (min slot.toNat 5) s = 1 →
      ∃ t, exec (.keyClear rq slot) s = .next t ∧
        t.flag F.SEC_KEY_STATUS_BUSY 0 = true ∧ t.gf F.SEC_KEY_STATUS_CMDST 0 = 0 ∧ t.ld.pulse = some (0, min slot.toNat 5, 0) ∧
          (∀ j ∈ List.range 8, t.reg .SEC_KEY_DATA j = 0)) ∧
  (∀ (s : State),
      ∃ t, exec .vbatLoss s = .next t ∧
        keyState 4 t = 0 ∧ keyState 5 t = 0 ∧ Store.get 0 t.ld.keys 4 = 0 ∧ Store.get 0 t.ld.keys 5 = 0) ∧
  (∀ (s : State) (rq : Requester),
      procOrM rq s = true →
      s.flag F.SEC_KEY_STATUS_BUSY 0 = false →
      (s.gf F.GLB_LCS_STATE 0 = 0 ∨ (s.gf F.GLB_LCS_STATE 0 = 1 ∧ ∃ k ∈ List.range 4, rkState k s = 1)) →
      ∃ t, exec (.lcAdvance rq) s = .next t ∧
        t.flag F.SEC_KEY_STATUS_BUSY 0 = true ∧ t.gf F.SEC_LC_STAT_CMDST 0 = 0 ∧ t.ld.pulse = some (1, 0,
          s.gf F.GLB_LCS_STATE 0 + 1)) ∧
  (∀ (s : State) (rq : Requester) (k : BitVec 2),
      procOrM rq s = true →
      s.flag F.SEC_KEY_STATUS_BUSY 0 = false →
      (rkState k.toNat s = 0 ∧ s.gf F.GLB_LCS_STATE 0 ≤ 1) →
      ∃ t, exec (.rkProgram rq k) s = .next t ∧
        t.flag F.SEC_KEY_STATUS_BUSY 0 = true ∧ t.gf F.SEC_RK_STAT_CMDST 0 = 0 ∧ t.ld.pulse = some (2, k.toNat,
          1 + wordsOf .SEC_RK_DATA 12 s) ∧ (∀ j ∈ List.range 12, t.reg .SEC_RK_DATA j = 0)) ∧
  (∀ (s : State) (rq : Requester) (k : BitVec 2),
      procOrM rq s = true →
      s.flag F.SEC_KEY_STATUS_BUSY 0 = false →
      rkState k.toNat s = 1 →
      (s.gf F.GLB_LCS_STATE 0 = 1 ∨ s.gf F.GLB_LCS_STATE 0 = 2) →
      (∃ j ∈ List.range 4, j ≠ k.toNat ∧ rkState j s = 1) →
      ∃ t, exec (.rkRevoke rq k) s = .next t ∧
        t.flag F.SEC_KEY_STATUS_BUSY 0 = true ∧ t.gf F.SEC_RK_STAT_CMDST 0 = 0 ∧ t.ld.pulse = some (2, k.toNat, 0) ∧
          (∀ j ∈ List.range 12, t.reg .SEC_RK_DATA j = 0)) ∧
  (∀ (s : State) (rq : Requester) (value : BitVec 8) (m : Nat),
      procOrM rq s = true →
      s.flag F.SEC_KEY_STATUS_BUSY 0 = false →
      (s.gf F.GLB_LCS_STATE 0 = 1 ∨ s.gf F.GLB_LCS_STATE 0 = 2) →
      s.gf F.SEC_SVN_STAT_SVN 0 < min value.toNat 64 →
      s.ld.svn = some m →
      min value.toNat 64 ≤ m →
      ∃ t, exec (.svnAdvance rq value) s = .next t ∧
        t.flag F.SEC_KEY_STATUS_BUSY 0 = true ∧ t.gf F.SEC_SVN_STAT_CMDST 0 = 0 ∧ t.ld.pulse = some (3, 0, min value.toNat 64))

/-- The monitor's mailbox, hall pass expiry, halts, comparators and cross-triggers. MBX_GO from PF0 with the mailbox idle and a
proctor serving makes it busy with the clamped length. Once device time has passed NOT_AFTER, the pass in force ends and its
status clears. A running core with a halt request and no open reservation halts with the request's cause at its next
instruction; with one, the halt is deferred. A comparator that matches an executing address with its halt action asks for a
halt. A cross-trigger pulse leaves the queue and asks every core that takes its channel to halt. A pulse write by the monitor
queues a pulse for each channel. (R361, R367, R371, R375, R385) -/
def Obligations.DebugCommandsTakeEffect : Prop :=
  (∀ (s : State) (rq : Requester) (len : BitVec 11),
      rq = .pf0 →
      s.flag F.DBG_MBX_STAT_BUSY 0 = false →
      s.flag F.DBG_MBX_STAT_ONLINE 0 = true →
      ∃ t, exec (.mbxGo rq len) s = .next t ∧
        t.flag F.DBG_MBX_STAT_BUSY 0 = true ∧ t.gf F.DBG_MBX_STAT_CMDST 0 = 0 ∧
          t.gf F.DBG_MBX_CTL_LEN 0 = max 16 (min 1040 len.toNat)) ∧
  (∀ (s : State) (h : HallPass),
      s.dbg.pass = some h →
      h.notAfter * secUnit < timeUnits s →
      s.flag F.DBG_HP_STAT_ACTIVE 0 = true →
      ∃ t, exec .hallPassExpiry s = .next t ∧
        t.dbg.pass = none ∧ t.reg .DBG_HP_STAT 0 = 0) ∧
  (∀ (s : State) (c : Fin 64) (pc : BitVec 64) (m : Priv) (lr : Bool) (cause cmp : Nat),
      (s.core c).halt = some (cause, cmp) →
      s.cst c = coreRunning →
      s.gf F.RST_PWR_STAT_STATE 0 ≠ 2 →
      lr = false →
      (cause < 8 ∧ cmp < 8) →
      ∃ t, exec (.coreHalt c pc m lr) s = .next t ∧
        t.cst c = coreHalted ∧ t.gf F.DBG_CORE_STAT_CAUSE c = cause ∧ t.gf F.DBG_CORE_STAT_CMP c = cmp ∧ (t.core c).pc = pc.toNat ∧
          (t.core c).priv = privCode m ∧ (t.core c).halt = none) ∧
  (∀ (s : State) (c : Fin 64) (pc : BitVec 64) (m : Priv) (lr : Bool),
      (s.core c).halt ≠ none →
      s.cst c = coreRunning →
      s.gf F.RST_PWR_STAT_STATE 0 ≠ 2 →
      lr = true →
      ∃ t, exec (.coreHalt c pc m lr) s = .next t ∧
        t.cst c = coreRunning ∧ t.flag F.DBG_CORE_STAT_DEFER c = true ∧ (t.core c).halt = (s.core c).halt) ∧
  (∀ (s : State) (c : Fin 64) (m : Priv) (asid : BitVec 16) (pc : BitVec 64) (acc : Option CoreAcc) (k : Fin 8),
      s.cst c = coreRunning →
      s.gf F.RST_PWR_STAT_STATE 0 ≠ 2 →
      acc = none →
      cmprActs s c k m asid.toNat pc.toNat none = true →
      (∀ j ∈ List.range 8, j ≠ k.val → cmprActs s c j m asid.toNat pc.toNat none = false) →
      (s.cmpr c k).action = 1 →
      (s.core c).halt = none →
      ∃ t, exec (.comparatorMatch c m asid pc acc) s = .next t ∧
        (t.core c).halt = some (2, k.val) ∧ (t.core c).priv = privCode m) ∧
  (∀ (s : State) (k : Nat) (rest : List Nat) (c : Fin 64),
      (s.dbg.cti = k :: rest) →
      ∃ t, exec .ctiPulse s = .next t ∧
        (s.cst c = coreRunning ∧ bitAt (s.gf F.DBG_CTI_CORE_IN c) k = 1 ∧ (s.core c).halt = none → (t.core c).halt = some (3, 0))) ∧
  (∀ (s : State) (rq : Requester) (w : BitVec 16),
      rq = .monitor →
      ∃ t, exec (.dbgCtiPulseWrite rq w) s = .next t ∧
        (t.dbg.cti = s.dbg.cti ++ (List.range 16).filter fun k => bitAt w.toNat k = 1) ∧ t.resp.status = 0)

/-- The monitor serves its core and memory requests. A request with a right MAGIC, VERSION, LEN and CRC, a sequence number not
answered last on its transport and the command's payload, while the monitor serves the transport, takes effect and leaves the
transport's answer with that sequence number: HALT asks running cores to halt; RESUME runs the halted ones on; STEP of a halted
core asks it to halt again with cause 4; READ and WRITE reach a halted core's x registers; PEEK reads device memory. (R360,
R362, R363, R364, R365, R367) -/
def Obligations.MonitorCoreCommandsTakeEffect : Prop :=
  (∀ (s : State) (u : Fin 3) (b : List Byte) (c : Fin 64) (x : List Nat),
      (x = monBytes u.val (b.map (·.toNat)) s) →
      monServes u.val s = true →
      (frameOk x = true ∧ x.getD 6 0 = 1 ∧ leAt x 8 2 = 9) →
      ((Store.get ({} : MonPort) s.dbg.ports u.val).seq ≠ some (leAt x 4 2)) →
      (bitAt (leAt x 12 8) c = 1 ∧ bitAt (x.getD 20 0) 0 = 0) →
      s.cst c = coreRunning →
      (s.core c).halt = none →
      ∃ t, exec (.monHalt u b) s = .next t ∧
        (t.core c).halt = some (1, 0) ∧ (Store.get ({} : MonPort) t.dbg.ports u.val).seq = some (leAt x 4 2)) ∧
  (∀ (s : State) (u : Fin 3) (b : List Byte) (c : Fin 64) (x : List Nat),
      (x = monBytes u.val (b.map (·.toNat)) s) →
      monServes u.val s = true →
      (frameOk x = true ∧ x.getD 6 0 = 2 ∧ leAt x 8 2 = 8) →
      ((Store.get ({} : MonPort) s.dbg.ports u.val).seq ≠ some (leAt x 4 2)) →
      bitAt (leAt x 12 8) c = 1 →
      s.cst c = coreHalted →
      ∃ t, exec (.monResume u b) s = .next t ∧
        t.cst c = coreRunning ∧ t.flag F.DBG_CORE_STAT_ONRESET c = false ∧
          (Store.get ({} : MonPort) t.dbg.ports u.val).seq = some (leAt x 4 2)) ∧
  (∀ (s : State) (u : Fin 3) (b : List Byte) (ended : Bool) (c : Fin 64) (x : List Nat),
      (x = monBytes u.val (b.map (·.toNat)) s) →
      monServes u.val s = true →
      (frameOk x = true ∧ x.getD 6 0 = 3 ∧ leAt x 8 2 = 4) →
      ((Store.get ({} : MonPort) s.dbg.ports u.val).seq ≠ some (leAt x 4 2)) →
      x.getD 12 0 = c →
      s.cst c = coreHalted →
      ended = false →
      ∃ t, exec (.monStep u b ended) s = .next t ∧
        t.cst c = coreRunning ∧ (t.core c).halt = some (4, 0) ∧ (t.core c).step = some (decide (bitAt (x.getD 13 0) 0 = 1)) ∧
          Store.get ({} : MonPort) t.dbg.ports u.val =
          { seq := some (leAt x 4 2), resp := monFrame 1 (leAt x 4 2) 3 0 ([coreRunning]) }) ∧
  (∀ (s : State) (u : Fin 3) (b : List Byte) (ended : Bool) (c : Fin 64) (x : List Nat),
      (x = monBytes u.val (b.map (·.toNat)) s) →
      monServes u.val s = true →
      (frameOk x = true ∧ x.getD 6 0 = 3 ∧ leAt x 8 2 = 4) →
      ((Store.get ({} : MonPort) s.dbg.ports u.val).seq ≠ some (leAt x 4 2)) →
      x.getD 12 0 = c →
      s.cst c = coreHalted →
      ended = true →
      ∃ t, exec (.monStep u b ended) s = .next t ∧
        t.cst c = coreHalted ∧ t.gf F.DBG_CORE_STAT_CAUSE c = 4 ∧
          Store.get ({} : MonPort) t.dbg.ports u.val =
          { seq := some (leAt x 4 2), resp := monFrame 1 (leAt x 4 2) 3 0 ([coreHalted]) }) ∧
  (∀ (s : State) (u : Fin 3) (b : List Byte) (c : Fin 64) (a : Fin 32) (x : List Nat),
      (x = monBytes u.val (b.map (·.toNat)) s) →
      monServes u.val s = true →
      (frameOk x = true ∧ x.getD 6 0 = 4 ∧ leAt x 8 2 = 16) →
      ((Store.get ({} : MonPort) s.dbg.ports u.val).seq ≠ some (leAt x 4 2)) →
      (x.getD 12 0 = 1 ∧ x.getD 13 0 = c ∧ x.getD 14 0 = 8 ∧ leAt x 16 2 = 1 ∧ leAt x 20 8 = a) →
      s.cst c = coreHalted →
      (coreExcluded c s = false ∨ s.gf F.DBG_CORE_STAT_MPRIV c ≠ 1) →
      ∃ t, exec (.monRead u b) s = .next t ∧
        Store.get ({} : MonPort) t.dbg.ports u.val =
          { seq := some (leAt x 4 2), resp := monFrame 1 (leAt x 4 2) 4 0 (toBytes 8 (xRead c a s)) }) ∧
  (∀ (s : State) (u : Fin 3) (b : List Byte) (c : Fin 64) (a : Fin 32) (d : BitVec 64) (x : List Nat),
      (x = monBytes u.val (b.map (·.toNat)) s) →
      monServes u.val s = true →
      (frameOk x = true ∧ x.getD 6 0 = 5 ∧ leAt x 8 2 = 24) →
      ((Store.get ({} : MonPort) s.dbg.ports u.val).seq ≠ some (leAt x 4 2)) →
      (x.getD 12 0 = 1 ∧ x.getD 13 0 = c ∧ x.getD 14 0 = 8 ∧ leAt x 16 2 = 1 ∧ leAt x 20 8 = a ∧ leAt x 28 8 = d.toNat) →
      s.cst c = coreHalted →
      (coreExcluded c s = false ∨ s.gf F.DBG_CORE_STAT_MPRIV c ≠ 1) →
      ∃ t, exec (.monWrite u b) s = .next t ∧
        (xRead c a t = if a = 0 then 0 else d.toNat) ∧
          Store.get ({} : MonPort) t.dbg.ports u.val = { seq := some (leAt x 4 2), resp := monFrame 1 (leAt x 4 2) 5 0 ([]) }) ∧
  (∀ (s : State) (u : Fin 3) (b : List Byte) (a : BitVec 20) (x : List Nat),
      (x = monBytes u.val (b.map (·.toNat)) s) →
      monServes u.val s = true →
      (frameOk x = true ∧ x.getD 6 0 = 6 ∧ leAt x 8 2 = 16) →
      ((Store.get ({} : MonPort) s.dbg.ports u.val).seq ≠ some (leAt x 4 2)) →
      (x.getD 12 0 = 0 ∧ x.getD 14 0 = 4 ∧ leAt x 16 2 = 1 ∧ leAt x 20 8 = 4 * a.toNat) →
      ((ctrlRead .monitor true (monForce u.val (b.map (·.toNat)) s) (4 * a.toNat) (wakeBy 2 (if u.val = 1 then peerSeen s else
        s))).resp.status = 0) →
      ∃ t, exec (.monPeek u b) s = .next t ∧
        (Store.get ({} : MonPort) t.dbg.ports u.val =
          { seq := some (leAt x 4 2), resp := monFrame 1 (leAt x 4 2) 6 0 (toBytes 4 (ctrlRead .monitor true (monForce u.val (b.map (·.toNat)) s) (4 * a.toNat) (wakeBy 2 (if u.val = 1 then peerSeen s else s))).resp.data) }))

/-- The monitor serves its comparator, trace, freeze and hall pass requests. A request with a right MAGIC, VERSION, LEN and CRC,
a sequence number not answered last on its transport and the command's payload, while the monitor serves the transport, takes
effect and leaves the transport's answer with that sequence number: SETBP and SETWP load a comparator; TRACECFG sets a core's
trace; FREEZE raises FREEZE_NOW to the named live partition; CAPTURE answers the partition's command status; NONCE answers the
nonce; PRESENT begins or refuses a pass; WITHDRAW ends the pass. A frame with a wrong CRC is counted and dropped, a reserved
command is answered malformed. (R360, R367, R369, R370, R378, R384, R385) -/
def Obligations.MonitorDebugCommandsTakeEffect : Prop :=
  (∀ (s : State) (u : Fin 3) (b : List Byte) (c : Fin 64) (k : Fin 8) (x : List Nat),
      (x = monBytes u.val (b.map (·.toNat)) s) →
      monServes u.val s = true →
      (frameOk x = true ∧ x.getD 6 0 = 7 ∧ leAt x 8 2 = 26) →
      ((Store.get ({} : MonPort) s.dbg.ports u.val).seq ≠ some (leAt x 4 2)) →
      (x.getD 12 0 = c ∧ x.getD 13 0 = k) →
      ∃ t, exec (.monSetbp u b) s = .next t ∧
        t.cmpr c k = { cmprOf c k ((x.drop 14).take 24) s with kind := min (x.getD 30 0) 1 } ∧
          Store.get ({} : MonPort) t.dbg.ports u.val = { seq := some (leAt x 4 2), resp := monFrame 1 (leAt x 4 2) 7 0 ([]) }) ∧
  (∀ (s : State) (u : Fin 3) (b : List Byte) (c : Fin 64) (k : Fin 8) (x : List Nat),
      (x = monBytes u.val (b.map (·.toNat)) s) →
      monServes u.val s = true →
      (frameOk x = true ∧ x.getD 6 0 = 8 ∧ leAt x 8 2 = 26) →
      ((Store.get ({} : MonPort) s.dbg.ports u.val).seq ≠ some (leAt x 4 2)) →
      (x.getD 12 0 = c ∧ x.getD 13 0 = k) →
      ∃ t, exec (.monSetwp u b) s = .next t ∧
        (t.cmpr c k = { cmprOf c k ((x.drop 14).take 24) s with kind := if x.getD 30 0 = 1 then 0 else min (x.getD 30 0) 5 }) ∧
          Store.get ({} : MonPort) t.dbg.ports u.val = { seq := some (leAt x 4 2), resp := monFrame 1 (leAt x 4 2) 8 0 ([]) }) ∧
  (∀ (s : State) (u : Fin 3) (b : List Byte) (c : Fin 64) (x : List Nat),
      (x = monBytes u.val (b.map (·.toNat)) s) →
      monServes u.val s = true →
      (frameOk x = true ∧ x.getD 6 0 = 9 ∧ leAt x 8 2 = 16) →
      ((Store.get ({} : MonPort) s.dbg.ports u.val).seq ≠ some (leAt x 4 2)) →
      leAt x 12 8 = 2 ^ c.val →
      ∃ t, exec (.monTracecfg u b) s = .next t ∧
        (t.core c).trc.flags = x.getD 20 0 % 16 ∧ (t.core c).trc.syncLog = max 8 (min 16 (x.getD 21 0)) ∧
          (t.core c).trc.cti = leAt x 22 2 ∧ (t.core c).trc.post = leAt x 24 4 ∧ (s.cst c ≠ coreRunning →
          t.gf F.DBG_CORE_STAT_TRC c = if bitAt (x.getD 20 0) 0 = 1 then ctRunning else trcOff) ∧
          Store.get ({} : MonPort) t.dbg.ports u.val = { seq := some (leAt x 4 2), resp := monFrame 1 (leAt x 4 2) 9 0 ([]) }) ∧
  (∀ (s : State) (u : Fin 3) (b : List Byte) (p : Fin 16) (x : List Nat),
      (x = monBytes u.val (b.map (·.toNat)) s) →
      monServes u.val s = true →
      (frameOk x = true ∧ x.getD 6 0 = 10 ∧ leAt x 8 2 = 3) →
      ((Store.get ({} : MonPort) s.dbg.ports u.val).seq ≠ some (leAt x 4 2)) →
      (leAt x 12 2 = 2 ^ p.val ∧ x.getD 14 0 = 0) →
      s.live p = true →
      s.flag F.TRC_REPLAY_STAT_RESTORING p = false →
      s.hasCause p 8 = false →
      (∀ q ∈ ((s.fz p).ctl (s.leadBase p)).raised, q.cause ≠ 8) →
      ∃ t, exec (.monFreeze u b) s = .next t ∧
        t.gf F.PART_CMD_STATUS_STATUS p = 0 ∧ ((t.fz p).ctl (s.leadBase p)).raised = ((s.fz p).ctl (s.leadBase p)).raised ++
          [⟨s.scc, 8, 0⟩] ∧ (Store.get ({} : MonPort) t.dbg.ports u.val =
          { seq := some (leAt x 4 2), resp := monFrame 1 (leAt x 4 2) 10 0 ((List.range 16).map fun i => t.gf F.PART_CMD_STATUS_STATUS i) })) ∧
  (∀ (s : State) (u : Fin 3) (b : List Byte) (p : Fin 16) (x : List Nat),
      (x = monBytes u.val (b.map (·.toNat)) s) →
      monServes u.val s = true →
      (frameOk x = true ∧ x.getD 6 0 = 11 ∧ leAt x 8 2 = 4) →
      ((Store.get ({} : MonPort) s.dbg.ports u.val).seq ≠ some (leAt x 4 2)) →
      x.getD 12 0 = p →
      ∃ t, exec (.monCapture u b) s = .next t ∧
        t.gf F.PART_CMD_STATUS_STATUS p = (cmdCapture .monitor p (leAt x 14 2) s).gf F.PART_CMD_STATUS_STATUS p ∧
          Store.get ({} : MonPort) t.dbg.ports u.val =
          { seq := some (leAt x 4 2), resp := monFrame 1 (leAt x 4 2) 11 (t.gf F.PART_CMD_STATUS_STATUS p) (toBytes 4 (t.reg .PART_CMD_STATUS p).toNat) }) ∧
  (∀ (s : State) (u : Fin 3) (b : List Byte) (x : List Nat),
      (x = monBytes u.val (b.map (·.toNat)) s) →
      monServes u.val s = true →
      (frameOk x = true ∧ x.getD 6 0 = 12 ∧ leAt x 8 2 = 1) →
      ((Store.get ({} : MonPort) s.dbg.ports u.val).seq ≠ some (leAt x 4 2)) →
      x.getD 12 0 = 0 →
      ∃ t, exec (.hallpassNonce u b) s = .next t ∧
        Store.get ({} : MonPort) t.dbg.ports u.val =
          { seq := some (leAt x 4 2), resp := monFrame 1 (leAt x 4 2) 12 0 (nonceBytes s) }) ∧
  (∀ (s : State) (u : Fin 3) (b : List Byte) (x : List Nat),
      (x = monBytes u.val (b.map (·.toNat)) s) →
      monServes u.val s = true →
      (frameOk x = true ∧ x.getD 6 0 = 12 ∧ leAt x 8 2 = 257) →
      ((Store.get ({} : MonPort) s.dbg.ports u.val).seq ≠ some (leAt x 4 2)) →
      x.getD 12 0 = 1 →
      passOk ((x.drop 13).take 256) s = false →
      ∃ t, exec (.hallpassPresent u b) s = .next t ∧
        t.dbg.nonce = s.dbg.nonce + 1 ∧ t.dbg.pass = s.dbg.pass ∧
          Store.get ({} : MonPort) t.dbg.ports u.val = { seq := some (leAt x 4 2), resp := monFrame 1 (leAt x 4 2) 12 0x21 ([]) }) ∧
  (∀ (s : State) (u : Fin 3) (b : List Byte) (x : List Nat),
      (x = monBytes u.val (b.map (·.toNat)) s) →
      monServes u.val s = true →
      (frameOk x = true ∧ x.getD 6 0 = 12 ∧ leAt x 8 2 = 1) →
      ((Store.get ({} : MonPort) s.dbg.ports u.val).seq ≠ some (leAt x 4 2)) →
      x.getD 12 0 = 2 →
      s.flag F.DBG_HP_STAT_ACTIVE 0 = true →
      ∃ t, exec (.hallpassWithdraw u b) s = .next t ∧
        t.dbg.pass = none ∧ t.reg .DBG_HP_STAT 0 = 0 ∧
          Store.get ({} : MonPort) t.dbg.ports u.val = { seq := some (leAt x 4 2), resp := monFrame 1 (leAt x 4 2) 12 0 ([]) }) ∧
  (∀ (s : State) (u : Fin 3) (b : List Byte) (busy : Bool) (x : List Nat),
      (x = monBytes u.val (b.map (·.toNat)) s) →
      monServes u.val s = true →
      busy = false →
      frameOk x = false →
      ∃ t, exec (.badMonitorFrame u b busy) s = .next t ∧
        t.gf F.DBG_MBX_STAT_BADFRM 0 = min (s.gf F.DBG_MBX_STAT_BADFRM 0 + 1) (2 ^ F.DBG_MBX_STAT_BADFRM.w - 1) ∧
          t.dbg.ports = s.dbg.ports ∧ t.dbg.out = s.dbg.out) ∧
  (∀ (s : State) (u : Fin 3) (b : List Byte) (busy : Bool) (x : List Nat),
      (x = monBytes u.val (b.map (·.toNat)) s) →
      monServes u.val s = true →
      (frameOk x = true ∧ frameReserved x = true) →
      ((Store.get ({} : MonPort) s.dbg.ports u.val).seq ≠ some (leAt x 4 2)) →
      busy = false →
      ∃ t, exec (.badMonitorFrame u b busy) s = .next t ∧
        Store.get ({} : MonPort) t.dbg.ports u.val =
          { seq := some (leAt x 4 2), resp := monFrame 1 (leAt x 4 2) (x.getD 6 0) 0x21 ([6]) })

/-- Requests, responses and timeouts of the transaction network. A request whose packet reaches its target over a route in both
directions, with a current epoch where the requester carries one, a legal form and no refusal in the core itself, is performed
at the target; its answer waits for RESPONSE and nothing else of the state depends on the way. A posted write of a register word
acts as the register write. RESPONSE delivers the answer of the oldest request under its tag; a timeout ends it with ERRKIND 7
and counts. A doorbell write is a tail write of the function. A device write to an open aperture becomes a memory write of the
host. (R296, R323, R324, R326, R327, R328, R332, R334, R335, R338) -/
def Obligations.NetworkRequestsTakeEffect : Prop :=
  (∀ (s : State) (rq : Requester) (k : Pkt) (len : Byte) (peek force fetch badOp : Bool) (n : Nat) (q : List Nat × State),
      n = len.toNat + 1 →
      (coreBars rq (if fetch then 3 else 0) k.addr.toNat n = false) →
      k.cut = 0 →
      crosses k.src.val k.dst.val s = true →
      (hasEpoch rq = true → k.epoch.toNat = reqEpoch rq s) →
      (badOp = false ∧ k.addr.toNat % 4096 + n ≤ 4096) →
      q = targetRead rq k.bar.val peek force k.addr.toNat n s →
      crosses k.dst.val k.src.val q.2 = true →
      ∃ t, exec (.netRead rq k len peek force fetch badOp) s = .next t ∧
        (t = { q.2 with resp := s.resp, tn := { q.2.tn with flight := q.2.tn.flight ++ [{ rq := rq, tag := k.tag.toNat, kind := if fetch then 3 else 0, ans := some (if q.2.resp.status = 0 then q.1 else [], q.2.resp.status, q.2.resp.errkind) }] } })) ∧
  (∀ (s : State) (rq : Requester) (k : Pkt) (be : BitVec 64) (data : List Byte) (q : State),
      isHost rq = false →
      (0 < data.length ∧ data.length ≤ 256) →
      coreBars rq 1 k.addr.toNat data.length = false →
      k.cut = 0 →
      crosses k.src.val k.dst.val s = true →
      (hasEpoch rq = true → k.epoch.toNat = reqEpoch rq s) →
      k.addr.toNat % 4096 + data.length ≤ 4096 →
      (q = targetWrite rq k.bar.val k.addr.toNat (data.map (·.toNat)) (enables be.toNat) s) →
      crosses k.dst.val k.src.val q = true →
      ∃ t, exec (.netWrite rq k be data) s = .next t ∧
        t = { q with resp := s.resp, tn := { q.tn with flight := q.tn.flight ++ [{ rq := rq, tag := k.tag.toNat, kind := 1, ans := some ([], q.resp.status, q.resp.errkind) }] } }) ∧
  (∀ (s : State) (rq : Requester) (k : Pkt) (be : BitVec 64) (data : List Byte) (r : Reg) (i : Nat),
      (data.length = 4 ∧ k.addr.toNat % 4 = 0 ∧ k.addr.toNat < 0x1700000 ∧ k.bar = 0) →
      be.toNat % 16 = 15 →
      within k.addr.toNat lockerBase 0x10000 = false →
      regAt k.addr.toNat = some (r, i) →
      k.cut = 0 →
      crosses k.src.val k.dst.val s = true →
      (hasEpoch rq = true → k.epoch.toNat = reqEpoch rq s) →
      ∃ t, exec (.netWriteP rq k be data) s = .next t ∧
        t = { markPosted rq s (regWrite rq r i (fromBytes (data.map (·.toNat))) s) with resp := s.resp }) ∧
  (∀ (s : State) (rq : Requester) (k : Pkt) (op : AmoOp) (wide : Bool) (v : BitVec 64) (n : Nat) (q : List Nat × State),
      (n = if wide then 8 else 4) →
      (isHost rq = false ∧ k.addr.toNat % n = 0) →
      coreBars rq 2 k.addr.toNat n = false →
      k.cut = 0 →
      crosses k.src.val k.dst.val s = true →
      (hasEpoch rq = true → k.epoch.toNat = reqEpoch rq s) →
      q = targetAmo rq op n k.addr.toNat v.toNat s →
      crosses k.dst.val k.src.val q.2 = true →
      ∃ t, exec (.netAmo rq k op wide v) s = .next t ∧
        (t = { q.2 with resp := s.resp, tn := { q.2.tn with flight := q.2.tn.flight ++ [{ rq := rq, tag := k.tag.toNat, kind := 2, ans := some (if q.2.resp.status = 0 then q.1 else [], q.2.resp.status, q.2.resp.errkind) }] } })) ∧
  (∀ (s : State) (rq : Requester) (tag : Byte) (b : List Nat) (r : TnReq),
      findReq rq tag.toNat s = some r →
      r.ans = some (b, 0, 0) →
      ∃ t, exec (.response rq tag) s = .next t ∧
        t = { dropReq rq tag.toNat s with resp := { data := fromBytes b, status := 0, errkind := 0 } }) ∧
  (∀ (s : State) (rq : Requester) (tag : Byte) (c : Fin 64) (m : Priv) (b : List Nat) (kd : Fin 4) (st ek : Nat),
      rq = .core c m →
      (findReq rq tag.toNat s = some { rq := rq, tag := tag.toNat, kind := kd.val, ans := some (b, st, ek) }) →
      st ≠ 0 →
      ∃ t, exec (.response rq tag) s = .next t ∧
        ((t.core c).trap = some (if kd.val = 0 then 5 else if kd.val = 3 then 1 else 7)) ∧
          t.resp = { data := fromBytes b, status := st, errkind := ek } ∧ t.tn = (dropReq rq tag.toNat s).tn) ∧
  (∀ (s : State) (rq : Requester) (tag : Byte) (r : TnReq),
      findReq rq tag.toNat s = some r →
      ∃ t, exec (.requestTimeout rq tag) s = .next t ∧
        t.tn.flight = (dropReq rq tag.toNat s).tn.flight ∧ t.resp.errkind = 7 ∧
          t.gf F.NET_TN_ERR_TIMEOUT 0 = min (s.gf F.NET_TN_ERR_TIMEOUT 0 + 1) (2 ^ F.NET_TN_ERR_TIMEOUT.w - 1)) ∧
  (∀ (s : State) (f : Fin 64) (q : Fin 16384) (v : Word),
      (f = 0 ∨ (s.hif.vfEnable = true ∧ s.gf F.DSP_Q_CFG_OWNER q = f)) →
      s.gf F.DSP_Q_CFG_OWNER q ≠ 0x40 →
      (s.qst q = qEnabled ∨ s.qst q = qPaused) →
      qFull q s = false →
      ∃ t, exec (.doorbell f q v) s = .next t ∧
        t.gf F.DSP_Q_TAIL_TAIL q = (s.gf F.DSP_Q_HEAD_HEAD q + min ((v.toNat % 2 ^ 17 + 2 ^ 17 - s.gf F.DSP_Q_HEAD_HEAD q) % 2 ^
          17) (2 ^ qDepth q s)) % 2 ^ 17 ∧ t.gf F.DSP_Q_STAT_CMDST q = 0) ∧
  (∀ (s : State) (rq : Requester) (f : Fin 64) (off : BitVec 40) (write : Bool) (data : List Byte),
      apUser rq = true →
      write = true →
      apOpen f s = true →
      ∃ t, exec (.apertureRequest rq f off write data) s = .next t ∧
        t.hif.out = (f.val, apHost f (apBase + f * 2 ^ 40 + off.toNat) s, true, data.map (·.toNat)) :: s.hif.out ∧
          t.resp.status = 0) ∧
  (∀ (s : State) (rq : Requester) (f : Fin 64) (off : BitVec 40) (write : Bool) (data : List Byte),
      apUser rq = true →
      write = false →
      apOpen f s = true →
      ∃ t, exec (.apertureRequest rq f off write data) s = .next t ∧
        (t.hif.out = (f.val, apHost f (apBase + f * 2 ^ 40 + off.toNat) s, false,
          (List.range data.length).map fun i => (Config.hostByte i s.seq).toNat) :: s.hif.out) ∧ t.resp.status = 0)

/-- The Xdax instructions and the waits they begin. On a running core that does not wait, in M or S mode or with dxctl.UX set:
dx.bellwait answers at once where the bell is reached, with reason 1 where the partition is not live, and waits otherwise; a
wake whose condition holds writes rd and ends the wait. dx.deskpop makes entry 0 of the desk slot the current task; with an
empty slot it answers empty under nowait and waits otherwise, until the wait ends by the limit or an interrupt. dx.deskdone
completes the current task. dx.qpush of a readable descriptor moves the tail of an INTERNAL queue. dx.tick advances a SOFT
source. In U mode with UX clear each raises an illegal-instruction exception. Once POST instructions have retired after the
trigger, a core trace stops. (R298, R299, R300, R301, R302, R303, R379) -/
def Obligations.TutorInstructionsTakeEffect : Prop :=
  (∀ (s : State) (c : Fin 64) (m : Priv) (rd : Fin 32) (v1 v2 : BitVec 64),
      coreFree c s = true →
      (m ≠ .user ∨ bitAt (csrHeld c csrCtl s) 0 = 1) →
      ∃ t, exec (.dxBellwait c m rd v1 v2) s = .next t ∧
        (v2.toNat % 2 ^ 48 ≤ (s.part (v1.toNat % 16)).bell % 2 ^ 48 →
          xRead c rd t = if rd.val = 0 then 0 else (s.part (v1.toNat % 16)).bell % 2 ^ 48) ∧
          ((s.part (v1.toNat % 16)).bell % 2 ^ 48 < v2.toNat % 2 ^ 48 ∧ s.live (v1.toNat % 16) = false →
          xRead c rd t = if rd.val = 0 then 0 else (s.part (v1.toNat % 16)).bell % 2 ^ 48 + 2 ^ 60) ∧
          ((s.part (v1.toNat % 16)).bell % 2 ^ 48 < v2.toNat % 2 ^ 48 ∧ s.live (v1.toNat % 16) = true →
          (t.core c).wait = some { bell := some (v1.toNat % 16, v2.toNat % 2 ^ 48), rd := rd })) ∧
  (∀ (s : State) (c : Fin 64) (m : Priv) (rd : Fin 32) (v1 v2 : BitVec 64),
      coreFree c s = true →
      (m = .user ∧ bitAt (csrHeld c csrCtl s) 0 = 0) →
      ∃ t, exec (.dxBellwait c m rd v1 v2) s = .next t ∧
        (t.core c).trap = some 2 ∧ xRead c rd t = xRead c rd s) ∧
  (∀ (s : State) (c : Fin 64) (reason : Fin 4) (p target rd : Nat),
      ((s.core c).wait = some { bell := some (p, target), rd := rd }) →
      bellEnds c p target reason s = true →
      ∃ t, exec (.bellwaitWake c reason) s = .next t ∧
        ((t.core c).wait = none ∧ xRead c rd t = if rd = 0 then 0 else ((s.part p).bell % 2 ^ 48 + reason.val * 2 ^ 60) % 2 ^ 64)) ∧
  (∀ (s : State) (c : Fin 64) (m : Priv) (rd : Fin 32) (v1 : BitVec 64) (k : Task) (rest : List Task),
      coreFree c s = true →
      (m ≠ .user ∨ bitAt (csrHeld c csrCtl s) 0 = 1) →
      (s.core c).cur = none →
      ((s.core c).desk = k :: rest) →
      ∃ t, exec (.dxDeskpop c m rd v1) s = .next t ∧
        ((t.core c).cur = some k ∧ (t.core c).desk = rest ∧ xRead c rd t = if rd.val = 0 then 0 else k.entry % 2 ^ 64)) ∧
  (∀ (s : State) (c : Fin 64) (m : Priv) (rd : Fin 32) (v1 : BitVec 64),
      coreFree c s = true →
      (m ≠ .user ∨ bitAt (csrHeld c csrCtl s) 0 = 1) →
      (s.core c).cur = none →
      ((s.core c).desk = []) →
      ∃ t, exec (.dxDeskpop c m rd v1) s = .next t ∧
        (v1.toNat % 2 = 1 → xRead c rd t = if rd.val = 0 then 0 else 2 ^ 63) ∧ (v1.toNat % 2 = 0 →
          (t.core c).wait = some { bell := none, rd := rd })) ∧
  (∀ (s : State) (c : Fin 64) (irq : Bool) (rd : Nat),
      ((s.core c).wait = some { bell := none, rd := rd }) →
      (irq = true ∨ csrHeld c csrTmo s / 65536 % 65536 ≠ 0) →
      ∃ t, exec (.deskpopTimeout c irq) s = .next t ∧
        ((t.core c).wait = none ∧ xRead c rd t = if rd = 0 then 0 else 2 ^ 63)) ∧
  (∀ (s : State) (c : Fin 64) (m : Priv) (rd : Fin 32) (v1 : BitVec 64) (k : Task),
      coreFree c s = true →
      (m ≠ .user ∨ bitAt (csrHeld c csrCtl s) 0 = 1) →
      (s.core c).cur = some k →
      ∃ t, exec (.dxDeskdone c m rd v1) s = .next t ∧
        (t.core c).cur = none ∧ xRead c rd t = 0 ∧ t.gf F.DSP_Q_STAT_INFLIGHT k.queue = s.gf F.DSP_Q_STAT_INFLIGHT k.queue - 1) ∧
  (∀ (s : State) (c : Fin 64) (m : Priv) (rd : Fin 32) (v1 v2 : BitVec 64) (q : Nat) (x : State) (u : List Nat × State),
      coreFree c s = true →
      (m ≠ .user ∨ bitAt (csrHeld c csrCtl s) 0 = 1) →
      q = v1.toNat % 16384 →
      s.gf F.DSP_Q_CFG_OWNER q = 0x40 →
      pushLegal q s = true →
      regionAt (v2.toNat % 2 ^ 48) ≠ .control →
      (x = s.modCore c fun r => { r with priv := privCode m }) →
      u = memRead (.core c m) (v2.toNat % 2 ^ 48) 32 x →
      u.2.resp.status = 0 →
      ∃ t, exec (.dxQpush c m rd v1 v2) s = .next t ∧
        t.gf F.DSP_Q_TAIL_TAIL q = (s.gf F.DSP_Q_TAIL_TAIL q + 1) % 2 ^ 17 ∧ t.gf F.DSP_Q_STAT_CMDST q = 0 ∧
          (xRead c rd t = if rd.val = 0 then 0 else s.gf F.DSP_Q_TAIL_TAIL q * 65536)) ∧
  (∀ (s : State) (c : Fin 64) (m : Priv) (rd : Fin 32) (v1 : BitVec 64),
      coreFree c s = true →
      (m ≠ .user ∨ bitAt (csrHeld c csrCtl s) 0 = 1) →
      s.gf F.DSP_TICK_CFG_KIND (v1.toNat % 4) = 4 →
      ∃ t, exec (.dxTick c m rd v1) s = .next t ∧
        t.gf F.DSP_TICK_CNT_COUNT (v1.toNat % 4) = (s.gf F.DSP_TICK_CNT_COUNT (v1.toNat % 4) + 1) % 2 ^ 32 ∧ xRead c rd t = 0) ∧
  (∀ (s : State) (c : Fin 64),
      s.gf F.DBG_CORE_STAT_TRC c = ctTriggered →
      ∃ t, exec (.coreTraceStop c) s = .next t ∧
        t.gf F.DBG_CORE_STAT_TRC c = ctStopped)

/-- Queues, placement, tick sources and core enables. From a requester the queue admits: a tail write of an enabled or paused
queue with room moves the tail; ENABLE of a disabled queue with a ring and UNPAUSE of a paused one leave it enabled, or paused
with a read error; PAUSE pauses it; DISABLE drains it, at once disabled where nothing is in flight; FLUSH empties it; a new
configuration is staged, and is in force where nothing is in flight. Placement takes the head of the first ready queue to the
chosen core, or displaces an entry. A tick of a source that counts moves its count. A core's enable is set only for a held role;
its disable returns its desk slot. (R308, R311, R312, R313, R314, R315, R316, R317, R318) -/
def Obligations.DispatcherCommandsTakeEffect : Prop :=
  (∀ (s : State) (rq : Requester) (q : Fin 16384) (v : BitVec 32),
      (rq = .pf0 ∨ rq = .monitor) →
      s.gf F.DSP_Q_CFG_OWNER q ≠ 0x40 →
      (s.qst q = qEnabled ∨ s.qst q = qPaused) →
      qFull q s = false →
      ∃ t, exec (.queueTailWrite rq q v) s = .next t ∧
        t.gf F.DSP_Q_TAIL_TAIL q = (s.gf F.DSP_Q_HEAD_HEAD q + min ((v.toNat % 2 ^ 17 + 2 ^ 17 - s.gf F.DSP_Q_HEAD_HEAD q) % 2 ^
          17) (2 ^ qDepth q s)) % 2 ^ 17 ∧ t.gf F.DSP_Q_STAT_CMDST q = 0) ∧
  (∀ (s : State) (rq : Requester) (q : Fin 16384),
      qCmdOk rq q s = true →
      (s.qst q = qDisabled ∧ 1 ≤ qDepth q s) →
      ∃ t, exec (.qEnable rq q) s = .next t ∧
        t.gf F.DSP_Q_STAT_CMDST q = 0 ∧ (t.qst q = qEnabled ∨ (t.qst q = qPaused ∧ t.flag F.DSP_Q_STAT_RDERR q = true))) ∧
  (∀ (s : State) (rq : Requester) (q : Fin 16384),
      qCmdOk rq q s = true →
      s.qst q = qEnabled →
      ∃ t, exec (.qPause rq q) s = .next t ∧
        t.gf F.DSP_Q_STAT_CMDST q = 0 ∧ t.qst q = qPaused) ∧
  (∀ (s : State) (rq : Requester) (q : Fin 16384),
      qCmdOk rq q s = true →
      s.qst q = qPaused →
      ∃ t, exec (.qUnpause rq q) s = .next t ∧
        t.gf F.DSP_Q_STAT_CMDST q = 0 ∧ (t.qst q = qEnabled ∨ (t.qst q = qPaused ∧ t.flag F.DSP_Q_STAT_RDERR q = true))) ∧
  (∀ (s : State) (rq : Requester) (q : Fin 16384),
      qCmdOk rq q s = true →
      (s.qst q = qEnabled ∨ s.qst q = qPaused) →
      ∃ t, exec (.qDisable rq q) s = .next t ∧
        t.gf F.DSP_Q_STAT_CMDST q = 0 ∧ (t.qst q = if t.gf F.DSP_Q_STAT_INFLIGHT q = 0 then qDisabled else qDraining)) ∧
  (∀ (s : State) (rq : Requester) (q : Fin 16384),
      qCmdOk rq q s = true →
      (s.qst q = qDisabled ∨ s.qst q = qPaused) →
      ∃ t, exec (.qFlush rq q) s = .next t ∧
        t.gf F.DSP_Q_STAT_CMDST q = 0 ∧ t.gf F.DSP_Q_HEAD_HEAD q = s.gf F.DSP_Q_TAIL_TAIL q ∧ qHead q t = none) ∧
  (∀ (s : State) (rq : Requester) (q : Fin 16384) (w : BitVec 32),
      adminOk rq s = true →
      ∃ t, exec (.qCfgNextWrite rq q w) s = .next t ∧
        (t.reg .DSP_Q_CFG_NEXT q).toNat = qCfgClamp w.toNat ∧ (t.gf F.DSP_Q_STAT_INFLIGHT q = 0 →
          t.reg .DSP_Q_CFG q = t.reg .DSP_Q_CFG_NEXT q ∧ t.flag F.DSP_Q_STAT_COMMIT_PEND q = false) ∧
          (t.gf F.DSP_Q_STAT_INFLIGHT q ≠ 0 → t.flag F.DSP_Q_STAT_COMMIT_PEND q = true)) ∧
  (∀ (s : State) (q : Fin 16384) (rest : List Nat) (c : Fin 64) (k : Task),
      (readyOrder s = q.val :: rest) →
      chooseCore q s = some c →
      qHead q s = some k →
      ∃ t, exec .taskPlace s = .next t ∧
        t.gf F.DSP_Q_STAT_INFLIGHT q = s.gf F.DSP_Q_STAT_INFLIGHT q + 1 ∧
          ({ k with order := s.dsp.order + 1 } ∈ (t.core c).desk ∨ (t.core c).cur.isSome) ∧
          Store.get 0 t.dsp.rr (s.gf F.DSP_Q_CFG_PRIO q) = (q + 1) % 16384) ∧
  (∀ (s : State) (n : Fin 4),
      (s.gf F.DSP_TICK_CFG_KIND n = 1 ∨ s.gf F.DSP_TICK_CFG_KIND n = 3) →
      ∃ t, exec (.tickSourceTick n) s = .next t ∧
        t.gf F.DSP_TICK_CNT_COUNT n = (s.gf F.DSP_TICK_CNT_COUNT n + 1) % 2 ^ 32) ∧
  (∀ (s : State) (rq : Requester) (c : Fin 64) (en : Bool),
      adminOk rq s = true →
      ∃ t, exec (.coreCfgWrite rq c en) s = .next t ∧
        t.flag F.DSP_CORE_CFG_EN c = (en && (coreUnit c s).isSome) ∧ (en = false → (t.core c).desk = []))

/-- Register writes, reads with an effect and route-table writes. A write of a plain register by a requester that may write it
sets its writable fields and keeps the rest. A command word written to PART_CMD, LNK_CMD or DSP_Q_CMD is that command. A write
to no register changes nothing. A read of a clearing register answers its value and clears the fields, unless the monitor peeks.
A read of TIM_NOW_0 or PART_BELL_NUM_LO captures its partners. A route entry that is not valid, or whose route is legal, is
stored. (R10, R12, R326, R470, R471, R479) -/
def Obligations.RegisterAccessesTakeEffect : Prop :=
  (∀ (s : State) (rq : Requester) (r : Reg) (inst : Nat) (v : Word),
      (r ∈ [Reg.HIF_WIN_LO, .HIF_WIN_HI, .HIF_AP_LO, .BBD_SCRUB_CFG, .BBD_WORD_SEL]) →
      noRegister r inst = false →
      adminOk rq s = true →
      ∃ t, exec (.registerWrite rq r inst v) s = .next t ∧
        t.reg r inst = (s.reg r inst &&& ~~~ r.masks.rw) ||| (v &&& r.masks.rw) ∧ t.resp.status = 0) ∧
  (∀ (s : State) (rq : Requester) (r : Reg) (inst : Nat) (v : Word) (p : Fin 16),
      (r = .PART_CMD ∧ inst = p.val) →
      ∃ t, exec (.registerWrite rq r inst v) s = .next t ∧
        (v.toNat % 16 = 1 → t = cmdLoad rq p (okResp 0 s)) ∧ (v.toNat % 16 = 6 →
          t = cmdFreezeNow rq p (bitsAt v.toNat 8 16) (okResp 0 s))) ∧
  (∀ (s : State) (rq : Requester) (r : Reg) (inst : Nat) (v : Word) (q : Fin 16384),
      (r = .DSP_Q_CMD ∧ inst = q.val) →
      ∃ t, exec (.registerWrite rq r inst v) s = .next t ∧
        (v.toNat % 8 = 1 → t = qEnable rq q (okResp 0 s)) ∧ (v.toNat % 8 = 5 → t = qFlush rq q (okResp 0 s))) ∧
  (∀ (s : State) (rq : Requester) (r : Reg) (inst : Nat) (v : Word),
      noRegister r inst = true →
      ∃ t, exec (.registerWrite rq r inst v) s = .next t ∧
        t = okResp 0 s) ∧
  (∀ (s : State) (rq : Requester) (r : Reg) (ix : Nat) (peek : Bool),
      (r.masks.rcl ≠ 0 ∧ r ≠ .TIM_TXTS_0) →
      noRegister r ix = false →
      mayRead rq r ix s = true →
      (peek = false ∨ rq ≠ .monitor) →
      ∃ t, exec (.rclRead rq r ix peek) s = .next t ∧
        t.reg r ix = s.reg r ix &&& ~~~ r.masks.rcl ∧ t.resp.data = regView r ix s ∧ t.resp.status = 0) ∧
  (∀ (s : State) (rq : Requester) (r : Reg) (ix : Nat) (peek : Bool),
      noRegister r ix = false →
      mayRead rq r ix s = true →
      (peek = true ∧ rq = .monitor) →
      ∃ t, exec (.rclRead rq r ix peek) s = .next t ∧
        t.regs = s.regs ∧ t.resp.data = regView r ix s) ∧
  (∀ (s : State) (rq : Requester) (r : Reg) (ix : Nat) (peek : Bool),
      (r = .TIM_NOW_0 ∧ ix = 0) →
      readOk rq s = true →
      (peek = false ∨ rq ≠ .monitor) →
      ∃ t, exec (.latchingRead rq r ix peek) s = .next t ∧
        t.resp.data = s.tim.frac / 65536 ∧ t.gf F.TIM_NOW_1_NS 0 = s.tim.ns % 2 ^ F.TIM_NOW_1_NS.w ∧
          t.gf F.TIM_NOW_2_SEC 0 = s.tim.sec % 2 ^ 32 ∧ t.gf F.TIM_NOW_3_SEC 0 = s.tim.sec / 2 ^ 32 % 2 ^ F.TIM_NOW_3_SEC.w) ∧
  (∀ (s : State) (rq : Requester) (r : Reg) (ix : Nat) (peek : Bool) (p : Fin 16),
      (r = .PART_BELL_NUM_LO ∧ ix = p.val) →
      readOk rq s = true →
      (peek = false ∨ rq ≠ .monitor) →
      ∃ t, exec (.latchingRead rq r ix peek) s = .next t ∧
        t.resp.status = 0 ∧ t.gf F.PART_BELL_NUM_HI_BELL p = (s.part p).bell / 2 ^ 32 % 2 ^ F.PART_BELL_NUM_HI_BELL.w ∧
          t.gf F.PART_BELL_STAMP_1_NS p = (s.part p).stampNs % 2 ^ F.PART_BELL_STAMP_1_NS.w) ∧
  (∀ (s : State) (rq : Requester) (v : Word),
      procOrM rq s = true →
      (bitAt v.toNat 31 = 0 ∨ routeOk (rtSel s).1 (rtSel s).2 (rtWord v.toNat) = true) →
      ∃ t, exec (.routeTableWrite rq v) s = .next t ∧
        Store.get 0 t.tn.rt (rtKey s) = rtWord v.toNat ∧ t.resp.status = 0)

/-- Clock monitors, temperature and the power states. A clock monitor's report sets its clock-good bit and ends the domain's
failure. A lost clock clears it; where the domain is out of reset and no forwarded link clock, CLK_STAT names it. A temperature
sample shows the twelve readings and their peaks, and at 115 degrees THERMTRIP stands among the sources. RECESS, from an
administrator and where it is legal, is entered; a wake request in RECESS, by command, pin or frame, begins the exit where it is
enabled; the exit returns to the active state. While the device is hot, each period keeps the thermal limit from rising. (R434,
R435, R437, R440, R441, R443, R444) -/
def Obligations.PowerCommandsTakeEffect : Prop :=
  (∀ (s : State) (d : Fin 421),
      ∃ t, exec (.clockGood d) s = .next t ∧
        clockGood d t = true ∧ d.val ∉ t.rst.failed) ∧
  (∀ (s : State) (d : Fin 421),
      (d.val < 274 ∨ 342 ≤ d.val) →
      d.val ≠ 413 →
      s.flag F.RST_CLK_CFG_CLKFAIL_RESET 0 = false →
      (clockGood d s = true ∧ domainOut d s = true) →
      ∃ t, exec (.clockFail d) s = .next t ∧
        t.flag F.RST_CLK_STAT_FAIL 0 = true ∧ t.gf F.RST_CLK_STAT_LAST 0 = d.val ∧ clockGood d t = false ∧ d.val ∈ t.rst.failed) ∧
  (∀ (s : State) (u : List Byte),
      (∀ i ∈ List.range 12, degrees ((u.map (·.toNat)).getD i 0) < 115) →
      ∃ t, exec (.tempSample u) s = .next t ∧
        (∀ i ∈ List.range 12, t.gf F.RST_TEMP_TEMP i = (u.map (·.toNat)).getD i 0) ∧ (∀ i ∈ List.range 12,
          degrees (t.gf F.RST_TEMP_PEAK i) = max (degrees (s.gf F.RST_TEMP_PEAK i)) (degrees ((u.map (·.toNat)).getD i 0)))) ∧
  (∀ (s : State) (u : List Byte),
      (∃ i ∈ List.range 12, 115 ≤ degrees ((u.map (·.toNat)).getD i 0)) →
      anyPulse s = false →
      ∃ t, exec (.tempSample u) s = .next t ∧
        (srcTherm, 1, 0) ∈ t.rst.src) ∧
  (∀ (s : State),
      s.rst.hot = true →
      ∃ t, exec .throttleAdjust s = .next t ∧
        t.clk.thermal = max 64 (min 256 (s.clk.thermal - s.gf F.RST_THR_CFG_STEP 0))) ∧
  (∀ (s : State),
      (s.rst.hot = false ∧ 1000 ≤ s.rst.cool) →
      ∃ t, exec .throttleAdjust s = .next t ∧
        t.clk.thermal = max 64 (min 256 (s.clk.thermal + s.gf F.RST_THR_CFG_STEP 0))) ∧
  (∀ (s : State) (rq : Requester),
      adminOk rq s = true →
      recessLegal s = true →
      ∃ t, exec (.pwrRecess rq) s = .next t ∧
        t.gf F.RST_PWR_STAT_STATE 0 = 2 ∧ t.gf F.RST_PWR_STAT_CMDST 0 = 0) ∧
  (∀ (s : State) (rq : Requester),
      adminOk rq s = true →
      s.gf F.RST_PWR_STAT_STATE 0 = 2 →
      ∃ t, exec (.pwrWake rq) s = .next t ∧
        t.flag F.RST_PWR_STAT_EXITING 0 = true ∧ t.gf F.RST_PWR_STAT_CMDST 0 = 0) ∧
  (∀ (s : State),
      (s.gf F.RST_PWR_STAT_STATE 0 = 2 ∧ bitAt (s.gf F.RST_PWR_WAKE_EN 0) 4 = 1) →
      ∃ t, exec .gpioWake s = .next t ∧
        t.flag F.RST_PWR_STAT_EXITING 0 = true) ∧
  (∀ (s : State),
      s.gf F.RST_PWR_STAT_STATE 0 = 2 →
      s.flag F.RST_PWR_STAT_EXITING 0 = true →
      ∃ t, exec .recessExitDone s = .next t ∧
        t.gf F.RST_PWR_STAT_STATE 0 ≠ 2 ∧ t.flag F.RST_PWR_STAT_EXITING 0 = false ∧ t.rst.recessed = [] ∧ t.pio.asleep = false) ∧
  (∀ (s : State),
      (s.gf F.RST_PWR_STAT_STATE 0 = 2 ∧ bitAt (s.gf F.RST_PWR_WAKE_EN 0) 3 = 1) →
      ∃ t, exec .ethernetFrame s = .next t ∧
        t.flag F.RST_PWR_STAT_EXITING 0 = true)

/-- Dead units, stale items, thresholds, self-tests and re-enrolment. With a proctor up, a core declared dead gives up its role,
a bundle declared dead takes its links down, and both enter detention. A class whose partition halted on its failure is
substituted or leaves its role. A stale item of an old epoch is recorded in each partition the unit served. A threshold's report
stands on the report card. SELFTEST of a unit in detention makes the block busy and its end leaves the verdict; ENROL of a unit
whose test passed counts its re-enrolment. The ECC self-test is busy from its start to its end, which names the arrays that
failed. (R391, R392, R393, R397, R398, R399, R400, R406, R407) -/
def Obligations.UnitCommandsTakeEffect : Prop :=
  (∀ (s : State) (n : Fin 256),
      s.proctorUp = true →
      s.clsFenced n = true →
      (s.unit 0 (s.phys n)).role = n.val + 1 →
      (s.clsOwner n ≠ 0 ∧ s.pst (s.clsOwner n - 1) = stHalted) →
      ∃ t, exec (.classImmediateSubstitute n) s = .next t ∧
        (t.unit 0 (s.phys n)).state = uDetention ∧ (t.unit 0 (s.phys n)).role = 0 ∧
          (roleEpoch t 0 n = if 0xFFFE ≤ roleEpoch s 0 n then roleEpoch s 0 n else roleEpoch s 0 n + 1)) ∧
  (∀ (s : State) (kind : Fin 7) (u : BitVec 18) (ground : Fin 7) (c : Fin 64),
      s.proctorUp = true →
      (kind = 2 ∧ u.toNat < 64) →
      ((s.unit 2 u.toNat).state = uEnrolled ∧ (s.unit 2 u.toNat).role = c.val + 1) →
      ∃ t, exec (.declareDead kind u ground) s = .next t ∧
        (t.unit 2 u.toNat).state = uDetention ∧ (t.unit 2 u.toNat).role = 0 ∧ (t.unit 2 u.toNat).banned = c.val + 1 ∧
          t.cst c = coreReset ∧ (t.core c).cur = none ∧ (t.core c).desk = []) ∧
  (∀ (s : State) (kind : Fin 7) (u : BitVec 18) (ground : Fin 7),
      s.proctorUp = true →
      (kind = 3 ∧ u.toNat < 26) →
      ((s.unit 3 u.toNat).state = uEnrolled ∧ (s.unit 3 u.toNat).role ≠ 0) →
      ∃ t, exec (.declareDead kind u ground) s = .next t ∧
        (t.unit 3 u.toNat).state = uDetention ∧ (t.lk (16 + 2 * u.toNat)).dead = true ∧ (t.lk (17 + 2 * u.toNat)).dead = true ∧
          t.lst (16 + 2 * u.toNat) = lsFailed ∧ t.lst (17 + 2 * u.toNat) = lsFailed) ∧
  (∀ (s : State) (kind : Fin 7) (u role : BitVec 18) (ep parts : BitVec 16) (now : Nat),
      ep.toNat ≠ roleEpoch s kind role.toNat →
      now = s.dtime →
      (Store.get 0 s.rel.stale (unitKey kind u.toNat) = 0 ∨ Store.get 0 s.rel.stale (unitKey kind u.toNat) - 1 + 1000000000 ≤ now) →
      ∃ t, exec (.epochStale kind u role ep parts) s = .next t ∧
        Store.get 0 t.rel.stale (unitKey kind u.toNat) = now + 1) ∧
  (∀ (s : State) (kind : Fin 7) (u role : BitVec 18) (ep parts : BitVec 16),
      ep.toNat ≠ roleEpoch s kind role.toNat →
      (Store.get 0 s.rel.stale (unitKey kind u.toNat) ≠ 0 ∧
        s.dtime < Store.get 0 s.rel.stale (unitKey kind u.toNat) - 1 + 1000000000) →
      ∃ t, exec (.epochStale kind u role ep parts) s = .next t ∧
        t.gf F.PRC_STALE_COUNT 0 = min (s.gf F.PRC_STALE_COUNT 0 + 1) (2 ^ F.PRC_STALE_COUNT.w - 1) ∧ t.rel.rcSeq = s.rel.rcSeq) ∧
  (∀ (s : State) (k : Fin 9) (count : BitVec 16) (u : BitVec 26) (m : Fin 15) (a : BitVec 40),
      s.proctorUp = true →
      (k = 3 ∧ s.gf F.PRC_THRESH_VALUE 3 ≤ count.toNat) →
      ((s.unit 2 u.toNat).role ≠ 0 ∧ (s.unit 2 u.toNat).state = uEnrolled) →
      coreSpare ((s.unit 2 u.toNat).role - 1) s = none →
      ∃ t, exec (.thresholdReached k count u m a) s = .next t ∧
        t.rel.rcSeq = (s.rel.rcSeq + 1) % 2 ^ 32 ∧ t.gf F.PRC_RC_STAT_HEAD 0 = (s.gf F.PRC_RC_STAT_HEAD 0 + 1) % 1024) ∧
  (∀ (s : State) (rq : Requester) (kind : BitVec 4) (unit : BitVec 18) (k x : Nat),
      rq = .pf0 →
      (k = min kind.toNat 8 ∧ x = min unit.toNat (unitCount k - 1)) →
      unitState k x s = uDetention →
      s.flag F.PRC_UNIT_STAT_BUSY 0 = false →
      ∃ t, exec (.selftest rq kind unit) s = .next t ∧
        t.flag F.PRC_UNIT_STAT_BUSY 0 = true ∧ t.gf F.PRC_UNIT_STAT_CMDST 0 = 0 ∧ t.rel.test = some (k, x) ∧
          (t.unit k x).state = uSelftest) ∧
  (∀ (s : State) (pass : Bool) (k : Fin 9) (x : Nat),
      s.rel.test = some (k.val, x) →
      ∃ t, exec (.selftestDone pass) s = .next t ∧
        t.flag F.PRC_UNIT_STAT_BUSY 0 = false ∧ t.flag F.PRC_UNIT_STAT_PASS 0 = pass ∧ t.rel.test = none ∧
          (t.unit k x).state = uDetention ∧ (t.unit k x).passed = pass) ∧
  (∀ (s : State) (rq : Requester) (kind : BitVec 4) (unit : BitVec 18) (k x : Nat),
      rq = .pf0 →
      (k = min kind.toNat 8 ∧ x = min unit.toNat (unitCount k - 1)) →
      (k ≠ 5 ∧ unitState k x s = uDetention) →
      (s.unit k x).passed = true →
      ∃ t, exec (.enrol rq kind unit) s = .next t ∧
        t.gf F.PRC_UNIT_STAT_CMDST 0 = 0 ∧ (t.unit k x).reenrol = min 255 ((s.unit k x).reenrol + 1) ∧
          ((t.unit k x).state = uSubstitute ∨ (t.unit k x).state = uEnrolled)) ∧
  (∀ (s : State) (rq : Requester),
      procOrM rq s = true →
      s.flag F.PRC_ECCST_STAT_BUSY 0 = false →
      ∃ t, exec (.eccSelftestStart rq) s = .next t ∧
        t.flag F.PRC_ECCST_STAT_BUSY 0 = true ∧ t.gf F.PRC_ECCST_STAT_CMDST 0 = 0) ∧
  (∀ (s : State) (fails : List (Nat × Nat × Nat)),
      s.flag F.PRC_ECCST_STAT_BUSY 0 = true →
      ∃ t, exec (.eccSelftestDone fails) s = .next t ∧
        t.flag F.PRC_ECCST_STAT_BUSY 0 = false ∧ (∀ m ∈ List.range 15,
          bitAt (t.gf F.PRC_ECCST_STAT_FAILED 0) m = if (fails.any fun e => decide (e.1 = m)) && decide (m < 13 ∧
          m ≠ 5) then 1 else 0))

/-- The token, heartbeats, failures and the commands of the proctors. A proctor that the token no longer names enters detention
at its renewal. A heartbeat of a proctor that runs shows on its path. The loss of both paths, or a FAIL message, of the active
one gives a standing proctor the role; a watchdog expiry or a lockstep mismatch stops the pair. LOAD_STANDBY, SWITCH and RELOAD,
where they are legal, boot the other proctor, hand it the role, or boot the named one. Accepted firmware makes a booting proctor
STANDBY beside an active one. The hall monitor takes control once and counts it. (R408, R409, R410, R411, R412, R413, R415,
R416) -/
def Obligations.ProctorCommandsTakeEffect : Prop :=
  (∀ (s : State) (ix : Fin 2) (e : BitVec 16),
      (s.gf F.PRC_PROC_STAT_STATE ix = 2 ∨ s.gf F.PRC_PROC_STAT_STATE ix = 3) →
      ∃ t, exec (.tokenRenew ix e) s = .next t ∧
        (s.gf F.PRC_PROC_STAT_STATE ix = 3 ∧ e.toNat = roleEpoch s 5 0 → t = s) ∧
          (s.gf F.PRC_PROC_STAT_STATE ix = 2 ∨ e.toNat ≠ roleEpoch s 5 0 → procState ix t = 4 ∧ (t.unit 5 ix).state = uDetention)) ∧
  (∀ (s : State) (ix path : Fin 2),
      (procState ix s ≠ 4 ∧ procState ix s ≠ 0) →
      Store.get false s.rel.stopped ix = false →
      ∃ t, exec (.heartbeat ix path) s = .next t ∧
        (t.flag (if path = 0 then F.PRC_PROC_STAT_HB_T else F.PRC_PROC_STAT_HB_S) ix = true) ∧
          Store.get 0 t.rel.hb (2 * ix + path) = Store.get 0 s.rel.hb (2 * ix + path) + 1) ∧
  (∀ (s : State) (ix : Fin 2) (miss : BitVec 2),
      miss = 3 →
      (s.proctorActive ix = true ∧ procState (1 - ix.val) s = 2) →
      Store.get false s.rel.stopped (1 - ix.val) = false →
      roleEpoch s 5 0 < 0xFFFE →
      ∃ t, exec (.heartbeatTimeout ix miss) s = .next t ∧
        procState (1 - ix.val) t = 3 ∧ procState ix t = 4 ∧ roleEpoch t 5 0 = roleEpoch s 5 0 + 1 ∧
          t.flag F.DBG_MBX_STAT_ONLINE 0 = true) ∧
  (∀ (s : State) (ix : Fin 2) (miss : BitVec 2),
      miss = 1 →
      ∃ t, exec (.heartbeatTimeout ix miss) s = .next t ∧
        t.flag F.PRC_PROC_STAT_HB_T ix = false ∧ t.rel.rcSeq = (s.rel.rcSeq + 1) % 2 ^ 32) ∧
  (∀ (s : State) (ix : Fin 2),
      (procState ix s ≠ 0 ∧ procState ix s ≠ 4) →
      ∃ t, exec (.proctorWatchdogExpiry ix) s = .next t ∧
        Store.get false t.rel.stopped ix = true ∧ (s.proctorActive ix = true → t.flag F.DBG_MBX_STAT_ONLINE 0 = false)) ∧
  (∀ (s : State) (ix : Fin 2),
      (procState ix s ≠ 0 ∧ procState ix s ≠ 4) →
      ∃ t, exec (.lockstepMismatch ix) s = .next t ∧
        Store.get false t.rel.stopped ix = true ∧ (s.proctorActive ix = true → t.flag F.DBG_MBX_STAT_ONLINE 0 = false)) ∧
  (∀ (s : State) (ix : Fin 2),
      (s.proctorActive ix = true ∧ procState (1 - ix.val) s = 2) →
      Store.get false s.rel.stopped (1 - ix.val) = false →
      roleEpoch s 5 0 < 0xFFFE →
      ∃ t, exec (.failMsg ix) s = .next t ∧
        procState (1 - ix.val) t = 3 ∧ procState ix t = 4 ∧ roleEpoch t 5 0 = roleEpoch s 5 0 + 1) ∧
  (∀ (s : State) (rq : Requester) (j : Nat),
      pf0OrProctor rq s = true →
      (s.proctorActive 0 = true ∨ s.proctorActive 1 = true) →
      j = otherProctor s →
      (procState j s = 0 ∨ procState j s = 2 ∨ procState j s = 4) →
      ∃ t, exec (.loadStandby rq) s = .next t ∧
        procState j t = 1 ∧ t.gf F.PRC_PROC_STAT_CMDST j = 0) ∧
  (∀ (s : State) (rq : Requester) (j : Nat),
      pf0OrProctor rq s = true →
      (s.proctorActive 0 = true ∨ s.proctorActive 1 = true) →
      j = otherProctor s →
      (procState j s = 2 ∧ Store.get false s.rel.stopped j = false) →
      (4 ≤ Store.get 0 s.rel.hb (2 * j) ∨ 4 ≤ Store.get 0 s.rel.hb (2 * j + 1)) →
      roleEpoch s 5 0 < 0xFFFE →
      ∃ t, exec (.switch rq) s = .next t ∧
        procState j t = 3 ∧ roleEpoch t 5 0 = roleEpoch s 5 0 + 1) ∧
  (∀ (s : State) (rq : Requester) (ix : Fin 2),
      rq = .pf0 →
      s.flag F.PRC_HM_STAT_ACTIVE 0 = true →
      ∃ t, exec (.reload rq ix) s = .next t ∧
        procState ix t = 1 ∧ t.gf F.PRC_PROC_STAT_CMDST ix = 0) ∧
  (∀ (s : State) (ix : Fin 2) (a b : List Byte) (host ecc : Bool) (entry : BitVec 48) (m : List Nat),
      procState ix s = 1 →
      (Store.get (0, 0) s.rel.boot ix).1 = 1 →
      (ecc = true ∧ host = false) →
      (bootSources ix (a.map (·.toNat)) (b.map (·.toNat)) s = [m]) →
      ∃ t, exec (.proctorFirmwareLoaded ix a b host ecc entry) s = .next t ∧
        (manifestOk m s = true → procState ix t = 2 ∧ t.gf F.PRC_PROC_STAT_RESULT ix = 0) ∧ (manifestOk m s = false →
          t.gf F.PRC_PROC_STAT_RESULT ix = 0x12 ∧ procState ix t = if (Store.get (0, 0) s.rel.boot ix).2 = 4 then 4 else 0)) ∧
  (∀ (s : State),
      s.flag F.PRC_HM_STAT_ACTIVE 0 = false →
      ∃ t, exec .hallMonitorTakeover s = .next t ∧
        t.flag F.PRC_HM_STAT_ACTIVE 0 = true ∧
          t.gf F.PRC_HM_STAT_TAKEOVERS 0 = min (s.gf F.PRC_HM_STAT_TAKEOVERS 0 + 1) (2 ^ F.PRC_HM_STAT_TAKEOVERS.w - 1) ∧
          t.proctorActive 0 = false ∧ t.proctorActive 1 = false ∧ t.flag F.DBG_MBX_STAT_ONLINE 0 = false)

/-- The boot push, life cycle and fuse pulses, and the causes of LOCKUP. A push of boot firmware while BOOTSEL is 1, the stage
is ready and nothing has booted gives the loader its length. A write pulse's end clears BUSY, and a life-cycle pulse's end puts
the new state in force with a level 1 reset. A core whose watchdog expires a second time, or whose trap vector cannot be
fetched, enters LOCKUP. (R179, R193, R306) -/
def Obligations.BootAndLockupCommandsTakeEffect : Prop :=
  (∀ (s : State) (rq : Requester) (len : BitVec 32),
      adminOk rq s = true →
      (s.gf F.RST_STRAP_BOOTSEL 0 = 1 ∧ s.flag F.PART_LDR_DONE_STAGE_RDY 0 = true ∧ s.flag F.PART_LDR_DONE_BOOTED 0 = false) →
      ∃ t, exec (.bootPush rq len) s = .next t ∧
        t.ld.push = len.toNat ∧ t.resp.status = 0) ∧
  (∀ (s : State) (slot : Nat) (st : Fin 4),
      s.ld.pulse = some (1, slot, st.val) →
      (s.flag F.PIO_STAT_BUSY 0 = false ∧ s.rst.held = []) →
      ∃ t, exec .lcAdvanceDone s = .next t ∧
        t.gf F.GLB_LCS_STATE 0 = st.val ∧ t.ld.pulse = none ∧ (srcSwreq, 1, 0) ∈ t.rst.src ∧ t.flag F.RST_PEND_ACTIVE 0 = true) ∧
  (∀ (s : State) (c : Fin 64),
      (csrHeld c csrWdog s % 2 ^ 32 ≠ 0 ∧ s.cst c = coreRunning ∧ s.gf F.RST_PWR_STAT_STATE 0 ≠ 2) →
      bitAt (csrHeld c csrWdog s) 33 = 0 →
      ∃ t, exec (.coreWatchdogExpiry c) s = .next t ∧
        csrHeld c csrWdog t = (csrHeld c csrWdog s + 2 ^ 33) % 2 ^ 64) ∧
  (∀ (s : State) (c : Fin 64),
      (csrHeld c csrWdog s % 2 ^ 32 ≠ 0 ∧ s.cst c = coreRunning ∧ s.gf F.RST_PWR_STAT_STATE 0 ≠ 2) →
      bitAt (csrHeld c csrWdog s) 33 = 1 →
      (coreHeld c s = false ∧ anyPulse s = false) →
      ∃ t, exec (.coreWatchdogExpiry c) s = .next t ∧
        t.cst c = coreLockup ∧ (srcLockup, 3, c.val) ∈ t.rst.src ∧ (t.core c).cur = none) ∧
  (∀ (s : State) (pio : Bool) (k : Fin 4) (key : Nat),
      pio = false →
      s.ld.pulse = some (0, k.val, key + 1) →
      (s.rst.held = []) →
      ∃ t, exec (.writePulseEnd pio) s = .next t ∧
        t.flag F.SEC_KEY_STATUS_BUSY 0 = false ∧ t.ld.pulse = none ∧ keyState k t = 1 ∧ Store.get 0 t.ld.keys k = key) ∧
  (∀ (s : State) (pio : Bool) (g n : Nat),
      pio = true →
      s.pio.pulse = some (g, n) →
      (s.rst.held = []) →
      ∃ t, exec (.writePulseEnd pio) s = .next t ∧
        t.flag F.PIO_STAT_BUSY 0 = false ∧ t.pio.pulse = none ∧ Store.get 0 t.pio.fuse g = Nat.lor (Store.get 0 s.pio.fuse g) n) ∧
  (∀ (s : State) (c : Fin 64),
      s.cst c = coreRunning →
      (coreHeld c s = false ∧ anyPulse s = false) →
      ∃ t, exec (.mtvecFetchFault c) s = .next t ∧
        t.cst c = coreLockup ∧ (srcLockup, 3, c.val) ∈ t.rst.src)

/-- Reset sources and the device watchdog. A source that asserts while no fuse or battery-backed write is in progress stands
among the sources with its cause, and the release sequence is pending; it leaves when its condition ends. A wrong-level request
asserts nothing. The device watchdog reloads at a kick with the right key and takes a period of at least 10 ms. (R420, R421,
R423, R424, R425, R429) -/
def Obligations.ResetSourcesTakeEffect : Prop :=
  (∀ (s : State),
      ∃ t, exec .powerOn s = .next t ∧
        t.flag F.RST_PEND_ACTIVE 0 = true ∧ t.gf F.RST_PEND_STEP 0 = 0 ∧ ((srcPor, 0, 0) ∈ t.rst.src ∧ ∀ r ∈ List.range 9, (srcBor,
          1, r + 2) ∈ t.rst.src) ∧ bitAt (t.gf F.RST_CAUSE_SRC 0) 0 = 1 ∧ t.gf F.RST_CAUSE_LEVEL 0 = 0) ∧
  (∀ (s : State) (r : Fin 11),
      (anyPulse s = false ∨ r.val < 2) →
      ∃ t, exec (.brownOut r) s = .next t ∧
        (srcBor, railLevel r, r.val) ∈ t.rst.src ∧ t.flag F.RST_PEND_ACTIVE 0 = true ∧ bitAt (t.gf F.RST_CAUSE_SRC 0) 1 = 1 ∧
          bitAt (t.gf F.RST_RAIL_STAT_GOOD 0) r = 0) ∧
  (∀ (s : State),
      anyPulse s = false →
      ∃ t, exec .resetNAssert s = .next t ∧
        t.rst.pinLow = true ∧ (srcPin, 1, 0) ∈ t.rst.src ∧ t.flag F.RST_PEND_ACTIVE 0 = true ∧
          bitAt (t.gf F.RST_CAUSE_SRC 0) 2 = 1) ∧
  (∀ (s : State),
      ∃ t, exec .resetNRelease s = .next t ∧
        (t.rst.pinLow = false ∧ t.rst.src = s.rst.src.filter fun e => e.1 ≠ srcPin)) ∧
  (∀ (s : State),
      s.flag F.DBG_DWDOG_PAUSE 0 = false →
      anyPulse s = false →
      ∃ t, exec .deviceWatchdogExpiry s = .next t ∧
        (srcWdog, 1, 0) ∈ t.rst.src ∧ t.flag F.RST_PEND_ACTIVE 0 = true ∧ bitAt (t.gf F.RST_CAUSE_SRC 0) 3 = 1) ∧
  (∀ (s : State) (rq : Requester) (key : BitVec 8),
      kickOk rq s = true →
      key = 0xD9 →
      ∃ t, exec (.dwdogKick rq key) s = .next t ∧
        t.gf F.RST_DWDOG_STAT_REMAIN 0 = s.gf F.RST_DWDOG_CFG_PERIOD 0 ∧ t.resp.status = 0) ∧
  (∀ (s : State) (rq : Requester) (v : BitVec 32),
      isActiveProctor rq s = true →
      ∃ t, exec (.dwdogCfgWrite rq v) s = .next t ∧
        t.gf F.RST_DWDOG_CFG_PERIOD 0 = max 10 (v.toNat % 65536) ∧ t.gf F.RST_DWDOG_STAT_REMAIN 0 = max 10 (v.toNat % 65536)) ∧
  (∀ (s : State) (rq : Requester) (lvl : BitVec 2),
      (rq = .pf0 ∨ procOrM rq s = true) →
      anyPulse s = false →
      (lvl = 1 ∨ lvl = 2) →
      ∃ t, exec (.swreq rq lvl) s = .next t ∧
        (srcSwreq, lvl.toNat, 0) ∈ t.rst.src ∧ t.flag F.RST_PEND_ACTIVE 0 = true) ∧
  (∀ (s : State) (rq : Requester) (lvl : BitVec 2),
      (rq = .pf0 ∨ procOrM rq s = true) →
      (lvl = 0 ∨ lvl = 3) →
      ∃ t, exec (.swreq rq lvl) s = .next t ∧
        t = okResp 0 s) ∧
  (∀ (s : State) (rq : Requester),
      rq = .monitor →
      anyPulse s = false →
      ∃ t, exec (.dbgreqPulse rq) s = .next t ∧
        (srcDbgreq, 2, 0) ∈ t.rst.src ∧ t.flag F.RST_PEND_ACTIVE 0 = true) ∧
  (∀ (s : State) (rq : Requester) (hold : Bool),
      rq = .monitor →
      anyPulse s = false →
      ∃ t, exec (.dbgreqHold rq hold) s = .next t ∧
        (hold = true → (srcDbgreq, 2, 1) ∈ t.rst.src ∧ t.flag F.RST_DBGREQ_HOLD 0 = true) ∧ (hold = false → (srcDbgreq, 2,
          1) ∉ t.rst.src ∧ t.flag F.RST_DBGREQ_HOLD 0 = false)) ∧
  (∀ (s : State) (src : Fin 8) (c : Fin 64),
      (src = 3 ∨ src = 4) →
      ∃ t, exec (.resetSourceTimeout src c) s = .next t ∧
        (t.rst.src = s.rst.src.filter fun e => e.1 ≠ src.val))

/-- Unit resets and the release sequence. A unit's reset bit follows its write. With the pending step's clocks good and no
source over it, a release step moves the sequence on, and the last one ends it. A rail's report sets its good bit; a trained HBM
stack is up. (R425, R427, R428, R445) -/
def Obligations.UnitResetAndReleaseTakeEffect : Prop :=
  (∀ (s : State) (r : Fin 11),
      ∃ t, exec (.railGood r) s = .next t ∧
        (bitAt (t.gf F.RST_RAIL_STAT_GOOD 0) r = 1 ∧ ∀ l ∈ List.range 4, (srcBor, l, r.val) ∉ t.rst.src)) ∧
  (∀ (s : State) (rq : Requester) (j : Fin 11) (v : BitVec 32),
      adminOk rq s = true →
      j.val < 2 →
      ∃ t, exec (.rstUnitWrite rq j v) s = .next t ∧
        t.reg (unitReg j).1 (unitReg j).2 = v ∧ t.gf F.RST_UNIT_STAT_CMDST 0 = 0 ∧ (anyPulse s = false → ∀ b ∈ List.range 32,
          bitAt v.toNat b = 1 → unitBit j b s = false → t.cst (32 * j + b) = coreReset)) ∧
  (∀ (s : State) (boot : BitVec 3) (clk : BitVec 2),
      (s.flag F.RST_PEND_ACTIVE 0 = true ∧ s.gf F.RST_PEND_STEP 0 < 7) →
      (∀ e ∈ s.rst.src, covers e.2.1 (s.gf F.RST_PEND_STEP 0) = false) →
      (∀ d ∈ stepDomains (s.gf F.RST_PEND_STEP 0), clockGood d s = true) →
      ∃ t, exec (.releaseStep boot clk) s = .next t ∧
        t.gf F.RST_PEND_STEP 0 = s.gf F.RST_PEND_STEP 0 + 1 ∧ t.flag F.RST_PEND_ACTIVE 0 = true ∧
          t.flag F.RST_PEND_WAIT_SRC 0 = false ∧ (s.gf F.RST_PEND_STEP 0 = 2 → t.gf F.RST_STRAP_BOOTSEL 0 = boot.toNat)) ∧
  (∀ (s : State) (boot : BitVec 3) (clk : BitVec 2),
      (s.flag F.RST_PEND_ACTIVE 0 = true ∧ s.gf F.RST_PEND_STEP 0 = 7) →
      (∀ e ∈ s.rst.src, covers e.2.1 7 = false) →
      (∀ d ∈ List.range 264, clockGood d s = true) →
      ∃ t, exec (.releaseStep boot clk) s = .next t ∧
        t.flag F.RST_PEND_ACTIVE 0 = false ∧ t.rst.cur = none) ∧
  (∀ (s : State),
      s.gf F.RST_STRAP_BOOTSEL 0 = 1 →
      (procState 0 s = 1 ∨ procState 1 s = 1) →
      unitBit 10 8 s = false →
      ∃ t, exec .hbmStackTrained s = .next t ∧
        t.flag F.HBM_STATUS_READY 0 = true ∧ t.flag F.PART_LDR_DONE_STAGE_RDY 0 = true)

/-- A write to a generator's time registers while its EN is 1 is refused with 0x22 and logged. For each of the five time
registers of a generator g whose EN is 1, a write by a requester that may write it changes no register but the violation log and
its interrupt, answers status 0x22, and is logged with status 0x22. (R91) -/
def Obligations.GeneratorRegistersAreLockedWhileEnabled : Prop :=
  (∀ (s : State) (rq : Requester) (r : Reg) (inst : Nat) (v : Word),
      (r ∈ [Reg.PART_GEN_START_NS, .PART_GEN_START_SEC_LO, .PART_GEN_START_SEC_HI, .PART_GEN_PERIOD_NS, .PART_GEN_PERIOD_FRAC]) →
      inst < 4 →
      s.flag F.PART_GEN_CTL_EN inst = true →
      mayWrite rq r inst s = true →
      ∃ t, exec (.registerWrite rq r inst v) s = .next t ∧
        Only violRegs [.resp, .hif] s t ∧ t.resp.status = 0x22 ∧ Logged 0x22 2 s t)

/-- dx.tick advances a SOFT source, or changes nothing but rd and the log. On a core that runs and may use the instructions,
dx.tick on a source of KIND SOFT advances its count by 1, modulo 2^32, and rd reads 0. On any other source no register but the
violation log changes, no other x register of any core does, rd reads 0x20 (x0 reads 0), and the log's new entry carries the
address of DSP_TICK_CMD and status 0x20. (R303) -/
def Obligations.SoftTicksAdvanceOrAreRefused : Prop :=
  (∀ (s : State) (c : Fin 64) (m : Priv) (rd : Fin 32) (v1 : BitVec 64) (d : Fin 64) (n : Fin 32),
      coreFree c s = true →
      (m ≠ .user ∨ bitAt (csrHeld c csrCtl s) 0 = 1) →
      ∃ t, exec (.dxTick c m rd v1) s = .next t ∧
        (s.gf F.DSP_TICK_CFG_KIND (v1.toNat % 4) = 4 →
          t.gf F.DSP_TICK_CNT_COUNT (v1.toNat % 4) = (s.gf F.DSP_TICK_CNT_COUNT (v1.toNat % 4) + 1) % 2 ^ 32 ∧ xRead c rd t = 0) ∧
          (s.gf F.DSP_TICK_CFG_KIND (v1.toNat % 4) ≠ 4 → Only violRegs [.dsp, .hif] s t ∧
          xRead c rd t = (if rd.val = 0 then 0 else 0x20) ∧ Logged 0x20 0 s t) ∧ (s.gf F.DSP_TICK_CFG_KIND (v1.toNat % 4) ≠ 4 →
          t.reg .PRC_VIOL (8 * (s.gf F.PRC_VIOL_STAT_HEAD 0 % 64) + 2) = BitVec.ofNat 32 (regAddr .DSP_TICK_CMD 0)) ∧
          (s.gf F.DSP_TICK_CFG_KIND (v1.toNat % 4) ≠ 4 → (d ≠ c ∨ n ≠ rd) → xRead d n t = xRead d n s))

/-- An access that is not permitted answers 0x21, is logged and changes no register but the log. A write of a plain register by
a requester that may not write it, and a read, latching or clearing, by one that may not read it, answer status 0x21 and error
kind 1, leave an entry with both in the violation log, and change no other register, no byte of memory and no other part of the
block. A write that the register's own command takes is left to that command's statement. (R13, R404, R471) -/
def Obligations.RefusedAccessesChangeNoRegister : Prop :=
  (∀ (s : State) (rq : Requester) (r : Reg) (inst : Nat) (v : Word),
      noRegister r inst = false →
      cmdWrite rq r inst v.toNat (okResp 0 s) = none →
      writable r.masks ≠ 0 →
      mayWrite rq r inst (okResp 0 s) = false →
      ∃ t, exec (.registerWrite rq r inst v) s = .next t ∧
        Only violRegs [.resp, .hif] s t ∧ t.resp = { data := 0, status := 0x21, errkind := 1 } ∧ Logged 0x21 1 s t) ∧
  (∀ (s : State) (rq : Requester) (r : Reg) (ix : Nat) (peek : Bool),
      noRegister r ix = false →
      mayRead rq r ix s = false →
      ∃ t, exec (.rclRead rq r ix peek) s = .next t ∧
        Only violRegs [.resp, .hif] s t ∧ t.resp = { data := 0, status := 0x21, errkind := 1 } ∧ Logged 0x21 1 s t) ∧
  (∀ (s : State) (rq : Requester) (r : Reg) (ix : Nat) (peek : Bool),
      noRegister r ix = false →
      mayRead rq r ix s = false →
      ∃ t, exec (.latchingRead rq r ix peek) s = .next t ∧
        Only violRegs [.resp, .hif] s t ∧ t.resp = { data := 0, status := 0x21, errkind := 1 } ∧ Logged 0x21 1 s t)

/-- Frames of the commands that can reset the device, where they reset nothing. A source of reset that asserts while a source of
the same level or a wider one stands only joins the sources: it changes RST_CAUSE, RST_PEND and the reset sequence, with its own
status register. One that comes during a fuse or BBRAM pulse only joins the held list. A request the requester may not make
leaves only the violation log. A paused device watchdog's expiry changes nothing. A cool sample changes only the temperature
registers. A clock that fails in a domain held in reset, or that had already failed, changes only its clock-good bit. A pulse's
end with no reset held changes only the fuses and BUSY, or the keys' registers. A monitor's peek of a register changes nothing
but the answer and the draw counter; a latching or clearing read changes only the register, its latched partners and the answer.
(R13, R14, R193, R421, R425, R426, R429, R434, R435, R437, R440) -/
def Obligations.WideCommandsChangeLittleWhereNothingIsReset : Prop :=
  (∀ (s : State) (r : Fin 11),
      anyPulse s = false →
      (s.rst.src.any (fun e => decide (e.2.1 ≤ railLevel r)) = true) →
      ∃ t, exec (.brownOut r) s = .next t ∧
        Only [.RST_RAIL_STAT, .RST_CAUSE, .RST_PEND] [.rst] s t) ∧
  (∀ (s : State),
      (s.rst.src.any (fun e => decide (e.2.1 ≤ 1)) = true ∨ anyPulse s = true) →
      ∃ t, exec .resetNAssert s = .next t ∧
        Only [.RST_CAUSE, .RST_PEND] [.rst] s t) ∧
  (∀ (s : State),
      anyPulse s = true →
      ∃ t, exec .resetNAssert s = .next t ∧
        Only [] [.rst] s t ∧ (srcPin, 1, 0) ∈ t.rst.held) ∧
  (∀ (s : State),
      s.flag F.DBG_DWDOG_PAUSE 0 = true →
      ∃ t, exec .deviceWatchdogExpiry s = .next t ∧
        t = s) ∧
  (∀ (s : State),
      (s.rst.src.any (fun e => decide (e.2.1 ≤ 1)) = true ∨ anyPulse s = true) →
      ∃ t, exec .deviceWatchdogExpiry s = .next t ∧
        Only [.RST_DWDOG_STAT, .RST_CAUSE, .RST_PEND] [.rst] s t) ∧
  (∀ (s : State) (rq : Requester) (lvl : BitVec 2),
      ((lvl ≠ 1 ∧ lvl ≠ 2) ∨ (rq ≠ .pf0 ∧
        procOrM rq s = false) ∨ s.rst.src.any (fun e => decide (e.2.1 ≤ lvl.toNat)) = true ∨ anyPulse s = true) →
      ∃ t, exec (.swreq rq lvl) s = .next t ∧
        Only (violRegs ++ ([.RST_CAUSE, .RST_PEND] : List Reg)) [.rst, .resp, .hif] s t) ∧
  (∀ (s : State) (rq : Requester),
      (rq ≠ .monitor ∨ s.rst.src.any (fun e => decide (e.2.1 ≤ 2)) = true ∨ anyPulse s = true) →
      ∃ t, exec (.dbgreqPulse rq) s = .next t ∧
        Only (violRegs ++ ([.RST_CAUSE, .RST_PEND] : List Reg)) [.rst, .resp, .hif] s t) ∧
  (∀ (s : State) (rq : Requester) (hold : Bool),
      (rq ≠ .monitor ∨ hold = false ∨ s.rst.src.any (fun e => decide (e.2.1 ≤ 2)) = true ∨ anyPulse s = true) →
      ∃ t, exec (.dbgreqHold rq hold) s = .next t ∧
        Only (violRegs ++ ([.RST_CAUSE, .RST_PEND, .RST_DBGREQ] : List Reg)) [.rst, .resp, .hif] s t) ∧
  (∀ (s : State) (u : List Byte),
      (∀ b ∈ u, degrees b.toNat < 100) →
      ∃ t, exec (.tempSample u) s = .next t ∧
        Only [.RST_TEMP] [.rst] s t) ∧
  (∀ (s : State) (d : Fin 421),
      (clockGood d s = false ∨ domainOut d s = false) →
      (¬(274 ≤ d.val ∧ d.val < 342)) →
      ∃ t, exec (.clockFail d) s = .next t ∧
        Only [.RST_CLKGOOD] [] s t) ∧
  (∀ (s : State) (pio : Bool),
      pio = true →
      (s.rst.held = []) →
      ∃ t, exec (.writePulseEnd pio) s = .next t ∧
        Only [.PIO_STAT, .RST_PEND] [.pio, .rst] s t) ∧
  (∀ (s : State) (pio : Bool),
      pio = false →
      (s.rst.held = []) →
      (s.ld.pulse.all (fun e => decide (e.2.2 ≠ 0)) = true) →
      ∃ t, exec (.writePulseEnd pio) s = .next t ∧
        Only [.SEC_KEY_STATUS, .SEC_RK_STAT, .SEC_SVN_STAT, .RST_PEND] [.ld, .rst] s t) ∧
  (∀ (s : State) (rq : Requester) (r : Reg) (ix : Nat) (peek : Bool),
      (rq = .monitor ∧ peek = true) →
      ∃ t, exec (.rclRead rq r ix peek) s = .next t ∧
        Only violRegs [.seq, .resp, .hif] s t) ∧
  (∀ (s : State) (rq : Requester) (r : Reg) (ix : Nat) (peek : Bool),
      (rq = .monitor ∧ peek = true) →
      ∃ t, exec (.latchingRead rq r ix peek) s = .next t ∧
        Only violRegs [.seq, .resp, .hif] s t) ∧
  (∀ (s : State) (rq : Requester) (r : Reg) (ix : Nat) (peek : Bool),
      r ≠ .TIM_TXTS_0 →
      ∃ t, exec (.rclRead rq r ix peek) s = .next t ∧
        Only (violRegs ++ (r :: latchRegs : List Reg)) [.seq, .resp, .hif] s t) ∧
  (∀ (s : State) (rq : Requester) (r : Reg) (ix : Nat) (peek : Bool),
      r ≠ .TIM_TXTS_0 →
      ∃ t, exec (.latchingRead rq r ix peek) s = .next t ∧
        Only (violRegs ++ (r :: latchRegs : List Reg)) [.seq, .resp, .hif] s t)

/-- A command to one instance of a unit leaves the other instances as they are. A command that names a partition, a pin, a
stopwatch input, a trigger, a queue, a core, a comparator, a generator, a link or a proctor leaves the registers of every other
instance as they are: another partition's state, command status, settings, faults' tail and trace status; another pin's
configuration; another input's and trigger's status; another queue's status, tail and configuration; another core's enable;
another generator's settings; another link's status; another proctor's status. (R10, R76, R83, R91, R192, R242, R243, R308,
R315, R366, R411, R440) -/
def Obligations.CommandsOfOneInstanceLeaveTheOthers : Prop :=
  (∀ (s : State) (rq : Requester) (g : Fin 96) (v : BitVec 32) (j : Nat),
      j ≠ g.val →
      ∃ t, exec (.pinCfgWrite rq g v) s = .next t ∧
        t.reg .PIO_PIN_CFG j = s.reg .PIO_PIN_CFG j) ∧
  (∀ (s : State) (rq : Requester) (ix : Fin 64) (j : Nat),
      j ≠ ix.val →
      ∃ t, exec (.stwInEnable rq ix) s = .next t ∧
        t.reg .STW_IN_STAT j = s.reg .STW_IN_STAT j ∧ t.reg .STW_IN_LAST j = s.reg .STW_IN_LAST j) ∧
  (∀ (s : State) (rq : Requester) (ix : Fin 64) (j : Nat),
      j ≠ ix.val →
      ∃ t, exec (.stwInDisable rq ix) s = .next t ∧
        t.reg .STW_IN_STAT j = s.reg .STW_IN_STAT j ∧ t.reg .STW_IN_LAST j = s.reg .STW_IN_LAST j) ∧
  (∀ (s : State) (rq : Requester) (n : Fin 16) (j : Nat),
      j ≠ n.val →
      ∃ t, exec (.stwTrgArm rq n) s = .next t ∧
        t.reg .STW_TRG_STAT j = s.reg .STW_TRG_STAT j) ∧
  (∀ (s : State) (rq : Requester) (n : Fin 16) (j : Nat),
      j ≠ n.val →
      ∃ t, exec (.stwTrgDisarm rq n) s = .next t ∧
        t.reg .STW_TRG_STAT j = s.reg .STW_TRG_STAT j) ∧
  (∀ (s : State) (rq : Requester) (p : Fin 16) (j : Nat),
      j ≠ p.val →
      ∃ t, exec (.trcArm rq p) s = .next t ∧
        t.reg .TRC_PSTAT j = s.reg .TRC_PSTAT j) ∧
  (∀ (s : State) (rq : Requester) (p : Fin 16) (j : Nat),
      j ≠ p.val →
      ∃ t, exec (.trcStop rq p) s = .next t ∧
        t.reg .TRC_PSTAT j = s.reg .TRC_PSTAT j) ∧
  (∀ (s : State) (rq : Requester) (p : Fin 16) (arg : BitVec 16) (j : Nat),
      j ≠ p.val →
      ∃ t, exec (.arm rq p arg) s = .next t ∧
        t.reg .PART_CMD_STATUS j = s.reg .PART_CMD_STATUS j ∧ t.part j = s.part j) ∧
  (∀ (s : State) (rq : Requester) (p : Fin 16) (arg : BitVec 16) (j : Nat),
      j ≠ p.val →
      ∃ t, exec (.start rq p arg) s = .next t ∧
        t.reg .PART_CMD_STATUS j = s.reg .PART_CMD_STATUS j ∧ t.reg .PART_STATE j = s.reg .PART_STATE j ∧ t.part j = s.part j) ∧
  (∀ (s : State) (rq : Requester) (p : Fin 16) (arg : BitVec 16) (j : Nat),
      j ≠ p.val →
      ∃ t, exec (.stopAtBell rq p arg) s = .next t ∧
        t.reg .PART_CMD_STATUS j = s.reg .PART_CMD_STATUS j ∧ t.reg .PART_STATE j = s.reg .PART_STATE j) ∧
  (∀ (s : State) (rq : Requester) (p : Fin 16) (arg : BitVec 16) (j : Nat),
      j ≠ p.val →
      ∃ t, exec (.resume rq p arg) s = .next t ∧
        t.reg .PART_CMD_STATUS j = s.reg .PART_CMD_STATUS j ∧ t.reg .PART_STATE j = s.reg .PART_STATE j) ∧
  (∀ (s : State) (rq : Requester) (p : Fin 16) (arg : BitVec 16) (j : Nat),
      j ≠ p.val →
      ∃ t, exec (.freezeNow rq p arg) s = .next t ∧
        t.reg .PART_CMD_STATUS j = s.reg .PART_CMD_STATUS j ∧ t.reg .PART_FRZ_STATUS j = s.reg .PART_FRZ_STATUS j) ∧
  (∀ (s : State) (rq : Requester) (p : Fin 16) (v : BitVec 32) (j : Nat),
      j ≠ p.val →
      ∃ t, exec (.faultTailWrite rq p v) s = .next t ∧
        t.reg .PART_FAULT_TAIL j = s.reg .PART_FAULT_TAIL j ∧ t.reg .PART_FAULT_HEAD j = s.reg .PART_FAULT_HEAD j) ∧
  (∀ (s : State) (rq : Requester) (p : Fin 16) (j : Nat),
      j ≠ p.val →
      ∃ t, exec (.partCommitCancel rq p) s = .next t ∧
        t.reg .PART_COMMIT j = s.reg .PART_COMMIT j ∧ t.part j = s.part j) ∧
  (∀ (s : State) (rq : Requester) (q : Fin 16384) (j : Nat),
      j ≠ q.val →
      ∃ t, exec (.qPause rq q) s = .next t ∧
        t.reg .DSP_Q_STAT j = s.reg .DSP_Q_STAT j) ∧
  (∀ (s : State) (rq : Requester) (q : Fin 16384) (j : Nat),
      j ≠ q.val →
      ∃ t, exec (.qFlush rq q) s = .next t ∧
        t.reg .DSP_Q_STAT j = s.reg .DSP_Q_STAT j ∧ t.reg .DSP_Q_HEAD j = s.reg .DSP_Q_HEAD j ∧
          t.reg .DSP_Q_TAIL j = s.reg .DSP_Q_TAIL j) ∧
  (∀ (s : State) (ix path : Fin 2) (j : Nat),
      (j < 2 ∧ j ≠ ix.val) →
      ∃ t, exec (.heartbeat ix path) s = .next t ∧
        t.reg .PRC_PROC_STAT j = s.reg .PRC_PROC_STAT j) ∧
  (∀ (s : State) (rq : Requester) (g : Fin 4) (v : BitVec 32) (j : Nat),
      j ≠ g.val →
      ∃ t, exec (.genCtlWrite rq g v) s = .next t ∧
        t.reg .PART_GEN_CTL j = s.reg .PART_GEN_CTL j) ∧
  (∀ (s : State) (rq : Requester) (l : Fin 68) (j : Nat),
      j ≠ l.val →
      ∃ t, exec (.linkNap rq l) s = .next t ∧
        t.reg .LNK_STAT j = s.reg .LNK_STAT j) ∧
  (∀ (s : State) (rq : Requester) (l : Fin 68) (j : Nat),
      j ≠ l.val →
      ∃ t, exec (.linkDisable rq l) s = .next t ∧
        t.reg .LNK_STAT j = s.reg .LNK_STAT j) ∧
  (∀ (s : State) (rq : Requester) (l : Fin 68) (j : Nat),
      j ≠ l.val →
      ∃ t, exec (.linkRecess rq l) s = .next t ∧
        t.reg .LNK_STAT j = s.reg .LNK_STAT j) ∧
  (∀ (s : State) (c : Fin 64) (j : Nat),
      j ≠ c.val →
      ∃ t, exec (.coreTraceStop c) s = .next t ∧
        t.reg .DBG_CORE_STAT j = s.reg .DBG_CORE_STAT j) ∧
  (∀ (s : State) (c : Fin 64) (m : Priv) (asid : BitVec 16) (pc : BitVec 64) (acc : Option CoreAcc) (j : Nat),
      j ≠ c.val →
      ∃ t, exec (.comparatorMatch c m asid pc acc) s = .next t ∧
        t.reg .DBG_CORE_STAT j = s.reg .DBG_CORE_STAT j ∧ t.core j = s.core j) ∧
  (∀ (s : State) (rq : Requester) (r : Reg) (inst : Nat) (v : Word) (j : Nat),
      (r ∈ [Reg.PART_GEN_START_NS, .PART_GEN_START_SEC_LO, .PART_GEN_START_SEC_HI, .PART_GEN_PERIOD_NS, .PART_GEN_PERIOD_FRAC]) →
      (inst < 4 ∧ j ≠ inst) →
      ∃ t, exec (.registerWrite rq r inst v) s = .next t ∧
        t.reg r j = s.reg r j ∧ Only (violRegs ++ ([r] : List Reg)) [.resp, .hif] s t)

/-- An access to design memory leaves every byte but those it may store. A read, a write or an alias write of the word at x
leaves every byte of memory as it was, but for the eight bytes of the word, the check byte of its HBM slot, the block whose
zeroising the access waits for, and the next entries of the undo and input journals of the partition that owns the word. (R136,
R139, R142, R149, R150, R214, R216) -/
def Obligations.DesignMemoryAccessesChangeOnlyTheirBytes : Prop :=
  (∀ (s : State) (rq : Requester) (write : Bool) (a : BitVec 48) (be : BitVec 8) (data : BitVec 64) (x y : Nat),
      x = a.toNat / 8 * 8 →
      designStored x s y = false →
      ∃ t, exec (.designMemoryAccess rq write a be data) s = .next t ∧
        t.rb y = s.rb y) ∧
  (∀ (s : State) (rq : Requester) (o : BitVec 28) (be : BitVec 8) (data : BitVec 64) (x y : Nat),
      x = bbBase + o.toNat / 8 * 8 →
      designStored x s y = false →
      ∃ t, exec (.bitSetAliasWrite rq o be data) s = .next t ∧
        t.rb y = s.rb y) ∧
  (∀ (s : State) (rq : Requester) (o : BitVec 28) (be : BitVec 8) (data : BitVec 64) (x y : Nat),
      x = bbBase + o.toNat / 8 * 8 →
      designStored x s y = false →
      ∃ t, exec (.bitClearAliasWrite rq o be data) s = .next t ∧
        t.rb y = s.rb y)

/-- What the partition, tempo, substitution, freeze and loader commands may change. For every state and every operand, a command
named here changes at most the registers and the parts of the state that stand beside its name: every other register of the
whole map keeps every bit of every instance, every other part of the state is as it was, and every byte of memory is as it was
where the memories are not among the parts. The queue of waiting commands is as it was. What the register lists call by a name
is listed in Safety.lean. (R76, R182, R206) -/
def Obligations.PartitionCommandsKeepTheirFrame : Prop :=
  (∀ (s t : State) (ix : Fin 4) (rising : Bool), exec (.tempoInputEdge ix rising) s = .next t →
      Only (faultRegs ++ ([.PART_TEMPO_STAT, .PART_TEMPO_EARLY, .PART_TIN_COUNT] : List Reg)) [.parts, .hif, .lnk, .tmp] s t) ∧
  (∀ (s t : State) (g : Fin 4), exec (.generatorTick g) s = .next t →
      Only (faultRegs ++ ([.PART_TEMPO_STAT, .PART_TEMPO_EARLY, .PART_GEN_CTL] : List Reg)) [.parts, .hif, .lnk, .tmp] s t) ∧
  (∀ (s t : State) (ix : Fin 8) (bell : BitVec 48), exec (.chainTempo ix bell) s = .next t →
      Only (faultRegs ++ ([.PART_TEMPO_STAT, .PART_TEMPO_EARLY, .XOT_CH_STAT] : List Reg)) [.parts, .hif, .lnk] s t) ∧
  (∀ (s t : State) (p : Fin 16), exec (.bellStart p) s = .next t →
      Only (traceRegs ++ ([.PART_STATE, .PART_TEMPO_STAT, .PART_BELL_NUM_LO, .PART_BELL_NUM_HI, .TRC_SNAP_STAT, .TRC_JRN_STAT,
        .PIO_PIN_CFG] : List Reg)) [.scc, .bp, .net, .parts, .frz, .mem, .hif, .rel, .trc, .stw, .tmp, .seq] s t) ∧
  (∀ (s t : State), exec .tempoOutFall s = .next t →
      Only [] [.scc, .frz, .stw, .tmp] s t) ∧
  (∀ (s t : State) (p : Fin 16), exec (.tempoStall p) s = .next t →
      Only [.PART_TEMPO_STAT, .HIF_IRQ_PEND_LO, .HIF_IRQ_PEND_HI] [.hif] s t) ∧
  (∀ (s t : State) (rq : Requester) (g : Fin 4) (v : BitVec 32), exec (.genCtlWrite rq g v) s = .next t →
      Only (violRegs ++ ([.PART_GEN_CTL] : List Reg)) [.hif, .tmp, .resp] s t) ∧
  (∀ (s t : State) (rq : Requester) (p : Fin 16), exec (.load rq p) s = .next t →
      Only (loadEndRegs ++ violRegs) [.bp, .net, .parts, .frz, .mem, .hif, .rel, .trc, .stw, .lnk, .clk, .pio, .ld, .resp,
        .seq] s t) ∧
  (∀ (s t : State) (rq : Requester) (p : Fin 16) (arg : BitVec 16), exec (.arm rq p arg) s = .next t →
      Only (violRegs ++ ([.PART_CMD_STATUS] : List Reg)) [.parts, .hif, .resp] s t) ∧
  (∀ (s t : State) (p : Fin 16), exec (.armDone p) s = .next t →
      Only (faultRegs ++ ([.PART_STATE, .PART_CMD_STATUS, .PART_TEMPO_STAT, .PART_BELL_NUM_LO, .PART_BELL_NUM_HI, .PART_FREEZE_CNT,
        .PART_FROZEN_CLOCKS_LO, .PART_FROZEN_CLOCKS_HI, .PART_FRZ_LAST, .PART_FRZ_LAST_BELL_LO, .PART_FRZ_LAST_BELL_HI,
        .PART_NOTICE, .PART_FAULT_TAIL, .PART_LDR_DONE, .HIF_MBX_STAT] : List Reg)) [.bp, .net, .parts, .frz, .mem, .hif, .stw,
        .lnk, .ld] s t) ∧
  (∀ (s t : State) (rq : Requester) (p : Fin 16) (arg : BitVec 16), exec (.start rq p arg) s = .next t →
      Only (haltRegs ++ violRegs) [.parts, .frz, .hif, .resp] s t) ∧
  (∀ (s t : State) (high : Bool), exec (.doneSensed high) s = .next t →
      Only (haltRegs ++ violRegs ++ ([.PART_LDR_DONE] : List Reg)) [.parts, .frz, .hif, .ld, .resp] s t) ∧
  (∀ (s t : State) (rq : Requester) (p : Fin 16) (arg : BitVec 16), exec (.stopAtBell rq p arg) s = .next t →
      Only (haltRegs ++ violRegs) [.parts, .frz, .hif, .resp] s t) ∧
  (∀ (s t : State) (rq : Requester) (p : Fin 16) (arg : BitVec 16), exec (.resume rq p arg) s = .next t →
      Only (haltRegs ++ violRegs) [.parts, .frz, .hif, .resp] s t) ∧
  (∀ (s t : State) (rq : Requester) (p : Fin 16) (arg : BitVec 16), exec (.freezeNow rq p arg) s = .next t →
      Only (violRegs ++ ([.PART_CMD_STATUS, .PART_FRZ_STATUS] : List Reg)) [.frz, .hif, .resp] s t) ∧
  (∀ (s t : State) (rq : Requester) (p : Fin 16) (arg : BitVec 16), exec (.capture rq p arg) s = .next t →
      Only (snapshotRegs ++ violRegs) [.bp, .parts, .mem, .hif, .rel, .trc, .resp] s t) ∧
  (∀ (s t : State) (rq : Requester) (p : Fin 16) (arg : BitVec 16), exec (.rewind rq p arg) s = .next t →
      Only (violRegs ++ ([.PART_CMD_STATUS, .TRC_REPLAY_STAT] : List Reg)) [.hif, .trc, .resp] s t) ∧
  (∀ (s t : State) (rq : Requester) (p : Fin 16) (arg : BitVec 16), exec (.abort rq p arg) s = .next t →
      Only (loadEndRegs ++ violRegs) [.bp, .net, .parts, .frz, .mem, .hif, .rel, .trc, .stw, .lnk, .clk, .pio, .ld, .resp,
        .seq] s t) ∧
  (∀ (s t : State) (rq : Requester) (p : Fin 16) (arg : BitVec 16), exec (.unload rq p arg) s = .next t →
      Only (linkRegs ++ haltRegs ++ writerRegs ++ violRegs ++ ([.CLS_SUB_STATUS, .CLS_SUB_CMD_STATUS, .CLS_SEQ_STATUS,
        .PART_COMMIT, .NET_PART_LAT, .NET_SW_OWN, .NET_SW_VALID, .NET_BR_OWN_WE, .NET_BR_OWN_EW, .NET_BR_VALID, .PART_FRZ_CHAIN,
        .BBD_BANK, .BBD_PART, .BBD_MARCH_STATUS, .HBM_BUDGET_LO, .HBM_BUDGET_HI, .HBM_REG_A, .PART_LAT_DECL, .PART_LAT_PORT,
        .PART_LAT_PORT_CTL, .PART_LDR_DONE, .TRC_SNAP_STAT, .TRC_JRN_STAT, .TRC_REPLAY_STAT, .XOT_STAT, .HIF_MBX_STAT,
        .PRC_CLS_SUB_STAT, .PIO_PIN_CFG] : List Reg)) [.bp, .net, .parts, .frz, .mem, .hif, .rel, .trc, .stw, .lnk, .clk, .pio,
        .ld, .resp, .seq] s t) ∧
  (∀ (s t : State) (rq : Requester) (p : Fin 16) (cancel : Bool), exec (.partCommit rq p cancel) s = .next t →
      Only (writerRegs ++ violRegs ++ ([.PART_STATE, .PART_CMD_STATUS, .PART_CFG, .PART_TEMPO, .PART_COMMIT, .PART_TEMPO_STAT,
        .PART_TEMPO_EARLY, .PART_FAULT_ACTION, .TRC_PCFG, .TRC_SNAP_STAT, .TRC_JRN_STAT, .HIF_MBX_STAT] : List Reg)) [.bp, .net,
        .parts, .mem, .hif, .trc, .stw, .lnk, .resp, .seq] s t) ∧
  (∀ (s t : State) (rq : Requester) (p : Fin 16), exec (.partCommitCancel rq p) s = .next t →
      Only (violRegs ++ ([.PART_STATE, .PART_CMD_STATUS, .PART_COMMIT] : List Reg)) [.hif, .resp] s t) ∧
  (∀ (s t : State) (rq : Requester) (p : Fin 16) (v : BitVec 32), exec (.faultTailWrite rq p v) s = .next t →
      Only (violRegs ++ ([.PART_FAULT_HEAD, .PART_FAULT_TAIL] : List Reg)) [.hif, .resp] s t) ∧
  (∀ (s t : State) (rq : Requester) (n : Fin 256) (k : BitVec 9) (j : BitVec 4), exec (.subFollow rq n k j) s = .next t →
      Only (violRegs ++ ([.CLS_SUB_STATUS, .CLS_SUB_CMD_STATUS] : List Reg)) [.bp, .hif, .resp] s t) ∧
  (∀ (s t : State) (rq : Requester) (n : Fin 256), exec (.subCommit rq n) s = .next t →
      Only (violRegs ++ reportRegs ++ ([.CLS_SUB_STATUS, .CLS_SUB_CMD_STATUS, .CLS_BP_MAP] : List Reg)) [.bp, .hif, .rel,
        .resp] s t) ∧
  (∀ (s t : State) (rq : Requester) (n : Fin 256), exec (.subCancel rq n) s = .next t →
      Only (violRegs ++ ([.CLS_SUB_STATUS, .CLS_SUB_CMD_STATUS] : List Reg)) [.bp, .hif, .resp] s t) ∧
  (∀ (s t : State) (rq : Requester) (n : Fin 256), exec (.clsFollow rq n) s = .next t →
      Only (violRegs ++ ([.PRC_CLS_SUB_STAT] : List Reg)) [.hif, .rel, .resp] s t) ∧
  (∀ (s t : State) (rq : Requester) (n : Fin 256), exec (.clsCommit rq n) s = .next t →
      Only (subRegs ++ violRegs) [.bp, .mem, .hif, .rel, .resp] s t) ∧
  (∀ (s t : State) (rq : Requester) (n : Fin 256), exec (.clsCancel rq n) s = .next t →
      Only (violRegs ++ ([.PRC_CLS_SUB_STAT] : List Reg)) [.hif, .rel, .resp] s t) ∧
  (∀ (s t : State) (n : Fin 256) (cls : Bool), exec (.followCopyDone n cls) s = .next t →
      Only [.CLS_SUB_STATUS, .CLS_SUB_CMD_STATUS, .PRC_CLS_SUB_STAT] [.bp, .rel] s t) ∧
  (∀ (s t : State) (p : Fin 16) (b : Fin 2), exec (.freezeRegistration p b) s = .next t →
      Only [.PART_FRZ_STATUS, .PART_FRZ_CHAIN] [.scc, .frz, .stw, .tmp] s t) ∧
  (∀ (s t : State) (p : Fin 16) (b : Fin 2) (cause : Fin 13) (src : Fin 2048), exec (.lateItemArrival p b cause src) s = .next t →
      Only [.PART_FRZ_STATUS] [.parts, .frz] s t) ∧
  (∀ (s t : State) (b : Fin 2) (w : BitVec 64) (starts : BitVec 16), exec (.bridgeControlWordRx b w starts) s = .next t →
      Only (faultRegs ++ ([.PART_STATE, .PART_FREEZE_CNT, .PART_FRZ_STATUS, .PART_FRZ_LAST, .PART_FRZ_LAST_BELL_LO,
        .PART_FRZ_LAST_BELL_HI, .PART_NOTICE, .PART_FRZ_CHAIN, .DBG_FUN_WR, .DBG_FUN_LOST] : List Reg)) [.parts, .frz, .mem, .hif,
        .trc, .seq] s t) ∧
  (∀ (s t : State) (b : Fin 2) (mask : BitVec 16) (tgt : BitVec 18), exec (.bridgeFreezeMsg b mask tgt) s = .next t →
      Only [.PART_FRZ_STATUS] [.frz] s t) ∧
  (∀ (s t : State) (b : Fin 2) (mask : BitVec 16), exec (.bridgeClearMsg b mask) s = .next t →
      Only [.PART_FRZ_STATUS, .PART_FRZ_CHAIN] [.frz] s t) ∧
  (∀ (s t : State) (b : Fin 2) (mask : BitVec 16) (tgt : BitVec 18), exec (.bridgeResumeMsg b mask tgt) s = .next t →
      Only [.PART_FRZ_STATUS] [.frz] s t) ∧
  (∀ (s t : State) (rq : Requester) (c : Fin 4) (src : BitVec 2) (p : Fin 16) (keep gate : Bool) (port : Fin 8),
    exec (.loaderStart rq c src p keep gate port) s = .next t →
      Only (violRegs ++ ([.PART_LDR_STATUS, .PART_LDR_BYTES_LO, .PART_LDR_DONE] : List Reg)) [.hif, .ld, .resp] s t) ∧
  (∀ (s t : State) (rq : Requester) (c : Fin 4), exec (.loaderCancel rq c) s = .next t →
      Only (loadEndRegs ++ violRegs) [.bp, .net, .parts, .frz, .mem, .hif, .rel, .trc, .stw, .lnk, .clk, .pio, .ld, .resp,
        .seq] s t) ∧
  (∀ (s t : State) (c : Fin 4) (data : List Byte) (last : Bool), exec (.loadSection c data last) s = .next t →
      Only (loadEndRegs ++ violRegs ++ ([.PART_LDR_BYTES_LO] : List Reg)) [.bp, .net, .parts, .frz, .mem, .hif, .rel, .trc, .stw,
        .lnk, .clk, .pio, .ld, .seq] s t) ∧
  (∀ (s t : State) (c : Fin 4), exec (.loadComplete c) s = .next t →
      Only (loadEndRegs ++ ([.PART_CFG, .PART_CFG_NEXT, .PART_TEMPO, .PART_TEMPO_NEXT, .PART_FAULT_ACTION,
        .PART_FAULT_ACTION_NEXT] : List Reg)) [.bp, .net, .parts, .frz, .mem, .hif, .rel, .trc, .stw, .lnk, .clk, .pio, .ld,
        .seq] s t) ∧
  (∀ (s t : State) (c : Fin 4), exec (.loadTimeout c) s = .next t →
      Only loadEndRegs [.bp, .net, .parts, .frz, .mem, .hif, .rel, .trc, .stw, .lnk, .clk, .pio, .ld, .seq] s t)

/-- What the step clock, link and frame commands may change. For every state and every operand, a command named here changes at
most the registers and the parts of the state that stand beside its name: every other register of the whole map keeps every bit
of every instance, every other part of the state is as it was, and every byte of memory is as it was where the memories are not
among the parts. The queue of waiting commands is as it was. What the register lists call by a name is listed in Safety.lean.
(R256, R291) -/
def Obligations.LinkCommandsKeepTheirFrame : Prop :=
  (∀ (s t : State), exec .stepClockChange s = .next t →
      Only [.PART_FRZ_STATUS, .HIF_IRQ_PEND_LO, .HIF_IRQ_PEND_HI, .GLB_STEP_FREQ, .GLB_DERATE_REASON] [.frz, .hif, .clk] s t) ∧
  (∀ (s t : State), exec .clkchgWindowExpiry s = .next t →
      Only [.PART_FRZ_STATUS] [.scc, .frz, .stw, .tmp] s t) ∧
  (∀ (s t : State), exec .stepPllLock s = .next t →
      Only [] [.clk] s t) ∧
  (∀ (s t : State) (rq : Requester) (v : BitVec 32), exec (.glbStepTargetWrite rq v) s = .next t →
      Only (violRegs ++ ([.RST_PWR_STAT, .GLB_STEP_TARGET, .GLB_STEP_FREQ, .GLB_DERATE_REASON] : List Reg)) [.hif, .lnk, .clk,
        .resp] s t) ∧
  (∀ (s t : State) (rq : Requester) (l : Fin 68), exec (.linkEnable rq l) s = .next t →
      Only (violRegs ++ ([.XOT_STAT, .LNK_STAT] : List Reg)) [.hif, .lnk, .resp] s t) ∧
  (∀ (s t : State) (rq : Requester) (l : Fin 68), exec (.linkDisable rq l) s = .next t →
      Only (violRegs ++ ([.LNK_STAT] : List Reg)) [.hif, .lnk, .resp] s t) ∧
  (∀ (s t : State) (rq : Requester) (l : Fin 68), exec (.linkRetrain rq l) s = .next t →
      Only (violRegs ++ ([.LNK_STAT] : List Reg)) [.hif, .lnk, .resp] s t) ∧
  (∀ (s t : State) (rq : Requester) (l : Fin 68), exec (.linkNap rq l) s = .next t →
      Only (violRegs ++ ([.LNK_STAT] : List Reg)) [.hif, .resp] s t) ∧
  (∀ (s t : State) (rq : Requester) (l : Fin 68), exec (.linkRecess rq l) s = .next t →
      Only (violRegs ++ ([.LNK_STAT] : List Reg)) [.hif, .lnk, .resp] s t) ∧
  (∀ (s t : State) (rq : Requester) (l : Fin 68), exec (.linkWake rq l) s = .next t →
      Only (violRegs ++ ([.XOT_STAT, .LNK_STAT] : List Reg)) [.hif, .lnk, .resp] s t) ∧
  (∀ (s t : State) (rq : Requester) (l : Fin 68) (kind : BitVec 4) (consent : Bool),
    exec (.loopback rq l kind consent) s = .next t →
      Only (violRegs ++ ([.LNK_STAT] : List Reg)) [.hif, .lnk, .resp] s t) ∧
  (∀ (s t : State) (rq : Requester) (l : Fin 68), exec (.lbEnd rq l) s = .next t →
      Only (violRegs ++ ([.LNK_STAT] : List Reg)) [.hif, .lnk, .resp] s t) ∧
  (∀ (s t : State) (rq : Requester) (l : Fin 68) (lane : BitVec 8), exec (.linkSpareCmd rq l lane) s = .next t →
      Only (violRegs ++ ([.LNK_STAT] : List Reg)) [.hif, .lnk, .resp] s t) ∧
  (∀ (s t : State) (l : Fin 68), exec (.napIdleTimeout l) s = .next t →
      Only [.LNK_STAT] [] s t) ∧
  (∀ (s t : State) (l : Fin 68) (seen : BitVec 17), exec (.napExitDone l seen) s = .next t →
      Only (linkRegs ++ ([.LNK_LANE] : List Reg)) [.parts, .frz, .hif, .lnk, .clk] s t) ∧
  (∀ (s t : State) (l : Fin 68) (n : Fin 17), exec (.laneLock l n) s = .next t →
      Only [.LNK_LANE] [] s t) ∧
  (∀ (s t : State) (l : Fin 68) (n : Fin 17), exec (.laneLossOfLock l n) s = .next t →
      Only (linkRegs ++ reportRegs ++ ([.LNK_LANE] : List Reg)) [.parts, .frz, .hif, .rel, .lnk, .clk] s t) ∧
  (∀ (s t : State) (l : Fin 68), exec (.linkRemap l) s = .next t →
      Only (linkRegs ++ reportRegs ++ ([.LNK_LANE] : List Reg)) [.parts, .frz, .hif, .rel, .lnk, .clk] s t) ∧
  (∀ (s t : State) (l : Fin 68) (bip : BitVec 17) (bad : List (Nat × Nat)) (skew : BitVec 17),
    exec (.am l bip bad skew) s = .next t →
      Only (linkRegs ++ reportRegs ++ ([.LNK_CFG, .LNK_LANE, .LNK_ERR] : List Reg)) [.parts, .frz, .hif, .rel, .lnk, .clk] s t) ∧
  (∀ (s t : State) (l : Fin 68), exec (.amPeriod l) s = .next t →
      Only [] [.lnk] s t) ∧
  (∀ (s t : State) (l : Fin 68) (v : BitVec 32), exec (.trainingPhaseDone l v) s = .next t →
      Only (linkRegs ++ ([.LNK_LANE, .TIM_CMK_OW] : List Reg)) [.parts, .frz, .hif, .lnk, .clk] s t) ∧
  (∀ (s t : State) (l : Fin 68), exec (.trainingTimeout l) s = .next t →
      Only [.LNK_STAT] [.lnk] s t) ∧
  (∀ (s t : State) (l : Fin 68) (group : BitVec 12) (good : Bool) (data : List Nat),
    exec (.crcBlock l group good data) s = .next t →
      Only [.PART_FRZ_STATUS, .PART_NOTICE, .XOT_VEC_STAT, .XOT_CH_STAT, .LNK_STAT, .LNK_CNT] [.parts, .frz, .lnk] s t) ∧
  (∀ (s t : State) (l : Fin 68) (group : BitVec 12), exec (.replay l group) s = .next t →
      Only [.LNK_STAT, .LNK_CNT] [.lnk] s t) ∧
  (∀ (s t : State) (l : Fin 68), exec (.replayTimeout l) s = .next t →
      Only [.LNK_STAT] [.lnk] s t) ∧
  (∀ (s t : State) (u r : Fin 2) (bad nak group : BitVec 12) (notice : Nat) (cw : Option (Nat × Nat)),
    exec (.checkFrame u r bad nak group notice cw) s = .next t →
      Only (faultRegs ++ ([.PART_STATE, .PART_FREEZE_CNT, .PART_FRZ_STATUS, .PART_FRZ_LAST, .PART_FRZ_LAST_BELL_LO,
        .PART_FRZ_LAST_BELL_HI, .PART_NOTICE, .PART_FRZ_CHAIN, .LNK_STAT, .LNK_CNT, .DBG_FUN_WR,
        .DBG_FUN_LOST] : List Reg)) [.parts, .frz, .mem, .hif, .trc, .lnk, .seq] s t) ∧
  (∀ (s t : State) (l : Fin 68) (fam mem lvl mode : BitVec 8) (turn : BitVec 32),
    exec (.linkCap l fam mem lvl mode turn) s = .next t →
      Only [.XOT_PEER] [.lnk] s t) ∧
  (∀ (s t : State) (l : Fin 68) (id : BitVec 48), exec (.linkId l id) s = .next t →
      Only [] [.lnk] s t) ∧
  (∀ (s t : State) (ix : Fin 8) (e : BitVec 16), exec (.linkEpoch ix e) s = .next t →
      Only [.XOT_PEER] [] s t) ∧
  (∀ (s t : State) (ix : Fin 8) (d : BitVec 8), exec (.linkDist ix d) s = .next t →
      Only [.XOT_STAT] [.lnk] s t) ∧
  (∀ (s t : State) (ix : Fin 8) (f : BitVec 16), exec (.linkDerate ix f) s = .next t →
      Only (linkRegs ++ ([.XOT_STAT] : List Reg)) [.parts, .frz, .hif, .lnk, .clk] s t) ∧
  (∀ (s t : State) (l : Fin 68) (n : Fin 17), exec (.linkSpare l n) s = .next t →
      Only [.LNK_LANE] [.lnk] s t) ∧
  (∀ (s t : State) (l : Fin 68) (tag : BitVec 32), exec (.linkProbe l tag) s = .next t →
      Only [] [.lnk] s t) ∧
  (∀ (s t : State) (l : Fin 68) (rtt : BitVec 32), exec (.linkEcho l rtt) s = .next t →
      Only [] [.lnk] s t) ∧
  (∀ (s t : State) (l : Fin 68), exec (.linkSkip l) s = .next t →
      Only [.LNK_STAT] [] s t) ∧
  (∀ (s t : State) (ix : Fin 8), exec (.linkFcfg ix) s = .next t →
      Only [] [.lnk] s t) ∧
  (∀ (s t : State) (ix : Fin 8) (n : BitVec 16), exec (.bulk ix n) s = .next t →
      Only [] [.lnk] s t) ∧
  (∀ (s t : State) (ix : Fin 8) (bell : BitVec 48), exec (.chainBell ix bell) s = .next t →
      Only [.XOT_CH_STAT] [.parts, .lnk] s t) ∧
  (∀ (s t : State) (ix : Fin 8) (bell : BitVec 48) (codes : List Nat), exec (.rframe ix bell codes) s = .next t →
      Only [.PART_FRZ_STATUS, .XOT_VEC_STAT] [.parts, .frz, .lnk] s t) ∧
  (∀ (s t : State) (p : Fin 16) (port : Fin 8) (seq : BitVec 8) (bell : BitVec 48) (code : BitVec 13),
    exec (.chFreeze p port seq bell code) s = .next t →
      Only (faultRegs ++ ([.PART_FRZ_STATUS, .PART_NOTICE] : List Reg)) [.parts, .frz, .hif, .lnk] s t) ∧
  (∀ (s t : State) (p : Fin 16) (port : Fin 8) (seq : BitVec 8) (bell : BitVec 48) (code : BitVec 13),
    exec (.chFrozen p port seq bell code) s = .next t →
      Only (faultRegs ++ ([.PART_NOTICE, .PART_FRZ_CHAIN] : List Reg)) [.parts, .frz, .hif, .lnk] s t) ∧
  (∀ (s t : State) (p : Fin 16) (port : Fin 8) (seq : BitVec 8), exec (.chClear p port seq) s = .next t →
      Only (faultRegs ++ ([.PART_NOTICE, .PART_FRZ_CHAIN] : List Reg)) [.parts, .frz, .hif, .lnk] s t) ∧
  (∀ (s t : State) (p : Fin 16) (port : Fin 8) (seq : BitVec 8) (bell : BitVec 48) (code : BitVec 13) (delay : BitVec 32),
    exec (.chResume p port seq bell code delay) s = .next t →
      Only (faultRegs ++ ([.PART_NOTICE, .PART_FRZ_CHAIN] : List Reg)) [.parts, .frz, .hif, .lnk] s t)

/-- What the memory, stopwatch, trace and pin commands may change. For every state and every operand, a command named here
changes at most the registers and the parts of the state that stand beside its name: every other register of the whole map keeps
every bit of every instance, every other part of the state is as it was, and every byte of memory is as it was where the
memories are not among the parts. The queue of waiting commands is as it was. What the register lists call by a name is listed
in Safety.lean. (R136, R208, R242, R458) -/
def Obligations.MemoryAndInstrumentCommandsKeepTheirFrame : Prop :=
  (∀ (s t : State) (p : Fin 16) (stack : Fin 4) (chan : Fin 32) (late : Bool), exec (.hbmSchedule p stack chan late) s = .next t →
      Only [.PART_FRZ_STATUS, .PART_NOTICE, .HBM_LATE] [.parts, .frz] s t) ∧
  (∀ (s t : State) (stack : Fin 4) (temp : Fin 256), exec (.hbmRefresh stack temp) s = .next t →
      Only [.HBM_STATUS] [] s t) ∧
  (∀ (s t : State) (rq : Requester) (write : Bool) (a : BitVec 48) (be : BitVec 8) (data : BitVec 64),
    exec (.designMemoryAccess rq write a be data) s = .next t →
      Only (violRegs ++ reportRegs ++ ([.BBD_BANK, .BBD_CE, .BBD_UE, .BBD_UE_ADDR_LO, .BBD_UE_ADDR_HI, .HBM_CE, .HBM_UE,
        .TRC_SNAP_STAT, .TRC_JRN_STAT, .RST_PWR_STAT] : List Reg)) [.mem, .hif, .rel, .trc, .resp] s t) ∧
  (∀ (s t : State) (rq : Requester) (o : BitVec 28) (be : BitVec 8) (data : BitVec 64),
    exec (.bitSetAliasWrite rq o be data) s = .next t →
      Only (violRegs ++ ([.BBD_BANK, .TRC_SNAP_STAT, .TRC_JRN_STAT, .RST_PWR_STAT] : List Reg)) [.mem, .hif, .trc, .resp] s t) ∧
  (∀ (s t : State) (rq : Requester) (o : BitVec 28) (be : BitVec 8) (data : BitVec 64),
    exec (.bitClearAliasWrite rq o be data) s = .next t →
      Only (violRegs ++ ([.BBD_BANK, .TRC_SNAP_STAT, .TRC_JRN_STAT, .RST_PWR_STAT] : List Reg)) [.mem, .hif, .trc, .resp] s t) ∧
  (∀ (s t : State) (b : Fin 512), exec (.eccWriteback b) s = .next t →
      Only [] [.mem] s t) ∧
  (∀ (s t : State) (b : Fin 512) (w : BitVec 16), exec (.backgroundScrub b w) s = .next t →
      Only (reportRegs ++ ([.BBD_CE, .BBD_UE, .BBD_UE_ADDR_LO, .BBD_UE_ADDR_HI] : List Reg)) [.mem, .hif, .rel] s t) ∧
  (∀ (s t : State) (blk : Fin 896), exec (.bankZeroiseDone blk) s = .next t →
      Only [.BBD_BANK] [.mem] s t) ∧
  (∀ (s t : State) (rq : Requester) (ix : Fin 2), exec (.marchStart rq ix) s = .next t →
      Only (violRegs ++ ([.BBD_MARCH_STATUS, .BBD_MARCH_FAIL] : List Reg)) [.mem, .hif, .resp, .seq] s t) ∧
  (∀ (s t : State) (rq : Requester) (ix : Fin 2) (cur : Fin 256), exec (.marchStop rq ix cur) s = .next t →
      Only (violRegs ++ ([.BBD_MARCH_STATUS] : List Reg)) [.mem, .hif, .resp] s t) ∧
  (∀ (s t : State) (ix : Fin 2) (fails : List (Nat × Nat)), exec (.marchDone ix fails) s = .next t →
      Only [.BBD_BANK, .BBD_MARCH_STATUS, .BBD_MARCH_FAIL] [.mem] s t) ∧
  (∀ (s t : State) (rq : Requester) (b : Fin 512), exec (.retire rq b) s = .next t →
      Only (violRegs ++ reportRegs ++ ([.BBD_BANK, .BBD_RETIRE_STATUS] : List Reg)) [.hif, .rel, .resp] s t) ∧
  (∀ (s t : State) (rq : Requester) (b : Fin 512), exec (.unretire rq b) s = .next t →
      Only (violRegs ++ ([.BBD_BANK, .BBD_RETIRE_STATUS] : List Reg)) [.hif, .resp] s t) ∧
  (∀ (s t : State) (rq : Requester) (k : Fin 4) (page : BitVec 23), exec (.hbmRetire rq k page) s = .next t →
      Only (violRegs ++ ([.HBM_RET_STAT] : List Reg)) [.mem, .hif, .resp] s t) ∧
  (∀ (s t : State) (k : Fin 4), exec (.hbmPageSwitch k) s = .next t →
      Only (reportRegs ++ ([.HBM_RET_STAT] : List Reg)) [.mem, .hif, .rel] s t) ∧
  (∀ (s t : State) (ix : Fin 2), exec (.marchRestoreDone ix) s = .next t →
      Only [.BBD_MARCH_STATUS] [] s t) ∧
  (∀ (s t : State) (ix : Fin 64) (rising : Bool) (u : BitVec 64), exec (.stwEdge ix rising u) s = .next t →
      Only [.STW_IN_STAT] [.stw] s t) ∧
  (∀ (s t : State) (ix : Fin 64), exec (.recordEnd ix) s = .next t →
      Only (writerRegs ++ ([.STW_IN_RX, .STW_IN_DSK, .STW_IN_CFG, .STW_TDC] : List Reg)) [.mem, .trc, .stw, .seq] s t) ∧
  (∀ (s t : State) (b : Fin 2) (drift : Option Int), exec (.tdcHandover b drift) s = .next t →
      Only (reportRegs ++ ([.STW_IN_STAT, .STW_CAL_STAT, .STW_TDC] : List Reg)) [.hif, .rel, .stw] s t) ∧
  (∀ (s t : State) (u : Fin 68) (ok : Bool), exec (.tdcCalDone u ok) s = .next t →
      Only (reportRegs ++ ([.STW_IN_STAT, .STW_CAL_STAT, .STW_TDC] : List Reg)) [.hif, .rel, .stw] s t) ∧
  (∀ (s t : State) (rq : Requester) (ix : Fin 64), exec (.stwInEnable rq ix) s = .next t →
      Only (violRegs ++ ([.STW_IN_STAT] : List Reg)) [.hif, .resp] s t) ∧
  (∀ (s t : State) (rq : Requester) (ix : Fin 64), exec (.stwInArm rq ix) s = .next t →
      Only (violRegs ++ ([.STW_IN_RX, .STW_IN_DSK, .STW_IN_CFG, .STW_IN_STAT, .STW_TDC] : List Reg)) [.hif, .stw, .resp] s t) ∧
  (∀ (s t : State) (rq : Requester) (ix : Fin 64), exec (.stwInStop rq ix) s = .next t →
      Only (writerRegs ++ violRegs) [.mem, .hif, .trc, .stw, .resp, .seq] s t) ∧
  (∀ (s t : State) (rq : Requester) (ix : Fin 64), exec (.stwInDisable rq ix) s = .next t →
      Only (violRegs ++ ([.STW_IN_STAT] : List Reg)) [.hif, .resp] s t) ∧
  (∀ (s t : State) (rq : Requester), exec (.tbLatch rq) s = .next t →
      Only (violRegs ++ ([.STW_TB_LO, .STW_TB_HI, .STW_TB_NS, .STW_TB_SEC_LO, .STW_TB_SEC_HI] : List Reg)) [.hif, .resp] s t) ∧
  (∀ (s t : State) (rq : Requester), exec (.calStart rq) s = .next t →
      Only (violRegs ++ ([.STW_CAL_STAT] : List Reg)) [.hif, .resp] s t) ∧
  (∀ (s t : State) (rq : Requester), exec (.calStop rq) s = .next t →
      Only (violRegs ++ ([.STW_CAL_STAT] : List Reg)) [.hif, .resp] s t) ∧
  (∀ (s t : State) (u : Fin 68), exec (.tdcSelfCheckFail u) s = .next t →
      Only (reportRegs ++ ([.STW_IN_STAT, .STW_CAL_STAT, .STW_TDC] : List Reg)) [.hif, .rel, .stw] s t) ∧
  (∀ (s t : State) (n : Fin 16), exec (.triggerFire n) s = .next t →
      Only (traceRegs ++ ([.PART_STATE, .TRC_TRG_STAT, .STW_TRG_STAT, .STW_TRG_TIME_LO, .STW_LINE] : List Reg)) [.parts, .mem,
        .hif, .trc, .dbg, .stw, .seq] s t) ∧
  (∀ (s t : State) (n : Fin 16), exec (.triggerTimeout n) s = .next t →
      Only [] [.stw] s t) ∧
  (∀ (s t : State) (n : Fin 16) (held : Bool), exec (.instrLineRelease n held) s = .next t →
      Only [.STW_LINE] [.stw] s t) ∧
  (∀ (s t : State) (l : Fin 8) (rising : Bool) (u : BitVec 64), exec (.instrLineEdge l rising u) s = .next t →
      Only [.STW_LINE] [.stw] s t) ∧
  (∀ (s t : State) (rq : Requester) (n : Fin 16), exec (.stwTrgArm rq n) s = .next t →
      Only (violRegs ++ ([.STW_TRG_STAT] : List Reg)) [.hif, .stw, .resp] s t) ∧
  (∀ (s t : State) (rq : Requester) (n : Fin 16), exec (.stwTrgDisarm rq n) s = .next t →
      Only (violRegs ++ ([.STW_TRG_STAT] : List Reg)) [.hif, .stw, .resp] s t) ∧
  (∀ (s t : State) (rq : Requester) (n : Fin 16), exec (.stwTrgForce rq n) s = .next t →
      Only (traceRegs ++ violRegs ++ ([.PART_STATE, .TRC_TRG_STAT, .STW_TRG_STAT, .STW_TRG_TIME_LO,
        .STW_LINE] : List Reg)) [.parts, .mem, .hif, .trc, .dbg, .stw, .resp, .seq] s t) ∧
  (∀ (s t : State) (rq : Requester) (g : Fin 64) (hi : BitVec 32), exec (.mailboxPost rq g hi) s = .next t →
      Only (violRegs ++ ([.PART_FRZ_STATUS, .HIF_MBX_BELL_HI, .HIF_MBX_STAT] : List Reg)) [.parts, .frz, .hif, .resp] s t) ∧
  (∀ (s t : State) (rq : Requester) (p : Fin 16), exec (.trcArm rq p) s = .next t →
      Only (violRegs ++ ([.TRC_PSTAT, .TRC_TRG_STAT] : List Reg)) [.hif, .trc, .resp] s t) ∧
  (∀ (s t : State) (rq : Requester) (p : Fin 16), exec (.trcStop rq p) s = .next t →
      Only (traceRegs ++ violRegs) [.mem, .hif, .trc, .resp, .seq] s t) ∧
  (∀ (s t : State) (rq : Requester) (p : Fin 16), exec (.trcForce rq p) s = .next t →
      Only (traceRegs ++ violRegs ++ ([.PART_STATE, .TRC_TRG_STAT] : List Reg)) [.parts, .mem, .hif, .trc, .dbg, .resp, .seq] s t) ∧
  (∀ (s t : State) (rq : Requester) (g : Fin 96) (v : BitVec 32), exec (.pinCfgWrite rq g v) s = .next t →
      Only (violRegs ++ ([.PIO_PIN_CFG] : List Reg)) [.hif, .resp] s t) ∧
  (∀ (s t : State) (rq : Requester) (key : BitVec 8), exec (.pioLockKey rq key) s = .next t →
      Only (violRegs ++ ([.PIO_STAT] : List Reg)) [.hif, .pio, .resp] s t) ∧
  (∀ (s t : State) (rq : Requester), exec (.pioLock rq) s = .next t →
      Only (violRegs ++ ([.PIO_PIN_CFG, .PIO_LOCK_STAT, .PIO_STAT] : List Reg)) [.hif, .resp] s t) ∧
  (∀ (s t : State) (rq : Requester) (pin : BitVec 8) (value : BitVec 2), exec (.pioFuseCmd rq pin value) s = .next t →
      Only (violRegs ++ ([.PIO_STAT] : List Reg)) [.hif, .pio, .resp] s t) ∧
  (∀ (s t : State) (b : Fin 4) (good v12 : Bool), exec (.bankSupplyChange b good v12) s = .next t →
      Only [.PIO_BANK_STAT] [] s t) ∧
  (∀ (s t : State) (ir : BitVec 8), exec (.jtagInstruction ir) s = .next t →
      Only [] [.pio] s t)

/-- What the time, host, key and debug commands may change. For every state and every operand, a command named here changes at
most the registers and the parts of the state that stand beside its name: every other register of the whole map keeps every bit
of every instance, every other part of the state is as it was, and every byte of memory is as it was where the memories are not
among the parts. The queue of waiting commands is as it was. What the register lists call by a name is listed in Safety.lean.
(R192, R327, R347) -/
def Obligations.TimeHostAndKeyCommandsKeepTheirFrame : Prop :=
  (∀ (s t : State), exec .timeIncrement s = .next t →
      Only [.HIF_IRQ_PEND_LO, .HIF_IRQ_PEND_HI, .TIM_STAT, .TIM_EVT] [.tim, .hif, .tmp] s t) ∧
  (∀ (s t : State) (rq : Requester), exec (.timeStep rq) s = .next t →
      Only (violRegs ++ ([.TIM_STAT, .TIM_EVT] : List Reg)) [.tim, .hif, .resp] s t) ∧
  (∀ (s t : State) (rq : Requester), exec (.timeRearm rq) s = .next t →
      Only (violRegs ++ ([.TIM_STAT] : List Reg)) [.tim, .hif, .resp] s t) ∧
  (∀ (s t : State) (rq : Requester) (v : BitVec 32), exec (.timRateWrite rq v) s = .next t →
      Only (violRegs ++ ([.TIM_RATE] : List Reg)) [.hif, .resp] s t) ∧
  (∀ (s t : State) (kind : BitVec 4) (seqId : BitVec 16) (ipv6 : Bool), exec (.ptpEventTx kind seqId ipv6) s = .next t →
      Only [.HIF_IRQ_PEND_LO, .HIF_IRQ_PEND_HI, .TIM_EVT, .TIM_TXTS_0] [.tim, .hif] s t) ∧
  (∀ (s t : State) (kind : BitVec 4) (seqId : BitVec 16), exec (.ptpEventRx kind seqId) s = .next t →
      Only [] [.tim] s t) ∧
  (∀ (s t : State) (rq : Requester), exec (.txtsPop rq) s = .next t →
      Only (violRegs ++ ([.TIM_TXTS_0, .TIM_TXTS_1, .TIM_TXTS_2, .TIM_TXTS_3] : List Reg)) [.tim, .hif, .resp] s t) ∧
  (∀ (s t : State) (ix : Fin 8) (m : BitVec 32) (good : Bool), exec (.chainTimeMarker ix m good) s = .next t →
      Only [.HIF_IRQ_PEND_LO, .HIF_IRQ_PEND_HI, .TIM_EVT, .TIM_CMK_ARR_LO] [.tim, .hif] s t) ∧
  (∀ (s t : State) (rq : Requester), exec (.ptmTrigger rq) s = .next t →
      Only (violRegs ++ ([.TIM_PTM_STAT, .TIM_PTM_T1_LO] : List Reg)) [.tim, .hif, .resp] s t) ∧
  (∀ (s t : State), exec .ptmPeriod s = .next t →
      Only [.TIM_PTM_STAT, .TIM_PTM_T1_LO] [.tim] s t) ∧
  (∀ (s t : State) (full : Bool) (mst : BitVec 64) (pdly : BitVec 32), exec (.ptmResponse full mst pdly) s = .next t →
      Only [.HIF_IRQ_PEND_LO, .HIF_IRQ_PEND_HI, .TIM_EVT, .TIM_PTM_STAT, .TIM_PTM_T4_LO, .TIM_PTM_MST_LO, .TIM_PTM_PDLY] [.tim,
        .hif] s t) ∧
  (∀ (s t : State), exec .ptmTimeout s = .next t →
      Only [.HIF_IRQ_PEND_LO, .HIF_IRQ_PEND_HI, .TIM_EVT, .TIM_PTM_STAT] [.hif] s t) ∧
  (∀ (s t : State) (f : Fin 64), exec (.vfFlr f) s = .next t →
      Only (loadEndRegs ++ queueRegs ++ ([.DSP_Q_CFG, .HIF_VF_WIN_LO, .HIF_VF_WIN_HI, .HIF_AP_LO, .HIF_AP_HI] : List Reg)) [.bp,
        .net, .parts, .frz, .mem, .hif, .rel, .trc, .stw, .lnk, .clk, .pio, .ld, .dsp, .resp, .seq] s t) ∧
  (∀ (s t : State), exec .pfFlr s = .next t →
      Only hostRegs [.hif] s t) ∧
  (∀ (s t : State), exec .hotReset s = .next t →
      Only hostRegs [.hif] s t) ∧
  (∀ (s t : State), exec .linkDown s = .next t →
      Only (hostRegs ++ ([.HIF_LINK_STAT] : List Reg)) [.hif] s t) ∧
  (∀ (s t : State) (f : Fin 64) (v : BitVec 11), exec (.msixUnmask f v) s = .next t →
      Only [] [.hif] s t) ∧
  (∀ (s t : State) (vf ptm : Bool), exec (.configurationSpaceWrite vf ptm) s = .next t →
      Only [] [.hif] s t) ∧
  (∀ (s t : State) (rq : Requester) (slot : BitVec 4), exec (.keyProgram rq slot) s = .next t →
      Only (violRegs ++ ([.SEC_KEY_STATUS, .SEC_KEY_DATA] : List Reg)) [.hif, .ld, .resp] s t) ∧
  (∀ (s t : State) (rq : Requester) (slot : BitVec 4), exec (.keyRevoke rq slot) s = .next t →
      Only (violRegs ++ ([.SEC_KEY_STATUS, .SEC_KEY_DATA] : List Reg)) [.hif, .ld, .resp] s t) ∧
  (∀ (s t : State) (rq : Requester) (slot : BitVec 4), exec (.keyClear rq slot) s = .next t →
      Only (violRegs ++ ([.SEC_KEY_STATUS, .SEC_KEY_DATA] : List Reg)) [.hif, .ld, .resp] s t) ∧
  (∀ (s t : State), exec .vbatLoss s = .next t →
      Only (loadEndRegs ++ ([.SEC_KEY_STATUS] : List Reg)) [.bp, .net, .parts, .frz, .mem, .hif, .rel, .trc, .stw, .lnk, .clk,
        .pio, .ld, .seq] s t) ∧
  (∀ (s t : State) (rq : Requester), exec (.lcAdvance rq) s = .next t →
      Only (violRegs ++ ([.SEC_KEY_STATUS, .SEC_LC_STAT] : List Reg)) [.hif, .ld, .resp] s t) ∧
  (∀ (s t : State) (rq : Requester) (k : BitVec 2), exec (.rkProgram rq k) s = .next t →
      Only (violRegs ++ ([.SEC_KEY_STATUS, .SEC_RK_STAT, .SEC_RK_DATA] : List Reg)) [.hif, .ld, .resp] s t) ∧
  (∀ (s t : State) (rq : Requester) (k : BitVec 2), exec (.rkRevoke rq k) s = .next t →
      Only (violRegs ++ ([.SEC_KEY_STATUS, .SEC_RK_STAT, .SEC_RK_DATA] : List Reg)) [.hif, .ld, .resp] s t) ∧
  (∀ (s t : State) (rq : Requester) (value : BitVec 8), exec (.svnAdvance rq value) s = .next t →
      Only (violRegs ++ ([.SEC_KEY_STATUS, .SEC_SVN_STAT] : List Reg)) [.hif, .ld, .resp] s t) ∧
  (∀ (s t : State) (rq : Requester) (len : BitVec 11), exec (.mbxGo rq len) s = .next t →
      Only (violRegs ++ ([.DBG_MBX_CTL, .DBG_MBX_STAT, .RST_PWR_STAT] : List Reg)) [.hif, .resp] s t) ∧
  (∀ (s t : State), exec .hallPassExpiry s = .next t →
      Only (traceRegs ++ ([.TRC_SNAP_STAT, .TRC_JRN_STAT, .DBG_HP_STAT] : List Reg)) [.mem, .hif, .trc, .dbg, .seq] s t) ∧
  (∀ (s t : State) (c : Fin 64) (pc : BitVec 64) (m : Priv) (lr : Bool), exec (.coreHalt c pc m lr) s = .next t →
      Only (queueRegs ++ ([.DSP_Q_CFG, .DBG_CORE_STAT, .DBG_FUN_WR, .DBG_FUN_LOST] : List Reg)) [.mem, .hif, .rel, .trc, .dbg,
        .dsp, .resp, .seq] s t) ∧
  (∀ (s t : State) (c : Fin 64) (m : Priv) (asid : BitVec 16) (pc : BitVec 64) (acc : Option CoreAcc),
    exec (.comparatorMatch c m asid pc acc) s = .next t →
      Only [.DBG_CORE_STAT, .DBG_FUN_WR, .DBG_FUN_LOST] [.mem, .trc, .dbg, .dsp, .seq] s t) ∧
  (∀ (s t : State), exec .ctiPulse s = .next t →
      Only (traceRegs ++ ([.PART_STATE, .PART_FRZ_STATUS, .TRC_TRG_STAT, .DBG_CORE_STAT] : List Reg)) [.parts, .frz, .mem, .hif,
        .trc, .dbg, .dsp, .seq] s t) ∧
  (∀ (s t : State) (rq : Requester) (w : BitVec 16), exec (.dbgCtiPulseWrite rq w) s = .next t →
      Only violRegs [.hif, .dbg, .resp] s t)

/-- What the monitor, network, tutor core and dispatcher commands may change. For every state and every operand, a command named
here changes at most the registers and the parts of the state that stand beside its name: every other register of the whole map
keeps every bit of every instance, every other part of the state is as it was, and every byte of memory is as it was where the
memories are not among the parts. The queue of waiting commands is as it was. What the register lists call by a name is listed
in Safety.lean. (R294, R308, R322, R360) -/
def Obligations.MonitorAndNetworkCommandsKeepTheirFrame : Prop :=
  (∀ (s t : State) (u : Fin 3) (b : List Byte), exec (.monHalt u b) s = .next t →
      Only (monAnswerRegs ++ ([.DBG_CORE_STAT] : List Reg)) [.dbg, .dsp, .resp] s t) ∧
  (∀ (s t : State) (u : Fin 3) (b : List Byte), exec (.monResume u b) s = .next t →
      Only (monAnswerRegs ++ ([.DBG_CORE_STAT, .DBG_FUN_WR, .DBG_FUN_LOST] : List Reg)) [.mem, .trc, .dbg, .dsp, .resp, .seq] s t) ∧
  (∀ (s t : State) (u : Fin 3) (b : List Byte) (ended : Bool), exec (.monStep u b ended) s = .next t →
      Only (queueRegs ++ monAnswerRegs ++ ([.DSP_Q_CFG, .DBG_CORE_STAT, .DBG_FUN_WR, .DBG_FUN_LOST] : List Reg)) [.mem, .hif, .rel,
        .trc, .dbg, .dsp, .resp, .seq] s t) ∧
  (∀ (s t : State) (u : Fin 3) (b : List Byte), exec (.monSetbp u b) s = .next t →
      Only monAnswerRegs [.dbg, .dsp, .resp] s t) ∧
  (∀ (s t : State) (u : Fin 3) (b : List Byte), exec (.monSetwp u b) s = .next t →
      Only monAnswerRegs [.dbg, .dsp, .resp] s t) ∧
  (∀ (s t : State) (u : Fin 3) (b : List Byte), exec (.monTracecfg u b) s = .next t →
      Only (monAnswerRegs ++ ([.DBG_CORE_STAT, .DBG_FUN_WR, .DBG_FUN_LOST] : List Reg)) [.mem, .trc, .dbg, .dsp, .resp, .seq] s t) ∧
  (∀ (s t : State) (u : Fin 3) (b : List Byte), exec (.monFreeze u b) s = .next t →
      Only (haltRegs ++ violRegs ++ monAnswerRegs) [.parts, .frz, .hif, .dbg, .resp] s t) ∧
  (∀ (s t : State) (u : Fin 3) (b : List Byte), exec (.monCapture u b) s = .next t →
      Only (snapshotRegs ++ violRegs ++ monAnswerRegs) [.bp, .parts, .mem, .hif, .rel, .trc, .dbg, .resp] s t) ∧
  (∀ (s t : State) (u : Fin 3) (b : List Byte), exec (.hallpassNonce u b) s = .next t →
      Only monAnswerRegs [.dbg, .resp] s t) ∧
  (∀ (s t : State) (u : Fin 3) (b : List Byte), exec (.hallpassPresent u b) s = .next t →
      Only (traceRegs ++ violRegs ++ monAnswerRegs ++ ([.TRC_SNAP_STAT, .TRC_JRN_STAT, .DBG_HP_STAT] : List Reg)) [.mem, .hif,
        .trc, .dbg, .resp, .seq] s t) ∧
  (∀ (s t : State) (u : Fin 3) (b : List Byte), exec (.hallpassWithdraw u b) s = .next t →
      Only (traceRegs ++ monAnswerRegs ++ ([.TRC_SNAP_STAT, .TRC_JRN_STAT, .DBG_HP_STAT] : List Reg)) [.mem, .hif, .trc, .dbg,
        .resp, .seq] s t) ∧
  (∀ (s t : State) (u : Fin 3) (b : List Byte) (busy : Bool), exec (.badMonitorFrame u b busy) s = .next t →
      Only monAnswerRegs [.dbg, .resp] s t) ∧
  (∀ (s t : State) (rq : Requester) (k : Pkt) (op : AmoOp) (wide : Bool) (v : BitVec 64),
    exec (.netAmo rq k op wide v) s = .next t →
      Only (faultRegs ++ violRegs ++ reportRegs ++ ([.BBD_BANK, .BBD_CE, .BBD_UE, .BBD_UE_ADDR_LO, .BBD_UE_ADDR_HI, .HBM_CE,
        .HBM_UE, .TRC_SNAP_STAT, .TRC_JRN_STAT, .NET_TN_ERR, .PRC_STALE, .RST_PWR_STAT] : List Reg)) [.parts, .mem, .hif, .rel,
        .trc, .dsp, .tn, .resp, .seq] s t) ∧
  (∀ (s t : State) (rq : Requester) (tag : Byte), exec (.response rq tag) s = .next t →
      Only [] [.hif, .dsp, .tn, .resp] s t) ∧
  (∀ (s t : State) (rq : Requester) (tag : Byte), exec (.requestTimeout rq tag) s = .next t →
      Only [.NET_TN_ERR] [.hif, .dsp, .tn, .resp] s t) ∧
  (∀ (s t : State) (f : Fin 64) (q : Fin 16384) (v : Word), exec (.doorbell f q v) s = .next t →
      Only (queueRegs ++ ([.DSP_Q_TAIL] : List Reg)) [.mem, .hif, .rel, .trc, .dsp, .resp, .seq] s t) ∧
  (∀ (s t : State) (rq : Requester) (f : Fin 64) (off : BitVec 40) (write : Bool) (data : List Byte),
    exec (.apertureRequest rq f off write data) s = .next t →
      Only (violRegs ++ reportRegs ++ ([.BBD_BANK, .BBD_CE, .BBD_UE, .BBD_UE_ADDR_LO, .BBD_UE_ADDR_HI, .HBM_CE, .HBM_UE,
        .TRC_SNAP_STAT, .TRC_JRN_STAT, .NET_TN_ERR, .RST_PWR_STAT] : List Reg)) [.mem, .hif, .rel, .trc, .resp, .seq] s t) ∧
  (∀ (s t : State) (c : Fin 64) (m : Priv) (rd : Fin 32) (v1 v2 : BitVec 64), exec (.dxBellwait c m rd v1 v2) s = .next t →
      Only [.DBG_FUN_WR, .DBG_FUN_LOST] [.mem, .trc, .dsp, .seq] s t) ∧
  (∀ (s t : State) (c : Fin 64) (reason : Fin 4), exec (.bellwaitWake c reason) s = .next t →
      Only [.DBG_FUN_WR, .DBG_FUN_LOST] [.mem, .trc, .dsp, .seq] s t) ∧
  (∀ (s t : State) (c : Fin 64) (m : Priv) (rd : Fin 32) (v1 : BitVec 64), exec (.dxDeskpop c m rd v1) s = .next t →
      Only (violRegs ++ ([.DBG_FUN_WR, .DBG_FUN_LOST] : List Reg)) [.mem, .hif, .trc, .dsp, .seq] s t) ∧
  (∀ (s t : State) (c : Fin 64) (irq : Bool), exec (.deskpopTimeout c irq) s = .next t →
      Only [.DBG_FUN_WR, .DBG_FUN_LOST] [.mem, .trc, .dsp, .seq] s t) ∧
  (∀ (s t : State) (c : Fin 64) (m : Priv) (rd : Fin 32) (v1 : BitVec 64), exec (.dxDeskdone c m rd v1) s = .next t →
      Only (queueRegs ++ ([.DSP_Q_CFG] : List Reg)) [.mem, .hif, .rel, .trc, .dsp, .resp, .seq] s t) ∧
  (∀ (s t : State) (c : Fin 64) (m : Priv) (rd : Fin 32) (v1 v2 : BitVec 64), exec (.dxQpush c m rd v1 v2) s = .next t →
      Only (queueRegs ++ ([.DSP_Q_TAIL] : List Reg)) [.mem, .hif, .rel, .trc, .dsp, .resp, .seq] s t) ∧
  (∀ (s t : State) (c : Fin 64) (m : Priv) (rd : Fin 32) (v1 : BitVec 64), exec (.dxTick c m rd v1) s = .next t →
      Only (queueRegs ++ ([.DSP_TICK_CNT] : List Reg)) [.mem, .hif, .rel, .trc, .dsp, .resp, .seq] s t) ∧
  (∀ (s t : State) (c : Fin 64), exec (.coreTraceStop c) s = .next t →
      Only [.DBG_CORE_STAT, .DBG_FUN_WR, .DBG_FUN_LOST] [.mem, .trc, .dsp, .seq] s t) ∧
  (∀ (s t : State) (rq : Requester) (q : Fin 16384) (v : BitVec 32), exec (.queueTailWrite rq q v) s = .next t →
      Only (queueRegs ++ ([.DSP_Q_TAIL] : List Reg)) [.mem, .hif, .rel, .trc, .dsp, .resp, .seq] s t) ∧
  (∀ (s t : State) (rq : Requester) (q : Fin 16384), exec (.qEnable rq q) s = .next t →
      Only queueRegs [.mem, .hif, .rel, .trc, .dsp, .resp, .seq] s t) ∧
  (∀ (s t : State) (rq : Requester) (q : Fin 16384), exec (.qPause rq q) s = .next t →
      Only (violRegs ++ ([.DSP_Q_STAT] : List Reg)) [.hif, .dsp, .resp] s t) ∧
  (∀ (s t : State) (rq : Requester) (q : Fin 16384), exec (.qUnpause rq q) s = .next t →
      Only queueRegs [.mem, .hif, .rel, .trc, .dsp, .resp, .seq] s t) ∧
  (∀ (s t : State) (rq : Requester) (q : Fin 16384), exec (.qDisable rq q) s = .next t →
      Only (queueRegs ++ ([.DSP_Q_CFG] : List Reg)) [.mem, .hif, .rel, .trc, .dsp, .resp, .seq] s t) ∧
  (∀ (s t : State) (rq : Requester) (q : Fin 16384), exec (.qFlush rq q) s = .next t →
      Only (violRegs ++ ([.DSP_TICK_STAT, .DSP_Q_HEAD, .DSP_Q_STAT] : List Reg)) [.hif, .dsp, .resp] s t) ∧
  (∀ (s t : State) (rq : Requester) (q : Fin 16384) (w : BitVec 32), exec (.qCfgNextWrite rq q w) s = .next t →
      Only (queueRegs ++ ([.DSP_Q_CFG, .DSP_Q_CFG_NEXT] : List Reg)) [.mem, .hif, .rel, .trc, .dsp, .resp, .seq] s t) ∧
  (∀ (s t : State), exec .taskPlace s = .next t →
      Only (queueRegs ++ ([.DSP_DISPLACED, .DSP_Q_CFG, .DBG_FUN_WR, .DBG_FUN_LOST] : List Reg)) [.mem, .hif, .rel, .trc, .dsp,
        .resp, .seq] s t) ∧
  (∀ (s t : State) (n : Fin 4), exec (.tickSourceTick n) s = .next t →
      Only (queueRegs ++ ([.DSP_TICK_CNT] : List Reg)) [.mem, .hif, .rel, .trc, .dsp, .resp, .seq] s t) ∧
  (∀ (s t : State) (rq : Requester) (c : Fin 64) (en : Bool), exec (.coreCfgWrite rq c en) s = .next t →
      Only (queueRegs ++ ([.DSP_CORE_CFG, .DSP_Q_CFG] : List Reg)) [.mem, .hif, .rel, .trc, .dsp, .resp, .seq] s t) ∧
  (∀ (s t : State) (rq : Requester) (v : Word), exec (.routeTableWrite rq v) s = .next t →
      Only violRegs [.hif, .tn, .resp, .seq] s t)

/-- What the power, reliability, proctor and reset commands may change. For every state and every operand, a command named here
changes at most the registers and the parts of the state that stand beside its name: every other register of the whole map keeps
every bit of every instance, every other part of the state is as it was, and every byte of memory is as it was where the
memories are not among the parts. The queue of waiting commands is as it was. What the register lists call by a name is listed
in Safety.lean. (R391, R408, R420, R434, R440) -/
def Obligations.ReliabilityAndPowerCommandsKeepTheirFrame : Prop :=
  (∀ (s t : State) (d : Fin 421), exec (.clockGood d) s = .next t →
      Only (queueRegs ++ ([.HBM_STATUS, .DSP_Q_CFG, .DBG_CORE_STAT, .DBG_FUN_WR, .DBG_FUN_LOST, .RST_PEND,
        .RST_CLKGOOD] : List Reg)) [.mem, .hif, .rel, .trc, .dbg, .dsp, .rst, .resp, .seq] s t) ∧
  (∀ (s t : State), exec .throttleAdjust s = .next t →
      Only [.HIF_IRQ_PEND_LO, .HIF_IRQ_PEND_HI, .RST_PWR_STAT, .GLB_STEP_FREQ, .GLB_DERATE_REASON] [.hif, .lnk, .clk] s t) ∧
  (∀ (s t : State) (rq : Requester), exec (.pwrRecess rq) s = .next t →
      Only (violRegs ++ ([.PART_FRZ_STATUS, .HBM_STATUS, .LNK_STAT, .DBG_FUN_WR, .DBG_FUN_LOST, .RST_PWR_STAT, .GLB_STEP_FREQ,
        .GLB_DERATE_REASON] : List Reg)) [.frz, .mem, .hif, .trc, .lnk, .clk, .pio, .dsp, .rst, .resp, .seq] s t) ∧
  (∀ (s t : State) (rq : Requester), exec (.pwrWake rq) s = .next t →
      Only (violRegs ++ ([.RST_PWR_STAT] : List Reg)) [.hif, .resp] s t) ∧
  (∀ (s t : State), exec .gpioWake s = .next t →
      Only [.RST_PWR_STAT] [] s t) ∧
  (∀ (s t : State), exec .recessExitDone s = .next t →
      Only [.HBM_STATUS, .XOT_STAT, .LNK_STAT, .HIF_IRQ_PEND_LO, .HIF_IRQ_PEND_HI, .DBG_FUN_WR, .DBG_FUN_LOST, .RST_PWR_STAT,
        .GLB_STEP_FREQ, .GLB_DERATE_REASON] [.mem, .hif, .trc, .lnk, .clk, .pio, .dsp, .rst, .seq] s t) ∧
  (∀ (s t : State), exec .ethernetFrame s = .next t →
      Only [.RST_PWR_STAT] [] s t) ∧
  (∀ (s t : State) (n : Fin 256), exec (.classImmediateSubstitute n) s = .next t →
      Only (linkRegs ++ subRegs ++ writerRegs ++ ([.PART_STATE, .PART_CMD_STATUS, .PART_COMMIT, .HIF_MBX_STAT] : List Reg)) [.bp,
        .net, .parts, .frz, .mem, .hif, .rel, .trc, .stw, .lnk, .clk, .seq] s t) ∧
  (∀ (s t : State) (kind : Fin 7) (u : BitVec 18) (ground : Fin 7), exec (.declareDead kind u ground) s = .next t →
      Only (loadEndRegs ++ queueRegs ++ subRegs ++ ([.DSP_CORE_CFG, .DSP_Q_CFG, .DBG_CORE_STAT, .PRC_PROC_STAT] : List Reg)) [.bp,
        .net, .parts, .frz, .mem, .hif, .rel, .trc, .stw, .lnk, .clk, .pio, .ld, .dsp, .resp, .seq] s t) ∧
  (∀ (s t : State) (kind : Fin 7) (u role : BitVec 18) (ep parts : BitVec 16), exec (.epochStale kind u role ep parts) s = .next t →
      Only (faultRegs ++ reportRegs ++ ([.PRC_STALE] : List Reg)) [.parts, .hif, .rel] s t) ∧
  (∀ (s t : State) (k : Fin 9) (count : BitVec 16) (u : BitVec 26) (m : Fin 15) (a : BitVec 40),
    exec (.thresholdReached k count u m a) s = .next t →
      Only (queueRegs ++ ([.CLS_SUB_STATUS, .CLS_SUB_CMD_STATUS, .CLS_BP_MAP, .BBD_RETIRE_STATUS, .HBM_RET_STAT, .DSP_CORE_CFG,
        .DSP_Q_CFG, .DBG_CORE_STAT, .PRC_CLS_SUB_STAT] : List Reg)) [.bp, .mem, .hif, .rel, .trc, .dsp, .resp, .seq] s t) ∧
  (∀ (s t : State) (rq : Requester) (kind : BitVec 4) (unit : BitVec 18), exec (.selftest rq kind unit) s = .next t →
      Only (violRegs ++ ([.PRC_UNIT_STAT] : List Reg)) [.hif, .rel, .resp] s t) ∧
  (∀ (s t : State) (pass : Bool), exec (.selftestDone pass) s = .next t →
      Only (reportRegs ++ ([.PRC_UNIT_STAT] : List Reg)) [.bp, .hif, .rel] s t) ∧
  (∀ (s t : State) (rq : Requester) (kind : BitVec 4) (unit : BitVec 18), exec (.enrol rq kind unit) s = .next t →
      Only (violRegs ++ reportRegs ++ ([.CLS_SUB_STATUS, .XOT_STAT, .LNK_STAT, .PRC_UNIT_STAT] : List Reg)) [.hif, .rel, .lnk,
        .resp] s t) ∧
  (∀ (s t : State) (rq : Requester), exec (.eccSelftestStart rq) s = .next t →
      Only (violRegs ++ ([.PRC_ECCST_STAT] : List Reg)) [.hif, .resp] s t) ∧
  (∀ (s t : State) (fails : List (Nat × Nat × Nat)), exec (.eccSelftestDone fails) s = .next t →
      Only (loadEndRegs ++ queueRegs ++ subRegs ++ ([.BBD_RETIRE_STATUS, .DSP_CORE_CFG, .DSP_Q_CFG, .DBG_CORE_STAT, .PRC_PROC_STAT,
        .PRC_ECCST_STAT] : List Reg)) [.bp, .net, .parts, .frz, .mem, .hif, .rel, .trc, .stw, .lnk, .clk, .pio, .ld, .dsp, .resp,
        .seq] s t) ∧
  (∀ (s t : State) (ix : Fin 2) (e : BitVec 16), exec (.tokenRenew ix e) s = .next t →
      Only [.DBG_MBX_STAT, .PRC_PROC_STAT] [.rel, .dbg] s t) ∧
  (∀ (s t : State) (ix path : Fin 2), exec (.heartbeat ix path) s = .next t →
      Only [.PRC_PROC_STAT] [.rel] s t) ∧
  (∀ (s t : State) (ix : Fin 2) (miss : BitVec 2), exec (.heartbeatTimeout ix miss) s = .next t →
      Only (subRegs ++ violRegs ++ ([.DBG_MBX_STAT, .PRC_PROC_STAT, .PRC_HM_STAT, .RST_DWDOG_STAT] : List Reg)) [.bp, .mem, .hif,
        .rel, .dbg, .ld, .resp, .seq] s t) ∧
  (∀ (s t : State) (ix : Fin 2), exec (.proctorWatchdogExpiry ix) s = .next t →
      Only [.DBG_MBX_STAT] [.rel, .dbg] s t) ∧
  (∀ (s t : State) (ix : Fin 2), exec (.lockstepMismatch ix) s = .next t →
      Only [.DBG_MBX_STAT] [.rel, .dbg] s t) ∧
  (∀ (s t : State) (ix : Fin 2), exec (.failMsg ix) s = .next t →
      Only (subRegs ++ violRegs ++ ([.DBG_MBX_STAT, .PRC_PROC_STAT, .PRC_HM_STAT, .RST_DWDOG_STAT] : List Reg)) [.bp, .mem, .hif,
        .rel, .dbg, .ld, .resp, .seq] s t) ∧
  (∀ (s t : State) (rq : Requester), exec (.loadStandby rq) s = .next t →
      Only (violRegs ++ ([.PRC_PROC_STAT] : List Reg)) [.hif, .rel, .resp] s t) ∧
  (∀ (s t : State) (rq : Requester), exec (.switch rq) s = .next t →
      Only (subRegs ++ violRegs ++ ([.DBG_MBX_STAT, .PRC_PROC_STAT, .PRC_HM_STAT, .RST_DWDOG_STAT] : List Reg)) [.bp, .mem, .hif,
        .rel, .dbg, .ld, .resp, .seq] s t) ∧
  (∀ (s t : State) (rq : Requester) (ix : Fin 2), exec (.reload rq ix) s = .next t →
      Only (violRegs ++ ([.PRC_PROC_STAT] : List Reg)) [.hif, .rel, .resp] s t) ∧
  (∀ (s t : State) (ix : Fin 2) (a b : List Byte) (host ecc : Bool) (entry : BitVec 48),
    exec (.proctorFirmwareLoaded ix a b host ecc entry) s = .next t →
      Only (loadEndRegs ++ queueRegs ++ subRegs ++ ([.HBM_STATUS, .DSP_Q_CFG, .DBG_MBX_STAT, .DBG_CORE_STAT, .PRC_PROC_STAT,
        .PRC_HM_STAT, .RST_DWDOG_STAT, .GLB_LCS] : List Reg)) [.bp, .net, .parts, .frz, .mem, .hif, .rel, .trc, .dbg, .stw, .lnk,
        .clk, .pio, .ld, .dsp, .rst, .resp, .seq] s t) ∧
  (∀ (s t : State), exec .hallMonitorTakeover s = .next t →
      Only (reportRegs ++ ([.DBG_MBX_STAT, .PRC_PROC_STAT, .PRC_HM_STAT, .RST_DWDOG_STAT] : List Reg)) [.hif, .rel, .dbg] s t) ∧
  (∀ (s t : State) (rq : Requester) (len : BitVec 32), exec (.bootPush rq len) s = .next t →
      Only violRegs [.hif, .ld, .resp] s t) ∧
  (∀ (s t : State) (c : Fin 64), exec (.coreWatchdogExpiry c) s = .next t →
      Only (queueRegs ++ ([.DSP_Q_CFG, .DBG_CORE_STAT, .RST_CAUSE] : List Reg)) [.mem, .hif, .rel, .trc, .dsp, .rst, .resp,
        .seq] s t) ∧
  (∀ (s t : State) (c : Fin 64), exec (.mtvecFetchFault c) s = .next t →
      Only (queueRegs ++ ([.DSP_Q_CFG, .DBG_CORE_STAT, .RST_CAUSE] : List Reg)) [.mem, .hif, .rel, .trc, .dsp, .rst, .resp,
        .seq] s t) ∧
  (∀ (s t : State), exec .resetNRelease s = .next t →
      Only [] [.rst] s t) ∧
  (∀ (s t : State) (rq : Requester) (key : BitVec 8), exec (.dwdogKick rq key) s = .next t →
      Only (violRegs ++ ([.RST_DWDOG_STAT] : List Reg)) [.hif, .resp] s t) ∧
  (∀ (s t : State) (rq : Requester) (v : BitVec 32), exec (.dwdogCfgWrite rq v) s = .next t →
      Only (violRegs ++ ([.RST_DWDOG_CFG, .RST_DWDOG_STAT] : List Reg)) [.hif, .resp] s t) ∧
  (∀ (s t : State) (src : Fin 8) (c : Fin 64), exec (.resetSourceTimeout src c) s = .next t →
      Only (queueRegs ++ ([.DSP_Q_CFG, .DBG_CORE_STAT, .DBG_FUN_WR, .DBG_FUN_LOST] : List Reg)) [.mem, .hif, .rel, .trc, .dbg,
        .dsp, .rst, .resp, .seq] s t) ∧
  (∀ (s t : State) (r : Fin 11), exec (.railGood r) s = .next t →
      Only [.RST_RAIL_STAT] [.rst] s t) ∧
  (∀ (s t : State) (rq : Requester) (j : Fin 11) (v : BitVec 32), exec (.rstUnitWrite rq j v) s = .next t →
      Only (loadEndRegs ++ queueRegs ++ ([.CLS_IMEM_CE, .CLS_IMEM_UE, .CLS_SLATE_PE, .CLS_SLATE_SEL, .CLS_SLATE_DATA, .HBM_STATUS,
        .STW_IN_RX, .STW_IN_RX_NEXT, .STW_IN_DSK, .STW_IN_DSK_NEXT, .STW_TRG_STAT, .DSP_Q_CFG, .DBG_CORE_STAT, .RST_UNIT_CORE_LO,
        .RST_UNIT_CORE_HI, .RST_UNIT_CLS, .RST_UNIT_MISC, .RST_UNIT_STAT, .RST_PEND, .PIO_OUT, .PIO_OE] : List Reg)) [.bp, .net,
        .parts, .frz, .mem, .hif, .rel, .trc, .dbg, .stw, .lnk, .clk, .pio, .ld, .dsp, .rst, .resp, .seq] s t) ∧
  (∀ (s t : State) (boot : BitVec 3) (clk : BitVec 2), exec (.releaseStep boot clk) s = .next t →
      Only (reportRegs ++ ([.XOT_STAT, .LNK_STAT, .PRC_PROC_STAT, .RST_PEND, .RST_STRAP, .RST_DWDOG_STAT] : List Reg)) [.hif, .rel,
        .lnk, .rst] s t) ∧
  (∀ (s t : State), exec .hbmStackTrained s = .next t →
      Only [.HBM_STATUS, .PART_LDR_DONE] [] s t)

/-- What the events of a step may change. For every state and every operand, a command named here changes at most the registers
and the parts of the state that stand beside its name: every other register of the whole map keeps every bit of every instance,
every other part of the state is as it was, and every byte of memory is as it was where the memories are not among the parts.
The queue of waiting commands is as it was. What the register lists call by a name is listed in Safety.lean. (R29, R61, R174) -/
def Obligations.StepEventsKeepTheirFrame : Prop :=
  (∀ (s t : State) (p : Fin 16) (bad : List (Fin 256)), exec (.step p bad) s = .next t →
      Only (traceRegs ++ writerRegs ++ faultRegs ++ reportRegs ++ ([.CLS_IMEM_CE, .CLS_IMEM_UE, .CLS_SLATE_PE, .PART_STATE,
        .PART_CFG, .PART_TEMPO, .PART_TEMPO_STAT, .PART_TEMPO_EARLY, .NET_CONTENTION, .NET_XPART, .NET_SCHED_CE, .NET_SCHED_UE,
        .PART_FRZ_STATUS, .PART_NOTICE, .BBD_CE, .BBD_UE, .BBD_UE_ADDR_LO, .BBD_UE_ADDR_HI, .BBD_PCNT, .BBD_PDROP, .HBM_CE,
        .HBM_UE, .PART_FAULT_ACTION, .TRC_TRG_STAT, .TRC_SNAP_STAT, .TRC_JRN_STAT, .STW_IN_RX, .STW_IN_DSK, .STW_IN_CFG, .STW_TDC,
        .XOT_VEC_STAT, .XOT_CH_STAT, .HIF_MBX_STAT] : List Reg)) [.scc, .bp, .net, .parts, .frz, .mem, .hif, .rel, .trc, .dbg,
        .stw, .lnk, .pio, .tmp, .seq] s t) ∧
  (∀ (s t : State) (p : Fin 16), exec (.gapStep p) s = .next t →
      Only (subRegs ++ snapshotRegs ++ traceRegs ++ haltRegs ++ writerRegs ++ faultRegs ++ violRegs ++ ([.PART_CFG, .PART_TEMPO,
        .PART_COMMIT, .NET_CONTENTION, .NET_XPART, .NET_SCHED_CE, .NET_SCHED_UE, .PART_NOTICE, .PART_FAULT_ACTION, .TRC_PCFG,
        .TRC_TRG_STAT, .TRC_REPLAY_STAT, .STW_IN_RX, .STW_IN_DSK, .STW_IN_CFG, .STW_TDC, .XOT_VEC_STAT, .XOT_CH_STAT,
        .HIF_MBX_STAT] : List Reg)) [.scc, .bp, .net, .parts, .frz, .mem, .hif, .rel, .trc, .dbg, .stw, .lnk, .pio, .tmp,
        .seq] s t) ∧
  (∀ (s t : State) (p : Fin 16), exec (.faultRequestArrival p) s = .next t →
      Only [.PART_STATE, .PART_FRZ_STATUS] [.scc, .parts, .frz, .stw, .tmp] s t) ∧
  (∀ (s t : State) (p : Fin 16), exec (.freezePoint p) s = .next t →
      Only (faultRegs ++ ([.PART_STATE, .PART_FREEZE_CNT, .PART_FRZ_STATUS, .PART_FRZ_LAST, .PART_FRZ_LAST_BELL_LO,
        .PART_FRZ_LAST_BELL_HI, .PART_FRZ_CHAIN, .DBG_FUN_WR, .DBG_FUN_LOST] : List Reg)) [.scc, .parts, .frz, .mem, .hif, .trc,
        .stw, .tmp, .seq] s t) ∧
  (∀ (s t : State) (p : Fin 16), exec (.resumePoint p) s = .next t →
      Only (haltRegs ++ ([.PART_FRZ_LAST_LEN, .DBG_FUN_WR, .DBG_FUN_LOST] : List Reg)) [.scc, .parts, .frz, .mem, .hif, .trc, .stw,
        .tmp, .seq] s t) ∧
  (∀ (s t : State) (p : Fin 16), exec (.chainResumeDelayExpiry p) s = .next t →
      Only (haltRegs ++ ([.PART_FRZ_LAST_LEN, .DBG_FUN_WR, .DBG_FUN_LOST] : List Reg)) [.scc, .parts, .frz, .mem, .hif, .trc, .stw,
        .tmp, .seq] s t) ∧
  (∀ (s t : State) (p : Fin 16), exec (.drainDone p) s = .next t →
      Only snapshotRegs [.bp, .mem, .rel, .trc] s t) ∧
  (∀ (s t : State) (p : Fin 16), exec (.rewindDone p) s = .next t →
      Only (subRegs ++ snapshotRegs ++ traceRegs ++ haltRegs ++ writerRegs ++ faultRegs ++ violRegs ++ ([.PART_CFG, .PART_TEMPO,
        .PART_COMMIT, .PART_BELL_NUM_LO, .NET_CONTENTION, .NET_XPART, .NET_SCHED_CE, .NET_SCHED_UE, .PART_NOTICE,
        .PART_FAULT_ACTION, .TRC_PCFG, .TRC_TRG_STAT, .TRC_REPLAY_STAT, .STW_IN_RX, .STW_IN_DSK, .STW_IN_CFG, .STW_TDC,
        .XOT_VEC_STAT, .XOT_CH_STAT, .HIF_MBX_STAT] : List Reg)) [.scc, .bp, .net, .parts, .frz, .mem, .hif, .rel, .trc, .dbg,
        .stw, .lnk, .pio, .tmp, .seq] s t) ∧
  (∀ (s t : State) (p : Fin 16), exec (.designTrigger p) s = .next t →
      Only (traceRegs ++ ([.PART_STATE, .TRC_TRG_STAT] : List Reg)) [.scc, .parts, .frz, .mem, .hif, .trc, .dbg, .stw, .tmp,
        .seq] s t) ∧
  (∀ (s t : State) (p : Fin 16), exec (.bindingPresent p) s = .next t →
      Only [] [.scc, .net, .frz, .stw, .tmp] s t)

/-- No command but those named moves a partition between states. A command that is not among those that mayMovePartition names,
the partition commands of Table BELL-4, the loads, freezes and halts with what can cause one, the loss of units, the resets, and
the accesses that can carry a partition command, leaves PART_STATE of every partition as it was. (R76) -/
def Obligations.OnlyTheNamedCommandsMoveAPartition : Prop :=
  ∀ (c : Instr) (s t : State) (p : Nat), mayMovePartition c = false → exec c s = .next t → t.reg .PART_STATE p = s.reg .PART_STATE p
end

