-- ==== Sys2Proof/Laws/Store.lean ====
section
/-! SUPPORT. The laws of sparse stores: a read after a write, and the canonical form that every operation keeps. -/
namespace Sys2Proof

theorem Store.find_put_same {α : Type} (k : Nat) (v : α) (m : Store α) : Store.find (Store.put k v m) k = some v := by
  induction m with
  | nil => simp [Store.put, Store.find]
  | cons e r ih =>
    obtain ⟨k', v'⟩ := e
    simp only [Store.put]
    split
    · simp [Store.find]
    · split
      · simp [Store.find]
      · rename_i h; simp [Store.find, h, ih]

theorem Store.find_put_ne {α : Type} {k j : Nat} (v : α) (m : Store α) (h : j ≠ k) : Store.find (Store.put k v m) j = Store.find m j := by
  induction m with
  | nil => simp [Store.put, Store.find, h]
  | cons e r ih =>
    obtain ⟨k', v'⟩ := e
    simp only [Store.put]
    split
    · simp [Store.find, h]
    · split
      · rename_i h1 h2; subst h2; simp [Store.find, h]
      · simp only [Store.find, ih]

theorem Store.find_filter {α : Type} (f : Nat → Bool) (m : Store α) (k : Nat) :
    Store.find (m.filter fun e => f e.1) k = if f k then Store.find m k else none := by
  induction m with
  | nil => simp [Store.find]
  | cons e r ih =>
    obtain ⟨k', v'⟩ := e
    simp only [List.filter_cons]
    by_cases h : f k' = true
    · simp only [h, if_true, Store.find, ih]
      by_cases hk : k = k'
      · subst hk; simp [h]
      · simp [hk]
    · simp only [h, Bool.false_eq_true, if_false, ih, Store.find]
      by_cases hk : k = k'
      · subst hk; simp [h]
      · simp [hk]

theorem Store.find_del_same {α : Type} (k : Nat) (m : Store α) : Store.find (Store.del k m) k = none := by
  unfold Store.del
  rw [Store.find_filter (fun j => decide (j ≠ k))]
  simp

theorem Store.find_del_ne {α : Type} {k j : Nat} (m : Store α) (h : j ≠ k) : Store.find (Store.del k m) j = Store.find m j := by
  unfold Store.del
  rw [Store.find_filter (fun j => decide (j ≠ k))]
  simp [h]

/-- A read of the key just written gives the value written. -/
@[simp] theorem Store.get_set_same {α : Type} [DecidableEq α] (d : α) (k : Nat) (v : α) (m : Store α) :
    Store.get d (Store.set d k v m) k = v := by
  unfold Store.get Store.set
  split
  · rename_i h; simp [Store.find_del_same, h]
  · simp [Store.find_put_same]

/-- A write leaves every other key alone. -/
theorem Store.get_set_ne {α : Type} [DecidableEq α] (d d' : α) {k j : Nat} (v : α) (m : Store α) (h : j ≠ k) :
    Store.get d' (Store.set d k v m) j = Store.get d' m j := by
  unfold Store.get Store.set
  split
  · rw [Store.find_del_ne m h]
  · rw [Store.find_put_ne v m h]

theorem Store.get_filter {α : Type} (d : α) (f : Nat → Bool) (m : Store α) (k : Nat) :
    Store.get d (m.filter fun e => f e.1) k = if f k then Store.get d m k else d := by
  unfold Store.get
  rw [Store.find_filter]
  split <;> simp

/-- A cleared range reads as nothing listed. -/
theorem Store.get_clear {α : Type} (d : α) (lo hi : Nat) (m : Store α) (k : Nat) :
    Store.get d (Store.clear lo hi m) k = if lo ≤ k ∧ k < hi then d else Store.get d m k := by
  unfold Store.clear
  rw [Store.get_filter d (fun j => decide (j < lo) || decide (hi ≤ j))]
  by_cases h : lo ≤ k ∧ k < hi
  · have : ¬ (k < lo) ∧ ¬ (hi ≤ k) := by omega
    simp [h, this]
  · have : k < lo ∨ hi ≤ k := by omega
    simp [h, this]

/-! ### The canonical form -/

/-- The canonical form as two facts: keys rise, and no entry is a default. -/
theorem Store.wf_iff {α : Type} [DecidableEq α] (d : Nat → α) (m : Store α) :
    Store.wf d m = true ↔ m.Pairwise (fun a b => a.1 < b.1) ∧ ∀ e ∈ m, e.2 ≠ d e.1 := by
  induction m with
  | nil => simp [Store.wf]
  | cons e r ih =>
    obtain ⟨k, v⟩ := e
    cases r with
    | nil => simp [Store.wf]
    | cons e' r' =>
      obtain ⟨k', v'⟩ := e'
      simp only [Store.wf, Bool.and_eq_true, decide_eq_true_eq, ih, List.pairwise_cons, List.mem_cons, forall_eq_or_imp]
      constructor
      · rintro ⟨⟨h1, h2⟩, ⟨h3, h4⟩, h5, h6⟩
        exact ⟨⟨⟨h2, fun a ha => lt_trans h2 (h3 a ha)⟩, h3, h4⟩, h1, h5, h6⟩
      · rintro ⟨⟨⟨h2, _⟩, h3, h4⟩, h1, h5, h6⟩
        exact ⟨⟨h1, h2⟩, ⟨h3, h4⟩, h5, h6⟩

theorem Store.mem_put {α : Type} {k : Nat} {v : α} {m : Store α} {e : Nat × α} (h : e ∈ Store.put k v m) : e = (k, v) ∨ e ∈ m := by
  induction m with
  | nil => simpa [Store.put] using h
  | cons a r ih =>
    simp only [Store.put] at h
    split at h
    · simpa using h
    · split at h
      · rcases List.mem_cons.1 h with h | h
        · exact .inl h
        · exact .inr (List.mem_cons_of_mem _ h)
      · rcases List.mem_cons.1 h with h | h
        · exact .inr (h ▸ List.mem_cons_self ..)
        · exact (ih h).imp_right (List.mem_cons_of_mem _)

theorem Store.pairwise_put {α : Type} (k : Nat) (v : α) (m : Store α) (h : m.Pairwise fun a b => a.1 < b.1) :
    (Store.put k v m).Pairwise fun a b => a.1 < b.1 := by
  induction m with
  | nil => simp [Store.put]
  | cons a r ih =>
    have hr := (List.pairwise_cons.1 h).2
    have ha := (List.pairwise_cons.1 h).1
    simp only [Store.put]
    split
    · rename_i hk
      refine List.pairwise_cons.2 ⟨fun b hb => ?_, h⟩
      rcases List.mem_cons.1 hb with rfl | hb
      · exact hk
      · exact lt_trans hk (ha b hb)
    · split
      · rename_i hk
        refine List.pairwise_cons.2 ⟨fun b hb => ?_, hr⟩
        exact hk ▸ ha b hb
      · refine List.pairwise_cons.2 ⟨fun b hb => ?_, ih hr⟩
        rcases Store.mem_put hb with rfl | hb
        · simp only; omega
        · exact ha b hb

theorem Store.wf_filter {α : Type} [DecidableEq α] (d : Nat → α) (f : Nat × α → Bool) (m : Store α) (h : Store.wf d m = true) :
    Store.wf d (m.filter f) = true := by
  rw [Store.wf_iff] at *
  exact ⟨h.1.filter f, fun e he => h.2 e (List.mem_of_mem_filter he)⟩

/-- A write keeps the canonical form. -/
theorem Store.wf_set {α : Type} [DecidableEq α] (d : Nat → α) (k : Nat) (v : α) (m : Store α) (h : Store.wf d m = true) :
    Store.wf d (Store.set (d k) k v m) = true := by
  unfold Store.set
  split
  · exact Store.wf_filter d _ m h
  · rename_i hv
    rw [Store.wf_iff] at *
    refine ⟨Store.pairwise_put k v m h.1, fun e he => ?_⟩
    rcases Store.mem_put he with rfl | he
    · exact hv
    · exact h.2 e he

theorem Store.wf_clear {α : Type} [DecidableEq α] (d : Nat → α) (lo hi : Nat) (m : Store α) (h : Store.wf d m = true) :
    Store.wf d (Store.clear lo hi m) = true := Store.wf_filter d _ m h

end Sys2Proof
end

