-- ==== Sys2Proof/Laws/Regs.lean ====
section
/-! SUPPORT. The laws of registers and their fields: what a write of one leaves of another. -/
namespace Sys2Proof
namespace Machine

/-! ### Fields of a word -/

theorem Fld.of_lt (f : Fld) (w : Word) : f.of w < 2 ^ f.w := Nat.mod_lt _ (by positivity)

/-- A word as what lies above, in and below a field. -/
theorem Fld.split (f : Fld) (n : Nat) : n = n / 2 ^ (f.lo + f.w) * 2 ^ (f.lo + f.w) + n / 2 ^ f.lo % 2 ^ f.w * 2 ^ f.lo + n % 2 ^ f.lo := by
  have h1 := Nat.div_add_mod n (2 ^ f.lo)
  have h2 := Nat.div_add_mod (n / 2 ^ f.lo) (2 ^ f.w)
  have h3 : n / 2 ^ f.lo / 2 ^ f.w = n / 2 ^ (f.lo + f.w) := by rw [Nat.div_div_eq_div_mul, pow_add]
  rw [h3] at h2
  calc n = 2 ^ f.lo * (n / 2 ^ f.lo) + n % 2 ^ f.lo := h1.symm
    _ = 2 ^ f.lo * (2 ^ f.w * (n / 2 ^ (f.lo + f.w)) + n / 2 ^ f.lo % 2 ^ f.w) + n % 2 ^ f.lo := by rw [h2]
    _ = _ := by rw [pow_add]; ring

theorem Fld.put_toNat (f : Fld) (w : Word) (v : Nat) (h : f.lo + f.w ≤ 32) :
    (f.put w v).toNat = w.toNat / 2 ^ (f.lo + f.w) * 2 ^ (f.lo + f.w) + v % 2 ^ f.w * 2 ^ f.lo + w.toNat % 2 ^ f.lo := by
  have hs := Fld.split f w.toNat
  have hv : v % 2 ^ f.w < 2 ^ f.w := Nat.mod_lt _ (by positivity)
  have hl : w.toNat % 2 ^ f.lo < 2 ^ f.lo := Nat.mod_lt _ (by positivity)
  have hw : w.toNat < 2 ^ 32 := w.isLt
  set H := w.toNat / 2 ^ (f.lo + f.w) with hH
  set M := w.toNat / 2 ^ f.lo % 2 ^ f.w with hM
  set L := w.toNat % 2 ^ f.lo with hL
  have hmid : v % 2 ^ f.w * 2 ^ f.lo + L < 2 ^ (f.lo + f.w) := by
    have : (v % 2 ^ f.w + 1) * 2 ^ f.lo ≤ 2 ^ f.w * 2 ^ f.lo := Nat.mul_le_mul_right _ hv
    rw [pow_add, Nat.mul_comm (2 ^ f.lo)]; linarith
  have hHb : (H + 1) * 2 ^ (f.lo + f.w) ≤ 2 ^ 32 := by
    have hp : (2 : Nat) ^ 32 = 2 ^ (32 - (f.lo + f.w)) * 2 ^ (f.lo + f.w) := by rw [← pow_add]; congr 1; omega
    have : H < 2 ^ (32 - (f.lo + f.w)) := by
      rw [hH, Nat.div_lt_iff_lt_mul (by positivity), ← hp]; exact hw
    rw [hp]; exact Nat.mul_le_mul_right _ this
  have he : w.toNat - M * 2 ^ f.lo + v % 2 ^ f.w * 2 ^ f.lo = H * 2 ^ (f.lo + f.w) + v % 2 ^ f.w * 2 ^ f.lo + L := by omega
  unfold Fld.put Fld.of
  rw [BitVec.toNat_ofNat, ← hM, he, Nat.mod_eq_of_lt]
  linarith

/-- A field reads back what was put, modulo its width. -/
theorem Fld.of_put_same (f : Fld) (w : Word) (v : Nat) (h : f.lo + f.w ≤ 32) : f.of (f.put w v) = v % 2 ^ f.w := by
  unfold Fld.of
  rw [Fld.put_toNat f w v h]
  have hl : w.toNat % 2 ^ f.lo < 2 ^ f.lo := Nat.mod_lt _ (by positivity)
  have e : w.toNat / 2 ^ (f.lo + f.w) * 2 ^ (f.lo + f.w) + v % 2 ^ f.w * 2 ^ f.lo + w.toNat % 2 ^ f.lo
      = w.toNat % 2 ^ f.lo + 2 ^ f.lo * (w.toNat / 2 ^ (f.lo + f.w) * 2 ^ f.w + v % 2 ^ f.w) := by rw [pow_add]; ring
  rw [e, Nat.add_mul_div_left _ _ (by positivity), Nat.div_eq_of_lt hl, Nat.zero_add, Nat.mul_add_mod_self_right, Nat.mod_mod]

/-- A field apart from the one put reads as before. -/
theorem Fld.of_put_ne (f g : Fld) (w : Word) (v : Nat) (h : f.lo + f.w ≤ 32) (d : f.lo + f.w ≤ g.lo ∨ g.lo + g.w ≤ f.lo) :
    g.of (f.put w v) = g.of w := by
  have hs := Fld.split f w.toNat
  have hl : w.toNat % 2 ^ f.lo < 2 ^ f.lo := Nat.mod_lt _ (by positivity)
  unfold Fld.of
  rw [Fld.put_toNat f w v h]
  set H := w.toNat / 2 ^ (f.lo + f.w) with hH
  set M := w.toNat / 2 ^ f.lo % 2 ^ f.w with hM
  set L := w.toNat % 2 ^ f.lo with hL
  rcases d with d | d
  · have mid : ∀ x, x < 2 ^ f.w → (H * 2 ^ (f.lo + f.w) + x * 2 ^ f.lo + L) / 2 ^ g.lo = H / 2 ^ (g.lo - (f.lo + f.w)) := by
      intro x hx
      have hp : (2 : Nat) ^ g.lo = 2 ^ (f.lo + f.w) * 2 ^ (g.lo - (f.lo + f.w)) := by rw [← pow_add]; congr 1; omega
      have hm : x * 2 ^ f.lo + L < 2 ^ (f.lo + f.w) := by
        have : (x + 1) * 2 ^ f.lo ≤ 2 ^ f.w * 2 ^ f.lo := Nat.mul_le_mul_right _ hx
        rw [pow_add, Nat.mul_comm (2 ^ f.lo)]; linarith
      rw [hp, ← Nat.div_div_eq_div_mul, Nat.add_assoc, Nat.add_comm, Nat.add_mul_div_right _ _ (by positivity), Nat.div_eq_of_lt hm,
        Nat.zero_add]
    rw [mid _ (Nat.mod_lt _ (by positivity))]
    conv_rhs => rw [hs]
    rw [mid M (Nat.mod_lt _ (by positivity))]
  · have low : ∀ y, (y * 2 ^ f.lo + L) / 2 ^ g.lo % 2 ^ g.w = L / 2 ^ g.lo % 2 ^ g.w := by
      intro y
      have hp : (2 : Nat) ^ f.lo = 2 ^ g.lo * (2 ^ g.w * 2 ^ (f.lo - (g.lo + g.w))) := by
        rw [← pow_add, ← pow_add]; congr 1; omega
      rw [show y * 2 ^ f.lo + L = L + 2 ^ g.lo * (2 ^ g.w * (2 ^ (f.lo - (g.lo + g.w)) * y)) by rw [hp]; ring,
        Nat.add_mul_div_left _ _ (by positivity), Nat.add_mul_mod_self_left]
    have e : ∀ x, H * 2 ^ (f.lo + f.w) + x * 2 ^ f.lo + L = (H * 2 ^ f.w + x) * 2 ^ f.lo + L := by intro x; rw [pow_add]; ring
    rw [e, low]
    conv_rhs => rw [hs]
    rw [e, low]

/-! ### The register file -/

theorem Reg.ctorIdx_lt (r : Reg) : r.ctorIdx < regStride := by cases r <;> decide

theorem regKey_inj {r r' : Reg} {i i' : Nat} (h : regKey r i = regKey r' i') : r.ctorIdx = r'.ctorIdx ∧ i = i' := by
  have h1 := Reg.ctorIdx_lt r
  have h2 := Reg.ctorIdx_lt r'
  simp only [regKey, regStride] at *
  omega

theorem State.reg_setReg_same (s : State) (r : Reg) (i : Nat) (w : Word) : (s.setReg r i w).reg r i = w := by
  simp [State.reg, State.setReg]

theorem State.reg_setReg_inst (s : State) (r r' : Reg) {i i' : Nat} (w : Word) (h : i' ≠ i) : (s.setReg r i w).reg r' i' = s.reg r' i' := by
  have : regKey r' i' ≠ regKey r i := fun e => h (regKey_inj e).2
  simp [State.reg, State.setReg, Store.get_set_ne _ _ _ _ this]

theorem State.reg_setReg_reg (s : State) {r r' : Reg} (i i' : Nat) (w : Word) (h : r'.ctorIdx ≠ r.ctorIdx) : (s.setReg r i w).reg r' i' = s.reg r' i' := by
  have : regKey r' i' ≠ regKey r i := fun e => h (regKey_inj e).1
  simp [State.reg, State.setReg, Store.get_set_ne _ _ _ _ this]

end Machine
end Sys2Proof
end

