-- ==== Sys2Proof/Laws/Touch.lean ====
section
/-! SUPPORT. What an operation leaves alone. `Touch w s t` says that `t` differs from `s` at most in the registers and the parts of the
state that the bits of `w` name (a register by its index, the other parts from bit 402 on), that the queue is the same, and that the
register file and the memory keep their canonical form. -/
namespace Sys2Proof
namespace Machine

/-- The register file's canonical form. -/
def State.regsWf (s : State) : Prop := Store.wf regDefault s.regs = true

/-- `t` differs from `s` only in what `w` names. -/
structure Touch (w : Nat) (s t : State) : Prop where
  pending : t.pending = s.pending
  reg : ∀ r i, w.testBit r.ctorIdx = false → t.reg r i = s.reg r i
  scc : w.testBit 402 = false → t.scc = s.scc
  bp : w.testBit 403 = false → t.bp = s.bp
  net : w.testBit 404 = false → t.net = s.net
  parts : w.testBit 405 = false → t.parts = s.parts
  frz : w.testBit 406 = false → t.frz = s.frz
  mem : w.testBit 407 = false → t.mem = s.mem
  tim : w.testBit 408 = false → t.tim = s.tim
  hif : w.testBit 409 = false → t.hif = s.hif
  rel : w.testBit 410 = false → t.rel = s.rel
  trc : w.testBit 411 = false → t.trc = s.trc
  dbg : w.testBit 412 = false → t.dbg = s.dbg
  stw : w.testBit 413 = false → t.stw = s.stw
  lnk : w.testBit 414 = false → t.lnk = s.lnk
  clk : w.testBit 415 = false → t.clk = s.clk
  pio : w.testBit 416 = false → t.pio = s.pio
  tmp : w.testBit 417 = false → t.tmp = s.tmp
  ld : w.testBit 418 = false → t.ld = s.ld
  dsp : w.testBit 419 = false → t.dsp = s.dsp
  tn : w.testBit 420 = false → t.tn = s.tn
  rst : w.testBit 421 = false → t.rst = s.rst
  resp : w.testBit 422 = false → t.resp = s.resp
  seq : w.testBit 423 = false → t.seq = s.seq
  regsWf : s.regsWf → t.regsWf
  memWf : s.mem.wf = true → t.mem.wf = true

variable {w v : Nat} {s x t : State}

theorem Touch.refl (w : Nat) (s : State) : Touch w s s := by
  constructor <;> first | exact rfl | exact fun _ _ _ => rfl | exact fun _ => rfl | exact id

theorem Touch.trans (h : Touch w s x) (k : Touch w x t) : Touch w s t where
  pending := k.pending.trans h.pending
  reg r i e := (k.reg r i e).trans (h.reg r i e)
  scc e := (k.scc e).trans (h.scc e)
  bp e := (k.bp e).trans (h.bp e)
  net e := (k.net e).trans (h.net e)
  parts e := (k.parts e).trans (h.parts e)
  frz e := (k.frz e).trans (h.frz e)
  mem e := (k.mem e).trans (h.mem e)
  tim e := (k.tim e).trans (h.tim e)
  hif e := (k.hif e).trans (h.hif e)
  rel e := (k.rel e).trans (h.rel e)
  trc e := (k.trc e).trans (h.trc e)
  dbg e := (k.dbg e).trans (h.dbg e)
  stw e := (k.stw e).trans (h.stw e)
  lnk e := (k.lnk e).trans (h.lnk e)
  clk e := (k.clk e).trans (h.clk e)
  pio e := (k.pio e).trans (h.pio e)
  tmp e := (k.tmp e).trans (h.tmp e)
  ld e := (k.ld e).trans (h.ld e)
  dsp e := (k.dsp e).trans (h.dsp e)
  tn e := (k.tn e).trans (h.tn e)
  rst e := (k.rst e).trans (h.rst e)
  resp e := (k.resp e).trans (h.resp e)
  seq e := (k.seq e).trans (h.seq e)
  regsWf e := k.regsWf (h.regsWf e)
  memWf e := k.memWf (h.memWf e)

/-- A smaller mask says more. -/
theorem Touch.mono (h : Touch v s t) (e : Nat.lor v w = w) : Touch w s t := by
  have b : ∀ n, w.testBit n = false → v.testBit n = false := by
    intro n hn
    have : (v ||| w).testBit n = false := by rw [show v ||| w = w from e]; exact hn
    rw [Nat.testBit_or, Bool.or_eq_false_iff] at this
    exact this.1
  exact {
    pending := h.pending
    reg := fun r i hn => h.reg r i (b _ hn)
    regsWf := h.regsWf
    memWf := h.memWf
    scc := fun hn => h.scc (b _ hn)
    bp := fun hn => h.bp (b _ hn)
    net := fun hn => h.net (b _ hn)
    parts := fun hn => h.parts (b _ hn)
    frz := fun hn => h.frz (b _ hn)
    mem := fun hn => h.mem (b _ hn)
    tim := fun hn => h.tim (b _ hn)
    hif := fun hn => h.hif (b _ hn)
    rel := fun hn => h.rel (b _ hn)
    trc := fun hn => h.trc (b _ hn)
    dbg := fun hn => h.dbg (b _ hn)
    stw := fun hn => h.stw (b _ hn)
    lnk := fun hn => h.lnk (b _ hn)
    clk := fun hn => h.clk (b _ hn)
    pio := fun hn => h.pio (b _ hn)
    tmp := fun hn => h.tmp (b _ hn)
    ld := fun hn => h.ld (b _ hn)
    dsp := fun hn => h.dsp (b _ hn)
    tn := fun hn => h.tn (b _ hn)
    rst := fun hn => h.rst (b _ hn)
    resp := fun hn => h.resp (b _ hn)
    seq := fun hn => h.seq (b _ hn)
  }

/-- Masks within masks. -/
theorem Touch.sub {a b : Nat} (h : Nat.lor a b = b) (k : Nat.lor b w = w) : Nat.lor a w = w := by
  have h' : a ||| b = b := h
  have k' : b ||| w = w := k
  show a ||| w = w
  rw [← k', ← Nat.or_assoc, h']

theorem Touch.bit {b n : Nat} (k : Nat.lor b w = w) (h : b.testBit n = true) : w.testBit n = true := by
  rw [← show b ||| w = w from k, Nat.testBit_or, h, Bool.true_or]

/-- An operation after others. -/
theorem Touch.via (h : Touch v x t) (e : Nat.lor v w = w) (k : Touch w s x) : Touch w s t := k.trans (h.mono e)

theorem Touch.after (h : Touch w x t) (k : Touch w s x) : Touch w s t := k.trans h

/-- A field of a register that the mask leaves out. -/
theorem Touch.gf (h : Touch w s t) (f : Fld) (i : Nat) (e : w.testBit f.reg.ctorIdx = false) : t.gf f i = s.gf f i := by
  simp only [State.gf, h.reg _ _ e]

/-- A flag of a register that the mask leaves out. -/
theorem Touch.flag (h : Touch w s t) (f : Fld) (i : Nat) (e : w.testBit f.reg.ctorIdx = false) : t.flag f i = s.flag f i := by
  simp only [State.flag, h.gf f i e]

@[simp] theorem Fld.nth_reg (f : Fld) (k : Nat) : (f.nth k).reg = f.reg := rfl

/-! ### Writes of registers -/

theorem Touch.setReg {r : Reg} {i : Nat} {n : Word} (e : w.testBit r.ctorIdx = true) (k : Touch w s x) : Touch w s (x.setReg r i n) := by
  refine k.trans ?_
  constructor
  case reg =>
    intro r' i' h
    refine State.reg_setReg_reg x i i' n fun c => ?_
    rw [c, e] at h
    cases h
  case regsWf => exact fun h => Store.wf_set regDefault _ _ _ h
  all_goals first | exact rfl | exact fun _ => rfl | exact id

theorem Touch.sf {f : Fld} {i n : Nat} (e : w.testBit f.reg.ctorIdx = true) (k : Touch w s x) : Touch w s (x.sf f i n) := Touch.setReg e k
theorem Touch.sflag {f : Fld} {i : Nat} {b : Bool} (e : w.testBit f.reg.ctorIdx = true) (k : Touch w s x) : Touch w s (x.sflag f i b) := Touch.setReg e k
theorem Touch.bump {f : Fld} {i n : Nat} (e : w.testBit f.reg.ctorIdx = true) (k : Touch w s x) : Touch w s (x.bump f i n) := Touch.setReg e k
theorem Touch.bumpWrap {f : Fld} {i : Nat} (e : w.testBit f.reg.ctorIdx = true) (k : Touch w s x) : Touch w s (x.bumpWrap f i) := Touch.setReg e k
theorem Touch.resetReg {r : Reg} {i : Nat} (e : w.testBit r.ctorIdx = true) (k : Touch w s x) : Touch w s (x.resetReg r i) := Touch.setReg e k

theorem Touch.resetAll {r : Reg} (e : w.testBit r.ctorIdx = true) (k : Touch w s x) : Touch w s (x.resetAll r) := by
  refine k.trans ?_
  constructor
  case reg =>
    intro r' i' h
    have hne : r'.ctorIdx ≠ r.ctorIdx := fun c => by rw [c, e] at h; cases h
    have hk : regKey r' i' % regStride = r'.ctorIdx := by
      have := Reg.ctorIdx_lt r'
      simp only [regKey, regStride] at *
      omega
    simp only [State.reg, State.resetAll]
    rw [Store.get_filter _ (fun j => decide (j % regStride ≠ r.ctorIdx))]
    simp [hk, hne]
  case regsWf => exact fun h => Store.wf_filter regDefault _ _ h
  all_goals first | exact rfl | exact fun _ => rfl | exact id

/-! ### Control -/

theorem Touch.ite {c : Prop} [Decidable c] {a b : State} (h : Touch w s a) (k : Touch w s b) : Touch w s (if c then a else b) := by
  split <;> assumption

theorem Touch.foldl {α : Type} {l : List α} {f : State → α → State} (h : ∀ t a, Touch w t (f t a)) (k : Touch w s x) :
    Touch w s (l.foldl f x) := by
  induction l generalizing x with
  | nil => exact k
  | cons a r ih => exact ih (k.trans (h x a))

/-- Resetting every instance, or one instance, of each register of a list. -/
theorem Touch.resetList {l : List Reg} (e : l.all (fun r => w.testBit r.ctorIdx) = true) (k : Touch w s x) :
    Touch w s (l.foldl (fun t r => t.resetAll r) x) := by
  induction l generalizing x with
  | nil => exact k
  | cons r l ih =>
    rw [List.all_cons, Bool.and_eq_true] at e
    exact ih e.2 (Touch.resetAll e.1 k)

theorem Touch.resetListAt {l : List Reg} {n : Nat} (e : l.all (fun r => w.testBit r.ctorIdx) = true) (k : Touch w s x) :
    Touch w s (l.foldl (fun t r => t.resetReg r n) x) := by
  induction l generalizing x with
  | nil => exact k
  | cons r l ih =>
    rw [List.all_cons, Bool.and_eq_true] at e
    exact ih e.2 (Touch.resetReg e.1 k)

/-- The same for a fold over a state and a value. -/
theorem Touch.foldlFst {α β : Type} {l : List α} {f : State × β → α → State × β} {x : State × β} (h : ∀ t a, Touch w t.1 (f t a).1)
    (k : Touch w s x.1) : Touch w s (l.foldl f x).1 := by
  induction l generalizing x with
  | nil => exact k
  | cons a r ih => exact ih (k.trans (h x a))

/-- The same for a fold over a value and a state. -/
theorem Touch.foldlSnd {α β : Type} {l : List α} {f : β × State → α → β × State} {x : β × State} (h : ∀ t a, Touch w t.2 (f t a).2)
    (k : Touch w s x.2) : Touch w s (l.foldl f x).2 := by
  induction l generalizing x with
  | nil => exact k
  | cons a r ih => exact ih (k.trans (h x a))

theorem Touch.forEach {α : Type} {l : List α} {f : α → State → State} (h : ∀ a t, Touch w t (f a t)) (k : Touch w s x) :
    Touch w s (Machine.forEach l f x) := Touch.foldl (fun t a => h a t) k

theorem Touch.forUpTo {n : Nat} {f : Nat → State → State} (h : ∀ i t, Touch w t (f i t)) (k : Touch w s x) :
    Touch w s (Machine.forUpTo n f x) := Touch.foldl (fun t a => h a t) k

theorem Touch.orElse {α : Type} {a b : α} {c : Bool} (h : a = b ∨ c = true) (k : c = false) : a = b := by
  rcases h with h | h
  · exact h
  · rw [h] at k; cases k

theorem MemState.wf_of {m m' : MemState} (h : m'.mem = m.mem) (k : m'.fill = m.fill) (e : m.wf = true) : m'.wf = true := by
  unfold MemState.wf at *
  rw [h, k]
  exact e

/-- `Touch` of a record written out: a name of its own, so that a proof sees where a record stands. -/
def TouchMk (w : Nat) (s : State) (pending' : List Instr) (regs' : Store Word) (scc' : Nat) (bp' : BpState) (net' : NetState)
    (parts' : Store PartRec) (frz' : FrzState) (mem' : MemState) (tim' : TimState) (hif' : HifState) (rel' : RelState) (trc' : TrcState)
    (dbg' : DbgState) (stw' : StwState) (lnk' : LnkState) (clk' : ClkState) (pio' : PioState) (tmp' : TempoState) (ld' : LdState)
    (dsp' : DspState) (tn' : TnState) (rst' : RstState) (resp' : BusResp) (seq' : Nat) : Prop :=
  Touch w s (State.mk pending' regs' scc' bp' net' parts' frz' mem' tim' hif' rel' trc' dbg' stw' lnk' clk' pio' tmp' ld' dsp' tn' rst'
    resp' seq')

theorem Touch.mk_eq (w : Nat) (s : State) (pending' : List Instr) (regs' : Store Word) (scc' : Nat) (bp' : BpState) (net' : NetState)
    (parts' : Store PartRec) (frz' : FrzState) (mem' : MemState) (tim' : TimState) (hif' : HifState) (rel' : RelState) (trc' : TrcState)
    (dbg' : DbgState) (stw' : StwState) (lnk' : LnkState) (clk' : ClkState) (pio' : PioState) (tmp' : TempoState) (ld' : LdState)
    (dsp' : DspState) (tn' : TnState) (rst' : RstState) (resp' : BusResp) (seq' : Nat) :
    Touch w s (State.mk pending' regs' scc' bp' net' parts' frz' mem' tim' hif' rel' trc' dbg' stw' lnk' clk' pio' tmp' ld' dsp' tn' rst'
      resp' seq')
    = TouchMk w s pending' regs' scc' bp' net' parts' frz' mem' tim' hif' rel' trc' dbg' stw' lnk' clk' pio' tmp' ld' dsp' tn' rst'
      resp' seq' := rfl

/-- A new record of the parts: what is not named stays. -/
theorem TouchMk.intro {scc' : Nat} {bp' : BpState} {net' : NetState} {parts' : Store PartRec} {frz' : FrzState} {mem' : MemState}
    {tim' : TimState} {hif' : HifState} {rel' : RelState} {trc' : TrcState} {dbg' : DbgState} {stw' : StwState} {lnk' : LnkState}
    {clk' : ClkState} {pio' : PioState} {tmp' : TempoState} {ld' : LdState} {dsp' : DspState} {tn' : TnState} {rst' : RstState}
    {resp' : BusResp} {seq' : Nat} (k : Touch w s x) (hm : x.mem.wf = true → mem'.wf = true := by first | exact id | exact MemState.wf_of rfl rfl)
    (h0 : scc' = x.scc ∨ w.testBit 402 = true := by first | exact Or.inr rfl | exact Or.inl rfl)
    (h1 : bp' = x.bp ∨ w.testBit 403 = true := by first | exact Or.inr rfl | exact Or.inl rfl)
    (h2 : net' = x.net ∨ w.testBit 404 = true := by first | exact Or.inr rfl | exact Or.inl rfl)
    (h3 : parts' = x.parts ∨ w.testBit 405 = true := by first | exact Or.inr rfl | exact Or.inl rfl)
    (h4 : frz' = x.frz ∨ w.testBit 406 = true := by first | exact Or.inr rfl | exact Or.inl rfl)
    (h5 : mem' = x.mem ∨ w.testBit 407 = true := by first | exact Or.inr rfl | exact Or.inl rfl)
    (h6 : tim' = x.tim ∨ w.testBit 408 = true := by first | exact Or.inr rfl | exact Or.inl rfl)
    (h7 : hif' = x.hif ∨ w.testBit 409 = true := by first | exact Or.inr rfl | exact Or.inl rfl)
    (h8 : rel' = x.rel ∨ w.testBit 410 = true := by first | exact Or.inr rfl | exact Or.inl rfl)
    (h9 : trc' = x.trc ∨ w.testBit 411 = true := by first | exact Or.inr rfl | exact Or.inl rfl)
    (ha : dbg' = x.dbg ∨ w.testBit 412 = true := by first | exact Or.inr rfl | exact Or.inl rfl)
    (hb : stw' = x.stw ∨ w.testBit 413 = true := by first | exact Or.inr rfl | exact Or.inl rfl)
    (hc : lnk' = x.lnk ∨ w.testBit 414 = true := by first | exact Or.inr rfl | exact Or.inl rfl)
    (hd : clk' = x.clk ∨ w.testBit 415 = true := by first | exact Or.inr rfl | exact Or.inl rfl)
    (he : pio' = x.pio ∨ w.testBit 416 = true := by first | exact Or.inr rfl | exact Or.inl rfl)
    (hf : tmp' = x.tmp ∨ w.testBit 417 = true := by first | exact Or.inr rfl | exact Or.inl rfl)
    (hg : ld' = x.ld ∨ w.testBit 418 = true := by first | exact Or.inr rfl | exact Or.inl rfl)
    (hh : dsp' = x.dsp ∨ w.testBit 419 = true := by first | exact Or.inr rfl | exact Or.inl rfl)
    (hi : tn' = x.tn ∨ w.testBit 420 = true := by first | exact Or.inr rfl | exact Or.inl rfl)
    (hj : rst' = x.rst ∨ w.testBit 421 = true := by first | exact Or.inr rfl | exact Or.inl rfl)
    (hk : resp' = x.resp ∨ w.testBit 422 = true := by first | exact Or.inr rfl | exact Or.inl rfl)
    (hl : seq' = x.seq ∨ w.testBit 423 = true := by first | exact Or.inr rfl | exact Or.inl rfl) :
    TouchMk w s x.pending x.regs scc' bp' net' parts' frz' mem' tim' hif' rel' trc' dbg' stw' lnk' clk' pio' tmp' ld' dsp' tn' rst'
      resp' seq' :=
  k.trans {
    pending := rfl
    reg := fun _ _ _ => rfl
    regsWf := id
    memWf := hm
    scc := Touch.orElse h0
    bp := Touch.orElse h1
    net := Touch.orElse h2
    parts := Touch.orElse h3
    frz := Touch.orElse h4
    mem := Touch.orElse h5
    tim := Touch.orElse h6
    hif := Touch.orElse h7
    rel := Touch.orElse h8
    trc := Touch.orElse h9
    dbg := Touch.orElse ha
    stw := Touch.orElse hb
    lnk := Touch.orElse hc
    clk := Touch.orElse hd
    pio := Touch.orElse he
    tmp := Touch.orElse hf
    ld := Touch.orElse hg
    dsp := Touch.orElse hh
    tn := Touch.orElse hi
    rst := Touch.orElse hj
    resp := Touch.orElse hk
    seq := Touch.orElse hl
  }

end Machine
end Sys2Proof
end

