-- ==== Sys2Proof/Laws/Mem.lean ====
section
/-! SUPPORT. The laws of the device's memory: a byte read after a write, and the canonical form that every memory operation keeps. -/
namespace Sys2Proof
namespace Machine

/-! ### Bytes -/

/-- The byte just written reads back. -/
@[simp] theorem MemState.get_put_same (m : MemState) (a : Nat) (v : Byte) : (m.put a v).get a = v := by
  simp [MemState.get, MemState.put]

/-- Every other byte reads as before. -/
theorem MemState.get_put_ne (m : MemState) {a b : Nat} (v : Byte) (h : b ≠ a) : (m.put a v).get b = m.get b := by
  simp [MemState.get, MemState.put, Store.get_set_ne _ _ _ _ h]

/-! ### The canonical form -/

theorem memDefault_congr {f g : Store Nat} {a : Nat} (h : fillCode f a = fillCode g a) : memDefault f a = memDefault g a := by
  unfold memDefault
  rw [h]

/-- Entries keep the canonical form under another fill that gives their addresses the same code. -/
theorem MemState.wf_fill {f g : Store Nat} {l : Store Byte} (h : Store.wf (memDefault f) l = true)
    (e : ∀ x ∈ l, fillCode g x.1 = fillCode f x.1) : Store.wf (memDefault g) l = true := by
  rw [Store.wf_iff] at *
  refine ⟨h.1, fun x hx => ?_⟩
  rw [memDefault_congr (e x hx)]
  exact h.2 x hx

/-- The rest of the memory's record does not bear on the form. -/
theorem MemState.wf_mk {m : MemState} {xf ec rt wb' mw me pg cp gz go} (h : m.wf = true) :
    (MemState.mk m.mem m.fill xf ec rt wb' mw me pg cp gz go).wf = true := h

theorem MemState.wf_clrErr (m : MemState) (a : Nat) (h : m.wf = true) : (m.clrErr a).wf = true := h

theorem MemState.wf_put (m : MemState) (a : Nat) (v : Byte) (h : m.wf = true) : (m.put a v).wf = true :=
  Store.wf_set (memDefault m.fill) a v m.mem h

theorem MemState.wf_clear (m : MemState) (lo hi : Nat) (h : m.wf = true) : ({ m with mem := Store.clear lo hi m.mem } : MemState).wf = true :=
  Store.wf_clear (memDefault m.fill) lo hi m.mem h

theorem inBB_iff (a : Nat) : inBB a = true ↔ 0x200000000 ≤ a ∧ a < 0x210000000 := by
  unfold inBB bbBase
  rw [Bool.and_eq_true, decide_eq_true_iff, decide_eq_true_iff]

theorem inHbm_iff (a : Nat) : inHbm a = true ↔ 0x1000000000 ≤ a ∧ a < 0x2800000000 := by
  unfold inHbm hbmBase hbmStack
  rw [Bool.and_eq_true, decide_eq_true_iff, decide_eq_true_iff]

theorem inRam_iff (a : Nat) : inRam a = true ↔ 0x100000000 ≤ a ∧ a < 0x101000000 := by
  unfold inRam ramBase
  rw [Bool.and_eq_true, decide_eq_true_iff, decide_eq_true_iff]

/-- The first address of a block of the fill map. -/
def blockLo (block : Nat) : Nat :=
  if block < 512 then bankAddr block else if block < 896 then granAddr (block - 512) else ramBase + 0x40000 * (block - 896)

/-- The address after a block of the fill map. -/
def blockHi (block : Nat) : Nat :=
  if block < 512 then bankAddr block + 524288 else if block < 896 then granAddr (block - 512) + granSize else ramBase + 0x40000 * (block - 896) + 0x40000

/-- A block that an address outside it does not lie in keeps its code. -/
theorem fillCode_set {f : Store Nat} {block code a : Nat} (h : ¬ (blockLo block ≤ a ∧ a < blockHi block)) :
    fillCode (Store.set 0 block code f) a = fillCode f a := by
  unfold fillCode
  split
  · rename_i hb
    rw [inBB_iff] at hb
    refine Store.get_set_ne _ _ _ _ fun e => h ?_
    unfold bankOf bbBase at e
    have h1 : block < 512 := by omega
    unfold blockLo blockHi bankAddr bbBase
    rw [if_pos h1, if_pos h1]
    omega
  · split
    · rename_i hb
      rw [inHbm_iff] at hb
      refine Store.get_set_ne _ _ _ _ fun e => h ?_
      unfold granOf hbmBase granSize at e
      have h1 : ¬ block < 512 := by omega
      have h2 : block < 896 := by omega
      unfold blockLo blockHi granAddr hbmBase granSize
      rw [if_neg h1, if_neg h1, if_pos h2, if_pos h2]
      omega
    · split
      · rename_i hb
        rw [inRam_iff] at hb
        refine Store.get_set_ne _ _ _ _ fun e => h ?_
        unfold ramCore ramBase at e
        have h1 : ¬ block < 512 := by omega
        have h2 : ¬ block < 896 := by omega
        unfold blockLo blockHi ramBase
        rw [if_neg h1, if_neg h1, if_neg h2, if_neg h2]
        omega
      · rfl

theorem MemState.wf_refill (m : MemState) (block code : Nat) (h : m.wf = true) : (m.refill block code).wf = true := by
  have hm : (m.refill block code).mem = Store.clear (blockLo block) (blockHi block) m.mem := by
    unfold MemState.refill blockLo blockHi
    by_cases h1 : block < 512
    · simp only [h1, if_true]
    · by_cases h2 : block < 896 <;> simp only [h1, h2, if_true, if_false]
  show Store.wf (memDefault (Store.set 0 block code m.fill)) (m.refill block code).mem = true
  rw [hm]
  refine MemState.wf_fill (Store.wf_clear _ _ _ _ h) fun x hx => fillCode_set ?_
  simp only [Store.clear, List.mem_filter, Bool.or_eq_true, decide_eq_true_eq] at hx
  omega

/-- An address below every block has the code 0. -/
theorem fillCode_low (f : Store Nat) {a : Nat} (h : a < 0x10000000) : fillCode f a = 0 := by
  have h1 : ¬ inBB a = true := by rw [inBB_iff]; omega
  have h2 : ¬ inHbm a = true := by rw [inHbm_iff]; omega
  have h3 : ¬ inRam a = true := by rw [inRam_iff]; omega
  unfold fillCode
  rw [if_neg h1, if_neg h2, if_neg h3]

/-- A fold of operations that keep the canonical form keeps it. -/
theorem MemState.wf_foldl {α : Type} (l : List α) (f : MemState → α → MemState) (h : ∀ m a, m.wf = true → (f m a).wf = true) (m : MemState)
    (e : m.wf = true) : (l.foldl f m).wf = true := by
  induction l generalizing m with
  | nil => exact e
  | cons a r ih => exact ih _ (h m a e)

end Machine
end Sys2Proof
end

