-- ==== Sys2Proof/Laws/TouchOps.lean ====
section
/-! SUPPORT. What each operation of Machine/Ops.lean leaves alone. -/
set_option linter.unusedVariables false
set_option Elab.async false
namespace Sys2Proof
namespace Machine

theorem bumpEpoch_touch (a1 : Nat) (a2 : Nat) (a3 : State) : Touch 0x4000000000000000000000000000000000000000000000000000000000000000000000000000000000000000000000000000100 a3 (bumpEpoch a1 a2 a3) := by
  unfold bumpEpoch
  repeat' first
    | with_reducible exact Touch.refl _ _
    | ((with_reducible refine Eq.symm ?_); exact rfl)
    | with_reducible refine Touch.ite ?_ ?_
    | with_reducible refine Touch.sf ?_ ?_
    | (simp only [Touch.mk_eq]; with_reducible refine TouchMk.intro ?_)

theorem sendMsix_touch (a1 : Nat) (a2 : Nat) (a3 : State) : Touch 0x2000000000000000000000000000000000000000000000000000000000000000000000000000000000000000000000000000000 a3 (sendMsix a1 a2 a3) := by
  unfold sendMsix
  repeat' first
    | with_reducible exact Touch.refl _ _
    | with_reducible refine Touch.ite ?_ ?_
    | (simp only [Touch.mk_eq]; with_reducible refine TouchMk.intro ?_)

theorem raiseIrq_touch (a1 : Nat) (a2 : State) : Touch 0x20000000000000000000000000000000000000000000000c0000000000000000000000000000000000000000000000000000000 a2 (raiseIrq a1 a2) := by
  unfold raiseIrq
  repeat' first
    | with_reducible exact Touch.refl _ _
    | ((with_reducible refine Eq.symm ?_); exact rfl)
    | with_reducible refine Touch.ite ?_ ?_
    | with_reducible apply Touch.via (sendMsix_touch _ _ _)
    | with_reducible refine Touch.sf ?_ ?_
    | split
    | dsimp only

theorem partEvent_touch (a1 : Nat) (a2 : Nat) (a3 : State) : Touch 0x20000000000000000000000000000000000000000000000c0000000000000000000000000000000000000000000000000000000 a3 (partEvent a1 a2 a3) := by
  unfold partEvent
  repeat' first
    | with_reducible exact Touch.refl _ _
    | ((with_reducible refine Eq.symm ?_); exact rfl)
    | with_reducible refine Touch.ite ?_ ?_
    | with_reducible apply Touch.via (raiseIrq_touch _ _)

theorem logViol_touch (a1 : Requester) (a2 : Nat) (a3 : Nat) (a4 : Nat) (a5 : Nat) (a6 : Nat) (a7 : State) : Touch 0x200000000000000000000000000a0000000000000000000c0000000000000000000000000000000000000000000000000000000 a7 (logViol a1 a2 a3 a4 a5 a6 a7) := by
  unfold logViol
  repeat' first
    | with_reducible exact Touch.refl _ _
    | ((with_reducible refine Eq.symm ?_); exact rfl)
    | with_reducible apply Touch.via (raiseIrq_touch _ _)
    | with_reducible refine Touch.setReg ?_ ?_
    | with_reducible refine Touch.sf ?_ ?_
    | with_reducible refine Touch.bump ?_ ?_

theorem logRefused_touch (a1 : Requester) (a2 : Reg) (a3 : Nat) (a4 : Nat) (a5 : State) : Touch 0x200000000000000000000000000a0000000000000000000c0000000000000000000000000000000000000000000000000000000 a5 (logRefused a1 a2 a3 a4 a5) := by
  unfold logRefused
  repeat' first
    | with_reducible exact Touch.refl _ _
    | ((with_reducible refine Eq.symm ?_); exact rfl)
    | with_reducible apply Touch.via (logViol_touch _ _ _ _ _ _ _)

theorem denyWrite_touch (a1 : Requester) (a2 : Reg) (a3 : Nat) (a4 : Nat) (a5 : State) : Touch 0x400200000000000000000000000000a0000000000000000000c0000000000000000000000000000000000000000000000000000000 a5 (denyWrite a1 a2 a3 a4 a5) := by
  unfold denyWrite
  repeat' first
    | with_reducible exact Touch.refl _ _
    | ((with_reducible refine Eq.symm ?_); exact rfl)
    | with_reducible apply Touch.via (logViol_touch _ _ _ _ _ _ _)
    | (simp only [Touch.mk_eq]; with_reducible refine TouchMk.intro ?_)

theorem denyRead_touch (a1 : Requester) (a2 : Reg) (a3 : Nat) (a4 : State) : Touch 0x400200000000000000000000000000a0000000000000000000c0000000000000000000000000000000000000000000000000000000 a4 (denyRead a1 a2 a3 a4) := by
  unfold denyRead
  repeat' first
    | with_reducible exact Touch.refl _ _
    | ((with_reducible refine Eq.symm ?_); exact rfl)
    | with_reducible apply Touch.via (logViol_touch _ _ _ _ _ _ _)
    | (simp only [Touch.mk_eq]; with_reducible refine TouchMk.intro ?_)

theorem lockedWrite_touch (a1 : Requester) (a2 : Reg) (a3 : Nat) (a4 : Nat) (a5 : State) : Touch 0x400200000000000000000000000000a0000000000000000000c0000000000000000000000000000000000000000000000000000000 a5 (lockedWrite a1 a2 a3 a4 a5) := by
  unfold lockedWrite
  repeat' first
    | with_reducible exact Touch.refl _ _
    | ((with_reducible refine Eq.symm ?_); exact rfl)
    | with_reducible apply Touch.via (logViol_touch _ _ _ _ _ _ _)
    | (simp only [Touch.mk_eq]; with_reducible refine TouchMk.intro ?_)

theorem State.withResp_touch (a1 : State) (a2 : BusResp) : Touch 0x4000000000000000000000000000000000000000000000000000000000000000000000000000000000000000000000000000000000 a1 (State.withResp a1 a2) := by
  unfold State.withResp
  repeat' first
    | with_reducible exact Touch.refl _ _
    | (simp only [Touch.mk_eq]; with_reducible refine TouchMk.intro ?_)

theorem okResp_touch (a1 : Nat) (a2 : State) : Touch 0x4000000000000000000000000000000000000000000000000000000000000000000000000000000000000000000000000000000000 a2 (okResp a1 a2) := by
  unfold okResp
  repeat' first
    | with_reducible exact Touch.refl _ _
    | (simp only [Touch.mk_eq]; with_reducible refine TouchMk.intro ?_)

theorem reportSev_touch (a1 : Nat) (a2 : Nat) (a3 : Nat) (a4 : Nat) (a5 : Nat) (a6 : Nat) (a7 : Nat) (a8 : Nat) (a9 : State) : Touch 0x60000000000000000000000000140000000000000000000c0000000000000000000000000000000000000000000000000000000 a9 (reportSev a1 a2 a3 a4 a5 a6 a7 a8 a9) := by
  unfold reportSev
  repeat' first
    | with_reducible exact Touch.refl _ _
    | ((with_reducible refine Eq.symm ?_); exact rfl)
    | with_reducible refine Touch.ite ?_ ?_
    | with_reducible apply Touch.via (raiseIrq_touch _ _)
    | with_reducible refine Touch.setReg ?_ ?_
    | with_reducible refine Touch.sf ?_ ?_
    | with_reducible refine Touch.bump ?_ ?_
    | with_reducible refine Touch.forUpTo ?_ ?_
    | (simp only [Touch.mk_eq]; with_reducible refine TouchMk.intro ?_)
    | intro _

theorem report_touch (a1 : Nat) (a2 : Nat) (a3 : Nat) (a4 : Nat) (a5 : Nat) (a6 : Nat) (a7 : Nat) (a8 : State) : Touch 0x60000000000000000000000000140000000000000000000c0000000000000000000000000000000000000000000000000000000 a8 (report a1 a2 a3 a4 a5 a6 a7 a8) := by
  unfold report
  repeat' first
    | with_reducible exact Touch.refl _ _
    | ((with_reducible refine Eq.symm ?_); exact rfl)
    | with_reducible apply Touch.via (reportSev_touch _ _ _ _ _ _ _ _ _)

theorem wakeBy_touch (a1 : Nat) (a2 : State) : Touch 0x200000000000000000000000000000000000000000000000000000000000000000000000000000000 a2 (wakeBy a1 a2) := by
  unfold wakeBy
  repeat' first
    | with_reducible exact Touch.refl _ _
    | ((with_reducible refine Eq.symm ?_); exact rfl)
    | with_reducible refine Touch.ite ?_ ?_
    | with_reducible refine Touch.sf ?_ ?_

theorem wakeAccess_touch (a1 : Requester) (a2 : State) : Touch 0x200000000000000000000000000000000000000000000000000000000000000000000000000000000 a2 (wakeAccess a1 a2) := by
  unfold wakeAccess
  repeat' first
    | with_reducible exact Touch.refl _ _
    | ((with_reducible refine Eq.symm ?_); exact rfl)
    | with_reducible apply Touch.via (wakeBy_touch _ _)
    | split

theorem State.wb_touch (s : State) (a : Nat) (v : Byte) : Touch 0x800000000000000000000000000000000000000000000000000000000000000000000000000000000000000000000000000000 s (s.wb a v) := by
  unfold State.wb
  simp only [Touch.mk_eq]
  exact TouchMk.intro (Touch.refl _ _) (MemState.wf_put _ _ _)

theorem State.wbs_touch (s : State) (a : Nat) (l : List Nat) : Touch 0x800000000000000000000000000000000000000000000000000000000000000000000000000000000000000000000000000000 s (s.wbs a l) := by
  induction l generalizing s a with
  | nil => exact Touch.refl _ _
  | cons b r ih => exact (State.wb_touch s a _).trans (ih _ _)

end Machine
end Sys2Proof
end

