-- ==== Sys2Proof/Laws/TouchFunnel.lean ====
section
/-! SUPPORT. What each operation of Machine/Funnel.lean leaves alone. -/
set_option linter.unusedVariables false
set_option Elab.async false
namespace Sys2Proof
namespace Machine

theorem funLine_touch (a1 : List Nat) (a2 : State) : Touch 0x800000000000000000000000000000002000000000000000000000000000000000000000000000000000000000000000000000 a2 (funLine a1 a2) := by
  unfold funLine
  repeat' first
    | with_reducible exact Touch.refl _ _
    | ((with_reducible refine Eq.symm ?_); exact rfl)
    | with_reducible refine Touch.ite ?_ ?_
    | with_reducible apply Touch.via (State.wbs_touch _ _ _)
    | with_reducible refine Touch.sf ?_ ?_

theorem funBytes_touch (a1 : List Nat) (a2 : State) : Touch 0x8800000000000000000000000000000002000000000000000000000000000000000000000000000000000000000000000000000 a2 (funBytes a1 a2) := by
  unfold funBytes
  repeat' first
    | with_reducible exact Touch.refl _ _
    | ((with_reducible refine Eq.symm ?_); exact rfl)
    | with_reducible apply Touch.via (funLine_touch _ _)
    | with_reducible refine Touch.forUpTo ?_ ?_
    | (simp only [Touch.mk_eq]; with_reducible refine TouchMk.intro ?_)
    | intro _

theorem funSync_touch (a1 : State) : Touch 0x8800000000000000000000000000000002000000000000000000000000000000000000000000000000000000000000000000000 a1 (funSync a1) := by
  unfold funSync
  repeat' first
    | with_reducible exact Touch.refl _ _
    | ((with_reducible refine Eq.symm ?_); exact rfl)
    | with_reducible refine Touch.ite ?_ ?_
    | with_reducible apply Touch.via (funBytes_touch _ _)

theorem funRecord_touch (a1 : Nat) (a2 : List Nat) (a3 : State) : Touch 0x8800000000000000000000000000000002000000000000000000000000000000000000000000000000000000000000000000000 a3 (funRecord a1 a2 a3) := by
  unfold funRecord
  repeat' first
    | with_reducible exact Touch.refl _ _
    | ((with_reducible refine Eq.symm ?_); exact rfl)
    | with_reducible refine Touch.ite ?_ ?_
    | with_reducible apply Touch.via (funSync_touch _)
    | with_reducible apply Touch.via (funBytes_touch _ _)

theorem funnelPut_touch (a1 : Nat) (a2 : List Nat) (a3 : State) : Touch 0x8008800000000000000000000000000000006000000000000000000000000000000000000000000000000000000000000000000000 a3 (funnelPut a1 a2 a3) := by
  unfold funnelPut
  repeat' first
    | with_reducible exact Touch.refl _ _
    | ((with_reducible refine Eq.symm ?_); exact rfl)
    | with_reducible refine Touch.ite ?_ ?_
    | with_reducible apply Touch.via (funRecord_touch _ _ _)
    | with_reducible refine Touch.bump ?_ ?_
    | (simp only [Touch.mk_eq]; with_reducible refine TouchMk.intro ?_)

end Machine
end Sys2Proof
end

