-- ==== Sys2Proof/Laws/TouchFault.lean ====
section
/-! SUPPORT. What each operation of Machine/Fault.lean leaves alone. -/
set_option linter.unusedVariables false
set_option Elab.async false
namespace Sys2Proof
namespace Machine

theorem State.setPart_touch (a1 : State) (a2 : Nat) (a3 : PartRec) : Touch 0x200000000000000000000000000000000000000000000000000000000000000000000000000000000000000000000000000000 a1 (State.setPart a1 a2 a3) := by
  unfold State.setPart
  repeat' first
    | with_reducible exact Touch.refl _ _
    | (simp only [Touch.mk_eq]; with_reducible refine TouchMk.intro ?_)

theorem State.modPart_touch (a1 : State) (a2 : Nat) (a3 : PartRec → PartRec) : Touch 0x200000000000000000000000000000000000000000000000000000000000000000000000000000000000000000000000000000 a1 (State.modPart a1 a2 a3) := by
  unfold State.modPart
  repeat' first
    | with_reducible exact Touch.refl _ _
    | ((with_reducible refine Eq.symm ?_); exact rfl)
    | with_reducible apply Touch.via (State.setPart_touch _ _ _)

theorem State.setFz_touch (a1 : State) (a2 : Nat) (a3 : FrzPart) : Touch 0x400000000000000000000000000000000000000000000000000000000000000000000000000000000000000000000000000000 a1 (State.setFz a1 a2 a3) := by
  unfold State.setFz
  repeat' first
    | with_reducible exact Touch.refl _ _
    | (simp only [Touch.mk_eq]; with_reducible refine TouchMk.intro ?_)

theorem toutAt_touch (a1 : State) : Touch 0x200000000000000000000000000000000000000000000000000000000000000000000000000000000000000000000000000000000 a1 (toutAt a1) := by
  unfold toutAt
  repeat' first
    | with_reducible exact Touch.refl _ _
    | (simp only [Touch.mk_eq]; with_reducible refine TouchMk.intro ?_)

theorem advanceTo_touch (a1 : Nat) (a2 : State) : Touch 0x220440000000000000000000000000000000000000000000000000000000000000000000000000000000000000000000000000000 a2 (advanceTo a1 a2) := by
  unfold advanceTo
  repeat' first
    | with_reducible exact Touch.refl _ _
    | ((with_reducible refine Eq.symm ?_); exact rfl)
    | with_reducible refine Touch.ite ?_ ?_
    | with_reducible apply Touch.via (State.setFz_touch _ _ _)
    | with_reducible apply Touch.via (toutAt_touch _)
    | with_reducible refine Touch.forUpTo ?_ ?_
    | (simp only [Touch.mk_eq]; with_reducible refine TouchMk.intro ?_)
    | intro _

theorem idle_touch (a1 : State) : Touch 0x220440000000000000000000000000000000000000000000000000000000000000000000000000000000000000000000000000000 a1 (idle a1) := by
  unfold idle
  repeat' first
    | with_reducible exact Touch.refl _ _
    | ((with_reducible refine Eq.symm ?_); exact rfl)
    | with_reducible apply Touch.via (advanceTo_touch _ _)

theorem writeFaultRec_touch (a1 : Nat) (a2 : StepFault) (a3 : Bool) (a4 : Nat) (a5 : Nat) (a6 : Bool) (a7 : State) : Touch 0x22000000000000000000000000000000000000000000000c00000000000000000000000000000008a0000000000000000000000 a7 (writeFaultRec a1 a2 a3 a4 a5 a6 a7) := by
  unfold writeFaultRec
  repeat' first
    | with_reducible exact Touch.refl _ _
    | ((with_reducible refine Eq.symm ?_); exact rfl)
    | with_reducible refine Touch.ite ?_ ?_
    | with_reducible apply Touch.via (State.setPart_touch _ _ _)
    | with_reducible apply Touch.via (partEvent_touch _ _ _)
    | with_reducible refine Touch.setReg ?_ ?_
    | with_reducible refine Touch.sf ?_ ?_
    | with_reducible refine Touch.bump ?_ ?_
    | split
    | dsimp only

theorem sendFaultReq_touch (a1 : Nat) (a2 : Nat) (a3 : State) : Touch 0x200000000000000000000000000000000000000000000000000000000000000000000000000000000000000000000000000000 a3 (sendFaultReq a1 a2 a3) := by
  unfold sendFaultReq
  repeat' first
    | with_reducible exact Touch.refl _ _
    | ((with_reducible refine Eq.symm ?_); exact rfl)
    | with_reducible apply Touch.via (State.setPart_touch _ _ _)

theorem markCorrupt_touch (a1 : Nat) (a2 : State) : Touch 0x200000000000000000000000000000000000000000000000000000000000000000000000000000000000000000000000000000 a2 (markCorrupt a1 a2) := by
  unfold markCorrupt
  repeat' first
    | with_reducible exact Touch.refl _ _
    | ((with_reducible refine Eq.symm ?_); exact rfl)
    | with_reducible apply Touch.via (State.modPart_touch _ _ _)

theorem raiseFault_touch (a1 : Nat) (a2 : StepFault) (a3 : Bool) (a4 : Nat) (a5 : State) : Touch 0x22000000000000000000000000000000000000000000000c00000000000000000000000000000008a0000000000000000000000 a5 (raiseFault a1 a2 a3 a4 a5) := by
  unfold raiseFault
  repeat' first
    | with_reducible exact Touch.refl _ _
    | ((with_reducible refine Eq.symm ?_); exact rfl)
    | with_reducible refine Touch.ite ?_ ?_
    | with_reducible apply Touch.via (writeFaultRec_touch _ _ _ _ _ _ _)
    | with_reducible apply Touch.via (markCorrupt_touch _ _)
    | with_reducible apply Touch.via (sendFaultReq_touch _ _ _)

theorem setStep_touch (a1 : Nat) (a2 : Prod Nat Bool) (a3 : State) : Touch 0x400 a3 (setStep a1 a2 a3) := by
  unfold setStep
  repeat' first
    | with_reducible exact Touch.refl _ _
    | ((with_reducible refine Eq.symm ?_); exact rfl)
    | with_reducible refine Touch.sf ?_ ?_
    | with_reducible refine Touch.sflag ?_ ?_

theorem freezePacket_touch (a1 : Nat) (a2 : Nat) (a3 : State) : Touch 0x8008800000000000000000000000000000006000000000000000000000000000000000000000000000000000000000000000000000 a3 (freezePacket a1 a2 a3) := by
  unfold freezePacket
  repeat' first
    | with_reducible exact Touch.refl _ _
    | ((with_reducible refine Eq.symm ?_); exact rfl)
    | with_reducible refine Touch.ite ?_ ?_
    | with_reducible apply Touch.via (funnelPut_touch _ _ _)

theorem raiseFaults_touch (a1 : Nat) (a2 : List StepFault) (a3 : Bool) (a4 : Nat) (a5 : State) : Touch 0x22000000000000000000000000000000000000000000000c00000000000000000000000000000008a0000000000000000000000 a5 (raiseFaults a1 a2 a3 a4 a5) := by
  unfold raiseFaults
  repeat' first
    | with_reducible exact Touch.refl _ _
    | ((with_reducible refine Eq.symm ?_); exact rfl)
    | with_reducible apply Touch.via (raiseFault_touch _ _ _ _ _)
    | with_reducible refine Touch.forEach ?_ ?_
    | intro _

end Machine
end Sys2Proof
end

