-- ==== Sys2Proof/Laws/TouchFreeze.lean ====
section
/-! SUPPORT. What each operation of Machine/Freeze.lean leaves alone. -/
set_option linter.unusedVariables false
set_option Elab.async false
namespace Sys2Proof
namespace Machine

theorem modCtl_touch (a1 : Nat) (a2 : Nat) (a3 : FrzCtl → FrzCtl) (a4 : State) : Touch 0x400000000000000000000000000000000000000000000000000000000000000000000000000000000000000000000000000000 a4 (modCtl a1 a2 a3 a4) := by
  unfold modCtl
  repeat' first
    | with_reducible exact Touch.refl _ _
    | ((with_reducible refine Eq.symm ?_); exact rfl)
    | with_reducible apply Touch.via (State.setFz_touch _ _ _)

theorem frzStatus_touch (a1 : Nat) (a2 : State) : Touch 0x4000000000000 a2 (frzStatus a1 a2) := by
  unfold frzStatus
  repeat' first
    | with_reducible exact Touch.refl _ _
    | ((with_reducible refine Eq.symm ?_); exact rfl)
    | with_reducible refine Touch.sf ?_ ?_
    | with_reducible refine Touch.sflag ?_ ?_

theorem raiseFreeze_touch (a1 : Nat) (a2 : Nat) (a3 : Nat) (a4 : Nat) (a5 : State) : Touch 0x400000000000000000000000000000000000000000000000000000000000000000000000000000000000000004000000000000 a5 (raiseFreeze a1 a2 a3 a4 a5) := by
  unfold raiseFreeze
  repeat' first
    | with_reducible exact Touch.refl _ _
    | ((with_reducible refine Eq.symm ?_); exact rfl)
    | with_reducible refine Touch.ite ?_ ?_
    | with_reducible apply Touch.via (modCtl_touch _ _ _ _)
    | with_reducible apply Touch.via (frzStatus_touch _ _)

theorem raiseLead_touch (a1 : Nat) (a2 : Nat) (a3 : Nat) (a4 : State) : Touch 0x400000000000000000000000000000000000000000000000000000000000000000000000000000000000000004000000000000 a4 (raiseLead a1 a2 a3 a4) := by
  unfold raiseLead
  repeat' first
    | with_reducible exact Touch.refl _ _
    | ((with_reducible refine Eq.symm ?_); exact rfl)
    | with_reducible apply Touch.via (raiseFreeze_touch _ _ _ _ _)

theorem releaseItem_touch (a1 : Nat) (a2 : Nat) (a3 : Nat) (a4 : Nat) (a5 : State) : Touch 0x400000000000000000000000000000000000000000000000000000000000000000000000000000000000000004000000000000 a5 (releaseItem a1 a2 a3 a4 a5) := by
  unfold releaseItem
  repeat' first
    | with_reducible exact Touch.refl _ _
    | ((with_reducible refine Eq.symm ?_); exact rfl)
    | with_reducible refine Touch.ite ?_ ?_
    | with_reducible apply Touch.via (modCtl_touch _ _ _ _)
    | with_reducible apply Touch.via (frzStatus_touch _ _)

theorem releaseCause_touch (a1 : Nat) (a2 : Nat) (a3 : State) : Touch 0x400000000000000000000000000000000000000000000000000000000000000000000000000000000000000004000000000000 a3 (releaseCause a1 a2 a3) := by
  unfold releaseCause
  repeat' first
    | with_reducible exact Touch.refl _ _
    | ((with_reducible refine Eq.symm ?_); exact rfl)
    | with_reducible apply Touch.via (releaseItem_touch _ _ _ _ _)
    | with_reducible refine Touch.forEach ?_ ?_
    | intro _

theorem dropFreeze_touch (a1 : Nat) (a2 : State) : Touch 0x400000000000000000000000000000000000000000000000000000000000000000000000000000000000000004000000000000 a2 (dropFreeze a1 a2) := by
  unfold dropFreeze
  repeat' first
    | with_reducible exact Touch.refl _ _
    | ((with_reducible refine Eq.symm ?_); exact rfl)
    | with_reducible apply Touch.via (frzStatus_touch _ _)
    | with_reducible apply Touch.via (State.setFz_touch _ _ _)

theorem sendChain_touch (a1 : Nat) (a2 : Nat) (a3 : Nat) (a4 : Nat) (a5 : State) : Touch 0x400000000000000000000000000000000000000000000000000000000000000000000000000000000000000000000000000000 a5 (sendChain a1 a2 a3 a4 a5) := by
  unfold sendChain
  repeat' first
    | with_reducible exact Touch.refl _ _
    | (simp only [Touch.mk_eq]; with_reducible refine TouchMk.intro ?_)

theorem sendBridge_touch (a1 : Nat) (a2 : Nat) (a3 : Nat) (a4 : Nat) (a5 : State) : Touch 0x400000000000000000000000000000000000000000000000000000000000000000000000000000000000000000000000000000 a5 (sendBridge a1 a2 a3 a4 a5) := by
  unfold sendBridge
  repeat' first
    | with_reducible exact Touch.refl _ _
    | with_reducible refine Touch.ite ?_ ?_
    | (simp only [Touch.mk_eq]; with_reducible refine TouchMk.intro ?_)

theorem registerReq_touch (a1 : Nat) (a2 : Nat) (a3 : FrzReq) (a4 : State) : Touch 0x400000000000000000000000000000000000000000000000000000000000000000000000000000000000000000000000000000 a4 (registerReq a1 a2 a3 a4) := by
  unfold registerReq
  repeat' first
    | with_reducible exact Touch.refl _ _
    | ((with_reducible refine Eq.symm ?_); exact rfl)
    | with_reducible refine Touch.ite ?_ ?_
    | with_reducible apply Touch.via (modCtl_touch _ _ _ _)
    | with_reducible apply Touch.via (State.setFz_touch _ _ _)
    | with_reducible apply Touch.via (sendBridge_touch _ _ _ _ _)
    | with_reducible apply Touch.via (sendChain_touch _ _ _ _ _)
    | with_reducible refine Touch.forEach ?_ ?_
    | intro _

theorem chainReport_touch (a1 : Nat) (a2 : State) : Touch 0x400000000000000000000000000000000000000000000000000000000000000000000000000000000000000100000000000000 a2 (chainReport a1 a2) := by
  unfold chainReport
  repeat' first
    | with_reducible exact Touch.refl _ _
    | ((with_reducible refine Eq.symm ?_); exact rfl)
    | with_reducible refine Touch.ite ?_ ?_
    | with_reducible apply Touch.via (State.setFz_touch _ _ _)
    | with_reducible apply Touch.via (sendChain_touch _ _ _ _ _)
    | with_reducible refine Touch.sf ?_ ?_
    | with_reducible refine Touch.forEach ?_ ?_
    | intro _
    | split

theorem afterClear_touch (a1 : Nat) (a2 : Nat) (a3 : State) : Touch 0x400000000000000000000000000000000000000000000000000000000000000000000000000000000000000100000000000000 a3 (afterClear a1 a2 a3) := by
  unfold afterClear
  repeat' first
    | with_reducible exact Touch.refl _ _
    | ((with_reducible refine Eq.symm ?_); exact rfl)
    | with_reducible refine Touch.ite ?_ ?_
    | with_reducible apply Touch.via (sendBridge_touch _ _ _ _ _)
    | with_reducible apply Touch.via (modCtl_touch _ _ _ _)
    | with_reducible apply Touch.via (chainReport_touch _ _)

theorem freezeRegistration_touch (a1 : Nat) (a2 : Nat) (a3 : State) : Touch 0x220440000000000000000000000000000000000000000000000000000000000000000000000000000000000000104000000000000 a3 (freezeRegistration a1 a2 a3) := by
  unfold freezeRegistration
  repeat' first
    | with_reducible exact Touch.refl _ _
    | ((with_reducible refine Eq.symm ?_); exact rfl)
    | with_reducible refine Touch.ite ?_ ?_
    | with_reducible apply Touch.via (advanceTo_touch _ _)
    | with_reducible apply Touch.via (modCtl_touch _ _ _ _)
    | with_reducible apply Touch.via (registerReq_touch _ _ _ _)
    | with_reducible apply Touch.via (State.setFz_touch _ _ _)
    | with_reducible apply Touch.via (sendBridge_touch _ _ _ _ _)
    | with_reducible apply Touch.via (frzStatus_touch _ _)
    | with_reducible apply Touch.via (afterClear_touch _ _ _)
    | with_reducible refine Touch.forEach ?_ ?_
    | intro _
    | split

theorem writeMissed_touch (a1 : Nat) (a2 : State) : Touch 0x22000000000000000000000000000000000000000000000c00000000000000000000000000000008a0000000000000000000000 a2 (writeMissed a1 a2) := by
  unfold writeMissed
  repeat' first
    | with_reducible exact Touch.refl _ _
    | ((with_reducible refine Eq.symm ?_); exact rfl)
    | with_reducible apply Touch.via (State.modPart_touch _ _ _)
    | with_reducible apply Touch.via (writeFaultRec_touch _ _ _ _ _ _ _)
    | with_reducible refine Touch.forEach ?_ ?_
    | intro _

theorem toFreezeStep_touch (a1 : Nat) (a2 : State) : Touch 0x200000000000000000000000000000000000000000000000000000000000000000000000000000000000000000000000000400 a2 (toFreezeStep a1 a2) := by
  unfold toFreezeStep
  repeat' first
    | with_reducible exact Touch.refl _ _
    | ((with_reducible refine Eq.symm ?_); exact rfl)
    | with_reducible refine Touch.ite ?_ ?_
    | with_reducible apply Touch.via (State.modPart_touch _ _ _)
    | with_reducible apply Touch.via (setStep_touch _ _ _)

theorem enterFrozen_touch (a1 : Nat) (a2 : State) : Touch 0x800ae000000000000000000000000000000060000000000000c00000000000000000000000000000008a000000013c800000000400 a2 (enterFrozen a1 a2) := by
  unfold enterFrozen
  repeat' first
    | with_reducible exact Touch.refl _ _
    | ((with_reducible refine Eq.symm ?_); exact rfl)
    | with_reducible apply Touch.via (toFreezeStep_touch _ _)
    | with_reducible apply Touch.via (State.setFz_touch _ _ _)
    | with_reducible apply Touch.via (partEvent_touch _ _ _)
    | with_reducible apply Touch.via (writeMissed_touch _ _)
    | with_reducible apply Touch.via (chainReport_touch _ _)
    | with_reducible apply Touch.via (freezePacket_touch _ _ _)
    | with_reducible apply Touch.via (frzStatus_touch _ _)
    | with_reducible refine Touch.sf ?_ ?_
    | with_reducible refine Touch.sflag ?_ ?_
    | with_reducible refine Touch.bumpWrap ?_ ?_

theorem freezePoint_touch (a1 : Nat) (a2 : State) : Touch 0x822ae400000000000000000000000000000060000000000000c00000000000000000000000000000008a000000013c800000000400 a2 (freezePoint a1 a2) := by
  unfold freezePoint
  repeat' first
    | with_reducible exact Touch.refl _ _
    | ((with_reducible refine Eq.symm ?_); exact rfl)
    | with_reducible refine Touch.ite ?_ ?_
    | with_reducible apply Touch.via (enterFrozen_touch _ _)
    | with_reducible apply Touch.via (advanceTo_touch _ _)
    | split

theorem leaveFrozen_touch (a1 : Nat) (a2 : State) : Touch 0x8008c00000000000000000000000000000006000000000000000000000000000000000000000000000000000000044000000000400 a2 (leaveFrozen a1 a2) := by
  unfold leaveFrozen
  repeat' first
    | with_reducible exact Touch.refl _ _
    | ((with_reducible refine Eq.symm ?_); exact rfl)
    | with_reducible apply Touch.via (State.setFz_touch _ _ _)
    | with_reducible apply Touch.via (frzStatus_touch _ _)
    | with_reducible apply Touch.via (freezePacket_touch _ _ _)
    | with_reducible refine Touch.sf ?_ ?_

theorem resumePoint_touch (a1 : Nat) (a2 : State) : Touch 0x8228c40000000000000000000000000000006000000000000000000000000000000000000000000000000000000044000000000400 a2 (resumePoint a1 a2) := by
  unfold resumePoint
  repeat' first
    | with_reducible exact Touch.refl _ _
    | ((with_reducible refine Eq.symm ?_); exact rfl)
    | with_reducible refine Touch.ite ?_ ?_
    | with_reducible apply Touch.via (leaveFrozen_touch _ _)
    | with_reducible apply Touch.via (advanceTo_touch _ _)
    | split

theorem lateItem_touch (a1 : Nat) (a2 : Nat) (a3 : Nat) (a4 : Nat) (a5 : State) : Touch 0x600000000000000000000000000000000000000000000000000000000000000000000000000000000000000004000000000000 a5 (lateItem a1 a2 a3 a4 a5) := by
  unfold lateItem
  repeat' first
    | with_reducible exact Touch.refl _ _
    | ((with_reducible refine Eq.symm ?_); exact rfl)
    | with_reducible refine Touch.ite ?_ ?_
    | with_reducible apply Touch.via (State.modPart_touch _ _ _)
    | with_reducible apply Touch.via (releaseItem_touch _ _ _ _ _)

theorem raiseLate_touch (a1 : Nat) (a2 : Nat) (a3 : Nat) (a4 : Nat) (a5 : Nat) (a6 : Nat) (a7 : Nat) (a8 : State) : Touch 0x600000000000000000000000000000000000000000000000000000000000000000000000000000000000000084000000000000 a8 (raiseLate a1 a2 a3 a4 a5 a6 a7 a8) := by
  unfold raiseLate
  repeat' first
    | with_reducible exact Touch.refl _ _
    | ((with_reducible refine Eq.symm ?_); exact rfl)
    | with_reducible refine Touch.ite ?_ ?_
    | with_reducible apply Touch.via (raiseFreeze_touch _ _ _ _ _)
    | with_reducible apply Touch.via (State.setPart_touch _ _ _)
    | with_reducible apply Touch.via (sendFaultReq_touch _ _ _)
    | with_reducible refine Touch.sf ?_ ?_
    | with_reducible refine Touch.bump ?_ ?_

theorem forSpanning_touch {w : Nat} (hw : Nat.lor 0x0 w = w) (a1 : Nat) (a2 : Nat → State → State) (a3 : State) (ha2 : ∀ y0 t, Touch w t (a2 y0 t)) : Touch w a3 (forSpanning a1 a2 a3) := by
  unfold forSpanning
  repeat' first
    | with_reducible exact Touch.refl _ _
    | with_reducible refine Touch.ite ?_ ?_
    | with_reducible apply Touch.after (ha2 _ _)
    | with_reducible refine Touch.forUpTo ?_ ?_
    | intro _

theorem bridgeFreeze_touch (a1 : Nat) (a2 : Nat) (a3 : Nat) (a4 : State) : Touch 0x400000000000000000000000000000000000000000000000000000000000000000000000000000000000000004000000000000 a4 (bridgeFreeze a1 a2 a3 a4) := by
  unfold bridgeFreeze
  repeat' first
    | with_reducible exact Touch.refl _ _
    | ((with_reducible refine Eq.symm ?_); exact rfl)
    | with_reducible refine Touch.ite ?_ ?_
    | with_reducible apply Touch.after (forSpanning_touch ?_ _ _ _ ?_)
    | with_reducible apply Touch.via (modCtl_touch _ _ _ _)
    | with_reducible apply Touch.via (State.setFz_touch _ _ _)
    | with_reducible apply Touch.via (frzStatus_touch _ _)
    | intro _

theorem bridgeClear_touch (a1 : Nat) (a2 : Nat) (a3 : State) : Touch 0x400000000000000000000000000000000000000000000000000000000000000000000000000000000000000104000000000000 a3 (bridgeClear a1 a2 a3) := by
  unfold bridgeClear
  repeat' first
    | with_reducible exact Touch.refl _ _
    | ((with_reducible refine Eq.symm ?_); exact rfl)
    | with_reducible refine Touch.ite ?_ ?_
    | with_reducible apply Touch.after (forSpanning_touch ?_ _ _ _ ?_)
    | with_reducible apply Touch.via (modCtl_touch _ _ _ _)
    | with_reducible apply Touch.via (frzStatus_touch _ _)
    | with_reducible apply Touch.via (afterClear_touch _ _ _)
    | intro _

theorem bridgeResume_touch (a1 : Nat) (a2 : Nat) (a3 : Nat) (a4 : State) : Touch 0x400000000000000000000000000000000000000000000000000000000000000000000000000000000000000004000000000000 a4 (bridgeResume a1 a2 a3 a4) := by
  unfold bridgeResume
  repeat' first
    | with_reducible exact Touch.refl _ _
    | ((with_reducible refine Eq.symm ?_); exact rfl)
    | with_reducible refine Touch.ite ?_ ?_
    | with_reducible apply Touch.after (forSpanning_touch ?_ _ _ _ ?_)
    | with_reducible apply Touch.via (frzStatus_touch _ _)
    | with_reducible apply Touch.via (State.setFz_touch _ _ _)
    | intro _

theorem bridgeLoss_touch (a1 : Nat) (a2 : State) : Touch 0x800ae000000000000000000000000000000060000000000000c00000000000000000000000000000008a00000001bc800000000400 a2 (bridgeLoss a1 a2) := by
  unfold bridgeLoss
  repeat' first
    | with_reducible exact Touch.refl _ _
    | ((with_reducible refine Eq.symm ?_); exact rfl)
    | with_reducible refine Touch.ite ?_ ?_
    | with_reducible apply Touch.via (State.setPart_touch _ _ _)
    | with_reducible apply Touch.via (sendFaultReq_touch _ _ _)
    | with_reducible apply Touch.via (State.setFz_touch _ _ _)
    | with_reducible apply Touch.via (enterFrozen_touch _ _)
    | with_reducible refine Touch.bump ?_ ?_

theorem setRxSeq_touch (a1 : Nat) (a2 : Nat) (a3 : State) : Touch 0x400000000000000000000000000000000000000000000000000000000000000000000000000000000000000000000000000000 a3 (setRxSeq a1 a2 a3) := by
  unfold setRxSeq
  repeat' first
    | with_reducible exact Touch.refl _ _
    | with_reducible refine Touch.ite ?_ ?_
    | (simp only [Touch.mk_eq]; with_reducible refine TouchMk.intro ?_)

theorem bellBits_touch (a1 : Nat) (a2 : Nat) (a3 : State) : Touch 0x200000000000000000000000000000000000000000000000000000000000000000000000000000000000000004000000000000 a3 (bellBits a1 a2 a3) := by
  unfold bellBits
  repeat' first
    | with_reducible exact Touch.refl _ _
    | ((with_reducible refine Eq.symm ?_); exact rfl)
    | with_reducible refine Touch.ite ?_ ?_
    | with_reducible apply Touch.after (forSpanning_touch ?_ _ _ _ ?_)
    | with_reducible apply Touch.via (markCorrupt_touch _ _)
    | with_reducible refine Touch.sf ?_ ?_
    | intro _

theorem bridgeWord_touch (a1 : Nat) (a2 : Nat) (a3 : Nat) (a4 : State) : Touch 0x800ae000000000000000000000000000000060000000000000c00000000000000000000000000000008a00000001bc800000000400 a4 (bridgeWord a1 a2 a3 a4) := by
  unfold bridgeWord
  repeat' first
    | with_reducible exact Touch.refl _ _
    | ((with_reducible refine Eq.symm ?_); exact rfl)
    | with_reducible refine Touch.ite ?_ ?_
    | with_reducible apply Touch.via (bellBits_touch _ _ _)
    | with_reducible apply Touch.via (setRxSeq_touch _ _ _)
    | with_reducible apply Touch.via (bridgeLoss_touch _ _)
    | with_reducible apply Touch.via (bridgeFreeze_touch _ _ _ _)
    | with_reducible apply Touch.via (bridgeResume_touch _ _ _ _)
    | with_reducible apply Touch.via (bridgeClear_touch _ _ _)
    | with_reducible refine Touch.forUpTo ?_ ?_
    | intro _
    | split

theorem reRaise_touch (a1 : Nat) (a2 : State) : Touch 0x400000000000000000000000000000000000000000000000000000000000000000000000000000000000000004000000000000 a2 (reRaise a1 a2) := by
  unfold reRaise
  repeat' first
    | with_reducible exact Touch.refl _ _
    | ((with_reducible refine Eq.symm ?_); exact rfl)
    | with_reducible apply Touch.via (frzStatus_touch _ _)
    | with_reducible apply Touch.via (State.setFz_touch _ _ _)

theorem chFreeze_touch (a1 : Nat) (a2 : Nat) (a3 : Nat) (a4 : Nat) (a5 : State) : Touch 0x400000000000000000000000000000000000000000000000000000000000000000000000000000000000000004000000000000 a5 (chFreeze a1 a2 a3 a4 a5) := by
  unfold chFreeze
  repeat' first
    | with_reducible exact Touch.refl _ _
    | ((with_reducible refine Eq.symm ?_); exact rfl)
    | with_reducible refine Touch.ite ?_ ?_
    | with_reducible apply Touch.via (sendChain_touch _ _ _ _ _)
    | with_reducible apply Touch.via (modCtl_touch _ _ _ _)
    | with_reducible apply Touch.via (frzStatus_touch _ _)
    | with_reducible apply Touch.via (State.setFz_touch _ _ _)
    | with_reducible apply Touch.via (raiseFreeze_touch _ _ _ _ _)
    | with_reducible refine Touch.forEach ?_ ?_
    | intro _

theorem chFrozen_touch (a1 : Nat) (a2 : Nat) (a3 : Nat) (a4 : Nat) (a5 : State) : Touch 0x400000000000000000000000000000000000000000000000000000000000000000000000000000000000000100000000000000 a5 (chFrozen a1 a2 a3 a4 a5) := by
  unfold chFrozen
  repeat' first
    | with_reducible exact Touch.refl _ _
    | ((with_reducible refine Eq.symm ?_); exact rfl)
    | with_reducible apply Touch.via (chainReport_touch _ _)
    | with_reducible apply Touch.via (State.setFz_touch _ _ _)

theorem chClear_touch (a1 : Nat) (a2 : Nat) (a3 : State) : Touch 0x400000000000000000000000000000000000000000000000000000000000000000000000000000000000000100000000000000 a3 (chClear a1 a2 a3) := by
  unfold chClear
  repeat' first
    | with_reducible exact Touch.refl _ _
    | ((with_reducible refine Eq.symm ?_); exact rfl)
    | with_reducible apply Touch.via (chainReport_touch _ _)
    | with_reducible apply Touch.via (State.setFz_touch _ _ _)

theorem chResume_touch (a1 : Nat) (a2 : Nat) (a3 : Nat) (a4 : Nat) (a5 : Nat) (a6 : Nat) (a7 : State) : Touch 0x400000000000000000000000000000000000000000000000000000000000000000000000000000000000000100000000000000 a7 (chResume a1 a2 a3 a4 a5 a6 a7) := by
  unfold chResume
  repeat' first
    | with_reducible exact Touch.refl _ _
    | ((with_reducible refine Eq.symm ?_); exact rfl)
    | with_reducible refine Touch.ite ?_ ?_
    | with_reducible apply Touch.via (sendChain_touch _ _ _ _ _)
    | with_reducible apply Touch.via (State.setFz_touch _ _ _)
    | with_reducible refine Touch.sf ?_ ?_
    | with_reducible refine Touch.forEach ?_ ?_
    | intro _

theorem chainResumeExpiry_touch (a1 : Nat) (a2 : State) : Touch 0x8228c40000000000000000000000000000006000000000000000000000000000000000000000000000000000000044000000000400 a2 (chainResumeExpiry a1 a2) := by
  unfold chainResumeExpiry
  repeat' first
    | with_reducible exact Touch.refl _ _
    | ((with_reducible refine Eq.symm ?_); exact rfl)
    | with_reducible refine Touch.ite ?_ ?_
    | with_reducible apply Touch.via (leaveFrozen_touch _ _)
    | with_reducible apply Touch.via (advanceTo_touch _ _)
    | split

theorem chainLoss_touch (a1 : Nat) (a2 : Nat) (a3 : State) : Touch 0x22000000000000000000000000000000000000000000000c00000000000000000000000000000008a0000000080000000000000 a3 (chainLoss a1 a2 a3) := by
  unfold chainLoss
  repeat' first
    | with_reducible exact Touch.refl _ _
    | ((with_reducible refine Eq.symm ?_); exact rfl)
    | with_reducible apply Touch.via (raiseFault_touch _ _ _ _ _)
    | with_reducible refine Touch.bump ?_ ?_

end Machine
end Sys2Proof
end

