-- ==== Sys2Proof/Laws/TouchJournal.lean ====
section
/-! SUPPORT. What each operation of Machine/Journal.lean leaves alone. -/
set_option linter.unusedVariables false
set_option Elab.async false
namespace Sys2Proof
namespace Machine

theorem State.modTrec_touch (a1 : State) (a2 : Nat) (a3 : TrcRec → TrcRec) : Touch 0x8000000000000000000000000000000000000000000000000000000000000000000000000000000000000000000000000000000 a1 (State.modTrec a1 a2 a3) := by
  unfold State.modTrec
  repeat' first
    | with_reducible exact Touch.refl _ _
    | (simp only [Touch.mk_eq]; with_reducible refine TouchMk.intro ?_)

theorem snapStatus_touch (a1 : Nat) (a2 : State) : Touch 0x3000000000000000000000000000000000 a2 (snapStatus a1 a2) := by
  unfold snapStatus
  repeat' first
    | with_reducible exact Touch.refl _ _
    | ((with_reducible refine Eq.symm ?_); exact rfl)
    | with_reducible refine Touch.sf ?_ ?_
    | with_reducible refine Touch.sflag ?_ ?_

theorem dropSnap_touch (a1 : Nat) (a2 : Nat) (a3 : State) : Touch 0x3000000000000000000000000000000000 a3 (dropSnap a1 a2 a3) := by
  unfold dropSnap
  repeat' first
    | with_reducible exact Touch.refl _ _
    | ((with_reducible refine Eq.symm ?_); exact rfl)
    | with_reducible refine Touch.ite ?_ ?_
    | with_reducible apply Touch.via (snapStatus_touch _ _)
    | with_reducible refine Touch.sf ?_ ?_
    | dsimp only

theorem dropAllSnaps_touch (a1 : Nat) (a2 : State) : Touch 0x8000000000000000000000000000000000000000000000000000000000000000000003000000000000000000000000000000000 a2 (dropAllSnaps a1 a2) := by
  unfold dropAllSnaps
  repeat' first
    | with_reducible exact Touch.refl _ _
    | ((with_reducible refine Eq.symm ?_); exact rfl)
    | with_reducible apply Touch.via (dropSnap_touch _ _ _)
    | with_reducible apply Touch.via (snapStatus_touch _ _)
    | with_reducible apply Touch.via (State.modTrec_touch _ _ _)
    | with_reducible refine Touch.forEach ?_ ?_
    | intro _

theorem journalPut_touch (a1 : Nat) (a2 : Nat) (a3 : Nat) (a4 : List Nat) (a5 : State) : Touch 0x8800000000000000000000000000000000000000000000000000000000000000000003000000000000000000000000000000000 a5 (journalPut a1 a2 a3 a4 a5) := by
  unfold journalPut
  repeat' first
    | with_reducible exact Touch.refl _ _
    | ((with_reducible refine Eq.symm ?_); exact rfl)
    | with_reducible refine Touch.ite ?_ ?_
    | with_reducible apply Touch.via (dropAllSnaps_touch _ _)
    | with_reducible apply Touch.via (dropSnap_touch _ _ _)
    | with_reducible apply Touch.via (State.wbs_touch _ _ _)
    | with_reducible apply Touch.via (State.modTrec_touch _ _ _)
    | with_reducible refine Touch.bump ?_ ?_
    | (simp only [Touch.mk_eq]; with_reducible refine TouchMk.intro ?_)
    | split

theorem undoEntry_touch (a1 : Nat) (a2 : Nat) (a3 : Nat) (a4 : Bool) (a5 : Prod Nat Bool) (a6 : State) : Touch 0x8800000000000000000000000000000000000000000000000000000000000000000003000000000000000000000000000000000 a6 (undoEntry a1 a2 a3 a4 a5 a6) := by
  unfold undoEntry
  repeat' first
    | with_reducible exact Touch.refl _ _
    | ((with_reducible refine Eq.symm ?_); exact rfl)
    | with_reducible refine Touch.ite ?_ ?_
    | with_reducible apply Touch.via (journalPut_touch _ _ _ _ _)
    | with_reducible apply Touch.via (State.modTrec_touch _ _ _)

theorem hostwrEntry_touch (a1 : Nat) (a2 : Nat) (a3 : Nat) (a4 : Nat) (a5 : List Nat) (a6 : Prod Nat Bool) (a7 : State) : Touch 0x8800000000000000000000000000000000000000000000000000000000000000000003000000000000000000000000000000000 a7 (hostwrEntry a1 a2 a3 a4 a5 a6 a7) := by
  unfold hostwrEntry
  repeat' first
    | with_reducible exact Touch.refl _ _
    | ((with_reducible refine Eq.symm ?_); exact rfl)
    | with_reducible refine Touch.ite ?_ ?_
    | with_reducible apply Touch.via (journalPut_touch _ _ _ _ _)

theorem bellEntry_touch (a1 : Nat) (a2 : State) : Touch 0x8800000000000000000000000000000000000000000000000000000000000000000003000000000000000000000000000000000 a2 (bellEntry a1 a2) := by
  unfold bellEntry
  repeat' first
    | with_reducible exact Touch.refl _ _
    | ((with_reducible refine Eq.symm ?_); exact rfl)
    | with_reducible refine Touch.ite ?_ ?_
    | with_reducible apply Touch.via (journalPut_touch _ _ _ _ _)

theorem settingsEntry_touch (a1 : Nat) (a2 : State) : Touch 0x8800000000000000000000000000000000000000000000000000000000000000000003000000000000000000000000000000000 a2 (settingsEntry a1 a2) := by
  unfold settingsEntry
  repeat' first
    | with_reducible exact Touch.refl _ _
    | ((with_reducible refine Eq.symm ?_); exact rfl)
    | with_reducible refine Touch.ite ?_ ?_
    | with_reducible apply Touch.via (journalPut_touch _ _ _ _ _)

theorem sourcesEntries_touch (a1 : Nat) (a2 : Bool) (a3 : Prod Nat Bool) (a4 : State) : Touch 0x8800000000000000000000000000000000000000000000000000000000000000000003000000000000000000000000000000000 a4 (sourcesEntries a1 a2 a3 a4) := by
  unfold sourcesEntries
  repeat' first
    | with_reducible exact Touch.refl _ _
    | ((with_reducible refine Eq.symm ?_); exact rfl)
    | with_reducible refine Touch.ite ?_ ?_
    | with_reducible apply Touch.via (journalPut_touch _ _ _ _ _)
    | with_reducible apply Touch.via (State.modTrec_touch _ _ _)
    | with_reducible refine Touch.forEach ?_ ?_
    | intro _

theorem putByte_touch (a v : Nat) (x : Bool) (s : State) : Touch 0x800000000000000000000000000000000000000000000000000000000000000000000000000000000000000000000000000000 s (putByte a v x s) := by
  refine Touch.trans (State.wb_touch s a (BitVec.ofNat 8 (if x then 0 else v))) ?_
  unfold putByte
  simp only [Touch.mk_eq]
  refine TouchMk.intro (Touch.refl _ _) fun h => ?_
  split
  · exact h
  · exact h

theorem hbmReCheck_touch (a1 : Nat) (a2 : State) : Touch 0x800000000000000000000000000000000000000000000000000000000000000000000000000000000000000000000000000000 a2 (hbmReCheck a1 a2) := by
  unfold hbmReCheck
  repeat' first
    | with_reducible exact Touch.refl _ _
    | ((with_reducible refine Eq.symm ?_); exact rfl)
    | with_reducible apply Touch.via (State.wb_touch _ _ _)

end Machine
end Sys2Proof
end

