-- ==== Sys2Proof/Laws/TouchDesignMem.lean ====
section
/-! SUPPORT. What each operation of Machine/DesignMem.lean leaves alone. -/
set_option linter.unusedVariables false
set_option Elab.async false
namespace Sys2Proof
namespace Machine

theorem queueRet_touch (a1 : Nat) (a2 : Nat) (a3 : Bool) (a4 : Nat) (a5 : Nat) (a6 : Nat) (a7 : State) : Touch 0xa00000000000000000000000000000000000000000000000000000000000000000000000000000000000000000000000000000 a7 (queueRet a1 a2 a3 a4 a5 a6 a7) := by
  unfold queueRet
  repeat' first
    | with_reducible exact Touch.refl _ _
    | ((with_reducible refine Eq.symm ?_); exact rfl)
    | with_reducible refine Touch.ite ?_ ?_
    | with_reducible apply Touch.via (State.setPart_touch _ _ _)
    | (simp only [Touch.mk_eq]; with_reducible refine TouchMk.intro ?_ (hm := ?_))
    | with_reducible exact MemState.wf_mk

theorem bbUncorrectable_touch (a1 : Nat) (a2 : Nat) (a3 : State) : Touch 0x60000000000000000000000000140000000000000000000c000000000000000000000000000000000000000e000000000000000 a3 (bbUncorrectable a1 a2 a3) := by
  unfold bbUncorrectable
  repeat' first
    | with_reducible exact Touch.refl _ _
    | ((with_reducible refine Eq.symm ?_); exact rfl)
    | with_reducible apply Touch.via (report_touch _ _ _ _ _ _ _ _)
    | with_reducible refine Touch.sf ?_ ?_
    | with_reducible refine Touch.bump ?_ ?_

theorem bbReadCount_touch (a1 : Nat) (a2 : Nat) (a3 : Bool) (a4 : State) : Touch 0x68000000000000000000000000140000000000000000000c000000000000000000000000000000000000000f000000000000000 a4 (bbReadCount a1 a2 a3 a4) := by
  unfold bbReadCount
  repeat' first
    | with_reducible exact Touch.refl _ _
    | ((with_reducible refine Eq.symm ?_); exact rfl)
    | with_reducible refine Touch.ite ?_ ?_
    | with_reducible apply Touch.via (bbUncorrectable_touch _ _ _)
    | with_reducible refine Touch.bump ?_ ?_
    | with_reducible refine Touch.forUpTo ?_ ?_
    | (simp only [Touch.mk_eq]; with_reducible refine TouchMk.intro ?_ (hm := ?_))
    | with_reducible exact MemState.wf_mk
    | intro _

theorem hbmReadCount_touch (a1 : Nat) (a2 : State) : Touch 0x180000000000000000000 a2 (hbmReadCount a1 a2) := by
  unfold hbmReadCount
  repeat' first
    | with_reducible exact Touch.refl _ _
    | ((with_reducible refine Eq.symm ?_); exact rfl)
    | with_reducible refine Touch.ite ?_ ?_
    | with_reducible refine Touch.bump ?_ ?_

theorem designStore_touch (a1 : Nat) (a2 : Nat) (a3 : MemCmd) (a4 : Prod Nat Bool) (a5 : State) : Touch 0x8800000000000000000000000000000000000000000000000000000000000000000003000000000000000000000000000000000 a5 (designStore a1 a2 a3 a4 a5) := by
  unfold designStore
  repeat' first
    | with_reducible exact Touch.refl _ _
    | ((with_reducible refine Eq.symm ?_); exact rfl)
    | with_reducible refine Touch.ite ?_ ?_
    | with_reducible apply Touch.via (undoEntry_touch _ _ _ _ _ _)
    | with_reducible apply Touch.via (putByte_touch _ _ _ _)
    | with_reducible apply Touch.via (hbmReCheck_touch _ _)
    | with_reducible refine Touch.forUpTo ?_ ?_
    | (simp only [Touch.mk_eq]; with_reducible refine TouchMk.intro ?_ (hm := ?_))
    | with_reducible exact MemState.wf_mk
    | intro _

theorem serveCmd_touch (a1 : Nat) (a2 : MemCmd) (a3 : MemDest) (a4 : Prod Nat Bool) (a5 : State) : Touch 0xea000000000000000000000000140000000000000000000c000000000000000000000300000000000018020f000000000000000 a5 (serveCmd a1 a2 a3 a4 a5) := by
  unfold serveCmd
  repeat' first
    | with_reducible exact Touch.refl _ _
    | ((with_reducible refine Eq.symm ?_); exact rfl)
    | with_reducible refine Touch.ite ?_ ?_
    | with_reducible apply Touch.via (markCorrupt_touch _ _)
    | with_reducible apply Touch.via (queueRet_touch _ _ _ _ _ _ _)
    | with_reducible apply Touch.via (designStore_touch _ _ _ _ _)
    | with_reducible apply Touch.via (hbmReadCount_touch _ _)
    | with_reducible apply Touch.via (bbReadCount_touch _ _ _ _)
    | with_reducible refine Touch.bump ?_ ?_
    | split

theorem refuseCmd_touch (a1 : Nat) (a2 : MemCmd) (a3 : MemDest) (a4 : State) : Touch 0xa00000000000000000000000000000000000000000000000000000000000000000000000000000000000000000000000000000 a4 (refuseCmd a1 a2 a3 a4) := by
  unfold refuseCmd
  repeat' first
    | with_reducible exact Touch.refl _ _
    | ((with_reducible refine Eq.symm ?_); exact rfl)
    | with_reducible refine Touch.ite ?_ ?_
    | with_reducible apply Touch.via (queueRet_touch _ _ _ _ _ _ _)

theorem memStep_touch (a1 : Nat) (a2 : List MemCmd) (a3 : Prod Nat Bool) (a4 : State) : Touch 0xea000000000000000000000000140000000000000000000c000000000000000000000300000000000018030f000000000000000 a4 (memStep a1 a2 a3 a4).1 := by
  unfold memStep
  repeat' first
    | with_reducible exact Touch.refl _ _
    | ((with_reducible refine Eq.symm ?_); exact rfl)
    | with_reducible apply Touch.via (refuseCmd_touch _ _ _ _)
    | with_reducible apply Touch.via (markCorrupt_touch _ _)
    | with_reducible apply Touch.via (serveCmd_touch _ _ _ _ _)
    | with_reducible refine Touch.bump ?_ ?_
    | with_reducible refine Touch.foldlFst ?_ ?_
    | intro _
    | split
    | dsimp only

theorem deliverRet_touch (a1 : Nat) (a2 : Nat) (a3 : State) : Touch 0x880000000000000000000000000000000000000000000000000000000000000000000000000000000000000000000000000000 a3 (deliverRet a1 a2 a3) := by
  unfold deliverRet
  repeat' first
    | with_reducible exact Touch.refl _ _
    | (simp only [Touch.mk_eq]; with_reducible refine TouchMk.intro ?_ (hm := ?_))
    | with_reducible exact MemState.wf_mk
    | split
    | dsimp only

theorem hbmSchedule_touch (a1 : Nat) (a2 : Nat) (a3 : Nat) (a4 : Bool) (a5 : State) : Touch 0x600000000000000000000000000000000000000000000000000000000000000000000000000000000200000084000000000000 a5 (hbmSchedule a1 a2 a3 a4 a5) := by
  unfold hbmSchedule
  repeat' first
    | with_reducible exact Touch.refl _ _
    | ((with_reducible refine Eq.symm ?_); exact rfl)
    | with_reducible apply Touch.via (State.setPart_touch _ _ _)
    | with_reducible apply Touch.via (raiseLate_touch _ _ _ _ _ _ _ _)
    | with_reducible refine Touch.bump ?_ ?_
    | split
    | dsimp only

theorem hbmRefresh_touch (a1 : Nat) (a2 : Nat) (a3 : State) : Touch 0x40000000000000000000 a3 (hbmRefresh a1 a2 a3) := by
  unfold hbmRefresh
  repeat' first
    | with_reducible exact Touch.refl _ _
    | ((with_reducible refine Eq.symm ?_); exact rfl)
    | with_reducible refine Touch.sf ?_ ?_
    | with_reducible refine Touch.sflag ?_ ?_

theorem zeroiseDone_touch (a1 : Nat) (a2 : State) : Touch 0x800000000000000000000000000000000000000000000000000000000000000000000000000000000000000800000000000000 a2 (zeroiseDone a1 a2) := by
  unfold zeroiseDone
  repeat' first
    | with_reducible exact Touch.refl _ _
    | ((with_reducible refine Eq.symm ?_); exact rfl)
    | with_reducible refine Touch.ite ?_ ?_
    | with_reducible refine Touch.sf ?_ ?_
    | (simp only [Touch.mk_eq]; with_reducible refine TouchMk.intro ?_ (hm := ?_))
    | with_reducible exact MemState.wf_refill _ _ _
    | with_reducible exact fun h => MemState.wf_mk (MemState.wf_refill _ _ _ h)

theorem waitZero_touch (a1 : Nat) (a2 : State) : Touch 0x800000000000000000000000000000000000000000000000000000000000000000000000000000000000000800000000000000 a2 (waitZero a1 a2) := by
  unfold waitZero
  repeat' first
    | with_reducible exact Touch.refl _ _
    | ((with_reducible refine Eq.symm ?_); exact rfl)
    | with_reducible refine Touch.ite ?_ ?_
    | with_reducible apply Touch.via (zeroiseDone_touch _ _)

theorem denyAddr_touch (a1 : Requester) (a2 : Nat) (a3 : Nat) (a4 : Nat) (a5 : State) : Touch 0x400200000000000000000000000000a0000000000000000000c0000000000000000000000000000000000000000000000000000000 a5 (denyAddr a1 a2 a3 a4 a5) := by
  unfold denyAddr
  repeat' first
    | with_reducible exact Touch.refl _ _
    | ((with_reducible refine Eq.symm ?_); exact rfl)
    | with_reducible apply Touch.via (logViol_touch _ _ _ _ _ _ _)
    | (simp only [Touch.mk_eq]; with_reducible refine TouchMk.intro ?_)

theorem badData_touch (a1 : State) : Touch 0x4000000000000000000000000000000000000000000000000000000000000000000000000000000000000000000000000000000000 a1 (badData a1) := by
  unfold badData
  repeat' first
    | with_reducible exact Touch.refl _ _
    | (simp only [Touch.mk_eq]; with_reducible refine TouchMk.intro ?_)

theorem hostRead_touch (a1 : Requester) (a2 : Nat) (a3 : State) : Touch 0x400680000000000000000000000001e0000000000000000000c000000000000000000000000000000000018000f800000000000000 a3 (hostRead a1 a2 a3) := by
  unfold hostRead
  repeat' first
    | with_reducible exact Touch.refl _ _
    | ((with_reducible refine Eq.symm ?_); exact rfl)
    | with_reducible refine Touch.ite ?_ ?_
    | with_reducible apply Touch.via (denyAddr_touch _ _ _ _ _)
    | with_reducible apply Touch.via (waitZero_touch _ _)
    | with_reducible apply Touch.via (bbReadCount_touch _ _ _ _)
    | with_reducible apply Touch.via (hbmReadCount_touch _ _)
    | with_reducible apply Touch.via (badData_touch _)
    | with_reducible apply Touch.via (okResp_touch _ _)

theorem hostStore_touch (a1 : Nat) (a2 : Nat) (a3 : Nat) (a4 : List Nat) (a5 : List Nat) (a6 : State) : Touch 0x8800000000000000000000000000000000000000000000000000000000000000000003000000000000000000000000000000000 a6 (hostStore a1 a2 a3 a4 a5 a6) := by
  unfold hostStore
  repeat' first
    | with_reducible exact Touch.refl _ _
    | ((with_reducible refine Eq.symm ?_); exact rfl)
    | with_reducible refine Touch.ite ?_ ?_
    | with_reducible apply Touch.via (undoEntry_touch _ _ _ _ _ _)
    | with_reducible apply Touch.via (hostwrEntry_touch _ _ _ _ _ _ _)
    | with_reducible apply Touch.via (putByte_touch _ _ _ _)
    | with_reducible apply Touch.via (hbmReCheck_touch _ _)
    | with_reducible refine Touch.forUpTo ?_ ?_
    | intro _
    | split

theorem hostWrite_touch (a1 : Requester) (a2 : Nat) (a3 : Nat) (a4 : Nat) (a5 : State) : Touch 0x400a80000000000000000000000000a0000000000000000000c0000000000000000000003000000000000000000800000000000000 a5 (hostWrite a1 a2 a3 a4 a5) := by
  unfold hostWrite
  repeat' first
    | with_reducible exact Touch.refl _ _
    | ((with_reducible refine Eq.symm ?_); exact rfl)
    | with_reducible refine Touch.ite ?_ ?_
    | with_reducible apply Touch.via (denyAddr_touch _ _ _ _ _)
    | with_reducible apply Touch.via (waitZero_touch _ _)
    | with_reducible apply Touch.via (okResp_touch _ _)
    | with_reducible apply Touch.via (hostStore_touch _ _ _ _ _ _)
    | (simp only [Touch.mk_eq]; with_reducible refine TouchMk.intro ?_ (hm := ?_))
    | with_reducible exact MemState.wf_mk

theorem designMemoryAccess_touch (a1 : Requester) (a2 : Bool) (a3 : Nat) (a4 : Nat) (a5 : Nat) (a6 : State) : Touch 0x400e80000000000000000000020001e0000000000000000000c000000000000000000000300000000000018000f800000000000000 a6 (designMemoryAccess a1 a2 a3 a4 a5 a6) := by
  unfold designMemoryAccess
  repeat' first
    | with_reducible exact Touch.refl _ _
    | ((with_reducible refine Eq.symm ?_); exact rfl)
    | with_reducible refine Touch.ite ?_ ?_
    | with_reducible apply Touch.via (hostWrite_touch _ _ _ _ _)
    | with_reducible apply Touch.via (wakeAccess_touch _ _)
    | with_reducible apply Touch.via (hostRead_touch _ _ _)

theorem aliasWrite_touch (a1 : Requester) (a2 : Bool) (a3 : Nat) (a4 : Nat) (a5 : Nat) (a6 : State) : Touch 0x400a80000000000000000000000000a0000000000000000000c0000000000000000000003000000000000000000800000000000000 a6 (aliasWrite a1 a2 a3 a4 a5 a6) := by
  unfold aliasWrite
  repeat' first
    | with_reducible exact Touch.refl _ _
    | ((with_reducible refine Eq.symm ?_); exact rfl)
    | with_reducible refine Touch.ite ?_ ?_
    | with_reducible apply Touch.via (denyAddr_touch _ _ _ _ _)
    | with_reducible apply Touch.via (waitZero_touch _ _)
    | with_reducible apply Touch.via (hostStore_touch _ _ _ _ _ _)
    | with_reducible apply Touch.via (badData_touch _)
    | with_reducible apply Touch.via (okResp_touch _ _)

theorem bitSetAlias_touch (a1 : Requester) (a2 : Nat) (a3 : Nat) (a4 : Nat) (a5 : State) : Touch 0x400a80000000000000000000020000a0000000000000000000c0000000000000000000003000000000000000000800000000000000 a5 (bitSetAlias a1 a2 a3 a4 a5) := by
  unfold bitSetAlias
  repeat' first
    | with_reducible exact Touch.refl _ _
    | ((with_reducible refine Eq.symm ?_); exact rfl)
    | with_reducible apply Touch.via (aliasWrite_touch _ _ _ _ _ _)
    | with_reducible apply Touch.via (wakeAccess_touch _ _)

theorem bitClearAlias_touch (a1 : Requester) (a2 : Nat) (a3 : Nat) (a4 : Nat) (a5 : State) : Touch 0x400a80000000000000000000020000a0000000000000000000c0000000000000000000003000000000000000000800000000000000 a5 (bitClearAlias a1 a2 a3 a4 a5) := by
  unfold bitClearAlias
  repeat' first
    | with_reducible exact Touch.refl _ _
    | ((with_reducible refine Eq.symm ?_); exact rfl)
    | with_reducible apply Touch.via (aliasWrite_touch _ _ _ _ _ _)
    | with_reducible apply Touch.via (wakeAccess_touch _ _)

theorem rewriteWord_touch (a1 : Nat) (a2 : Nat) (a3 : State) : Touch 0x800000000000000000000000000000000000000000000000000000000000000000000000000000000000000000000000000000 a3 (rewriteWord a1 a2 a3) := by
  unfold rewriteWord
  repeat' first
    | with_reducible exact Touch.refl _ _
    | with_reducible refine Touch.ite ?_ ?_
    | with_reducible refine Touch.forUpTo ?_ ?_
    | (simp only [Touch.mk_eq]; with_reducible refine TouchMk.intro ?_ (hm := ?_))
    | with_reducible exact MemState.wf_clrErr _ _
    | intro _

theorem eccWriteback_touch (a1 : Nat) (a2 : State) : Touch 0x800000000000000000000000000000000000000000000000000000000000000000000000000000000000000000000000000000 a2 (eccWriteback a1 a2) := by
  unfold eccWriteback
  repeat' first
    | with_reducible exact Touch.refl _ _
    | ((with_reducible refine Eq.symm ?_); exact rfl)
    | with_reducible apply Touch.via (rewriteWord_touch _ _ _)
    | (simp only [Touch.mk_eq]; with_reducible refine TouchMk.intro ?_ (hm := ?_))
    | with_reducible exact MemState.wf_mk
    | split

theorem backgroundScrub_touch (a1 : Nat) (a2 : Nat) (a3 : State) : Touch 0x68000000000000000000000000140000000000000000000c000000000000000000000000000000000000000f000000000000000 a3 (backgroundScrub a1 a2 a3) := by
  unfold backgroundScrub
  repeat' first
    | with_reducible exact Touch.refl _ _
    | ((with_reducible refine Eq.symm ?_); exact rfl)
    | with_reducible refine Touch.ite ?_ ?_
    | with_reducible apply Touch.via (rewriteWord_touch _ _ _)
    | with_reducible apply Touch.via (bbReadCount_touch _ _ _ _)

theorem marchAbort_touch (a1 : Nat) (a2 : State) : Touch 0x4000000000000000000 a2 (marchAbort a1 a2) := by
  unfold marchAbort
  repeat' first
    | with_reducible exact Touch.refl _ _
    | ((with_reducible refine Eq.symm ?_); exact rfl)
    | with_reducible refine Touch.ite ?_ ?_
    | with_reducible refine Touch.sf ?_ ?_

theorem releaseMemory_touch (a1 : Nat) (a2 : State) : Touch 0x800000000000000000000000000000000000000000000000000000000000000000000000000000004c04000800000000000000 a2 (releaseMemory a1 a2) := by
  unfold releaseMemory
  repeat' first
    | with_reducible exact Touch.refl _ _
    | ((with_reducible refine Eq.symm ?_); exact rfl)
    | with_reducible refine Touch.ite ?_ ?_
    | with_reducible apply Touch.via (marchAbort_touch _ _)
    | with_reducible refine Touch.setReg ?_ ?_
    | with_reducible refine Touch.sf ?_ ?_
    | with_reducible refine Touch.forEach ?_ ?_
    | with_reducible refine Touch.forUpTo ?_ ?_
    | (simp only [Touch.mk_eq]; with_reducible refine TouchMk.intro ?_ (hm := ?_))
    | with_reducible exact MemState.wf_mk
    | intro _
    | (rw [Fld.nth_reg]; rfl)

theorem bankZeroiseDone_touch (a1 : Nat) (a2 : State) : Touch 0x800000000000000000000000000000000000000000000000000000000000000000000000000000000000000800000000000000 a2 (bankZeroiseDone a1 a2) := by
  unfold bankZeroiseDone
  repeat' first
    | with_reducible exact Touch.refl _ _
    | ((with_reducible refine Eq.symm ?_); exact rfl)
    | with_reducible apply Touch.via (zeroiseDone_touch _ _)

theorem setMarch_touch (a1 : Nat) (a2 : MarchRec) (a3 : State) : Touch 0x800000000000000000000000000000000000000000000000000000000000000000000000000000000000000000000000000000 a3 (setMarch a1 a2 a3) := by
  unfold setMarch
  repeat' first
    | with_reducible exact Touch.refl _ _
    | (simp only [Touch.mk_eq]; with_reducible refine TouchMk.intro ?_ (hm := ?_))
    | exact MemState.wf_of rfl rfl (by assumption)
    | intro _
    | split

theorem marchRefuse_touch (a1 : Requester) (a2 : Nat) (a3 : Nat) (a4 : State) : Touch 0x200000000000000000000000000a0000000000000000000c0000000000000000000000000000000000004000000000000000000 a4 (marchRefuse a1 a2 a3 a4) := by
  unfold marchRefuse
  repeat' first
    | with_reducible exact Touch.refl _ _
    | ((with_reducible refine Eq.symm ?_); exact rfl)
    | with_reducible apply Touch.via (logRefused_touch _ _ _ _ _)
    | with_reducible refine Touch.sf ?_ ?_

theorem marchSave_touch (a1 : Nat) (a2 : Nat) (a3 : Nat) (a4 : State) : Touch 0x8000800000000000000000000000000000000000000000000000000000000000000000000000000000000000000000000000000000 a4 (marchSave a1 a2 a3 a4) := by
  unfold marchSave
  repeat' first
    | with_reducible exact Touch.refl _ _
    | ((with_reducible refine Eq.symm ?_); exact rfl)
    | with_reducible refine Touch.ite ?_ ?_
    | with_reducible apply Touch.via (State.wbs_touch _ _ _)
    | (simp only [Touch.mk_eq]; with_reducible refine TouchMk.intro ?_)

theorem marchStart_touch (a1 : Requester) (a2 : Nat) (a3 : State) : Touch 0xc00280000000000000000000000000a0000000000000000000c000000000000000000000000000000000000c000000000000000000 a3 (marchStart a1 a2 a3) := by
  unfold marchStart
  repeat' first
    | with_reducible exact Touch.refl _ _
    | ((with_reducible refine Eq.symm ?_); exact rfl)
    | with_reducible refine Touch.ite ?_ ?_
    | with_reducible apply Touch.via (denyWrite_touch _ _ _ _ _)
    | with_reducible apply Touch.via (setMarch_touch _ _ _)
    | with_reducible apply Touch.via (marchSave_touch _ _ _ _)
    | with_reducible apply Touch.via (marchRefuse_touch _ _ _ _)
    | with_reducible refine Touch.setReg ?_ ?_
    | with_reducible refine Touch.sf ?_ ?_

theorem marchResidue_touch (a1 : Nat) (a2 : Nat) (a3 : State) : Touch 0x800000000000000000000000000000000000000000000000000000000000000000000000000000000000000000000000000000 a3 (marchResidue a1 a2 a3) := by
  unfold marchResidue
  repeat' first
    | with_reducible exact Touch.refl _ _
    | with_reducible refine Touch.ite ?_ ?_
    | with_reducible refine Touch.forUpTo ?_ ?_
    | (simp only [Touch.mk_eq]; with_reducible refine TouchMk.intro ?_ (hm := ?_))
    | with_reducible exact MemState.wf_refill _ _ _
    | intro _

theorem marchFails_touch (a1 : Nat) (a2 : List (Prod Nat Nat)) (a3 : State) : Touch 0xc000800000000000000 a3 (marchFails a1 a2 a3) := by
  unfold marchFails
  repeat' first
    | with_reducible exact Touch.refl _ _
    | ((with_reducible refine Eq.symm ?_); exact rfl)
    | with_reducible refine Touch.ite ?_ ?_
    | with_reducible refine Touch.sf ?_ ?_
    | with_reducible refine Touch.bump ?_ ?_
    | with_reducible refine Touch.forEach ?_ ?_
    | intro _
    | split

theorem marchStop_touch (a1 : Requester) (a2 : Nat) (a3 : Nat) (a4 : State) : Touch 0x400280000000000000000000000000a0000000000000000000c0000000000000000000000000000000000004000000000000000000 a4 (marchStop a1 a2 a3 a4) := by
  unfold marchStop
  repeat' first
    | with_reducible exact Touch.refl _ _
    | ((with_reducible refine Eq.symm ?_); exact rfl)
    | with_reducible refine Touch.ite ?_ ?_
    | with_reducible apply Touch.via (denyWrite_touch _ _ _ _ _)
    | with_reducible apply Touch.via (marchRefuse_touch _ _ _ _)
    | with_reducible apply Touch.via (marchResidue_touch _ _ _)
    | with_reducible refine Touch.sf ?_ ?_

theorem marchDone_touch (a1 : Nat) (a2 : List (Prod Nat Nat)) (a3 : State) : Touch 0x80000000000000000000000000000000000000000000000000000000000000000000000000000000000c000800000000000000 a3 (marchDone a1 a2 a3) := by
  unfold marchDone
  repeat' first
    | with_reducible exact Touch.refl _ _
    | ((with_reducible refine Eq.symm ?_); exact rfl)
    | with_reducible refine Touch.ite ?_ ?_
    | with_reducible apply Touch.via (marchFails_touch _ _ _)
    | with_reducible apply Touch.via (marchResidue_touch _ _ _)
    | with_reducible refine Touch.sf ?_ ?_

theorem marchRestoreDone_touch (a1 : Nat) (a2 : State) : Touch 0x4000000000000000000 a2 (marchRestoreDone a1 a2) := by
  unfold marchRestoreDone
  repeat' first
    | with_reducible exact Touch.refl _ _
    | ((with_reducible refine Eq.symm ?_); exact rfl)
    | with_reducible refine Touch.ite ?_ ?_
    | with_reducible refine Touch.sf ?_ ?_

theorem retireRefuse_touch (a1 : Requester) (a2 : Nat) (a3 : State) : Touch 0x200000000000000000000000000a0000000000000000000c0000000000000000000000000000000000020000000000000000000 a3 (retireRefuse a1 a2 a3) := by
  unfold retireRefuse
  repeat' first
    | with_reducible exact Touch.refl _ _
    | ((with_reducible refine Eq.symm ?_); exact rfl)
    | with_reducible apply Touch.via (logRefused_touch _ _ _ _ _)
    | with_reducible refine Touch.sf ?_ ?_

theorem retireBank_touch (a1 : Requester) (a2 : Nat) (a3 : State) : Touch 0x400600000000000000000000000001e0000000000000000000c0000000000000000000000000000000000020000800000000000000 a3 (retireBank a1 a2 a3) := by
  unfold retireBank
  repeat' first
    | with_reducible exact Touch.refl _ _
    | ((with_reducible refine Eq.symm ?_); exact rfl)
    | with_reducible refine Touch.ite ?_ ?_
    | with_reducible apply Touch.via (denyWrite_touch _ _ _ _ _)
    | with_reducible apply Touch.via (retireRefuse_touch _ _ _)
    | with_reducible apply Touch.via (okResp_touch _ _)
    | with_reducible apply Touch.via (report_touch _ _ _ _ _ _ _ _)
    | with_reducible refine Touch.sf ?_ ?_

theorem unretireBank_touch (a1 : Requester) (a2 : Nat) (a3 : State) : Touch 0x400200000000000000000000000000a0000000000000000000c0000000000000000000000000000000000020000800000000000000 a3 (unretireBank a1 a2 a3) := by
  unfold unretireBank
  repeat' first
    | with_reducible exact Touch.refl _ _
    | ((with_reducible refine Eq.symm ?_); exact rfl)
    | with_reducible refine Touch.ite ?_ ?_
    | with_reducible apply Touch.via (denyWrite_touch _ _ _ _ _)
    | with_reducible apply Touch.via (retireRefuse_touch _ _ _)
    | with_reducible apply Touch.via (okResp_touch _ _)
    | with_reducible refine Touch.sf ?_ ?_

theorem hbmRetire_touch (a1 : Requester) (a2 : Nat) (a3 : Nat) (a4 : State) : Touch 0x400280000000000000000000000000a0000000000000000000c0000000000000000000000000000000001000000000000000000000 a4 (hbmRetire a1 a2 a3 a4) := by
  unfold hbmRetire
  repeat' first
    | with_reducible exact Touch.refl _ _
    | ((with_reducible refine Eq.symm ?_); exact rfl)
    | with_reducible refine Touch.ite ?_ ?_
    | with_reducible apply Touch.via (denyWrite_touch _ _ _ _ _)
    | with_reducible apply Touch.via (logRefused_touch _ _ _ _ _)
    | with_reducible apply Touch.via (okResp_touch _ _)
    | with_reducible refine Touch.sf ?_ ?_
    | (simp only [Touch.mk_eq]; with_reducible refine TouchMk.intro ?_ (hm := ?_))
    | with_reducible exact MemState.wf_mk

theorem hbmPageSwitch_touch (a1 : Nat) (a2 : State) : Touch 0x68000000000000000000000000140000000000000000000c0000000000000000000000000000000001000000000000000000000 a2 (hbmPageSwitch a1 a2) := by
  unfold hbmPageSwitch
  repeat' first
    | with_reducible exact Touch.refl _ _
    | ((with_reducible refine Eq.symm ?_); exact rfl)
    | with_reducible apply Touch.via (report_touch _ _ _ _ _ _ _ _)
    | with_reducible refine Touch.sf ?_ ?_
    | (simp only [Touch.mk_eq]; with_reducible refine TouchMk.intro ?_ (hm := ?_))
    | with_reducible exact MemState.wf_mk
    | split

end Machine
end Sys2Proof
end

