-- ==== Sys2Proof/Laws/TouchNet.lean ====
section
/-! SUPPORT. What each operation of Machine/Net.lean leaves alone. -/
set_option linter.unusedVariables false
set_option Elab.async false
namespace Sys2Proof
namespace Machine

theorem exportStep_touch (a1 : Nat) (a2 : Nat) (a3 : Nat) (a4 : State) : Touch 0x80000000000000000000000000000000000000000000000000000000000000000000000000000000000000000018000000000 a4 (exportStep a1 a2 a3 a4).1 := by
  unfold exportStep
  repeat' first
    | with_reducible exact Touch.refl _ _
    | ((with_reducible refine Eq.symm ?_); exact rfl)
    | with_reducible refine Touch.ite ?_ ?_
    | with_reducible refine Touch.bump ?_ ?_
    | (simp only [Touch.mk_eq]; with_reducible refine TouchMk.intro ?_)
    | split

theorem contention_touch (a1 : Nat) (a2 : List Nat) (a3 : State) : Touch 0x100000000000000000000000000000000000000000000000000000000000000000000000000000000000000000002000000000 a3 (contention a1 a2 a3).1 := by
  unfold contention
  repeat' first
    | with_reducible exact Touch.refl _ _
    | ((with_reducible refine Eq.symm ?_); exact rfl)
    | with_reducible refine Touch.ite ?_ ?_
    | with_reducible refine Touch.bump ?_ ?_
    | with_reducible refine Touch.foldlFst ?_ ?_
    | (simp only [Touch.mk_eq]; with_reducible refine TouchMk.intro ?_)
    | intro _
    | split
    | dsimp only

theorem countSw_touch (a1 : Nat) (a2 : List SwRes) (a3 : State) : Touch 0x1c000000000 a3 (countSw a1 a2 a3).1 := by
  unfold countSw
  repeat' first
    | with_reducible exact Touch.refl _ _
    | ((with_reducible refine Eq.symm ?_); exact rfl)
    | with_reducible refine Touch.ite ?_ ?_
    | with_reducible refine Touch.bump ?_ ?_

theorem netStep_touch (a1 : Nat) (a2 : Nat) (a3 : List Nat) (a4 : State) (a5 : State) : Touch 0x18000000000000000000000000000000000000000000000000000000000000000000000000000000000000000001c000000000 a5 (netStep a1 a2 a3 a4 a5).1 := by
  unfold netStep
  repeat' first
    | with_reducible exact Touch.refl _ _
    | ((with_reducible refine Eq.symm ?_); exact rfl)
    | with_reducible apply Touch.via (countSw_touch _ _ _)
    | (simp only [Touch.mk_eq]; with_reducible refine TouchMk.intro ?_)

theorem clearStages_touch (a1 : Nat) (a2 : State) : Touch 0x180000000000000000000000000000000000000000000000000000000000000000000000000000000000000000000000000000 a2 (clearStages a1 a2) := by
  unfold clearStages
  repeat' first
    | with_reducible exact Touch.refl _ _
    | with_reducible refine Touch.forEach ?_ ?_
    | (simp only [Touch.mk_eq]; with_reducible refine TouchMk.intro ?_)
    | intro _

end Machine
end Sys2Proof
end

