-- ==== Sys2Proof/Laws/TouchArray.lean ====
section
/-! SUPPORT. What each operation of Machine/Array.lean leaves alone. -/
set_option linter.unusedVariables false
set_option Elab.async false
namespace Sys2Proof
namespace Machine

theorem putSlate_touch (a1 : Nat) (a2 : Nat) (a3 : Nat) (a4 : SlateEntry) (a5 : State) : Touch 0x80000000000000000000000000000000000000000000000000000000000000000000000000000000000000000000000000000 a5 (putSlate a1 a2 a3 a4 a5) := by
  unfold putSlate
  repeat' first
    | with_reducible exact Touch.refl _ _
    | (simp only [Touch.mk_eq]; with_reducible refine TouchMk.intro ?_)

theorem followInto_touch (a1 : Nat) (a2 : Nat) (a3 : Nat) (a4 : Nat) (a5 : Nat) (a6 : Nat) (a7 : State) (a8 : State) : Touch 0x80000000000000000000000000000000000000000000000000000000000000000000000000000000000000000000000000000 a8 (followInto a1 a2 a3 a4 a5 a6 a7 a8) := by
  unfold followInto
  repeat' first
    | with_reducible exact Touch.refl _ _
    | ((with_reducible refine Eq.symm ?_); exact rfl)
    | with_reducible refine Touch.ite ?_ ?_
    | with_reducible apply Touch.via (putSlate_touch _ _ _ _ _)

theorem followStep_touch (a1 : Nat) (a2 : Nat) (a3 : Nat) (a4 : State) (a5 : State) : Touch 0x80000000000000000000000000000000000000000000000000000000000000000000000000000000000000000000000000000 a5 (followStep a1 a2 a3 a4 a5) := by
  unfold followStep
  repeat' first
    | with_reducible exact Touch.refl _ _
    | ((with_reducible refine Eq.symm ?_); exact rfl)
    | with_reducible refine Touch.ite ?_ ?_
    | with_reducible apply Touch.via (followInto_touch _ _ _ _ _ _ _ _)
    | with_reducible refine Touch.forUpTo ?_ ?_
    | intro _
    | split
    | dsimp only

theorem classStep_touch (a1 : Nat) (a2 : Nat) (a3 : Nat) (a4 : State) (a5 : State) : Touch 0x80000000000000000000000000000000000000000000000000000000000000000000000000000000000000000000000000038 a5 (classStep a1 a2 a3 a4 a5).1 := by
  unfold classStep
  repeat' first
    | with_reducible exact Touch.refl _ _
    | ((with_reducible refine Eq.symm ?_); exact rfl)
    | with_reducible refine Touch.ite ?_ ?_
    | with_reducible apply Touch.via (putSlate_touch _ _ _ _ _)
    | with_reducible refine Touch.bump ?_ ?_
    | with_reducible refine Touch.foldlFst ?_ ?_
    | (simp only [Touch.mk_eq]; with_reducible refine TouchMk.intro ?_)
    | intro _
    | split

end Machine
end Sys2Proof
end

