-- ==== Sys2Proof/Laws/TouchTrace.lean ====
section
/-! SUPPORT. What each operation of Machine/Trace.lean leaves alone. -/
set_option linter.unusedVariables false
set_option Elab.async false
namespace Sys2Proof
namespace Machine

theorem ringFlush_touch (a1 : Nat) (a2 : State) : Touch 0xa8000000000000000000000000000000000000000000000c0000000000000000000004020000000000000000000000000000000 a2 (ringFlush a1 a2) := by
  unfold ringFlush
  repeat' first
    | with_reducible exact Touch.refl _ _
    | ((with_reducible refine Eq.symm ?_); exact rfl)
    | with_reducible refine Touch.ite ?_ ?_
    | with_reducible apply Touch.via (State.wbs_touch _ _ _)
    | with_reducible apply Touch.via (State.modTrec_touch _ _ _)
    | with_reducible apply Touch.via (partEvent_touch _ _ _)
    | with_reducible refine Touch.sf ?_ ?_

theorem toSink_touch (a1 : Nat) (a2 : List Nat) (a3 : State) : Touch 0x800a8000000000000000000000000000000060000000000000c0000000000000000000004020000000000000000000000000000000 a3 (toSink a1 a2 a3) := by
  unfold toSink
  repeat' first
    | with_reducible exact Touch.refl _ _
    | ((with_reducible refine Eq.symm ?_); exact rfl)
    | with_reducible refine Touch.ite ?_ ?_
    | with_reducible apply Touch.via (funnelPut_touch _ _ _)
    | with_reducible apply Touch.via (ringFlush_touch _ _)
    | with_reducible apply Touch.via (State.modTrec_touch _ _ _)

theorem emit_touch (a1 : Nat) (a2 : Nat) (a3 : List Nat) (a4 : State) : Touch 0x800a8000000000000000000000000000000060000000000000c000000000000000000000c020000000000000000000000000000000 a4 (emit a1 a2 a3 a4) := by
  unfold emit
  repeat' first
    | with_reducible exact Touch.refl _ _
    | ((with_reducible refine Eq.symm ?_); exact rfl)
    | with_reducible refine Touch.ite ?_ ?_
    | with_reducible apply Touch.via (State.modTrec_touch _ _ _)
    | with_reducible apply Touch.via (toSink_touch _ _ _)
    | with_reducible refine Touch.bump ?_ ?_
    | (simp only [Touch.mk_eq]; with_reducible refine TouchMk.intro ?_)

theorem probeClass_touch (a1 : Nat) (a2 : Nat) (a3 : Nat) (a4 : State) : Touch 0x800a8000000000000000000000000000000060000000000000c000000000000000000000c020000000000000000000000000000000 a4 (probeClass a1 a2 a3 a4) := by
  unfold probeClass
  repeat' first
    | with_reducible exact Touch.refl _ _
    | ((with_reducible refine Eq.symm ?_); exact rfl)
    | with_reducible refine Touch.ite ?_ ?_
    | with_reducible apply Touch.via (emit_touch _ _ _ _)
    | with_reducible apply Touch.via (State.modTrec_touch _ _ _)

theorem traceStop_touch (a1 : Nat) (a2 : Nat) (a3 : State) : Touch 0x800a8000000000000000000000000000000060000000000000c000000000000000000000c020000000000000000000000000000000 a3 (traceStop a1 a2 a3) := by
  unfold traceStop
  repeat' first
    | with_reducible exact Touch.refl _ _
    | ((with_reducible refine Eq.symm ?_); exact rfl)
    | with_reducible refine Touch.ite ?_ ?_
    | with_reducible apply Touch.via (emit_touch _ _ _ _)
    | with_reducible apply Touch.via (partEvent_touch _ _ _)
    | with_reducible refine Touch.sf ?_ ?_

theorem tracePostEnd_touch (a1 : Nat) (a2 : Bool) (a3 : State) : Touch 0x800a8000000000000000000000000000000060000000000000c000000000000000000000c020000000000000000000000000000000 a3 (tracePostEnd a1 a2 a3) := by
  unfold tracePostEnd
  repeat' first
    | with_reducible exact Touch.refl _ _
    | ((with_reducible refine Eq.symm ?_); exact rfl)
    | with_reducible refine Touch.ite ?_ ?_
    | with_reducible apply Touch.via (traceStop_touch _ _ _)

theorem pulseCti_touch (a1 : Nat) (a2 : State) : Touch 0x10000000000000000000000000000000000000000000000000000000000000000000000000000000000000000000000000000000 a2 (pulseCti a1 a2) := by
  unfold pulseCti
  repeat' first
    | with_reducible exact Touch.refl _ _
    | (simp only [Touch.mk_eq]; with_reducible refine TouchMk.intro ?_)

theorem traceFire_touch (a1 : Nat) (a2 : Nat) (a3 : Nat) (a4 : Prod Nat Bool) (a5 : Nat) (a6 : State) : Touch 0x801aa000000000000000000000000000000060000000000000c000000000000000000000c220000000000000000000000000000400 a6 (traceFire a1 a2 a3 a4 a5 a6) := by
  unfold traceFire
  repeat' first
    | with_reducible exact Touch.refl _ _
    | ((with_reducible refine Eq.symm ?_); exact rfl)
    | with_reducible refine Touch.ite ?_ ?_
    | with_reducible apply Touch.via (State.modTrec_touch _ _ _)
    | with_reducible apply Touch.via (emit_touch _ _ _ _)
    | with_reducible apply Touch.via (State.modPart_touch _ _ _)
    | with_reducible apply Touch.via (pulseCti_touch _ _)
    | with_reducible apply Touch.via (tracePostEnd_touch _ _ _)
    | with_reducible refine Touch.sf ?_ ?_
    | with_reducible refine Touch.sflag ?_ ?_

theorem traceHalt_touch (a1 : Nat) (a2 : State) : Touch 0x8000000000000000000000000000000000000000000000000000000000000000000000000000000000000000000000000000400 a2 (traceHalt a1 a2) := by
  unfold traceHalt
  repeat' first
    | with_reducible exact Touch.refl _ _
    | ((with_reducible refine Eq.symm ?_); exact rfl)
    | with_reducible refine Touch.ite ?_ ?_
    | with_reducible apply Touch.via (State.modTrec_touch _ _ _)
    | with_reducible refine Touch.sf ?_ ?_

theorem sampleTriggers_touch (a1 : Nat) (a2 : Nat) (a3 : State) : Touch 0x8000000000000000000000000000000000000000000000000000000000000000000000000000000000000000000000000000000 a3 (sampleTriggers a1 a2 a3) := by
  unfold sampleTriggers
  repeat' first
    | with_reducible exact Touch.refl _ _
    | ((with_reducible refine Eq.symm ?_); exact rfl)
    | with_reducible refine Touch.ite ?_ ?_
    | with_reducible apply Touch.via (State.modTrec_touch _ _ _)
    | with_reducible refine Touch.forUpTo ?_ ?_
    | intro _

theorem designTrigger_touch (a1 : Nat) (a2 : Nat) (a3 : State) : Touch 0x801aa000000000000000000000000000000060000000000000c000000000000000000000c220000000000000000000000000000400 a3 (designTrigger a1 a2 a3) := by
  unfold designTrigger
  repeat' first
    | with_reducible exact Touch.refl _ _
    | ((with_reducible refine Eq.symm ?_); exact rfl)
    | with_reducible refine Touch.ite ?_ ?_
    | with_reducible apply Touch.via (traceFire_touch _ _ _ _ _ _)
    | with_reducible apply Touch.via (State.modTrec_touch _ _ _)
    | split

theorem traceStep_touch (a1 : Nat) (a2 : Nat) (a3 : State) : Touch 0x800a8000000000000000000000000000000060000000000000c000000000000000000000c020000000000000000000000000000000 a3 (traceStep a1 a2 a3) := by
  unfold traceStep
  repeat' first
    | with_reducible exact Touch.refl _ _
    | ((with_reducible refine Eq.symm ?_); exact rfl)
    | with_reducible refine Touch.ite ?_ ?_
    | with_reducible apply Touch.via (probeClass_touch _ _ _ _)
    | with_reducible apply Touch.via (tracePostEnd_touch _ _ _)
    | with_reducible apply Touch.via (sampleTriggers_touch _ _ _)
    | with_reducible refine Touch.forEach ?_ ?_
    | intro _

theorem traceBell_touch (a1 : Nat) (a2 : State) : Touch 0x800a8000000000000000000000000000000060000000000000c000000000000000000000c020000000000000000000000000000000 a2 (traceBell a1 a2) := by
  unfold traceBell
  repeat' first
    | with_reducible exact Touch.refl _ _
    | ((with_reducible refine Eq.symm ?_); exact rfl)
    | with_reducible refine Touch.ite ?_ ?_
    | with_reducible apply Touch.via (State.modTrec_touch _ _ _)
    | with_reducible apply Touch.via (emit_touch _ _ _ _)

theorem trcRefuse_touch (a1 : Requester) (a2 : Nat) (a3 : Nat) (a4 : Nat) (a5 : State) : Touch 0x200000000000000000000000000a0000000000000000000c0000000000000000000000020000000000000000000000000000000 a5 (trcRefuse a1 a2 a3 a4 a5) := by
  unfold trcRefuse
  repeat' first
    | with_reducible exact Touch.refl _ _
    | ((with_reducible refine Eq.symm ?_); exact rfl)
    | with_reducible apply Touch.via (logViol_touch _ _ _ _ _ _ _)
    | with_reducible refine Touch.sf ?_ ?_

theorem trcArm_touch (a1 : Requester) (a2 : Nat) (a3 : State) : Touch 0x400a00000000000000000000000000a0000000000000000000c0000000000000000000000220000000000000000000000000000000 a3 (trcArm a1 a2 a3) := by
  unfold trcArm
  repeat' first
    | with_reducible exact Touch.refl _ _
    | ((with_reducible refine Eq.symm ?_); exact rfl)
    | with_reducible refine Touch.ite ?_ ?_
    | with_reducible apply Touch.via (denyWrite_touch _ _ _ _ _)
    | with_reducible apply Touch.via (trcRefuse_touch _ _ _ _ _)
    | with_reducible apply Touch.via (State.modTrec_touch _ _ _)
    | with_reducible refine Touch.setReg ?_ ?_
    | with_reducible refine Touch.sf ?_ ?_

theorem trcStop_touch (a1 : Requester) (a2 : Nat) (a3 : State) : Touch 0xc00a80000000000000000000000000a0000060000000000000c000000000000000000000c020000000000000000000000000000000 a3 (trcStop a1 a2 a3) := by
  unfold trcStop
  repeat' first
    | with_reducible exact Touch.refl _ _
    | ((with_reducible refine Eq.symm ?_); exact rfl)
    | with_reducible refine Touch.ite ?_ ?_
    | with_reducible apply Touch.via (denyWrite_touch _ _ _ _ _)
    | with_reducible apply Touch.via (traceStop_touch _ _ _)
    | with_reducible apply Touch.via (trcRefuse_touch _ _ _ _ _)
    | with_reducible refine Touch.sf ?_ ?_

theorem trcForce_touch (a1 : Requester) (a2 : Nat) (a3 : State) : Touch 0xc01aa0000000000000000000000000a0000060000000000000c000000000000000000000c220000000000000000000000000000400 a3 (trcForce a1 a2 a3) := by
  unfold trcForce
  repeat' first
    | with_reducible exact Touch.refl _ _
    | ((with_reducible refine Eq.symm ?_); exact rfl)
    | with_reducible refine Touch.ite ?_ ?_
    | with_reducible apply Touch.via (denyWrite_touch _ _ _ _ _)
    | with_reducible apply Touch.via (traceFire_touch _ _ _ _ _ _)
    | with_reducible apply Touch.via (trcRefuse_touch _ _ _ _ _)
    | with_reducible refine Touch.sf ?_ ?_

end Machine
end Sys2Proof
end

