-- ==== Sys2Proof/Laws/TouchMailbox.lean ====
section
/-! SUPPORT. What each operation of Machine/Mailbox.lean leaves alone. -/
set_option linter.unusedVariables false
set_option Elab.async false
namespace Sys2Proof
namespace Machine

theorem State.setMbx_touch (a1 : State) (a2 : Nat) (a3 : Mbx) : Touch 0x2000000000000000000000000000000000000000000002000000000000000000000000000000000000000000000000000000000 a1 (State.setMbx a1 a2 a3) := by
  unfold State.setMbx
  repeat' first
    | with_reducible exact Touch.refl _ _
    | ((with_reducible refine Eq.symm ?_); exact rfl)
    | with_reducible refine Touch.sf ?_ ?_
    | (simp only [Touch.mk_eq]; with_reducible refine TouchMk.intro ?_)

theorem mbxPresent_touch (a1 : Nat) (a2 : Nat) (a3 : Nat) (a4 : State) : Touch 0x2100000000000000000000000000000000000000000002000000000000000000000000000000000000000000000000000000000 a4 (mbxPresent a1 a2 a3 a4) := by
  unfold mbxPresent
  repeat' first
    | with_reducible exact Touch.refl _ _
    | ((with_reducible refine Eq.symm ?_); exact rfl)
    | with_reducible apply Touch.via (State.setMbx_touch _ _ _)
    | (simp only [Touch.mk_eq]; with_reducible refine TouchMk.intro ?_)

theorem mbxDecide_touch (a1 : Nat) (a2 : Nat) (a3 : Nat) (a4 : Nat) (a5 : Nat) (a6 : State) : Touch 0x2600000000000000000000000000000000000000000002000000000000000000000000000000000000000000084000000000000 a6 (mbxDecide a1 a2 a3 a4 a5 a6) := by
  unfold mbxDecide
  repeat' first
    | with_reducible exact Touch.refl _ _
    | ((with_reducible refine Eq.symm ?_); exact rfl)
    | with_reducible refine Touch.ite ?_ ?_
    | with_reducible apply Touch.via (State.setMbx_touch _ _ _)
    | with_reducible apply Touch.via (raiseLate_touch _ _ _ _ _ _ _ _)
    | with_reducible apply Touch.via (markCorrupt_touch _ _)
    | with_reducible refine Touch.bump ?_ ?_
    | split
    | dsimp only

theorem mbxAsync_touch (a1 : Nat) (a2 : Nat) (a3 : State) : Touch 0x2000000000000000000000000000000000000000000002000000000000000000000000000000000000000000000000000000000 a3 (mbxAsync a1 a2 a3) := by
  unfold mbxAsync
  repeat' first
    | with_reducible exact Touch.refl _ _
    | ((with_reducible refine Eq.symm ?_); exact rfl)
    | with_reducible apply Touch.via (State.setMbx_touch _ _ _)
    | split
    | dsimp only

theorem mbxDecisions_touch (a1 : Nat) (a2 : Nat) (a3 : Bool) (a4 : State) : Touch 0x2600000000000000000000000000000000000000000002000000000000000000000000000000000000000000084000000000000 a4 (mbxDecisions a1 a2 a3 a4) := by
  unfold mbxDecisions
  repeat' first
    | with_reducible exact Touch.refl _ _
    | ((with_reducible refine Eq.symm ?_); exact rfl)
    | with_reducible refine Touch.ite ?_ ?_
    | with_reducible apply Touch.via (mbxDecide_touch _ _ _ _ _ _)
    | with_reducible apply Touch.via (mbxAsync_touch _ _ _)
    | with_reducible refine Touch.forEach ?_ ?_
    | intro _

theorem mbxPresents_touch (a1 : Nat) (a2 : Nat) (a3 : State) : Touch 0x2100000000000000000000000000000000000000000002000000000000000000000000000000000000000000000000000000000 a3 (mbxPresents a1 a2 a3) := by
  unfold mbxPresents
  repeat' first
    | with_reducible exact Touch.refl _ _
    | ((with_reducible refine Eq.symm ?_); exact rfl)
    | with_reducible apply Touch.via (State.setMbx_touch _ _ _)
    | with_reducible apply Touch.via (mbxPresent_touch _ _ _ _)
    | with_reducible refine Touch.forEach ?_ ?_
    | intro _
    | split
    | dsimp only

theorem mbxEmpty_touch (a1 : Nat) (a2 : State) : Touch 0x2000000000000000000000000000000000000000000002000000000000000000000000000000000000000000000000000000000 a2 (mbxEmpty a1 a2) := by
  unfold mbxEmpty
  repeat' first
    | with_reducible exact Touch.refl _ _
    | ((with_reducible refine Eq.symm ?_); exact rfl)
    | with_reducible apply Touch.via (State.setMbx_touch _ _ _)

theorem mailboxPost_touch (a1 : Requester) (a2 : Nat) (a3 : Nat) (a4 : State) : Touch 0x400260000000000000000000000000a0000000000000000030c0000000000000000000000000000000000000000004000000000000 a4 (mailboxPost a1 a2 a3 a4) := by
  unfold mailboxPost
  repeat' first
    | with_reducible exact Touch.refl _ _
    | ((with_reducible refine Eq.symm ?_); exact rfl)
    | with_reducible refine Touch.ite ?_ ?_
    | with_reducible apply Touch.via (denyWrite_touch _ _ _ _ _)
    | with_reducible apply Touch.via (okResp_touch _ _)
    | with_reducible apply Touch.via (logRefused_touch _ _ _ _ _)
    | with_reducible apply Touch.via (State.setMbx_touch _ _ _)
    | with_reducible apply Touch.via (markCorrupt_touch _ _)
    | with_reducible apply Touch.via (lateItem_touch _ _ _ _ _)
    | with_reducible refine Touch.sf ?_ ?_
    | with_reducible refine Touch.bump ?_ ?_
    | split

end Machine
end Sys2Proof
end

