-- ==== Sys2Proof/Laws/TouchStopwatch.lean ====
section
/-! SUPPORT. What each operation of Machine/Stopwatch.lean leaves alone. -/
set_option linter.unusedVariables false
set_option Elab.async false
namespace Sys2Proof
namespace Machine

theorem State.setStwIn_touch (a1 : State) (a2 : Nat) (a3 : StwIn) : Touch 0x20000000000000000000000000000000000000000000000000000000000000000000000000000000000000000000000000000000 a1 (State.setStwIn a1 a2 a3) := by
  unfold State.setStwIn
  repeat' first
    | with_reducible exact Touch.refl _ _
    | (simp only [Touch.mk_eq]; with_reducible refine TouchMk.intro ?_)

theorem State.setStwTrg_touch (a1 : State) (a2 : Nat) (a3 : StwTrg) : Touch 0x20000000000000000000000000000000000000000000000000000000000000000000000000000000000000000000000000000000 a1 (State.setStwTrg a1 a2 a3) := by
  unfold State.setStwTrg
  repeat' first
    | with_reducible exact Touch.refl _ _
    | (simp only [Touch.mk_eq]; with_reducible refine TouchMk.intro ?_)

theorem stwFunnel_touch (a1 : List Nat) (a2 : State) : Touch 0x8008800000000000000000000000000000006000000000000000000000000000000000000000000000000000000000000000000000 a2 (stwFunnel a1 a2) := by
  unfold stwFunnel
  repeat' first
    | with_reducible exact Touch.refl _ _
    | ((with_reducible refine Eq.symm ?_); exact rfl)
    | with_reducible apply Touch.via (funnelPut_touch _ _ _)

theorem stwEmit_touch (a1 : List Nat) (a2 : State) : Touch 0x8008800000000000000000000000000000006000000000000000000000000000600000000000000000000000000000000000000000 a2 (stwEmit a1 a2) := by
  unfold stwEmit
  repeat' first
    | with_reducible exact Touch.refl _ _
    | ((with_reducible refine Eq.symm ?_); exact rfl)
    | with_reducible refine Touch.ite ?_ ?_
    | with_reducible apply Touch.via (stwFunnel_touch _ _)
    | with_reducible apply Touch.via (State.wbs_touch _ _ _)
    | with_reducible refine Touch.sf ?_ ?_
    | with_reducible refine Touch.bump ?_ ?_
    | (simp only [Touch.mk_eq]; with_reducible refine TouchMk.intro ?_)

theorem stwRecord_touch (a1 : Nat) (a2 : List Nat) (a3 : State) : Touch 0x8008800000000000000000000000000000006000000000000000000000000000600080000000000000000000000000000000000000 a3 (stwRecord a1 a2 a3) := by
  unfold stwRecord
  repeat' first
    | with_reducible exact Touch.refl _ _
    | ((with_reducible refine Eq.symm ?_); exact rfl)
    | with_reducible refine Touch.ite ?_ ?_
    | with_reducible apply Touch.via (stwEmit_touch _ _)
    | with_reducible refine Touch.setReg ?_ ?_
    | with_reducible refine Touch.forUpTo ?_ ?_
    | intro _

theorem stageInput_touch (a1 : Nat) (a2 : State) : Touch 0xa800000000000000000000000000000000000 a2 (stageInput a1 a2) := by
  unfold stageInput
  repeat' first
    | with_reducible exact Touch.refl _ _
    | ((with_reducible refine Eq.symm ?_); exact rfl)
    | with_reducible refine Touch.setReg ?_ ?_

theorem tdcSwap_touch (a1 : Nat) (a2 : State) : Touch 0x20000000000000000000000000000000000000000000000000000000000040000040000000000000000000000000000000000000 a2 (tdcSwap a1 a2) := by
  unfold tdcSwap
  repeat' first
    | with_reducible exact Touch.refl _ _
    | ((with_reducible refine Eq.symm ?_); exact rfl)
    | with_reducible refine Touch.ite ?_ ?_
    | with_reducible apply Touch.via (State.setStwIn_touch _ _ _)
    | with_reducible refine Touch.sf ?_ ?_

theorem openRec_touch (a1 : Nat) (a2 : Nat) (a3 : Option (Prod Nat (Prod Nat Nat))) (a4 : State) : Touch 0x2000000000000000000000000000000000000000000000000000000000004000004a800000000000000000000000000000000000 a4 (openRec a1 a2 a3 a4) := by
  unfold openRec
  repeat' first
    | with_reducible exact Touch.refl _ _
    | ((with_reducible refine Eq.symm ?_); exact rfl)
    | with_reducible apply Touch.via (tdcSwap_touch _ _)
    | with_reducible apply Touch.via (stageInput_touch _ _)
    | with_reducible apply Touch.via (State.setStwIn_touch _ _ _)

theorem closeRec_touch (a1 : Nat) (a2 : Nat) (a3 : Bool) (a4 : State) : Touch 0x8028800000000000000000000000000000006000000000000000000000000000600080000000000000000000000000000000000000 a4 (closeRec a1 a2 a3 a4) := by
  unfold closeRec
  repeat' first
    | with_reducible exact Touch.refl _ _
    | ((with_reducible refine Eq.symm ?_); exact rfl)
    | with_reducible apply Touch.via (State.setStwIn_touch _ _ _)
    | with_reducible apply Touch.via (stwRecord_touch _ _ _)
    | split
    | dsimp only

theorem closeBind_touch (a1 : Nat) (a2 : Nat) (a3 : Bind) (a4 : Bool) (a5 : State) : Touch 0x8028800000000000000000000000000000006000000000000000000000000000600080000000000000000000000000000000000000 a5 (closeBind a1 a2 a3 a4 a5) := by
  unfold closeBind
  repeat' first
    | with_reducible exact Touch.refl _ _
    | ((with_reducible refine Eq.symm ?_); exact rfl)
    | with_reducible refine Touch.ite ?_ ?_
    | with_reducible apply Touch.via (stwEmit_touch _ _)
    | with_reducible apply Touch.via (stwRecord_touch _ _ _)
    | (simp only [Touch.mk_eq]; with_reducible refine TouchMk.intro ?_)
    | split

theorem endBound_touch (a1 : Nat) (a2 : State) : Touch 0x20000000000000000000000000000000000000000000000000000000000000000040000000000000000000000000000000000000 a2 (endBound a1 a2) := by
  unfold endBound
  repeat' first
    | with_reducible exact Touch.refl _ _
    | ((with_reducible refine Eq.symm ?_); exact rfl)
    | with_reducible refine Touch.ite ?_ ?_
    | with_reducible apply Touch.via (State.setStwIn_touch _ _ _)
    | with_reducible refine Touch.sf ?_ ?_
    | split
    | dsimp only

theorem bindWindows_touch (a1 : Nat) (a2 : Nat) (a3 : State) : Touch 0x80288000000000000000000000000000000060000000000000000000000000406000ca800000000000000000000000000000000000 a3 (bindWindows a1 a2 a3) := by
  unfold bindWindows
  repeat' first
    | with_reducible exact Touch.refl _ _
    | ((with_reducible refine Eq.symm ?_); exact rfl)
    | with_reducible refine Touch.ite ?_ ?_
    | with_reducible apply Touch.via (closeBind_touch _ _ _ _ _)
    | with_reducible apply Touch.via (endBound_touch _ _)
    | with_reducible apply Touch.via (openRec_touch _ _ _ _)
    | with_reducible refine Touch.forEach ?_ ?_
    | (simp only [Touch.mk_eq]; with_reducible refine TouchMk.intro ?_)
    | intro _

theorem bindingPresent_touch (a1 : Nat) (a2 : Nat) (a3 : State) : Touch 0x20100000000000000000000000000000000000000000000000000000000000000000000000000000000000000000000000000000 a3 (bindingPresent a1 a2 a3) := by
  unfold bindingPresent
  repeat' first
    | with_reducible exact Touch.refl _ _
    | with_reducible refine Touch.ite ?_ ?_
    | with_reducible refine Touch.forEach ?_ ?_
    | (simp only [Touch.mk_eq]; with_reducible refine TouchMk.intro ?_)
    | intro _

theorem bindClear_touch (a1 : Nat) (a2 : State) : Touch 0x20100000000000000000000000000000000000000000000000000000000000000000000000000000000000000000000000000000 a2 (bindClear a1 a2) := by
  unfold bindClear
  repeat' first
    | with_reducible exact Touch.refl _ _
    | with_reducible refine Touch.forEach ?_ ?_
    | (simp only [Touch.mk_eq]; with_reducible refine TouchMk.intro ?_)
    | intro _

theorem bindAbort_touch (a1 : Nat) (a2 : State) : Touch 0x80288000000000000000000000000000000060000000000000000000000000006000c0000000000000000000000000000000000000 a2 (bindAbort a1 a2) := by
  unfold bindAbort
  repeat' first
    | with_reducible exact Touch.refl _ _
    | ((with_reducible refine Eq.symm ?_); exact rfl)
    | with_reducible apply Touch.via (closeBind_touch _ _ _ _ _)
    | with_reducible apply Touch.via (endBound_touch _ _)
    | with_reducible refine Touch.forEach ?_ ?_
    | (simp only [Touch.mk_eq]; with_reducible refine TouchMk.intro ?_)
    | intro _

theorem occur_touch (a1 : Nat) (a2 : Nat) (a3 : State) : Touch 0x20000000000000000000000000000000000000000000000000000000000000000000000000000000000000000000000000000000 a3 (occur a1 a2 a3) := by
  unfold occur
  repeat' first
    | with_reducible exact Touch.refl _ _
    | ((with_reducible refine Eq.symm ?_); exact rfl)
    | with_reducible refine Touch.ite ?_ ?_
    | with_reducible apply Touch.via (State.setStwTrg_touch _ _ _)

theorem stwEdge_touch (a1 : Nat) (a2 : Bool) (a3 : Nat) (a4 : State) : Touch 0x20000000000000000000000000000000000000000000000000000000000000000040000000000000000000000000000000000000 a4 (stwEdge a1 a2 a3 a4) := by
  unfold stwEdge
  repeat' first
    | with_reducible exact Touch.refl _ _
    | ((with_reducible refine Eq.symm ?_); exact rfl)
    | with_reducible refine Touch.ite ?_ ?_
    | with_reducible apply Touch.via (State.setStwIn_touch _ _ _)
    | with_reducible apply Touch.via (State.setStwTrg_touch _ _ _)
    | with_reducible apply Touch.via (occur_touch _ _ _)
    | with_reducible refine Touch.sflag ?_ ?_
    | with_reducible refine Touch.forUpTo ?_ ?_
    | (simp only [Touch.mk_eq]; with_reducible refine TouchMk.intro ?_)
    | intro _
    | split
    | dsimp only

theorem fireChannel_touch (a1 : Nat) (a2 : Nat) (a3 : Bool) (a4 : State) : Touch 0x803aa000000000000000000000000000000060000000000000c000000000000080600000c220000000000000000000000000000400 a4 (fireChannel a1 a2 a3 a4) := by
  unfold fireChannel
  repeat' first
    | with_reducible exact Touch.refl _ _
    | ((with_reducible refine Eq.symm ?_); exact rfl)
    | with_reducible refine Touch.ite ?_ ?_
    | with_reducible apply Touch.via (traceFire_touch _ _ _ _ _ _)
    | with_reducible apply Touch.via (pulseCti_touch _ _)
    | with_reducible apply Touch.via (stwFunnel_touch _ _)
    | with_reducible apply Touch.via (raiseIrq_touch _ _)
    | with_reducible refine Touch.setReg ?_ ?_
    | with_reducible refine Touch.sf ?_ ?_
    | with_reducible refine Touch.bumpWrap ?_ ?_
    | with_reducible refine Touch.forEach ?_ ?_
    | with_reducible refine Touch.forUpTo ?_ ?_
    | (simp only [Touch.mk_eq]; with_reducible refine TouchMk.intro ?_)
    | intro _
    | split
    | dsimp only

theorem triggerFire_touch (a1 : Nat) (a2 : State) : Touch 0x803aa000000000000000000000000000000060000000000000c000000000000080600000c220000000000000000000000000000400 a2 (triggerFire a1 a2) := by
  unfold triggerFire
  repeat' first
    | with_reducible exact Touch.refl _ _
    | ((with_reducible refine Eq.symm ?_); exact rfl)
    | with_reducible apply Touch.via (State.setStwTrg_touch _ _ _)
    | with_reducible apply Touch.via (fireChannel_touch _ _ _ _)
    | (simp only [Touch.mk_eq]; with_reducible refine TouchMk.intro ?_)
    | split
    | dsimp only

theorem triggerTimeout_touch (a1 : Nat) (a2 : State) : Touch 0x20000000000000000000000000000000000000000000000000000000000000000000000000000000000000000000000000000000 a2 (triggerTimeout a1 a2) := by
  unfold triggerTimeout
  repeat' first
    | with_reducible exact Touch.refl _ _
    | ((with_reducible refine Eq.symm ?_); exact rfl)
    | with_reducible refine Touch.ite ?_ ?_
    | with_reducible apply Touch.via (occur_touch _ _ _)
    | with_reducible apply Touch.via (State.setStwTrg_touch _ _ _)
    | (simp only [Touch.mk_eq]; with_reducible refine TouchMk.intro ?_)

theorem instrLineRelease_touch (a1 : Nat) (a2 : Bool) (a3 : State) : Touch 0x20000000000000000000000000000000000000000000000000000000000000800000000000000000000000000000000000000000 a3 (instrLineRelease a1 a2 a3) := by
  unfold instrLineRelease
  repeat' first
    | with_reducible exact Touch.refl _ _
    | ((with_reducible refine Eq.symm ?_); exact rfl)
    | with_reducible refine Touch.ite ?_ ?_
    | with_reducible refine Touch.sf ?_ ?_
    | with_reducible refine Touch.sflag ?_ ?_
    | (simp only [Touch.mk_eq]; with_reducible refine TouchMk.intro ?_)
    | dsimp only

theorem instrLineEdge_touch (a1 : Nat) (a2 : Bool) (a3 : Nat) (a4 : State) : Touch 0x20000000000000000000000000000000000000000000000000000000000000800000000000000000000000000000000000000000 a4 (instrLineEdge a1 a2 a3 a4) := by
  unfold instrLineEdge
  repeat' first
    | with_reducible exact Touch.refl _ _
    | ((with_reducible refine Eq.symm ?_); exact rfl)
    | with_reducible refine Touch.ite ?_ ?_
    | with_reducible apply Touch.via (occur_touch _ _ _)
    | with_reducible refine Touch.sflag ?_ ?_
    | with_reducible refine Touch.forUpTo ?_ ?_
    | (simp only [Touch.mk_eq]; with_reducible refine TouchMk.intro ?_)
    | intro _
    | dsimp only

theorem stwInRefuse_touch (a1 : Requester) (a2 : Nat) (a3 : Nat) (a4 : State) : Touch 0x200000000000000000000000000a0000000000000000000c0000000000000000040000000000000000000000000000000000000 a4 (stwInRefuse a1 a2 a3 a4) := by
  unfold stwInRefuse
  repeat' first
    | with_reducible exact Touch.refl _ _
    | ((with_reducible refine Eq.symm ?_); exact rfl)
    | with_reducible apply Touch.via (logRefused_touch _ _ _ _ _)
    | with_reducible refine Touch.sf ?_ ?_

theorem stwInDeny_touch (a1 : Requester) (a2 : Nat) (a3 : Nat) (a4 : State) : Touch 0x400200000000000000000000000000a0000000000000000000c0000000000000000040000000000000000000000000000000000000 a4 (stwInDeny a1 a2 a3 a4) := by
  unfold stwInDeny
  repeat' first
    | with_reducible exact Touch.refl _ _
    | ((with_reducible refine Eq.symm ?_); exact rfl)
    | with_reducible apply Touch.via (denyWrite_touch _ _ _ _ _)
    | with_reducible refine Touch.sf ?_ ?_

theorem stwInEnable_touch (a1 : Requester) (a2 : Nat) (a3 : State) : Touch 0x400200000000000000000000000000a0000000000000000000c0000000000000000040000000000000000000000000000000000000 a3 (stwInEnable a1 a2 a3) := by
  unfold stwInEnable
  repeat' first
    | with_reducible exact Touch.refl _ _
    | ((with_reducible refine Eq.symm ?_); exact rfl)
    | with_reducible refine Touch.ite ?_ ?_
    | with_reducible apply Touch.via (stwInDeny_touch _ _ _ _)
    | with_reducible apply Touch.via (stwInRefuse_touch _ _ _ _)
    | with_reducible refine Touch.sf ?_ ?_

theorem stwInArm_touch (a1 : Requester) (a2 : Nat) (a3 : State) : Touch 0x402200000000000000000000000000a0000000000000000000c000000000004000004a800000000000000000000000000000000000 a3 (stwInArm a1 a2 a3) := by
  unfold stwInArm
  repeat' first
    | with_reducible exact Touch.refl _ _
    | ((with_reducible refine Eq.symm ?_); exact rfl)
    | with_reducible refine Touch.ite ?_ ?_
    | with_reducible apply Touch.via (stwInDeny_touch _ _ _ _)
    | with_reducible apply Touch.via (openRec_touch _ _ _ _)
    | with_reducible apply Touch.via (stwInRefuse_touch _ _ _ _)
    | with_reducible refine Touch.sf ?_ ?_

theorem stwInStop_touch (a1 : Requester) (a2 : Nat) (a3 : State) : Touch 0xc02a80000000000000000000000000a0000060000000000000c00000000000006000c0000000000000000000000000000000000000 a3 (stwInStop a1 a2 a3) := by
  unfold stwInStop
  repeat' first
    | with_reducible exact Touch.refl _ _
    | ((with_reducible refine Eq.symm ?_); exact rfl)
    | with_reducible refine Touch.ite ?_ ?_
    | with_reducible apply Touch.via (stwInDeny_touch _ _ _ _)
    | with_reducible apply Touch.via (closeRec_touch _ _ _ _)
    | with_reducible apply Touch.via (stwInRefuse_touch _ _ _ _)
    | with_reducible refine Touch.sf ?_ ?_

theorem stwInDisable_touch (a1 : Requester) (a2 : Nat) (a3 : State) : Touch 0x400200000000000000000000000000a0000000000000000000c0000000000000000040000000000000000000000000000000000000 a3 (stwInDisable a1 a2 a3) := by
  unfold stwInDisable
  repeat' first
    | with_reducible exact Touch.refl _ _
    | ((with_reducible refine Eq.symm ?_); exact rfl)
    | with_reducible refine Touch.ite ?_ ?_
    | with_reducible apply Touch.via (stwInDeny_touch _ _ _ _)
    | with_reducible apply Touch.via (stwInRefuse_touch _ _ _ _)
    | with_reducible refine Touch.sf ?_ ?_

theorem recordEnd_touch (a1 : Nat) (a2 : State) : Touch 0x80288000000000000000000000000000000060000000000000000000000000406000ca800000000000000000000000000000000000 a2 (recordEnd a1 a2) := by
  unfold recordEnd
  repeat' first
    | with_reducible exact Touch.refl _ _
    | ((with_reducible refine Eq.symm ?_); exact rfl)
    | with_reducible refine Touch.ite ?_ ?_
    | with_reducible apply Touch.via (closeRec_touch _ _ _ _)
    | with_reducible apply Touch.via (State.setStwIn_touch _ _ _)
    | with_reducible apply Touch.via (openRec_touch _ _ _ _)
    | with_reducible refine Touch.sf ?_ ?_
    | (simp only [Touch.mk_eq]; with_reducible refine TouchMk.intro ?_)
    | split
    | dsimp only

theorem stwTrgRefuse_touch (a1 : Requester) (a2 : Nat) (a3 : Nat) (a4 : State) : Touch 0x200000000000000000000000000a0000000000000000000c0000000000000002000000000000000000000000000000000000000 a4 (stwTrgRefuse a1 a2 a3 a4) := by
  unfold stwTrgRefuse
  repeat' first
    | with_reducible exact Touch.refl _ _
    | ((with_reducible refine Eq.symm ?_); exact rfl)
    | with_reducible apply Touch.via (logRefused_touch _ _ _ _ _)
    | with_reducible refine Touch.sf ?_ ?_

theorem stwTrgDeny_touch (a1 : Requester) (a2 : Nat) (a3 : Nat) (a4 : State) : Touch 0x400200000000000000000000000000a0000000000000000000c0000000000000002000000000000000000000000000000000000000 a4 (stwTrgDeny a1 a2 a3 a4) := by
  unfold stwTrgDeny
  repeat' first
    | with_reducible exact Touch.refl _ _
    | ((with_reducible refine Eq.symm ?_); exact rfl)
    | with_reducible apply Touch.via (denyWrite_touch _ _ _ _ _)
    | with_reducible refine Touch.sf ?_ ?_

theorem stwTrgArm_touch (a1 : Requester) (a2 : Nat) (a3 : State) : Touch 0x402200000000000000000000000000a0000000000000000000c0000000000000002000000000000000000000000000000000000000 a3 (stwTrgArm a1 a2 a3) := by
  unfold stwTrgArm
  repeat' first
    | with_reducible exact Touch.refl _ _
    | ((with_reducible refine Eq.symm ?_); exact rfl)
    | with_reducible refine Touch.ite ?_ ?_
    | with_reducible apply Touch.via (stwTrgDeny_touch _ _ _ _)
    | with_reducible apply Touch.via (State.setStwTrg_touch _ _ _)
    | with_reducible apply Touch.via (stwTrgRefuse_touch _ _ _ _)
    | with_reducible refine Touch.sf ?_ ?_

theorem stwTrgDisarm_touch (a1 : Requester) (a2 : Nat) (a3 : State) : Touch 0x402200000000000000000000000000a0000000000000000000c0000000000000002000000000000000000000000000000000000000 a3 (stwTrgDisarm a1 a2 a3) := by
  unfold stwTrgDisarm
  repeat' first
    | with_reducible exact Touch.refl _ _
    | ((with_reducible refine Eq.symm ?_); exact rfl)
    | with_reducible refine Touch.ite ?_ ?_
    | with_reducible apply Touch.via (stwTrgDeny_touch _ _ _ _)
    | with_reducible apply Touch.via (State.setStwTrg_touch _ _ _)
    | with_reducible apply Touch.via (stwTrgRefuse_touch _ _ _ _)
    | with_reducible refine Touch.sf ?_ ?_

theorem stwTrgForce_touch (a1 : Requester) (a2 : Nat) (a3 : State) : Touch 0xc03aa0000000000000000000000000a0000060000000000000c000000000000080600000c220000000000000000000000000000400 a3 (stwTrgForce a1 a2 a3) := by
  unfold stwTrgForce
  repeat' first
    | with_reducible exact Touch.refl _ _
    | ((with_reducible refine Eq.symm ?_); exact rfl)
    | with_reducible refine Touch.ite ?_ ?_
    | with_reducible apply Touch.via (stwTrgDeny_touch _ _ _ _)
    | with_reducible apply Touch.via (fireChannel_touch _ _ _ _)
    | with_reducible apply Touch.via (stwTrgRefuse_touch _ _ _ _)
    | with_reducible refine Touch.sf ?_ ?_

theorem calStatus_touch (a1 : Nat) (a2 : State) : Touch 0x40000000000000000000000000000000000000000 a2 (calStatus a1 a2) := by
  unfold calStatus
  repeat' first
    | with_reducible exact Touch.refl _ _
    | ((with_reducible refine Eq.symm ?_); exact rfl)
    | with_reducible refine Touch.ite ?_ ?_
    | with_reducible refine Touch.sf ?_ ?_

theorem calStart_touch (a1 : Requester) (a2 : State) : Touch 0x400200000000000000000000000000a0000000000000000000c0000000000000040000000000000000000000000000000000000000 a2 (calStart a1 a2) := by
  unfold calStart
  repeat' first
    | with_reducible exact Touch.refl _ _
    | ((with_reducible refine Eq.symm ?_); exact rfl)
    | with_reducible refine Touch.ite ?_ ?_
    | with_reducible apply Touch.via (denyWrite_touch _ _ _ _ _)
    | with_reducible apply Touch.via (logRefused_touch _ _ _ _ _)
    | with_reducible refine Touch.sf ?_ ?_

theorem calStop_touch (a1 : Requester) (a2 : State) : Touch 0x400200000000000000000000000000a0000000000000000000c0000000000000040000000000000000000000000000000000000000 a2 (calStop a1 a2) := by
  unfold calStop
  repeat' first
    | with_reducible exact Touch.refl _ _
    | ((with_reducible refine Eq.symm ?_); exact rfl)
    | with_reducible refine Touch.ite ?_ ?_
    | with_reducible apply Touch.via (denyWrite_touch _ _ _ _ _)
    | with_reducible apply Touch.via (logRefused_touch _ _ _ _ _)
    | with_reducible refine Touch.sf ?_ ?_

theorem tbLatch_touch (a1 : Requester) (a2 : State) : Touch 0x400200000000000000000000000000a0000000000000000000c000000000003e000000000000000000000000000000000000000000 a2 (tbLatch a1 a2) := by
  unfold tbLatch
  repeat' first
    | with_reducible exact Touch.refl _ _
    | ((with_reducible refine Eq.symm ?_); exact rfl)
    | with_reducible refine Touch.ite ?_ ?_
    | with_reducible apply Touch.via (denyWrite_touch _ _ _ _ _)
    | with_reducible apply Touch.via (okResp_touch _ _)
    | with_reducible refine Touch.setReg ?_ ?_

theorem attachTdc_touch (a1 : Nat) (a2 : Nat) (a3 : State) : Touch 0x20000000000000000000000000000000000000000000000000000000000040000040000000000000000000000000000000000000 a3 (attachTdc a1 a2 a3) := by
  unfold attachTdc
  repeat' first
    | with_reducible exact Touch.refl _ _
    | ((with_reducible refine Eq.symm ?_); exact rfl)
    | with_reducible refine Touch.ite ?_ ?_
    | with_reducible apply Touch.via (State.setStwIn_touch _ _ _)
    | with_reducible apply Touch.via (tdcSwap_touch _ _)

theorem retireTdc_touch (a1 : Nat) (a2 : State) : Touch 0x260000000000000000000000000140000000000000000000c0000000000040040040000000000000000000000000000000000000 a2 (retireTdc a1 a2) := by
  unfold retireTdc
  repeat' first
    | with_reducible exact Touch.refl _ _
    | ((with_reducible refine Eq.symm ?_); exact rfl)
    | with_reducible refine Touch.ite ?_ ?_
    | with_reducible apply Touch.via (report_touch _ _ _ _ _ _ _ _)
    | with_reducible apply Touch.via (State.setStwIn_touch _ _ _)
    | with_reducible apply Touch.via (attachTdc_touch _ _ _)
    | with_reducible apply Touch.via (calStatus_touch _ _)
    | with_reducible refine Touch.sf ?_ ?_
    | split
    | dsimp only

theorem setRot_touch (a1 : Nat) (a2 : Nat) (a3 : State) : Touch 0x20000000000000000000000000000000000000000000000000000000000000000000000000000000000000000000000000000000 a3 (setRot a1 a2 a3) := by
  unfold setRot
  repeat' first
    | with_reducible exact Touch.refl _ _
    | with_reducible refine Touch.ite ?_ ?_
    | (simp only [Touch.mk_eq]; with_reducible refine TouchMk.intro ?_)

theorem tdcHandover_touch (a1 : Nat) (a2 : Option Int) (a3 : State) : Touch 0x260000000000000000000000000140000000000000000000c0000000000040040040000000000000000000000000000000000000 a3 (tdcHandover a1 a2 a3) := by
  unfold tdcHandover
  repeat' first
    | with_reducible exact Touch.refl _ _
    | ((with_reducible refine Eq.symm ?_); exact rfl)
    | with_reducible refine Touch.ite ?_ ?_
    | with_reducible apply Touch.via (State.setStwIn_touch _ _ _)
    | with_reducible apply Touch.via (setRot_touch _ _ _)
    | with_reducible apply Touch.via (attachTdc_touch _ _ _)
    | with_reducible apply Touch.via (retireTdc_touch _ _)
    | with_reducible refine Touch.sf ?_ ?_
    | with_reducible refine Touch.bump ?_ ?_
    | with_reducible refine Touch.forUpTo ?_ ?_
    | intro _
    | split
    | dsimp only

theorem tdcCalDone_touch (a1 : Nat) (a2 : Bool) (a3 : State) : Touch 0x260000000000000000000000000140000000000000000000c0000000000040040040000000000000000000000000000000000000 a3 (tdcCalDone a1 a2 a3) := by
  unfold tdcCalDone
  repeat' first
    | with_reducible exact Touch.refl _ _
    | ((with_reducible refine Eq.symm ?_); exact rfl)
    | with_reducible refine Touch.ite ?_ ?_
    | with_reducible apply Touch.via (retireTdc_touch _ _)
    | with_reducible refine Touch.sf ?_ ?_
    | (simp only [Touch.mk_eq]; with_reducible refine TouchMk.intro ?_)

theorem tdcSelfCheckFail_touch (a1 : Nat) (a2 : State) : Touch 0x260000000000000000000000000140000000000000000000c0000000000040040040000000000000000000000000000000000000 a2 (tdcSelfCheckFail a1 a2) := by
  unfold tdcSelfCheckFail
  repeat' first
    | with_reducible exact Touch.refl _ _
    | ((with_reducible refine Eq.symm ?_); exact rfl)
    | with_reducible refine Touch.ite ?_ ?_
    | with_reducible apply Touch.via (retireTdc_touch _ _)

end Machine
end Sys2Proof
end

