-- ==== Sys2Proof/Laws/TouchLinks.lean ====
section
/-! SUPPORT. What each operation of Machine/Links.lean leaves alone. -/
set_option linter.unusedVariables false
set_option Elab.async false
namespace Sys2Proof
namespace Machine

theorem State.modLk_touch (a1 : State) (a2 : Nat) (a3 : LinkRec → LinkRec) : Touch 0x40000000000000000000000000000000000000000000000000000000000000000000000000000000000000000000000000000000 a1 (State.modLk a1 a2 a3) := by
  unfold State.modLk
  repeat' first
    | with_reducible exact Touch.refl _ _
    | (simp only [Touch.mk_eq]; with_reducible refine TouchMk.intro ?_)

theorem sendBlock_touch (a1 : Nat) (a2 : Nat) (a3 : Nat) (a4 : State) : Touch 0x40000000000000000000000000000000000000000000000000000000000000000000000000000000000000000000000000000000 a4 (sendBlock a1 a2 a3 a4) := by
  unfold sendBlock
  repeat' first
    | with_reducible exact Touch.refl _ _
    | (simp only [Touch.mk_eq]; with_reducible refine TouchMk.intro ?_)

theorem sendLink_touch (a1 : Nat) (a2 : Nat) (a3 : Nat) (a4 : State) : Touch 0x40000000000000000000000000000000000000000000000000000000000000000000000000000000000000000000000000000000 a4 (sendLink a1 a2 a3 a4) := by
  unfold sendLink
  repeat' first
    | with_reducible exact Touch.refl _ _
    | ((with_reducible refine Eq.symm ?_); exact rfl)
    | with_reducible apply Touch.via (sendBlock_touch _ _ _ _)

theorem State.setLst_touch (a1 : State) (a2 : Nat) (a3 : Nat) : Touch 0x2000000000000000000000000000000000000000000000 a1 (State.setLst a1 a2 a3) := by
  unfold State.setLst
  repeat' first
    | with_reducible exact Touch.refl _ _
    | ((with_reducible refine Eq.symm ?_); exact rfl)
    | with_reducible refine Touch.sf ?_ ?_

theorem setLanes_touch (a1 : Nat) (a2 : Nat) (a3 : State) : Touch 0x2000000000000000000000000000000000400000000000 a3 (setLanes a1 a2 a3) := by
  unfold setLanes
  repeat' first
    | with_reducible exact Touch.refl _ _
    | ((with_reducible refine Eq.symm ?_); exact rfl)
    | with_reducible refine Touch.ite ?_ ?_
    | with_reducible refine Touch.sf ?_ ?_

theorem clockRegs_touch (a1 : State) : Touch 0x20000000000000030000000000000000000000000000000c0000000000000000000000000000000000000000000000000000000 a1 (clockRegs a1) := by
  unfold clockRegs
  repeat' first
    | with_reducible exact Touch.refl _ _
    | ((with_reducible refine Eq.symm ?_); exact rfl)
    | with_reducible refine Touch.ite ?_ ?_
    | with_reducible apply Touch.via (raiseIrq_touch _ _)
    | with_reducible refine Touch.sf ?_ ?_
    | with_reducible refine Touch.sflag ?_ ?_
    | split

theorem sendDerate_touch (a1 : State) : Touch 0xc0000000000000000000000000000000000000000000000000000000000000000000000000000000000000000000000000000000 a1 (sendDerate a1) := by
  unfold sendDerate
  repeat' first
    | with_reducible exact Touch.refl _ _
    | ((with_reducible refine Eq.symm ?_); exact rfl)
    | with_reducible refine Touch.ite ?_ ?_
    | with_reducible apply Touch.via (sendLink_touch _ _ _ _)
    | with_reducible refine Touch.forUpTo ?_ ?_
    | (simp only [Touch.mk_eq]; with_reducible refine TouchMk.intro ?_)
    | intro _
    | split

theorem pwrState_touch (a1 : State) : Touch 0x200000000000000000000000000000000000000000000000000000000000000000000000000000000 a1 (pwrState a1) := by
  unfold pwrState
  repeat' first
    | with_reducible exact Touch.refl _ _
    | ((with_reducible refine Eq.symm ?_); exact rfl)
    | with_reducible refine Touch.ite ?_ ?_
    | with_reducible refine Touch.sf ?_ ?_

theorem reqClock_touch (a1 : State) : Touch 0xc20000000000000030000002000000000000000000000000c0000000000000000000000000000000000000000000000000000000 a1 (reqClock a1) := by
  unfold reqClock
  repeat' first
    | with_reducible exact Touch.refl _ _
    | ((with_reducible refine Eq.symm ?_); exact rfl)
    | with_reducible refine Touch.ite ?_ ?_
    | with_reducible apply Touch.via (pwrState_touch _)
    | with_reducible apply Touch.via (sendDerate_touch _)
    | with_reducible apply Touch.via (clockRegs_touch _)
    | with_reducible refine Touch.sf ?_ ?_
    | (simp only [Touch.mk_eq]; with_reducible refine TouchMk.intro ?_)

theorem capacity_touch (a1 : State) : Touch 0x26000000000000000000000000000000000000000000000c00000000000000000000000000000008a0000000004000000000000 a1 (capacity a1) := by
  unfold capacity
  repeat' first
    | with_reducible exact Touch.refl _ _
    | ((with_reducible refine Eq.symm ?_); exact rfl)
    | with_reducible refine Touch.ite ?_ ?_
    | with_reducible apply Touch.via (raiseLead_touch _ _ _ _)
    | with_reducible apply Touch.via (raiseFault_touch _ _ _ _ _)
    | with_reducible apply Touch.via (releaseItem_touch _ _ _ _ _)
    | with_reducible refine Touch.forEach ?_ ?_
    | with_reducible refine Touch.forUpTo ?_ ?_
    | intro _

theorem updLinks_touch (a1 : State) : Touch 0xc26000000000000030000002000000000000000000000000c00000000420000000000000000000008a0000000004400000000000 a1 (updLinks a1) := by
  unfold updLinks
  repeat' first
    | with_reducible exact Touch.refl _ _
    | ((with_reducible refine Eq.symm ?_); exact rfl)
    | with_reducible refine Touch.ite ?_ ?_
    | with_reducible apply Touch.via (State.setLst_touch _ _ _)
    | with_reducible apply Touch.via (reqClock_touch _)
    | with_reducible apply Touch.via (capacity_touch _)
    | with_reducible refine Touch.sf ?_ ?_
    | with_reducible refine Touch.sflag ?_ ?_
    | with_reducible refine Touch.forUpTo ?_ ?_
    | intro _

theorem stepClockChange_touch (a1 : State) : Touch 0x824000000000000030000000000000000000000000000000c0000000000000000000000000000000000000000004000000000000 a1 (stepClockChange a1) := by
  unfold stepClockChange
  repeat' first
    | with_reducible exact Touch.refl _ _
    | ((with_reducible refine Eq.symm ?_); exact rfl)
    | with_reducible refine Touch.ite ?_ ?_
    | with_reducible apply Touch.via (clockRegs_touch _)
    | with_reducible apply Touch.via (releaseCause_touch _ _ _)
    | with_reducible refine Touch.sf ?_ ?_
    | with_reducible refine Touch.forUpTo ?_ ?_
    | (simp only [Touch.mk_eq]; with_reducible refine TouchMk.intro ?_)
    | intro _

theorem clkchgExpiry_touch (a1 : State) : Touch 0x220440000000000000000000000000000000000000000000000000000000000000000000000000000000000000004000000000000 a1 (clkchgExpiry a1) := by
  unfold clkchgExpiry
  repeat' first
    | with_reducible exact Touch.refl _ _
    | ((with_reducible refine Eq.symm ?_); exact rfl)
    | with_reducible refine Touch.ite ?_ ?_
    | with_reducible apply Touch.via (advanceTo_touch _ _)
    | with_reducible apply Touch.via (raiseLead_touch _ _ _ _)
    | with_reducible refine Touch.forUpTo ?_ ?_
    | intro _

theorem stepPllLock_touch (a1 : State) : Touch 0x80000000000000000000000000000000000000000000000000000000000000000000000000000000000000000000000000000000 a1 (stepPllLock a1) := by
  unfold stepPllLock
  repeat' first
    | with_reducible exact Touch.refl _ _
    | with_reducible refine Touch.ite ?_ ?_
    | (simp only [Touch.mk_eq]; with_reducible refine TouchMk.intro ?_)

theorem stepTargetWrite_touch (a1 : Requester) (a2 : Nat) (a3 : State) : Touch 0x40c200000000000000380000020000a0000000000000000000c0000000000000000000000000000000000000000000000000000000 a3 (stepTargetWrite a1 a2 a3) := by
  unfold stepTargetWrite
  repeat' first
    | with_reducible exact Touch.refl _ _
    | ((with_reducible refine Eq.symm ?_); exact rfl)
    | with_reducible refine Touch.ite ?_ ?_
    | with_reducible apply Touch.via (denyWrite_touch _ _ _ _ _)
    | with_reducible apply Touch.via (okResp_touch _ _)
    | with_reducible apply Touch.via (reqClock_touch _)
    | with_reducible refine Touch.sf ?_ ?_

theorem laneReport_touch (a1 : Nat) (a2 : Nat) (a3 : State) : Touch 0x60000000000000000000000000140000000000000000000c0000000000000000000000000000000000000000000000000000000 a3 (laneReport a1 a2 a3) := by
  unfold laneReport
  repeat' first
    | with_reducible exact Touch.refl _ _
    | ((with_reducible refine Eq.symm ?_); exact rfl)
    | with_reducible refine Touch.ite ?_ ?_
    | with_reducible apply Touch.via (report_touch _ _ _ _ _ _ _ _)

theorem laneDown_touch (a1 : Nat) (a2 : Nat) (a3 : State) : Touch 0xc66000000000000030000002000140000000000000000000c00000000420000000000000000000008a0000000004400000000000 a3 (laneDown a1 a2 a3) := by
  unfold laneDown
  repeat' first
    | with_reducible exact Touch.refl _ _
    | ((with_reducible refine Eq.symm ?_); exact rfl)
    | with_reducible apply Touch.via (laneReport_touch _ _ _)
    | with_reducible apply Touch.via (updLinks_touch _)
    | with_reducible apply Touch.via (setLanes_touch _ _ _)

theorem spareTakes_touch (a1 : Nat) (a2 : Nat) (a3 : State) : Touch 0x60000000000000000000000000140000000000000000000c0000000082000000000000000000000000000000000000000000000 a3 (spareTakes a1 a2 a3) := by
  unfold spareTakes
  repeat' first
    | with_reducible exact Touch.refl _ _
    | ((with_reducible refine Eq.symm ?_); exact rfl)
    | with_reducible apply Touch.via (laneReport_touch _ _ _)
    | with_reducible refine Touch.sf ?_ ?_

theorem renumber_touch (a1 : Nat) (a2 : State) : Touch 0x80000000000000000000000000000000000000000000000 a2 (renumber a1 a2) := by
  unfold renumber
  repeat' first
    | with_reducible exact Touch.refl _ _
    | ((with_reducible refine Eq.symm ?_); exact rfl)
    | with_reducible refine Touch.sf ?_ ?_
    | with_reducible refine Touch.foldlSnd ?_ ?_
    | intro _
    | split

theorem startRetrain_touch (a1 : Nat) (a2 : State) : Touch 0x40000000000000000000000000000000000000000000000000000000002000000000000000000000000000000000000000000000 a2 (startRetrain a1 a2) := by
  unfold startRetrain
  repeat' first
    | with_reducible exact Touch.refl _ _
    | ((with_reducible refine Eq.symm ?_); exact rfl)
    | with_reducible apply Touch.via (State.modLk_touch _ _ _)
    | with_reducible apply Touch.via (State.setLst_touch _ _ _)
    | with_reducible refine Touch.sf ?_ ?_

theorem raisePortLate_touch (a1 : Nat) (a2 : Nat) (a3 : Nat) (a4 : State) : Touch 0x40600000000000000000000000000000000000000000000000000000000c00000000000000000000000000000084000000000000 a4 (raisePortLate a1 a2 a3 a4) := by
  unfold raisePortLate
  repeat' first
    | with_reducible exact Touch.refl _ _
    | ((with_reducible refine Eq.symm ?_); exact rfl)
    | with_reducible refine Touch.ite ?_ ?_
    | with_reducible apply Touch.via (State.modLk_touch _ _ _)
    | with_reducible apply Touch.via (raiseLate_touch _ _ _ _ _ _ _ _)
    | with_reducible refine Touch.bump ?_ ?_

theorem raiseBridge_touch (a1 : Nat) (a2 : Nat) (a3 : Nat) (a4 : State) : Touch 0x600000000000000000000000000000000000000000000000000000000000000000000000000000000000000084000000000000 a4 (raiseBridge a1 a2 a3 a4) := by
  unfold raiseBridge
  repeat' first
    | with_reducible exact Touch.refl _ _
    | ((with_reducible refine Eq.symm ?_); exact rfl)
    | with_reducible refine Touch.ite ?_ ?_
    | with_reducible apply Touch.via (raiseLate_touch _ _ _ _ _ _ _ _)
    | with_reducible refine Touch.forUpTo ?_ ?_
    | intro _

theorem laneLock_touch (a1 : Nat) (a2 : Nat) (a3 : State) : Touch 0x80000000000000000000000000000000000000000000000 a3 (laneLock a1 a2 a3) := by
  unfold laneLock
  repeat' first
    | with_reducible exact Touch.refl _ _
    | ((with_reducible refine Eq.symm ?_); exact rfl)
    | with_reducible refine Touch.sf ?_ ?_

theorem laneLoss_touch (a1 : Nat) (a2 : Nat) (a3 : State) : Touch 0xc66000000000000030000002000140000000000000000000c00000000c20000000000000000000008a0000000004400000000000 a3 (laneLoss a1 a2 a3) := by
  unfold laneLoss
  repeat' first
    | with_reducible exact Touch.refl _ _
    | ((with_reducible refine Eq.symm ?_); exact rfl)
    | with_reducible refine Touch.ite ?_ ?_
    | with_reducible apply Touch.via (State.modLk_touch _ _ _)
    | with_reducible apply Touch.via (laneDown_touch _ _ _)
    | with_reducible refine Touch.sf ?_ ?_

theorem linkRemap_touch (a1 : Nat) (a2 : State) : Touch 0xc66000000000000030000002000140000000000000000000c00000000c20000000000000000000008a0000000004400000000000 a2 (linkRemap a1 a2) := by
  unfold linkRemap
  repeat' first
    | with_reducible exact Touch.refl _ _
    | ((with_reducible refine Eq.symm ?_); exact rfl)
    | with_reducible refine Touch.ite ?_ ?_
    | with_reducible apply Touch.via (State.modLk_touch _ _ _)
    | with_reducible apply Touch.via (sendLink_touch _ _ _ _)
    | with_reducible apply Touch.via (spareTakes_touch _ _ _)
    | with_reducible apply Touch.via (renumber_touch _ _)
    | with_reducible apply Touch.via (laneDown_touch _ _ _)
    | split

theorem startOver_touch (a1 : Nat) (a2 : Nat) (a3 : State) : Touch 0x40000000000000000000000000000000000000000000000000000000000000000000000000000000000000000000000000000000 a3 (startOver a1 a2 a3) := by
  unfold startOver
  repeat' first
    | with_reducible exact Touch.refl _ _
    | ((with_reducible refine Eq.symm ?_); exact rfl)
    | with_reducible apply Touch.via (sendLink_touch _ _ _ _)
    | with_reducible apply Touch.via (State.modLk_touch _ _ _)

theorem amRow_touch (a1 : Nat) (a2 : Nat) (a3 : List (Prod Nat Nat)) (a4 : Nat) (a5 : State) : Touch 0xc66000000000000030000002000140000000000000000000c00000001c60000000000000000000008a0000000004400000000000 a5 (amRow a1 a2 a3 a4 a5) := by
  unfold amRow
  repeat' first
    | with_reducible exact Touch.refl _ _
    | ((with_reducible refine Eq.symm ?_); exact rfl)
    | with_reducible refine Touch.ite ?_ ?_
    | with_reducible apply Touch.via (State.modLk_touch _ _ _)
    | with_reducible apply Touch.via (spareTakes_touch _ _ _)
    | with_reducible apply Touch.via (startOver_touch _ _ _)
    | with_reducible apply Touch.via (laneLoss_touch _ _ _)
    | with_reducible refine Touch.setReg ?_ ?_
    | with_reducible refine Touch.sf ?_ ?_
    | with_reducible refine Touch.bump ?_ ?_
    | with_reducible refine Touch.forUpTo ?_ ?_
    | intro _
    | split

theorem trainLanes_touch (a1 : Nat) (a2 : State) : Touch 0x40000000000000000000000000000000000000000000000000000000082000000000000000000000000000000000400000000000 a2 (trainLanes a1 a2) := by
  unfold trainLanes
  repeat' first
    | with_reducible exact Touch.refl _ _
    | ((with_reducible refine Eq.symm ?_); exact rfl)
    | with_reducible apply Touch.via (renumber_touch _ _)
    | with_reducible apply Touch.via (setLanes_touch _ _ _)
    | with_reducible apply Touch.via (State.modLk_touch _ _ _)
    | with_reducible refine Touch.sf ?_ ?_
    | with_reducible refine Touch.sflag ?_ ?_
    | with_reducible refine Touch.forUpTo ?_ ?_
    | intro _

theorem latFaults_touch (a1 : Nat) (a2 : State) : Touch 0x22000000000000000000000000000000000000000000000c00000000000000000000000000000008a0000000000000000000000 a2 (latFaults a1 a2) := by
  unfold latFaults
  repeat' first
    | with_reducible exact Touch.refl _ _
    | ((with_reducible refine Eq.symm ?_); exact rfl)
    | with_reducible apply Touch.via (raiseFault_touch _ _ _ _ _)
    | with_reducible refine Touch.forEach ?_ ?_
    | intro _

theorem showLat_touch (a1 : Nat) (a2 : State) : Touch 0x40000000000000000000000000000000000000000000000 a2 (showLat a1 a2) := by
  unfold showLat
  repeat' first
    | with_reducible exact Touch.refl _ _
    | ((with_reducible refine Eq.symm ?_); exact rfl)
    | with_reducible refine Touch.sf ?_ ?_
    | split

theorem measureDone_touch (a1 : Nat) (a2 : Nat) (a3 : State) : Touch 0x40000000000000000000000000000000000008000000000000000000040000000000000000000000000000000000000000000000 a3 (measureDone a1 a2 a3) := by
  unfold measureDone
  repeat' first
    | with_reducible exact Touch.refl _ _
    | ((with_reducible refine Eq.symm ?_); exact rfl)
    | with_reducible refine Touch.ite ?_ ?_
    | with_reducible apply Touch.via (showLat_touch _ _)
    | with_reducible apply Touch.via (State.modLk_touch _ _ _)
    | with_reducible refine Touch.sf ?_ ?_

theorem trainingPhaseDone_touch (a1 : Nat) (a2 : Nat) (a3 : State) : Touch 0xc26000000000000030000002000000000000080000000000c00000000c20000000000000000000008a0000000004400000000000 a3 (trainingPhaseDone a1 a2 a3) := by
  unfold trainingPhaseDone
  repeat' first
    | with_reducible exact Touch.refl _ _
    | ((with_reducible refine Eq.symm ?_); exact rfl)
    | with_reducible refine Touch.ite ?_ ?_
    | with_reducible apply Touch.via (trainLanes_touch _ _)
    | with_reducible apply Touch.via (updLinks_touch _)
    | with_reducible apply Touch.via (State.modLk_touch _ _ _)
    | with_reducible apply Touch.via (State.setLst_touch _ _ _)
    | with_reducible apply Touch.via (latFaults_touch _ _)
    | with_reducible apply Touch.via (measureDone_touch _ _ _)
    | with_reducible refine Touch.sf ?_ ?_
    | split
    | dsimp only

theorem trainingTimeout_touch (a1 : Nat) (a2 : State) : Touch 0x40000000000000000000000000000000000000000000000000000000002000000000000000000000000000000000000000000000 a2 (trainingTimeout a1 a2) := by
  unfold trainingTimeout
  repeat' first
    | with_reducible exact Touch.refl _ _
    | ((with_reducible refine Eq.symm ?_); exact rfl)
    | with_reducible refine Touch.ite ?_ ?_
    | with_reducible apply Touch.via (State.modLk_touch _ _ _)
    | with_reducible refine Touch.sf ?_ ?_

theorem startTraining_touch (a1 : Nat) (a2 : Nat) (a3 : State) : Touch 0x40000000000000000000000000000000000000000000000000000000002100000000000000000000000000000000000000000000 a3 (startTraining a1 a2 a3) := by
  unfold startTraining
  repeat' first
    | with_reducible exact Touch.refl _ _
    | ((with_reducible refine Eq.symm ?_); exact rfl)
    | with_reducible refine Touch.ite ?_ ?_
    | with_reducible apply Touch.via (State.modLk_touch _ _ _)
    | with_reducible apply Touch.via (State.setLst_touch _ _ _)
    | with_reducible refine Touch.sf ?_ ?_

theorem linkRefuse_touch (a1 : Requester) (a2 : Nat) (a3 : Nat) (a4 : State) : Touch 0x200000000000000000000000000a0000000000000000000c0000000002000000000000000000000000000000000000000000000 a4 (linkRefuse a1 a2 a3 a4) := by
  unfold linkRefuse
  repeat' first
    | with_reducible exact Touch.refl _ _
    | ((with_reducible refine Eq.symm ?_); exact rfl)
    | with_reducible apply Touch.via (logRefused_touch _ _ _ _ _)
    | with_reducible refine Touch.sf ?_ ?_

theorem linkCmd_touch {w : Nat} (hw : Nat.lor 0x400200000000000000000000000000a0000000000000000000c0000000002000000000000000000000000000000000000000000000 w = w) (a1 : Requester) (a2 : Nat) (a3 : Nat) (a4 : Bool) (a5 : State → State) (a6 : State) (ha5 : ∀  t, Touch w t (a5  t)) : Touch w a6 (linkCmd a1 a2 a3 a4 a5 a6) := by
  unfold linkCmd
  repeat' first
    | with_reducible exact Touch.refl _ _
    | with_reducible refine Touch.ite ?_ ?_
    | exact Touch.sub (by rfl) hw
    | exact Touch.bit hw (by rfl)
    | with_reducible apply Touch.after (ha5 _)
    | with_reducible apply Touch.via (denyWrite_touch _ _ _ _ _)
    | with_reducible apply Touch.via (okResp_touch _ _)
    | with_reducible apply Touch.via (linkRefuse_touch _ _ _ _)
    | with_reducible refine Touch.sf ?_ ?_

theorem linkEnable_touch (a1 : Requester) (a2 : Nat) (a3 : State) : Touch 0x404200000000000000000000000000a0000000000000000000c0000000002100000000000000000000000000000000000000000000 a3 (linkEnable a1 a2 a3) := by
  unfold linkEnable
  repeat' first
    | with_reducible exact Touch.refl _ _
    | ((with_reducible refine Eq.symm ?_); exact rfl)
    | with_reducible apply Touch.after (linkCmd_touch ?_ _ _ _ _ _ _ ?_)
    | with_reducible apply Touch.via (startTraining_touch _ _ _)
    | intro _

theorem linkDisable_touch (a1 : Requester) (a2 : Nat) (a3 : State) : Touch 0x404200000000000000000000000000a0000000000000000000c0000000002000000000000000000000000000000000000000000000 a3 (linkDisable a1 a2 a3) := by
  unfold linkDisable
  repeat' first
    | with_reducible exact Touch.refl _ _
    | ((with_reducible refine Eq.symm ?_); exact rfl)
    | with_reducible apply Touch.after (linkCmd_touch ?_ _ _ _ _ _ _ ?_)
    | with_reducible apply Touch.via (State.modLk_touch _ _ _)
    | with_reducible apply Touch.via (State.setLst_touch _ _ _)
    | intro _

theorem linkRetrain_touch (a1 : Requester) (a2 : Nat) (a3 : State) : Touch 0x404200000000000000000000000000a0000000000000000000c0000000002000000000000000000000000000000000000000000000 a3 (linkRetrain a1 a2 a3) := by
  unfold linkRetrain
  repeat' first
    | with_reducible exact Touch.refl _ _
    | ((with_reducible refine Eq.symm ?_); exact rfl)
    | with_reducible apply Touch.after (linkCmd_touch ?_ _ _ _ _ _ _ ?_)
    | with_reducible apply Touch.via (startRetrain_touch _ _)
    | intro _

theorem linkNap_touch (a1 : Requester) (a2 : Nat) (a3 : State) : Touch 0x400200000000000000000000000000a0000000000000000000c0000000002000000000000000000000000000000000000000000000 a3 (linkNap a1 a2 a3) := by
  unfold linkNap
  repeat' first
    | with_reducible exact Touch.refl _ _
    | ((with_reducible refine Eq.symm ?_); exact rfl)
    | with_reducible apply Touch.after (linkCmd_touch ?_ _ _ _ _ _ _ ?_)
    | with_reducible apply Touch.via (State.setLst_touch _ _ _)
    | intro _

theorem linkRecess_touch (a1 : Requester) (a2 : Nat) (a3 : State) : Touch 0x404200000000000000000000000000a0000000000000000000c0000000002000000000000000000000000000000000000000000000 a3 (linkRecess a1 a2 a3) := by
  unfold linkRecess
  repeat' first
    | with_reducible exact Touch.refl _ _
    | ((with_reducible refine Eq.symm ?_); exact rfl)
    | with_reducible apply Touch.after (linkCmd_touch ?_ _ _ _ _ _ _ ?_)
    | with_reducible apply Touch.via (State.modLk_touch _ _ _)
    | with_reducible apply Touch.via (State.setLst_touch _ _ _)
    | intro _

theorem wakeLink_touch (a1 : Nat) (a2 : State) : Touch 0x40000000000000000000000000000000000000000000000000000000002100000000000000000000000000000000000000000000 a2 (wakeLink a1 a2) := by
  unfold wakeLink
  repeat' first
    | with_reducible exact Touch.refl _ _
    | ((with_reducible refine Eq.symm ?_); exact rfl)
    | with_reducible refine Touch.ite ?_ ?_
    | with_reducible apply Touch.via (State.modLk_touch _ _ _)
    | with_reducible apply Touch.via (startTraining_touch _ _ _)

theorem linkWake_touch (a1 : Requester) (a2 : Nat) (a3 : State) : Touch 0x404200000000000000000000000000a0000000000000000000c0000000002100000000000000000000000000000000000000000000 a3 (linkWake a1 a2 a3) := by
  unfold linkWake
  repeat' first
    | with_reducible exact Touch.refl _ _
    | ((with_reducible refine Eq.symm ?_); exact rfl)
    | with_reducible apply Touch.after (linkCmd_touch ?_ _ _ _ _ _ _ ?_)
    | with_reducible apply Touch.via (wakeLink_touch _ _)
    | intro _

theorem linkLoopback_touch (a1 : Requester) (a2 : Nat) (a3 : Nat) (a4 : Bool) (a5 : State) : Touch 0x404200000000000000000000000000a0000000000000000000c0000000002000000000000000000000000000000000000000000000 a5 (linkLoopback a1 a2 a3 a4 a5) := by
  unfold linkLoopback
  repeat' first
    | with_reducible exact Touch.refl _ _
    | ((with_reducible refine Eq.symm ?_); exact rfl)
    | with_reducible apply Touch.after (linkCmd_touch ?_ _ _ _ _ _ _ ?_)
    | with_reducible apply Touch.via (State.modLk_touch _ _ _)
    | with_reducible apply Touch.via (State.setLst_touch _ _ _)
    | intro _

theorem linkLbEnd_touch (a1 : Requester) (a2 : Nat) (a3 : State) : Touch 0x404200000000000000000000000000a0000000000000000000c0000000002000000000000000000000000000000000000000000000 a3 (linkLbEnd a1 a2 a3) := by
  unfold linkLbEnd
  repeat' first
    | with_reducible exact Touch.refl _ _
    | ((with_reducible refine Eq.symm ?_); exact rfl)
    | with_reducible apply Touch.after (linkCmd_touch ?_ _ _ _ _ _ _ ?_)
    | with_reducible apply Touch.via (State.modLk_touch _ _ _)
    | with_reducible apply Touch.via (State.setLst_touch _ _ _)
    | intro _

theorem linkSpareCmd_touch (a1 : Requester) (a2 : Nat) (a3 : Nat) (a4 : State) : Touch 0x404200000000000000000000000000a0000000000000000000c0000000002000000000000000000000000000000000000000000000 a4 (linkSpareCmd a1 a2 a3 a4) := by
  unfold linkSpareCmd
  repeat' first
    | with_reducible exact Touch.refl _ _
    | ((with_reducible refine Eq.symm ?_); exact rfl)
    | with_reducible apply Touch.after (linkCmd_touch ?_ _ _ _ _ _ _ ?_)
    | with_reducible apply Touch.via (startOver_touch _ _ _)
    | intro _

theorem napIdle_touch (a1 : Nat) (a2 : State) : Touch 0x2000000000000000000000000000000000000000000000 a2 (napIdle a1 a2) := by
  unfold napIdle
  repeat' first
    | with_reducible exact Touch.refl _ _
    | ((with_reducible refine Eq.symm ?_); exact rfl)
    | with_reducible refine Touch.ite ?_ ?_
    | with_reducible apply Touch.via (State.setLst_touch _ _ _)

theorem napExitDone_touch (a1 : Nat) (a2 : Nat) (a3 : State) : Touch 0xc26000000000000030000002000000000000000000000000c00000000c20000000000000000000008a0000000004400000000000 a3 (napExitDone a1 a2 a3) := by
  unfold napExitDone
  repeat' first
    | with_reducible exact Touch.refl _ _
    | ((with_reducible refine Eq.symm ?_); exact rfl)
    | with_reducible refine Touch.ite ?_ ?_
    | with_reducible apply Touch.via (updLinks_touch _)
    | with_reducible apply Touch.via (State.modLk_touch _ _ _)
    | with_reducible apply Touch.via (State.setLst_touch _ _ _)
    | with_reducible apply Touch.via (startRetrain_touch _ _)
    | with_reducible refine Touch.sf ?_ ?_
    | with_reducible refine Touch.forEach ?_ ?_
    | intro _

theorem replayFailed_touch (a1 : Nat) (a2 : State) : Touch 0x40000000000000000000000000000000000000000000000000000000002000000000000000000000000000000000000000000000 a2 (replayFailed a1 a2) := by
  unfold replayFailed
  repeat' first
    | with_reducible exact Touch.refl _ _
    | ((with_reducible refine Eq.symm ?_); exact rfl)
    | with_reducible refine Touch.ite ?_ ?_
    | with_reducible apply Touch.via (startRetrain_touch _ _)

theorem chainData_touch (a1 : Nat) (a2 : List Nat) (a3 : State) : Touch 0x40600000000000000000000000000000000000000000000000000000000000000000000000000000000000000004000000000000 a3 (chainData a1 a2 a3) := by
  unfold chainData
  repeat' first
    | with_reducible exact Touch.refl _ _
    | ((with_reducible refine Eq.symm ?_); exact rfl)
    | with_reducible refine Touch.ite ?_ ?_
    | with_reducible apply Touch.via (State.modLk_touch _ _ _)
    | with_reducible apply Touch.via (lateItem_touch _ _ _ _ _)
    | with_reducible refine Touch.foldl ?_ ?_
    | intro _
    | split
    | dsimp only

theorem crcBlock_touch (a1 : Nat) (a2 : Nat) (a3 : Bool) (a4 : List Nat) (a5 : State) : Touch 0x40600000000000000000000000000000000000000000000000000000022c00000000000000000000000000000084000000000000 a5 (crcBlock a1 a2 a3 a4 a5) := by
  unfold crcBlock
  repeat' first
    | with_reducible exact Touch.refl _ _
    | ((with_reducible refine Eq.symm ?_); exact rfl)
    | with_reducible refine Touch.ite ?_ ?_
    | with_reducible apply Touch.via (State.modLk_touch _ _ _)
    | with_reducible apply Touch.via (replayFailed_touch _ _)
    | with_reducible apply Touch.via (sendBlock_touch _ _ _ _)
    | with_reducible apply Touch.via (raisePortLate_touch _ _ _ _)
    | with_reducible apply Touch.via (chainData_touch _ _ _)
    | with_reducible refine Touch.bump ?_ ?_
    | split
    | dsimp only

theorem replayMsg_touch (a1 : Nat) (a2 : Nat) (a3 : State) : Touch 0x40000000000000000000000000000000000000000000000000000000022000000000000000000000000000000000000000000000 a3 (replayMsg a1 a2 a3) := by
  unfold replayMsg
  repeat' first
    | with_reducible exact Touch.refl _ _
    | ((with_reducible refine Eq.symm ?_); exact rfl)
    | with_reducible refine Touch.ite ?_ ?_
    | with_reducible apply Touch.via (replayFailed_touch _ _)
    | with_reducible apply Touch.via (State.modLk_touch _ _ _)
    | with_reducible refine Touch.bump ?_ ?_

theorem replayTimeout_touch (a1 : Nat) (a2 : State) : Touch 0x40000000000000000000000000000000000000000000000000000000002000000000000000000000000000000000000000000000 a2 (replayTimeout a1 a2) := by
  unfold replayTimeout
  repeat' first
    | with_reducible exact Touch.refl _ _
    | ((with_reducible refine Eq.symm ?_); exact rfl)
    | with_reducible refine Touch.ite ?_ ?_
    | with_reducible apply Touch.via (replayFailed_touch _ _)
    | with_reducible apply Touch.via (State.modLk_touch _ _ _)

theorem checkFrame_touch (a1 : Nat) (a2 : Nat) (a3 : Nat) (a4 : Nat) (a5 : Nat) (a6 : Nat) (a7 : Option (Prod Nat Nat)) (a8 : State) : Touch 0x804ae000000000000000000000000000000060000000000000c00000000220000000000000000000008a00000001bc800000000400 a8 (checkFrame a1 a2 a3 a4 a5 a6 a7 a8) := by
  unfold checkFrame
  repeat' first
    | with_reducible exact Touch.refl _ _
    | ((with_reducible refine Eq.symm ?_); exact rfl)
    | with_reducible refine Touch.ite ?_ ?_
    | with_reducible apply Touch.via (raiseBridge_touch _ _ _ _)
    | with_reducible apply Touch.via (State.modLk_touch _ _ _)
    | with_reducible apply Touch.via (replayFailed_touch _ _)
    | with_reducible apply Touch.via (bridgeWord_touch _ _ _ _)
    | with_reducible refine Touch.sf ?_ ?_
    | with_reducible refine Touch.bump ?_ ?_
    | with_reducible refine Touch.forUpTo ?_ ?_
    | intro _
    | split

theorem linkCap_touch (a1 : Nat) (a2 : Nat) (a3 : Nat) (a4 : Nat) (a5 : Nat) (a6 : Nat) (a7 : State) : Touch 0x40000000000000000000000000000000000000000000000000000000000200000000000000000000000000000000000000000000 a7 (linkCap a1 a2 a3 a4 a5 a6 a7) := by
  unfold linkCap
  repeat' first
    | with_reducible exact Touch.refl _ _
    | ((with_reducible refine Eq.symm ?_); exact rfl)
    | with_reducible refine Touch.ite ?_ ?_
    | with_reducible apply Touch.via (State.modLk_touch _ _ _)
    | with_reducible refine Touch.sf ?_ ?_

theorem linkId_touch (a1 : Nat) (a2 : Nat) (a3 : State) : Touch 0x40000000000000000000000000000000000000000000000000000000000000000000000000000000000000000000000000000000 a3 (linkId a1 a2 a3) := by
  unfold linkId
  repeat' first
    | with_reducible exact Touch.refl _ _
    | ((with_reducible refine Eq.symm ?_); exact rfl)
    | with_reducible apply Touch.via (State.modLk_touch _ _ _)

theorem linkEpoch_touch (a1 : Nat) (a2 : Nat) (a3 : State) : Touch 0x200000000000000000000000000000000000000000000 a3 (linkEpoch a1 a2 a3) := by
  unfold linkEpoch
  repeat' first
    | with_reducible exact Touch.refl _ _
    | ((with_reducible refine Eq.symm ?_); exact rfl)
    | with_reducible refine Touch.sf ?_ ?_

theorem setDist_touch (a1 : Nat) (a2 : State) : Touch 0x40000000000000000000000000000000000000000000000000000000000100000000000000000000000000000000000000000000 a2 (setDist a1 a2) := by
  unfold setDist
  repeat' first
    | with_reducible exact Touch.refl _ _
    | ((with_reducible refine Eq.symm ?_); exact rfl)
    | with_reducible refine Touch.ite ?_ ?_
    | with_reducible apply Touch.via (sendLink_touch _ _ _ _)
    | with_reducible refine Touch.sf ?_ ?_
    | with_reducible refine Touch.sflag ?_ ?_
    | with_reducible refine Touch.forEach ?_ ?_
    | intro _

theorem linkDist_touch (a1 : Nat) (a2 : Nat) (a3 : State) : Touch 0x40000000000000000000000000000000000000000000000000000000000100000000000000000000000000000000000000000000 a3 (linkDist a1 a2 a3) := by
  unfold linkDist
  repeat' first
    | with_reducible exact Touch.refl _ _
    | ((with_reducible refine Eq.symm ?_); exact rfl)
    | with_reducible apply Touch.via (State.modLk_touch _ _ _)
    | with_reducible apply Touch.via (setDist_touch _ _)
    | split
    | dsimp only

theorem linkDerate_touch (a1 : Nat) (a2 : Nat) (a3 : State) : Touch 0xc26000000000000030000002000000000000000000000000c00000000421000000000000000000008a0000000004400000000000 a3 (linkDerate a1 a2 a3) := by
  unfold linkDerate
  repeat' first
    | with_reducible exact Touch.refl _ _
    | ((with_reducible refine Eq.symm ?_); exact rfl)
    | with_reducible apply Touch.via (updLinks_touch _)
    | with_reducible refine Touch.sf ?_ ?_

theorem linkSpare_touch (a1 : Nat) (a2 : Nat) (a3 : State) : Touch 0x40000000000000000000000000000000000000000000000000000000080000000000000000000000000000000000000000000000 a3 (linkSpare a1 a2 a3) := by
  unfold linkSpare
  repeat' first
    | with_reducible exact Touch.refl _ _
    | ((with_reducible refine Eq.symm ?_); exact rfl)
    | with_reducible refine Touch.ite ?_ ?_
    | with_reducible apply Touch.via (State.modLk_touch _ _ _)
    | with_reducible refine Touch.sf ?_ ?_

theorem linkProbe_touch (a1 : Nat) (a2 : Nat) (a3 : State) : Touch 0x40000000000000000000000000000000000000000000000000000000000000000000000000000000000000000000000000000000 a3 (linkProbe a1 a2 a3) := by
  unfold linkProbe
  repeat' first
    | with_reducible exact Touch.refl _ _
    | ((with_reducible refine Eq.symm ?_); exact rfl)
    | with_reducible apply Touch.via (sendLink_touch _ _ _ _)

theorem linkEcho_touch (a1 : Nat) (a2 : Nat) (a3 : State) : Touch 0x40000000000000000000000000000000000000000000000000000000000000000000000000000000000000000000000000000000 a3 (linkEcho a1 a2 a3) := by
  unfold linkEcho
  repeat' first
    | with_reducible exact Touch.refl _ _
    | ((with_reducible refine Eq.symm ?_); exact rfl)
    | with_reducible refine Touch.ite ?_ ?_
    | with_reducible apply Touch.via (State.modLk_touch _ _ _)

theorem linkSkip_touch (a1 : Nat) (a2 : State) : Touch 0x2000000000000000000000000000000000000000000000 a2 (linkSkip a1 a2) := by
  unfold linkSkip
  repeat' first
    | with_reducible exact Touch.refl _ _
    | ((with_reducible refine Eq.symm ?_); exact rfl)
    | with_reducible refine Touch.sf ?_ ?_

theorem linkFcfg_touch (a1 : Nat) (a2 : State) : Touch 0x40000000000000000000000000000000000000000000000000000000000000000000000000000000000000000000000000000000 a2 (linkFcfg a1 a2) := by
  unfold linkFcfg
  repeat' first
    | with_reducible exact Touch.refl _ _
    | ((with_reducible refine Eq.symm ?_); exact rfl)
    | with_reducible apply Touch.via (sendLink_touch _ _ _ _)
    | split

theorem bulkBlock_touch (a1 : Nat) (a2 : Nat) (a3 : State) : Touch 0x40000000000000000000000000000000000000000000000000000000000000000000000000000000000000000000000000000000 a3 (bulkBlock a1 a2 a3) := by
  unfold bulkBlock
  repeat' first
    | with_reducible exact Touch.refl _ _
    | ((with_reducible refine Eq.symm ?_); exact rfl)
    | with_reducible refine Touch.ite ?_ ?_
    | with_reducible apply Touch.via (State.modLk_touch _ _ _)

theorem chainBell_touch (a1 : Nat) (a2 : Nat) (a3 : State) : Touch 0x40200000000000000000000000000000000000000000000000000000000800000000000000000000000000000000000000000000 a3 (chainBell a1 a2 a3) := by
  unfold chainBell
  repeat' first
    | with_reducible exact Touch.refl _ _
    | ((with_reducible refine Eq.symm ?_); exact rfl)
    | with_reducible refine Touch.ite ?_ ?_
    | with_reducible apply Touch.via (State.modLk_touch _ _ _)
    | with_reducible apply Touch.via (markCorrupt_touch _ _)
    | with_reducible refine Touch.sf ?_ ?_
    | split

theorem chainMsg_touch {w : Nat} (hw : Nat.lor 0x422000000000000000000000000000000000000000000000c00000000000000000000000000000008a0000000080000000000000 w = w) (a1 : Nat) (a2 : Nat) (a3 : Nat) (a4 : State → State) (a5 : State) (ha4 : ∀  t, Touch w t (a4  t)) : Touch w a5 (chainMsg a1 a2 a3 a4 a5) := by
  unfold chainMsg
  repeat' first
    | with_reducible exact Touch.refl _ _
    | with_reducible refine Touch.ite ?_ ?_
    | exact Touch.sub (by rfl) hw
    | with_reducible apply Touch.after (ha4 _)
    | with_reducible apply Touch.via (State.modLk_touch _ _ _)
    | with_reducible apply Touch.via (chainLoss_touch _ _ _)

theorem chainSend_touch (a1 : Nat) (a2 : State) (a3 : State) : Touch 0x8040000000000000000000000000000000000000000000000000000000000000000000000000000000000000000000000000000000 a3 (chainSend a1 a2 a3) := by
  unfold chainSend
  repeat' first
    | with_reducible exact Touch.refl _ _
    | ((with_reducible refine Eq.symm ?_); exact rfl)
    | with_reducible refine Touch.ite ?_ ?_
    | with_reducible apply Touch.via (sendBlock_touch _ _ _ _)
    | with_reducible refine Touch.forEach ?_ ?_
    | (simp only [Touch.mk_eq]; with_reducible refine TouchMk.intro ?_)
    | intro _

theorem chainPresent_touch (a1 : Nat) (a2 : State) : Touch 0x40700000000000000000000000000000000000000000000000000000000c00000000000000000000000000000084000000000000 a2 (chainPresent a1 a2) := by
  unfold chainPresent
  repeat' first
    | with_reducible exact Touch.refl _ _
    | ((with_reducible refine Eq.symm ?_); exact rfl)
    | with_reducible refine Touch.ite ?_ ?_
    | with_reducible apply Touch.via (raisePortLate_touch _ _ _ _)
    | with_reducible apply Touch.via (State.modLk_touch _ _ _)
    | with_reducible refine Touch.forEach ?_ ?_
    | (simp only [Touch.mk_eq]; with_reducible refine TouchMk.intro ?_)
    | intro _
    | split
    | dsimp only

theorem vecSample_touch (a1 : Nat) (a2 : State) (a3 : State) : Touch 0x40000000000000000000000000000000000000000000000000000000000000000000000000000000000000000000000000000000 a3 (vecSample a1 a2 a3) := by
  unfold vecSample
  repeat' first
    | with_reducible exact Touch.refl _ _
    | ((with_reducible refine Eq.symm ?_); exact rfl)
    | with_reducible refine Touch.ite ?_ ?_
    | with_reducible apply Touch.via (State.modLk_touch _ _ _)
    | with_reducible refine Touch.forEach ?_ ?_
    | with_reducible refine Touch.forUpTo ?_ ?_
    | intro _

theorem vecLaunch_touch (a1 : Nat) (a2 : State) (a3 : State) : Touch 0x40000000000000000000000000000000000000000000000000000000000000000000000000000000000000000000000000000000 a3 (vecLaunch a1 a2 a3) := by
  unfold vecLaunch
  repeat' first
    | with_reducible exact Touch.refl _ _
    | ((with_reducible refine Eq.symm ?_); exact rfl)
    | with_reducible refine Touch.ite ?_ ?_
    | with_reducible apply Touch.via (sendBlock_touch _ _ _ _)
    | with_reducible apply Touch.via (State.modLk_touch _ _ _)
    | with_reducible refine Touch.forEach ?_ ?_
    | intro _

theorem rframe_touch (a1 : Nat) (a2 : Nat) (a3 : List Nat) (a4 : State) : Touch 0x40600000000000000000000000000000000000000000000000000000000400000000000000000000000000000004000000000000 a4 (rframe a1 a2 a3 a4) := by
  unfold rframe
  repeat' first
    | with_reducible exact Touch.refl _ _
    | ((with_reducible refine Eq.symm ?_); exact rfl)
    | with_reducible refine Touch.ite ?_ ?_
    | with_reducible apply Touch.via (State.modLk_touch _ _ _)
    | with_reducible apply Touch.via (lateItem_touch _ _ _ _ _)
    | with_reducible apply Touch.via (markCorrupt_touch _ _)
    | with_reducible refine Touch.bump ?_ ?_
    | split
    | dsimp only

theorem vecPresent_touch (a1 : Nat) (a2 : State) : Touch 0x40700000000000000000000000000000000000000000000000000000000c00000000000000000000000000000084000000000000 a2 (vecPresent a1 a2) := by
  unfold vecPresent
  repeat' first
    | with_reducible exact Touch.refl _ _
    | ((with_reducible refine Eq.symm ?_); exact rfl)
    | with_reducible refine Touch.ite ?_ ?_
    | with_reducible apply Touch.via (raisePortLate_touch _ _ _ _)
    | with_reducible apply Touch.via (State.modLk_touch _ _ _)
    | with_reducible refine Touch.forEach ?_ ?_
    | (simp only [Touch.mk_eq]; with_reducible refine TouchMk.intro ?_)
    | intro _
    | split
    | dsimp only

theorem amPeriod_touch (a1 : Nat) (a2 : State) : Touch 0x40000000000000000000000000000000000000000000000000000000000000000000000000000000000000000000000000000000 a2 (amPeriod a1 a2) := by
  unfold amPeriod
  repeat' first
    | with_reducible exact Touch.refl _ _
    | ((with_reducible refine Eq.symm ?_); exact rfl)
    | with_reducible refine Touch.ite ?_ ?_
    | with_reducible apply Touch.via (sendBlock_touch _ _ _ _)

end Machine
end Sys2Proof
end

