-- ==== Sys2Proof/Laws/TouchPins.lean ====
section
/-! SUPPORT. What each operation of Machine/Pins.lean leaves alone. -/
set_option linter.unusedVariables false
set_option Elab.async false
namespace Sys2Proof
namespace Machine

theorem pinSample_touch (a1 : Nat) (a2 : Nat) (a3 : State) : Touch 0x100000000000000000000000000000000000000000000000000000000000000000000000000000000000000000000000000000000 a3 (pinSample a1 a2 a3) := by
  unfold pinSample
  repeat' first
    | with_reducible exact Touch.refl _ _
    | with_reducible refine Touch.ite ?_ ?_
    | (simp only [Touch.mk_eq]; with_reducible refine TouchMk.intro ?_)

theorem pinTake_touch (a1 : Nat) (a2 : State) : Touch 0x100000000000000000000000000000000000000000000000000000000000000000000000000000000000000000000000000000000 a2 (pinTake a1 a2) := by
  unfold pinTake
  repeat' first
    | with_reducible exact Touch.refl _ _
    | with_reducible refine Touch.ite ?_ ?_
    | (simp only [Touch.mk_eq]; with_reducible refine TouchMk.intro ?_)

theorem pinsOn_touch (a1 : Nat) (a2 : State) : Touch 0x10000000000000000000000000000000000000000000000000000000000000000000000000000000000 a2 (pinsOn a1 a2) := by
  unfold pinsOn
  repeat' first
    | with_reducible exact Touch.refl _ _
    | ((with_reducible refine Eq.symm ?_); exact rfl)
    | with_reducible refine Touch.sf ?_ ?_
    | with_reducible refine Touch.forEach ?_ ?_
    | intro _

theorem pinsOff_touch (a1 : Nat) (a2 : State) : Touch 0x100000000000000000000010000000000000000000000000000000000000000000000000000000000000000000000000000000000 a2 (pinsOff a1 a2) := by
  unfold pinsOff
  repeat' first
    | with_reducible exact Touch.refl _ _
    | ((with_reducible refine Eq.symm ?_); exact rfl)
    | with_reducible refine Touch.sf ?_ ?_
    | with_reducible refine Touch.forEach ?_ ?_
    | (simp only [Touch.mk_eq]; with_reducible refine TouchMk.intro ?_)
    | intro _

theorem pinCfgWrite_touch (a1 : Requester) (a2 : Nat) (a3 : Nat) (a4 : State) : Touch 0x400200000000000000000001000000a0000000000000000000c0000000000000000000000000000000000000000000000000000000 a4 (pinCfgWrite a1 a2 a3 a4) := by
  unfold pinCfgWrite
  repeat' first
    | with_reducible exact Touch.refl _ _
    | ((with_reducible refine Eq.symm ?_); exact rfl)
    | with_reducible refine Touch.ite ?_ ?_
    | with_reducible apply Touch.via (denyWrite_touch _ _ _ _ _)
    | with_reducible apply Touch.via (lockedWrite_touch _ _ _ _ _)
    | with_reducible apply Touch.via (okResp_touch _ _)
    | with_reducible refine Touch.setReg ?_ ?_
    | with_reducible refine Touch.sf ?_ ?_

theorem pioLockBad_touch (a1 : Requester) (a2 : Nat) (a3 : State) : Touch 0x200000000000000000200000000a0000000000000000000c0000000000000000000000000000000000000000000000000000000 a3 (pioLockBad a1 a2 a3) := by
  unfold pioLockBad
  repeat' first
    | with_reducible exact Touch.refl _ _
    | ((with_reducible refine Eq.symm ?_); exact rfl)
    | with_reducible apply Touch.via (logRefused_touch _ _ _ _ _)
    | with_reducible refine Touch.sf ?_ ?_

theorem pioDeny_touch (a1 : Requester) (a2 : Reg) (a3 : Nat) (a4 : State) : Touch 0x400200000000000000000200000000a0000000000000000000c0000000000000000000000000000000000000000000000000000000 a4 (pioDeny a1 a2 a3 a4) := by
  unfold pioDeny
  repeat' first
    | with_reducible exact Touch.refl _ _
    | ((with_reducible refine Eq.symm ?_); exact rfl)
    | with_reducible apply Touch.via (denyWrite_touch _ _ _ _ _)
    | with_reducible refine Touch.sf ?_ ?_

theorem pioLockKey_touch (a1 : Requester) (a2 : Nat) (a3 : State) : Touch 0x410200000000000000000200000000a0000000000000000000c0000000000000000000000000000000000000000000000000000000 a3 (pioLockKey a1 a2 a3) := by
  unfold pioLockKey
  repeat' first
    | with_reducible exact Touch.refl _ _
    | ((with_reducible refine Eq.symm ?_); exact rfl)
    | with_reducible refine Touch.ite ?_ ?_
    | with_reducible apply Touch.via (pioDeny_touch _ _ _ _)
    | with_reducible apply Touch.via (okResp_touch _ _)
    | with_reducible apply Touch.via (pioLockBad_touch _ _ _)
    | with_reducible refine Touch.sf ?_ ?_
    | (simp only [Touch.mk_eq]; with_reducible refine TouchMk.intro ?_)

theorem pioLock_touch (a1 : Requester) (a2 : State) : Touch 0x400200000000000000000301000000a0000000000000000000c0000000000000000000000000000000000000000000000000000000 a2 (pioLock a1 a2) := by
  unfold pioLock
  repeat' first
    | with_reducible exact Touch.refl _ _
    | ((with_reducible refine Eq.symm ?_); exact rfl)
    | with_reducible refine Touch.ite ?_ ?_
    | with_reducible apply Touch.via (pioDeny_touch _ _ _ _)
    | with_reducible apply Touch.via (okResp_touch _ _)
    | with_reducible apply Touch.via (pioLockBad_touch _ _ _)
    | with_reducible refine Touch.setReg ?_ ?_
    | with_reducible refine Touch.sf ?_ ?_
    | with_reducible refine Touch.forUpTo ?_ ?_
    | intro _

theorem fuseDone_touch (a1 : State) : Touch 0x100000000000000000000000000000000000000000000000000000000000000000000000000000000000000000000000000000000 a1 (fuseDone a1) := by
  unfold fuseDone
  repeat' first
    | with_reducible exact Touch.refl _ _
    | (simp only [Touch.mk_eq]; with_reducible refine TouchMk.intro ?_)
    | split

theorem pioFuseCmd_touch (a1 : Requester) (a2 : Nat) (a3 : Nat) (a4 : State) : Touch 0x410200000000000000000200000000a0000000000000000000c0000000000000000000000000000000000000000000000000000000 a4 (pioFuseCmd a1 a2 a3 a4) := by
  unfold pioFuseCmd
  repeat' first
    | with_reducible exact Touch.refl _ _
    | ((with_reducible refine Eq.symm ?_); exact rfl)
    | with_reducible refine Touch.ite ?_ ?_
    | with_reducible apply Touch.via (pioDeny_touch _ _ _ _)
    | with_reducible apply Touch.via (okResp_touch _ _)
    | with_reducible apply Touch.via (logRefused_touch _ _ _ _ _)
    | with_reducible refine Touch.sf ?_ ?_
    | (simp only [Touch.mk_eq]; with_reducible refine TouchMk.intro ?_)

theorem bankSupply_touch (a1 : Nat) (a2 : Bool) (a3 : Bool) (a4 : State) : Touch 0x200000000000000000000000000000000000000000000000000000000000000000000000000000000000 a4 (bankSupply a1 a2 a3 a4) := by
  unfold bankSupply
  repeat' first
    | with_reducible exact Touch.refl _ _
    | ((with_reducible refine Eq.symm ?_); exact rfl)
    | with_reducible refine Touch.sflag ?_ ?_
    | dsimp only

theorem jtagInstruction_touch (a1 : Nat) (a2 : State) : Touch 0x100000000000000000000000000000000000000000000000000000000000000000000000000000000000000000000000000000000 a2 (jtagInstruction a1 a2) := by
  unfold jtagInstruction
  repeat' first
    | with_reducible exact Touch.refl _ _
    | (simp only [Touch.mk_eq]; with_reducible refine TouchMk.intro ?_)

end Machine
end Sys2Proof
end

