-- ==== Sys2Proof/Laws/TouchTempo.lean ====
section
/-! SUPPORT. What each operation of Machine/Tempo.lean leaves alone. -/
set_option linter.unusedVariables false
set_option Elab.async false
namespace Sys2Proof
namespace Machine

theorem setDebts_touch (a1 : Nat) (a2 : List (Prod Nat Bool)) (a3 : State) : Touch 0x200000000000000000000000000000000000000000000000000000000000000000000000000000000000000000000000040000 a3 (setDebts a1 a2 a3) := by
  unfold setDebts
  repeat' first
    | with_reducible exact Touch.refl _ _
    | ((with_reducible refine Eq.symm ?_); exact rfl)
    | with_reducible apply Touch.via (State.modPart_touch _ _ _)
    | with_reducible refine Touch.sf ?_ ?_

theorem discardDebt_touch (a1 : Nat) (a2 : State) : Touch 0x2000000000000000000000000000000000000000000000000000000000000000000000000000000000000000000000000c0000 a2 (discardDebt a1 a2) := by
  unfold discardDebt
  repeat' first
    | with_reducible exact Touch.refl _ _
    | ((with_reducible refine Eq.symm ?_); exact rfl)
    | with_reducible refine Touch.ite ?_ ?_
    | with_reducible apply Touch.via (setDebts_touch _ _ _)
    | with_reducible refine Touch.bump ?_ ?_

theorem leadTempo_touch (a1 : Nat) (a2 : Nat) (a3 : State) : Touch 0x40000000000000000000000000000000000000000000000000000000000000000000000000000000000000000000000000000000 a3 (leadTempo a1 a2 a3) := by
  unfold leadTempo
  repeat' first
    | with_reducible exact Touch.refl _ _
    | ((with_reducible refine Eq.symm ?_); exact rfl)
    | with_reducible refine Touch.ite ?_ ?_
    | with_reducible apply Touch.via (sendBlock_touch _ _ _ _)
    | with_reducible refine Touch.forEach ?_ ?_
    | intro _

theorem tempoFault_touch (a1 : Nat) (a2 : State) : Touch 0x22000000000000000000000000000000000000000000000c00000000000000000000000000000008a0000000000000000000000 a2 (tempoFault a1 a2) := by
  unfold tempoFault
  repeat' first
    | with_reducible exact Touch.refl _ _
    | ((with_reducible refine Eq.symm ?_); exact rfl)
    | with_reducible apply Touch.via (raiseFault_touch _ _ _ _ _)

theorem earlyTick_touch (a1 : Nat) (a2 : Bool) (a3 : State) : Touch 0x422000000000000000000000000000000000000000000000c00000000000000000000000000000008a00000000000000000c0000 a3 (earlyTick a1 a2 a3) := by
  unfold earlyTick
  repeat' first
    | with_reducible exact Touch.refl _ _
    | ((with_reducible refine Eq.symm ?_); exact rfl)
    | with_reducible refine Touch.ite ?_ ?_
    | with_reducible apply Touch.via (setDebts_touch _ _ _)
    | with_reducible apply Touch.via (leadTempo_touch _ _ _)
    | with_reducible apply Touch.via (tempoFault_touch _ _)
    | with_reducible refine Touch.bump ?_ ?_
    | split
    | dsimp only

theorem takeTick_touch (a1 : Nat) (a2 : Bool) (a3 : State) : Touch 0x422000000000000000000000000000000000000000000000c00000000000000000000000000000008a00000000000000000c0000 a3 (takeTick a1 a2 a3) := by
  unfold takeTick
  repeat' first
    | with_reducible exact Touch.refl _ _
    | ((with_reducible refine Eq.symm ?_); exact rfl)
    | with_reducible refine Touch.ite ?_ ?_
    | with_reducible apply Touch.via (State.setPart_touch _ _ _)
    | with_reducible apply Touch.via (leadTempo_touch _ _ _)
    | with_reducible apply Touch.via (earlyTick_touch _ _ _)

theorem toutRise_touch (a1 : Nat) (a2 : State) : Touch 0x200000000000000000000000000000000000000000000000000000000000000000000000000000000000000000000000000000000 a2 (toutRise a1 a2) := by
  unfold toutRise
  repeat' first
    | with_reducible exact Touch.refl _ _
    | ((with_reducible refine Eq.symm ?_); exact rfl)
    | with_reducible apply Touch.via (toutAt_touch _)
    | (simp only [Touch.mk_eq]; with_reducible refine TouchMk.intro ?_)

theorem toutTick_touch (a1 : Nat) (a2 : Nat) (a3 : State) : Touch 0x200000000000000000000000000000000000000000000000000000000000000000000000000000000000000000000000000000000 a3 (toutTick a1 a2 a3) := by
  unfold toutTick
  repeat' first
    | with_reducible exact Touch.refl _ _
    | ((with_reducible refine Eq.symm ?_); exact rfl)
    | with_reducible refine Touch.ite ?_ ?_
    | with_reducible apply Touch.via (toutRise_touch _ _)

theorem toutAhead_touch (a1 : Nat) (a2 : State) : Touch 0x200000000000000000000000000000000000000000000000000000000000000000000000000000000000000000000000000000000 a2 (toutAhead a1 a2) := by
  unfold toutAhead
  repeat' first
    | with_reducible exact Touch.refl _ _
    | with_reducible refine Touch.ite ?_ ?_
    | (simp only [Touch.mk_eq]; with_reducible refine TouchMk.intro ?_)

theorem tempoOutFall_touch (a1 : State) : Touch 0x220440000000000000000000000000000000000000000000000000000000000000000000000000000000000000000000000000000 a1 (tempoOutFall a1) := by
  unfold tempoOutFall
  repeat' first
    | with_reducible exact Touch.refl _ _
    | ((with_reducible refine Eq.symm ?_); exact rfl)
    | with_reducible refine Touch.ite ?_ ?_
    | with_reducible apply Touch.via (advanceTo_touch _ _)

theorem dividedTick_touch (a1 : Nat) (a2 : State) : Touch 0x422000000000000000000000000000000000000000000000c00000000000000000000000000000008a00000000000000000c0000 a2 (dividedTick a1 a2) := by
  unfold dividedTick
  repeat' first
    | with_reducible exact Touch.refl _ _
    | ((with_reducible refine Eq.symm ?_); exact rfl)
    | with_reducible refine Touch.ite ?_ ?_
    | with_reducible apply Touch.via (takeTick_touch _ _ _)
    | with_reducible apply Touch.via (State.setPart_touch _ _ _)

theorem tempoInputEdge_touch (a1 : Nat) (a2 : Bool) (a3 : State) : Touch 0x2422000000000000000000000000000000000000000000000c00000000000000000000000000000008a00000000000000080c0000 a3 (tempoInputEdge a1 a2 a3) := by
  unfold tempoInputEdge
  repeat' first
    | with_reducible exact Touch.refl _ _
    | ((with_reducible refine Eq.symm ?_); exact rfl)
    | with_reducible refine Touch.ite ?_ ?_
    | with_reducible apply Touch.via (dividedTick_touch _ _)
    | with_reducible apply Touch.via (toutTick_touch _ _ _)
    | with_reducible refine Touch.bumpWrap ?_ ?_
    | with_reducible refine Touch.forEach ?_ ?_
    | (simp only [Touch.mk_eq]; with_reducible refine TouchMk.intro ?_)
    | intro _

theorem setGen_touch (a1 : Nat) (a2 : Nat) (a3 : State) : Touch 0x200000000000000000000000000000000000000000000000000000000000000000000000000000000000000000000000000000000 a3 (setGen a1 a2 a3) := by
  unfold setGen
  repeat' first
    | with_reducible exact Touch.refl _ _
    | (simp only [Touch.mk_eq]; with_reducible refine TouchMk.intro ?_)

theorem genCtlWrite_touch (a1 : Requester) (a2 : Nat) (a3 : Nat) (a4 : State) : Touch 0x420200000000000000000000000000a0000000000000000000c0000000000000000000000000000000000000000000000010000000 a4 (genCtlWrite a1 a2 a3 a4) := by
  unfold genCtlWrite
  repeat' first
    | with_reducible exact Touch.refl _ _
    | ((with_reducible refine Eq.symm ?_); exact rfl)
    | with_reducible refine Touch.ite ?_ ?_
    | with_reducible apply Touch.via (denyWrite_touch _ _ _ _ _)
    | with_reducible apply Touch.via (okResp_touch _ _)
    | with_reducible apply Touch.via (setGen_touch _ _ _)
    | with_reducible refine Touch.sf ?_ ?_

theorem generatorTick_touch (a1 : Nat) (a2 : State) : Touch 0x2422000000000000000000000000000000000000000000000c00000000000000000000000000000008a00000000000000100c0000 a2 (generatorTick a1 a2) := by
  unfold generatorTick
  repeat' first
    | with_reducible exact Touch.refl _ _
    | ((with_reducible refine Eq.symm ?_); exact rfl)
    | with_reducible refine Touch.ite ?_ ?_
    | with_reducible apply Touch.via (setGen_touch _ _ _)
    | with_reducible apply Touch.via (toutTick_touch _ _ _)
    | with_reducible apply Touch.via (takeTick_touch _ _ _)
    | with_reducible refine Touch.sf ?_ ?_
    | with_reducible refine Touch.forEach ?_ ?_
    | intro _

theorem genRestep_touch (a1 : State) : Touch 0x200000000000000000000000000000000000000000000000000000000000000000000000000000000000000000000000000000000 a1 (genRestep a1) := by
  unfold genRestep
  repeat' first
    | with_reducible exact Touch.refl _ _
    | ((with_reducible refine Eq.symm ?_); exact rfl)
    | with_reducible refine Touch.ite ?_ ?_
    | with_reducible apply Touch.via (setGen_touch _ _ _)
    | with_reducible refine Touch.forUpTo ?_ ?_
    | intro _

theorem chainTempo_touch (a1 : Nat) (a2 : Nat) (a3 : State) : Touch 0x422000000000000000000000000000000000000000000000c00000000008000000000000000000008a00000000000000000c0000 a3 (chainTempo a1 a2 a3) := by
  unfold chainTempo
  repeat' first
    | with_reducible exact Touch.refl _ _
    | ((with_reducible refine Eq.symm ?_); exact rfl)
    | with_reducible refine Touch.ite ?_ ?_
    | with_reducible apply Touch.via (takeTick_touch _ _ _)
    | with_reducible apply Touch.via (sendBlock_touch _ _ _ _)
    | with_reducible refine Touch.sf ?_ ?_
    | with_reducible refine Touch.forEach ?_ ?_
    | intro _
    | split

theorem bellNumber_touch (a1 : Nat) (a2 : State) : Touch 0x200000000000000000000000000000000000000000000000000000000000000000000000000000000000000000000000300000 a2 (bellNumber a1 a2) := by
  unfold bellNumber
  repeat' first
    | with_reducible exact Touch.refl _ _
    | ((with_reducible refine Eq.symm ?_); exact rfl)
    | with_reducible refine Touch.ite ?_ ?_
    | with_reducible apply Touch.via (State.setPart_touch _ _ _)
    | with_reducible refine Touch.sf ?_ ?_

theorem followBell_touch (a1 : Nat) (a2 : State) : Touch 0x4080000000000000000000000000000000000000000000000000000000000000000000000000000000000000000000000000000 a2 (followBell a1 a2) := by
  unfold followBell
  repeat' first
    | with_reducible exact Touch.refl _ _
    | with_reducible refine Touch.ite ?_ ?_
    | with_reducible refine Touch.forEach ?_ ?_
    | (simp only [Touch.mk_eq]; with_reducible refine TouchMk.intro ?_)
    | intro _

theorem bellStart_touch (a1 : Nat) (a2 : State) : Touch 0x822efc00000000000000000100000000000060000000000000c000000000000000000000f020000000000000000000000000340400 a2 (bellStart a1 a2) := by
  unfold bellStart
  repeat' first
    | with_reducible exact Touch.refl _ _
    | ((with_reducible refine Eq.symm ?_); exact rfl)
    | with_reducible refine Touch.ite ?_ ?_
    | with_reducible apply Touch.via (advanceTo_touch _ _)
    | with_reducible apply Touch.via (setDebts_touch _ _ _)
    | with_reducible apply Touch.via (State.setPart_touch _ _ _)
    | with_reducible apply Touch.via (setStep_touch _ _ _)
    | with_reducible apply Touch.via (bellNumber_touch _ _)
    | with_reducible apply Touch.via (pinsOn_touch _ _)
    | with_reducible apply Touch.via (State.modPart_touch _ _ _)
    | with_reducible apply Touch.via (followBell_touch _ _)
    | with_reducible apply Touch.via (toutRise_touch _ _)
    | with_reducible apply Touch.via (traceBell_touch _ _)
    | with_reducible apply Touch.via (bellEntry_touch _ _)
    | with_reducible refine Touch.sf ?_ ?_
    | (simp only [Touch.mk_eq]; with_reducible refine TouchMk.intro ?_)
    | split

theorem tempoStall_touch (a1 : Nat) (a2 : State) : Touch 0x20000000000000000000000000000000000000000000000c0000000000000000000000000000000000000000000000000040000 a2 (tempoStall a1 a2) := by
  unfold tempoStall
  repeat' first
    | with_reducible exact Touch.refl _ _
    | ((with_reducible refine Eq.symm ?_); exact rfl)
    | with_reducible refine Touch.ite ?_ ?_
    | with_reducible apply Touch.via (partEvent_touch _ _ _)
    | with_reducible refine Touch.sf ?_ ?_

end Machine
end Sys2Proof
end

