-- ==== Sys2Proof/Laws/TouchRepair.lean ====
section
/-! SUPPORT. What each operation of Machine/Repair.lean leaves alone. -/
set_option linter.unusedVariables false
set_option Elab.async false
namespace Sys2Proof
namespace Machine

theorem repairBp_touch (a1 : Nat) (a2 : Nat) (a3 : Nat) (a4 : Nat) (a5 : State) : Touch 0x80000000000000000000000000000000000000000000000000000000000000000000000000000000000000000000000000000 a5 (repairBp a1 a2 a3 a4 a5) := by
  unfold repairBp
  repeat' first
    | with_reducible exact Touch.refl _ _
    | with_reducible refine Touch.forEach ?_ ?_
    | (simp only [Touch.mk_eq]; with_reducible refine TouchMk.intro ?_)
    | intro _
    | split

theorem repairTabs_touch (a1 : Nat) (a2 : Nat) (a3 : Nat) (a4 : State) : Touch 0x80000000000000000000000000000000000000000000000000000000000000000000000000000000000000000000000000000 a4 (repairTabs a1 a2 a3 a4) := by
  unfold repairTabs
  repeat' first
    | with_reducible exact Touch.refl _ _
    | with_reducible refine Touch.forEach ?_ ?_
    | (simp only [Touch.mk_eq]; with_reducible refine TouchMk.intro ?_)
    | intro _
    | split

theorem repairPart_touch (a1 : Nat) (a2 : State) : Touch 0x80000000000000000000000000000000000000000000000000000000000000000000000000000000000000000000000000000 a2 (repairPart a1 a2) := by
  unfold repairPart
  repeat' first
    | with_reducible exact Touch.refl _ _
    | ((with_reducible refine Eq.symm ?_); exact rfl)
    | with_reducible refine Touch.ite ?_ ?_
    | with_reducible apply Touch.via (repairBp_touch _ _ _ _ _)
    | with_reducible apply Touch.via (repairTabs_touch _ _ _ _)
    | with_reducible refine Touch.forEach ?_ ?_
    | intro _
    | split

end Machine
end Sys2Proof
end

