-- ==== Sys2Proof/Laws/TouchFollow.lean ====
section
/-! SUPPORT. What each operation of Machine/Follow.lean leaves alone. -/
set_option linter.unusedVariables false
set_option Elab.async false
namespace Sys2Proof
namespace Machine

theorem State.modUnit_touch (a1 : State) (a2 : Nat) (a3 : Nat) (a4 : UnitRec → UnitRec) : Touch 0x4000000000000000000000000000000000000000000000000000000000000000000000000000000000000000000000000000000 a1 (State.modUnit a1 a2 a3 a4) := by
  unfold State.modUnit
  repeat' first
    | with_reducible exact Touch.refl _ _
    | (simp only [Touch.mk_eq]; with_reducible refine TouchMk.intro ?_)

theorem unitTakes_touch (a1 : Nat) (a2 : Nat) (a3 : Nat) (a4 : State) : Touch 0x4000000000000000000000000000000000000000000000000000000000000000000000000000000000000000000000000000000 a4 (unitTakes a1 a2 a3 a4) := by
  unfold unitTakes
  repeat' first
    | with_reducible exact Touch.refl _ _
    | ((with_reducible refine Eq.symm ?_); exact rfl)
    | with_reducible apply Touch.via (State.modUnit_touch _ _ _ _)

theorem unitDetained_touch (a1 : Nat) (a2 : Nat) (a3 : Nat) (a4 : State) : Touch 0x4000000000000000000000000000000000000000000000000000000000000000000000000000000000000000000000000000000 a4 (unitDetained a1 a2 a3 a4) := by
  unfold unitDetained
  repeat' first
    | with_reducible exact Touch.refl _ _
    | ((with_reducible refine Eq.symm ?_); exact rfl)
    | with_reducible apply Touch.via (State.modUnit_touch _ _ _ _)

theorem spareCount_touch (a1 : Nat) (a2 : State) : Touch 0x1 a2 (spareCount a1 a2) := by
  unfold spareCount
  repeat' first
    | with_reducible exact Touch.refl _ _
    | ((with_reducible refine Eq.symm ?_); exact rfl)
    | with_reducible refine Touch.sf ?_ ?_

theorem copyWords_touch (a1 : Nat) (a2 : Nat) (a3 : Nat) (a4 : Nat) (a5 : State) : Touch 0x80000000000000000000000000000000000000000000000000000000000000000000000000000000000000000000000000000 a5 (copyWords a1 a2 a3 a4 a5) := by
  unfold copyWords
  repeat' first
    | with_reducible exact Touch.refl _ _
    | ((with_reducible refine Eq.symm ?_); exact rfl)
    | with_reducible apply Touch.via (repairBp_touch _ _ _ _ _)
    | (simp only [Touch.mk_eq]; with_reducible refine TouchMk.intro ?_)
    | split
    | dsimp only

theorem copyEntries_touch (a1 : Nat) (a2 : Nat) (a3 : Nat) (a4 : Nat) (a5 : List Nat) (a6 : State) : Touch 0x80000000000000000000000000000000000000000000000000000000000000000000000000000000000000000000000000000 a6 (copyEntries a1 a2 a3 a4 a5 a6) := by
  unfold copyEntries
  repeat' first
    | with_reducible exact Touch.refl _ _
    | ((with_reducible refine Eq.symm ?_); exact rfl)
    | with_reducible apply Touch.via (putSlate_touch _ _ _ _ _)
    | with_reducible refine Touch.forEach ?_ ?_
    | intro _

theorem State.setFollow_touch (a1 : State) (a2 : Nat) (a3 : Follow) : Touch 0x80000000000000000000000000000000000000000000000000000000000000000000000000000000000000000000000000000 a1 (State.setFollow a1 a2 a3) := by
  unfold State.setFollow
  repeat' first
    | with_reducible exact Touch.refl _ _
    | (simp only [Touch.mk_eq]; with_reducible refine TouchMk.intro ?_)

theorem readyCheck_touch (a1 : Nat) (a2 : State) : Touch 0x2000000000000000000000000000000000000000000000000000000000000000000000001 a2 (readyCheck a1 a2) := by
  unfold readyCheck
  repeat' first
    | with_reducible exact Touch.refl _ _
    | ((with_reducible refine Eq.symm ?_); exact rfl)
    | with_reducible refine Touch.ite ?_ ?_
    | with_reducible refine Touch.sf ?_ ?_

theorem subApply_touch (a1 : Nat) (a2 : State) : Touch 0x60800000000000000000000000140000000000000000000c0000000000000000000000000000000000000000000000000000101 a2 (subApply a1 a2) := by
  unfold subApply
  repeat' first
    | with_reducible exact Touch.refl _ _
    | ((with_reducible refine Eq.symm ?_); exact rfl)
    | with_reducible apply Touch.via (bumpEpoch_touch _ _ _)
    | with_reducible apply Touch.via (unitDetained_touch _ _ _ _)
    | with_reducible apply Touch.via (unitTakes_touch _ _ _ _)
    | with_reducible apply Touch.via (spareCount_touch _ _)
    | with_reducible apply Touch.via (State.setFollow_touch _ _ _)
    | with_reducible apply Touch.via (report_touch _ _ _ _ _ _ _ _)
    | with_reducible refine Touch.sf ?_ ?_
    | (simp only [Touch.mk_eq]; with_reducible refine TouchMk.intro ?_)

theorem classWindow_touch (a1 : Nat) (a2 : State) : Touch 0x13d a2 (classWindow a1 a2) := by
  unfold classWindow
  repeat' first
    | with_reducible exact Touch.refl _ _
    | ((with_reducible refine Eq.symm ?_); exact rfl)
    | with_reducible apply Touch.via (spareCount_touch _ _)
    | with_reducible refine Touch.sf ?_ ?_
    | with_reducible refine Touch.resetReg ?_ ?_
    | with_reducible refine Touch.forUpTo ?_ ?_
    | intro _

theorem classTakes_touch (a1 : Nat) (a2 : Nat) (a3 : State) : Touch 0x408000000000000000000000000000000000000000000000000000000000000000000000000000000000000000000000000013d a3 (classTakes a1 a2 a3) := by
  unfold classTakes
  repeat' first
    | with_reducible exact Touch.refl _ _
    | ((with_reducible refine Eq.symm ?_); exact rfl)
    | with_reducible apply Touch.via (classWindow_touch _ _)
    | with_reducible apply Touch.via (unitDetained_touch _ _ _ _)
    | with_reducible apply Touch.via (unitTakes_touch _ _ _ _)
    | with_reducible apply Touch.via (bumpEpoch_touch _ _ _)
    | (simp only [Touch.mk_eq]; with_reducible refine TouchMk.intro ?_)

theorem clsFollowEnd_touch (a1 : State) : Touch 0x4000000000000000000000000000002000000000000000000000000000000000000000000000000000000000000000000000000 a1 (clsFollowEnd a1) := by
  unfold clsFollowEnd
  repeat' first
    | with_reducible exact Touch.refl _ _
    | ((with_reducible refine Eq.symm ?_); exact rfl)
    | with_reducible refine Touch.sf ?_ ?_
    | (simp only [Touch.mk_eq]; with_reducible refine TouchMk.intro ?_)

theorem clsReport_touch (a1 : Nat) (a2 : Nat) (a3 : Nat) (a4 : State) : Touch 0x60000000000000000000000000140000000000000000000c0000000000000000000000000000000000000000000000000000000 a4 (clsReport a1 a2 a3 a4) := by
  unfold clsReport
  repeat' first
    | with_reducible exact Touch.refl _ _
    | ((with_reducible refine Eq.symm ?_); exact rfl)
    | with_reducible apply Touch.via (report_touch _ _ _ _ _ _ _ _)

theorem clsApply_touch (a1 : State) : Touch 0x68800000000000000000000000140020000000000000000c000000000000000000000000000000000000000000000000000013d a1 (clsApply a1) := by
  unfold clsApply
  repeat' first
    | with_reducible exact Touch.refl _ _
    | ((with_reducible refine Eq.symm ?_); exact rfl)
    | with_reducible apply Touch.via (clsReport_touch _ _ _ _)
    | with_reducible apply Touch.via (clsFollowEnd_touch _)
    | with_reducible apply Touch.via (classTakes_touch _ _ _)
    | (simp only [Touch.mk_eq]; with_reducible refine TouchMk.intro ?_ (hm := ?_))
    | with_reducible exact MemState.wf_mk

theorem subSample_touch (a1 : Nat) (a2 : State) : Touch 0x4080000000000000000000000000000000000000000000000000000000000000000000000000000000000000000000000000000 a2 (subSample a1 a2) := by
  unfold subSample
  repeat' first
    | with_reducible exact Touch.refl _ _
    | ((with_reducible refine Eq.symm ?_); exact rfl)
    | with_reducible refine Touch.ite ?_ ?_
    | with_reducible apply Touch.via (State.setFollow_touch _ _ _)
    | with_reducible refine Touch.forEach ?_ ?_
    | (simp only [Touch.mk_eq]; with_reducible refine TouchMk.intro ?_)
    | intro _

theorem subCommits_touch (a1 : Nat) (a2 : State) : Touch 0x68800000000000000000000000140020000000000000000c000000000000000000000000000000000000000000000000000013d a2 (subCommits a1 a2) := by
  unfold subCommits
  repeat' first
    | with_reducible exact Touch.refl _ _
    | ((with_reducible refine Eq.symm ?_); exact rfl)
    | with_reducible refine Touch.ite ?_ ?_
    | with_reducible apply Touch.via (subApply_touch _ _)
    | with_reducible apply Touch.via (clsApply_touch _)
    | with_reducible refine Touch.forEach ?_ ?_
    | intro _

theorem followCovered_touch (a1 : Nat) (a2 : State) : Touch 0x4080000000000000000000000000002000000000000000000000000000000000000000000000000000000000000000000000001 a2 (followCovered a1 a2) := by
  unfold followCovered
  repeat' first
    | with_reducible exact Touch.refl _ _
    | ((with_reducible refine Eq.symm ?_); exact rfl)
    | with_reducible refine Touch.ite ?_ ?_
    | with_reducible apply Touch.via (State.setFollow_touch _ _ _)
    | with_reducible apply Touch.via (readyCheck_touch _ _)
    | with_reducible refine Touch.forEach ?_ ?_
    | (simp only [Touch.mk_eq]; with_reducible refine TouchMk.intro ?_)
    | intro _

theorem followSweep_touch (a1 : Nat) (a2 : State) : Touch 0x4080000000000000000000000000002000000000000000000000000000000000000000000000000000000000000000000000001 a2 (followSweep a1 a2) := by
  unfold followSweep
  repeat' first
    | with_reducible exact Touch.refl _ _
    | ((with_reducible refine Eq.symm ?_); exact rfl)
    | with_reducible refine Touch.ite ?_ ?_
    | with_reducible apply Touch.via (copyEntries_touch _ _ _ _ _ _)
    | with_reducible apply Touch.via (State.setFollow_touch _ _ _)
    | with_reducible apply Touch.via (readyCheck_touch _ _)
    | with_reducible refine Touch.forEach ?_ ?_
    | with_reducible refine Touch.forUpTo ?_ ?_
    | (simp only [Touch.mk_eq]; with_reducible refine TouchMk.intro ?_)
    | intro _
    | split

theorem followCancel_touch (a1 : Nat) (a2 : State) : Touch 0x80000000000000000000000000000000000000000000000000000000000000000000000000000000000000000000000000005 a2 (followCancel a1 a2) := by
  unfold followCancel
  repeat' first
    | with_reducible exact Touch.refl _ _
    | ((with_reducible refine Eq.symm ?_); exact rfl)
    | with_reducible apply Touch.via (State.setFollow_touch _ _ _)
    | with_reducible refine Touch.sf ?_ ?_

theorem clsFollowCancel_touch (a1 : State) : Touch 0x4000000000000000000000000000002000000000000000000000000000000000000000000000000000000000000000000000000 a1 (clsFollowCancel a1) := by
  unfold clsFollowCancel
  repeat' first
    | with_reducible exact Touch.refl _ _
    | ((with_reducible refine Eq.symm ?_); exact rfl)
    | with_reducible refine Touch.sf ?_ ?_
    | (simp only [Touch.mk_eq]; with_reducible refine TouchMk.intro ?_)

theorem followsCancel_touch (a1 : Nat) (a2 : State) : Touch 0x4080000000000000000000000000002000000000000000000000000000000000000000000000000000000000000000000000005 a2 (followsCancel a1 a2) := by
  unfold followsCancel
  repeat' first
    | with_reducible exact Touch.refl _ _
    | ((with_reducible refine Eq.symm ?_); exact rfl)
    | with_reducible refine Touch.ite ?_ ?_
    | with_reducible apply Touch.via (followCancel_touch _ _)
    | with_reducible apply Touch.via (clsFollowCancel_touch _)
    | with_reducible refine Touch.forEach ?_ ?_
    | intro _

theorem subCmd_touch {w : Nat} (hw : Nat.lor 0x400200000000000000000000000000a0000000000000000000c0000000000000000000000000000000000000000000000000000004 w = w) (a1 : Requester) (a2 : Nat) (a3 : Nat) (a4 : Bool) (a5 : State → State) (a6 : State) (ha5 : ∀  t, Touch w t (a5  t)) : Touch w a6 (subCmd a1 a2 a3 a4 a5 a6) := by
  unfold subCmd
  repeat' first
    | with_reducible exact Touch.refl _ _
    | with_reducible refine Touch.ite ?_ ?_
    | exact Touch.sub (by rfl) hw
    | exact Touch.bit hw (by rfl)
    | with_reducible apply Touch.after (ha5 _)
    | with_reducible apply Touch.via (denyWrite_touch _ _ _ _ _)
    | with_reducible apply Touch.via (okResp_touch _ _)
    | with_reducible apply Touch.via (logRefused_touch _ _ _ _ _)
    | with_reducible refine Touch.sf ?_ ?_

theorem subFollow_touch (a1 : Requester) (a2 : Nat) (a3 : Nat) (a4 : Nat) (a5 : State) : Touch 0x400208000000000000000000000000a0000000000000000000c0000000000000000000000000000000000000000000000000000005 a5 (subFollow a1 a2 a3 a4 a5) := by
  unfold subFollow
  repeat' first
    | with_reducible exact Touch.refl _ _
    | ((with_reducible refine Eq.symm ?_); exact rfl)
    | with_reducible apply Touch.after (subCmd_touch ?_ _ _ _ _ _ _ ?_)
    | with_reducible apply Touch.via (State.setFollow_touch _ _ _)
    | with_reducible refine Touch.sf ?_ ?_
    | intro _

theorem subCommit_touch (a1 : Requester) (a2 : Nat) (a3 : State) : Touch 0x400608000000000000000000000001e0000000000000000000c0000000000000000000000000000000000000000000000000000105 a3 (subCommit a1 a2 a3) := by
  unfold subCommit
  repeat' first
    | with_reducible exact Touch.refl _ _
    | ((with_reducible refine Eq.symm ?_); exact rfl)
    | with_reducible refine Touch.ite ?_ ?_
    | with_reducible apply Touch.after (subCmd_touch ?_ _ _ _ _ _ _ ?_)
    | with_reducible apply Touch.via (subApply_touch _ _)
    | with_reducible refine Touch.sf ?_ ?_
    | intro _

theorem subCancel_touch (a1 : Requester) (a2 : Nat) (a3 : State) : Touch 0x400208000000000000000000000000a0000000000000000000c0000000000000000000000000000000000000000000000000000005 a3 (subCancel a1 a2 a3) := by
  unfold subCancel
  repeat' first
    | with_reducible exact Touch.refl _ _
    | ((with_reducible refine Eq.symm ?_); exact rfl)
    | with_reducible apply Touch.after (subCmd_touch ?_ _ _ _ _ _ _ ?_)
    | with_reducible apply Touch.via (followCancel_touch _ _)
    | intro _

theorem clsCmd_touch {w : Nat} (hw : Nat.lor 0x400200000000000000000000000000a0020000000000000000c0000000000000000000000000000000000000000000000000000000 w = w) (a1 : Requester) (a2 : Nat) (a3 : Nat) (a4 : Bool) (a5 : State → State) (a6 : State) (ha5 : ∀  t, Touch w t (a5  t)) : Touch w a6 (clsCmd a1 a2 a3 a4 a5 a6) := by
  unfold clsCmd
  repeat' first
    | with_reducible exact Touch.refl _ _
    | with_reducible refine Touch.ite ?_ ?_
    | exact Touch.sub (by rfl) hw
    | exact Touch.bit hw (by rfl)
    | with_reducible apply Touch.after (ha5 _)
    | with_reducible apply Touch.via (denyWrite_touch _ _ _ _ _)
    | with_reducible apply Touch.via (okResp_touch _ _)
    | with_reducible apply Touch.via (logRefused_touch _ _ _ _ _)
    | with_reducible refine Touch.sf ?_ ?_

theorem clsFollow_touch (a1 : Requester) (a2 : Nat) (a3 : State) : Touch 0x400600000000000000000000000000a0020000000000000000c0000000000000000000000000000000000000000000000000000000 a3 (clsFollow a1 a2 a3) := by
  unfold clsFollow
  repeat' first
    | with_reducible exact Touch.refl _ _
    | ((with_reducible refine Eq.symm ?_); exact rfl)
    | with_reducible apply Touch.after (clsCmd_touch ?_ _ _ _ _ _ _ ?_)
    | with_reducible refine Touch.sf ?_ ?_
    | (simp only [Touch.mk_eq]; with_reducible refine TouchMk.intro ?_)
    | intro _

theorem clsCommit_touch (a1 : Requester) (a2 : Nat) (a3 : State) : Touch 0x400688000000000000000000000001e0020000000000000000c000000000000000000000000000000000000000000000000000013d a3 (clsCommit a1 a2 a3) := by
  unfold clsCommit
  repeat' first
    | with_reducible exact Touch.refl _ _
    | ((with_reducible refine Eq.symm ?_); exact rfl)
    | with_reducible refine Touch.ite ?_ ?_
    | with_reducible apply Touch.after (clsCmd_touch ?_ _ _ _ _ _ _ ?_)
    | with_reducible apply Touch.via (clsApply_touch _)
    | with_reducible refine Touch.sf ?_ ?_
    | intro _

theorem clsCancel_touch (a1 : Requester) (a2 : Nat) (a3 : State) : Touch 0x400600000000000000000000000000a0020000000000000000c0000000000000000000000000000000000000000000000000000000 a3 (clsCancel a1 a2 a3) := by
  unfold clsCancel
  repeat' first
    | with_reducible exact Touch.refl _ _
    | ((with_reducible refine Eq.symm ?_); exact rfl)
    | with_reducible apply Touch.after (clsCmd_touch ?_ _ _ _ _ _ _ ?_)
    | with_reducible apply Touch.via (clsFollowCancel_touch _)
    | intro _

theorem moveTabs_touch (a1 : Nat) (a2 : Nat) (a3 : State) : Touch 0x80000000000000000000000000000000000000000000000000000000000000000000000000000000000000000000000000000 a3 (moveTabs a1 a2 a3) := by
  unfold moveTabs
  repeat' first
    | with_reducible exact Touch.refl _ _
    | (simp only [Touch.mk_eq]; with_reducible refine TouchMk.intro ?_)

theorem copyRoles_touch (a1 : Nat) (a2 : Nat) (a3 : State) : Touch 0x80000000000000000000000000000000000000000000000000000000000000000000000000000000000000000000000000000 a3 (copyRoles a1 a2 a3) := by
  unfold copyRoles
  repeat' first
    | with_reducible exact Touch.refl _ _
    | ((with_reducible refine Eq.symm ?_); exact rfl)
    | with_reducible apply Touch.via (copyWords_touch _ _ _ _ _)
    | with_reducible refine Touch.forUpTo ?_ ?_
    | intro _

theorem copyTables_touch (n f : Nat) (s : State) : Touch 0x80000000000000000000000000000000000000000000000000000000000000000000000000000000000000000000000000000 s (copyTables n f s) := by
  have h : Touch 0x80000000000000000000000000000000000000000000000000000000000000000000000000000000000000000000000000000 s (moveTabs (s.phys n) f (copyRoles n f s)) := (copyRoles_touch n f s).trans (moveTabs_touch _ _ _)
  rw [copyTables]
  generalize moveTabs (s.phys n) f (copyRoles n f s) = t at h
  split
  · exact h
  · exact h.trans (repairTabs_touch _ _ _ _)

theorem followCopyDone_touch (a1 : Nat) (a2 : Bool) (a3 : State) : Touch 0x4080000000000000000000000000002000000000000000000000000000000000000000000000000000000000000000000000005 a3 (followCopyDone a1 a2 a3) := by
  unfold followCopyDone
  repeat' first
    | with_reducible exact Touch.refl _ _
    | ((with_reducible refine Eq.symm ?_); exact rfl)
    | with_reducible refine Touch.ite ?_ ?_
    | with_reducible apply Touch.via (copyTables_touch _ _ _)
    | with_reducible apply Touch.via (copyEntries_touch _ _ _ _ _ _)
    | with_reducible apply Touch.via (readyCheck_touch _ _)
    | with_reducible apply Touch.via (copyWords_touch _ _ _ _ _)
    | with_reducible apply Touch.via (State.setFollow_touch _ _ _)
    | with_reducible refine Touch.sf ?_ ?_
    | with_reducible refine Touch.forUpTo ?_ ?_
    | (simp only [Touch.mk_eq]; with_reducible refine TouchMk.intro ?_)
    | intro _
    | split

end Machine
end Sys2Proof
end

