-- ==== Sys2Proof/Laws/TouchSnapshot.lean ====
section
/-! SUPPORT. What each operation of Machine/Snapshot.lean leaves alone. -/
set_option linter.unusedVariables false
set_option Elab.async false
namespace Sys2Proof
namespace Machine

theorem pendingUpd_touch (a1 : Nat) (a2 : State) : Touch 0x1000 a2 (pendingUpd a1 a2) := by
  unfold pendingUpd
  repeat' first
    | with_reducible exact Touch.refl _ _
    | ((with_reducible refine Eq.symm ?_); exact rfl)
    | with_reducible refine Touch.sflag ?_ ?_

theorem slotsUpd_touch (a1 : Nat) (a2 : State) : Touch 0x1000000000000000000000000000000000 a2 (slotsUpd a1 a2) := by
  unfold slotsUpd
  repeat' first
    | with_reducible exact Touch.refl _ _
    | ((with_reducible refine Eq.symm ?_); exact rfl)
    | with_reducible refine Touch.sf ?_ ?_

theorem putFlightBp_touch (a1 : Nat) (a2 : Flight) (a3 : State) : Touch 0x880000000000000000000000000000000000000000000000000000000000000000000000000000000000000000000000000000 a3 (putFlightBp a1 a2 a3) := by
  unfold putFlightBp
  repeat' first
    | with_reducible exact Touch.refl _ _
    | (simp only [Touch.mk_eq]; with_reducible refine TouchMk.intro ?_ (hm := ?_))
    | with_reducible exact MemState.wf_mk

theorem putFlightNet_touch (a1 : Nat) (a2 : Flight) (a3 : State) : Touch 0x100000000000000000000000000000000000000000000000000000000000000000000000000000000000000000000000000000 a3 (putFlightNet a1 a2 a3) := by
  unfold putFlightNet
  repeat' first
    | with_reducible exact Touch.refl _ _
    | (simp only [Touch.mk_eq]; with_reducible refine TouchMk.intro ?_)

theorem shadowCopy_touch (a1 : Nat) (a2 : State) : Touch 0x80000000000000000000000000000000000000000000000000000000000000000000000000000000000000000000000000000 a2 (shadowCopy a1 a2) := by
  unfold shadowCopy
  repeat' first
    | with_reducible exact Touch.refl _ _
    | with_reducible refine Touch.forEach ?_ ?_
    | (simp only [Touch.mk_eq]; with_reducible refine TouchMk.intro ?_)
    | intro _

theorem takeSnapshot_touch (a1 : Nat) (a2 : Bool) (a3 : State) : Touch 0xc880000000000000000000000000002000000000000000000000000000000000000183000000000000000000000000000001405 a3 (takeSnapshot a1 a2 a3) := by
  unfold takeSnapshot
  repeat' first
    | with_reducible exact Touch.refl _ _
    | ((with_reducible refine Eq.symm ?_); exact rfl)
    | with_reducible apply Touch.via (shadowCopy_touch _ _)
    | with_reducible apply Touch.via (followsCancel_touch _ _)
    | with_reducible apply Touch.via (dropSnap_touch _ _ _)
    | with_reducible apply Touch.via (State.modTrec_touch _ _ _)
    | with_reducible apply Touch.via (sourcesEntries_touch _ _ _ _)
    | with_reducible apply Touch.via (pendingUpd_touch _ _)
    | with_reducible apply Touch.via (snapStatus_touch _ _)
    | with_reducible refine Touch.sf ?_ ?_
    | with_reducible refine Touch.sflag ?_ ?_

theorem drainBytes_touch (a1 : Nat) (a2 : Nat) (a3 : State) : Touch 0x800000000000000000000000000000000000000000000000000000000000000000000000000000000000000000000000000000 a3 (drainBytes a1 a2 a3) := by
  unfold drainBytes
  repeat' first
    | with_reducible exact Touch.refl _ _
    | ((with_reducible refine Eq.symm ?_); exact rfl)
    | with_reducible apply Touch.via (State.wbs_touch _ _ _)
    | with_reducible refine Touch.forUpTo ?_ ?_
    | intro _

theorem drainDone_touch (a1 : Nat) (a2 : State) : Touch 0xc880000000000000000000000000002000000000000000000000000000000000000183000000000000000000000000000001405 a2 (drainDone a1 a2) := by
  unfold drainDone
  repeat' first
    | with_reducible exact Touch.refl _ _
    | ((with_reducible refine Eq.symm ?_); exact rfl)
    | with_reducible refine Touch.ite ?_ ?_
    | with_reducible apply Touch.via (drainBytes_touch _ _ _)
    | with_reducible apply Touch.via (snapStatus_touch _ _)
    | with_reducible apply Touch.via (takeSnapshot_touch _ _ _)
    | with_reducible refine Touch.sf ?_ ?_
    | dsimp only

theorem undoOne_touch (a1 : List Nat) (a2 : State) : Touch 0x800000000000000000000000000000000000000000000000000000000000000000000000000000000000000000000000000000 a2 (undoOne a1 a2) := by
  unfold undoOne
  repeat' first
    | with_reducible exact Touch.refl _ _
    | ((with_reducible refine Eq.symm ?_); exact rfl)
    | with_reducible refine Touch.ite ?_ ?_
    | with_reducible apply Touch.via (putByte_touch _ _ _ _)
    | with_reducible apply Touch.via (hbmReCheck_touch _ _)
    | with_reducible refine Touch.forUpTo ?_ ?_
    | intro _

theorem unwind_touch (a1 : Nat) (a2 : Nat) (a3 : State) : Touch 0x8800000000000000000000000000000000000000000000000000000000000000000000000000000000000000000000000000000 a3 (unwind a1 a2 a3) := by
  unfold unwind
  repeat' first
    | with_reducible exact Touch.refl _ _
    | ((with_reducible refine Eq.symm ?_); exact rfl)
    | with_reducible apply Touch.via (undoOne_touch _ _)
    | with_reducible apply Touch.via (State.modTrec_touch _ _ _)
    | with_reducible refine Touch.foldl ?_ ?_
    | intro _

theorem restoreSlates_touch (a1 : Nat) (a2 : Nat) (a3 : State) : Touch 0x80000000000000000000000000000000000000000000000000000000000000000000000000000000000000000000000000000 a3 (restoreSlates a1 a2 a3) := by
  unfold restoreSlates
  repeat' first
    | with_reducible exact Touch.refl _ _
    | ((with_reducible refine Eq.symm ?_); exact rfl)
    | with_reducible apply Touch.via (putSlate_touch _ _ _ _ _)
    | with_reducible refine Touch.forUpTo ?_ ?_
    | intro _

theorem replaySources_touch (a1 : Nat) (a2 : List Nat) (a3 : State) : Touch 0x100000000000000000000000000000000000000000000000000000000000000000000000000000000000000000000000000000 a3 (replaySources a1 a2 a3) := by
  unfold replaySources
  repeat' first
    | with_reducible exact Touch.refl _ _
    | (simp only [Touch.mk_eq]; with_reducible refine TouchMk.intro ?_)

theorem replayHostwr_touch (a1 : List Nat) (a2 : State) : Touch 0x8800000000000000000000000000000000000000000000000000000000000000000003000000000000000000000000000000000 a2 (replayHostwr a1 a2) := by
  unfold replayHostwr
  repeat' first
    | with_reducible exact Touch.refl _ _
    | ((with_reducible refine Eq.symm ?_); exact rfl)
    | with_reducible apply Touch.via (hostStore_touch _ _ _ _ _ _)

theorem replayTaken_touch (a1 : Nat) (a2 : Nat) (a3 : State) : Touch 0x8000000000000000000000000000000000000000000000000000000000000000000000000000000000000000000000000000000 a3 (replayTaken a1 a2 a3) := by
  unfold replayTaken
  repeat' first
    | with_reducible exact Touch.refl _ _
    | ((with_reducible refine Eq.symm ?_); exact rfl)
    | with_reducible apply Touch.via (State.modTrec_touch _ _ _)

theorem replayKind_touch {w : Nat} (hw : Nat.lor 0x8900000000000000000000000000000000000000000000000000000000000000000003000000000000000000000000000000000 w = w) (p pos : Nat) (e : List Nat) (late : Bool) (f : List Nat → State → State) (s : State)
    (hf : ∀ e t, Touch w t (f e t)) : Touch w s (replayKind p pos e late f s) := by
  have n : ∀ t, Touch w t (replayTaken p pos t) := fun t => (replayTaken_touch p pos t).mono (Touch.sub (by rfl) hw)
  unfold replayKind
  split
  · exact Touch.refl _ _
  · exact Touch.trans ((replaySources_touch _ _ _).mono (Touch.sub (by rfl) hw)) (n _)
  · exact Touch.trans ((replayHostwr_touch _ _).mono (Touch.sub (by rfl) hw)) (n _)
  · split
    · exact (hf _ _).trans (n _)
    · exact Touch.refl _ _

theorem replayInputs_touch {w : Nat} (hw : Nat.lor 0x8900000000000000000000000000000000000000000000000000000000000000000003000000000000000000000000000000000 w = w) (p : Nat) (st : Prod Nat Bool) (late : Bool) (f : List Nat → State → State) (s : State)
    (hf : ∀ e t, Touch w t (f e t)) : Touch w s (replayInputs p st late f s) := by
  unfold replayInputs
  refine Touch.foldl (fun t _ => Touch.ite (Touch.refl _ _) ?_) (Touch.refl _ _)
  exact replayKind_touch hw _ _ _ _ _ _ hf

theorem replayBell_touch (a1 : Nat) (a2 : State) : Touch 0x8000000000000000000000000000000000000000000000000000000000000000000000000000000000000000000000000000000 a2 (replayBell a1 a2) := by
  unfold replayBell
  repeat' first
    | with_reducible exact Touch.refl _ _
    | ((with_reducible refine Eq.symm ?_); exact rfl)
    | with_reducible refine Touch.ite ?_ ?_
    | with_reducible apply Touch.via (State.modTrec_touch _ _ _)

end Machine
end Sys2Proof
end

