-- ==== Sys2Proof/Laws/TouchPartStep.lean ====
section
/-! SUPPORT. What each operation of Machine/PartStep.lean leaves alone. -/
set_option linter.unusedVariables false
set_option Elab.async false
namespace Sys2Proof
namespace Machine

theorem zeroStages_touch (a1 : Nat) (a2 : State) : Touch 0x180000000000000000000000000000000000000000000000000000000000000000000000000000000000000000000000000000 a2 (zeroStages a1 a2) := by
  unfold zeroStages
  repeat' first
    | with_reducible exact Touch.refl _ _
    | (simp only [Touch.mk_eq]; with_reducible refine TouchMk.intro ?_)

theorem armStages_touch (a1 : Nat) (a2 : State) : Touch 0xb80000000000000000000000000000000000000000000000000000000000000000000000000000000000000000000000000000 a2 (armStages a1 a2) := by
  unfold armStages
  repeat' first
    | with_reducible exact Touch.refl _ _
    | ((with_reducible refine Eq.symm ?_); exact rfl)
    | with_reducible refine Touch.ite ?_ ?_
    | with_reducible apply Touch.via (clearStages_touch _ _)
    | with_reducible apply Touch.via (State.modPart_touch _ _ _)
    | with_reducible apply Touch.via (zeroStages_touch _ _)
    | with_reducible refine Touch.forEach ?_ ?_
    | (simp only [Touch.mk_eq]; with_reducible refine TouchMk.intro ?_ (hm := ?_))
    | with_reducible exact MemState.wf_mk
    | intro _

theorem mbxUnknown_touch (a1 : Nat) (a2 : State) : Touch 0x2100000000000000000000000000000000000000000002000000000000000000000000000000000000000000000000000000000 a2 (mbxUnknown a1 a2) := by
  unfold mbxUnknown
  repeat' first
    | with_reducible exact Touch.refl _ _
    | ((with_reducible refine Eq.symm ?_); exact rfl)
    | with_reducible apply Touch.via (mbxPresent_touch _ _ _ _)
    | with_reducible refine Touch.forEach ?_ ?_
    | intro _

theorem swapSlot_touch (a1 : Nat) (a2 : Nat) (a3 : State) : Touch 0x806ab800000000000000000000000000000060000000000020000000000000006000c0000000000000000000000000000000000400 a3 (swapSlot a1 a2 a3) := by
  unfold swapSlot
  repeat' first
    | with_reducible exact Touch.refl _ _
    | ((with_reducible refine Eq.symm ?_); exact rfl)
    | with_reducible apply Touch.via (bindAbort_touch _ _)
    | with_reducible apply Touch.via (State.modTrec_touch _ _ _)
    | with_reducible apply Touch.via (State.modLk_touch _ _ _)
    | with_reducible apply Touch.via (mbxUnknown_touch _ _)
    | with_reducible apply Touch.via (bindClear_touch _ _)
    | with_reducible apply Touch.via (armStages_touch _ _)
    | with_reducible refine Touch.sf ?_ ?_
    | with_reducible refine Touch.forEach ?_ ?_
    | intro _

theorem applySettings_touch (a1 : Nat) (a2 : Nat) (a3 : Nat) (a4 : Nat) (a5 : State) : Touch 0x806ab800000000000000000000000000000060000000000020000000000000006000c00000000000000080000000000000000ca400 a5 (applySettings a1 a2 a3 a4 a5) := by
  unfold applySettings
  repeat' first
    | with_reducible exact Touch.refl _ _
    | ((with_reducible refine Eq.symm ?_); exact rfl)
    | with_reducible refine Touch.ite ?_ ?_
    | with_reducible apply Touch.via (swapSlot_touch _ _ _)
    | with_reducible apply Touch.via (discardDebt_touch _ _)
    | with_reducible refine Touch.setReg ?_ ?_
    | with_reducible refine Touch.sf ?_ ?_

theorem settingsReplay_touch (a1 : Nat) (a2 : List Nat) (a3 : State) : Touch 0x806ab800000000000000000000000000000060000000000020000000000000006000c00000000000000080000000000000000ca400 a3 (settingsReplay a1 a2 a3) := by
  unfold settingsReplay
  repeat' first
    | with_reducible exact Touch.refl _ _
    | ((with_reducible refine Eq.symm ?_); exact rfl)
    | with_reducible apply Touch.via (applySettings_touch _ _ _ _ _)

theorem commitStatus_touch (a1 : Nat) (a2 : Nat) (a3 : State) : Touch 0x21400 a3 (commitStatus a1 a2 a3) := by
  unfold commitStatus
  repeat' first
    | with_reducible exact Touch.refl _ _
    | ((with_reducible refine Eq.symm ?_); exact rfl)
    | with_reducible apply Touch.via (pendingUpd_touch _ _)
    | with_reducible refine Touch.sf ?_ ?_

theorem applyCommit_touch (a1 : Nat) (a2 : State) : Touch 0x806ab8000000000000000000000000a0000060000000000020c00000000000006000c00030040000000080000000000000000eb400 a2 (applyCommit a1 a2) := by
  unfold applyCommit
  repeat' first
    | with_reducible exact Touch.refl _ _
    | ((with_reducible refine Eq.symm ?_); exact rfl)
    | with_reducible refine Touch.ite ?_ ?_
    | with_reducible apply Touch.via (State.modPart_touch _ _ _)
    | with_reducible apply Touch.via (commitStatus_touch _ _ _)
    | with_reducible apply Touch.via (logRefused_touch _ _ _ _ _)
    | with_reducible apply Touch.via (applySettings_touch _ _ _ _ _)
    | with_reducible apply Touch.via (settingsEntry_touch _ _)
    | with_reducible refine Touch.setReg ?_ ?_

theorem haltEnter_touch (a1 : Nat) (a2 : State) : Touch 0x26000000000000000000000000000000000000000000000c00000000000000000000000000000000000000000040000000c1400 a2 (haltEnter a1 a2) := by
  unfold haltEnter
  repeat' first
    | with_reducible exact Touch.refl _ _
    | ((with_reducible refine Eq.symm ?_); exact rfl)
    | with_reducible apply Touch.via (State.modPart_touch _ _ _)
    | with_reducible apply Touch.via (frzStatus_touch _ _)
    | with_reducible apply Touch.via (State.setFz_touch _ _ _)
    | with_reducible apply Touch.via (partEvent_touch _ _ _)
    | with_reducible apply Touch.via (pendingUpd_touch _ _)
    | with_reducible apply Touch.via (discardDebt_touch _ _)
    | with_reducible refine Touch.sf ?_ ?_

theorem faultArrive_touch (a1 : Nat) (a2 : Nat) (a3 : State) : Touch 0x600000000000000000000000000000000000000000000000000000000000000000000000000000000000000004000000000400 a3 (faultArrive a1 a2 a3) := by
  unfold faultArrive
  repeat' first
    | with_reducible exact Touch.refl _ _
    | ((with_reducible refine Eq.symm ?_); exact rfl)
    | with_reducible apply Touch.via (State.modPart_touch _ _ _)
    | with_reducible apply Touch.via (raiseLead_touch _ _ _ _)
    | with_reducible refine Touch.sf ?_ ?_
    | with_reducible refine Touch.forEach ?_ ?_
    | intro _
    | split

theorem triggersArrive_touch (a1 : Nat) (a2 : Nat) (a3 : State) : Touch 0x801aa000000000000000000000000000000060000000000000c000000000000000000000c220000000000000000000000000000400 a3 (triggersArrive a1 a2 a3) := by
  unfold triggersArrive
  repeat' first
    | with_reducible exact Touch.refl _ _
    | ((with_reducible refine Eq.symm ?_); exact rfl)
    | with_reducible apply Touch.via (designTrigger_touch _ _ _)
    | with_reducible refine Touch.foldl ?_ ?_
    | intro _

theorem withNextStep_touch {w : Nat} (hw : Nat.lor 0x220440000000000000000000000000000000000000000000000000000000000000000000000000000000000000000000000000000 w = w) (a1 : Nat) (a2 : Nat → State → State) (a3 : State) (ha2 : ∀ y0 t, Touch w t (a2 y0 t)) : Touch w a3 (withNextStep a1 a2 a3) := by
  unfold withNextStep
  repeat' first
    | with_reducible exact Touch.refl _ _
    | with_reducible assumption
    | with_reducible refine Touch.ite ?_ ?_
    | with_reducible apply Touch.after (ha2 _ _)
    | with_reducible apply Touch.via (advanceTo_touch _ _)

theorem faultRequestArrival_touch (a1 : Nat) (a2 : State) : Touch 0x220640000000000000000000000000000000000000000000000000000000000000000000000000000000000000004000000000400 a2 (faultRequestArrival a1 a2) := by
  unfold faultRequestArrival
  repeat' first
    | with_reducible exact Touch.refl _ _
    | ((with_reducible refine Eq.symm ?_); exact rfl)
    | with_reducible apply Touch.after (withNextStep_touch ?_ _ _ _ ?_)
    | with_reducible apply Touch.via (faultArrive_touch _ _ _)
    | intro _

theorem designTriggerEvent_touch (a1 : Nat) (a2 : State) : Touch 0x823ae400000000000000000000000000000060000000000000c000000000000000000000c220000000000000000000000000000400 a2 (designTriggerEvent a1 a2) := by
  unfold designTriggerEvent
  repeat' first
    | with_reducible exact Touch.refl _ _
    | ((with_reducible refine Eq.symm ?_); exact rfl)
    | with_reducible apply Touch.after (withNextStep_touch ?_ _ _ _ ?_)
    | with_reducible apply Touch.via (designTrigger_touch _ _ _)
    | intro _

theorem bindingEvent_touch (a1 : Nat) (a2 : State) : Touch 0x220540000000000000000000000000000000000000000000000000000000000000000000000000000000000000000000000000000 a2 (bindingEvent a1 a2) := by
  unfold bindingEvent
  repeat' first
    | with_reducible exact Touch.refl _ _
    | ((with_reducible refine Eq.symm ?_); exact rfl)
    | with_reducible apply Touch.after (withNextStep_touch ?_ _ _ _ ?_)
    | with_reducible apply Touch.via (bindingPresent_touch _ _ _)
    | intro _

theorem beginStep_touch (a1 : Nat) (a2 : Prod Nat Bool) (a3 : Bool) (a4 : State) : Touch 0x200000000000000000000000000000000000000000000000000000000000000000000000000000000000000000000000000400 a4 (beginStep a1 a2 a3 a4) := by
  unfold beginStep
  repeat' first
    | with_reducible exact Touch.refl _ _
    | ((with_reducible refine Eq.symm ?_); exact rfl)
    | with_reducible apply Touch.via (setStep_touch _ _ _)
    | with_reducible apply Touch.via (State.modPart_touch _ _ _)

theorem presentInputs_touch (a1 : Nat) (a2 : Prod Nat Bool) (a3 : State) : Touch 0x806af80000000000000000000000000000006000000000002000000000000c006000c00030000000000080000000840000000ca400 a3 (presentInputs a1 a2 a3) := by
  unfold presentInputs
  repeat' first
    | with_reducible exact Touch.refl _ _
    | ((with_reducible refine Eq.symm ?_); exact rfl)
    | with_reducible refine Touch.ite ?_ ?_
    | with_reducible apply Touch.via (replayBell_touch _ _)
    | with_reducible apply Touch.after (replayInputs_touch ?_ _ _ _ _ _ ?_)
    | with_reducible apply Touch.via (settingsReplay_touch _ _ _)
    | with_reducible apply Touch.via (bindingPresent_touch _ _ _)
    | with_reducible apply Touch.via (vecPresent_touch _ _)
    | with_reducible apply Touch.via (chainPresent_touch _ _)
    | with_reducible apply Touch.via (mbxPresents_touch _ _ _)
    | intro _

theorem decideMailboxes_touch (a1 : Nat) (a2 : Prod Nat Bool) (a3 : State) : Touch 0x2600000000000000000000000000000000000000000002000000000000000000000000000000000000000000084000000000000 a3 (decideMailboxes a1 a2 a3) := by
  unfold decideMailboxes
  repeat' first
    | with_reducible exact Touch.refl _ _
    | ((with_reducible refine Eq.symm ?_); exact rfl)
    | with_reducible refine Touch.ite ?_ ?_
    | with_reducible apply Touch.via (mbxDecisions_touch _ _ _ _)

theorem arrivals_touch (a1 : Nat) (a2 : Prod Nat Bool) (a3 : State) : Touch 0x817af800000000000000000000000000000060000000000020c0000000000c406000ca80f2200000000080000000840000000ca400 a3 (arrivals a1 a2 a3) := by
  unfold arrivals
  repeat' first
    | with_reducible exact Touch.refl _ _
    | ((with_reducible refine Eq.symm ?_); exact rfl)
    | with_reducible apply Touch.via (decideMailboxes_touch _ _ _)
    | with_reducible apply Touch.via (triggersArrive_touch _ _ _)
    | with_reducible apply Touch.via (faultArrive_touch _ _ _)
    | with_reducible apply Touch.via (pinTake_touch _ _)
    | with_reducible apply Touch.via (bindWindows_touch _ _ _)
    | with_reducible apply Touch.via (presentInputs_touch _ _ _)

theorem collect_touch {w : Nat} {s : State} {α : Type} {l : List α} {f : α → State → State × List StepFault} {x : State × List StepFault}
    (h : ∀ a t, Touch w t (f a t).1) (k : Touch w s x.1) : Touch w s (collect l f x).1 :=
  Touch.foldlFst (fun t a => h a t.1) k

theorem sendStep_touch (a1 : Nat) (a2 : State) (a3 : State) : Touch 0x8040000000000000000000000000000000000000000000000000000000000000000000000000000000000000000000000000000000 a3 (sendStep a1 a2 a3) := by
  unfold sendStep
  repeat' first
    | with_reducible exact Touch.refl _ _
    | ((with_reducible refine Eq.symm ?_); exact rfl)
    | with_reducible refine Touch.ite ?_ ?_
    | with_reducible apply Touch.via (chainSend_touch _ _ _)
    | with_reducible apply Touch.via (vecLaunch_touch _ _ _)
    | with_reducible apply Touch.via (vecSample_touch _ _ _)

theorem crossFail_touch (a1 : Nat) (a2 : Nat) (a3 : State) : Touch 0x280000000000000000000000000000000000000000000000000000000000000000000000000000000000000000000000000000 a3 (crossFail a1 a2 a3) := by
  unfold crossFail
  repeat' first
    | with_reducible exact Touch.refl _ _
    | ((with_reducible refine Eq.symm ?_); exact rfl)
    | with_reducible refine Touch.ite ?_ ?_
    | with_reducible apply Touch.via (State.modPart_touch _ _ _)
    | (simp only [Touch.mk_eq]; with_reducible refine TouchMk.intro ?_)

theorem activeStep_touch (a1 : Nat) (a2 : Nat) (a3 : List Nat) (a4 : State) : Touch 0x817ef800000000000000000000000140000060000000000020c0000000000c406000ca80f2200000008a818030f08401e0000ca438 a4 (activeStep a1 a2 a3 a4) := by
  unfold activeStep
  repeat' first
    | with_reducible exact Touch.refl _ _
    | ((with_reducible refine Eq.symm ?_); exact rfl)
    | with_reducible apply Touch.via (arrivals_touch _ _ _)
    | with_reducible apply Touch.via (deliverRet_touch _ _ _)
    | with_reducible apply Touch.via (followStep_touch _ _ _ _ _)
    | with_reducible refine collect_touch ?_ ?_
    | with_reducible apply Touch.via (classStep_touch _ _ _ _ _)
    | with_reducible apply Touch.via (exportStep_touch _ _ _ _)
    | with_reducible apply Touch.via (memStep_touch _ _ _ _)
    | with_reducible apply Touch.via (contention_touch _ _ _)
    | with_reducible apply Touch.via (netStep_touch _ _ _ _ _)
    | with_reducible apply Touch.via (sourcesEntries_touch _ _ _ _)
    | with_reducible apply Touch.via (pinSample_touch _ _ _)
    | with_reducible apply Touch.via (traceStep_touch _ _ _)
    | with_reducible apply Touch.via (raiseFaults_touch _ _ _ _ _)
    | with_reducible apply Touch.via (sendStep_touch _ _ _)
    | with_reducible apply Touch.via (crossFail_touch _ _ _)
    | with_reducible refine Touch.forEach ?_ ?_
    | intro _

theorem hallCheck_touch (a1 : Nat) (a2 : Nat) (a3 : State) : Touch 0x4400000000000000000000000000000000000000000000000000000000000000000000000000000000000000000000000000000 a3 (hallCheck a1 a2 a3) := by
  unfold hallCheck
  repeat' first
    | with_reducible exact Touch.refl _ _
    | ((with_reducible refine Eq.symm ?_); exact rfl)
    | with_reducible refine Touch.ite ?_ ?_
    | with_reducible apply Touch.via (modCtl_touch _ _ _ _)
    | (simp only [Touch.mk_eq]; with_reducible refine TouchMk.intro ?_)
    | split

theorem partStep_touch (a1 : Nat) (a2 : List Nat) (a3 : State) : Touch 0x837efc00000000000000000000000140000060000000000020c0000000000c406000ca80f2200000008a818030f08401e0000ca438 a3 (partStep a1 a2 a3) := by
  unfold partStep
  repeat' first
    | with_reducible exact Touch.refl _ _
    | ((with_reducible refine Eq.symm ?_); exact rfl)
    | with_reducible refine Touch.ite ?_ ?_
    | with_reducible apply Touch.via (hallCheck_touch _ _ _)
    | with_reducible apply Touch.via (advanceTo_touch _ _)
    | with_reducible apply Touch.via (activeStep_touch _ _ _ _)
    | with_reducible apply Touch.via (beginStep_touch _ _ _ _)
    | with_reducible apply Touch.via (decideMailboxes_touch _ _ _)

theorem gapSample_touch (a1 : Nat) (a2 : State) : Touch 0xc280000000000000000000000000000000000000000000000000000000000000000000000000000000000000000000000000400 a2 (gapSample a1 a2) := by
  unfold gapSample
  repeat' first
    | with_reducible exact Touch.refl _ _
    | ((with_reducible refine Eq.symm ?_); exact rfl)
    | with_reducible apply Touch.via (traceHalt_touch _ _)
    | with_reducible apply Touch.via (State.modPart_touch _ _ _)
    | with_reducible apply Touch.via (subSample_touch _ _)
    | with_reducible refine Touch.sflag ?_ ?_

theorem replayEnd_touch (a1 : Nat) (a2 : State) : Touch 0x8000000000000000000000000000000000000000000000000000000000000000000040000000000000000000000000000000000 a2 (replayEnd a1 a2) := by
  unfold replayEnd
  repeat' first
    | with_reducible exact Touch.refl _ _
    | ((with_reducible refine Eq.symm ?_); exact rfl)
    | with_reducible refine Touch.ite ?_ ?_
    | with_reducible apply Touch.via (State.modTrec_touch _ _ _)
    | with_reducible refine Touch.sf ?_ ?_

theorem gapEnd_touch (a1 : Nat) (a2 : State) : Touch 0x826ef8000000000000000000000001e0020060000000000020c00000000000006000c00430040000000080000000040000000eb53d a2 (gapEnd a1 a2) := by
  unfold gapEnd
  repeat' first
    | with_reducible exact Touch.refl _ _
    | ((with_reducible refine Eq.symm ?_); exact rfl)
    | with_reducible refine Touch.ite ?_ ?_
    | with_reducible apply Touch.via (applyCommit_touch _ _)
    | with_reducible apply Touch.via (subCommits_touch _ _)
    | with_reducible apply Touch.via (repairPart_touch _ _)
    | with_reducible apply Touch.after (replayInputs_touch ?_ _ _ _ _ _ ?_)
    | with_reducible apply Touch.via (settingsReplay_touch _ _ _)
    | with_reducible apply Touch.via (replayEnd_touch _ _)
    | with_reducible apply Touch.via (haltEnter_touch _ _)
    | with_reducible apply Touch.via (toutAhead_touch _ _)
    | with_reducible refine Touch.sf ?_ ?_
    | intro _

theorem freeTick_touch (a1 : Nat) (a2 : State) : Touch 0x422000000000000000000000000000000000000000000000c00000000000000000000000000000008a00000000000000000c0000 a2 (freeTick a1 a2) := by
  unfold freeTick
  repeat' first
    | with_reducible exact Touch.refl _ _
    | ((with_reducible refine Eq.symm ?_); exact rfl)
    | with_reducible refine Touch.ite ?_ ?_
    | with_reducible apply Touch.via (takeTick_touch _ _ _)

theorem gapDuties_touch (a1 : Nat) (a2 : Nat) (a3 : State) (a4 : State) : Touch 0x4ea800000000000000000000000000020000000000000000c00000000000000000001830000000008a00000000000000000c1405 a4 (gapDuties a1 a2 a3 a4) := by
  unfold gapDuties
  repeat' first
    | with_reducible exact Touch.refl _ _
    | ((with_reducible refine Eq.symm ?_); exact rfl)
    | with_reducible refine Touch.ite ?_ ?_
    | with_reducible apply Touch.via (gapSample_touch _ _)
    | with_reducible apply Touch.via (followCovered_touch _ _)
    | with_reducible apply Touch.via (followStep_touch _ _ _ _ _)
    | with_reducible apply Touch.via (takeSnapshot_touch _ _ _)
    | with_reducible apply Touch.via (State.modPart_touch _ _ _)
    | with_reducible apply Touch.via (followSweep_touch _ _)
    | with_reducible apply Touch.via (freeTick_touch _ _)
    | with_reducible refine Touch.forEach ?_ ?_
    | intro _

theorem gapRun_touch (a1 : Nat) (a2 : Nat) (a3 : State) : Touch 0x837ef8000000000000000000000001e0020060000000000020c0000000000c406000ca9cf2240000008a800000008401e0000eb53d a3 (gapRun a1 a2 a3) := by
  unfold gapRun
  repeat' first
    | with_reducible exact Touch.refl _ _
    | ((with_reducible refine Eq.symm ?_); exact rfl)
    | with_reducible refine Touch.ite ?_ ?_
    | with_reducible apply Touch.via (arrivals_touch _ _ _)
    | with_reducible apply Touch.via (beginStep_touch _ _ _ _)
    | with_reducible apply Touch.via (gapDuties_touch _ _ _ _)
    | with_reducible apply Touch.via (deliverRet_touch _ _ _)
    | with_reducible apply Touch.via (contention_touch _ _ _)
    | with_reducible refine collect_touch ?_ ?_
    | with_reducible apply Touch.via (netStep_touch _ _ _ _ _)
    | with_reducible apply Touch.via (sendStep_touch _ _ _)
    | with_reducible apply Touch.via (sourcesEntries_touch _ _ _ _)
    | with_reducible apply Touch.via (raiseFaults_touch _ _ _ _ _)
    | with_reducible apply Touch.via (gapEnd_touch _ _)
    | with_reducible refine Touch.forEach ?_ ?_
    | intro _

theorem gapStep_touch (a1 : Nat) (a2 : State) : Touch 0x837efc000000000000000000000001e0020060000000000020c0000000000c406000ca9cf2240000008a800000008401e0000eb53d a2 (gapStep a1 a2) := by
  unfold gapStep
  repeat' first
    | with_reducible exact Touch.refl _ _
    | ((with_reducible refine Eq.symm ?_); exact rfl)
    | with_reducible refine Touch.ite ?_ ?_
    | with_reducible apply Touch.via (gapRun_touch _ _ _)
    | with_reducible apply Touch.via (advanceTo_touch _ _)

theorem rewindRestore_touch (a1 : Nat) (a2 : Nat) (a3 : State) : Touch 0x8b800000000000000000000000000000000000000000000000000000000000000000030000000000080000000000000001ca400 a3 (rewindRestore a1 a2 a3) := by
  unfold rewindRestore
  repeat' first
    | with_reducible exact Touch.refl _ _
    | ((with_reducible refine Eq.symm ?_); exact rfl)
    | with_reducible apply Touch.via (unwind_touch _ _ _)
    | with_reducible apply Touch.via (putFlightNet_touch _ _ _)
    | with_reducible apply Touch.via (putFlightBp_touch _ _ _)
    | with_reducible apply Touch.via (restoreSlates_touch _ _ _)
    | with_reducible apply Touch.via (State.modPart_touch _ _ _)
    | with_reducible apply Touch.via (discardDebt_touch _ _)
    | with_reducible apply Touch.via (dropSnap_touch _ _ _)
    | with_reducible refine Touch.setReg ?_ ?_
    | with_reducible refine Touch.sf ?_ ?_
    | with_reducible refine Touch.forEach ?_ ?_
    | intro _

theorem rewindGap_touch (a1 : Nat) (a2 : State) : Touch 0x837efc000000000000000000000001e0020060000000000020c0000000000c406000ca9cf2240000008a800000008401e0000eb53d a2 (rewindGap a1 a2) := by
  unfold rewindGap
  repeat' first
    | with_reducible exact Touch.refl _ _
    | ((with_reducible refine Eq.symm ?_); exact rfl)
    | with_reducible apply Touch.via (State.modPart_touch _ _ _)
    | with_reducible apply Touch.via (gapRun_touch _ _ _)
    | with_reducible apply Touch.via (advanceTo_touch _ _)
    | with_reducible refine Touch.foldl ?_ ?_
    | intro _

theorem rewindDone_touch (a1 : Nat) (a2 : State) : Touch 0x837efc000000000000000000000001e0020060000000000020c0000000000c406000ca9cf2240000008a800000008401e0001eb53d a2 (rewindDone a1 a2) := by
  unfold rewindDone
  repeat' first
    | with_reducible exact Touch.refl _ _
    | ((with_reducible refine Eq.symm ?_); exact rfl)
    | with_reducible refine Touch.ite ?_ ?_
    | with_reducible apply Touch.via (rewindRestore_touch _ _ _)
    | with_reducible apply Touch.via (State.modTrec_touch _ _ _)
    | with_reducible apply Touch.after (replayInputs_touch ?_ _ _ _ _ _ ?_)
    | with_reducible apply Touch.via (settingsReplay_touch _ _ _)
    | with_reducible apply Touch.via (setStep_touch _ _ _)
    | with_reducible apply Touch.via (rewindGap_touch _ _)
    | with_reducible apply Touch.via (pendingUpd_touch _ _)
    | with_reducible refine Touch.sf ?_ ?_
    | intro _
    | split

theorem afterResume_touch (a1 : Nat) (a2 : State) : Touch 0x26000000000000000000000000000000000000000000000c00000000000000000000000000000000000000000040000000c1400 a2 (afterResume a1 a2) := by
  unfold afterResume
  repeat' first
    | with_reducible exact Touch.refl _ _
    | ((with_reducible refine Eq.symm ?_); exact rfl)
    | with_reducible refine Touch.ite ?_ ?_
    | with_reducible apply Touch.via (haltEnter_touch _ _)

theorem resumePointEvent_touch (a1 : Nat) (a2 : State) : Touch 0x822ae400000000000000000000000000000060000000000000c00000000000000000000000000000000000000000440000000c1400 a2 (resumePointEvent a1 a2) := by
  unfold resumePointEvent
  repeat' first
    | with_reducible exact Touch.refl _ _
    | ((with_reducible refine Eq.symm ?_); exact rfl)
    | with_reducible apply Touch.via (afterResume_touch _ _)
    | with_reducible apply Touch.via (resumePoint_touch _ _)

theorem chainResumeEvent_touch (a1 : Nat) (a2 : State) : Touch 0x822ae400000000000000000000000000000060000000000000c00000000000000000000000000000000000000000440000000c1400 a2 (chainResumeEvent a1 a2) := by
  unfold chainResumeEvent
  repeat' first
    | with_reducible exact Touch.refl _ _
    | ((with_reducible refine Eq.symm ?_); exact rfl)
    | with_reducible apply Touch.via (afterResume_touch _ _)
    | with_reducible apply Touch.via (chainResumeExpiry_touch _ _)

end Machine
end Sys2Proof
end

