-- ==== Sys2Proof/Laws/TouchBorder.lean ====
section
/-! SUPPORT. What each operation of Machine/Border.lean leaves alone. -/
set_option linter.unusedVariables false
set_option Elab.async false
namespace Sys2Proof
namespace Machine

theorem classOwn_touch (a1 : Nat) (a2 : Nat) (a3 : Bool) (a4 : State) : Touch 0x200 a4 (classOwn a1 a2 a3 a4) := by
  unfold classOwn
  repeat' first
    | with_reducible exact Touch.refl _ _
    | ((with_reducible refine Eq.symm ?_); exact rfl)
    | with_reducible refine Touch.sf ?_ ?_
    | with_reducible refine Touch.sflag ?_ ?_

theorem segOwn_touch (a1 : Nat) (a2 : Nat) (a3 : Bool) (a4 : State) : Touch 0x60000000000 a4 (segOwn a1 a2 a3 a4) := by
  unfold segOwn
  repeat' first
    | with_reducible exact Touch.refl _ _
    | ((with_reducible refine Eq.symm ?_); exact rfl)
    | with_reducible refine Touch.sf ?_ ?_
    | with_reducible refine Touch.sflag ?_ ?_
    | (rw [Fld.nth_reg]; rfl)
    | dsimp only

theorem slotOwn_touch (a1 : Nat) (a2 : Nat) (a3 : Bool) (a4 : State) : Touch 0x380000000000 a4 (slotOwn a1 a2 a3 a4) := by
  unfold slotOwn
  repeat' first
    | with_reducible exact Touch.refl _ _
    | ((with_reducible refine Eq.symm ?_); exact rfl)
    | with_reducible refine Touch.ite ?_ ?_
    | with_reducible refine Touch.sf ?_ ?_
    | with_reducible refine Touch.sflag ?_ ?_
    | (rw [Fld.nth_reg]; rfl)
    | dsimp only

theorem ioOwn_touch (a1 : Nat) (a2 : Nat) (a3 : Bool) (a4 : State) : Touch 0x2100000000000000000000000000000000000000000002000000000000000000000000000000000000000000000000000000000 a4 (ioOwn a1 a2 a3 a4) := by
  unfold ioOwn
  repeat' first
    | with_reducible exact Touch.refl _ _
    | ((with_reducible refine Eq.symm ?_); exact rfl)
    | with_reducible refine Touch.ite ?_ ?_
    | with_reducible apply Touch.via (mbxEmpty_touch _ _)
    | (simp only [Touch.mk_eq]; with_reducible refine TouchMk.intro ?_)

theorem portOwn_touch (a1 : Nat) (a2 : Nat) (a3 : Bool) (a4 : State) : Touch 0x100000000000000000000000000000000000000000000 a4 (portOwn a1 a2 a3 a4) := by
  unfold portOwn
  repeat' first
    | with_reducible exact Touch.refl _ _
    | ((with_reducible refine Eq.symm ?_); exact rfl)
    | with_reducible refine Touch.sf ?_ ?_
    | with_reducible refine Touch.sflag ?_ ?_

theorem stwOwn_touch (a1 : Nat) (a2 : Nat) (a3 : Bool) (a4 : State) : Touch 0x80288000000000000000000000000000000060000000000000000000000000006000c0000000000000000000000000000000000000 a4 (stwOwn a1 a2 a3 a4) := by
  unfold stwOwn
  repeat' first
    | with_reducible exact Touch.refl _ _
    | ((with_reducible refine Eq.symm ?_); exact rfl)
    | with_reducible refine Touch.ite ?_ ?_
    | with_reducible apply Touch.via (closeRec_touch _ _ _ _)
    | with_reducible apply Touch.via (endBound_touch _ _)
    | with_reducible refine Touch.sf ?_ ?_
    | with_reducible refine Touch.sflag ?_ ?_

theorem pinOwn_touch (a1 : Nat) (a2 : Nat) (a3 : State) : Touch 0x10000000000000000000000000000000000000000000000000000000000000000000000000000000000 a3 (pinOwn a1 a2 a3) := by
  unfold pinOwn
  repeat' first
    | with_reducible exact Touch.refl _ _
    | ((with_reducible refine Eq.symm ?_); exact rfl)
    | with_reducible refine Touch.sf ?_ ?_

theorem pinDrop_touch (a1 : Nat) (a2 : State) : Touch 0x100000000000000000000010000000000000000000000000000000000000000000000000000000000000000000000000000000000 a2 (pinDrop a1 a2) := by
  unfold pinDrop
  repeat' first
    | with_reducible exact Touch.refl _ _
    | ((with_reducible refine Eq.symm ?_); exact rfl)
    | with_reducible refine Touch.sf ?_ ?_
    | (simp only [Touch.mk_eq]; with_reducible refine TouchMk.intro ?_)

theorem giveRes_touch (a1 : Nat) (a2 : Resources) (a3 : State) : Touch 0x802a9000000000000000000100000000000060000000000020000000000001006000c00000000000000000000000003e0000000200 a3 (giveRes a1 a2 a3) := by
  unfold giveRes
  repeat' first
    | with_reducible exact Touch.refl _ _
    | ((with_reducible refine Eq.symm ?_); exact rfl)
    | with_reducible apply Touch.via (classOwn_touch _ _ _ _)
    | with_reducible apply Touch.via (segOwn_touch _ _ _ _)
    | with_reducible apply Touch.via (slotOwn_touch _ _ _ _)
    | with_reducible apply Touch.via (ioOwn_touch _ _ _ _)
    | with_reducible apply Touch.via (portOwn_touch _ _ _ _)
    | with_reducible apply Touch.via (stwOwn_touch _ _ _ _)
    | with_reducible apply Touch.via (pinOwn_touch _ _ _)
    | with_reducible refine Touch.forEach ?_ ?_
    | intro _

theorem dropRes_touch (a1 : Nat) (a2 : Resources) (a3 : State) : Touch 0x812a9000000000000000000100000000000060000000000020000000000001006000c00000000000000000000000003e0000000200 a3 (dropRes a1 a2 a3) := by
  unfold dropRes
  repeat' first
    | with_reducible exact Touch.refl _ _
    | ((with_reducible refine Eq.symm ?_); exact rfl)
    | with_reducible apply Touch.via (classOwn_touch _ _ _ _)
    | with_reducible apply Touch.via (segOwn_touch _ _ _ _)
    | with_reducible apply Touch.via (slotOwn_touch _ _ _ _)
    | with_reducible apply Touch.via (ioOwn_touch _ _ _ _)
    | with_reducible apply Touch.via (portOwn_touch _ _ _ _)
    | with_reducible apply Touch.via (stwOwn_touch _ _ _ _)
    | with_reducible apply Touch.via (pinDrop_touch _ _)
    | with_reducible refine Touch.forEach ?_ ?_
    | intro _

theorem setBudget_touch (a1 : Nat) (a2 : Nat) (a3 : Nat) (a4 : State) : Touch 0xc00000000000000000000 a4 (setBudget a1 a2 a3 a4) := by
  unfold setBudget
  repeat' first
    | with_reducible exact Touch.refl _ _
    | with_reducible refine Touch.ite ?_ ?_
    | with_reducible refine Touch.sf ?_ ?_
    | (rw [Fld.nth_reg]; rfl)

theorem bankGive_touch (a1 : Nat) (a2 : Nat) (a3 : Nat) (a4 : State) : Touch 0x800000000000000 a4 (bankGive a1 a2 a3 a4) := by
  unfold bankGive
  repeat' first
    | with_reducible exact Touch.refl _ _
    | ((with_reducible refine Eq.symm ?_); exact rfl)
    | with_reducible refine Touch.sf ?_ ?_

theorem bankDrop_touch (a1 : Nat) (a2 : State) : Touch 0x4000800000000000000 a2 (bankDrop a1 a2) := by
  unfold bankDrop
  repeat' first
    | with_reducible exact Touch.refl _ _
    | ((with_reducible refine Eq.symm ?_); exact rfl)
    | with_reducible apply Touch.via (marchAbort_touch _ _)
    | with_reducible refine Touch.sf ?_ ?_

theorem regionGive_touch (a1 : Nat) (a2 : Nat) (a3 : Nat) (a4 : Nat) (a5 : State) : Touch 0x800000000000000000000000000000000000000000000000000000000000000000000000000000004000000000000000000000 a5 (regionGive a1 a2 a3 a4 a5) := by
  unfold regionGive
  repeat' first
    | with_reducible exact Touch.refl _ _
    | ((with_reducible refine Eq.symm ?_); exact rfl)
    | with_reducible refine Touch.sf ?_ ?_
    | with_reducible refine Touch.forEach ?_ ?_
    | (simp only [Touch.mk_eq]; with_reducible refine TouchMk.intro ?_ (hm := ?_))
    | with_reducible exact MemState.wf_mk
    | intro _
    | split
    | dsimp only

theorem regionDrop_touch (a1 : Nat) (a2 : State) : Touch 0x800000000000000000000000000000000000000000000000000000000000000000000000000000004000000000000000000000 a2 (regionDrop a1 a2) := by
  unfold regionDrop
  repeat' first
    | with_reducible exact Touch.refl _ _
    | ((with_reducible refine Eq.symm ?_); exact rfl)
    | with_reducible refine Touch.setReg ?_ ?_
    | with_reducible refine Touch.forEach ?_ ?_
    | (simp only [Touch.mk_eq]; with_reducible refine TouchMk.intro ?_ (hm := ?_))
    | with_reducible exact MemState.wf_mk
    | intro _

theorem zeroClassHalf_touch (a1 : Nat) (a2 : Nat) (a3 : Bool) (a4 : State) : Touch 0x80000000000000000000000000000000000000000000000000000000000000000000000000000000000000000000000000000 a4 (zeroClassHalf a1 a2 a3 a4) := by
  unfold zeroClassHalf
  repeat' first
    | with_reducible exact Touch.refl _ _
    | (simp only [Touch.mk_eq]; with_reducible refine TouchMk.intro ?_)

theorem zeroSwitches_touch (a1 : Nat) (a2 : Nat) (a3 : State) : Touch 0x100000000000000000000000000000000000000000000000000000000000000000000000000000000000000000000000000000 a3 (zeroSwitches a1 a2 a3) := by
  unfold zeroSwitches
  repeat' first
    | with_reducible exact Touch.refl _ _
    | (simp only [Touch.mk_eq]; with_reducible refine TouchMk.intro ?_)

theorem zeroSlot_touch (a1 : Nat) (a2 : Nat) (a3 : Bool) (a4 : State) : Touch 0x180000000000000000000000000000000000000000000000000000000000000000000000000000000000000000000000000000 a4 (zeroSlot a1 a2 a3 a4) := by
  unfold zeroSlot
  repeat' first
    | with_reducible exact Touch.refl _ _
    | ((with_reducible refine Eq.symm ?_); exact rfl)
    | with_reducible apply Touch.via (zeroSwitches_touch _ _ _)
    | with_reducible apply Touch.via (zeroClassHalf_touch _ _ _ _)
    | with_reducible refine Touch.forEach ?_ ?_
    | intro _

theorem fenceBorder_touch (a1 : Nat) (a2 : State) : Touch 0x802aa000000000000000000000000000000060000000000020000000000000006000c0000000000000000000000000000000000000 a2 (fenceBorder a1 a2) := by
  unfold fenceBorder
  repeat' first
    | with_reducible exact Touch.refl _ _
    | ((with_reducible refine Eq.symm ?_); exact rfl)
    | with_reducible refine Touch.ite ?_ ?_
    | with_reducible apply Touch.via (bindAbort_touch _ _)
    | with_reducible apply Touch.via (mbxEmpty_touch _ _)
    | with_reducible apply Touch.via (State.setPart_touch _ _ _)
    | with_reducible refine Touch.forEach ?_ ?_
    | intro _

theorem enterFenced_touch (a1 : Nat) (a2 : State) : Touch 0x80eae000000000000030000002000000000060000000000020c00000000420006000c00000000000008a0000000004400000021400 a2 (enterFenced a1 a2) := by
  unfold enterFenced
  repeat' first
    | with_reducible exact Touch.refl _ _
    | ((with_reducible refine Eq.symm ?_); exact rfl)
    | with_reducible apply Touch.via (dropFreeze_touch _ _)
    | with_reducible apply Touch.via (fenceBorder_touch _ _)
    | with_reducible apply Touch.via (State.modPart_touch _ _ _)
    | with_reducible apply Touch.via (updLinks_touch _)
    | with_reducible apply Touch.via (partEvent_touch _ _ _)
    | with_reducible apply Touch.via (pendingUpd_touch _ _)
    | with_reducible refine Touch.sf ?_ ?_

theorem clearLat_touch (a1 : Nat) (a2 : State) : Touch 0x700000080100001000000000 a2 (clearLat a1 a2) := by
  unfold clearLat
  repeat' first
    | with_reducible exact Touch.refl _ _
    | ((with_reducible refine Eq.symm ?_); exact rfl)
    | with_reducible refine Touch.setReg ?_ ?_
    | with_reducible refine Touch.sf ?_ ?_
    | with_reducible refine Touch.resetReg ?_ ?_
    | with_reducible refine Touch.forUpTo ?_ ?_
    | intro _

theorem zeroRepair_touch (a1 : Nat) (a2 : State) : Touch 0x800000000000000000000000000000000000000000000000000000000000000000000000000000000000000000000000000000 a2 (zeroRepair a1 a2) := by
  unfold zeroRepair
  repeat' first
    | with_reducible exact Touch.refl _ _
    | with_reducible refine Touch.ite ?_ ?_
    | (simp only [Touch.mk_eq]; with_reducible refine TouchMk.intro ?_ (hm := ?_))
    | exact MemState.wf_foldl _ _ (fun m _ => MemState.wf_refill m _ _) _

theorem clearPart_touch (a1 : Nat) (a2 : State) : Touch 0x400200000000000000000000000000000000000000000000000000000000000000000041000000000000000000000000000021400 a2 (clearPart a1 a2) := by
  unfold clearPart
  repeat' first
    | with_reducible exact Touch.refl _ _
    | ((with_reducible refine Eq.symm ?_); exact rfl)
    | with_reducible apply Touch.via (State.setPart_touch _ _ _)
    | with_reducible refine Touch.setReg ?_ ?_
    | with_reducible refine Touch.sf ?_ ?_
    | (simp only [Touch.mk_eq]; with_reducible refine TouchMk.intro ?_)

theorem doneUpd_touch (a1 : State) : Touch 0x2000000000000000000000000000 a1 (doneUpd a1) := by
  unfold doneUpd
  repeat' first
    | with_reducible exact Touch.refl _ _
    | ((with_reducible refine Eq.symm ?_); exact rfl)
    | with_reducible refine Touch.sflag ?_ ?_

theorem toEmpty_touch (a1 : Nat) (a2 : State) : Touch 0x85eef800000000000030000102000000020060000000000020c00000000421006000c0043000002000fa4c040809047e10000e1605 a2 (toEmpty a1 a2) := by
  unfold toEmpty
  repeat' first
    | with_reducible exact Touch.refl _ _
    | ((with_reducible refine Eq.symm ?_); exact rfl)
    | with_reducible apply Touch.via (followsCancel_touch _ _)
    | with_reducible apply Touch.via (fenceBorder_touch _ _)
    | with_reducible apply Touch.via (dropAllSnaps_touch _ _)
    | with_reducible apply Touch.via (zeroSlot_touch _ _ _ _)
    | with_reducible apply Touch.via (discardDebt_touch _ _)
    | with_reducible apply Touch.via (dropFreeze_touch _ _)
    | with_reducible apply Touch.via (zeroRepair_touch _ _)
    | with_reducible apply Touch.via (armStages_touch _ _)
    | with_reducible apply Touch.via (clearLat_touch _ _)
    | with_reducible apply Touch.via (releaseMemory_touch _ _)
    | with_reducible apply Touch.via (dropRes_touch _ _ _)
    | with_reducible apply Touch.via (State.modTrec_touch _ _ _)
    | with_reducible apply Touch.via (doneUpd_touch _)
    | with_reducible apply Touch.via (updLinks_touch _)
    | with_reducible apply Touch.via (partEvent_touch _ _ _)
    | with_reducible apply Touch.via (slotsUpd_touch _ _)
    | with_reducible apply Touch.via (pendingUpd_touch _ _)
    | with_reducible apply Touch.via (clearPart_touch _ _)

end Machine
end Sys2Proof
end

