-- ==== Sys2Proof/Laws/TouchLoad.lean ====
section
/-! SUPPORT. What each operation of Machine/Load.lean leaves alone. -/
set_option linter.unusedVariables false
set_option Elab.async false
namespace Sys2Proof
namespace Machine

theorem State.setLdc_touch (a1 : State) (a2 : Nat) (a3 : LoadCtx) : Touch 0x400000000000000000000000000000000000000000000000000000000000000000000000000000000000000000000000000000000 a1 (State.setLdc a1 a2 a3) := by
  unfold State.setLdc
  repeat' first
    | with_reducible exact Touch.refl _ _
    | (simp only [Touch.mk_eq]; with_reducible refine TouchMk.intro ?_)

theorem State.modLdc_touch (a1 : State) (a2 : Nat) (a3 : LoadCtx → LoadCtx) : Touch 0x400000000000000000000000000000000000000000000000000000000000000000000000000000000000000000000000000000000 a1 (State.modLdc a1 a2 a3) := by
  unfold State.modLdc
  repeat' first
    | with_reducible exact Touch.refl _ _
    | ((with_reducible refine Eq.symm ?_); exact rfl)
    | with_reducible apply Touch.via (State.setLdc_touch _ _ _)

theorem loadBegin_touch (a1 : Nat) (a2 : Nat) (a3 : Nat) (a4 : Bool) (a5 : Bool) (a6 : Nat) (a7 : Option (Prod Nat Nat)) (a8 : State) : Touch 0x400000000000000000000000000000000000000000000000000000000000000000000000000002440000000000000000000000000 a8 (loadBegin a1 a2 a3 a4 a5 a6 a7 a8) := by
  unfold loadBegin
  repeat' first
    | with_reducible exact Touch.refl _ _
    | ((with_reducible refine Eq.symm ?_); exact rfl)
    | with_reducible apply Touch.via (State.setLdc_touch _ _ _)
    | with_reducible apply Touch.via (doneUpd_touch _)
    | with_reducible refine Touch.setReg ?_ ?_
    | with_reducible refine Touch.sf ?_ ?_
    | (simp only [Touch.mk_eq]; with_reducible refine TouchMk.intro ?_)

theorem loaderStart_touch (a1 : Requester) (a2 : Nat) (a3 : Nat) (a4 : Nat) (a5 : Bool) (a6 : Bool) (a7 : Nat) (a8 : State) : Touch 0x440200000000000000000000000000a0000000000000000000c0000000000000000000000000002440000000000000000000000000 a8 (loaderStart a1 a2 a3 a4 a5 a6 a7 a8) := by
  unfold loaderStart
  repeat' first
    | with_reducible exact Touch.refl _ _
    | ((with_reducible refine Eq.symm ?_); exact rfl)
    | with_reducible refine Touch.ite ?_ ?_
    | with_reducible apply Touch.via (denyWrite_touch _ _ _ _ _)
    | with_reducible apply Touch.via (loadBegin_touch _ _ _ _ _ _ _ _)
    | with_reducible apply Touch.via (okResp_touch _ _)
    | with_reducible apply Touch.via (logRefused_touch _ _ _ _ _)
    | with_reducible refine Touch.sf ?_ ?_
    | (simp only [Touch.mk_eq]; with_reducible refine TouchMk.intro ?_)

theorem loadZeroise_touch (a1 : Nat) (a2 : State) : Touch 0x85eef800000000000030000102000000020060000000000020c00000000421006000c0043000002000fa4c040809047e10000e1605 a2 (loadZeroise a1 a2) := by
  unfold loadZeroise
  repeat' first
    | with_reducible exact Touch.refl _ _
    | ((with_reducible refine Eq.symm ?_); exact rfl)
    | with_reducible refine Touch.ite ?_ ?_
    | with_reducible apply Touch.via (zeroSlot_touch _ _ _ _)
    | with_reducible apply Touch.via (bankDrop_touch _ _)
    | with_reducible apply Touch.via (regionDrop_touch _ _)
    | with_reducible apply Touch.via (setBudget_touch _ _ _ _)
    | with_reducible apply Touch.via (dropRes_touch _ _ _)
    | with_reducible apply Touch.via (toEmpty_touch _ _)
    | with_reducible refine Touch.sf ?_ ?_
    | with_reducible refine Touch.forEach ?_ ?_
    | with_reducible refine Touch.forUpTo ?_ ?_
    | intro _

theorem loadEnd_touch (a1 : Nat) (a2 : LoadEnd) (a3 : State) : Touch 0x85eef800000000000030000102000140020060000000000020c00000000421006000c004300000a3c0fa4c040809047e10000e1605 a3 (loadEnd a1 a2 a3) := by
  unfold loadEnd
  repeat' first
    | with_reducible exact Touch.refl _ _
    | ((with_reducible refine Eq.symm ?_); exact rfl)
    | with_reducible refine Touch.ite ?_ ?_
    | with_reducible apply Touch.via (report_touch _ _ _ _ _ _ _ _)
    | with_reducible apply Touch.via (loadZeroise_touch _ _)
    | with_reducible apply Touch.via (State.setLdc_touch _ _ _)
    | with_reducible apply Touch.via (doneUpd_touch _)
    | with_reducible apply Touch.via (partEvent_touch _ _ _)
    | with_reducible apply Touch.via (raiseIrq_touch _ _)
    | with_reducible refine Touch.sf ?_ ?_
    | split

theorem loadTrunc_touch (a1 : Nat) (a2 : Nat) (a3 : State) : Touch 0x85eef800000000000030000102000140020060000000000020c00000000421006000c004300000a3c0fa4c040809047e10000e1605 a3 (loadTrunc a1 a2 a3) := by
  unfold loadTrunc
  repeat' first
    | with_reducible exact Touch.refl _ _
    | ((with_reducible refine Eq.symm ?_); exact rfl)
    | with_reducible apply Touch.via (loadEnd_touch _ _ _)

theorem loaderCancel_touch (a1 : Requester) (a2 : Nat) (a3 : State) : Touch 0xc5eef8000000000000300001020001e0020060000000000020c00000000421006000c004300000a3c0fa4c040809047e10000e1605 a3 (loaderCancel a1 a2 a3) := by
  unfold loaderCancel
  repeat' first
    | with_reducible exact Touch.refl _ _
    | ((with_reducible refine Eq.symm ?_); exact rfl)
    | with_reducible refine Touch.ite ?_ ?_
    | with_reducible apply Touch.via (denyWrite_touch _ _ _ _ _)
    | with_reducible apply Touch.via (loadTrunc_touch _ _ _)
    | with_reducible apply Touch.via (okResp_touch _ _)
    | with_reducible apply Touch.via (logRefused_touch _ _ _ _ _)
    | with_reducible refine Touch.sf ?_ ?_

theorem loadTimeout_touch (a1 : Nat) (a2 : State) : Touch 0x85eef800000000000030000102000140020060000000000020c00000000421006000c004300000a3c0fa4c040809047e10000e1605 a2 (loadTimeout a1 a2) := by
  unfold loadTimeout
  repeat' first
    | with_reducible exact Touch.refl _ _
    | ((with_reducible refine Eq.symm ?_); exact rfl)
    | with_reducible refine Touch.ite ?_ ?_
    | with_reducible apply Touch.via (loadTrunc_touch _ _ _)

theorem loadsEnd_touch (a1 : Nat) (a2 : Nat) (a3 : State) : Touch 0x85eef800000000000030000102000140020060000000000020c00000000421006000c004300000a3c0fa4c040809047e10000e1605 a3 (loadsEnd a1 a2 a3) := by
  unfold loadsEnd
  repeat' first
    | with_reducible exact Touch.refl _ _
    | ((with_reducible refine Eq.symm ?_); exact rfl)
    | with_reducible refine Touch.ite ?_ ?_
    | with_reducible apply Touch.via (loadTrunc_touch _ _ _)
    | with_reducible refine Touch.forUpTo ?_ ?_
    | intro _

theorem setLat_touch (a1 : Nat) (a2 : List Nat) (a3 : Nat) (a4 : State) : Touch 0x700000080100001000000000 a4 (setLat a1 a2 a3 a4) := by
  unfold setLat
  repeat' first
    | with_reducible exact Touch.refl _ _
    | ((with_reducible refine Eq.symm ?_); exact rfl)
    | with_reducible refine Touch.setReg ?_ ?_
    | with_reducible refine Touch.sf ?_ ?_
    | with_reducible refine Touch.sflag ?_ ?_
    | with_reducible refine Touch.forUpTo ?_ ?_
    | intro _

theorem grantAll_touch (a1 : Nat) (a2 : State) : Touch 0x802a9000000000000000000100000000000060000000000020000000000001006000c0000000000000004c000008003e0000000200 a2 (grantAll a1 a2) := by
  unfold grantAll
  repeat' first
    | with_reducible exact Touch.refl _ _
    | ((with_reducible refine Eq.symm ?_); exact rfl)
    | with_reducible apply Touch.via (giveRes_touch _ _ _)
    | with_reducible apply Touch.via (bankGive_touch _ _ _ _)
    | with_reducible apply Touch.via (regionGive_touch _ _ _ _ _)
    | with_reducible apply Touch.via (setBudget_touch _ _ _ _)
    | with_reducible refine Touch.forEach ?_ ?_
    | with_reducible refine Touch.forUpTo ?_ ?_
    | intro _

theorem enterReplace_touch (a1 : Nat) (a2 : State) : Touch 0x85eef800000000000030000102000000020060000000000020c00000000421006000c0043000000000fa4c040809047e10000e1605 a2 (enterReplace a1 a2) := by
  unfold enterReplace
  repeat' first
    | with_reducible exact Touch.refl _ _
    | ((with_reducible refine Eq.symm ?_); exact rfl)
    | with_reducible refine Touch.ite ?_ ?_
    | with_reducible apply Touch.via (followsCancel_touch _ _)
    | with_reducible apply Touch.via (dropAllSnaps_touch _ _)
    | with_reducible apply Touch.via (fenceBorder_touch _ _)
    | with_reducible apply Touch.via (dropFreeze_touch _ _)
    | with_reducible apply Touch.via (discardDebt_touch _ _)
    | with_reducible apply Touch.via (zeroSlot_touch _ _ _ _)
    | with_reducible apply Touch.via (bankDrop_touch _ _)
    | with_reducible apply Touch.via (regionDrop_touch _ _)
    | with_reducible apply Touch.via (dropRes_touch _ _ _)
    | with_reducible apply Touch.via (State.modPart_touch _ _ _)
    | with_reducible apply Touch.via (updLinks_touch _)
    | with_reducible apply Touch.via (slotsUpd_touch _ _)
    | with_reducible apply Touch.via (setLat_touch _ _ _ _)
    | with_reducible apply Touch.via (grantAll_touch _ _)
    | with_reducible refine Touch.setReg ?_ ?_
    | with_reducible refine Touch.sf ?_ ?_
    | with_reducible refine Touch.forEach ?_ ?_
    | with_reducible refine Touch.foldl ?_ ?_
    | (simp only [Touch.mk_eq]; with_reducible refine TouchMk.intro ?_ (hm := ?_))
    | with_reducible exact MemState.wf_mk
    | intro _

theorem enterStandby_touch (a1 : Nat) (a2 : State) : Touch 0x81eaf800000000000030000102000000000060000000000020c00000000421006000c00030000000008a4c040008047e0000000600 a2 (enterStandby a1 a2) := by
  unfold enterStandby
  repeat' first
    | with_reducible exact Touch.refl _ _
    | ((with_reducible refine Eq.symm ?_); exact rfl)
    | with_reducible apply Touch.via (dropSnap_touch _ _ _)
    | with_reducible apply Touch.via (zeroSlot_touch _ _ _ _)
    | with_reducible apply Touch.via (dropRes_touch _ _ _)
    | with_reducible apply Touch.via (bankDrop_touch _ _)
    | with_reducible apply Touch.via (regionDrop_touch _ _)
    | with_reducible apply Touch.via (State.modPart_touch _ _ _)
    | with_reducible apply Touch.via (updLinks_touch _)
    | with_reducible apply Touch.via (grantAll_touch _ _)
    | with_reducible refine Touch.sf ?_ ?_
    | with_reducible refine Touch.forEach ?_ ?_
    | intro _

theorem loadWrite_touch (a1 : Nat) (a2 : State) : Touch 0x85eef8000000000000300001020001e0020060000000000020c00000000421006000c004300000a3c0fa4c040809047e10000e1605 a2 (loadWrite a1 a2) := by
  unfold loadWrite
  repeat' first
    | with_reducible exact Touch.refl _ _
    | ((with_reducible refine Eq.symm ?_); exact rfl)
    | with_reducible refine Touch.ite ?_ ?_
    | with_reducible apply Touch.via (logRefused_touch _ _ _ _ _)
    | with_reducible apply Touch.via (loadEnd_touch _ _ _)
    | with_reducible apply Touch.via (pendingUpd_touch _ _)
    | with_reducible apply Touch.via (State.modLdc_touch _ _ _)
    | with_reducible apply Touch.via (enterStandby_touch _ _)
    | with_reducible apply Touch.via (enterReplace_touch _ _)
    | with_reducible refine Touch.sf ?_ ?_

theorem putImem_touch (a1 : Nat) (a2 : Nat) (a3 : List Nat) (a4 : List Nat) (a5 : State) : Touch 0x80000000000000000000000000000000000000000000000000000000000000000000000000000000000000000000000000000 a5 (putImem a1 a2 a3 a4 a5) := by
  unfold putImem
  repeat' first
    | with_reducible exact Touch.refl _ _
    | with_reducible refine Touch.forUpTo ?_ ?_
    | (simp only [Touch.mk_eq]; with_reducible refine TouchMk.intro ?_)
    | intro _

theorem putExport_touch (a1 : Nat) (a2 : Nat) (a3 : List Nat) (a4 : List Nat) (a5 : State) : Touch 0x80000000000000000000000000000000000000000000000000000000000000000000000000000000000000000000000000000 a5 (putExport a1 a2 a3 a4 a5) := by
  unfold putExport
  repeat' first
    | with_reducible exact Touch.refl _ _
    | with_reducible refine Touch.forUpTo ?_ ?_
    | (simp only [Touch.mk_eq]; with_reducible refine TouchMk.intro ?_)
    | intro _

theorem putMem_touch (a1 : Nat) (a2 : Nat) (a3 : List Nat) (a4 : List Nat) (a5 : State) : Touch 0x80000000000000000000000000000000000000000000000000000000000000000000000000000000000000000000000000000 a5 (putMem a1 a2 a3 a4 a5) := by
  unfold putMem
  repeat' first
    | with_reducible exact Touch.refl _ _
    | with_reducible refine Touch.forUpTo ?_ ?_
    | (simp only [Touch.mk_eq]; with_reducible refine TouchMk.intro ?_)
    | intro _

theorem ldFill_touch (x : LoadCtx) (xm : Bool) (s : State) : Touch 0x800000000000000000000000000000000000000000000000000000000000000000000000000000000000000000000000000000 s (ldFill x xm s) := by
  unfold ldFill
  simp only [Touch.mk_eq]
  refine TouchMk.intro (Touch.refl _ _) (hm := fun h => ?_)
  unfold ldFilled
  exact MemState.wf_foldl _ _ (fun m e h => MemState.wf_foldl _ _ (fun m g h => MemState.wf_refill m _ _ h) m h) _
    (MemState.wf_foldl _ _ (fun m e h => MemState.wf_refill m _ _ h) _ h)

theorem startFill_touch (a1 : Nat) (a2 : State) : Touch 0x880000000000000000000000000000000000000000000000000000000000000000000000000000000000000000000000000000 a2 (startFill a1 a2) := by
  unfold startFill
  repeat' first
    | with_reducible exact Touch.refl _ _
    | ((with_reducible refine Eq.symm ?_); exact rfl)
    | with_reducible refine Touch.ite ?_ ?_
    | with_reducible apply Touch.via (ldFill_touch _ _ _)
    | with_reducible refine Touch.forEach ?_ ?_
    | (simp only [Touch.mk_eq]; with_reducible refine TouchMk.intro ?_)
    | intro _

/-- An answer that is a state differs from `s` only in what `w` names. -/
structure TouchOk (w : Nat) (s : State) (x : Except LoadEnd State) : Prop where
  of : ∀ t, x = .ok t → Touch w s t

theorem TouchOk.ok {w : Nat} {s t : State} (h : Touch w s t) : TouchOk w s (.ok t) := ⟨fun _ e => by cases e; exact h⟩
theorem TouchOk.error {w : Nat} {s : State} {e : LoadEnd} : TouchOk w s (.error e) := ⟨fun _ e => by cases e⟩
theorem TouchOk.ite {w : Nat} {s : State} {c : Prop} [Decidable c] {a b : Except LoadEnd State} (h : TouchOk w s a) (k : TouchOk w s b) :
    TouchOk w s (if c then a else b) := by
  split <;> assumption
theorem TouchOk.after {w v : Nat} {s t : State} {x : Except LoadEnd State} (h : TouchOk v t x) (e : Nat.lor v w = w) (k : Touch w s t) : TouchOk w s x :=
  ⟨fun u q => k.trans ((h.of u q).mono e)⟩

theorem initSlate_touch (a1 : Nat) (a2 : InitRec) (s : State) : TouchOk 0x80000000000000000000000000000000000000000000000000000000000000000000000000000000000000000000000000000 s (initSlate a1 a2 s) := by
  unfold initSlate
  repeat' first
    | with_reducible exact TouchOk.error
    | with_reducible refine TouchOk.ite ?_ ?_
    | with_reducible apply TouchOk.ok
    | with_reducible exact Touch.refl _ _
    | ((with_reducible refine Eq.symm ?_); exact rfl)
    | with_reducible apply Touch.via (putSlate_touch _ _ _ _ _)
    | with_reducible refine Touch.forUpTo ?_ ?_
    | intro _

theorem initWord_touch (a1 : Nat) (a2 : Nat) (a3 : Bool) (a4 : State) : Touch 0x800000000000000000000000000000000000000000000000000000000000000000000000000000000000000000000000000000 a4 (initWord a1 a2 a3 a4) := by
  unfold initWord
  repeat' first
    | with_reducible exact Touch.refl _ _
    | ((with_reducible refine Eq.symm ?_); exact rfl)
    | with_reducible refine Touch.ite ?_ ?_
    | with_reducible apply Touch.via (putByte_touch _ _ _ _)
    | with_reducible apply Touch.via (hbmReCheck_touch _ _)
    | with_reducible refine Touch.forUpTo ?_ ?_
    | intro _

theorem initMem_touch (a1 : Nat) (a2 : InitRec) (s : State) : TouchOk 0x400800000000000000000000000000000000000000000000000000000000000000000000000000000000000000000000000000000 s (initMem a1 a2 s) := by
  unfold initMem
  repeat' first
    | with_reducible exact TouchOk.error
    | with_reducible refine TouchOk.ite ?_ ?_
    | with_reducible apply TouchOk.ok
    | with_reducible exact Touch.refl _ _
    | ((with_reducible refine Eq.symm ?_); exact rfl)
    | with_reducible apply Touch.via (initWord_touch _ _ _ _)
    | with_reducible apply Touch.via (State.modLdc_touch _ _ _)
    | with_reducible refine Touch.forUpTo ?_ ?_
    | intro _
    | split
    | dsimp only

theorem initAll_touch (c : Nat) (l : List InitRec) (s : State) : TouchOk 0x400880000000000000000000000000000000000000000000000000000000000000000000000000000000000000000000000000000 s (initAll c l s) := by
  induction l generalizing s with
  | nil => exact TouchOk.ok (Touch.refl _ _)
  | cons r rs ih =>
    rw [initAll]
    split
    · exact ih s
    · have h : TouchOk 0x400880000000000000000000000000000000000000000000000000000000000000000000000000000000000000000000000000000 s (if r.type = 1 then initSlate c r s else initMem c r s) :=
        TouchOk.ite (TouchOk.after (initSlate_touch c r s) (by rfl) (Touch.refl _ _)) (TouchOk.after (initMem_touch c r s) (by rfl) (Touch.refl _ _))
      generalize (if r.type = 1 then initSlate c r s else initMem c r s) = x at h
      cases x with
      | error e => exact TouchOk.error
      | ok t => exact TouchOk.after (ih t) (by rfl) (h.of t rfl)

theorem repairCopy_touch (a1 : Nat) (a2 : Nat) (a3 : List Nat) (a4 : State) : Touch 0xa00000000000000000000000000000000000000000000000000000000000000000000000000000000000000000000000000000 a4 (repairCopy a1 a2 a3 a4) := by
  unfold repairCopy
  repeat' first
    | with_reducible exact Touch.refl _ _
    | ((with_reducible refine Eq.symm ?_); exact rfl)
    | with_reducible refine Touch.ite ?_ ?_
    | with_reducible apply Touch.via (State.modPart_touch _ _ _)
    | with_reducible apply Touch.via (State.wbs_touch _ _ _)
    | split

theorem sectFault_touch (a1 : Nat) (a2 : Nat) (a3 : Nat) (s : State) : TouchOk 0x0 s (sectFault a1 a2 a3 s) := by
  unfold sectFault
  exact TouchOk.error

theorem State.putHallTab_touch (a1 : State) (a2 : Store SchedEntry) : Touch 0x100000000000000000000000000000000000000000000000000000000000000000000000000000000000000000000000000000 a1 (State.putHallTab a1 a2) := by
  unfold State.putHallTab
  repeat' first
    | with_reducible exact Touch.refl _ _
    | (simp only [Touch.mk_eq]; with_reducible refine TouchMk.intro ?_)

theorem State.putBaseTab_touch (a1 : State) (a2 : Store SchedEntry) : Touch 0x100000000000000000000000000000000000000000000000000000000000000000000000000000000000000000000000000000 a1 (State.putBaseTab a1 a2) := by
  unfold State.putBaseTab
  repeat' first
    | with_reducible exact Touch.refl _ _
    | (simp only [Touch.mk_eq]; with_reducible refine TouchMk.intro ?_)

theorem takeHall_touch (a1 : Nat) (a2 : List Nat) (s : State) : TouchOk 0x100000000000000000000000000000000000000000000000000000000000000000000000000000000000000000000000000000 s (takeHall a1 a2 s) := by
  unfold takeHall
  dsimp only
  generalize List.findSome? _ _ = y
  cases y with
  | some f => exact TouchOk.error
  | none => exact TouchOk.ok ((State.putHallTab_touch _ _).mono (by rfl))

theorem takeBase_touch (a1 : Nat) (a2 : List Nat) (s : State) : TouchOk 0x100000000000000000000000000000000000000000000000000000000000000000000000000000000000000000000000000000 s (takeBase a1 a2 s) := by
  unfold takeBase
  dsimp only
  generalize List.findSome? _ _ = y
  cases y with
  | some f => exact TouchOk.error
  | none => exact TouchOk.ok ((State.putBaseTab_touch _ _).mono (by rfl))

theorem takeMem_touch (a1 : Nat) (a2 : List Nat) (s : State) : TouchOk 0xa80000000000000000000000000000000000000000000000000000000000000000000000000000000000000000000000000000 s (takeMem a1 a2 s) := by
  unfold takeMem
  dsimp only
  generalize memCheck _ _ _ _ _ = y
  cases y with
  | some f => exact TouchOk.error
  | none => exact TouchOk.ok (((putMem_touch _ _ _ _ _).mono (by rfl)).trans ((repairCopy_touch _ _ _ _).mono (by rfl)))

theorem takeVector_touch (a1 : Nat) (a2 : Nat) (a3 : List Nat) (s : State) : TouchOk 0x0 s (takeVector a1 a2 a3 s) := by
  unfold takeVector
  dsimp only
  generalize vmFault _ _ _ = y
  cases y with
  | some o => exact TouchOk.error
  | none => exact TouchOk.ite TouchOk.error (TouchOk.ok (Touch.refl _ _))

theorem takeBinds_touch (a1 : Nat) (a2 : Nat) (a3 : List Nat) (s : State) : TouchOk 0x0 s (takeBinds a1 a2 a3 s) := by
  unfold takeBinds
  dsimp only
  generalize bindSectFault _ = y
  cases y with
  | some o => exact TouchOk.error
  | none => exact TouchOk.ite (TouchOk.ok (Touch.refl _ _)) TouchOk.error

theorem takeInit_touch (a1 : Nat) (a2 : Nat) (a3 : List Nat) (s : State) : TouchOk 0x400880000000000000000000000000000000000000000000000000000000000000000000000000000000000000000000000000000 s (takeInit a1 a2 a3 s) := by
  unfold takeInit
  generalize initRecs _ _ _ = y
  cases y with
  | error o => exact TouchOk.error
  | ok l => exact TouchOk.after (initAll_touch _ _ _) (by rfl) ((startFill_touch _ _).mono (by rfl))

theorem sectEffect_touch (a1 : Nat) (a2 : Nat) (a3 : Nat) (a4 : List Nat) (s : State) : TouchOk 0x400b80000000000000000000000000000000000000000000000000000000000000000000000000000000000000000000000000000 s (sectEffect a1 a2 a3 a4 s) := by
  unfold sectEffect
  dsimp only
  split
  · exact TouchOk.ok (((putImem_touch _ _ _ _ _).mono (by rfl)).trans ((repairCopy_touch _ _ _ _).mono (by rfl)))
  · exact TouchOk.ok (((putExport_touch _ _ _ _ _).mono (by rfl)).trans ((repairCopy_touch _ _ _ _).mono (by rfl)))
  · exact TouchOk.after (takeHall_touch _ _ _) (by rfl) (Touch.refl _ _)
  · exact TouchOk.after (takeBase_touch _ _ _) (by rfl) (Touch.refl _ _)
  · exact TouchOk.after (takeMem_touch _ _ _) (by rfl) (Touch.refl _ _)
  · exact TouchOk.after (takeVector_touch _ _ _ _) (by rfl) (Touch.refl _ _)
  · exact TouchOk.after (takeBinds_touch _ _ _ _) (by rfl) (Touch.refl _ _)
  · exact TouchOk.after (takeInit_touch _ _ _ _) (by rfl) (Touch.refl _ _)
  · exact TouchOk.ok (Touch.refl _ _)

theorem takeSect_touch (a1 : Nat) (a2 : Sect) (a3 : Nat) (s : State) : TouchOk 0x400b80000000000000000000000000000000000000000000000000000000000000000000000000000000000000000000000000000 s (takeSect a1 a2 a3 s) := by
  unfold takeSect
  dsimp only
  generalize firstBad _ _ = y
  cases y with
  | some o => exact TouchOk.error
  | none => exact TouchOk.ite TouchOk.error (sectEffect_touch _ _ _ _ _)

theorem takeSect_ok {c : Nat} {e : Sect} {gap : Nat} {s t : State} (h : takeSect c e gap s = .ok t) : Touch 0x400b80000000000000000000000000000000000000000000000000000000000000000000000000000000000000000000000000000 s t := by
  exact (takeSect_touch c e gap s).of t h

theorem loadAct_touch (a1 : Nat) (a2 : State) : Touch 0x85eef800000000000030000102000140020060000000000020c00000000421006000c004300000a3c0fa4c040809047e10000e1605 a2 (loadAct a1 a2) := by
  unfold loadAct
  repeat' first
    | with_reducible exact Touch.refl _ _
    | ((with_reducible refine Eq.symm ?_); exact rfl)
    | with_reducible refine Touch.ite ?_ ?_
    | with_reducible apply Touch.via (loadEnd_touch _ _ _)
    | with_reducible apply Touch.via (State.modLdc_touch _ _ _)
    | with_reducible apply Touch.via (takeSect_ok (by assumption))
    | with_reducible refine Touch.sf ?_ ?_
    | split
    | dsimp only

theorem loadSection_touch (a1 : Nat) (a2 : List Nat) (a3 : Bool) (a4 : State) : Touch 0x85eef8000000000000300001020001e0020060000000000020c00000000421006000c004300000a7c0fa4c040809047e10000e1605 a4 (loadSection a1 a2 a3 a4) := by
  unfold loadSection
  repeat' first
    | with_reducible exact Touch.refl _ _
    | ((with_reducible refine Eq.symm ?_); exact rfl)
    | with_reducible refine Touch.ite ?_ ?_
    | with_reducible apply Touch.via (loadWrite_touch _ _)
    | with_reducible apply Touch.via (State.modLk_touch _ _ _)
    | with_reducible apply Touch.via (State.modLdc_touch _ _ _)
    | with_reducible apply Touch.via (loadAct_touch _ _)
    | with_reducible apply Touch.via (loadTrunc_touch _ _ _)
    | with_reducible refine Touch.sf ?_ ?_
    | with_reducible refine Touch.foldl ?_ ?_
    | (simp only [Touch.mk_eq]; with_reducible refine TouchMk.intro ?_)
    | intro _

theorem loadedSettings_touch (a1 : Nat) (a2 : State) : Touch 0x1800000000000000001e400 a2 (loadedSettings a1 a2) := by
  unfold loadedSettings
  repeat' first
    | with_reducible exact Touch.refl _ _
    | ((with_reducible refine Eq.symm ?_); exact rfl)
    | with_reducible refine Touch.setReg ?_ ?_
    | with_reducible refine Touch.sflag ?_ ?_

theorem armBegin_touch (a1 : Nat) (a2 : State) : Touch 0x200000000000000000000000000000000000000000000000000000000000000000000000000000000000000000000000001000 a2 (armBegin a1 a2) := by
  unfold armBegin
  repeat' first
    | with_reducible exact Touch.refl _ _
    | ((with_reducible refine Eq.symm ?_); exact rfl)
    | with_reducible apply Touch.via (State.modPart_touch _ _ _)
    | with_reducible refine Touch.sf ?_ ?_

theorem bindInputs_touch (a1 : Nat) (a2 : State) : Touch 0x40000000000000000000000000000000000000 a2 (bindInputs a1 a2) := by
  unfold bindInputs
  repeat' first
    | with_reducible exact Touch.refl _ _
    | ((with_reducible refine Eq.symm ?_); exact rfl)
    | with_reducible refine Touch.ite ?_ ?_
    | with_reducible refine Touch.sf ?_ ?_
    | with_reducible refine Touch.forEach ?_ ?_
    | intro _

theorem loadComplete_touch (a1 : Nat) (a2 : State) : Touch 0x85eef800000000000030000102000140020060000000000020c00000000421006000c004300000a3c0fbcc040809047e10000ff605 a2 (loadComplete a1 a2) := by
  unfold loadComplete
  repeat' first
    | with_reducible exact Touch.refl _ _
    | ((with_reducible refine Eq.symm ?_); exact rfl)
    | with_reducible refine Touch.ite ?_ ?_
    | with_reducible apply Touch.via (State.modPart_touch _ _ _)
    | with_reducible apply Touch.via (loadEnd_touch _ _ _)
    | with_reducible apply Touch.via (bindInputs_touch _ _)
    | with_reducible apply Touch.via (loadedSettings_touch _ _)
    | with_reducible apply Touch.via (updLinks_touch _)
    | with_reducible apply Touch.via (slotsUpd_touch _ _)
    | with_reducible apply Touch.via (armBegin_touch _ _)
    | with_reducible apply Touch.via (pendingUpd_touch _ _)
    | with_reducible refine Touch.sf ?_ ?_
    | (simp only [Touch.mk_eq]; with_reducible refine TouchMk.intro ?_)

end Machine
end Sys2Proof
end

