-- ==== Sys2Proof/Laws/TouchPartCmd.lean ====
section
/-! SUPPORT. What each operation of Machine/PartCmd.lean leaves alone. -/
set_option linter.unusedVariables false
set_option Elab.async false
namespace Sys2Proof
namespace Machine

theorem cmdStatus_touch (a1 : Nat) (a2 : Nat) (a3 : Nat) (a4 : State) : Touch 0x1000 a4 (cmdStatus a1 a2 a3 a4) := by
  unfold cmdStatus
  repeat' first
    | with_reducible exact Touch.refl _ _
    | ((with_reducible refine Eq.symm ?_); exact rfl)
    | with_reducible apply Touch.via (pendingUpd_touch _ _)
    | with_reducible refine Touch.sf ?_ ?_

theorem partCmd_touch {w : Nat} (hw : Nat.lor 0x400200000000000000000000000000a0000000000000000000c0000000000000000000000000000000000000000000000000001000 w = w) (a1 : Requester) (a2 : Nat) (a3 : Nat) (a4 : Nat) (a5 : Bool) (a6 : Bool) (a7 : State → State) (a8 : State) (ha7 : ∀  t, Touch w t (a7  t)) : Touch w a8 (partCmd a1 a2 a3 a4 a5 a6 a7 a8) := by
  unfold partCmd
  repeat' first
    | with_reducible exact Touch.refl _ _
    | with_reducible refine Touch.ite ?_ ?_
    | exact Touch.sub (by rfl) hw
    | with_reducible apply Touch.after (ha7 _)
    | with_reducible apply Touch.via (cmdStatus_touch _ _ _ _)
    | with_reducible apply Touch.via (denyWrite_touch _ _ _ _ _)
    | with_reducible apply Touch.via (logRefused_touch _ _ _ _ _)
    | with_reducible apply Touch.via (okResp_touch _ _)

theorem cmdLoad_touch (a1 : Requester) (a2 : Nat) (a3 : State) : Touch 0xc5eef8000000000000300001020001e0020060000000000020c00000000421006000c004300000a3c0fa4c040809047e10000e1605 a3 (cmdLoad a1 a2 a3) := by
  unfold cmdLoad
  repeat' first
    | with_reducible exact Touch.refl _ _
    | ((with_reducible refine Eq.symm ?_); exact rfl)
    | with_reducible apply Touch.via (loadWrite_touch _ _)
    | with_reducible apply Touch.via (cmdStatus_touch _ _ _ _)
    | with_reducible apply Touch.via (denyWrite_touch _ _ _ _ _)
    | split

theorem cmdArm_touch (a1 : Requester) (a2 : Nat) (a3 : Nat) (a4 : State) : Touch 0x400220000000000000000000000000a0000000000000000000c0000000000000000000000000000000000000000000000000001000 a4 (cmdArm a1 a2 a3 a4) := by
  unfold cmdArm
  repeat' first
    | with_reducible exact Touch.refl _ _
    | ((with_reducible refine Eq.symm ?_); exact rfl)
    | with_reducible apply Touch.after (partCmd_touch ?_ _ _ _ _ _ _ _ _ ?_)
    | with_reducible apply Touch.via (armBegin_touch _ _)
    | intro _

theorem runBegin_touch (a1 : Nat) (a2 : State) : Touch 0x6000000000000000000000000000000000000000000000000000000000000000000000000000000000000000040000000c0400 a2 (runBegin a1 a2) := by
  unfold runBegin
  repeat' first
    | with_reducible exact Touch.refl _ _
    | ((with_reducible refine Eq.symm ?_); exact rfl)
    | with_reducible apply Touch.via (discardDebt_touch _ _)
    | with_reducible apply Touch.via (State.modPart_touch _ _ _)
    | with_reducible apply Touch.via (reRaise_touch _ _)
    | with_reducible refine Touch.sf ?_ ?_

theorem cmdStart_touch (a1 : Requester) (a2 : Nat) (a3 : Nat) (a4 : State) : Touch 0x400260000000000000000000000000a0000000000000000000c00000000000000000000000000000000000000000040000000c1400 a4 (cmdStart a1 a2 a3 a4) := by
  unfold cmdStart
  repeat' first
    | with_reducible exact Touch.refl _ _
    | ((with_reducible refine Eq.symm ?_); exact rfl)
    | with_reducible apply Touch.after (partCmd_touch ?_ _ _ _ _ _ _ _ _ ?_)
    | with_reducible apply Touch.via (runBegin_touch _ _)
    | with_reducible apply Touch.via (State.modPart_touch _ _ _)
    | with_reducible refine Touch.sf ?_ ?_
    | intro _

theorem cmdStop_touch (a1 : Requester) (a2 : Nat) (a3 : Nat) (a4 : State) : Touch 0x400260000000000000000000000000a0000000000000000000c00000000000000000000000000000000000000000040000000c1400 a4 (cmdStop a1 a2 a3 a4) := by
  unfold cmdStop
  repeat' first
    | with_reducible exact Touch.refl _ _
    | ((with_reducible refine Eq.symm ?_); exact rfl)
    | with_reducible refine Touch.ite ?_ ?_
    | with_reducible apply Touch.after (partCmd_touch ?_ _ _ _ _ _ _ _ _ ?_)
    | with_reducible apply Touch.via (haltEnter_touch _ _)
    | with_reducible apply Touch.via (pendingUpd_touch _ _)
    | with_reducible refine Touch.sf ?_ ?_
    | intro _

theorem resumeFrozen_touch (a1 : Nat) (a2 : State) : Touch 0x400000000000000000000000000000000000000000000000000000000000000000000000000000000000000004000000000000 a2 (resumeFrozen a1 a2) := by
  unfold resumeFrozen
  repeat' first
    | with_reducible exact Touch.refl _ _
    | ((with_reducible refine Eq.symm ?_); exact rfl)
    | with_reducible refine Touch.ite ?_ ?_
    | with_reducible apply Touch.via (releaseCause_touch _ _ _)
    | with_reducible apply Touch.via (releaseItem_touch _ _ _ _ _)
    | with_reducible refine Touch.forEach ?_ ?_
    | intro _

theorem cmdResume_touch (a1 : Requester) (a2 : Nat) (a3 : Nat) (a4 : State) : Touch 0x400260000000000000000000000000a0000000000000000000c00000000000000000000000000000000000000000040000000c1400 a4 (cmdResume a1 a2 a3 a4) := by
  unfold cmdResume
  repeat' first
    | with_reducible exact Touch.refl _ _
    | ((with_reducible refine Eq.symm ?_); exact rfl)
    | with_reducible refine Touch.ite ?_ ?_
    | with_reducible apply Touch.after (partCmd_touch ?_ _ _ _ _ _ _ _ _ ?_)
    | with_reducible apply Touch.via (resumeFrozen_touch _ _)
    | with_reducible apply Touch.via (runBegin_touch _ _)
    | intro _

theorem cmdFreezeNow_touch (a1 : Requester) (a2 : Nat) (a3 : Nat) (a4 : State) : Touch 0x400240000000000000000000000000a0000000000000000000c0000000000000000000000000000000000000000004000000001000 a4 (cmdFreezeNow a1 a2 a3 a4) := by
  unfold cmdFreezeNow
  repeat' first
    | with_reducible exact Touch.refl _ _
    | ((with_reducible refine Eq.symm ?_); exact rfl)
    | with_reducible refine Touch.ite ?_ ?_
    | with_reducible apply Touch.after (partCmd_touch ?_ _ _ _ _ _ _ _ _ ?_)
    | with_reducible apply Touch.via (raiseLead_touch _ _ _ _)
    | intro _

theorem cmdCapture_touch (a1 : Requester) (a2 : Nat) (a3 : Nat) (a4 : State) : Touch 0x400ea8000000000000000000000000a0020000000000000000c0000000000000000000183000000000000000000000000000001405 a4 (cmdCapture a1 a2 a3 a4) := by
  unfold cmdCapture
  repeat' first
    | with_reducible exact Touch.refl _ _
    | ((with_reducible refine Eq.symm ?_); exact rfl)
    | with_reducible refine Touch.ite ?_ ?_
    | with_reducible apply Touch.after (partCmd_touch ?_ _ _ _ _ _ _ _ _ ?_)
    | with_reducible apply Touch.via (State.modPart_touch _ _ _)
    | with_reducible apply Touch.via (takeSnapshot_touch _ _ _)
    | with_reducible apply Touch.via (pendingUpd_touch _ _)
    | with_reducible refine Touch.sf ?_ ?_
    | intro _

theorem cmdRewind_touch (a1 : Requester) (a2 : Nat) (a3 : Nat) (a4 : State) : Touch 0x400a00000000000000000000000000a0000000000000000000c0000000000000000000040000000000000000000000000000001000 a4 (cmdRewind a1 a2 a3 a4) := by
  unfold cmdRewind
  repeat' first
    | with_reducible exact Touch.refl _ _
    | ((with_reducible refine Eq.symm ?_); exact rfl)
    | with_reducible apply Touch.after (partCmd_touch ?_ _ _ _ _ _ _ _ _ ?_)
    | with_reducible apply Touch.via (pendingUpd_touch _ _)
    | with_reducible apply Touch.via (State.modTrec_touch _ _ _)
    | with_reducible refine Touch.sf ?_ ?_
    | intro _

theorem abortPart_touch (a1 : Nat) (a2 : State) : Touch 0x85eef800000000000030000102000140020060000000000020c00000000421006000c004300000a3c0fa4c040809047e10000e1605 a2 (abortPart a1 a2) := by
  unfold abortPart
  repeat' first
    | with_reducible exact Touch.refl _ _
    | ((with_reducible refine Eq.symm ?_); exact rfl)
    | with_reducible apply Touch.via (toEmpty_touch _ _)
    | with_reducible apply Touch.via (loadsEnd_touch _ _ _)

theorem cmdAbort_touch (a1 : Requester) (a2 : Nat) (a3 : Nat) (a4 : State) : Touch 0xc5eef8000000000000300001020001e0020060000000000020c00000000421006000c004300000a3c0fa4c040809047e10000e1605 a4 (cmdAbort a1 a2 a3 a4) := by
  unfold cmdAbort
  repeat' first
    | with_reducible exact Touch.refl _ _
    | ((with_reducible refine Eq.symm ?_); exact rfl)
    | with_reducible apply Touch.after (partCmd_touch ?_ _ _ _ _ _ _ _ _ ?_)
    | with_reducible apply Touch.via (abortPart_touch _ _)
    | intro _

theorem cmdUnload_touch (a1 : Requester) (a2 : Nat) (a3 : Nat) (a4 : State) : Touch 0xc5eef8000000000000300001020000a0020060000000000020c00000000421006000c0043000002000fa4c040809047e10000e1605 a4 (cmdUnload a1 a2 a3 a4) := by
  unfold cmdUnload
  repeat' first
    | with_reducible exact Touch.refl _ _
    | ((with_reducible refine Eq.symm ?_); exact rfl)
    | with_reducible apply Touch.after (partCmd_touch ?_ _ _ _ _ _ _ _ _ ?_)
    | with_reducible apply Touch.via (toEmpty_touch _ _)
    | intro _

theorem armLogs_touch (a1 : Nat) (a2 : State) : Touch 0x4000000000000000000000000000000000000000000000000000000000000000000000000000008e00000000bb800000000000 a2 (armLogs a1 a2) := by
  unfold armLogs
  repeat' first
    | with_reducible exact Touch.refl _ _
    | ((with_reducible refine Eq.symm ?_); exact rfl)
    | with_reducible apply Touch.via (State.setFz_touch _ _ _)
    | with_reducible refine Touch.sf ?_ ?_
    | with_reducible refine Touch.resetReg ?_ ?_
    | with_reducible refine Touch.forUpTo ?_ ?_
    | intro _

theorem armed_touch (a1 : Nat) (a2 : State) : Touch 0x462f800000000000000000000000000000000000000000020000000000000000000000000000020008e00000000bb800000341400 a2 (armed a1 a2) := by
  unfold armed
  repeat' first
    | with_reducible exact Touch.refl _ _
    | ((with_reducible refine Eq.symm ?_); exact rfl)
    | with_reducible refine Touch.ite ?_ ?_
    | with_reducible apply Touch.via (armLogs_touch _ _)
    | with_reducible apply Touch.via (State.modPart_touch _ _ _)
    | with_reducible apply Touch.via (mbxUnknown_touch _ _)
    | with_reducible apply Touch.via (bindClear_touch _ _)
    | with_reducible apply Touch.via (armStages_touch _ _)
    | with_reducible apply Touch.via (linkFcfg_touch _ _)
    | with_reducible apply Touch.via (doneUpd_touch _)
    | with_reducible refine Touch.sf ?_ ?_
    | with_reducible refine Touch.forEach ?_ ?_
    | (simp only [Touch.mk_eq]; with_reducible refine TouchMk.intro ?_)
    | intro _

theorem armDone_touch (a1 : Nat) (a2 : State) : Touch 0x462f800000000000000000000000000000000000000000020c00000000000000000000000000020008e00000000bb800000341400 a2 (armDone a1 a2) := by
  unfold armDone
  repeat' first
    | with_reducible exact Touch.refl _ _
    | ((with_reducible refine Eq.symm ?_); exact rfl)
    | with_reducible refine Touch.ite ?_ ?_
    | with_reducible apply Touch.via (latFaults_touch _ _)
    | with_reducible apply Touch.via (State.modPart_touch _ _ _)
    | with_reducible apply Touch.via (doneUpd_touch _)
    | with_reducible apply Touch.via (armed_touch _ _)
    | with_reducible refine Touch.sf ?_ ?_

theorem cfgNextWrite_touch (a1 : Nat) (a2 : Nat) (a3 : State) : Touch 0x4000 a3 (cfgNextWrite a1 a2 a3) := by
  unfold cfgNextWrite
  repeat' first
    | with_reducible exact Touch.refl _ _
    | ((with_reducible refine Eq.symm ?_); exact rfl)
    | with_reducible refine Touch.setReg ?_ ?_

theorem tempoNextWrite_touch (a1 : Nat) (a2 : Nat) (a3 : State) : Touch 0x10000 a3 (tempoNextWrite a1 a2 a3) := by
  unfold tempoNextWrite
  repeat' first
    | with_reducible exact Touch.refl _ _
    | ((with_reducible refine Eq.symm ?_); exact rfl)
    | with_reducible refine Touch.setReg ?_ ?_

theorem actionNextWrite_touch (a1 : Nat) (a2 : Nat) (a3 : State) : Touch 0x10000000000000000000000 a3 (actionNextWrite a1 a2 a3) := by
  unfold actionNextWrite
  repeat' first
    | with_reducible exact Touch.refl _ _
    | ((with_reducible refine Eq.symm ?_); exact rfl)
    | with_reducible refine Touch.setReg ?_ ?_

theorem commitWithdraw_touch (a1 : Nat) (a2 : State) : Touch 0x21400 a2 (commitWithdraw a1 a2) := by
  unfold commitWithdraw
  repeat' first
    | with_reducible exact Touch.refl _ _
    | ((with_reducible refine Eq.symm ?_); exact rfl)
    | with_reducible refine Touch.ite ?_ ?_
    | with_reducible apply Touch.via (pendingUpd_touch _ _)
    | with_reducible refine Touch.sf ?_ ?_

theorem commitWrite_touch (a1 : Requester) (a2 : Nat) (a3 : Nat) (a4 : State) : Touch 0x806ab8000000000000000000000000a0000060000000000020c00000000000006000c00030040000000080000000000000000eb400 a4 (commitWrite a1 a2 a3 a4) := by
  unfold commitWrite
  repeat' first
    | with_reducible exact Touch.refl _ _
    | ((with_reducible refine Eq.symm ?_); exact rfl)
    | with_reducible refine Touch.ite ?_ ?_
    | with_reducible apply Touch.via (State.modPart_touch _ _ _)
    | with_reducible apply Touch.via (cmdStatus_touch _ _ _ _)
    | with_reducible apply Touch.via (logRefused_touch _ _ _ _ _)
    | with_reducible apply Touch.via (applyCommit_touch _ _)
    | with_reducible refine Touch.sf ?_ ?_

theorem partCommit_touch (a1 : Requester) (a2 : Nat) (a3 : Bool) (a4 : State) : Touch 0xc06ab8000000000000000000000000a0000060000000000020c00000000000006000c00030040000000080000000000000000eb400 a4 (partCommit a1 a2 a3 a4) := by
  unfold partCommit
  repeat' first
    | with_reducible exact Touch.refl _ _
    | ((with_reducible refine Eq.symm ?_); exact rfl)
    | with_reducible refine Touch.ite ?_ ?_
    | with_reducible apply Touch.via (denyWrite_touch _ _ _ _ _)
    | with_reducible apply Touch.via (commitWrite_touch _ _ _ _)
    | with_reducible apply Touch.via (okResp_touch _ _)
    | with_reducible apply Touch.via (commitWithdraw_touch _ _)

theorem partCommitCancel_touch (a1 : Requester) (a2 : Nat) (a3 : State) : Touch 0x400200000000000000000000000000a0000000000000000000c0000000000000000000000000000000000000000000000000021400 a3 (partCommitCancel a1 a2 a3) := by
  unfold partCommitCancel
  repeat' first
    | with_reducible exact Touch.refl _ _
    | ((with_reducible refine Eq.symm ?_); exact rfl)
    | with_reducible refine Touch.ite ?_ ?_
    | with_reducible apply Touch.via (denyWrite_touch _ _ _ _ _)
    | with_reducible apply Touch.via (okResp_touch _ _)
    | with_reducible apply Touch.via (commitWithdraw_touch _ _)

theorem faultTailWrite_touch (a1 : Requester) (a2 : Nat) (a3 : Nat) (a4 : State) : Touch 0x400200000000000000000000000000a0000000000000000000c0000000000000000000000000000000060000000000000000000000 a4 (faultTailWrite a1 a2 a3 a4) := by
  unfold faultTailWrite
  repeat' first
    | with_reducible exact Touch.refl _ _
    | ((with_reducible refine Eq.symm ?_); exact rfl)
    | with_reducible refine Touch.ite ?_ ?_
    | with_reducible apply Touch.via (denyWrite_touch _ _ _ _ _)
    | with_reducible apply Touch.via (okResp_touch _ _)
    | with_reducible refine Touch.sf ?_ ?_

theorem doneSensed_touch (a1 : Bool) (a2 : State) : Touch 0x440260000000000000000000000000a0000000000000000000c00000000000000000000000000020000000000000040000000c1400 a2 (doneSensed a1 a2) := by
  unfold doneSensed
  repeat' first
    | with_reducible exact Touch.refl _ _
    | ((with_reducible refine Eq.symm ?_); exact rfl)
    | with_reducible refine Touch.ite ?_ ?_
    | with_reducible apply Touch.via (raiseIrq_touch _ _)
    | with_reducible apply Touch.via (cmdStart_touch _ _ _ _)
    | with_reducible refine Touch.sf ?_ ?_
    | with_reducible refine Touch.forUpTo ?_ ?_
    | (simp only [Touch.mk_eq]; with_reducible refine TouchMk.intro ?_)
    | intro _

end Machine
end Sys2Proof
end

