-- ==== Sys2Proof/Laws/TouchDevMem.lean ====
section
/-! SUPPORT. What each operation of Machine/DevMem.lean leaves alone. -/
set_option linter.unusedVariables false
set_option Elab.async false
namespace Sys2Proof
namespace Machine

theorem denyNowhere_touch (a1 : Requester) (a2 : Nat) (a3 : Nat) (a4 : Nat) (a5 : State) : Touch 0x400200000000000000000000000000a0000000000000000000c0000000000000000000000000000000000000000000000000000000 a5 (denyNowhere a1 a2 a3 a4 a5) := by
  unfold denyNowhere
  repeat' first
    | with_reducible exact Touch.refl _ _
    | ((with_reducible refine Eq.symm ?_); exact rfl)
    | with_reducible apply Touch.via (logViol_touch _ _ _ _ _ _ _)
    | (simp only [Touch.mk_eq]; with_reducible refine TouchMk.intro ?_)

theorem eachWord_touch {w : Nat} (hw : Nat.lor 0x4000000000000000000000000000000000000000000000000000000000000000000000000000000000000000000000000000000000 w = w) (l : List Nat) (f : Nat → State → State) (s : State) (hf : ∀ y t, Touch w t (f y t)) :
    Touch w s (eachWord l f s) := by
  have hr : w.testBit 422 = true := Touch.bit hw (by rfl)
  unfold eachWord
  refine Touch.foldl (fun t a => Touch.ite (Touch.refl _ _) (Touch.ite ?_ (hf _ _))) ((okResp_touch _ _).mono (Touch.sub (by rfl) hw))
  simp only [Touch.mk_eq]
  exact TouchMk.intro (hf _ _) (hk := Or.inr hr)

theorem timedOut_touch (a1 : State) : Touch 0x4000000000000000000000000000000000000000000000010000000000000000000000000000000000000000000000000000000000 a1 (timedOut a1) := by
  unfold timedOut
  repeat' first
    | with_reducible exact Touch.refl _ _
    | ((with_reducible refine Eq.symm ?_); exact rfl)
    | with_reducible refine Touch.bump ?_ ?_
    | (simp only [Touch.mk_eq]; with_reducible refine TouchMk.intro ?_)

theorem memRead_touch (a1 : Requester) (a2 : Nat) (a3 : Nat) (a4 : State) : Touch 0xc00680000000000000000000020001e0000000000000000100c000000000000000000000000000000000018000f800000000000000 a4 (memRead a1 a2 a3 a4).2 := by
  unfold memRead
  repeat' first
    | with_reducible exact Touch.refl _ _
    | ((with_reducible refine Eq.symm ?_); exact rfl)
    | with_reducible apply Touch.via (okResp_touch _ _)
    | with_reducible apply Touch.via (denyAddr_touch _ _ _ _ _)
    | with_reducible apply Touch.via (denyNowhere_touch _ _ _ _ _)
    | with_reducible apply Touch.via (timedOut_touch _)
    | with_reducible apply Touch.via (badData_touch _)
    | with_reducible apply Touch.after (eachWord_touch ?_ _ _ _ ?_)
    | with_reducible apply Touch.via (hostRead_touch _ _ _)
    | with_reducible apply Touch.via (wakeAccess_touch _ _)
    | (simp only [Touch.mk_eq]; with_reducible refine TouchMk.intro ?_)
    | intro _
    | split
    | dsimp only

theorem ramMerge_touch (a1 : Bool) (a2 : Nat) (a3 : Nat) (a4 : State) : Touch 0x800000000000000000000000000000000000000000000000000000000000000000000000000000000000000000000000000000 a4 (ramMerge a1 a2 a3 a4) := by
  unfold ramMerge
  repeat' first
    | with_reducible exact Touch.refl _ _
    | ((with_reducible refine Eq.symm ?_); exact rfl)
    | with_reducible apply Touch.via (putByte_touch _ _ _ _)

theorem memWrite_touch (a1 : Requester) (a2 : Nat) (a3 : List Nat) (a4 : Nat → Bool) (a5 : State) : Touch 0x400a80000000000000000000020000a0000000000000000100c0000000000000000000003000000000000000000800000000000000 a5 (memWrite a1 a2 a3 a4 a5) := by
  unfold memWrite
  repeat' first
    | with_reducible exact Touch.refl _ _
    | ((with_reducible refine Eq.symm ?_); exact rfl)
    | with_reducible refine Touch.ite ?_ ?_
    | with_reducible apply Touch.via (denyAddr_touch _ _ _ _ _)
    | with_reducible apply Touch.via (denyNowhere_touch _ _ _ _ _)
    | with_reducible apply Touch.via (timedOut_touch _)
    | with_reducible apply Touch.via (okResp_touch _ _)
    | with_reducible apply Touch.via (putByte_touch _ _ _ _)
    | with_reducible apply Touch.via (ramMerge_touch _ _ _ _)
    | with_reducible apply Touch.via (badData_touch _)
    | with_reducible apply Touch.after (eachWord_touch ?_ _ _ _ ?_)
    | with_reducible apply Touch.via (aliasWrite_touch _ _ _ _ _ _)
    | with_reducible apply Touch.via (wakeAccess_touch _ _)
    | with_reducible apply Touch.via (hostWrite_touch _ _ _ _ _)
    | with_reducible refine Touch.forEach ?_ ?_
    | (simp only [Touch.mk_eq]; with_reducible refine TouchMk.intro ?_)
    | intro _
    | split

end Machine
end Sys2Proof
end

