-- ==== Sys2Proof/Laws/TouchTutor.lean ====
section
/-! SUPPORT. What each operation of Machine/Tutor.lean leaves alone. -/
set_option linter.unusedVariables false
set_option Elab.async false
namespace Sys2Proof
namespace Machine

theorem State.modCore_touch (a1 : State) (a2 : Nat) (a3 : CoreRec → CoreRec) : Touch 0x800000000000000000000000000000000000000000000000000000000000000000000000000000000000000000000000000000000 a1 (State.modCore a1 a2 a3) := by
  unfold State.modCore
  repeat' first
    | with_reducible exact Touch.refl _ _
    | (simp only [Touch.mk_eq]; with_reducible refine TouchMk.intro ?_)

theorem xWrite_touch (a1 : Nat) (a2 : Nat) (a3 : Nat) (a4 : State) : Touch 0x800000000000000000000000000000000000000000000000000000000000000000000000000000000000000000000000000000000 a4 (xWrite a1 a2 a3 a4) := by
  unfold xWrite
  repeat' first
    | with_reducible exact Touch.refl _ _
    | with_reducible refine Touch.ite ?_ ?_
    | (simp only [Touch.mk_eq]; with_reducible refine TouchMk.intro ?_)

theorem csrPut_touch (a1 : Nat) (a2 : Nat) (a3 : Nat) (a4 : State) : Touch 0x800000000000000000000000000000000000000000000000000000000000000000000000000000000000000000000000000000000 a4 (csrPut a1 a2 a3 a4) := by
  unfold csrPut
  repeat' first
    | with_reducible exact Touch.refl _ _
    | (simp only [Touch.mk_eq]; with_reducible refine TouchMk.intro ?_)

theorem drawn_touch (a1 : State) : Touch 0x8000000000000000000000000000000000000000000000000000000000000000000000000000000000000000000000000000000000 a1 (drawn a1) := by
  unfold drawn
  repeat' first
    | with_reducible exact Touch.refl _ _
    | (simp only [Touch.mk_eq]; with_reducible refine TouchMk.intro ?_)

theorem ctPut_touch (a1 : Nat) (a2 : List Nat) (a3 : State) : Touch 0x8808800000000000000000000000000000006000000000000000000000000000000000000000000000000000000000000000000000 a3 (ctPut a1 a2 a3) := by
  unfold ctPut
  repeat' first
    | with_reducible exact Touch.refl _ _
    | ((with_reducible refine Eq.symm ?_); exact rfl)
    | with_reducible apply Touch.via (funnelPut_touch _ _ _)
    | with_reducible apply Touch.via (drawn_touch _)
    | with_reducible apply Touch.via (State.modCore_touch _ _ _)

theorem ctSync_touch (a1 : Nat) (a2 : Nat) (a3 : State) : Touch 0x8808800000000000000000000000000000006000000000000000000000000000000000000000000000000000000000000000000000 a3 (ctSync a1 a2 a3) := by
  unfold ctSync
  repeat' first
    | with_reducible exact Touch.refl _ _
    | ((with_reducible refine Eq.symm ?_); exact rfl)
    | with_reducible apply Touch.via (ctPut_touch _ _ _)
    | with_reducible apply Touch.via (State.modCore_touch _ _ _)

theorem ctEmit_touch (a1 : Nat) (a2 : Nat) (a3 : Nat) (a4 : Bool) (a5 : List Nat) (a6 : State) : Touch 0x8808800000000000000000000000000000006000000000000000000000000000000000000000000000000000000000000000000000 a6 (ctEmit a1 a2 a3 a4 a5 a6) := by
  unfold ctEmit
  repeat' first
    | with_reducible exact Touch.refl _ _
    | ((with_reducible refine Eq.symm ?_); exact rfl)
    | with_reducible refine Touch.ite ?_ ?_
    | with_reducible apply Touch.via (State.modCore_touch _ _ _)
    | with_reducible apply Touch.via (ctPut_touch _ _ _)
    | with_reducible apply Touch.via (ctSync_touch _ _ _)

theorem ctSleep_touch (a1 : Nat) (a2 : Nat) (a3 : State) : Touch 0x8808800000000000000000000000000000006000000000000000000000000000000000000000000000000000000000000000000000 a3 (ctSleep a1 a2 a3) := by
  unfold ctSleep
  repeat' first
    | with_reducible exact Touch.refl _ _
    | ((with_reducible refine Eq.symm ?_); exact rfl)
    | with_reducible apply Touch.via (ctEmit_touch _ _ _ _ _ _)
    | with_reducible apply Touch.via (State.modCore_touch _ _ _)

theorem ctWake_touch (a1 : Nat) (a2 : State) : Touch 0x8808800000000000000000000000000000006000000000000000000000000000000000000000000000000000000000000000000000 a2 (ctWake a1 a2) := by
  unfold ctWake
  repeat' first
    | with_reducible exact Touch.refl _ _
    | ((with_reducible refine Eq.symm ?_); exact rfl)
    | with_reducible refine Touch.ite ?_ ?_
    | with_reducible apply Touch.via (State.modCore_touch _ _ _)
    | with_reducible apply Touch.via (ctEmit_touch _ _ _ _ _ _)

theorem ctTrigger_touch (a1 : Nat) (a2 : State) : Touch 0x8808800000000000000000000000000000006100000000000000000000000000000000000000000000000000000000000000000000 a2 (ctTrigger a1 a2) := by
  unfold ctTrigger
  repeat' first
    | with_reducible exact Touch.refl _ _
    | ((with_reducible refine Eq.symm ?_); exact rfl)
    | with_reducible refine Touch.ite ?_ ?_
    | with_reducible apply Touch.via (ctEmit_touch _ _ _ _ _ _)
    | with_reducible refine Touch.sf ?_ ?_

theorem coreTraceStop_touch (a1 : Nat) (a2 : State) : Touch 0x8808800000000000000000000000000000006100000000000000000000000000000000000000000000000000000000000000000000 a2 (coreTraceStop a1 a2) := by
  unfold coreTraceStop
  repeat' first
    | with_reducible exact Touch.refl _ _
    | ((with_reducible refine Eq.symm ?_); exact rfl)
    | with_reducible refine Touch.ite ?_ ?_
    | with_reducible apply Touch.via (ctEmit_touch _ _ _ _ _ _)
    | with_reducible refine Touch.sf ?_ ?_

end Machine
end Sys2Proof
end

