-- ==== Sys2Proof/Laws/TouchDispatcher.lean ====
section
/-! SUPPORT. What each operation of Machine/Dispatcher.lean leaves alone. -/
set_option linter.unusedVariables false
set_option Elab.async false
namespace Sys2Proof
namespace Machine

theorem setBack_touch (a1 : Nat) (a2 : List Task) (a3 : State) : Touch 0x800000000000000000000000000000000000000000000000000000000000000000000000000000000000000000000000000000000 a3 (setBack a1 a2 a3) := by
  unfold setBack
  repeat' first
    | with_reducible exact Touch.refl _ _
    | (simp only [Touch.mk_eq]; with_reducible refine TouchMk.intro ?_)

theorem setExpd_touch (a1 : Nat) (a2 : List Task) (a3 : State) : Touch 0x800000000000000000000000000000000000000000000000000000000000000000000000000000000000000000000000000000000 a3 (setExpd a1 a2 a3) := by
  unfold setExpd
  repeat' first
    | with_reducible exact Touch.refl _ _
    | (simp only [Touch.mk_eq]; with_reducible refine TouchMk.intro ?_)

theorem setTop_touch (a1 : Nat) (a2 : Option Task) (a3 : State) : Touch 0x800000000000000000000000000000000000000000000000000000000000000000000000000000000000000000000000000000000 a3 (setTop a1 a2 a3) := by
  unfold setTop
  repeat' first
    | with_reducible exact Touch.refl _ _
    | (simp only [Touch.mk_eq]; with_reducible refine TouchMk.intro ?_)

theorem cplWrite_touch (a1 : Nat) (a2 : Nat) (a3 : List Nat) (a4 : State) : Touch 0x400a80000000000000000000020000a0000000000000000100c0000000000000000000003000000000000000000800000000000000 a4 (cplWrite a1 a2 a3 a4) := by
  unfold cplWrite
  repeat' first
    | with_reducible exact Touch.refl _ _
    | ((with_reducible refine Eq.symm ?_); exact rfl)
    | with_reducible refine Touch.ite ?_ ?_
    | with_reducible apply Touch.via (memWrite_touch _ _ _ _ _)
    | with_reducible apply Touch.via (logViol_touch _ _ _ _ _ _ _)
    | split
    | dsimp only

theorem complete_touch (a1 : Task) (a2 : Nat) (a3 : Nat) (a4 : State) : Touch 0xc00a80000000000000000000020000a0000000000000000100c0000000000000000000003000000000000000000800000000000000 a4 (complete a1 a2 a3 a4) := by
  unfold complete
  repeat' first
    | with_reducible exact Touch.refl _ _
    | ((with_reducible refine Eq.symm ?_); exact rfl)
    | with_reducible refine Touch.ite ?_ ?_
    | with_reducible apply Touch.via (cplWrite_touch _ _ _ _)
    | with_reducible apply Touch.via (drawn_touch _)
    | with_reducible apply Touch.via (sendMsix_touch _ _ _)
    | (simp only [Touch.mk_eq]; with_reducible refine TouchMk.intro ?_)

theorem setDelay_touch (a1 : Nat) (a2 : List (Prod Nat Task)) (a3 : State) : Touch 0x800000000000000000000000000000000000000000000000000000008000000000000000000000000000000000000000000000000 a3 (setDelay a1 a2 a3) := by
  unfold setDelay
  repeat' first
    | with_reducible exact Touch.refl _ _
    | ((with_reducible refine Eq.symm ?_); exact rfl)
    | with_reducible refine Touch.sf ?_ ?_
    | (simp only [Touch.mk_eq]; with_reducible refine TouchMk.intro ?_)

theorem qAdvance_touch (a1 : Nat) (a2 : State) : Touch 0x4000000000000000000000000000000000000000000000000000 a2 (qAdvance a1 a2) := by
  unfold qAdvance
  repeat' first
    | with_reducible exact Touch.refl _ _
    | ((with_reducible refine Eq.symm ?_); exact rfl)
    | with_reducible refine Touch.sf ?_ ?_

theorem qSettle_touch (fuel q : Nat) (s : State) : Touch 0xc80e80000000000000000000020001e0000000000000000100c002400880000000000000300000000000018000f800000000000000 s (qSettle fuel q s) := by
  induction fuel generalizing s with
  | zero => exact Touch.refl _ _
  | succ n ih =>
    have r : Touch 0xc80e80000000000000000000020001e0000000000000000100c002400880000000000000300000000000018000f800000000000000 s ((memRead (qUnit q s) (qSlot q (s.gf F.DSP_Q_HEAD_HEAD q) s) 32 s).2.withResp s.resp) :=
      ((memRead_touch _ _ _ _).mono (by rfl)).trans ((State.withResp_touch _ _).mono (by rfl))
    rw [qSettle]
    generalize (memRead (qUnit q s) (qSlot q (s.gf F.DSP_Q_HEAD_HEAD q) s) 32 s) = m at r
    obtain ⟨b, u⟩ := m
    dsimp only at r ⊢
    generalize u.withResp s.resp = v at r
    generalize taskOf q (s.gf F.DSP_Q_CFG_PRIO q) b = t
    refine Touch.ite (Touch.refl _ _) (Touch.ite ?_ (Touch.ite ?_ (Touch.ite ?_ (Touch.ite ?_ ?_))))
    · exact Touch.sf (by rfl) (Touch.sf (by rfl) r)
    · exact (((r.trans ((qAdvance_touch _ _).mono (by rfl))).trans (Touch.bump (by rfl) (Touch.refl _ _))).trans
        ((complete_touch _ _ _ _).mono (by rfl))).trans (ih _)
    · exact r.trans ((setTop_touch _ _ _).mono (by rfl))
    · exact r
    · exact ((r.trans ((setDelay_touch _ _ _).mono (by rfl))).trans ((qAdvance_touch _ _).mono (by rfl))).trans (ih _)

theorem settle_touch (a1 : Nat) (a2 : State) : Touch 0xc80e80000000000000000000020001e0000000000000000100c002400880000000000000300000000000018000f800000000000000 a2 (settle a1 a2) := by
  unfold settle
  repeat' first
    | with_reducible exact Touch.refl _ _
    | ((with_reducible refine Eq.symm ?_); exact rfl)
    | with_reducible apply Touch.via (qSettle_touch _ _ _)

theorem qBoundary_touch (a1 : Nat) (a2 : State) : Touch 0xc80e80000000000000000000020001e0000000000000000100c002440880000000000000300000000000018000f800000000000000 a2 (qBoundary a1 a2) := by
  unfold qBoundary
  repeat' first
    | with_reducible exact Touch.refl _ _
    | ((with_reducible refine Eq.symm ?_); exact rfl)
    | with_reducible refine Touch.ite ?_ ?_
    | with_reducible apply Touch.via (settle_touch _ _)
    | with_reducible refine Touch.setReg ?_ ?_
    | with_reducible refine Touch.sf ?_ ?_

theorem qLess_touch (a1 : Nat) (a2 : State) : Touch 0xc80e80000000000000000000020001e0000000000000000100c002440880000000000000300000000000018000f800000000000000 a2 (qLess a1 a2) := by
  unfold qLess
  repeat' first
    | with_reducible exact Touch.refl _ _
    | ((with_reducible refine Eq.symm ?_); exact rfl)
    | with_reducible apply Touch.via (qBoundary_touch _ _)
    | with_reducible refine Touch.sf ?_ ?_

theorem qReturn_touch (a1 : Task) (a2 : State) : Touch 0xc80e80000000000000000000020001e0000000000000000100c002440880000000000000300000000000018000f800000000000000 a2 (qReturn a1 a2) := by
  unfold qReturn
  repeat' first
    | with_reducible exact Touch.refl _ _
    | ((with_reducible refine Eq.symm ?_); exact rfl)
    | with_reducible apply Touch.via (qLess_touch _ _)
    | with_reducible apply Touch.via (setBack_touch _ _ _)

theorem deskReturn_touch (a1 : Nat) (a2 : Task → Bool) (a3 : State) : Touch 0xc80e80000000000000000000020001e0000000000000000100c002440880000000000000300000000000018000f800000000000000 a3 (deskReturn a1 a2 a3) := by
  unfold deskReturn
  repeat' first
    | with_reducible exact Touch.refl _ _
    | ((with_reducible refine Eq.symm ?_); exact rfl)
    | with_reducible apply Touch.via (State.modCore_touch _ _ _)
    | with_reducible apply Touch.via (qReturn_touch _ _)
    | with_reducible refine Touch.forEach ?_ ?_
    | intro _

theorem deskEmpty_touch (a1 : Nat) (a2 : State) : Touch 0xc80e80000000000000000000020001e0000000000000000100c002440880000000000000300000000000018000f800000000000000 a2 (deskEmpty a1 a2) := by
  unfold deskEmpty
  repeat' first
    | with_reducible exact Touch.refl _ _
    | ((with_reducible refine Eq.symm ?_); exact rfl)
    | with_reducible apply Touch.via (deskReturn_touch _ _ _)

theorem taskLost_touch (a1 : Nat) (a2 : State) : Touch 0xc80e80000000000000000000020001e0000000000000000100c002440880000000000000300000000000018000f800000000000000 a2 (taskLost a1 a2) := by
  unfold taskLost
  repeat' first
    | with_reducible exact Touch.refl _ _
    | ((with_reducible refine Eq.symm ?_); exact rfl)
    | with_reducible apply Touch.via (qLess_touch _ _)
    | with_reducible apply Touch.via (complete_touch _ _ _ _)
    | with_reducible apply Touch.via (State.modCore_touch _ _ _)
    | split

theorem qTake_touch (a1 : Nat) (a2 : State) : Touch 0x800000000000000000000000000000000000000000000000000004000000000000000000000000000000000000000000000000000 a2 (qTake a1 a2) := by
  unfold qTake
  repeat' first
    | with_reducible exact Touch.refl _ _
    | ((with_reducible refine Eq.symm ?_); exact rfl)
    | with_reducible apply Touch.via (setBack_touch _ _ _)
    | with_reducible apply Touch.via (setExpd_touch _ _ _)
    | with_reducible apply Touch.via (setTop_touch _ _ _)
    | with_reducible apply Touch.via (qAdvance_touch _ _)
    | split

theorem popTask_touch (a1 : Nat) (a2 : Nat) (a3 : State) : Touch 0x800000000000000000000000000000000000000000000000000000000000000000000000000000000000000000000000000000000 a3 (popTask a1 a2 a3) := by
  unfold popTask
  repeat' first
    | with_reducible exact Touch.refl _ _
    | ((with_reducible refine Eq.symm ?_); exact rfl)
    | with_reducible apply Touch.via (xWrite_touch _ _ _ _)
    | with_reducible apply Touch.via (State.modCore_touch _ _ _)
    | split

theorem placeOn_touch (a1 : Nat) (a2 : Nat) (a3 : State) : Touch 0xc80e80000000000000000000020001e0000060000000000100c002400880000000000000300000000000018000f800000000000000 a3 (placeOn a1 a2 a3) := by
  unfold placeOn
  repeat' first
    | with_reducible exact Touch.refl _ _
    | ((with_reducible refine Eq.symm ?_); exact rfl)
    | with_reducible refine Touch.ite ?_ ?_
    | with_reducible apply Touch.via (settle_touch _ _)
    | with_reducible apply Touch.via (qTake_touch _ _)
    | with_reducible apply Touch.via (State.modCore_touch _ _ _)
    | with_reducible apply Touch.via (ctWake_touch _ _)
    | with_reducible apply Touch.via (popTask_touch _ _ _)
    | with_reducible refine Touch.sf ?_ ?_
    | (simp only [Touch.mk_eq]; with_reducible refine TouchMk.intro ?_)
    | split
    | dsimp only

theorem displace_touch (a1 : Nat) (a2 : Nat) (a3 : Task) (a4 : State) : Touch 0xc80e80000000000000000000020001e0000060000000000100c0024408c0000000000000300000000000018000f800000000000000 a4 (displace a1 a2 a3 a4) := by
  unfold displace
  repeat' first
    | with_reducible exact Touch.refl _ _
    | ((with_reducible refine Eq.symm ?_); exact rfl)
    | with_reducible apply Touch.via (State.modCore_touch _ _ _)
    | with_reducible apply Touch.via (qReturn_touch _ _)
    | with_reducible apply Touch.via (placeOn_touch _ _ _)
    | with_reducible refine Touch.bump ?_ ?_

theorem taskPlace_touch (a1 : State) : Touch 0xc80e80000000000000000000020001e0000060000000000100c0024408c0000000000000300000000000018000f800000000000000 a1 (taskPlace a1) := by
  unfold taskPlace
  repeat' first
    | with_reducible exact Touch.refl _ _
    | ((with_reducible refine Eq.symm ?_); exact rfl)
    | with_reducible apply Touch.via (placeOn_touch _ _ _)
    | with_reducible apply Touch.via (displace_touch _ _ _ _)
    | split
    | dsimp only

theorem tickAdvance_touch (a1 : Nat) (a2 : State) : Touch 0xc80e80000000000000000000020001e0000000000000000100c002400c80000000000000300000000000018000f800000000000000 a2 (tickAdvance a1 a2) := by
  unfold tickAdvance
  repeat' first
    | with_reducible exact Touch.refl _ _
    | ((with_reducible refine Eq.symm ?_); exact rfl)
    | with_reducible refine Touch.ite ?_ ?_
    | with_reducible apply Touch.via (setDelay_touch _ _ _)
    | with_reducible apply Touch.via (setExpd_touch _ _ _)
    | with_reducible apply Touch.via (settle_touch _ _)
    | with_reducible refine Touch.sf ?_ ?_
    | with_reducible refine Touch.forEach ?_ ?_
    | intro _

theorem tickSource_touch (a1 : Nat) (a2 : State) : Touch 0xc80e80000000000000000000020001e0000000000000000100c002400c80000000000000300000000000018000f800000000000000 a2 (tickSource a1 a2) := by
  unfold tickSource
  repeat' first
    | with_reducible exact Touch.refl _ _
    | ((with_reducible refine Eq.symm ?_); exact rfl)
    | with_reducible refine Touch.ite ?_ ?_
    | with_reducible apply Touch.via (tickAdvance_touch _ _)
    | split

theorem qCmd_touch {w : Nat} (hw : Nat.lor 0x400200000000000000000000000000a0000000000000000000c0020000000000000000000000000000000000000000000000000000 w = w) (a1 : Requester) (a2 : Nat) (a3 : Nat) (a4 : Bool) (a5 : State → State) (a6 : State) (ha5 : ∀  t, Touch w t (a5  t)) : Touch w a6 (qCmd a1 a2 a3 a4 a5 a6) := by
  unfold qCmd
  repeat' first
    | with_reducible exact Touch.refl _ _
    | with_reducible refine Touch.ite ?_ ?_
    | exact Touch.sub (by rfl) hw
    | exact Touch.bit hw (by rfl)
    | with_reducible apply Touch.after (ha5 _)
    | with_reducible apply Touch.via (denyWrite_touch _ _ _ _ _)
    | with_reducible apply Touch.via (logRefused_touch _ _ _ _ _)
    | with_reducible apply Touch.via (okResp_touch _ _)
    | with_reducible refine Touch.sf ?_ ?_

theorem qEnable_touch (a1 : Requester) (a2 : Nat) (a3 : State) : Touch 0xc80e80000000000000000000020001e0000000000000000100c002400880000000000000300000000000018000f800000000000000 a3 (qEnable a1 a2 a3) := by
  unfold qEnable
  repeat' first
    | with_reducible exact Touch.refl _ _
    | ((with_reducible refine Eq.symm ?_); exact rfl)
    | with_reducible apply Touch.after (qCmd_touch ?_ _ _ _ _ _ _ ?_)
    | with_reducible apply Touch.via (settle_touch _ _)
    | with_reducible refine Touch.sf ?_ ?_
    | intro _

theorem qDisable_touch (a1 : Requester) (a2 : Nat) (a3 : State) : Touch 0xc80e80000000000000000000020001e0000000000000000100c002440880000000000000300000000000018000f800000000000000 a3 (qDisable a1 a2 a3) := by
  unfold qDisable
  repeat' first
    | with_reducible exact Touch.refl _ _
    | ((with_reducible refine Eq.symm ?_); exact rfl)
    | with_reducible apply Touch.after (qCmd_touch ?_ _ _ _ _ _ _ ?_)
    | with_reducible apply Touch.via (setTop_touch _ _ _)
    | with_reducible apply Touch.via (qBoundary_touch _ _)
    | with_reducible apply Touch.via (deskReturn_touch _ _ _)
    | with_reducible refine Touch.sf ?_ ?_
    | with_reducible refine Touch.forUpTo ?_ ?_
    | intro _

theorem qPause_touch (a1 : Requester) (a2 : Nat) (a3 : State) : Touch 0x480200000000000000000000000000a0000000000000000000c0020000000000000000000000000000000000000000000000000000 a3 (qPause a1 a2 a3) := by
  unfold qPause
  repeat' first
    | with_reducible exact Touch.refl _ _
    | ((with_reducible refine Eq.symm ?_); exact rfl)
    | with_reducible apply Touch.after (qCmd_touch ?_ _ _ _ _ _ _ ?_)
    | with_reducible apply Touch.via (setTop_touch _ _ _)
    | with_reducible refine Touch.sf ?_ ?_
    | intro _

theorem qUnpause_touch (a1 : Requester) (a2 : Nat) (a3 : State) : Touch 0xc80e80000000000000000000020001e0000000000000000100c002400880000000000000300000000000018000f800000000000000 a3 (qUnpause a1 a2 a3) := by
  unfold qUnpause
  repeat' first
    | with_reducible exact Touch.refl _ _
    | ((with_reducible refine Eq.symm ?_); exact rfl)
    | with_reducible apply Touch.after (qCmd_touch ?_ _ _ _ _ _ _ ?_)
    | with_reducible apply Touch.via (settle_touch _ _)
    | with_reducible refine Touch.sf ?_ ?_
    | intro _

theorem delayDrop_touch (a1 : Nat) (a2 : State) : Touch 0x800000000000000000000000000000000000000000000000000000008000000000000000000000000000000000000000000000000 a2 (delayDrop a1 a2) := by
  unfold delayDrop
  repeat' first
    | with_reducible exact Touch.refl _ _
    | ((with_reducible refine Eq.symm ?_); exact rfl)
    | with_reducible refine Touch.ite ?_ ?_
    | with_reducible apply Touch.via (setDelay_touch _ _ _)
    | with_reducible refine Touch.forUpTo ?_ ?_
    | intro _

theorem qFlush_touch (a1 : Requester) (a2 : Nat) (a3 : State) : Touch 0x480200000000000000000000000000a0000000000000000000c0024008000000000000000000000000000000000000000000000000 a3 (qFlush a1 a2 a3) := by
  unfold qFlush
  repeat' first
    | with_reducible exact Touch.refl _ _
    | ((with_reducible refine Eq.symm ?_); exact rfl)
    | with_reducible apply Touch.after (qCmd_touch ?_ _ _ _ _ _ _ ?_)
    | with_reducible apply Touch.via (setTop_touch _ _ _)
    | with_reducible apply Touch.via (setExpd_touch _ _ _)
    | with_reducible apply Touch.via (setBack_touch _ _ _)
    | with_reducible apply Touch.via (delayDrop_touch _ _)
    | with_reducible refine Touch.sf ?_ ?_
    | intro _

theorem qCfgNextWrite_touch (a1 : Requester) (a2 : Nat) (a3 : Nat) (a4 : State) : Touch 0xc80e80000000000000000000020001e0000000000000000100c0024c0880000000000000300000000000018000f800000000000000 a4 (qCfgNextWrite a1 a2 a3 a4) := by
  unfold qCfgNextWrite
  repeat' first
    | with_reducible exact Touch.refl _ _
    | ((with_reducible refine Eq.symm ?_); exact rfl)
    | with_reducible refine Touch.ite ?_ ?_
    | with_reducible apply Touch.via (denyWrite_touch _ _ _ _ _)
    | with_reducible apply Touch.via (okResp_touch _ _)
    | with_reducible apply Touch.via (setTop_touch _ _ _)
    | with_reducible apply Touch.via (qBoundary_touch _ _)
    | with_reducible apply Touch.via (deskReturn_touch _ _ _)
    | with_reducible refine Touch.setReg ?_ ?_
    | with_reducible refine Touch.sf ?_ ?_
    | with_reducible refine Touch.forUpTo ?_ ?_
    | intro _

theorem queueTailWrite_touch (a1 : Requester) (a2 : Nat) (a3 : Nat) (a4 : State) : Touch 0xc80e80000000000000000000020001e0000000000000000100c002c00880000000000000300000000000018000f800000000000000 a4 (queueTailWrite a1 a2 a3 a4) := by
  unfold queueTailWrite
  repeat' first
    | with_reducible exact Touch.refl _ _
    | ((with_reducible refine Eq.symm ?_); exact rfl)
    | with_reducible refine Touch.ite ?_ ?_
    | with_reducible apply Touch.via (denyWrite_touch _ _ _ _ _)
    | with_reducible apply Touch.via (logRefused_touch _ _ _ _ _)
    | with_reducible apply Touch.via (okResp_touch _ _)
    | with_reducible apply Touch.via (settle_touch _ _)
    | with_reducible refine Touch.sf ?_ ?_

theorem tickCmdWrite_touch (a1 : Requester) (a2 : Nat) (a3 : State) : Touch 0xc80e80000000000000000000020001e0000000000000000100c002400c80000000000000300000000000018000f800000000000000 a3 (tickCmdWrite a1 a2 a3) := by
  unfold tickCmdWrite
  repeat' first
    | with_reducible exact Touch.refl _ _
    | ((with_reducible refine Eq.symm ?_); exact rfl)
    | with_reducible refine Touch.ite ?_ ?_
    | with_reducible apply Touch.via (denyWrite_touch _ _ _ _ _)
    | with_reducible apply Touch.via (okResp_touch _ _)
    | with_reducible apply Touch.via (tickAdvance_touch _ _)
    | with_reducible apply Touch.via (logRefused_touch _ _ _ _ _)
    | with_reducible refine Touch.sf ?_ ?_

theorem coreCfgWrite_touch (a1 : Requester) (a2 : Nat) (a3 : Bool) (a4 : State) : Touch 0xc80e80000000000000000000020001e0000000000000000100c002442880000000000000300000000000018000f800000000000000 a4 (coreCfgWrite a1 a2 a3 a4) := by
  unfold coreCfgWrite
  repeat' first
    | with_reducible exact Touch.refl _ _
    | ((with_reducible refine Eq.symm ?_); exact rfl)
    | with_reducible refine Touch.ite ?_ ?_
    | with_reducible apply Touch.via (denyWrite_touch _ _ _ _ _)
    | with_reducible apply Touch.via (okResp_touch _ _)
    | with_reducible apply Touch.via (deskEmpty_touch _ _)
    | with_reducible refine Touch.sflag ?_ ?_

end Machine
end Sys2Proof
end

