-- ==== Sys2Proof/Laws/TouchXdax.lean ====
section
/-! SUPPORT. What each operation of Machine/Xdax.lean leaves alone. -/
set_option linter.unusedVariables false
set_option Elab.async false
namespace Sys2Proof
namespace Machine

theorem xdax_touch {w : Nat} (hw : Nat.lor 0x800000000000000000000000000000000000000000000000000000000000000000000000000000000000000000000000000000000 w = w) (a1 : Nat) (a2 : Priv) (a3 : State → State) (a4 : State) (ha3 : ∀  t, Touch w t (a3  t)) : Touch w a4 (xdax a1 a2 a3 a4) := by
  unfold xdax
  repeat' first
    | with_reducible exact Touch.refl _ _
    | with_reducible assumption
    | with_reducible refine Touch.ite ?_ ?_
    | with_reducible apply Touch.after (ha3 _)
    | with_reducible apply Touch.via (State.modCore_touch _ _ _)

theorem waitBegin_touch (a1 : Nat) (a2 : CoreWait) (a3 : State) : Touch 0x8808800000000000000000000000000000006000000000000000000000000000000000000000000000000000000000000000000000 a3 (waitBegin a1 a2 a3) := by
  unfold waitBegin
  repeat' first
    | with_reducible exact Touch.refl _ _
    | ((with_reducible refine Eq.symm ?_); exact rfl)
    | with_reducible apply Touch.via (State.modCore_touch _ _ _)
    | with_reducible apply Touch.via (ctSleep_touch _ _ _)

theorem dxBellwait_touch (a1 : Nat) (a2 : Priv) (a3 : Nat) (a4 : Nat) (a5 : Nat) (a6 : State) : Touch 0x8808800000000000000000000000000000006000000000000000000000000000000000000000000000000000000000000000000000 a6 (dxBellwait a1 a2 a3 a4 a5 a6) := by
  unfold dxBellwait
  repeat' first
    | with_reducible exact Touch.refl _ _
    | ((with_reducible refine Eq.symm ?_); exact rfl)
    | with_reducible refine Touch.ite ?_ ?_
    | with_reducible apply Touch.after (xdax_touch ?_ _ _ _ _ ?_)
    | with_reducible apply Touch.via (xWrite_touch _ _ _ _)
    | with_reducible apply Touch.via (waitBegin_touch _ _ _)
    | intro _

theorem bellwaitWake_touch (a1 : Nat) (a2 : Nat) (a3 : State) : Touch 0x8808800000000000000000000000000000006000000000000000000000000000000000000000000000000000000000000000000000 a3 (bellwaitWake a1 a2 a3) := by
  unfold bellwaitWake
  repeat' first
    | with_reducible exact Touch.refl _ _
    | ((with_reducible refine Eq.symm ?_); exact rfl)
    | with_reducible refine Touch.ite ?_ ?_
    | with_reducible apply Touch.via (ctWake_touch _ _)
    | with_reducible apply Touch.via (xWrite_touch _ _ _ _)
    | with_reducible apply Touch.via (State.modCore_touch _ _ _)
    | split

theorem dxDeskpop_touch (a1 : Nat) (a2 : Priv) (a3 : Nat) (a4 : Nat) (a5 : State) : Touch 0x880a80000000000000000000000000a0000060000000000000c0000000000000000000000000000000000000000000000000000000 a5 (dxDeskpop a1 a2 a3 a4 a5) := by
  unfold dxDeskpop
  repeat' first
    | with_reducible exact Touch.refl _ _
    | ((with_reducible refine Eq.symm ?_); exact rfl)
    | with_reducible refine Touch.ite ?_ ?_
    | with_reducible apply Touch.after (xdax_touch ?_ _ _ _ _ ?_)
    | with_reducible apply Touch.via (xWrite_touch _ _ _ _)
    | with_reducible apply Touch.via (logRefused_touch _ _ _ _ _)
    | with_reducible apply Touch.via (popTask_touch _ _ _)
    | with_reducible apply Touch.via (waitBegin_touch _ _ _)
    | intro _

theorem deskpopTimeout_touch (a1 : Nat) (a2 : Bool) (a3 : State) : Touch 0x8808800000000000000000000000000000006000000000000000000000000000000000000000000000000000000000000000000000 a3 (deskpopTimeout a1 a2 a3) := by
  unfold deskpopTimeout
  repeat' first
    | with_reducible exact Touch.refl _ _
    | ((with_reducible refine Eq.symm ?_); exact rfl)
    | with_reducible refine Touch.ite ?_ ?_
    | with_reducible apply Touch.via (ctWake_touch _ _)
    | with_reducible apply Touch.via (xWrite_touch _ _ _ _)
    | with_reducible apply Touch.via (State.modCore_touch _ _ _)
    | split

theorem dxDeskdone_touch (a1 : Nat) (a2 : Priv) (a3 : Nat) (a4 : Nat) (a5 : State) : Touch 0xc80e80000000000000000000020001e0000000000000000100c002440880000000000000300000000000018000f800000000000000 a5 (dxDeskdone a1 a2 a3 a4 a5) := by
  unfold dxDeskdone
  repeat' first
    | with_reducible exact Touch.refl _ _
    | ((with_reducible refine Eq.symm ?_); exact rfl)
    | with_reducible apply Touch.after (xdax_touch ?_ _ _ _ _ ?_)
    | with_reducible apply Touch.via (xWrite_touch _ _ _ _)
    | with_reducible apply Touch.via (logRefused_touch _ _ _ _ _)
    | with_reducible apply Touch.via (complete_touch _ _ _ _)
    | with_reducible apply Touch.via (qLess_touch _ _)
    | with_reducible apply Touch.via (State.modCore_touch _ _ _)
    | intro _
    | split

theorem dxQpush_touch (a1 : Nat) (a2 : Priv) (a3 : Nat) (a4 : Nat) (a5 : Nat) (a6 : State) : Touch 0xc80e80000000000000000000020001e0000000000000000100c002c00880000000000000300000000000018000f800000000000000 a6 (dxQpush a1 a2 a3 a4 a5 a6) := by
  unfold dxQpush
  repeat' first
    | with_reducible exact Touch.refl _ _
    | ((with_reducible refine Eq.symm ?_); exact rfl)
    | with_reducible refine Touch.ite ?_ ?_
    | with_reducible apply Touch.via (State.modCore_touch _ _ _)
    | with_reducible apply Touch.after (xdax_touch ?_ _ _ _ _ ?_)
    | with_reducible apply Touch.via (xWrite_touch _ _ _ _)
    | with_reducible apply Touch.via (logViol_touch _ _ _ _ _ _ _)
    | with_reducible apply Touch.via (logRefused_touch _ _ _ _ _)
    | with_reducible apply Touch.via (memRead_touch _ _ _ _)
    | with_reducible apply Touch.via (memWrite_touch _ _ _ _ _)
    | with_reducible apply Touch.via (settle_touch _ _)
    | with_reducible refine Touch.sf ?_ ?_
    | intro _

theorem dxTick_touch (a1 : Nat) (a2 : Priv) (a3 : Nat) (a4 : Nat) (a5 : State) : Touch 0xc80e80000000000000000000020001e0000000000000000100c002400c80000000000000300000000000018000f800000000000000 a5 (dxTick a1 a2 a3 a4 a5) := by
  unfold dxTick
  repeat' first
    | with_reducible exact Touch.refl _ _
    | ((with_reducible refine Eq.symm ?_); exact rfl)
    | with_reducible refine Touch.ite ?_ ?_
    | with_reducible apply Touch.after (xdax_touch ?_ _ _ _ _ ?_)
    | with_reducible apply Touch.via (xWrite_touch _ _ _ _)
    | with_reducible apply Touch.via (tickAdvance_touch _ _)
    | with_reducible apply Touch.via (logRefused_touch _ _ _ _ _)
    | intro _

end Machine
end Sys2Proof
end

