-- ==== Sys2Proof/Laws/TouchHif.lean ====
section
/-! SUPPORT. What each operation of Machine/Hif.lean leaves alone. -/
set_option linter.unusedVariables false
set_option Elab.async false
namespace Sys2Proof
namespace Machine

theorem msixReset_touch (a1 : Nat) (a2 : State) : Touch 0x2000000000000000000000000000000000000000000000000000000000000000000000000000000000000000000000000000000 a2 (msixReset a1 a2) := by
  unfold msixReset
  repeat' first
    | with_reducible exact Touch.refl _ _
    | (simp only [Touch.mk_eq]; with_reducible refine TouchMk.intro ?_)

theorem vfFlr_touch (a1 : Nat) (a2 : State) : Touch 0xcdeef8000000000000300001020001e0020060000000000120cf0244088421006000c004300000a3c0fa4d8408f9047e10000e1605 a2 (vfFlr a1 a2) := by
  unfold vfFlr
  repeat' first
    | with_reducible exact Touch.refl _ _
    | ((with_reducible refine Eq.symm ?_); exact rfl)
    | with_reducible refine Touch.ite ?_ ?_
    | with_reducible apply Touch.via (mbxEmpty_touch _ _)
    | with_reducible apply Touch.via (abortPart_touch _ _)
    | with_reducible apply Touch.via (qDisable_touch _ _ _)
    | with_reducible apply Touch.via (msixReset_touch _ _)
    | with_reducible refine Touch.setReg ?_ ?_
    | with_reducible refine Touch.forEach ?_ ?_
    | with_reducible refine Touch.forUpTo ?_ ?_
    | (simp only [Touch.mk_eq]; with_reducible refine TouchMk.intro ?_)
    | intro _

theorem hifReset_touch (a1 : State) : Touch 0x200000000000000000000000000000000000000000000000ff80000000000000000000000000000000000000000000000000000 a1 (hifReset a1) := by
  unfold hifReset
  repeat' first
    | with_reducible exact Touch.refl _ _
    | ((with_reducible refine Eq.symm ?_); exact rfl)
    | with_reducible refine Touch.resetList ?_ ?_
    | (simp only [Touch.mk_eq]; with_reducible refine TouchMk.intro ?_)

theorem linkDown_touch (a1 : State) : Touch 0x200000000000000000000000000000000000000000000000ffc0000000000000000000000000000000000000000000000000000 a1 (linkDown a1) := by
  unfold linkDown
  repeat' first
    | with_reducible exact Touch.refl _ _
    | ((with_reducible refine Eq.symm ?_); exact rfl)
    | with_reducible apply Touch.via (hifReset_touch _)
    | with_reducible refine Touch.setReg ?_ ?_

theorem msixUnmask_touch (a1 : Nat) (a2 : Nat) (a3 : State) : Touch 0x2000000000000000000000000000000000000000000000000000000000000000000000000000000000000000000000000000000 a3 (msixUnmask a1 a2 a3) := by
  unfold msixUnmask
  repeat' first
    | with_reducible exact Touch.refl _ _
    | ((with_reducible refine Eq.symm ?_); exact rfl)
    | with_reducible refine Touch.ite ?_ ?_
    | with_reducible apply Touch.via (sendMsix_touch _ _ _)
    | (simp only [Touch.mk_eq]; with_reducible refine TouchMk.intro ?_)

theorem configWrite_touch (a1 : Bool) (a2 : Bool) (a3 : State) : Touch 0x2000000000000000000000000000000000000000000000000000000000000000000000000000000000000000000000000000000 a3 (configWrite a1 a2 a3) := by
  unfold configWrite
  repeat' first
    | with_reducible exact Touch.refl _ _
    | (simp only [Touch.mk_eq]; with_reducible refine TouchMk.intro ?_)

end Machine
end Sys2Proof
end

