-- ==== Sys2Proof/Laws/TouchTime.lean ====
section
/-! SUPPORT. What each operation of Machine/Time.lean leaves alone. -/
set_option linter.unusedVariables false
set_option Elab.async false
namespace Sys2Proof
namespace Machine

theorem setTimeUnits_touch (a1 : Int) (a2 : State) : Touch 0x1000000000000000000000000000000000000000000000000000000000000000000000000000000000000000000000000000000 a2 (setTimeUnits a1 a2) := by
  unfold setTimeUnits
  repeat' first
    | with_reducible exact Touch.refl _ _
    | (simp only [Touch.mk_eq]; with_reducible refine TouchMk.intro ?_)

theorem timEvent_touch (a1 : Nat) (a2 : State) : Touch 0x20000000000000000000000000000000000000000800000c0000000000000000000000000000000000000000000000000000000 a2 (timEvent a1 a2) := by
  unfold timEvent
  repeat' first
    | with_reducible exact Touch.refl _ _
    | ((with_reducible refine Eq.symm ?_); exact rfl)
    | with_reducible refine Touch.ite ?_ ?_
    | with_reducible apply Touch.via (raiseIrq_touch _ _)
    | with_reducible refine Touch.sf ?_ ?_
    | dsimp only

theorem slewStep_touch (a1 : State) : Touch 0x30000000000000000000000000000000000000000808000c0000000000000000000000000000000000000000000000000000000 a1 (slewStep a1) := by
  unfold slewStep
  repeat' first
    | with_reducible exact Touch.refl _ _
    | ((with_reducible refine Eq.symm ?_); exact rfl)
    | with_reducible refine Touch.ite ?_ ?_
    | with_reducible apply Touch.via (timEvent_touch _ _)
    | with_reducible refine Touch.sf ?_ ?_
    | (simp only [Touch.mk_eq]; with_reducible refine TouchMk.intro ?_)

theorem applyStep_touch (a1 : State) : Touch 0x2030000000000000000000000000000000000000000808000c0000000000000000000000000000000000000000000000000000000 a1 (applyStep a1) := by
  unfold applyStep
  repeat' first
    | with_reducible exact Touch.refl _ _
    | ((with_reducible refine Eq.symm ?_); exact rfl)
    | with_reducible apply Touch.via (setTimeUnits_touch _ _)
    | with_reducible apply Touch.via (timEvent_touch _ _)
    | with_reducible apply Touch.via (genRestep_touch _)
    | with_reducible refine Touch.sf ?_ ?_
    | (simp only [Touch.mk_eq]; with_reducible refine TouchMk.intro ?_)
    | split

theorem timeAdvance_touch (a1 : State) : Touch 0x2030000000000000000000000000000000000000000808000c0000000000000000000000000000000000000000000000000000000 a1 (timeAdvance a1) := by
  unfold timeAdvance
  repeat' first
    | with_reducible exact Touch.refl _ _
    | ((with_reducible refine Eq.symm ?_); exact rfl)
    | with_reducible apply Touch.via (applyStep_touch _)
    | with_reducible apply Touch.via (setTimeUnits_touch _ _)
    | with_reducible apply Touch.via (slewStep_touch _)

theorem timCmd_touch {w : Nat} (hw : Nat.lor 0x400200000000000000000000000000a0000000000000008000c0000000000000000000000000000000000000000000000000000000 w = w) (a1 : Requester) (a2 : Nat) (a3 : State → State) (a4 : State) (ha3 : ∀  t, Touch w t (a3  t)) : Touch w a4 (timCmd a1 a2 a3 a4) := by
  unfold timCmd
  repeat' first
    | with_reducible exact Touch.refl _ _
    | with_reducible refine Touch.ite ?_ ?_
    | exact Touch.sub (by rfl) hw
    | exact Touch.bit hw (by rfl)
    | with_reducible apply Touch.after (ha3 _)
    | with_reducible apply Touch.via (denyWrite_touch _ _ _ _ _)
    | with_reducible apply Touch.via (okResp_touch _ _)
    | with_reducible refine Touch.sf ?_ ?_

theorem timRefuse_touch (a1 : Requester) (a2 : Nat) (a3 : State) : Touch 0x200000000000000000000000000a0000000000000008000c0000000000000000000000000000000000000000000000000000000 a3 (timRefuse a1 a2 a3) := by
  unfold timRefuse
  repeat' first
    | with_reducible exact Touch.refl _ _
    | ((with_reducible refine Eq.symm ?_); exact rfl)
    | with_reducible apply Touch.via (logRefused_touch _ _ _ _ _)
    | with_reducible refine Touch.sf ?_ ?_

theorem timeStep_touch (a1 : Requester) (a2 : State) : Touch 0x400300000000000000000000000000a0000000000000808000c0000000000000000000000000000000000000000000000000000000 a2 (timeStep a1 a2) := by
  unfold timeStep
  repeat' first
    | with_reducible exact Touch.refl _ _
    | ((with_reducible refine Eq.symm ?_); exact rfl)
    | with_reducible refine Touch.ite ?_ ?_
    | with_reducible apply Touch.after (timCmd_touch ?_ _ _ _ _ ?_)
    | with_reducible apply Touch.via (timEvent_touch _ _)
    | with_reducible apply Touch.via (timRefuse_touch _ _ _)
    | with_reducible refine Touch.sf ?_ ?_
    | (simp only [Touch.mk_eq]; with_reducible refine TouchMk.intro ?_)
    | intro _
    | split

theorem timeFree_touch (a1 : State) : Touch 0x1000000000000000000000000000000000000000000800000000000000000000000000000000000000000000000000000000000 a1 (timeFree a1) := by
  unfold timeFree
  repeat' first
    | with_reducible exact Touch.refl _ _
    | ((with_reducible refine Eq.symm ?_); exact rfl)
    | with_reducible refine Touch.sf ?_ ?_
    | (simp only [Touch.mk_eq]; with_reducible refine TouchMk.intro ?_)

theorem timeRearm_touch (a1 : Requester) (a2 : State) : Touch 0x400300000000000000000000000000a0000000000000008000c0000000000000000000000000000000000000000000000000000000 a2 (timeRearm a1 a2) := by
  unfold timeRearm
  repeat' first
    | with_reducible exact Touch.refl _ _
    | ((with_reducible refine Eq.symm ?_); exact rfl)
    | with_reducible refine Touch.ite ?_ ?_
    | with_reducible apply Touch.after (timCmd_touch ?_ _ _ _ _ ?_)
    | with_reducible apply Touch.via (timRefuse_touch _ _ _)
    | with_reducible apply Touch.via (timeFree_touch _)
    | (simp only [Touch.mk_eq]; with_reducible refine TouchMk.intro ?_)
    | intro _

theorem timRateWrite_touch (a1 : Requester) (a2 : Nat) (a3 : State) : Touch 0x400200000000000000000000000000a0000000000000200000c0000000000000000000000000000000000000000000000000000000 a3 (timRateWrite a1 a2 a3) := by
  unfold timRateWrite
  repeat' first
    | with_reducible exact Touch.refl _ _
    | ((with_reducible refine Eq.symm ?_); exact rfl)
    | with_reducible refine Touch.ite ?_ ?_
    | with_reducible apply Touch.via (denyWrite_touch _ _ _ _ _)
    | with_reducible apply Touch.via (lockedWrite_touch _ _ _ _ _)
    | with_reducible apply Touch.via (okResp_touch _ _)
    | with_reducible refine Touch.sf ?_ ?_

theorem txtsShow_touch (a1 : State) : Touch 0x400000000000000000000000000000000000000000000000000000000000000 a1 (txtsShow a1) := by
  unfold txtsShow
  repeat' first
    | with_reducible exact Touch.refl _ _
    | ((with_reducible refine Eq.symm ?_); exact rfl)
    | with_reducible refine Touch.sf ?_ ?_
    | split
    | dsimp only

theorem ptpTx_touch (a1 : Nat) (a2 : Nat) (a3 : Bool) (a4 : State) : Touch 0x30000000000000000000000000000000000000004800000c0000000000000000000000000000000000000000000000000000000 a4 (ptpTx a1 a2 a3 a4) := by
  unfold ptpTx
  repeat' first
    | with_reducible exact Touch.refl _ _
    | ((with_reducible refine Eq.symm ?_); exact rfl)
    | with_reducible refine Touch.ite ?_ ?_
    | with_reducible apply Touch.via (timEvent_touch _ _)
    | with_reducible apply Touch.via (txtsShow_touch _)
    | with_reducible refine Touch.bump ?_ ?_
    | (simp only [Touch.mk_eq]; with_reducible refine TouchMk.intro ?_)

theorem ptpRx_touch (a1 : Nat) (a2 : Nat) (a3 : State) : Touch 0x1000000000000000000000000000000000000000000000000000000000000000000000000000000000000000000000000000000 a3 (ptpRx a1 a2 a3) := by
  unfold ptpRx
  repeat' first
    | with_reducible exact Touch.refl _ _
    | with_reducible refine Touch.ite ?_ ?_
    | (simp only [Touch.mk_eq]; with_reducible refine TouchMk.intro ?_)

theorem txtsRead_touch (a1 : State) : Touch 0x4001000000000000000000000000000000000000003c00000000000000000000000000000000000000000000000000000000000000 a1 (txtsRead a1) := by
  unfold txtsRead
  repeat' first
    | with_reducible exact Touch.refl _ _
    | ((with_reducible refine Eq.symm ?_); exact rfl)
    | with_reducible apply Touch.via (okResp_touch _ _)
    | with_reducible apply Touch.via (txtsShow_touch _)
    | with_reducible refine Touch.setReg ?_ ?_
    | with_reducible refine Touch.sf ?_ ?_
    | (simp only [Touch.mk_eq]; with_reducible refine TouchMk.intro ?_)
    | split

theorem txtsPop_touch (a1 : Requester) (a2 : State) : Touch 0x400300000000000000000000000000a000000000003c000000c0000000000000000000000000000000000000000000000000000000 a2 (txtsPop a1 a2) := by
  unfold txtsPop
  repeat' first
    | with_reducible exact Touch.refl _ _
    | ((with_reducible refine Eq.symm ?_); exact rfl)
    | with_reducible refine Touch.ite ?_ ?_
    | with_reducible apply Touch.via (denyRead_touch _ _ _ _)
    | with_reducible apply Touch.via (txtsRead_touch _)

theorem chainMarker_touch (a1 : Nat) (a2 : Nat) (a3 : Bool) (a4 : State) : Touch 0x30000000000000000000000000000000000020000800000c0000000000000000000000000000000000000000000000000000000 a4 (chainMarker a1 a2 a3 a4) := by
  unfold chainMarker
  repeat' first
    | with_reducible exact Touch.refl _ _
    | ((with_reducible refine Eq.symm ?_); exact rfl)
    | with_reducible refine Touch.ite ?_ ?_
    | with_reducible apply Touch.via (timEvent_touch _ _)
    | with_reducible refine Touch.sf ?_ ?_
    | (simp only [Touch.mk_eq]; with_reducible refine TouchMk.intro ?_)

theorem ptmBegin_touch (a1 : State) : Touch 0x1000000000000000000000000000000000000030000000000000000000000000000000000000000000000000000000000000000 a1 (ptmBegin a1) := by
  unfold ptmBegin
  repeat' first
    | with_reducible exact Touch.refl _ _
    | ((with_reducible refine Eq.symm ?_); exact rfl)
    | with_reducible refine Touch.sf ?_ ?_
    | (simp only [Touch.mk_eq]; with_reducible refine TouchMk.intro ?_)

theorem ptmTrigger_touch (a1 : Requester) (a2 : State) : Touch 0x400300000000000000000000000000a0000000000300000000c0000000000000000000000000000000000000000000000000000000 a2 (ptmTrigger a1 a2) := by
  unfold ptmTrigger
  repeat' first
    | with_reducible exact Touch.refl _ _
    | ((with_reducible refine Eq.symm ?_); exact rfl)
    | with_reducible refine Touch.ite ?_ ?_
    | with_reducible apply Touch.via (denyWrite_touch _ _ _ _ _)
    | with_reducible apply Touch.via (ptmBegin_touch _)
    | with_reducible apply Touch.via (okResp_touch _ _)
    | with_reducible apply Touch.via (logRefused_touch _ _ _ _ _)
    | with_reducible refine Touch.sf ?_ ?_

theorem ptmPeriod_touch (a1 : State) : Touch 0x1000000000000000000000000000000000000030000000000000000000000000000000000000000000000000000000000000000 a1 (ptmPeriod a1) := by
  unfold ptmPeriod
  repeat' first
    | with_reducible exact Touch.refl _ _
    | ((with_reducible refine Eq.symm ?_); exact rfl)
    | with_reducible refine Touch.ite ?_ ?_
    | with_reducible apply Touch.via (ptmBegin_touch _)

theorem ptmEnd_touch (a1 : Bool) (a2 : Bool) (a3 : State) : Touch 0x20000000000000000000000000000000000000100800000c0000000000000000000000000000000000000000000000000000000 a3 (ptmEnd a1 a2 a3) := by
  unfold ptmEnd
  repeat' first
    | with_reducible exact Touch.refl _ _
    | ((with_reducible refine Eq.symm ?_); exact rfl)
    | with_reducible refine Touch.ite ?_ ?_
    | with_reducible apply Touch.via (timEvent_touch _ _)
    | with_reducible refine Touch.sf ?_ ?_
    | with_reducible refine Touch.sflag ?_ ?_

theorem ptmResponse_touch (a1 : Bool) (a2 : Nat) (a3 : Nat) (a4 : State) : Touch 0x3000000000000000000000000000000000000a900800000c0000000000000000000000000000000000000000000000000000000 a4 (ptmResponse a1 a2 a3 a4) := by
  unfold ptmResponse
  repeat' first
    | with_reducible exact Touch.refl _ _
    | ((with_reducible refine Eq.symm ?_); exact rfl)
    | with_reducible refine Touch.ite ?_ ?_
    | with_reducible apply Touch.via (ptmEnd_touch _ _ _)
    | with_reducible refine Touch.sf ?_ ?_
    | (simp only [Touch.mk_eq]; with_reducible refine TouchMk.intro ?_)

theorem ptmTimeout_touch (a1 : State) : Touch 0x20000000000000000000000000000000000000100800000c0000000000000000000000000000000000000000000000000000000 a1 (ptmTimeout a1) := by
  unfold ptmTimeout
  repeat' first
    | with_reducible exact Touch.refl _ _
    | ((with_reducible refine Eq.symm ?_); exact rfl)
    | with_reducible refine Touch.ite ?_ ?_
    | with_reducible apply Touch.via (ptmEnd_touch _ _ _)

end Machine
end Sys2Proof
end

