-- ==== Sys2Proof/Laws/TouchHallPass.lean ====
section
/-! SUPPORT. What each operation of Machine/HallPass.lean leaves alone. -/
set_option linter.unusedVariables false
set_option Elab.async false
namespace Sys2Proof
namespace Machine

theorem zeroSpan_touch (a1 : Nat) (a2 : Nat) (a3 : State) : Touch 0x800000000000000000000000000000000000000000000000000000000000000000000000000000000000000000000000000000 a3 (zeroSpan a1 a2 a3) := by
  unfold zeroSpan
  repeat' first
    | with_reducible exact Touch.refl _ _
    | ((with_reducible refine Eq.symm ?_); exact rfl)
    | with_reducible refine Touch.ite ?_ ?_
    | with_reducible apply Touch.via (State.wbs_touch _ _ _)
    | (simp only [Touch.mk_eq]; with_reducible refine TouchMk.intro ?_ (hm := ?_))
    | with_reducible exact MemState.wf_clear _ _ _

theorem passSnaps_touch (a1 : Nat) (a2 : State) : Touch 0x8800000000000000000000000000000000000000000000000000000000000000000003000000000000000000000000000000000 a2 (passSnaps a1 a2) := by
  unfold passSnaps
  repeat' first
    | with_reducible exact Touch.refl _ _
    | ((with_reducible refine Eq.symm ?_); exact rfl)
    | with_reducible apply Touch.via (zeroSpan_touch _ _ _)
    | with_reducible apply Touch.via (dropSnap_touch _ _ _)
    | with_reducible apply Touch.via (snapStatus_touch _ _)
    | with_reducible apply Touch.via (State.modTrec_touch _ _ _)
    | with_reducible refine Touch.forEach ?_ ?_
    | intro _

theorem passJournal_touch (a1 : Nat) (a2 : Nat) (a3 : State) : Touch 0x800000000000000000000000000000000000000000000000000000000000000000000000000000000000000000000000000000 a3 (passJournal a1 a2 a3) := by
  unfold passJournal
  repeat' first
    | with_reducible exact Touch.refl _ _
    | ((with_reducible refine Eq.symm ?_); exact rfl)
    | with_reducible apply Touch.via (zeroSpan_touch _ _ _)
    | with_reducible refine Touch.forUpTo ?_ ?_
    | intro _

theorem passRing_touch (a1 : Nat) (a2 : State) : Touch 0x8800000000000000000000000000000000000000000000000000000000000000000000000000000000000000000000000000000 a2 (passRing a1 a2) := by
  unfold passRing
  repeat' first
    | with_reducible exact Touch.refl _ _
    | ((with_reducible refine Eq.symm ?_); exact rfl)
    | with_reducible apply Touch.via (zeroSpan_touch _ _ _)
    | with_reducible apply Touch.via (State.modTrec_touch _ _ _)
    | with_reducible refine Touch.forUpTo ?_ ?_
    | intro _
    | split

theorem passEndPart_touch (a1 : Nat) (a2 : State) : Touch 0x800a8000000000000000000000000000000060000000000000c000000000000000000000f020000000000000000000000000000000 a2 (passEndPart a1 a2) := by
  unfold passEndPart
  repeat' first
    | with_reducible exact Touch.refl _ _
    | ((with_reducible refine Eq.symm ?_); exact rfl)
    | with_reducible refine Touch.ite ?_ ?_
    | with_reducible apply Touch.via (traceStop_touch _ _ _)
    | with_reducible apply Touch.via (passJournal_touch _ _ _)
    | with_reducible apply Touch.via (passSnaps_touch _ _)
    | with_reducible apply Touch.via (State.modTrec_touch _ _ _)
    | with_reducible apply Touch.via (passRing_touch _ _)

theorem passEnd_touch (a1 : State) : Touch 0x801a80000000000000000000000000000000e0000000000000c000000000000000000000f020000000000000000000000000000000 a1 (passEnd a1) := by
  unfold passEnd
  repeat' first
    | with_reducible exact Touch.refl _ _
    | ((with_reducible refine Eq.symm ?_); exact rfl)
    | with_reducible refine Touch.ite ?_ ?_
    | with_reducible apply Touch.via (passEndPart_touch _ _)
    | with_reducible refine Touch.setReg ?_ ?_
    | with_reducible refine Touch.forEach ?_ ?_
    | (simp only [Touch.mk_eq]; with_reducible refine TouchMk.intro ?_)
    | intro _

theorem hallPassExpiry_touch (a1 : State) : Touch 0x801a80000000000000000000000000000000e0000000000000c000000000000000000000f020000000000000000000000000000000 a1 (hallPassExpiry a1) := by
  unfold hallPassExpiry
  repeat' first
    | with_reducible exact Touch.refl _ _
    | ((with_reducible refine Eq.symm ?_); exact rfl)
    | with_reducible refine Touch.ite ?_ ?_
    | with_reducible apply Touch.via (passEnd_touch _)
    | split

end Machine
end Sys2Proof
end

