-- ==== Sys2Proof/Laws/TouchCoreDbg.lean ====
section
/-! SUPPORT. What each operation of Machine/CoreDbg.lean leaves alone. -/
set_option linter.unusedVariables false
set_option Elab.async false
namespace Sys2Proof
namespace Machine

theorem eventFrame_touch (a1 : Nat) (a2 : State) : Touch 0x10000000000000000000000000000000000000000000000000000000000000000000000000000000000000000000000000000000 a2 (eventFrame a1 a2) := by
  unfold eventFrame
  repeat' first
    | with_reducible exact Touch.refl _ _
    | with_reducible refine Touch.ite ?_ ?_
    | (simp only [Touch.mk_eq]; with_reducible refine TouchMk.intro ?_)

theorem haltRequest_touch (a1 : Nat) (a2 : Nat) (a3 : Nat) (a4 : State) : Touch 0x800000000000000000000000000000000000000000000000000000000000000000000000000000000000000000000000000000000 a4 (haltRequest a1 a2 a3 a4) := by
  unfold haltRequest
  repeat' first
    | with_reducible exact Touch.refl _ _
    | ((with_reducible refine Eq.symm ?_); exact rfl)
    | with_reducible refine Touch.ite ?_ ?_
    | with_reducible apply Touch.via (State.modCore_touch _ _ _)

theorem drawRegs_touch (a1 : Nat) (a2 : State) : Touch 0x8800000000000000000000000000000000000000000000000000000000000000000000000000000000000000000000000000000000 a2 (drawRegs a1 a2) := by
  unfold drawRegs
  repeat' first
    | with_reducible exact Touch.refl _ _
    | ((with_reducible refine Eq.symm ?_); exact rfl)
    | with_reducible apply Touch.via (drawn_touch _)
    | with_reducible apply Touch.via (xWrite_touch _ _ _ _)
    | with_reducible refine Touch.forUpTo ?_ ?_
    | intro _

theorem csrForget_touch (a1 : Nat) (a2 : State) : Touch 0x800000000000000000000000000000000000000000000000000000000000000000000000000000000000000000000000000000000 a2 (csrForget a1 a2) := by
  unfold csrForget
  repeat' first
    | with_reducible exact Touch.refl _ _
    | (simp only [Touch.mk_eq]; with_reducible refine TouchMk.intro ?_)

theorem enterHalted_touch (a1 : Nat) (a2 : Nat) (a3 : Nat) (a4 : Nat) (a5 : Nat) (a6 : State) : Touch 0xc81e80000000000000000000020001e0000061000000000100c002440880000000000000300000000000018000f800000000000000 a6 (enterHalted a1 a2 a3 a4 a5 a6) := by
  unfold enterHalted
  repeat' first
    | with_reducible exact Touch.refl _ _
    | ((with_reducible refine Eq.symm ?_); exact rfl)
    | with_reducible apply Touch.via (deskEmpty_touch _ _)
    | with_reducible apply Touch.via (State.modCore_touch _ _ _)
    | with_reducible apply Touch.via (ctWake_touch _ _)
    | with_reducible apply Touch.via (pulseCti_touch _ _)
    | with_reducible apply Touch.via (eventFrame_touch _ _)
    | with_reducible refine Touch.sf ?_ ?_
    | with_reducible refine Touch.sflag ?_ ?_
    | with_reducible refine Touch.forEach ?_ ?_
    | intro _

theorem coreHalt_touch (a1 : Nat) (a2 : Nat) (a3 : Priv) (a4 : Bool) (a5 : State) : Touch 0xc81e80000000000000000000020001e0000061000000000100c002440880000000000000300000000000018000f800000000000000 a5 (coreHalt a1 a2 a3 a4 a5) := by
  unfold coreHalt
  repeat' first
    | with_reducible exact Touch.refl _ _
    | ((with_reducible refine Eq.symm ?_); exact rfl)
    | with_reducible refine Touch.ite ?_ ?_
    | with_reducible apply Touch.via (enterHalted_touch _ _ _ _ _ _)
    | with_reducible apply Touch.via (drawRegs_touch _ _)
    | with_reducible apply Touch.via (csrForget_touch _ _)
    | with_reducible refine Touch.sf ?_ ?_
    | split

theorem coreStart_touch (a1 : Nat) (a2 : Nat) (a3 : State) : Touch 0xc81e80000000000000000000020001e0000061000000000100c002440880000000000000300000000000018000f800000000000000 a3 (coreStart a1 a2 a3) := by
  unfold coreStart
  repeat' first
    | with_reducible exact Touch.refl _ _
    | ((with_reducible refine Eq.symm ?_); exact rfl)
    | with_reducible refine Touch.ite ?_ ?_
    | with_reducible apply Touch.via (State.modCore_touch _ _ _)
    | with_reducible apply Touch.via (enterHalted_touch _ _ _ _ _ _)
    | with_reducible refine Touch.sf ?_ ?_

theorem traceOn_touch (a1 : Nat) (a2 : State) : Touch 0x8808800000000000000000000000000000006000000000000000000000000000000000000000000000000000000000000000000000 a2 (traceOn a1 a2) := by
  unfold traceOn
  repeat' first
    | with_reducible exact Touch.refl _ _
    | ((with_reducible refine Eq.symm ?_); exact rfl)
    | with_reducible refine Touch.ite ?_ ?_
    | with_reducible apply Touch.via (State.modCore_touch _ _ _)
    | with_reducible apply Touch.via (ctEmit_touch _ _ _ _ _ _)

theorem dataPacket_touch (a1 : Nat) (a2 : Nat) (a3 : CoreAcc) (a4 : State) : Touch 0x8808800000000000000000000000000000006000000000000000000000000000000000000000000000000000000000000000000000 a4 (dataPacket a1 a2 a3 a4) := by
  unfold dataPacket
  repeat' first
    | with_reducible exact Touch.refl _ _
    | ((with_reducible refine Eq.symm ?_); exact rfl)
    | with_reducible refine Touch.ite ?_ ?_
    | with_reducible apply Touch.via (ctEmit_touch _ _ _ _ _ _)

theorem cmprActions_touch (a1 : Nat) (a2 : Nat) (a3 : Option CoreAcc) (a4 : State) : Touch 0x8818800000000000000000000000000000006100000000000000000000000000000000000000000000000000000000000000000000 a4 (cmprActions a1 a2 a3 a4) := by
  unfold cmprActions
  repeat' first
    | with_reducible exact Touch.refl _ _
    | ((with_reducible refine Eq.symm ?_); exact rfl)
    | with_reducible refine Touch.ite ?_ ?_
    | with_reducible apply Touch.via (traceOn_touch _ _)
    | with_reducible apply Touch.via (dataPacket_touch _ _ _ _)
    | with_reducible apply Touch.via (ctTrigger_touch _ _)
    | with_reducible apply Touch.via (State.modCore_touch _ _ _)
    | with_reducible apply Touch.via (pulseCti_touch _ _)
    | with_reducible apply Touch.via (haltRequest_touch _ _ _ _)
    | split

theorem comparatorMatch_touch (a1 : Nat) (a2 : Priv) (a3 : Nat) (a4 : Nat) (a5 : Option CoreAcc) (a6 : State) : Touch 0x8818800000000000000000000000000000006100000000000000000000000000000000000000000000000000000000000000000000 a6 (comparatorMatch a1 a2 a3 a4 a5 a6) := by
  unfold comparatorMatch
  repeat' first
    | with_reducible exact Touch.refl _ _
    | ((with_reducible refine Eq.symm ?_); exact rfl)
    | with_reducible refine Touch.ite ?_ ?_
    | with_reducible apply Touch.via (cmprActions_touch _ _ _ _)
    | with_reducible apply Touch.via (State.modCore_touch _ _ _)
    | with_reducible refine Touch.forEach ?_ ?_
    | intro _

theorem ctiFreeze_touch (a1 : Nat) (a2 : State) : Touch 0x400000000000000000000000000000000000000000000000000000000000000000000000000000000000000004000000000000 a2 (ctiFreeze a1 a2) := by
  unfold ctiFreeze
  repeat' first
    | with_reducible exact Touch.refl _ _
    | ((with_reducible refine Eq.symm ?_); exact rfl)
    | with_reducible refine Touch.ite ?_ ?_
    | with_reducible apply Touch.via (raiseLead_touch _ _ _ _)

theorem ctiPulse_touch (a1 : State) : Touch 0x881ae000000000000000000000000000000061000000000000c000000000000000000000c220000000000000000004000000000400 a1 (ctiPulse a1) := by
  unfold ctiPulse
  repeat' first
    | with_reducible exact Touch.refl _ _
    | ((with_reducible refine Eq.symm ?_); exact rfl)
    | with_reducible refine Touch.ite ?_ ?_
    | with_reducible apply Touch.via (haltRequest_touch _ _ _ _)
    | with_reducible apply Touch.via (ctTrigger_touch _ _)
    | with_reducible apply Touch.via (traceFire_touch _ _ _ _ _ _)
    | with_reducible apply Touch.via (ctiFreeze_touch _ _)
    | with_reducible refine Touch.forUpTo ?_ ?_
    | (simp only [Touch.mk_eq]; with_reducible refine TouchMk.intro ?_)
    | intro _
    | split

theorem ctiPulseWrite_touch (a1 : Requester) (a2 : Nat) (a3 : State) : Touch 0x401200000000000000000000000000a0000000000000000000c0000000000000000000000000000000000000000000000000000000 a3 (ctiPulseWrite a1 a2 a3) := by
  unfold ctiPulseWrite
  repeat' first
    | with_reducible exact Touch.refl _ _
    | ((with_reducible refine Eq.symm ?_); exact rfl)
    | with_reducible refine Touch.ite ?_ ?_
    | with_reducible apply Touch.via (denyWrite_touch _ _ _ _ _)
    | with_reducible apply Touch.via (pulseCti_touch _ _)
    | with_reducible apply Touch.via (okResp_touch _ _)
    | with_reducible refine Touch.forEach ?_ ?_
    | intro _

theorem mbxGo_touch (a1 : Requester) (a2 : Nat) (a3 : State) : Touch 0x400200000000000000000000020000a0000000300000000000c0000000000000000000000000000000000000000000000000000000 a3 (mbxGo a1 a2 a3) := by
  unfold mbxGo
  repeat' first
    | with_reducible exact Touch.refl _ _
    | ((with_reducible refine Eq.symm ?_); exact rfl)
    | with_reducible refine Touch.ite ?_ ?_
    | with_reducible apply Touch.via (denyWrite_touch _ _ _ _ _)
    | with_reducible apply Touch.via (logRefused_touch _ _ _ _ _)
    | with_reducible apply Touch.via (okResp_touch _ _)
    | with_reducible apply Touch.via (wakeBy_touch _ _)
    | with_reducible refine Touch.sf ?_ ?_

end Machine
end Sys2Proof
end

