-- ==== Sys2Proof/Laws/TouchKeys.lean ====
section
/-! SUPPORT. What each operation of Machine/Keys.lean leaves alone. -/
set_option linter.unusedVariables false
set_option Elab.async false
namespace Sys2Proof
namespace Machine

theorem pulseStart_touch (a1 : Nat) (a2 : Nat) (a3 : Nat) (a4 : State) : Touch 0x400000000000000000000000000000000000000000000000000000000000000000000000000010000000000000000000000000000 a4 (pulseStart a1 a2 a3 a4) := by
  unfold pulseStart
  repeat' first
    | with_reducible exact Touch.refl _ _
    | ((with_reducible refine Eq.symm ?_); exact rfl)
    | with_reducible refine Touch.sf ?_ ?_
    | (simp only [Touch.mk_eq]; with_reducible refine TouchMk.intro ?_)

theorem secCmd_touch {w : Nat} (hw : Nat.lor 0x400200000000000000000000000000a0000000000000000000c0000000000000000000000000000000000000000000000000000000 w = w) (rq : Requester) (r : Reg) (v : Nat) (st : Fld) (legal : Bool) (f : State → State) (s : State)
    (hst : w.testBit st.reg.ctorIdx = true) (hf : ∀ t, Touch w t (f t)) : Touch w s (secCmd rq r v st legal f s) := by
  unfold secCmd
  refine Touch.ite (Touch.sf hst ((denyWrite_touch _ _ _ _ _).mono (Touch.sub (by rfl) hw))) (Touch.ite ?_ ?_)
  · exact Touch.trans ((Touch.sf hst (Touch.refl _ _)).trans ((okResp_touch _ _).mono (Touch.sub (by rfl) hw))) ((logRefused_touch _ _ _ _ _).mono (Touch.sub (by rfl) hw))
  · exact ((Touch.sf hst (Touch.refl _ _)).trans ((okResp_touch _ _).mono (Touch.sub (by rfl) hw))).trans (hf _)

theorem keyCmd_touch (a1 : Requester) (a2 : Nat) (a3 : Nat) (a4 : Nat → Bool) (a5 : Nat) (a6 : State) : Touch 0x440200000000000000000000000000a0000000000000000000c0000000000000000000000000050000000000000000000000000000 a6 (keyCmd a1 a2 a3 a4 a5 a6) := by
  unfold keyCmd
  repeat' first
    | with_reducible exact Touch.refl _ _
    | ((with_reducible refine Eq.symm ?_); exact rfl)
    | with_reducible refine Touch.ite ?_ ?_
    | with_reducible apply Touch.after (secCmd_touch ?_ _ _ _ _ _ _ _ ?_ ?_)
    | with_reducible apply Touch.via (pulseStart_touch _ _ _ _)
    | with_reducible refine Touch.setReg ?_ ?_
    | with_reducible refine Touch.forUpTo ?_ ?_
    | intro _

theorem keyProgram_touch (a1 : Requester) (a2 : Nat) (a3 : State) : Touch 0x440200000000000000000000000000a0000000000000000000c0000000000000000000000000050000000000000000000000000000 a3 (keyProgram a1 a2 a3) := by
  unfold keyProgram
  repeat' first
    | with_reducible exact Touch.refl _ _
    | ((with_reducible refine Eq.symm ?_); exact rfl)
    | with_reducible apply Touch.via (keyCmd_touch _ _ _ _ _ _)

theorem keyRevoke_touch (a1 : Requester) (a2 : Nat) (a3 : State) : Touch 0x440200000000000000000000000000a0000000000000000000c0000000000000000000000000050000000000000000000000000000 a3 (keyRevoke a1 a2 a3) := by
  unfold keyRevoke
  repeat' first
    | with_reducible exact Touch.refl _ _
    | ((with_reducible refine Eq.symm ?_); exact rfl)
    | with_reducible apply Touch.via (keyCmd_touch _ _ _ _ _ _)

theorem keyClear_touch (a1 : Requester) (a2 : Nat) (a3 : State) : Touch 0x440200000000000000000000000000a0000000000000000000c0000000000000000000000000050000000000000000000000000000 a3 (keyClear a1 a2 a3) := by
  unfold keyClear
  repeat' first
    | with_reducible exact Touch.refl _ _
    | ((with_reducible refine Eq.symm ?_); exact rfl)
    | with_reducible apply Touch.via (keyCmd_touch _ _ _ _ _ _)

theorem keyLost_touch (a1 : Nat) (a2 : State) : Touch 0x85eef800000000000030000102000140020060000000000020c00000000421006000c004300000a3c0fa4c040809047e10000e1605 a2 (keyLost a1 a2) := by
  unfold keyLost
  repeat' first
    | with_reducible exact Touch.refl _ _
    | ((with_reducible refine Eq.symm ?_); exact rfl)
    | with_reducible refine Touch.ite ?_ ?_
    | with_reducible apply Touch.via (loadEnd_touch _ _ _)
    | with_reducible refine Touch.forUpTo ?_ ?_
    | intro _

theorem setKey_touch (a1 : Nat) (a2 : Nat) (a3 : Nat) (a4 : State) : Touch 0x400000000000000000000000000000000000000000000000000000000000000000000000000010000000000000000000000000000 a4 (setKey a1 a2 a3 a4) := by
  unfold setKey
  repeat' first
    | with_reducible exact Touch.refl _ _
    | with_reducible refine Touch.sf ?_ ?_
    | (simp only [Touch.mk_eq]; with_reducible refine TouchMk.intro ?_)
    | (rw [Fld.nth_reg]; rfl)

theorem vbatLoss_touch (a1 : State) : Touch 0x85eef800000000000030000102000140020060000000000020c00000000421006000c004300001a3c0fa4c040809047e10000e1605 a1 (vbatLoss a1) := by
  unfold vbatLoss
  repeat' first
    | with_reducible exact Touch.refl _ _
    | ((with_reducible refine Eq.symm ?_); exact rfl)
    | with_reducible apply Touch.via (keyLost_touch _ _)
    | with_reducible apply Touch.via (setKey_touch _ _ _ _)

theorem lcAdvance_touch (a1 : Requester) (a2 : State) : Touch 0x440200000000000000000000000000a0000000000000000000c0000000000000000000000000110000000000000000000000000000 a2 (lcAdvance a1 a2) := by
  unfold lcAdvance
  repeat' first
    | with_reducible exact Touch.refl _ _
    | ((with_reducible refine Eq.symm ?_); exact rfl)
    | with_reducible apply Touch.after (secCmd_touch ?_ _ _ _ _ _ _ _ ?_ ?_)
    | with_reducible apply Touch.via (pulseStart_touch _ _ _ _)
    | intro _

theorem rkCmd_touch (a1 : Requester) (a2 : Nat) (a3 : Nat) (a4 : Bool) (a5 : Nat) (a6 : State) : Touch 0x440200000000000000000000000000a0000000000000000000c0000000000000000000000000a10000000000000000000000000000 a6 (rkCmd a1 a2 a3 a4 a5 a6) := by
  unfold rkCmd
  repeat' first
    | with_reducible exact Touch.refl _ _
    | ((with_reducible refine Eq.symm ?_); exact rfl)
    | with_reducible refine Touch.ite ?_ ?_
    | with_reducible apply Touch.after (secCmd_touch ?_ _ _ _ _ _ _ _ ?_ ?_)
    | with_reducible apply Touch.via (pulseStart_touch _ _ _ _)
    | with_reducible refine Touch.setReg ?_ ?_
    | with_reducible refine Touch.forUpTo ?_ ?_
    | intro _

theorem rkProgram_touch (a1 : Requester) (a2 : Nat) (a3 : State) : Touch 0x440200000000000000000000000000a0000000000000000000c0000000000000000000000000a10000000000000000000000000000 a3 (rkProgram a1 a2 a3) := by
  unfold rkProgram
  repeat' first
    | with_reducible exact Touch.refl _ _
    | ((with_reducible refine Eq.symm ?_); exact rfl)
    | with_reducible apply Touch.via (rkCmd_touch _ _ _ _ _ _)

theorem rkRevoke_touch (a1 : Requester) (a2 : Nat) (a3 : State) : Touch 0x440200000000000000000000000000a0000000000000000000c0000000000000000000000000a10000000000000000000000000000 a3 (rkRevoke a1 a2 a3) := by
  unfold rkRevoke
  repeat' first
    | with_reducible exact Touch.refl _ _
    | ((with_reducible refine Eq.symm ?_); exact rfl)
    | with_reducible apply Touch.via (rkCmd_touch _ _ _ _ _ _)

theorem svnAdvance_touch (a1 : Requester) (a2 : Nat) (a3 : State) : Touch 0x440200000000000000000000000000a0000000000000000000c0000000000000000000000001010000000000000000000000000000 a3 (svnAdvance a1 a2 a3) := by
  unfold svnAdvance
  repeat' first
    | with_reducible exact Touch.refl _ _
    | ((with_reducible refine Eq.symm ?_); exact rfl)
    | with_reducible apply Touch.after (secCmd_touch ?_ _ _ _ _ _ _ _ ?_ ?_)
    | with_reducible apply Touch.via (pulseStart_touch _ _ _ _)
    | intro _

theorem pulseEffect_touch (a1 : Nat) (a2 : Nat) (a3 : Nat) (a4 : State) : Touch 0x85eef800000000000030000102000140020060000000000020c00000000421006000c004300121a3c0fa4c040809047e10000e1605 a4 (pulseEffect a1 a2 a3 a4) := by
  unfold pulseEffect
  repeat' first
    | with_reducible exact Touch.refl _ _
    | ((with_reducible refine Eq.symm ?_); exact rfl)
    | with_reducible refine Touch.ite ?_ ?_
    | with_reducible apply Touch.via (keyLost_touch _ _)
    | with_reducible apply Touch.via (setKey_touch _ _ _ _)
    | with_reducible refine Touch.sf ?_ ?_
    | (simp only [Touch.mk_eq]; with_reducible refine TouchMk.intro ?_)
    | split
    | (rw [Fld.nth_reg]; rfl)

end Machine
end Sys2Proof
end

