-- ==== Sys2Proof/Laws/TouchRel.lean ====
section
/-! SUPPORT. What each operation of Machine/Rel.lean leaves alone. -/
set_option linter.unusedVariables false
set_option Elab.async false
namespace Sys2Proof
namespace Machine

theorem coreResetUnit_touch (a1 : Nat) (a2 : State) : Touch 0xc80e80000000000000000000020001e0000001000000000100c002440880000000000000300000000000018000f800000000000000 a2 (coreResetUnit a1 a2) := by
  unfold coreResetUnit
  repeat' first
    | with_reducible exact Touch.refl _ _
    | ((with_reducible refine Eq.symm ?_); exact rfl)
    | with_reducible apply Touch.via (taskLost_touch _ _)
    | with_reducible apply Touch.via (deskEmpty_touch _ _)
    | with_reducible apply Touch.via (State.modCore_touch _ _ _)
    | with_reducible refine Touch.sf ?_ ?_
    | (simp only [Touch.mk_eq]; with_reducible refine TouchMk.intro ?_)

theorem zeroRam_touch (a1 : Nat) (a2 : State) : Touch 0x800000000000000000000000000000000000000000000000000000000000000000000000000000000000000000000000000000 a2 (zeroRam a1 a2) := by
  unfold zeroRam
  repeat' first
    | with_reducible exact Touch.refl _ _
    | (simp only [Touch.mk_eq]; with_reducible refine TouchMk.intro ?_ (hm := ?_))
    | with_reducible exact MemState.wf_refill _ _ _

theorem fencePart_touch (a1 : Nat) (a2 : State) : Touch 0x80eee000000000000030000002000140000060000000000020c00000000420006000c00000000000008a0000000004400000021400 a2 (fencePart a1 a2) := by
  unfold fencePart
  repeat' first
    | with_reducible exact Touch.refl _ _
    | ((with_reducible refine Eq.symm ?_); exact rfl)
    | with_reducible apply Touch.via (report_touch _ _ _ _ _ _ _ _)
    | with_reducible apply Touch.via (enterFenced_touch _ _)
    | split

theorem unitLost_touch (a1 : Nat) (a2 : State) : Touch 0x85eef800000000000030000102000140020060000000000020c00000000421006000c004300000a3c0fa4c040809047e10000e1605 a2 (unitLost a1 a2) := by
  unfold unitLost
  repeat' first
    | with_reducible exact Touch.refl _ _
    | ((with_reducible refine Eq.symm ?_); exact rfl)
    | with_reducible refine Touch.ite ?_ ?_
    | with_reducible apply Touch.via (loadsEnd_touch _ _ _)
    | split

theorem freshClass_touch (a1 : Nat) (a2 : Nat) (a3 : State) : Touch 0x980000000000000000000000000000000000000000000000000000000000000000000000000000000000000000000000000000 a3 (freshClass a1 a2 a3) := by
  unfold freshClass
  repeat' first
    | with_reducible exact Touch.refl _ _
    | (simp only [Touch.mk_eq]; with_reducible refine TouchMk.intro ?_ (hm := ?_))
    | with_reducible exact MemState.wf_mk

theorem classDead_touch (a1 : Nat) (a2 : Nat) (a3 : State) : Touch 0x80eef800000000000030000002000140020060000000000020c00000000420006000c00000000000008a000000000440000002153d a3 (classDead a1 a2 a3) := by
  unfold classDead
  repeat' first
    | with_reducible exact Touch.refl _ _
    | ((with_reducible refine Eq.symm ?_); exact rfl)
    | with_reducible refine Touch.ite ?_ ?_
    | with_reducible apply Touch.via (followCancel_touch _ _)
    | with_reducible apply Touch.via (clsFollowCancel_touch _)
    | with_reducible apply Touch.via (report_touch _ _ _ _ _ _ _ _)
    | with_reducible apply Touch.via (fencePart_touch _ _)
    | with_reducible apply Touch.via (unitDetained_touch _ _ _ _)
    | with_reducible apply Touch.via (bumpEpoch_touch _ _ _)
    | with_reducible apply Touch.via (copyTables_touch _ _ _)
    | with_reducible apply Touch.via (clsReport_touch _ _ _ _)
    | with_reducible apply Touch.via (freshClass_touch _ _ _)
    | with_reducible apply Touch.via (classTakes_touch _ _ _)
    | (simp only [Touch.mk_eq]; with_reducible refine TouchMk.intro ?_)
    | split
    | dsimp only

theorem declareClass_touch (a1 : Nat) (a2 : Nat) (a3 : State) : Touch 0x85eef800000000000030000102000140020060000000000020c00000000421006000c004300000a3c0fa4c040809047e10000e173d a3 (declareClass a1 a2 a3) := by
  unfold declareClass
  repeat' first
    | with_reducible exact Touch.refl _ _
    | ((with_reducible refine Eq.symm ?_); exact rfl)
    | with_reducible refine Touch.ite ?_ ?_
    | with_reducible apply Touch.via (unitLost_touch _ _)
    | with_reducible apply Touch.via (classDead_touch _ _ _)
    | with_reducible apply Touch.via (crossFail_touch _ _ _)
    | split
    | dsimp only

theorem classImmediate_touch (a1 : Nat) (a2 : State) : Touch 0x80eef800000000000030000002000140020060000000000020c00000000420006000c00000000000008a000000000440000002153d a2 (classImmediate a1 a2) := by
  unfold classImmediate
  repeat' first
    | with_reducible exact Touch.refl _ _
    | ((with_reducible refine Eq.symm ?_); exact rfl)
    | with_reducible refine Touch.ite ?_ ?_
    | with_reducible apply Touch.via (classDead_touch _ _ _)
    | split

theorem bpFollow_ok {n k : Nat} {s t : State} (h : bpFollow n k s = some t) : Touch 0x400608000000000000000000000000a0020000000000000000c0000000000000000000000000000000000000000000000000000005 s t := by
  unfold bpFollow at h
  dsimp only at h
  generalize List.find? _ _ = y at h
  by_cases c : roleEpoch s 1 (512 * n + k) < 0xFFFE
  · rw [if_pos c] at h
    cases y with
    | some j =>
      cases h
      exact Touch.ite (Touch.refl _ _) ((subFollow_touch _ _ _ _ _).mono (by rfl))
    | none =>
      by_cases d : (freeClass n s).isSome = true
      · dsimp only at h
        rw [if_pos d] at h
        cases h
        exact Touch.ite (Touch.refl _ _) ((clsFollow_touch _ _ _).mono (by rfl))
      · dsimp only at h
        rw [if_neg d] at h
        cases h
  · rw [if_neg c] at h
    cases h

theorem declareBp_touch (a1 : Nat) (a2 : Nat) (a3 : Nat) (a4 : State) : Touch 0xc5eef8000000000000300001020001e0020060000000000020c00000000421006000c004300000a3c0fa4c040809047e10000e1705 a4 (declareBp a1 a2 a3 a4) := by
  unfold declareBp
  repeat' first
    | with_reducible exact Touch.refl _ _
    | ((with_reducible refine Eq.symm ?_); exact rfl)
    | with_reducible apply Touch.via (unitDetained_touch _ _ _ _)
    | with_reducible apply Touch.via (unitLost_touch _ _)
    | with_reducible apply Touch.via (report_touch _ _ _ _ _ _ _ _)
    | with_reducible apply Touch.via (fencePart_touch _ _)
    | with_reducible apply Touch.via (bumpEpoch_touch _ _ _)
    | with_reducible apply Touch.via (bpFollow_ok (by assumption))
    | split
    | dsimp only

theorem coreTakes_touch (a1 : Nat) (a2 : Nat) (a3 : State) : Touch 0x4000000000000000000000000000000000000000000000000000000000000000000000000000000000000000000000000000000 a3 (coreTakes a1 a2 a3) := by
  unfold coreTakes
  repeat' first
    | with_reducible exact Touch.refl _ _
    | ((with_reducible refine Eq.symm ?_); exact rfl)
    | with_reducible apply Touch.via (unitTakes_touch _ _ _ _)

theorem declareCore_touch (a1 : Nat) (a2 : Nat) (a3 : Nat) (a4 : State) : Touch 0xc80e80000000000000000000020001e0000001000000000100c002442880000000000000300000000000018000f800000000000100 a4 (declareCore a1 a2 a3 a4) := by
  unfold declareCore
  repeat' first
    | with_reducible exact Touch.refl _ _
    | ((with_reducible refine Eq.symm ?_); exact rfl)
    | with_reducible refine Touch.ite ?_ ?_
    | with_reducible apply Touch.via (report_touch _ _ _ _ _ _ _ _)
    | with_reducible apply Touch.via (zeroRam_touch _ _)
    | with_reducible apply Touch.via (coreResetUnit_touch _ _)
    | with_reducible apply Touch.via (unitDetained_touch _ _ _ _)
    | with_reducible apply Touch.via (bumpEpoch_touch _ _ _)
    | with_reducible apply Touch.via (coreTakes_touch _ _ _)
    | with_reducible refine Touch.sf ?_ ?_
    | split
    | dsimp only

theorem declareLink_touch (a1 : Nat) (a2 : Nat) (a3 : Nat) (a4 : State) : Touch 0xc66000000000000030000002000140000000000000000000c00000000420000000000000000000008a0000000004400000000100 a4 (declareLink a1 a2 a3 a4) := by
  unfold declareLink
  repeat' first
    | with_reducible exact Touch.refl _ _
    | ((with_reducible refine Eq.symm ?_); exact rfl)
    | with_reducible apply Touch.via (report_touch _ _ _ _ _ _ _ _)
    | with_reducible apply Touch.via (unitDetained_touch _ _ _ _)
    | with_reducible apply Touch.via (bumpEpoch_touch _ _ _)
    | with_reducible apply Touch.via (updLinks_touch _)
    | with_reducible apply Touch.via (State.modLk_touch _ _ _)
    | with_reducible apply Touch.via (setLanes_touch _ _ _)
    | with_reducible apply Touch.via (State.setLst_touch _ _ _)
    | with_reducible refine Touch.forEach ?_ ?_
    | intro _

theorem setProc_touch (a1 : Nat) (a2 : Nat) (a3 : State) : Touch 0x20000000000000000000000000000000000000000000000000000000000000000000000 a3 (setProc a1 a2 a3) := by
  unfold setProc
  repeat' first
    | with_reducible exact Touch.refl _ _
    | ((with_reducible refine Eq.symm ?_); exact rfl)
    | with_reducible refine Touch.sf ?_ ?_

theorem procDetained_touch (a1 : Nat) (a2 : State) : Touch 0x4000000000000000000000000000000020000000000000000000000000000000000000000000000000000000000000000000000 a2 (procDetained a1 a2) := by
  unfold procDetained
  repeat' first
    | with_reducible exact Touch.refl _ _
    | ((with_reducible refine Eq.symm ?_); exact rfl)
    | with_reducible apply Touch.via (setProc_touch _ _ _)
    | with_reducible apply Touch.via (unitDetained_touch _ _ _ _)
    | (simp only [Touch.mk_eq]; with_reducible refine TouchMk.intro ?_)

theorem declareUnit_touch (a1 : Nat) (a2 : Nat) (a3 : Nat) (a4 : State) : Touch 0xcdeef8000000000000300001020001e0020261000000000120c00244288421006000c004300000a3c0fa4d8408f9047e10000e173d a4 (declareUnit a1 a2 a3 a4) := by
  unfold declareUnit
  repeat' first
    | with_reducible exact Touch.refl _ _
    | ((with_reducible refine Eq.symm ?_); exact rfl)
    | with_reducible refine Touch.ite ?_ ?_
    | with_reducible apply Touch.via (procDetained_touch _ _)
    | with_reducible apply Touch.via (report_touch _ _ _ _ _ _ _ _)
    | with_reducible apply Touch.via (declareClass_touch _ _ _)
    | with_reducible apply Touch.via (declareBp_touch _ _ _ _)
    | with_reducible apply Touch.via (declareCore_touch _ _ _ _)
    | with_reducible apply Touch.via (declareLink_touch _ _ _ _)
    | split

theorem declareDead_touch (a1 : Nat) (a2 : Nat) (a3 : Nat) (a4 : State) : Touch 0xcdeef8000000000000300001020001e0020261000000000120c00244288421006000c004300000a3c0fa4d8408f9047e10000e173d a4 (declareDead a1 a2 a3 a4) := by
  unfold declareDead
  repeat' first
    | with_reducible exact Touch.refl _ _
    | ((with_reducible refine Eq.symm ?_); exact rfl)
    | with_reducible refine Touch.ite ?_ ?_
    | with_reducible apply Touch.via (declareUnit_touch _ _ _ _)

theorem epochStale_touch (a1 : Nat) (a2 : Nat) (a3 : Nat) (a4 : Nat) (a5 : Nat) (a6 : State) : Touch 0x62000000000000000000000000150000000000000000000c00000000000000000000000000000008a0000000000000000000000 a6 (epochStale a1 a2 a3 a4 a5 a6) := by
  unfold epochStale
  repeat' first
    | with_reducible exact Touch.refl _ _
    | ((with_reducible refine Eq.symm ?_); exact rfl)
    | with_reducible refine Touch.ite ?_ ?_
    | with_reducible apply Touch.via (raiseFault_touch _ _ _ _ _)
    | with_reducible apply Touch.via (report_touch _ _ _ _ _ _ _ _)
    | with_reducible refine Touch.bump ?_ ?_
    | with_reducible refine Touch.forEach ?_ ?_
    | (simp only [Touch.mk_eq]; with_reducible refine TouchMk.intro ?_)
    | intro _

theorem whileAlive_touch {w : Nat} (hw : Nat.lor 0x0 w = w) (a1 : Nat) (a2 : State → State) (a3 : State) (ha2 : ∀  t, Touch w t (a2  t)) : Touch w a3 (whileAlive a1 a2 a3) := by
  unfold whileAlive
  repeat' first
    | with_reducible exact Touch.refl _ _
    | with_reducible refine Touch.ite ?_ ?_
    | with_reducible apply Touch.after (ha2 _)

theorem unitCmd_touch {w : Nat} (hw : Nat.lor 0x400200000000000000000000000000a0080000000000000000c0000000000000000000000000000000000000000000000000000000 w = w) (a1 : Requester) (a2 : Nat) (a3 : Nat) (a4 : Nat) (a5 : Nat → Nat → Bool) (a6 : Nat → Nat → State → State) (a7 : State) (ha6 : ∀ y0 y1 t, Touch w t (a6 y0 y1 t)) : Touch w a7 (unitCmd a1 a2 a3 a4 a5 a6 a7) := by
  unfold unitCmd
  repeat' first
    | with_reducible exact Touch.refl _ _
    | with_reducible refine Touch.ite ?_ ?_
    | exact Touch.sub (by rfl) hw
    | exact Touch.bit hw (by rfl)
    | with_reducible apply Touch.after (ha6 _ _ _)
    | with_reducible apply Touch.via (denyWrite_touch _ _ _ _ _)
    | with_reducible apply Touch.via (okResp_touch _ _)
    | with_reducible apply Touch.via (logRefused_touch _ _ _ _ _)
    | with_reducible refine Touch.sf ?_ ?_

theorem selftest_touch (a1 : Requester) (a2 : Nat) (a3 : Nat) (a4 : State) : Touch 0x400600000000000000000000000000a0080000000000000000c0000000000000000000000000000000000000000000000000000000 a4 (selftest a1 a2 a3 a4) := by
  unfold selftest
  repeat' first
    | with_reducible exact Touch.refl _ _
    | ((with_reducible refine Eq.symm ?_); exact rfl)
    | with_reducible apply Touch.after (unitCmd_touch ?_ _ _ _ _ _ _ _ ?_)
    | with_reducible apply Touch.via (State.modUnit_touch _ _ _ _)
    | with_reducible refine Touch.sf ?_ ?_
    | (simp only [Touch.mk_eq]; with_reducible refine TouchMk.intro ?_)
    | intro _

theorem unitZero_touch (a1 : Nat) (a2 : Nat) (a3 : State) : Touch 0x80000000000000000000000000000000000000000000000000000000000000000000000000000000000000000000000000000 a3 (unitZero a1 a2 a3) := by
  unfold unitZero
  repeat' first
    | with_reducible exact Touch.refl _ _
    | (simp only [Touch.mk_eq]; with_reducible refine TouchMk.intro ?_)
    | split

theorem selftestDone_touch (a1 : Bool) (a2 : State) : Touch 0x60800000000000000000000000140080000000000000000c0000000000000000000000000000000000000000000000000000000 a2 (selftestDone a1 a2) := by
  unfold selftestDone
  repeat' first
    | with_reducible exact Touch.refl _ _
    | ((with_reducible refine Eq.symm ?_); exact rfl)
    | with_reducible apply Touch.via (unitZero_touch _ _ _)
    | with_reducible apply Touch.via (State.modUnit_touch _ _ _ _)
    | with_reducible apply Touch.via (report_touch _ _ _ _ _ _ _ _)
    | with_reducible refine Touch.sf ?_ ?_
    | with_reducible refine Touch.sflag ?_ ?_
    | (simp only [Touch.mk_eq]; with_reducible refine TouchMk.intro ?_)
    | split

theorem enrolUnit_touch (a1 : Nat) (a2 : Nat) (a3 : State) : Touch 0x460000000000000000000000000140000000000000000000c0000000002100000000000000000000000000000000000000000001 a3 (enrolUnit a1 a2 a3) := by
  unfold enrolUnit
  repeat' first
    | with_reducible exact Touch.refl _ _
    | ((with_reducible refine Eq.symm ?_); exact rfl)
    | with_reducible apply Touch.via (State.modUnit_touch _ _ _ _)
    | with_reducible apply Touch.via (report_touch _ _ _ _ _ _ _ _)
    | with_reducible apply Touch.via (spareCount_touch _ _)
    | with_reducible apply Touch.via (coreTakes_touch _ _ _)
    | with_reducible apply Touch.via (startTraining_touch _ _ _)
    | with_reducible apply Touch.via (State.modLk_touch _ _ _)
    | with_reducible apply Touch.via (unitTakes_touch _ _ _ _)
    | with_reducible refine Touch.forEach ?_ ?_
    | intro _
    | split
    | dsimp only

theorem enrol_touch (a1 : Requester) (a2 : Nat) (a3 : Nat) (a4 : State) : Touch 0x404600000000000000000000000001e0080000000000000000c0000000002100000000000000000000000000000000000000000001 a4 (enrol a1 a2 a3 a4) := by
  unfold enrol
  repeat' first
    | with_reducible exact Touch.refl _ _
    | ((with_reducible refine Eq.symm ?_); exact rfl)
    | with_reducible apply Touch.after (unitCmd_touch ?_ _ _ _ _ _ _ _ ?_)
    | with_reducible apply Touch.via (enrolUnit_touch _ _ _)
    | intro _

theorem eccStart_touch (a1 : Requester) (a2 : State) : Touch 0x400200000000000000000000000000a4000000000000000000c0000000000000000000000000000000000000000000000000000000 a2 (eccStart a1 a2) := by
  unfold eccStart
  repeat' first
    | with_reducible exact Touch.refl _ _
    | ((with_reducible refine Eq.symm ?_); exact rfl)
    | with_reducible refine Touch.ite ?_ ?_
    | with_reducible apply Touch.via (denyWrite_touch _ _ _ _ _)
    | with_reducible apply Touch.via (logRefused_touch _ _ _ _ _)
    | with_reducible apply Touch.via (okResp_touch _ _)
    | with_reducible refine Touch.sf ?_ ?_

theorem eccFail_touch (a1 : Nat) (a2 : Nat) (a3 : Nat) (a4 : State) : Touch 0xcdeef8000000000000300001020001e0020261000000000120c00244288421006000c004300000a3c0fa4da408f9047e10000e173d a4 (eccFail a1 a2 a3 a4) := by
  unfold eccFail
  repeat' first
    | with_reducible exact Touch.refl _ _
    | ((with_reducible refine Eq.symm ?_); exact rfl)
    | with_reducible refine Touch.ite ?_ ?_
    | with_reducible apply Touch.via (report_touch _ _ _ _ _ _ _ _)
    | with_reducible apply Touch.via (declareDead_touch _ _ _ _)
    | with_reducible apply Touch.via (retireBank_touch _ _ _)

theorem eccDone_touch (a1 : List (Prod Nat (Prod Nat Nat))) (a2 : State) : Touch 0xcdeef8000000000000300001020001e4020261000000000120c00244288421006000c004300000a3c0fa4da408f9047e10000e173d a2 (eccDone a1 a2) := by
  unfold eccDone
  repeat' first
    | with_reducible exact Touch.refl _ _
    | ((with_reducible refine Eq.symm ?_); exact rfl)
    | with_reducible refine Touch.ite ?_ ?_
    | with_reducible apply Touch.via (eccFail_touch _ _ _ _)
    | with_reducible refine Touch.sf ?_ ?_
    | with_reducible refine Touch.forEach ?_ ?_
    | intro _

theorem bpThreshold_touch (a1 : Nat) (a2 : Nat) (a3 : Nat) (a4 : Nat) (a5 : Nat) (a6 : State) : Touch 0x400608000000000000000000000001e0020000000000000000c0000000000000000000000000000000000000000000000000000005 a6 (bpThreshold a1 a2 a3 a4 a5 a6) := by
  unfold bpThreshold
  repeat' first
    | with_reducible exact Touch.refl _ _
    | ((with_reducible refine Eq.symm ?_); exact rfl)
    | with_reducible apply Touch.via (report_touch _ _ _ _ _ _ _ _)
    | with_reducible apply Touch.via (bpFollow_ok (by assumption))
    | split

theorem thresholdReached_touch (a1 : Nat) (a2 : Nat) (a3 : Nat) (a4 : Nat) (a5 : Nat) (a6 : State) : Touch 0xc80e88000000000000000000020001e0020001000000000100c00244288000000000000030000000000011a000f800000000000105 a6 (thresholdReached a1 a2 a3 a4 a5 a6) := by
  unfold thresholdReached
  repeat' first
    | with_reducible exact Touch.refl _ _
    | ((with_reducible refine Eq.symm ?_); exact rfl)
    | with_reducible refine Touch.ite ?_ ?_
    | with_reducible apply Touch.via (report_touch _ _ _ _ _ _ _ _)
    | with_reducible apply Touch.via (bpThreshold_touch _ _ _ _ _ _)
    | with_reducible apply Touch.via (repairPart_touch _ _)
    | with_reducible apply Touch.via (declareCore_touch _ _ _ _)
    | with_reducible apply Touch.via (deskEmpty_touch _ _)
    | with_reducible apply Touch.via (retireBank_touch _ _ _)
    | with_reducible apply Touch.via (hbmRetire_touch _ _ _ _)
    | with_reducible refine Touch.sf ?_ ?_
    | split

theorem dwdogReload_touch (a1 : State) : Touch 0x4000000000000000000000000000000000000000000000000000000000000000000000000000000000 a1 (dwdogReload a1) := by
  unfold dwdogReload
  repeat' first
    | with_reducible exact Touch.refl _ _
    | ((with_reducible refine Eq.symm ?_); exact rfl)
    | with_reducible refine Touch.sf ?_ ?_

theorem monitorDown_touch (a1 : State) : Touch 0x10000000000000000000000000000000000020000000000000000000000000000000000000000000000000000000000000000000 a1 (monitorDown a1) := by
  unfold monitorDown
  repeat' first
    | with_reducible exact Touch.refl _ _
    | ((with_reducible refine Eq.symm ?_); exact rfl)
    | with_reducible refine Touch.sf ?_ ?_
    | (simp only [Touch.mk_eq]; with_reducible refine TouchMk.intro ?_)

theorem claimFollows_touch (a1 : Requester) (a2 : State) : Touch 0xc00688000000000000000000000001e0020000000000000000c000000000000000000000000000000000000000000000000000013d a2 (claimFollows a1 a2) := by
  unfold claimFollows
  repeat' first
    | with_reducible exact Touch.refl _ _
    | ((with_reducible refine Eq.symm ?_); exact rfl)
    | with_reducible refine Touch.ite ?_ ?_
    | with_reducible apply Touch.via (subCommit_touch _ _ _)
    | with_reducible apply Touch.via (drawn_touch _)
    | with_reducible apply Touch.via (followCancel_touch _ _)
    | with_reducible apply Touch.via (clsCommit_touch _ _ _)
    | with_reducible apply Touch.via (clsFollowCancel_touch _)
    | with_reducible refine Touch.forUpTo ?_ ?_
    | intro _

theorem hallRelease_touch (a1 : State) : Touch 0x60000000000000000000000000140008000000000000000c0000000000000000000000000000000000000000000000000000000 a1 (hallRelease a1) := by
  unfold hallRelease
  repeat' first
    | with_reducible exact Touch.refl _ _
    | ((with_reducible refine Eq.symm ?_); exact rfl)
    | with_reducible refine Touch.ite ?_ ?_
    | with_reducible apply Touch.via (report_touch _ _ _ _ _ _ _ _)
    | with_reducible refine Touch.sf ?_ ?_
    | (simp only [Touch.mk_eq]; with_reducible refine TouchMk.intro ?_)

theorem takeToken_touch (a1 : Nat) (a2 : Nat) (a3 : State) : Touch 0xc41688000000000000000000400001e0028200200000000000c000000000000000000000000000000000000000000000000000013d a3 (takeToken a1 a2 a3) := by
  unfold takeToken
  repeat' first
    | with_reducible exact Touch.refl _ _
    | ((with_reducible refine Eq.symm ?_); exact rfl)
    | with_reducible refine Touch.ite ?_ ?_
    | with_reducible apply Touch.via (procDetained_touch _ _)
    | with_reducible apply Touch.via (setProc_touch _ _ _)
    | with_reducible apply Touch.via (bumpEpoch_touch _ _ _)
    | with_reducible apply Touch.via (hallRelease_touch _)
    | with_reducible apply Touch.via (report_touch _ _ _ _ _ _ _ _)
    | with_reducible apply Touch.via (claimFollows_touch _ _)
    | with_reducible apply Touch.via (dwdogReload_touch _)
    | with_reducible apply Touch.via (monitorDown_touch _)
    | with_reducible refine Touch.sf ?_ ?_
    | (simp only [Touch.mk_eq]; with_reducible refine TouchMk.intro ?_)

theorem tokenClaim_touch (a1 : Nat) (a2 : Nat) (a3 : State) : Touch 0xc41688000000000000000000400001e0028200200000000000c000000000000000000000000000000000000000000000000000013d a3 (tokenClaim a1 a2 a3) := by
  unfold tokenClaim
  repeat' first
    | with_reducible exact Touch.refl _ _
    | ((with_reducible refine Eq.symm ?_); exact rfl)
    | with_reducible refine Touch.ite ?_ ?_
    | with_reducible apply Touch.via (takeToken_touch _ _ _)

theorem tokenRenew_touch (a1 : Nat) (a2 : Nat) (a3 : State) : Touch 0x14000000000000000000000000000000020020000000000000000000000000000000000000000000000000000000000000000000 a3 (tokenRenew a1 a2 a3) := by
  unfold tokenRenew
  repeat' first
    | with_reducible exact Touch.refl _ _
    | ((with_reducible refine Eq.symm ?_); exact rfl)
    | with_reducible refine Touch.ite ?_ ?_
    | with_reducible apply Touch.via (procDetained_touch _ _)
    | with_reducible apply Touch.via (monitorDown_touch _)

theorem heartbeat_touch (a1 : Nat) (a2 : Nat) (a3 : State) : Touch 0x4000000000000000000000000000000020000000000000000000000000000000000000000000000000000000000000000000000 a3 (heartbeat a1 a2 a3) := by
  unfold heartbeat
  repeat' first
    | with_reducible exact Touch.refl _ _
    | ((with_reducible refine Eq.symm ?_); exact rfl)
    | with_reducible refine Touch.ite ?_ ?_
    | with_reducible refine Touch.sf ?_ ?_
    | (simp only [Touch.mk_eq]; with_reducible refine TouchMk.intro ?_)
    | split

theorem degraded_touch (a1 : Nat) (a2 : State) : Touch 0x80060000000000000000000000000140000000000000000000c0000000000000000000000000000000000000000000000000000000 a2 (degraded a1 a2) := by
  unfold degraded
  repeat' first
    | with_reducible exact Touch.refl _ _
    | ((with_reducible refine Eq.symm ?_); exact rfl)
    | with_reducible apply Touch.via (reportSev_touch _ _ _ _ _ _ _ _ _)
    | with_reducible apply Touch.via (drawn_touch _)

theorem heartbeatTimeout_touch (a1 : Nat) (a2 : Nat) (a3 : State) : Touch 0xc41688000000000000000000400001e0028200200000000000c000000000000000000000000000000000000000000000000000013d a3 (heartbeatTimeout a1 a2 a3) := by
  unfold heartbeatTimeout
  repeat' first
    | with_reducible exact Touch.refl _ _
    | ((with_reducible refine Eq.symm ?_); exact rfl)
    | with_reducible refine Touch.ite ?_ ?_
    | with_reducible apply Touch.via (degraded_touch _ _)
    | with_reducible apply Touch.via (tokenClaim_touch _ _ _)
    | with_reducible refine Touch.sf ?_ ?_
    | (simp only [Touch.mk_eq]; with_reducible refine TouchMk.intro ?_)
    | split

theorem proctorStops_touch (a1 : Nat) (a2 : State) : Touch 0x14000000000000000000000000000000000020000000000000000000000000000000000000000000000000000000000000000000 a2 (proctorStops a1 a2) := by
  unfold proctorStops
  repeat' first
    | with_reducible exact Touch.refl _ _
    | ((with_reducible refine Eq.symm ?_); exact rfl)
    | with_reducible refine Touch.ite ?_ ?_
    | with_reducible apply Touch.via (monitorDown_touch _)
    | (simp only [Touch.mk_eq]; with_reducible refine TouchMk.intro ?_)

theorem failMsg_touch (a1 : Nat) (a2 : State) : Touch 0xc41688000000000000000000400001e0028200200000000000c000000000000000000000000000000000000000000000000000013d a2 (failMsg a1 a2) := by
  unfold failMsg
  repeat' first
    | with_reducible exact Touch.refl _ _
    | ((with_reducible refine Eq.symm ?_); exact rfl)
    | with_reducible refine Touch.ite ?_ ?_
    | with_reducible apply Touch.via (tokenClaim_touch _ _ _)

theorem procCmd_touch {w : Nat} (hw : Nat.lor 0x400200000000000000000000000000a0000200000000000000c0000000000000000000000000000000000000000000000000000000 w = w) (a1 : Requester) (a2 : Nat) (a3 : Nat) (a4 : Bool) (a5 : Bool) (a6 : State → State) (a7 : State) (ha6 : ∀  t, Touch w t (a6  t)) : Touch w a7 (procCmd a1 a2 a3 a4 a5 a6 a7) := by
  unfold procCmd
  repeat' first
    | with_reducible exact Touch.refl _ _
    | with_reducible refine Touch.ite ?_ ?_
    | exact Touch.sub (by rfl) hw
    | exact Touch.bit hw (by rfl)
    | with_reducible apply Touch.after (ha6 _)
    | with_reducible apply Touch.via (denyWrite_touch _ _ _ _ _)
    | with_reducible apply Touch.via (okResp_touch _ _)
    | with_reducible apply Touch.via (logRefused_touch _ _ _ _ _)
    | with_reducible refine Touch.sf ?_ ?_

theorem procBoots_touch (a1 : Nat) (a2 : Nat) (a3 : State) : Touch 0x4000000000000000000000000000000020000000000000000000000000000000000000000000000000000000000000000000000 a3 (procBoots a1 a2 a3) := by
  unfold procBoots
  repeat' first
    | with_reducible exact Touch.refl _ _
    | ((with_reducible refine Eq.symm ?_); exact rfl)
    | with_reducible apply Touch.via (setProc_touch _ _ _)
    | with_reducible refine Touch.sf ?_ ?_
    | (simp only [Touch.mk_eq]; with_reducible refine TouchMk.intro ?_)

theorem loadStandby_touch (a1 : Requester) (a2 : State) : Touch 0x400600000000000000000000000000a0000200000000000000c0000000000000000000000000000000000000000000000000000000 a2 (loadStandby a1 a2) := by
  unfold loadStandby
  repeat' first
    | with_reducible exact Touch.refl _ _
    | ((with_reducible refine Eq.symm ?_); exact rfl)
    | with_reducible apply Touch.after (procCmd_touch ?_ _ _ _ _ _ _ _ ?_)
    | with_reducible apply Touch.via (procBoots_touch _ _ _)
    | intro _

theorem switchProctor_touch (a1 : Requester) (a2 : State) : Touch 0xc41688000000000000000000400001e0028200200000000000c000000000000000000000000000000000000000000000000000013d a2 (switchProctor a1 a2) := by
  unfold switchProctor
  repeat' first
    | with_reducible exact Touch.refl _ _
    | ((with_reducible refine Eq.symm ?_); exact rfl)
    | with_reducible apply Touch.after (procCmd_touch ?_ _ _ _ _ _ _ _ ?_)
    | with_reducible apply Touch.via (tokenClaim_touch _ _ _)
    | intro _

theorem reload_touch (a1 : Requester) (a2 : Nat) (a3 : State) : Touch 0x400600000000000000000000000000a0000200000000000000c0000000000000000000000000000000000000000000000000000000 a3 (reload a1 a2 a3) := by
  unfold reload
  repeat' first
    | with_reducible exact Touch.refl _ _
    | ((with_reducible refine Eq.symm ?_); exact rfl)
    | with_reducible apply Touch.after (procCmd_touch ?_ _ _ _ _ _ _ _ ?_)
    | with_reducible apply Touch.via (procBoots_touch _ _ _)
    | intro _

theorem secZeroise_touch (a1 : State) : Touch 0x85eef800000000000030000102000140020060000000000020c00000000421006000c004300000a3c0fa4c040809047e10000e1605 a1 (secZeroise a1) := by
  unfold secZeroise
  repeat' first
    | with_reducible exact Touch.refl _ _
    | ((with_reducible refine Eq.symm ?_); exact rfl)
    | with_reducible refine Touch.ite ?_ ?_
    | with_reducible apply Touch.via (abortPart_touch _ _)
    | with_reducible apply Touch.via (zeroRam_touch _ _)
    | with_reducible refine Touch.forUpTo ?_ ?_
    | intro _

theorem reapply_touch (a1 : State) : Touch 0x80000000000000000000000000000000000000000000000000000000000000000000000000000000000000000000000000101 a1 (reapply a1) := by
  unfold reapply
  repeat' first
    | with_reducible exact Touch.refl _ _
    | ((with_reducible refine Eq.symm ?_); exact rfl)
    | with_reducible refine Touch.ite ?_ ?_
    | with_reducible apply Touch.via (spareCount_touch _ _)
    | with_reducible refine Touch.sf ?_ ?_
    | with_reducible refine Touch.forUpTo ?_ ?_
    | with_reducible refine Touch.foldl ?_ ?_
    | (simp only [Touch.mk_eq]; with_reducible refine TouchMk.intro ?_)
    | intro _
    | split

theorem firstStart_touch (a1 : Nat) (a2 : List (Prod Nat (Prod Nat Nat))) (a3 : State) : Touch 0xec1e88000000000000002000020001e0000061000000000100c00244088000000000000030000000000001c000f800000000000101 a3 (firstStart a1 a2 a3) := by
  unfold firstStart
  repeat' first
    | with_reducible exact Touch.refl _ _
    | ((with_reducible refine Eq.symm ?_); exact rfl)
    | with_reducible refine Touch.ite ?_ ?_
    | with_reducible apply Touch.via (reapply_touch _)
    | with_reducible apply Touch.via (coreStart_touch _ _ _)
    | with_reducible refine Touch.sf ?_ ?_
    | with_reducible refine Touch.forUpTo ?_ ?_
    | (simp only [Touch.mk_eq]; with_reducible refine TouchMk.intro ?_)
    | intro _

theorem fwStarts_touch (a1 : Nat) (a2 : Nat) (a3 : Nat) (a4 : Option Nat) (a5 : List (Prod Nat (Prod Nat Nat))) (a6 : State) : Touch 0xedfef8000000000000302001420001e0028261200000000120c00244088421006000c004300000a3c0fa4dc408f9047e10000e173d a6 (fwStarts a1 a2 a3 a4 a5 a6) := by
  unfold fwStarts
  repeat' first
    | with_reducible exact Touch.refl _ _
    | ((with_reducible refine Eq.symm ?_); exact rfl)
    | with_reducible refine Touch.ite ?_ ?_
    | with_reducible apply Touch.via (report_touch _ _ _ _ _ _ _ _)
    | with_reducible apply Touch.via (State.modUnit_touch _ _ _ _)
    | with_reducible apply Touch.via (setProc_touch _ _ _)
    | with_reducible apply Touch.via (takeToken_touch _ _ _)
    | with_reducible apply Touch.via (dwdogReload_touch _)
    | with_reducible apply Touch.via (secZeroise_touch _)
    | with_reducible apply Touch.via (firstStart_touch _ _ _)
    | with_reducible refine Touch.sf ?_ ?_
    | (simp only [Touch.mk_eq]; with_reducible refine TouchMk.intro ?_)

theorem fwRejected_touch (a1 : Nat) (a2 : Nat) (a3 : Nat) (a4 : Nat) (a5 : State) : Touch 0x60000000000000000000000000140000200000000000000c0000000000000000000000000000000000000000000000000000000 a5 (fwRejected a1 a2 a3 a4 a5) := by
  unfold fwRejected
  repeat' first
    | with_reducible exact Touch.refl _ _
    | ((with_reducible refine Eq.symm ?_); exact rfl)
    | with_reducible refine Touch.ite ?_ ?_
    | with_reducible apply Touch.via (report_touch _ _ _ _ _ _ _ _)
    | with_reducible apply Touch.via (setProc_touch _ _ _)
    | with_reducible refine Touch.sf ?_ ?_
    | with_reducible refine Touch.forUpTo ?_ ?_
    | (simp only [Touch.mk_eq]; with_reducible refine TouchMk.intro ?_)
    | intro _

theorem fwLoaded_touch (a1 : Nat) (a2 : List Nat) (a3 : List Nat) (a4 : Bool) (a5 : Bool) (a6 : Nat) (a7 : State) : Touch 0xedfef8000000000000302001420001e0028261200000000120c00244088421006000c004300000a3c0fa4dc408f9047e10000e173d a7 (fwLoaded a1 a2 a3 a4 a5 a6 a7) := by
  unfold fwLoaded
  repeat' first
    | with_reducible exact Touch.refl _ _
    | ((with_reducible refine Eq.symm ?_); exact rfl)
    | with_reducible refine Touch.ite ?_ ?_
    | with_reducible apply Touch.via (procDetained_touch _ _)
    | with_reducible apply Touch.via (report_touch _ _ _ _ _ _ _ _)
    | with_reducible apply Touch.via (fwStarts_touch _ _ _ _ _ _)
    | with_reducible apply Touch.via (fwRejected_touch _ _ _ _ _)
    | split
    | dsimp only

theorem hallTakeover_touch (a1 : State) : Touch 0x160000000000000000000040000140008200200000000000c0000000000000000000000000000000000000000000000000000000 a1 (hallTakeover a1) := by
  unfold hallTakeover
  repeat' first
    | with_reducible exact Touch.refl _ _
    | ((with_reducible refine Eq.symm ?_); exact rfl)
    | with_reducible refine Touch.ite ?_ ?_
    | with_reducible apply Touch.via (monitorDown_touch _)
    | with_reducible apply Touch.via (procDetained_touch _ _)
    | with_reducible apply Touch.via (report_touch _ _ _ _ _ _ _ _)
    | with_reducible apply Touch.via (raiseIrq_touch _ _)
    | with_reducible apply Touch.via (dwdogReload_touch _)
    | with_reducible refine Touch.sf ?_ ?_
    | with_reducible refine Touch.bump ?_ ?_
    | with_reducible refine Touch.forUpTo ?_ ?_
    | (simp only [Touch.mk_eq]; with_reducible refine TouchMk.intro ?_)
    | intro _

end Machine
end Sys2Proof
end

