-- ==== Sys2Proof/Laws/TouchReset.lean ====
section
/-! SUPPORT. What each operation of Machine/Reset.lean leaves alone. -/
set_option linter.unusedVariables false
set_option Elab.async false
namespace Sys2Proof
namespace Machine

theorem keepFields_touch (a1 : State) (a2 : State) : Touch 0x800000000000000000000000000040000000000000000000001000000800000000000000 a2 (keepFields a1 a2) := by
  unfold keepFields
  repeat' first
    | with_reducible exact Touch.refl _ _
    | ((with_reducible refine Eq.symm ?_); exact rfl)
    | with_reducible refine Touch.ite ?_ ?_
    | with_reducible refine Touch.sf ?_ ?_
    | with_reducible refine Touch.forUpTo ?_ ?_
    | intro _

theorem clearStatus_touch (a1 : State) : Touch 0x20000000000000000000000000000000000000000000000000000001310000000000000000000000000000 a1 (clearStatus a1) := by
  unfold clearStatus
  repeat' first
    | with_reducible exact Touch.refl _ _
    | ((with_reducible refine Eq.symm ?_); exact rfl)
    | with_reducible refine Touch.sf ?_ ?_

theorem loadFuses_touch (a1 : State) : Touch 0x4000000000000000000000000000000000000000000000000000000000000000000000000000000000000 a1 (loadFuses a1) := by
  unfold loadFuses
  repeat' first
    | with_reducible exact Touch.refl _ _
    | ((with_reducible refine Eq.symm ?_); exact rfl)
    | with_reducible refine Touch.setReg ?_ ?_
    | with_reducible refine Touch.forUpTo ?_ ?_
    | intro _

theorem clockStart_touch (a1 : State) : Touch 0x3000000200000000000000000000000000000000000000000000000000000000000000000000000000000000 a1 (clockStart a1) := by
  unfold clockStart
  repeat' first
    | with_reducible exact Touch.refl _ _
    | ((with_reducible refine Eq.symm ?_); exact rfl)
    | with_reducible refine Touch.sf ?_ ?_

theorem clocksStop_touch (a1 : State) (a2 : State) : Touch 0x20000000020000000000000000000000000000000000000000000000000000000000000000000000 a2 (clocksStop a1 a2) := by
  unfold clocksStop
  repeat' first
    | with_reducible exact Touch.refl _ _
    | ((with_reducible refine Eq.symm ?_); exact rfl)
    | with_reducible refine Touch.ite ?_ ?_
    | with_reducible apply Touch.via (setProc_touch _ _ _)
    | with_reducible refine Touch.sf ?_ ?_
    | with_reducible refine Touch.forUpTo ?_ ?_
    | intro _

/-- Memory after level 1 is canonical. -/
theorem memAfter_wf (s : State) (h : s.mem.wf = true) : (memAfter s).wf = true := by
  unfold memAfter
  refine MemState.wf_fill (Store.wf_filter _ _ _ h) fun x hx => ?_
  simp only [List.mem_filter, decide_eq_true_eq] at hx
  rw [fillCode_low _ hx.2, fillCode_low _ hx.2]


theorem regIdx_lt (r : Reg) : r.ctorIdx < 350 := by
  cases r <;> decide

/-- What a filter by register keeps, where the mask says so. -/
theorem reg_picked {l : List Reg} {w : Nat} (e : ∀ n < 350, w.testBit n = false → l.any (fun q => decide (n = q.ctorIdx)) = true) (m : Store Word)
    (r : Reg) (i : Nat) (h : w.testBit r.ctorIdx = false) :
    Store.get (regDefault (regKey r i)) (pickRegs l m) (regKey r i) = Store.get (regDefault (regKey r i)) m (regKey r i) := by
  have hk : regKey r i % regStride = r.ctorIdx := by
    have := Reg.ctorIdx_lt r
    simp only [regKey, regStride] at *
    omega
  unfold pickRegs
  rw [Store.get_filter _ (fun j => l.any fun q => decide (j % regStride = q.ctorIdx))]
  simp only [hk]
  rw [if_pos (e _ (regIdx_lt r) h)]

set_option maxRecDepth 4000 in
theorem keptRegs_pick : ∀ n < 350, Nat.testBit 0xfffffffffffffffffff9afffffffffffffffffffffffffffffffffffffffffffffffffffffffffffffffffffffffffffffffffffff n = false → keptRegs.any (fun q => decide (n = q.ctorIdx)) = true := by decide

set_option maxRecDepth 4000 in
theorem coldRegs_pick : ∀ n < 350, Nat.testBit 0xfffffffffffffffffff9afffffffffffffffffffffffffffffffffffffffffffffffffffffffffffffffffffffffffffffffffffff n = false → coldRegs.any (fun q => decide (n = q.ctorIdx)) = true := by decide

theorem deviceCleared_touch (s : State) : Touch 0xfffffffffffffffffff9afffffffffffffffffffffffffffffffffffffffffffffffffffffffffffffffffffffffffffffffffffff s (deviceCleared s) := by
  constructor
  case pending => exact rfl
  case reg => exact fun r i h => reg_picked keptRegs_pick s.regs r i h
  case regsWf => exact fun h => Store.wf_filter regDefault _ _ h
  case memWf => exact memAfter_wf s
  all_goals first | exact fun _ => rfl | (intro h; exact absurd h (by decide))

theorem deviceReset_touch (a1 : State) : Touch 0xfffffffffffffffffff9afffffffffffffffffffffffffffffffffffffffffffffffffffffffffffffffffffffffffffffffffffff a1 (deviceReset a1) := by
  unfold deviceReset
  repeat' first
    | with_reducible exact Touch.refl _ _
    | ((with_reducible refine Eq.symm ?_); exact rfl)
    | with_reducible apply Touch.via (passEnd_touch _)
    | with_reducible apply Touch.via (clockStart_touch _)
    | with_reducible apply Touch.via (clocksStop_touch _ _)
    | with_reducible apply Touch.via (loadFuses_touch _)
    | with_reducible apply Touch.via (clearStatus_touch _)
    | with_reducible apply Touch.via (keepFields_touch _ _)
    | with_reducible apply Touch.via (deviceCleared_touch _)
    | with_reducible refine Touch.sf ?_ ?_

theorem pulseCut_touch (a1 : State) : Touch 0x85eef800000000000030200102000140020060000000000020c00000000421006000c004300121a3c0fa4c040809047e10000e1605 a1 (pulseCut a1) := by
  unfold pulseCut
  repeat' first
    | with_reducible exact Touch.refl _ _
    | ((with_reducible refine Eq.symm ?_); exact rfl)
    | with_reducible refine Touch.ite ?_ ?_
    | with_reducible apply Touch.via (fuseDone_touch _)
    | with_reducible apply Touch.via (setKey_touch _ _ _ _)
    | with_reducible apply Touch.via (pulseEffect_touch _ _ _ _)
    | with_reducible apply Touch.via (drawn_touch _)
    | with_reducible refine Touch.sf ?_ ?_
    | (simp only [Touch.mk_eq]; with_reducible refine TouchMk.intro ?_)
    | split

theorem coldCleared_touch (s : State) : Touch 0xfffffffffffffffffff9afffffffffffffffffffffffffffffffffffffffffffffffffffffffffffffffffffffffffffffffffffff s (coldCleared s) := by
  constructor
  case pending => exact rfl
  case reg => exact fun r i h => reg_picked coldRegs_pick s.regs r i h
  case regsWf => exact fun h => Store.wf_filter regDefault _ _ h
  case memWf => exact fun _ => rfl
  all_goals first | exact fun _ => rfl | (intro h; exact absurd h (by decide))

theorem coldReset_touch (a1 : State) : Touch 0xfffffffffffffffffff9afffffffffffffffffffffffffffffffffffffffffffffffffffffffffffffffffffffffffffffffffffff a1 (coldReset a1) := by
  unfold coldReset
  repeat' first
    | with_reducible exact Touch.refl _ _
    | ((with_reducible refine Eq.symm ?_); exact rfl)
    | with_reducible apply Touch.via (loadFuses_touch _)
    | with_reducible apply Touch.via (clearStatus_touch _)
    | with_reducible apply Touch.via (coldCleared_touch _)
    | with_reducible apply Touch.via (pulseCut_touch _)
    | with_reducible refine Touch.sf ?_ ?_

theorem fabricArrays_touch (a1 : State) : Touch 0x8780000000000000000000000000000000000000000000000000000000000000000000000000000000000000000000000000000 a1 (fabricArrays a1) := by
  unfold fabricArrays
  repeat' first
    | with_reducible exact Touch.refl _ _
    | (simp only [Touch.mk_eq]; with_reducible refine TouchMk.intro ?_)

theorem fabricReset_touch (a1 : State) : Touch 0x85eef800000000000030000102000140020060000000000020c00000000421006000c07ffffc00a3c0ffcc040809fffff003fffeff a1 (fabricReset a1) := by
  unfold fabricReset
  repeat' first
    | with_reducible exact Touch.refl _ _
    | ((with_reducible refine Eq.symm ?_); exact rfl)
    | with_reducible refine Touch.ite ?_ ?_
    | with_reducible apply Touch.via (loadTrunc_touch _ _ _)
    | with_reducible apply Touch.via (toEmpty_touch _ _)
    | with_reducible apply Touch.via (followCancel_touch _ _)
    | with_reducible apply Touch.via (clsFollowCancel_touch _)
    | with_reducible apply Touch.via (fabricArrays_touch _)
    | with_reducible refine Touch.resetList ?_ ?_
    | with_reducible refine Touch.forUpTo ?_ ?_
    | intro _

theorem seqAssert_touch (a1 : Nat) (a2 : Nat) (a3 : State) : Touch 0x2000000000000000000000000002020000000000000000000000000000000000000000000000000000000000000000000000000000 a3 (seqAssert a1 a2 a3) := by
  unfold seqAssert
  repeat' first
    | with_reducible exact Touch.refl _ _
    | ((with_reducible refine Eq.symm ?_); exact rfl)
    | with_reducible refine Touch.sf ?_ ?_
    | (simp only [Touch.mk_eq]; with_reducible refine TouchMk.intro ?_)

theorem assertNow_touch (a1 : Nat) (a2 : Nat) (a3 : Nat) (a4 : State) : Touch 0xfffffffffffffffffff9afffffffffffffffffffffffffffffffffffffffffffffffffffffffffffffffffffffffffffffffffffff a4 (assertNow a1 a2 a3 a4) := by
  unfold assertNow
  repeat' first
    | with_reducible exact Touch.refl _ _
    | ((with_reducible refine Eq.symm ?_); exact rfl)
    | with_reducible refine Touch.ite ?_ ?_
    | with_reducible apply Touch.via (coldReset_touch _)
    | with_reducible apply Touch.via (deviceReset_touch _)
    | with_reducible apply Touch.via (fabricReset_touch _)
    | with_reducible apply Touch.via (seqAssert_touch _ _ _)
    | with_reducible refine Touch.sf ?_ ?_
    | (simp only [Touch.mk_eq]; with_reducible refine TouchMk.intro ?_)
    | dsimp only

theorem assertReset_touch (a1 : Nat) (a2 : Nat) (a3 : Nat) (a4 : State) : Touch 0xfffffffffffffffffff9afffffffffffffffffffffffffffffffffffffffffffffffffffffffffffffffffffffffffffffffffffff a4 (assertReset a1 a2 a3 a4) := by
  unfold assertReset
  repeat' first
    | with_reducible exact Touch.refl _ _
    | ((with_reducible refine Eq.symm ?_); exact rfl)
    | with_reducible refine Touch.ite ?_ ?_
    | with_reducible apply Touch.via (assertNow_touch _ _ _ _)
    | (simp only [Touch.mk_eq]; with_reducible refine TouchMk.intro ?_)

theorem releaseReset_touch (a1 : Prod Nat (Prod Nat Nat) → Bool) (a2 : State) : Touch 0x2000000000000000000000000000000000000000000000000000000000000000000000000000000000000000000000000000000000 a2 (releaseReset a1 a2) := by
  unfold releaseReset
  repeat' first
    | with_reducible exact Touch.refl _ _
    | (simp only [Touch.mk_eq]; with_reducible refine TouchMk.intro ?_)

theorem portOff_touch (a1 : Nat) (a2 : State) : Touch 0xc26000000000000030000002000000000000000000000000c00000000420000000000000000000008a0000000004400000000000 a2 (portOff a1 a2) := by
  unfold portOff
  repeat' first
    | with_reducible exact Touch.refl _ _
    | ((with_reducible refine Eq.symm ?_); exact rfl)
    | with_reducible apply Touch.via (updLinks_touch _)
    | with_reducible apply Touch.via (State.modLk_touch _ _ _)
    | with_reducible apply Touch.via (setLanes_touch _ _ _)
    | with_reducible apply Touch.via (State.setLst_touch _ _ _)
    | with_reducible refine Touch.sf ?_ ?_
    | with_reducible refine Touch.forEach ?_ ?_
    | intro _

theorem stackFree_touch (k : Nat) (s : State) : Touch 0x800000000000000000000000000000000000000000000000000000000000000000000000000000000000000000000000000000 s (stackFree k s) := by
  unfold stackFree
  simp only [Touch.mk_eq]
  refine TouchMk.intro (Touch.refl _ _) (hm := fun h => MemState.wf_foldl _ _ (fun m g h => ?_) _ h)
  split
  · exact MemState.wf_refill _ _ _ h
  · exact h

theorem stackLost_touch (a1 : Nat) (a2 : State) : Touch 0x8000800000000000000000000000000000000000000000000000000000000000000000000000000000000000000000000000000000 a2 (stackLost a1 a2) := by
  unfold stackLost
  repeat' first
    | with_reducible exact Touch.refl _ _
    | ((with_reducible refine Eq.symm ?_); exact rfl)
    | with_reducible apply Touch.via (drawn_touch _)
    | with_reducible apply Touch.via (stackFree_touch _ _)

theorem stwReset_touch (a1 : State) : Touch 0x80288000000000000000000000000000000060000000000000000000000000006020c7800000000000000000000000000000000000 a1 (stwReset a1) := by
  unfold stwReset
  repeat' first
    | with_reducible exact Touch.refl _ _
    | ((with_reducible refine Eq.symm ?_); exact rfl)
    | with_reducible refine Touch.ite ?_ ?_
    | with_reducible apply Touch.via (closeRec_touch _ _ _ _)
    | with_reducible apply Touch.via (State.setStwTrg_touch _ _ _)
    | with_reducible refine Touch.resetList ?_ ?_
    | with_reducible refine Touch.sf ?_ ?_
    | with_reducible refine Touch.forUpTo ?_ ?_
    | intro _

theorem classReset_touch (a1 : Nat) (a2 : State) : Touch 0x85eef800000000000030000102000140020060000000000020c00000000421006000c004300000a3c0fa4c040809047e10000e16fd a2 (classReset a1 a2) := by
  unfold classReset
  repeat' first
    | with_reducible exact Touch.refl _ _
    | ((with_reducible refine Eq.symm ?_); exact rfl)
    | with_reducible refine Touch.ite ?_ ?_
    | with_reducible apply Touch.via (loadsEnd_touch _ _ _)
    | with_reducible apply Touch.via (toEmpty_touch _ _)
    | with_reducible refine Touch.resetListAt ?_ ?_
    | split

theorem unitAssert_touch (a1 : Nat) (a2 : Nat) (a3 : State) : Touch 0xcdeef800000000000030000d020001e0020061000000000120c00244088421006020c784300000a3c0fa4dc408f9047e10000e16fd a3 (unitAssert a1 a2 a3) := by
  unfold unitAssert
  repeat' first
    | with_reducible exact Touch.refl _ _
    | ((with_reducible refine Eq.symm ?_); exact rfl)
    | with_reducible refine Touch.ite ?_ ?_
    | with_reducible apply Touch.via (coreResetUnit_touch _ _)
    | with_reducible apply Touch.via (classReset_touch _ _)
    | with_reducible apply Touch.via (portOff_touch _ _)
    | with_reducible apply Touch.via (stackLost_touch _ _)
    | with_reducible apply Touch.via (stwReset_touch _)
    | with_reducible refine Touch.sf ?_ ?_
    | with_reducible refine Touch.resetAll ?_ ?_

theorem coreRelease_touch (a1 : Nat) (a2 : State) : Touch 0xc81e80000000000000000000020001e0000061000000000100c002440880000000000000300000000000018000f800000000000000 a2 (coreRelease a1 a2) := by
  unfold coreRelease
  repeat' first
    | with_reducible exact Touch.refl _ _
    | ((with_reducible refine Eq.symm ?_); exact rfl)
    | with_reducible refine Touch.ite ?_ ?_
    | with_reducible apply Touch.via (coreStart_touch _ _ _)
    | split

theorem unitRelease_touch (a1 : Nat) (a2 : Nat) (a3 : State) : Touch 0xc81e80000000000000000000020001e0000061000000000100c00244088000000000000030000000000001c000f800000000000000 a3 (unitRelease a1 a2 a3) := by
  unfold unitRelease
  repeat' first
    | with_reducible exact Touch.refl _ _
    | ((with_reducible refine Eq.symm ?_); exact rfl)
    | with_reducible refine Touch.ite ?_ ?_
    | with_reducible apply Touch.via (coreRelease_touch _ _)
    | with_reducible refine Touch.sf ?_ ?_

theorem unitPend_touch (a1 : State) : Touch 0xe81e80000000000000000000020201e0000061000000000100c00244088000000000000030000000000001c000f800000000000000 a1 (unitPend a1) := by
  unfold unitPend
  repeat' first
    | with_reducible exact Touch.refl _ _
    | ((with_reducible refine Eq.symm ?_); exact rfl)
    | with_reducible refine Touch.ite ?_ ?_
    | with_reducible apply Touch.via (unitRelease_touch _ _ _)
    | with_reducible refine Touch.sf ?_ ?_
    | with_reducible refine Touch.sflag ?_ ?_
    | with_reducible refine Touch.forEach ?_ ?_
    | (simp only [Touch.mk_eq]; with_reducible refine TouchMk.intro ?_)
    | intro _
    | split

theorem unitReg_bit (j : Nat) : Nat.testBit 0xedfef800000000000030000d0203f1e0020061000000000120c00244088421006020c784300000a3c0fa4dc408f9047e10000e16fd (unitReg j).1.ctorIdx = true := by
  unfold unitReg
  split
  · rfl
  · split
    · rfl
    · split <;> (dsimp only; rfl)

theorem rstUnitWrite_touch (a1 : Requester) (a2 : Nat) (a3 : Nat) (a4 : State) : Touch 0xedfef800000000000030000d0203f1e0020061000000000120c00244088421006020c784300000a3c0fa4dc408f9047e10000e16fd a4 (rstUnitWrite a1 a2 a3 a4) := by
  unfold rstUnitWrite
  repeat' first
    | with_reducible exact Touch.refl _ _
    | ((with_reducible refine Eq.symm ?_); exact rfl)
    | with_reducible refine Touch.ite ?_ ?_
    | with_reducible apply Touch.via (denyWrite_touch _ _ _ _ _)
    | with_reducible apply Touch.via (okResp_touch _ _)
    | with_reducible apply Touch.via (unitAssert_touch _ _ _)
    | with_reducible apply Touch.via (unitPend_touch _)
    | with_reducible apply Touch.via (logRefused_touch _ _ _ _ _)
    | exact unitReg_bit _
    | with_reducible refine Touch.sf ?_ ?_
    | with_reducible refine Touch.forEach ?_ ?_
    | (simp only [Touch.mk_eq]; with_reducible refine TouchMk.intro ?_)
    | intro _

theorem coreLockupNow_touch (a1 : Nat) (a2 : State) : Touch 0xe80e80000000000000000000020003e0000001000000000100c002440880000000000000300000000000018000f800000000000000 a2 (coreLockupNow a1 a2) := by
  unfold coreLockupNow
  repeat' first
    | with_reducible exact Touch.refl _ _
    | ((with_reducible refine Eq.symm ?_); exact rfl)
    | with_reducible apply Touch.via (coreResetUnit_touch _ _)
    | with_reducible apply Touch.via (report_touch _ _ _ _ _ _ _ _)
    | with_reducible refine Touch.sf ?_ ?_
    | (simp only [Touch.mk_eq]; with_reducible refine TouchMk.intro ?_)

theorem lockup_touch (a1 : Nat) (a2 : State) : Touch 0xe80e80000000000000000000020003e0000001000000000100c002440880000000000000300000000000018000f800000000000000 a2 (lockup a1 a2) := by
  unfold lockup
  repeat' first
    | with_reducible exact Touch.refl _ _
    | ((with_reducible refine Eq.symm ?_); exact rfl)
    | with_reducible refine Touch.ite ?_ ?_
    | with_reducible apply Touch.via (coreLockupNow_touch _ _)
    | with_reducible refine Touch.sf ?_ ?_
    | (simp only [Touch.mk_eq]; with_reducible refine TouchMk.intro ?_)

theorem coreWatchdog_touch (a1 : Nat) (a2 : State) : Touch 0xe80e80000000000000000000020003e0000001000000000100c002440880000000000000300000000000018000f800000000000000 a2 (coreWatchdog a1 a2) := by
  unfold coreWatchdog
  repeat' first
    | with_reducible exact Touch.refl _ _
    | ((with_reducible refine Eq.symm ?_); exact rfl)
    | with_reducible refine Touch.ite ?_ ?_
    | with_reducible apply Touch.via (csrPut_touch _ _ _ _)
    | with_reducible apply Touch.via (lockup_touch _ _)

theorem mtvecFault_touch (a1 : Nat) (a2 : State) : Touch 0xe80e80000000000000000000020003e0000001000000000100c002440880000000000000300000000000018000f800000000000000 a2 (mtvecFault a1 a2) := by
  unfold mtvecFault
  repeat' first
    | with_reducible exact Touch.refl _ _
    | ((with_reducible refine Eq.symm ?_); exact rfl)
    | with_reducible refine Touch.ite ?_ ?_
    | with_reducible apply Touch.via (lockup_touch _ _)

theorem porTry_touch (a1 : State) : Touch 0x2000000000000000000000000000000000000000000000000000000000000000000000000000000000000000000000000000000000 a1 (porTry a1) := by
  unfold porTry
  repeat' first
    | with_reducible exact Touch.refl _ _
    | ((with_reducible refine Eq.symm ?_); exact rfl)
    | with_reducible refine Touch.ite ?_ ?_
    | with_reducible apply Touch.via (releaseReset_touch _ _)

theorem powerOn_touch (a1 : State) : Touch 0xfffffffffffffffffff9afffffffffffffffffffffffffffffffffffffffffffffffffffffffffffffffffffffffffffffffffffff a1 (powerOn a1) := by
  unfold powerOn
  repeat' first
    | with_reducible exact Touch.refl _ _
    | ((with_reducible refine Eq.symm ?_); exact rfl)
    | with_reducible apply Touch.via (assertNow_touch _ _ _ _)
    | with_reducible refine Touch.setReg ?_ ?_
    | (simp only [Touch.mk_eq]; with_reducible refine TouchMk.intro ?_)

theorem brownOut_touch (a1 : Nat) (a2 : State) : Touch 0xfffffffffffffffffff9afffffffffffffffffffffffffffffffffffffffffffffffffffffffffffffffffffffffffffffffffffff a2 (brownOut a1 a2) := by
  unfold brownOut
  repeat' first
    | with_reducible exact Touch.refl _ _
    | ((with_reducible refine Eq.symm ?_); exact rfl)
    | with_reducible apply Touch.via (assertReset_touch _ _ _ _)
    | with_reducible refine Touch.sf ?_ ?_
    | dsimp only

theorem railGood_touch (a1 : Nat) (a2 : State) : Touch 0x2000000000000000000000000040000000000000000000000000000000000000000000000000000000000000000000000000000000 a2 (railGood a1 a2) := by
  unfold railGood
  repeat' first
    | with_reducible exact Touch.refl _ _
    | ((with_reducible refine Eq.symm ?_); exact rfl)
    | with_reducible apply Touch.via (porTry_touch _)
    | with_reducible apply Touch.via (releaseReset_touch _ _)
    | with_reducible refine Touch.sf ?_ ?_
    | dsimp only

theorem resetNAssert_touch (a1 : State) : Touch 0xfffffffffffffffffff9afffffffffffffffffffffffffffffffffffffffffffffffffffffffffffffffffffffffffffffffffffff a1 (resetNAssert a1) := by
  unfold resetNAssert
  repeat' first
    | with_reducible exact Touch.refl _ _
    | ((with_reducible refine Eq.symm ?_); exact rfl)
    | with_reducible apply Touch.via (assertReset_touch _ _ _ _)
    | (simp only [Touch.mk_eq]; with_reducible refine TouchMk.intro ?_)

theorem resetNRelease_touch (a1 : State) : Touch 0x2000000000000000000000000000000000000000000000000000000000000000000000000000000000000000000000000000000000 a1 (resetNRelease a1) := by
  unfold resetNRelease
  repeat' first
    | with_reducible exact Touch.refl _ _
    | ((with_reducible refine Eq.symm ?_); exact rfl)
    | with_reducible apply Touch.via (releaseReset_touch _ _)
    | (simp only [Touch.mk_eq]; with_reducible refine TouchMk.intro ?_)

theorem dwdogExpiry_touch (a1 : State) : Touch 0xfffffffffffffffffff9afffffffffffffffffffffffffffffffffffffffffffffffffffffffffffffffffffffffffffffffffffff a1 (dwdogExpiry a1) := by
  unfold dwdogExpiry
  repeat' first
    | with_reducible exact Touch.refl _ _
    | ((with_reducible refine Eq.symm ?_); exact rfl)
    | with_reducible refine Touch.ite ?_ ?_
    | with_reducible apply Touch.via (assertReset_touch _ _ _ _)
    | with_reducible refine Touch.sf ?_ ?_

theorem dwdogKick_touch (a1 : Requester) (a2 : Nat) (a3 : State) : Touch 0x400200000000000000000000400000a0000000000000000000c0000000000000000000000000000000000000000000000000000000 a3 (dwdogKick a1 a2 a3) := by
  unfold dwdogKick
  repeat' first
    | with_reducible exact Touch.refl _ _
    | ((with_reducible refine Eq.symm ?_); exact rfl)
    | with_reducible refine Touch.ite ?_ ?_
    | with_reducible apply Touch.via (denyWrite_touch _ _ _ _ _)
    | with_reducible apply Touch.via (dwdogReload_touch _)
    | with_reducible apply Touch.via (okResp_touch _ _)
    | with_reducible apply Touch.via (logRefused_touch _ _ _ _ _)

theorem dwdogCfg_touch (a1 : Requester) (a2 : Nat) (a3 : State) : Touch 0x400200000000000000000000500000a0000000000000000000c0000000000000000000000000000000000000000000000000000000 a3 (dwdogCfg a1 a2 a3) := by
  unfold dwdogCfg
  repeat' first
    | with_reducible exact Touch.refl _ _
    | ((with_reducible refine Eq.symm ?_); exact rfl)
    | with_reducible refine Touch.ite ?_ ?_
    | with_reducible apply Touch.via (denyWrite_touch _ _ _ _ _)
    | with_reducible apply Touch.via (dwdogReload_touch _)
    | with_reducible apply Touch.via (okResp_touch _ _)
    | with_reducible refine Touch.sf ?_ ?_

theorem swReq_touch (a1 : Requester) (a2 : Nat) (a3 : State) : Touch 0xfffffffffffffffffff9afffffffffffffffffffffffffffffffffffffffffffffffffffffffffffffffffffffffffffffffffffff a3 (swReq a1 a2 a3) := by
  unfold swReq
  repeat' first
    | with_reducible exact Touch.refl _ _
    | ((with_reducible refine Eq.symm ?_); exact rfl)
    | with_reducible refine Touch.ite ?_ ?_
    | with_reducible apply Touch.via (denyWrite_touch _ _ _ _ _)
    | with_reducible apply Touch.via (assertReset_touch _ _ _ _)
    | with_reducible apply Touch.via (okResp_touch _ _)

theorem dbgreqPulse_touch (a1 : Requester) (a2 : State) : Touch 0xfffffffffffffffffff9afffffffffffffffffffffffffffffffffffffffffffffffffffffffffffffffffffffffffffffffffffff a2 (dbgreqPulse a1 a2) := by
  unfold dbgreqPulse
  repeat' first
    | with_reducible exact Touch.refl _ _
    | ((with_reducible refine Eq.symm ?_); exact rfl)
    | with_reducible refine Touch.ite ?_ ?_
    | with_reducible apply Touch.via (denyWrite_touch _ _ _ _ _)
    | with_reducible apply Touch.via (assertReset_touch _ _ _ _)
    | with_reducible apply Touch.via (okResp_touch _ _)

theorem dbgreqHold_touch (a1 : Requester) (a2 : Bool) (a3 : State) : Touch 0xfffffffffffffffffff9afffffffffffffffffffffffffffffffffffffffffffffffffffffffffffffffffffffffffffffffffffff a3 (dbgreqHold a1 a2 a3) := by
  unfold dbgreqHold
  repeat' first
    | with_reducible exact Touch.refl _ _
    | ((with_reducible refine Eq.symm ?_); exact rfl)
    | with_reducible refine Touch.ite ?_ ?_
    | with_reducible apply Touch.via (denyWrite_touch _ _ _ _ _)
    | with_reducible apply Touch.via (okResp_touch _ _)
    | with_reducible apply Touch.via (assertReset_touch _ _ _ _)
    | with_reducible apply Touch.via (releaseReset_touch _ _)
    | with_reducible refine Touch.sflag ?_ ?_

theorem sourceTimeout_touch (a1 : Nat) (a2 : Nat) (a3 : State) : Touch 0xe81e80000000000000000000020001e0000061000000000100c002440880000000000000300000000000018000f800000000000000 a3 (sourceTimeout a1 a2 a3) := by
  unfold sourceTimeout
  repeat' first
    | with_reducible exact Touch.refl _ _
    | ((with_reducible refine Eq.symm ?_); exact rfl)
    | with_reducible refine Touch.ite ?_ ?_
    | with_reducible apply Touch.via (releaseReset_touch _ _)
    | with_reducible apply Touch.via (coreRelease_touch _ _)
    | with_reducible apply Touch.via (report_touch _ _ _ _ _ _ _ _)
    | with_reducible refine Touch.sf ?_ ?_

theorem heldRelease_touch (a1 : State) : Touch 0xfffffffffffffffffff9afffffffffffffffffffffffffffffffffffffffffffffffffffffffffffffffffffffffffffffffffffff a1 (heldRelease a1) := by
  unfold heldRelease
  repeat' first
    | with_reducible exact Touch.refl _ _
    | ((with_reducible refine Eq.symm ?_); exact rfl)
    | with_reducible refine Touch.ite ?_ ?_
    | with_reducible apply Touch.via (unitAssert_touch _ _ _)
    | with_reducible apply Touch.via (coreLockupNow_touch _ _)
    | with_reducible apply Touch.via (assertNow_touch _ _ _ _)
    | with_reducible apply Touch.via (releaseReset_touch _ _)
    | with_reducible refine Touch.forEach ?_ ?_
    | (simp only [Touch.mk_eq]; with_reducible refine TouchMk.intro ?_)
    | intro _

theorem writePulseEnd_touch (a1 : Bool) (a2 : State) : Touch 0xfffffffffffffffffff9afffffffffffffffffffffffffffffffffffffffffffffffffffffffffffffffffffffffffffffffffffff a2 (writePulseEnd a1 a2) := by
  unfold writePulseEnd
  repeat' first
    | with_reducible exact Touch.refl _ _
    | ((with_reducible refine Eq.symm ?_); exact rfl)
    | with_reducible refine Touch.ite ?_ ?_
    | with_reducible apply Touch.via (heldRelease_touch _)
    | with_reducible apply Touch.via (fuseDone_touch _)
    | with_reducible apply Touch.via (pulseEffect_touch _ _ _ _)
    | with_reducible refine Touch.sf ?_ ?_
    | (simp only [Touch.mk_eq]; with_reducible refine TouchMk.intro ?_)
    | split

theorem lcAdvanceDone_touch (a1 : State) : Touch 0xfffffffffffffffffff9afffffffffffffffffffffffffffffffffffffffffffffffffffffffffffffffffffffffffffffffffffff a1 (lcAdvanceDone a1) := by
  unfold lcAdvanceDone
  repeat' first
    | with_reducible exact Touch.refl _ _
    | ((with_reducible refine Eq.symm ?_); exact rfl)
    | with_reducible refine Touch.ite ?_ ?_
    | with_reducible apply Touch.via (passEnd_touch _)
    | with_reducible apply Touch.via (secZeroise_touch _)
    | with_reducible apply Touch.via (heldRelease_touch _)
    | with_reducible apply Touch.via (assertReset_touch _ _ _ _)
    | with_reducible refine Touch.sf ?_ ?_
    | (simp only [Touch.mk_eq]; with_reducible refine TouchMk.intro ?_)
    | split

theorem strapSample_touch (a1 : Nat) (a2 : Nat) (a3 : State) : Touch 0x4000000000000000000000000000000000000000000000000000000000000000000000000000000 a3 (strapSample a1 a2 a3) := by
  unfold strapSample
  repeat' first
    | with_reducible exact Touch.refl _ _
    | ((with_reducible refine Eq.symm ?_); exact rfl)
    | with_reducible refine Touch.sf ?_ ?_
    | with_reducible refine Touch.sflag ?_ ?_

theorem stepEffect_touch (a1 : Nat) (a2 : Nat) (a3 : Nat) (a4 : State) : Touch 0x20460000000000000000000040060140000200000000000000c0000000002100000000000000000000000000000000000000000000 a4 (stepEffect a1 a2 a3 a4) := by
  unfold stepEffect
  repeat' first
    | with_reducible exact Touch.refl _ _
    | ((with_reducible refine Eq.symm ?_); exact rfl)
    | with_reducible refine Touch.ite ?_ ?_
    | with_reducible apply Touch.via (strapSample_touch _ _ _)
    | with_reducible apply Touch.via (startTraining_touch _ _ _)
    | with_reducible apply Touch.via (procBoots_touch _ _ _)
    | with_reducible apply Touch.via (report_touch _ _ _ _ _ _ _ _)
    | with_reducible apply Touch.via (dwdogReload_touch _)
    | with_reducible refine Touch.sf ?_ ?_
    | with_reducible refine Touch.forEach ?_ ?_
    | with_reducible refine Touch.forUpTo ?_ ?_
    | (simp only [Touch.mk_eq]; with_reducible refine TouchMk.intro ?_)
    | intro _
    | split
    | dsimp only

theorem releaseStep_touch (a1 : Nat) (a2 : Nat) (a3 : State) : Touch 0x20460000000000000000000040060140000200000000000000c0000000002100000000000000000000000000000000000000000000 a3 (releaseStep a1 a2 a3) := by
  unfold releaseStep
  repeat' first
    | with_reducible exact Touch.refl _ _
    | ((with_reducible refine Eq.symm ?_); exact rfl)
    | with_reducible refine Touch.ite ?_ ?_
    | with_reducible apply Touch.via (stepEffect_touch _ _ _ _)
    | with_reducible refine Touch.sf ?_ ?_
    | split
    | dsimp only

theorem hbmStackTrained_touch (a1 : State) : Touch 0x2000000040000000000000000000 a1 (hbmStackTrained a1) := by
  unfold hbmStackTrained
  repeat' first
    | with_reducible exact Touch.refl _ _
    | ((with_reducible refine Eq.symm ?_); exact rfl)
    | with_reducible refine Touch.ite ?_ ?_
    | with_reducible refine Touch.sf ?_ ?_

theorem bootPush_touch (a1 : Requester) (a2 : Nat) (a3 : State) : Touch 0x440200000000000000000000000000a0000000000000000000c0000000000000000000000000000000000000000000000000000000 a3 (bootPush a1 a2 a3) := by
  unfold bootPush
  repeat' first
    | with_reducible exact Touch.refl _ _
    | ((with_reducible refine Eq.symm ?_); exact rfl)
    | with_reducible refine Touch.ite ?_ ?_
    | with_reducible apply Touch.via (denyWrite_touch _ _ _ _ _)
    | with_reducible apply Touch.via (okResp_touch _ _)
    | (simp only [Touch.mk_eq]; with_reducible refine TouchMk.intro ?_)

end Machine
end Sys2Proof
end

