-- ==== Sys2Proof/Laws/TouchPower.lean ====
section
/-! SUPPORT. What each operation of Machine/Power.lean leaves alone. -/
set_option linter.unusedVariables false
set_option Elab.async false
namespace Sys2Proof
namespace Machine

theorem setGood_touch (a1 : Nat) (a2 : Bool) (a3 : State) : Touch 0x20000000000000000000000000000000000000000000000000000000000000000000000000000000 a3 (setGood a1 a2 a3) := by
  unfold setGood
  repeat' first
    | with_reducible exact Touch.refl _ _
    | ((with_reducible refine Eq.symm ?_); exact rfl)
    | with_reducible refine Touch.sflag ?_ ?_
    | dsimp only

theorem clockGoodUp_touch (a1 : Nat) (a2 : State) : Touch 0xe81e80000000000000000000022201e0000061000000000100c00244088000000000000030000000000001c000f800000000000000 a2 (clockGoodUp a1 a2) := by
  unfold clockGoodUp
  repeat' first
    | with_reducible exact Touch.refl _ _
    | ((with_reducible refine Eq.symm ?_); exact rfl)
    | with_reducible apply Touch.via (setGood_touch _ _ _)
    | with_reducible apply Touch.via (porTry_touch _)
    | with_reducible apply Touch.via (unitPend_touch _)
    | with_reducible apply Touch.via (releaseReset_touch _ _)
    | (simp only [Touch.mk_eq]; with_reducible refine TouchMk.intro ?_)

theorem stwClockLost_touch (a1 : Nat) (a2 : State) : Touch 0x8028800000000000000000000000000000006000000000000000000000000000600080000000000000000000000000000000000000 a2 (stwClockLost a1 a2) := by
  unfold stwClockLost
  repeat' first
    | with_reducible exact Touch.refl _ _
    | ((with_reducible refine Eq.symm ?_); exact rfl)
    | with_reducible refine Touch.ite ?_ ?_
    | with_reducible apply Touch.via (State.setStwIn_touch _ _ _)
    | with_reducible apply Touch.via (closeRec_touch _ _ _ _)
    | with_reducible refine Touch.forUpTo ?_ ?_
    | intro _
    | split
    | dsimp only

theorem failSide_touch (a1 : Nat) (a2 : State) : Touch 0xe83e80000000000000000000020003e0000061200000000100cffe440880000060008000300000000000018000f800000000000000 a2 (failSide a1 a2) := by
  unfold failSide
  repeat' first
    | with_reducible exact Touch.refl _ _
    | ((with_reducible refine Eq.symm ?_); exact rfl)
    | with_reducible refine Touch.ite ?_ ?_
    | with_reducible apply Touch.via (proctorStops_touch _ _)
    | with_reducible apply Touch.via (lockup_touch _ _)
    | with_reducible apply Touch.via (linkDown_touch _)
    | with_reducible apply Touch.via (stwClockLost_touch _ _)
    | with_reducible refine Touch.forEach ?_ ?_
    | intro _

theorem clkFail_touch (a1 : Nat) (a2 : State) : Touch 0xfffffffffffffffffff9afffffffffffffffffffffffffffffffffffffffffffffffffffffffffffffffffffffffffffffffffffff a2 (clkFail a1 a2) := by
  unfold clkFail
  repeat' first
    | with_reducible exact Touch.refl _ _
    | ((with_reducible refine Eq.symm ?_); exact rfl)
    | with_reducible refine Touch.ite ?_ ?_
    | with_reducible apply Touch.via (report_touch _ _ _ _ _ _ _ _)
    | with_reducible apply Touch.via (drawn_touch _)
    | with_reducible apply Touch.via (assertReset_touch _ _ _ _)
    | with_reducible apply Touch.via (failSide_touch _ _)
    | with_reducible apply Touch.via (raiseLead_touch _ _ _ _)
    | with_reducible apply Touch.via (markCorrupt_touch _ _)
    | with_reducible refine Touch.sf ?_ ?_
    | with_reducible refine Touch.forEach ?_ ?_
    | (simp only [Touch.mk_eq]; with_reducible refine TouchMk.intro ?_)
    | intro _

theorem clockFail_touch (a1 : Nat) (a2 : State) : Touch 0xfffffffffffffffffff9afffffffffffffffffffffffffffffffffffffffffffffffffffffffffffffffffffffffffffffffffffff a2 (clockFail a1 a2) := by
  unfold clockFail
  repeat' first
    | with_reducible exact Touch.refl _ _
    | ((with_reducible refine Eq.symm ?_); exact rfl)
    | with_reducible refine Touch.ite ?_ ?_
    | with_reducible apply Touch.via (setGood_touch _ _ _)
    | with_reducible apply Touch.via (startRetrain_touch _ _)
    | with_reducible apply Touch.via (clkFail_touch _ _)

theorem setThermal_touch (a1 : Nat) (a2 : State) : Touch 0xc20000000000000030000002000000000000000000000000c0000000000000000000000000000000000000000000000000000000 a2 (setThermal a1 a2) := by
  unfold setThermal
  repeat' first
    | with_reducible exact Touch.refl _ _
    | ((with_reducible refine Eq.symm ?_); exact rfl)
    | with_reducible refine Touch.ite ?_ ?_
    | with_reducible apply Touch.via (reqClock_touch _)
    | (simp only [Touch.mk_eq]; with_reducible refine TouchMk.intro ?_)

theorem showTemp_touch (a1 : Nat) (a2 : Nat) (a3 : State) : Touch 0x80000000000000000000000000000000000000000000000000000000000000000000000000000000 a3 (showTemp a1 a2 a3) := by
  unfold showTemp
  repeat' first
    | with_reducible exact Touch.refl _ _
    | ((with_reducible refine Eq.symm ?_); exact rfl)
    | with_reducible refine Touch.ite ?_ ?_
    | with_reducible refine Touch.sf ?_ ?_

theorem tempSample_touch (a1 : List Nat) (a2 : State) : Touch 0xfffffffffffffffffff9afffffffffffffffffffffffffffffffffffffffffffffffffffffffffffffffffffffffffffffffffffff a2 (tempSample a1 a2) := by
  unfold tempSample
  repeat' first
    | with_reducible exact Touch.refl _ _
    | ((with_reducible refine Eq.symm ?_); exact rfl)
    | with_reducible refine Touch.ite ?_ ?_
    | with_reducible apply Touch.via (showTemp_touch _ _ _)
    | with_reducible apply Touch.via (assertReset_touch _ _ _ _)
    | with_reducible apply Touch.via (setThermal_touch _ _)
    | with_reducible refine Touch.forUpTo ?_ ?_
    | (simp only [Touch.mk_eq]; with_reducible refine TouchMk.intro ?_)
    | intro _

theorem throttleAdjust_touch (a1 : State) : Touch 0xc20000000000000030000002000000000000000000000000c0000000000000000000000000000000000000000000000000000000 a1 (throttleAdjust a1) := by
  unfold throttleAdjust
  repeat' first
    | with_reducible exact Touch.refl _ _
    | ((with_reducible refine Eq.symm ?_); exact rfl)
    | with_reducible refine Touch.ite ?_ ?_
    | with_reducible apply Touch.via (setThermal_touch _ _)

theorem pwrCmd_touch {w : Nat} (hw : Nat.lor 0x400200000000000000000000020000a0000000000000000000c0000000000000000000000000000000000000000000000000000000 w = w) (a1 : Requester) (a2 : Nat) (a3 : Bool) (a4 : State → State) (a5 : State) (ha4 : ∀  t, Touch w t (a4  t)) : Touch w a5 (pwrCmd a1 a2 a3 a4 a5) := by
  unfold pwrCmd
  repeat' first
    | with_reducible exact Touch.refl _ _
    | with_reducible refine Touch.ite ?_ ?_
    | exact Touch.sub (by rfl) hw
    | exact Touch.bit hw (by rfl)
    | with_reducible apply Touch.after (ha4 _)
    | with_reducible apply Touch.via (denyWrite_touch _ _ _ _ _)
    | with_reducible apply Touch.via (okResp_touch _ _)
    | with_reducible apply Touch.via (logRefused_touch _ _ _ _ _)
    | with_reducible refine Touch.sf ?_ ?_

theorem clockNow_touch (a1 : State) : Touch 0x824000000000000030000000000000000000000000000000c0000000000000000000000000000000000000000004000000000000 a1 (clockNow a1) := by
  unfold clockNow
  repeat' first
    | with_reducible exact Touch.refl _ _
    | ((with_reducible refine Eq.symm ?_); exact rfl)
    | with_reducible refine Touch.ite ?_ ?_
    | with_reducible apply Touch.via (stepClockChange_touch _)
    | (simp only [Touch.mk_eq]; with_reducible refine TouchMk.intro ?_)

theorem enterRecess_touch (a1 : State) : Touch 0xa9cac000000000000030000002000000000060000000000000c0000000002000000000000000000000000040000004000000000000 a1 (enterRecess a1) := by
  unfold enterRecess
  repeat' first
    | with_reducible exact Touch.refl _ _
    | ((with_reducible refine Eq.symm ?_); exact rfl)
    | with_reducible refine Touch.ite ?_ ?_
    | with_reducible apply Touch.via (clockNow_touch _)
    | with_reducible apply Touch.via (ctSleep_touch _ _ _)
    | with_reducible apply Touch.via (State.modLk_touch _ _ _)
    | with_reducible apply Touch.via (State.setLst_touch _ _ _)
    | with_reducible refine Touch.sf ?_ ?_
    | with_reducible refine Touch.forEach ?_ ?_
    | with_reducible refine Touch.forUpTo ?_ ?_
    | (simp only [Touch.mk_eq]; with_reducible refine TouchMk.intro ?_)
    | intro _

theorem pwrRecess_touch (a1 : Requester) (a2 : State) : Touch 0xe9cac0000000000000300000020000a0000060000000000000c0000000002000000000000000000000000040000004000000000000 a2 (pwrRecess a1 a2) := by
  unfold pwrRecess
  repeat' first
    | with_reducible exact Touch.refl _ _
    | ((with_reducible refine Eq.symm ?_); exact rfl)
    | with_reducible refine Touch.ite ?_ ?_
    | with_reducible apply Touch.after (pwrCmd_touch ?_ _ _ _ _ _ ?_)
    | with_reducible apply Touch.via (enterRecess_touch _)
    | intro _

theorem pwrWake_touch (a1 : Requester) (a2 : State) : Touch 0x400200000000000000000000020000a0000000000000000000c0000000000000000000000000000000000000000000000000000000 a2 (pwrWake a1 a2) := by
  unfold pwrWake
  repeat' first
    | with_reducible exact Touch.refl _ _
    | ((with_reducible refine Eq.symm ?_); exact rfl)
    | with_reducible apply Touch.after (pwrCmd_touch ?_ _ _ _ _ _ ?_)
    | with_reducible apply Touch.via (wakeBy_touch _ _)
    | intro _

theorem recessExit_touch (a1 : State) : Touch 0xa9ca8000000000000030000002000000000060000000000000c0000000002100000000000000000000000040000000000000000000 a1 (recessExit a1) := by
  unfold recessExit
  repeat' first
    | with_reducible exact Touch.refl _ _
    | ((with_reducible refine Eq.symm ?_); exact rfl)
    | with_reducible refine Touch.ite ?_ ?_
    | with_reducible apply Touch.via (startTraining_touch _ _ _)
    | with_reducible apply Touch.via (ctWake_touch _ _)
    | with_reducible apply Touch.via (reqClock_touch _)
    | with_reducible refine Touch.sf ?_ ?_
    | with_reducible refine Touch.forEach ?_ ?_
    | with_reducible refine Touch.forUpTo ?_ ?_
    | (simp only [Touch.mk_eq]; with_reducible refine TouchMk.intro ?_)
    | intro _

theorem gpioWake_touch (a1 : State) : Touch 0x200000000000000000000000000000000000000000000000000000000000000000000000000000000 a1 (gpioWake a1) := by
  unfold gpioWake
  repeat' first
    | with_reducible exact Touch.refl _ _
    | ((with_reducible refine Eq.symm ?_); exact rfl)
    | with_reducible apply Touch.via (wakeBy_touch _ _)

theorem ethernetFrame_touch (a1 : State) : Touch 0x200000000000000000000000000000000000000000000000000000000000000000000000000000000 a1 (ethernetFrame a1) := by
  unfold ethernetFrame
  repeat' first
    | with_reducible exact Touch.refl _ _
    | ((with_reducible refine Eq.symm ?_); exact rfl)
    | with_reducible apply Touch.via (wakeBy_touch _ _)

end Machine
end Sys2Proof
end

