-- ==== Sys2Proof/Laws/TouchAccView.lean ====
section
/-! SUPPORT. What each operation of Machine/AccView.lean leaves alone. -/
set_option linter.unusedVariables false
set_option Elab.async false
namespace Sys2Proof
namespace Machine

theorem tagWrite_touch (a1 : Nat) (a2 : Nat) (a3 : Nat) (a4 : Nat) (a5 : State) : Touch 0x800000000000000000000000000000000000000000000000000000000000000000000000000000000000000000000000000000 a5 (tagWrite a1 a2 a3 a4 a5) := by
  unfold tagWrite
  repeat' first
    | with_reducible exact Touch.refl _ _
    | ((with_reducible refine Eq.symm ?_); exact rfl)
    | with_reducible refine Touch.ite ?_ ?_
    | with_reducible apply Touch.via (State.wbs_touch _ _ _)
    | split

theorem latchRead_touch (a1 : Reg) (a2 : Nat) (a3 : State) : Touch 0x5540000700000000000000000008000000000000800000000000402000003e00000 a3 (latchRead a1 a2 a3) := by
  unfold latchRead
  repeat' first
    | with_reducible exact Touch.refl _ _
    | ((with_reducible refine Eq.symm ?_); exact rfl)
    | with_reducible refine Touch.sf ?_ ?_
    | split

theorem rcl_bit (r : Reg) : r.masks.rcl = 0 ∨ Nat.testBit 0xfffffffffffffffffff9afffffffffffffffffffffffffffffffffffffffffffffffffffffffffffffffffffffffffffffffffffff r.ctorIdx = true := by
  cases r <;> first | exact Or.inr rfl | exact Or.inl rfl

theorem clearRead_touch (r : Reg) (i : Nat) (s : State) : Touch 0xfffffffffffffffffff9afffffffffffffffffffffffffffffffffffffffffffffffffffffffffffffffffffffffffffffffffffff s (clearRead r i s) := by
  unfold clearRead
  split
  · exact Touch.refl _ _
  · exact Touch.setReg ((rcl_bit r).resolve_left (by assumption)) (Touch.refl _ _)

theorem regRead_touch (a1 : Requester) (a2 : Reg) (a3 : Nat) (a4 : Bool) (a5 : State) : Touch 0xfffffffffffffffffff9afffffffffffffffffffffffffffffffffffffffffffffffffffffffffffffffffffffffffffffffffffff a5 (regRead a1 a2 a3 a4 a5) := by
  unfold regRead
  repeat' first
    | with_reducible exact Touch.refl _ _
    | ((with_reducible refine Eq.symm ?_); exact rfl)
    | with_reducible refine Touch.ite ?_ ?_
    | with_reducible apply Touch.via (okResp_touch _ _)
    | with_reducible apply Touch.via (denyRead_touch _ _ _ _)
    | with_reducible apply Touch.via (txtsRead_touch _)
    | with_reducible apply Touch.via (clearRead_touch _ _ _)
    | with_reducible apply Touch.via (latchRead_touch _ _ _)
    | (simp only [Touch.mk_eq]; with_reducible refine TouchMk.intro ?_)

theorem lockerRead_touch (a1 : Requester) (a2 : Nat) (a3 : State) : Touch 0xc00200000000000000000000000000a0000000000000000000c0000000000000000000000000000000000000000000000000000000 a3 (lockerRead a1 a2 a3) := by
  unfold lockerRead
  repeat' first
    | with_reducible exact Touch.refl _ _
    | ((with_reducible refine Eq.symm ?_); exact rfl)
    | with_reducible refine Touch.ite ?_ ?_
    | with_reducible apply Touch.via (logViol_touch _ _ _ _ _ _ _)
    | with_reducible apply Touch.via (okResp_touch _ _)
    | (simp only [Touch.mk_eq]; with_reducible refine TouchMk.intro ?_)

theorem lockerWrite_touch (a1 : Requester) (a2 : Nat) (a3 : Nat) (a4 : State) : Touch 0x400280000000000000000000000000a0000000000000000000c0000000000000000000000000000000000000000000000000000000 a4 (lockerWrite a1 a2 a3 a4) := by
  unfold lockerWrite
  repeat' first
    | with_reducible exact Touch.refl _ _
    | ((with_reducible refine Eq.symm ?_); exact rfl)
    | with_reducible refine Touch.ite ?_ ?_
    | with_reducible apply Touch.via (okResp_touch _ _)
    | with_reducible apply Touch.via (State.wbs_touch _ _ _)
    | with_reducible apply Touch.via (logViol_touch _ _ _ _ _ _ _)
    | (simp only [Touch.mk_eq]; with_reducible refine TouchMk.intro ?_)

end Machine
end Sys2Proof
end

