-- ==== Sys2Proof/Laws/TouchRoute.lean ====
section
/-! SUPPORT. What each operation of Machine/Route.lean leaves alone. -/
set_option linter.unusedVariables false
set_option Elab.async false
namespace Sys2Proof
namespace Machine

theorem routeWrite_touch (a1 : Requester) (a2 : Nat) (a3 : State) : Touch 0xd00200000000000000000000000000a0000000000000000000c0000000000000000000000000000000000000000000000000000000 a3 (routeWrite a1 a2 a3) := by
  unfold routeWrite
  repeat' first
    | with_reducible exact Touch.refl _ _
    | ((with_reducible refine Eq.symm ?_); exact rfl)
    | with_reducible refine Touch.ite ?_ ?_
    | with_reducible apply Touch.via (denyWrite_touch _ _ _ _ _)
    | with_reducible apply Touch.via (logViol_touch _ _ _ _ _ _ _)
    | with_reducible apply Touch.via (okResp_touch _ _)
    | (simp only [Touch.mk_eq]; with_reducible refine TouchMk.intro ?_)

end Machine
end Sys2Proof
end

