-- ==== Sys2Proof/Laws/TouchAccess.lean ====
section
/-! SUPPORT. What each operation of Machine/Access.lean leaves alone. -/
set_option linter.unusedVariables false
set_option Elab.async false
namespace Sys2Proof
namespace Machine

theorem doneWrite_touch (a1 : Requester) (a2 : Nat) (a3 : State) : Touch 0x2000000000000000000000000000 a3 (doneWrite a1 a2 a3) := by
  unfold doneWrite
  repeat' first
    | with_reducible exact Touch.refl _ _
    | ((with_reducible refine Eq.symm ?_); exact rfl)
    | with_reducible refine Touch.ite ?_ ?_
    | with_reducible apply Touch.via (doneUpd_touch _)
    | with_reducible refine Touch.sf ?_ ?_

theorem afterWrite_touch (a1 : Requester) (a2 : Reg) (a3 : Nat) (a4 : Nat) (a5 : State) (a6 : State) : Touch 0xca6000000000000030000142000000000020000000800000c00000000420002000000010000020008a0000000004400000000000 a6 (afterWrite a1 a2 a3 a4 a5 a6) := by
  unfold afterWrite
  repeat' first
    | with_reducible exact Touch.refl _ _
    | ((with_reducible refine Eq.symm ?_); exact rfl)
    | with_reducible refine Touch.ite ?_ ?_
    | with_reducible apply Touch.via (slotsUpd_touch _ _)
    | with_reducible apply Touch.via (doneWrite_touch _ _ _)
    | with_reducible apply Touch.via (updLinks_touch _)
    | with_reducible apply Touch.via (raiseIrq_touch _ _)
    | with_reducible refine Touch.setReg ?_ ?_
    | with_reducible refine Touch.sf ?_ ?_
    | with_reducible refine Touch.forUpTo ?_ ?_
    | (simp only [Touch.mk_eq]; with_reducible refine TouchMk.intro ?_)
    | intro _
    | split

theorem writable_bit (r : Reg) : writable r.masks = 0 ∨ Nat.testBit 0xfffffffffffffffffff9afffffffffffffffffffffffffffffffffffffffffffffffffffffffffffffffffffffffffffffffffffff r.ctorIdx = true := by
  cases r <;> first | exact Or.inr rfl | exact Or.inl rfl

theorem regStore_touch (rq : Requester) (r : Reg) (i v : Nat) (s : State) (h : Nat.testBit 0xfffffffffffffffffff9afffffffffffffffffffffffffffffffffffffffffffffffffffffffffffffffffffffffffffffffffffff r.ctorIdx = true) :
    Touch 0xfffffffffffffffffff9afffffffffffffffffffffffffffffffffffffffffffffffffffffffffffffffffffffffffffffffffffff s (regStore rq r i v s) := by
  have a : ∀ x : Word, Touch 0xfffffffffffffffffff9afffffffffffffffffffffffffffffffffffffffffffffffffffffffffffffffffffffffffffffffffffff s (afterWrite rq r i v s (s.setReg r i x)) := fun x =>
    (Touch.setReg h (Touch.refl _ _)).trans ((afterWrite_touch _ _ _ _ _ _).mono (by rfl))
  have l : ∀ t, Touch 0xfffffffffffffffffff9afffffffffffffffffffffffffffffffffffffffffffffffffffffffffffffffffffffffffffffffffffff t (lockedWrite rq r i v t) := fun t => (lockedWrite_touch _ _ _ _ _).mono (by rfl)
  unfold regStore
  refine Touch.ite (Touch.ite ((denyWrite_touch _ _ _ _ _).mono (by rfl)) (Touch.ite (l _) (a _))) (Touch.ite (l _) (Touch.ite ?_ ?_))
  · exact (Touch.ite (Touch.refl _ _) (a _)).trans (l _)
  · exact Touch.ite (Touch.refl _ _) (a _)

theorem probeWrite_touch (a1 : Requester) (a2 : Nat) (a3 : Nat) (a4 : State) : Touch 0x400a00000000000000000000000000a0000000000000000000c0000000000000000000000000000000000000000000000000000000 a4 (probeWrite a1 a2 a3 a4) := by
  unfold probeWrite
  repeat' first
    | with_reducible exact Touch.refl _ _
    | ((with_reducible refine Eq.symm ?_); exact rfl)
    | with_reducible refine Touch.ite ?_ ?_
    | with_reducible apply Touch.via (lockedWrite_touch _ _ _ _ _)
    | (simp only [Touch.mk_eq]; with_reducible refine TouchMk.intro ?_)

theorem noCommand_touch (a1 : Requester) (a2 : Reg) (a3 : Nat) (a4 : Nat) (a5 : State) : Touch 0x400200000000000000000000000000a0000000000000000000c0000000000000000000000000000000000000000000000000000000 a5 (noCommand a1 a2 a3 a4 a5) := by
  unfold noCommand
  repeat' first
    | with_reducible exact Touch.refl _ _
    | ((with_reducible refine Eq.symm ?_); exact rfl)
    | with_reducible refine Touch.ite ?_ ?_
    | with_reducible apply Touch.via (denyWrite_touch _ _ _ _ _)

theorem partCmdWrite_touch (a1 : Requester) (a2 : Nat) (a3 : Nat) (a4 : State) : Touch 0xc5eef8000000000000300001020001e0020060000000000020c00000000421006000c01c300000a3c0fa4c040809047e10000e1605 a4 (partCmdWrite a1 a2 a3 a4) := by
  unfold partCmdWrite
  repeat' first
    | with_reducible exact Touch.refl _ _
    | ((with_reducible refine Eq.symm ?_); exact rfl)
    | with_reducible apply Touch.via (cmdLoad_touch _ _ _)
    | with_reducible apply Touch.via (cmdArm_touch _ _ _ _)
    | with_reducible apply Touch.via (cmdStart_touch _ _ _ _)
    | with_reducible apply Touch.via (cmdStop_touch _ _ _ _)
    | with_reducible apply Touch.via (cmdResume_touch _ _ _ _)
    | with_reducible apply Touch.via (cmdFreezeNow_touch _ _ _ _)
    | with_reducible apply Touch.via (cmdCapture_touch _ _ _ _)
    | with_reducible apply Touch.via (cmdRewind_touch _ _ _ _)
    | with_reducible apply Touch.via (cmdAbort_touch _ _ _ _)
    | with_reducible apply Touch.via (cmdUnload_touch _ _ _ _)
    | with_reducible apply Touch.via (noCommand_touch _ _ _ _ _)
    | split

theorem linkCmdWrite_touch (a1 : Requester) (a2 : Nat) (a3 : Nat) (a4 : State) : Touch 0xc04200000000000000000000000000a0000000000000000000c0000000002100000000000000000000000000000000000000000000 a4 (linkCmdWrite a1 a2 a3 a4) := by
  unfold linkCmdWrite
  repeat' first
    | with_reducible exact Touch.refl _ _
    | ((with_reducible refine Eq.symm ?_); exact rfl)
    | with_reducible apply Touch.via (linkEnable_touch _ _ _)
    | with_reducible apply Touch.via (linkDisable_touch _ _ _)
    | with_reducible apply Touch.via (linkRetrain_touch _ _ _)
    | with_reducible apply Touch.via (linkNap_touch _ _ _)
    | with_reducible apply Touch.via (linkRecess_touch _ _ _)
    | with_reducible apply Touch.via (linkWake_touch _ _ _)
    | with_reducible apply Touch.via (linkLoopback_touch _ _ _ _ _)
    | with_reducible apply Touch.via (linkLbEnd_touch _ _ _)
    | with_reducible apply Touch.via (linkSpareCmd_touch _ _ _ _)
    | with_reducible apply Touch.via (noCommand_touch _ _ _ _ _)
    | (simp only [Touch.mk_eq]; with_reducible refine TouchMk.intro ?_)
    | split

/-- An answer that is a state differs from `s` only in what `w` names. -/
structure TouchSome (w : Nat) (s : State) (x : Option State) : Prop where
  of : ∀ t, x = some t → Touch w s t

theorem TouchSome.some {w : Nat} {s t : State} (h : Touch w s t) : TouchSome w s (some t) := ⟨fun _ e => by cases e; exact h⟩
theorem TouchSome.none {w : Nat} {s : State} : TouchSome w s none := ⟨fun _ e => by cases e⟩

theorem cmdWriteA_touch (rq : Requester) (r : Reg) (i v : Nat) (s : State) : TouchSome 0xc7fef8000000000000300001020001e0020060000000000020c000000004217ee460ca9cf22400a7c0fecc040809047e10100eb705 s (cmdWriteA rq r i v s) := by
  unfold cmdWriteA
  split
  all_goals first | exact TouchSome.none | refine TouchSome.some ?_
  all_goals repeat' first
    | with_reducible exact Touch.refl _ _
    | ((with_reducible refine Eq.symm ?_); exact rfl)
    | with_reducible refine Touch.ite ?_ ?_
    | with_reducible apply Touch.via (partCmdWrite_touch _ _ _ _)
    | with_reducible apply Touch.via (partCommit_touch _ _ _ _)
    | with_reducible apply Touch.via (partCommitCancel_touch _ _ _)
    | with_reducible apply Touch.via (noCommand_touch _ _ _ _ _)
    | with_reducible apply Touch.via (faultTailWrite_touch _ _ _ _)
    | with_reducible apply Touch.via (genCtlWrite_touch _ _ _ _)
    | with_reducible apply Touch.via (loaderStart_touch _ _ _ _ _ _ _ _)
    | with_reducible apply Touch.via (loaderCancel_touch _ _ _)
    | with_reducible apply Touch.via (denyWrite_touch _ _ _ _ _)
    | with_reducible apply Touch.via (bootPush_touch _ _ _)
    | with_reducible apply Touch.via (trcArm_touch _ _ _)
    | with_reducible apply Touch.via (trcStop_touch _ _ _)
    | with_reducible apply Touch.via (trcForce_touch _ _ _)
    | with_reducible apply Touch.via (stwInEnable_touch _ _ _)
    | with_reducible apply Touch.via (stwInArm_touch _ _ _)
    | with_reducible apply Touch.via (stwInStop_touch _ _ _)
    | with_reducible apply Touch.via (stwInDisable_touch _ _ _)
    | with_reducible apply Touch.via (stwTrgArm_touch _ _ _)
    | with_reducible apply Touch.via (stwTrgDisarm_touch _ _ _)
    | with_reducible apply Touch.via (stwTrgForce_touch _ _ _)
    | with_reducible apply Touch.via (calStart_touch _ _)
    | with_reducible apply Touch.via (calStop_touch _ _)
    | with_reducible apply Touch.via (tbLatch_touch _ _)
    | with_reducible apply Touch.via (linkCmdWrite_touch _ _ _ _)
    | with_reducible apply Touch.via (subFollow_touch _ _ _ _ _)
    | with_reducible apply Touch.via (subCommit_touch _ _ _)
    | with_reducible apply Touch.via (subCancel_touch _ _ _)
    | split

theorem cmdWriteB_touch (rq : Requester) (r : Reg) (i v : Nat) (s : State) : TouchSome 0xdc0fe0000000000000000000020001e0000000000300a08130c002cc2c800000000000003001b500000011ac00f804000000000000 s (cmdWriteB rq r i v s) := by
  unfold cmdWriteB
  split
  all_goals first | exact TouchSome.none | refine TouchSome.some ?_
  all_goals repeat' first
    | with_reducible exact Touch.refl _ _
    | ((with_reducible refine Eq.symm ?_); exact rfl)
    | with_reducible refine Touch.ite ?_ ?_
    | with_reducible apply Touch.via (marchStart_touch _ _ _)
    | with_reducible apply Touch.via (marchStop_touch _ _ _ _)
    | with_reducible apply Touch.via (noCommand_touch _ _ _ _ _)
    | with_reducible apply Touch.via (retireBank_touch _ _ _)
    | with_reducible apply Touch.via (unretireBank_touch _ _ _)
    | with_reducible apply Touch.via (hbmRetire_touch _ _ _ _)
    | with_reducible apply Touch.via (keyProgram_touch _ _ _)
    | with_reducible apply Touch.via (keyRevoke_touch _ _ _)
    | with_reducible apply Touch.via (keyClear_touch _ _ _)
    | with_reducible apply Touch.via (denyWrite_touch _ _ _ _ _)
    | with_reducible apply Touch.via (lcAdvance_touch _ _)
    | with_reducible apply Touch.via (rkProgram_touch _ _ _)
    | with_reducible apply Touch.via (rkRevoke_touch _ _ _)
    | with_reducible apply Touch.via (svnAdvance_touch _ _ _)
    | with_reducible apply Touch.via (tickCmdWrite_touch _ _ _)
    | with_reducible apply Touch.via (coreCfgWrite_touch _ _ _ _)
    | with_reducible apply Touch.via (qCfgNextWrite_touch _ _ _ _)
    | with_reducible apply Touch.via (queueTailWrite_touch _ _ _ _)
    | with_reducible apply Touch.via (qEnable_touch _ _ _)
    | with_reducible apply Touch.via (qDisable_touch _ _ _)
    | with_reducible apply Touch.via (qPause_touch _ _ _)
    | with_reducible apply Touch.via (qUnpause_touch _ _ _)
    | with_reducible apply Touch.via (qFlush_touch _ _ _)
    | with_reducible apply Touch.via (mailboxPost_touch _ _ _ _)
    | with_reducible apply Touch.via (routeWrite_touch _ _ _)
    | with_reducible apply Touch.via (timeStep_touch _ _)
    | with_reducible apply Touch.via (timeRearm_touch _ _)
    | with_reducible apply Touch.via (timRateWrite_touch _ _ _)
    | with_reducible apply Touch.via (ptmTrigger_touch _ _)
    | with_reducible refine Touch.forUpTo ?_ ?_
    | with_reducible refine Touch.setReg ?_ ?_
    | (simp only [Touch.mk_eq]; with_reducible refine TouchMk.intro ?_)
    | intro _
    | split

theorem dbgreqWrite_touch (a1 : Requester) (a2 : Nat) (a3 : State) : Touch 0xfffffffffffffffffff9afffffffffffffffffffffffffffffffffffffffffffffffffffffffffffffffffffffffffffffffffffff a3 (dbgreqWrite a1 a2 a3) := by
  unfold dbgreqWrite
  repeat' first
    | with_reducible exact Touch.refl _ _
    | ((with_reducible refine Eq.symm ?_); exact rfl)
    | with_reducible refine Touch.ite ?_ ?_
    | with_reducible apply Touch.via (denyWrite_touch _ _ _ _ _)
    | with_reducible apply Touch.via (dbgreqHold_touch _ _ _)
    | with_reducible apply Touch.via (dbgreqPulse_touch _ _)

theorem pioLockWrite_touch (a1 : Requester) (a2 : Nat) (a3 : State) : Touch 0x410200000000000000000301000000a0000000000000000000c0000000000000000000000000000000000000000000000000000000 a3 (pioLockWrite a1 a2 a3) := by
  unfold pioLockWrite
  repeat' first
    | with_reducible exact Touch.refl _ _
    | ((with_reducible refine Eq.symm ?_); exact rfl)
    | with_reducible refine Touch.ite ?_ ?_
    | with_reducible apply Touch.via (pioLock_touch _ _)
    | with_reducible apply Touch.via (pioLockKey_touch _ _ _)

theorem cmdWriteC_touch (rq : Requester) (r : Reg) (i v : Nat) (s : State) : TouchSome 0xfffffffffffffffffff9afffffffffffffffffffffffffffffffffffffffffffffffffffffffffffffffffffffffffffffffffffff s (cmdWriteC rq r i v s) := by
  unfold cmdWriteC
  split
  all_goals first | exact TouchSome.none | refine TouchSome.some ?_
  all_goals repeat' first
    | with_reducible exact Touch.refl _ _
    | ((with_reducible refine Eq.symm ?_); exact rfl)
    | with_reducible refine Touch.ite ?_ ?_
    | with_reducible apply Touch.via (mbxGo_touch _ _ _)
    | with_reducible apply Touch.via (noCommand_touch _ _ _ _ _)
    | with_reducible apply Touch.via (ctiPulseWrite_touch _ _ _)
    | with_reducible apply Touch.via (loadStandby_touch _ _)
    | with_reducible apply Touch.via (switchProctor_touch _ _)
    | with_reducible apply Touch.via (reload_touch _ _ _)
    | with_reducible apply Touch.via (clsFollow_touch _ _ _)
    | with_reducible apply Touch.via (clsCommit_touch _ _ _)
    | with_reducible apply Touch.via (clsCancel_touch _ _ _)
    | with_reducible apply Touch.via (selftest_touch _ _ _ _)
    | with_reducible apply Touch.via (enrol_touch _ _ _ _)
    | with_reducible apply Touch.via (eccStart_touch _ _)
    | with_reducible apply Touch.via (swReq_touch _ _ _)
    | with_reducible apply Touch.via (dbgreqWrite_touch _ _ _)
    | with_reducible apply Touch.via (rstUnitWrite_touch _ _ _ _)
    | with_reducible apply Touch.via (dwdogCfg_touch _ _ _)
    | with_reducible apply Touch.via (dwdogKick_touch _ _ _)
    | with_reducible apply Touch.via (pwrRecess_touch _ _)
    | with_reducible apply Touch.via (pwrWake_touch _ _)
    | with_reducible apply Touch.via (pinCfgWrite_touch _ _ _ _)
    | with_reducible apply Touch.via (pioLockWrite_touch _ _ _)
    | with_reducible apply Touch.via (pioFuseCmd_touch _ _ _ _)
    | with_reducible apply Touch.via (stepTargetWrite_touch _ _ _)
    | split

theorem cmdWrite_ok {rq : Requester} {r : Reg} {i v : Nat} {s t : State} (h : cmdWrite rq r i v s = some t) : Touch 0xfffffffffffffffffff9afffffffffffffffffffffffffffffffffffffffffffffffffffffffffffffffffffffffffffffffffffff s t := by
  unfold cmdWrite at h
  have a := cmdWriteA_touch rq r i v s
  have b := cmdWriteB_touch rq r i v s
  have c := cmdWriteC_touch rq r i v s
  generalize cmdWriteA rq r i v s = x at h a
  generalize cmdWriteB rq r i v s = y at h b
  generalize cmdWriteC rq r i v s = z at h c
  cases x with
  | some x => exact (a.of t h).mono (by rfl)
  | none =>
    cases y with
    | some y => exact (b.of t h).mono (by rfl)
    | none => exact (c.of t h).mono (by rfl)

theorem stagedWrite_touch (rq : Requester) (r : Reg) (i v : Nat) (s : State) (h : Nat.testBit 0xfffffffffffffffffff9afffffffffffffffffffffffffffffffffffffffffffffffffffffffffffffffffffffffffffffffffffff r.ctorIdx = true) :
    Touch 0xfffffffffffffffffff9afffffffffffffffffffffffffffffffffffffffffffffffffffffffffffffffffffffffffffffffffffff s (stagedWrite rq r i v s) := by
  unfold stagedWrite
  split
  · exact (cfgNextWrite_touch _ _ _).mono (by rfl)
  · exact (tempoNextWrite_touch _ _ _).mono (by rfl)
  · exact (actionNextWrite_touch _ _ _).mono (by rfl)
  · exact (probeWrite_touch _ _ _ _).mono (by rfl)
  · exact (tagWrite_touch _ _ _ _ _).mono (by rfl)
  · exact (tagWrite_touch _ _ _ _ _).mono (by rfl)
  · exact (regStore_touch rq r i v s h)

theorem regWrite_touch (rq : Requester) (r : Reg) (i v : Nat) (s : State) : Touch 0xfffffffffffffffffff9afffffffffffffffffffffffffffffffffffffffffffffffffffffffffffffffffffffffffffffffffffff s (regWrite rq r i v s) := by
  unfold regWrite
  refine Touch.trans ((okResp_touch 0 s).mono (by rfl)) ?_
  generalize okResp 0 s = t
  refine Touch.ite (Touch.refl _ _) ?_
  generalize hx : cmdWrite rq r i v t = x
  cases x with
  | some u => exact (cmdWrite_ok hx).mono (by rfl)
  | none =>
    by_cases hw : writable r.masks = 0
    · dsimp only
      rw [if_pos hw]
      exact Touch.refl _ _
    · dsimp only
      rw [if_neg hw]
      exact Touch.ite ((denyWrite_touch _ _ _ _ _).mono (by rfl)) (stagedWrite_touch _ _ _ _ _ ((writable_bit r).resolve_left hw))

end Machine
end Sys2Proof
end

