-- ==== Sys2Proof/Laws/TouchExecAccess.lean ====
section
/-! SUPPORT. What each operation of Machine/ExecAccess.lean leaves alone. -/
set_option linter.unusedVariables false
set_option Elab.async false
namespace Sys2Proof
namespace Machine

theorem execRegisterWrite_touch (a1 : Requester) (a2 : Reg) (a3 : Nat) (a4 : Word) (a5 : State) : ∃ t, execRegisterWrite a1 a2 a3 a4 a5 = .next t ∧ Touch 0xfffffffffffffffffff9afffffffffffffffffffffffffffffffffffffffffffffffffffffffffffffffffffffffffffffffffffff a5 t := by
  refine ⟨_, rfl, ?_⟩
  repeat' first
    | with_reducible exact Touch.refl _ _
    | ((with_reducible refine Eq.symm ?_); exact rfl)
    | with_reducible apply Touch.via (regWrite_touch _ _ _ _ _)

theorem execRclRead_touch (a1 : Requester) (a2 : Reg) (a3 : Nat) (a4 : Bool) (a5 : State) : ∃ t, execRclRead a1 a2 a3 a4 a5 = .next t ∧ Touch 0xfffffffffffffffffff9afffffffffffffffffffffffffffffffffffffffffffffffffffffffffffffffffffffffffffffffffffff a5 t := by
  refine ⟨_, rfl, ?_⟩
  repeat' first
    | with_reducible exact Touch.refl _ _
    | ((with_reducible refine Eq.symm ?_); exact rfl)
    | with_reducible apply Touch.via (regRead_touch _ _ _ _ _)

theorem execLatchingRead_touch (a1 : Requester) (a2 : Reg) (a3 : Nat) (a4 : Bool) (a5 : State) : ∃ t, execLatchingRead a1 a2 a3 a4 a5 = .next t ∧ Touch 0xfffffffffffffffffff9afffffffffffffffffffffffffffffffffffffffffffffffffffffffffffffffffffffffffffffffffffff a5 t := by
  refine ⟨_, rfl, ?_⟩
  repeat' first
    | with_reducible exact Touch.refl _ _
    | ((with_reducible refine Eq.symm ?_); exact rfl)
    | with_reducible apply Touch.via (regRead_touch _ _ _ _ _)

theorem execRouteTableWrite_touch (a1 : Requester) (a2 : Word) (a3 : State) : ∃ t, execRouteTableWrite a1 a2 a3 = .next t ∧ Touch 0xd00200000000000000000000000000a0000000000000000000c0000000000000000000000000000000000000000000000000000000 a3 t := by
  refine ⟨_, rfl, ?_⟩
  repeat' first
    | with_reducible exact Touch.refl _ _
    | ((with_reducible refine Eq.symm ?_); exact rfl)
    | with_reducible apply Touch.via (routeWrite_touch _ _ _)

end Machine
end Sys2Proof
end

