-- ==== Sys2Proof/Laws/TouchExecDebug.lean ====
section
/-! SUPPORT. What each operation of Machine/ExecDebug.lean leaves alone. -/
set_option linter.unusedVariables false
set_option Elab.async false
namespace Sys2Proof
namespace Machine

theorem execMbxGo_touch (a1 : Requester) (a2 : BitVec 11) (a3 : State) : ∃ t, execMbxGo a1 a2 a3 = .next t ∧ Touch 0x400200000000000000000000020000a0000000300000000000c0000000000000000000000000000000000000000000000000000000 a3 t := by
  refine ⟨_, rfl, ?_⟩
  repeat' first
    | with_reducible exact Touch.refl _ _
    | ((with_reducible refine Eq.symm ?_); exact rfl)
    | with_reducible apply Touch.via (mbxGo_touch _ _ _)

theorem execHallPassExpiry_touch (a1 : State) : ∃ t, execHallPassExpiry a1 = .next t ∧ Touch 0x801a80000000000000000000000000000000e0000000000000c000000000000000000000f020000000000000000000000000000000 a1 t := by
  refine ⟨_, rfl, ?_⟩
  repeat' first
    | with_reducible exact Touch.refl _ _
    | ((with_reducible refine Eq.symm ?_); exact rfl)
    | with_reducible apply Touch.via (hallPassExpiry_touch _)

theorem execCoreHalt_touch (a1 : Fin 64) (a2 : BitVec 64) (a3 : Priv) (a4 : Bool) (a5 : State) : ∃ t, execCoreHalt a1 a2 a3 a4 a5 = .next t ∧ Touch 0xc81e80000000000000000000020001e0000061000000000100c002440880000000000000300000000000018000f800000000000000 a5 t := by
  refine ⟨_, rfl, ?_⟩
  repeat' first
    | with_reducible exact Touch.refl _ _
    | ((with_reducible refine Eq.symm ?_); exact rfl)
    | with_reducible apply Touch.via (coreHalt_touch _ _ _ _ _)

theorem execComparatorMatch_touch (a1 : Fin 64) (a2 : Priv) (a3 : BitVec 16) (a4 : BitVec 64) (a5 : Option CoreAcc) (a6 : State) : ∃ t, execComparatorMatch a1 a2 a3 a4 a5 a6 = .next t ∧ Touch 0x8818800000000000000000000000000000006100000000000000000000000000000000000000000000000000000000000000000000 a6 t := by
  refine ⟨_, rfl, ?_⟩
  repeat' first
    | with_reducible exact Touch.refl _ _
    | ((with_reducible refine Eq.symm ?_); exact rfl)
    | with_reducible apply Touch.via (comparatorMatch_touch _ _ _ _ _ _)

theorem execCtiPulse_touch (a1 : State) : ∃ t, execCtiPulse a1 = .next t ∧ Touch 0x881ae000000000000000000000000000000061000000000000c000000000000000000000c220000000000000000004000000000400 a1 t := by
  refine ⟨_, rfl, ?_⟩
  repeat' first
    | with_reducible exact Touch.refl _ _
    | ((with_reducible refine Eq.symm ?_); exact rfl)
    | with_reducible apply Touch.via (ctiPulse_touch _)

theorem execDbgCtiPulseWrite_touch (a1 : Requester) (a2 : BitVec 16) (a3 : State) : ∃ t, execDbgCtiPulseWrite a1 a2 a3 = .next t ∧ Touch 0x401200000000000000000000000000a0000000000000000000c0000000000000000000000000000000000000000000000000000000 a3 t := by
  refine ⟨_, rfl, ?_⟩
  repeat' first
    | with_reducible exact Touch.refl _ _
    | ((with_reducible refine Eq.symm ?_); exact rfl)
    | with_reducible apply Touch.via (ctiPulseWrite_touch _ _ _)

end Machine
end Sys2Proof
end

