-- ==== Sys2Proof/Laws/TouchExecFollow.lean ====
section
/-! SUPPORT. What each operation of Machine/ExecFollow.lean leaves alone. -/
set_option linter.unusedVariables false
set_option Elab.async false
namespace Sys2Proof
namespace Machine

theorem execSubFollow_touch (a1 : Requester) (a2 : Fin 256) (a3 : BitVec 9) (a4 : BitVec 4) (a5 : State) : ∃ t, execSubFollow a1 a2 a3 a4 a5 = .next t ∧ Touch 0x400208000000000000000000000000a0000000000000000000c0000000000000000000000000000000000000000000000000000005 a5 t := by
  refine ⟨_, rfl, ?_⟩
  repeat' first
    | with_reducible exact Touch.refl _ _
    | ((with_reducible refine Eq.symm ?_); exact rfl)
    | with_reducible apply Touch.via (subFollow_touch _ _ _ _ _)

theorem execSubCommit_touch (a1 : Requester) (a2 : Fin 256) (a3 : State) : ∃ t, execSubCommit a1 a2 a3 = .next t ∧ Touch 0x400608000000000000000000000001e0000000000000000000c0000000000000000000000000000000000000000000000000000105 a3 t := by
  refine ⟨_, rfl, ?_⟩
  repeat' first
    | with_reducible exact Touch.refl _ _
    | ((with_reducible refine Eq.symm ?_); exact rfl)
    | with_reducible apply Touch.via (subCommit_touch _ _ _)

theorem execSubCancel_touch (a1 : Requester) (a2 : Fin 256) (a3 : State) : ∃ t, execSubCancel a1 a2 a3 = .next t ∧ Touch 0x400208000000000000000000000000a0000000000000000000c0000000000000000000000000000000000000000000000000000005 a3 t := by
  refine ⟨_, rfl, ?_⟩
  repeat' first
    | with_reducible exact Touch.refl _ _
    | ((with_reducible refine Eq.symm ?_); exact rfl)
    | with_reducible apply Touch.via (subCancel_touch _ _ _)

theorem execFollowCopyDone_touch (a1 : Fin 256) (a2 : Bool) (a3 : State) : ∃ t, execFollowCopyDone a1 a2 a3 = .next t ∧ Touch 0x4080000000000000000000000000002000000000000000000000000000000000000000000000000000000000000000000000005 a3 t := by
  refine ⟨_, rfl, ?_⟩
  repeat' first
    | with_reducible exact Touch.refl _ _
    | ((with_reducible refine Eq.symm ?_); exact rfl)
    | with_reducible apply Touch.via (followCopyDone_touch _ _ _)

theorem execClsFollow_touch (a1 : Requester) (a2 : Fin 256) (a3 : State) : ∃ t, execClsFollow a1 a2 a3 = .next t ∧ Touch 0x400600000000000000000000000000a0020000000000000000c0000000000000000000000000000000000000000000000000000000 a3 t := by
  refine ⟨_, rfl, ?_⟩
  repeat' first
    | with_reducible exact Touch.refl _ _
    | ((with_reducible refine Eq.symm ?_); exact rfl)
    | with_reducible apply Touch.via (clsFollow_touch _ _ _)

theorem execClsCommit_touch (a1 : Requester) (a2 : Fin 256) (a3 : State) : ∃ t, execClsCommit a1 a2 a3 = .next t ∧ Touch 0x400688000000000000000000000001e0020000000000000000c000000000000000000000000000000000000000000000000000013d a3 t := by
  refine ⟨_, rfl, ?_⟩
  repeat' first
    | with_reducible exact Touch.refl _ _
    | ((with_reducible refine Eq.symm ?_); exact rfl)
    | with_reducible apply Touch.via (clsCommit_touch _ _ _)

theorem execClsCancel_touch (a1 : Requester) (a2 : Fin 256) (a3 : State) : ∃ t, execClsCancel a1 a2 a3 = .next t ∧ Touch 0x400600000000000000000000000000a0020000000000000000c0000000000000000000000000000000000000000000000000000000 a3 t := by
  refine ⟨_, rfl, ?_⟩
  repeat' first
    | with_reducible exact Touch.refl _ _
    | ((with_reducible refine Eq.symm ?_); exact rfl)
    | with_reducible apply Touch.via (clsCancel_touch _ _ _)

end Machine
end Sys2Proof
end

