-- ==== Sys2Proof/Laws/TouchExecFreeze.lean ====
section
/-! SUPPORT. What each operation of Machine/ExecFreeze.lean leaves alone. -/
set_option linter.unusedVariables false
set_option Elab.async false
namespace Sys2Proof
namespace Machine

theorem execFreezeRegistration_touch (a1 : Fin 16) (a2 : Fin 2) (a3 : State) : ∃ t, execFreezeRegistration a1 a2 a3 = .next t ∧ Touch 0x220440000000000000000000000000000000000000000000000000000000000000000000000000000000000000104000000000000 a3 t := by
  refine ⟨_, rfl, ?_⟩
  repeat' first
    | with_reducible exact Touch.refl _ _
    | ((with_reducible refine Eq.symm ?_); exact rfl)
    | with_reducible apply Touch.via (freezeRegistration_touch _ _ _)

theorem execLateItemArrival_touch (a1 : Fin 16) (a2 : Fin 2) (a3 : Fin 13) (a4 : Fin 2048) (a5 : State) : ∃ t, execLateItemArrival a1 a2 a3 a4 a5 = .next t ∧ Touch 0x600000000000000000000000000000000000000000000000000000000000000000000000000000000000000004000000000000 a5 t := by
  refine ⟨_, rfl, ?_⟩
  repeat' first
    | with_reducible exact Touch.refl _ _
    | ((with_reducible refine Eq.symm ?_); exact rfl)
    | with_reducible apply Touch.via (lateItem_touch _ _ _ _ _)

theorem execBridgeControlWordRx_touch (a1 : Fin 2) (a2 : BitVec 64) (a3 : BitVec 16) (a4 : State) : ∃ t, execBridgeControlWordRx a1 a2 a3 a4 = .next t ∧ Touch 0x800ae000000000000000000000000000000060000000000000c00000000000000000000000000000008a00000001bc800000000400 a4 t := by
  refine ⟨_, rfl, ?_⟩
  repeat' first
    | with_reducible exact Touch.refl _ _
    | ((with_reducible refine Eq.symm ?_); exact rfl)
    | with_reducible apply Touch.via (bridgeWord_touch _ _ _ _)

theorem execBridgeFreezeMsg_touch (a1 : Fin 2) (a2 : BitVec 16) (a3 : BitVec 18) (a4 : State) : ∃ t, execBridgeFreezeMsg a1 a2 a3 a4 = .next t ∧ Touch 0x400000000000000000000000000000000000000000000000000000000000000000000000000000000000000004000000000000 a4 t := by
  refine ⟨_, rfl, ?_⟩
  repeat' first
    | with_reducible exact Touch.refl _ _
    | ((with_reducible refine Eq.symm ?_); exact rfl)
    | with_reducible apply Touch.via (bridgeFreeze_touch _ _ _ _)

theorem execBridgeClearMsg_touch (a1 : Fin 2) (a2 : BitVec 16) (a3 : State) : ∃ t, execBridgeClearMsg a1 a2 a3 = .next t ∧ Touch 0x400000000000000000000000000000000000000000000000000000000000000000000000000000000000000104000000000000 a3 t := by
  refine ⟨_, rfl, ?_⟩
  repeat' first
    | with_reducible exact Touch.refl _ _
    | ((with_reducible refine Eq.symm ?_); exact rfl)
    | with_reducible apply Touch.via (bridgeClear_touch _ _ _)

theorem execBridgeResumeMsg_touch (a1 : Fin 2) (a2 : BitVec 16) (a3 : BitVec 18) (a4 : State) : ∃ t, execBridgeResumeMsg a1 a2 a3 a4 = .next t ∧ Touch 0x400000000000000000000000000000000000000000000000000000000000000000000000000000000000000004000000000000 a4 t := by
  refine ⟨_, rfl, ?_⟩
  repeat' first
    | with_reducible exact Touch.refl _ _
    | ((with_reducible refine Eq.symm ?_); exact rfl)
    | with_reducible apply Touch.via (bridgeResume_touch _ _ _ _)

end Machine
end Sys2Proof
end

