-- ==== Sys2Proof/Laws/TouchExecHif.lean ====
section
/-! SUPPORT. What each operation of Machine/ExecHif.lean leaves alone. -/
set_option linter.unusedVariables false
set_option Elab.async false
namespace Sys2Proof
namespace Machine

theorem execVfFlr_touch (a1 : Fin 64) (a2 : State) : ∃ t, execVfFlr a1 a2 = .next t ∧ Touch 0xcdeef8000000000000300001020001e0020060000000000120cf0244088421006000c004300000a3c0fa4d8408f9047e10000e1605 a2 t := by
  refine ⟨_, rfl, ?_⟩
  repeat' first
    | with_reducible exact Touch.refl _ _
    | ((with_reducible refine Eq.symm ?_); exact rfl)
    | with_reducible apply Touch.via (vfFlr_touch _ _)

theorem execPfFlr_touch (a1 : State) : ∃ t, execPfFlr a1 = .next t ∧ Touch 0x200000000000000000000000000000000000000000000000ff80000000000000000000000000000000000000000000000000000 a1 t := by
  refine ⟨_, rfl, ?_⟩
  repeat' first
    | with_reducible exact Touch.refl _ _
    | ((with_reducible refine Eq.symm ?_); exact rfl)
    | with_reducible apply Touch.via (hifReset_touch _)

theorem execHotReset_touch (a1 : State) : ∃ t, execHotReset a1 = .next t ∧ Touch 0x200000000000000000000000000000000000000000000000ff80000000000000000000000000000000000000000000000000000 a1 t := by
  refine ⟨_, rfl, ?_⟩
  repeat' first
    | with_reducible exact Touch.refl _ _
    | ((with_reducible refine Eq.symm ?_); exact rfl)
    | with_reducible apply Touch.via (hifReset_touch _)

theorem execLinkDown_touch (a1 : State) : ∃ t, execLinkDown a1 = .next t ∧ Touch 0x200000000000000000000000000000000000000000000000ffc0000000000000000000000000000000000000000000000000000 a1 t := by
  refine ⟨_, rfl, ?_⟩
  repeat' first
    | with_reducible exact Touch.refl _ _
    | ((with_reducible refine Eq.symm ?_); exact rfl)
    | with_reducible apply Touch.via (linkDown_touch _)

theorem execMsixUnmask_touch (a1 : Fin 64) (a2 : BitVec 11) (a3 : State) : ∃ t, execMsixUnmask a1 a2 a3 = .next t ∧ Touch 0x2000000000000000000000000000000000000000000000000000000000000000000000000000000000000000000000000000000 a3 t := by
  refine ⟨_, rfl, ?_⟩
  repeat' first
    | with_reducible exact Touch.refl _ _
    | ((with_reducible refine Eq.symm ?_); exact rfl)
    | with_reducible apply Touch.via (msixUnmask_touch _ _ _)

theorem execConfigurationSpaceWrite_touch (a1 : Bool) (a2 : Bool) (a3 : State) : ∃ t, execConfigurationSpaceWrite a1 a2 a3 = .next t ∧ Touch 0x2000000000000000000000000000000000000000000000000000000000000000000000000000000000000000000000000000000 a3 t := by
  refine ⟨_, rfl, ?_⟩
  repeat' first
    | with_reducible exact Touch.refl _ _
    | ((with_reducible refine Eq.symm ?_); exact rfl)
    | with_reducible apply Touch.via (configWrite_touch _ _ _)

end Machine
end Sys2Proof
end

