-- ==== Sys2Proof/Laws/TouchExecKeys.lean ====
section
/-! SUPPORT. What each operation of Machine/ExecKeys.lean leaves alone. -/
set_option linter.unusedVariables false
set_option Elab.async false
namespace Sys2Proof
namespace Machine

theorem execKeyProgram_touch (a1 : Requester) (a2 : BitVec 4) (a3 : State) : ∃ t, execKeyProgram a1 a2 a3 = .next t ∧ Touch 0x440200000000000000000000000000a0000000000000000000c0000000000000000000000000050000000000000000000000000000 a3 t := by
  refine ⟨_, rfl, ?_⟩
  repeat' first
    | with_reducible exact Touch.refl _ _
    | ((with_reducible refine Eq.symm ?_); exact rfl)
    | with_reducible apply Touch.via (keyProgram_touch _ _ _)

theorem execKeyRevoke_touch (a1 : Requester) (a2 : BitVec 4) (a3 : State) : ∃ t, execKeyRevoke a1 a2 a3 = .next t ∧ Touch 0x440200000000000000000000000000a0000000000000000000c0000000000000000000000000050000000000000000000000000000 a3 t := by
  refine ⟨_, rfl, ?_⟩
  repeat' first
    | with_reducible exact Touch.refl _ _
    | ((with_reducible refine Eq.symm ?_); exact rfl)
    | with_reducible apply Touch.via (keyRevoke_touch _ _ _)

theorem execKeyClear_touch (a1 : Requester) (a2 : BitVec 4) (a3 : State) : ∃ t, execKeyClear a1 a2 a3 = .next t ∧ Touch 0x440200000000000000000000000000a0000000000000000000c0000000000000000000000000050000000000000000000000000000 a3 t := by
  refine ⟨_, rfl, ?_⟩
  repeat' first
    | with_reducible exact Touch.refl _ _
    | ((with_reducible refine Eq.symm ?_); exact rfl)
    | with_reducible apply Touch.via (keyClear_touch _ _ _)

theorem execVbatLoss_touch (a1 : State) : ∃ t, execVbatLoss a1 = .next t ∧ Touch 0x85eef800000000000030000102000140020060000000000020c00000000421006000c004300001a3c0fa4c040809047e10000e1605 a1 t := by
  refine ⟨_, rfl, ?_⟩
  repeat' first
    | with_reducible exact Touch.refl _ _
    | ((with_reducible refine Eq.symm ?_); exact rfl)
    | with_reducible apply Touch.via (vbatLoss_touch _)

theorem execLcAdvance_touch (a1 : Requester) (a2 : State) : ∃ t, execLcAdvance a1 a2 = .next t ∧ Touch 0x440200000000000000000000000000a0000000000000000000c0000000000000000000000000110000000000000000000000000000 a2 t := by
  refine ⟨_, rfl, ?_⟩
  repeat' first
    | with_reducible exact Touch.refl _ _
    | ((with_reducible refine Eq.symm ?_); exact rfl)
    | with_reducible apply Touch.via (lcAdvance_touch _ _)

theorem execRkProgram_touch (a1 : Requester) (a2 : BitVec 2) (a3 : State) : ∃ t, execRkProgram a1 a2 a3 = .next t ∧ Touch 0x440200000000000000000000000000a0000000000000000000c0000000000000000000000000a10000000000000000000000000000 a3 t := by
  refine ⟨_, rfl, ?_⟩
  repeat' first
    | with_reducible exact Touch.refl _ _
    | ((with_reducible refine Eq.symm ?_); exact rfl)
    | with_reducible apply Touch.via (rkProgram_touch _ _ _)

theorem execRkRevoke_touch (a1 : Requester) (a2 : BitVec 2) (a3 : State) : ∃ t, execRkRevoke a1 a2 a3 = .next t ∧ Touch 0x440200000000000000000000000000a0000000000000000000c0000000000000000000000000a10000000000000000000000000000 a3 t := by
  refine ⟨_, rfl, ?_⟩
  repeat' first
    | with_reducible exact Touch.refl _ _
    | ((with_reducible refine Eq.symm ?_); exact rfl)
    | with_reducible apply Touch.via (rkRevoke_touch _ _ _)

theorem execSvnAdvance_touch (a1 : Requester) (a2 : BitVec 8) (a3 : State) : ∃ t, execSvnAdvance a1 a2 a3 = .next t ∧ Touch 0x440200000000000000000000000000a0000000000000000000c0000000000000000000000001010000000000000000000000000000 a3 t := by
  refine ⟨_, rfl, ?_⟩
  repeat' first
    | with_reducible exact Touch.refl _ _
    | ((with_reducible refine Eq.symm ?_); exact rfl)
    | with_reducible apply Touch.via (svnAdvance_touch _ _ _)

end Machine
end Sys2Proof
end

