-- ==== Sys2Proof/Laws/TouchExecLinks.lean ====
section
/-! SUPPORT. What each operation of Machine/ExecLinks.lean leaves alone. -/
set_option linter.unusedVariables false
set_option Elab.async false
namespace Sys2Proof
namespace Machine

theorem execChFreeze_touch (a1 : Fin 16) (a2 : Fin 8) (a3 : BitVec 8) (a4 : BitVec 48) (a5 : BitVec 13) (a6 : State) : ∃ t, execChFreeze a1 a2 a3 a4 a5 a6 = .next t ∧ Touch 0x426000000000000000000000000000000000000000000000c00000000000000000000000000000008a0000000084000000000000 a6 t := by
  refine ⟨_, rfl, ?_⟩
  repeat' first
    | with_reducible exact Touch.refl _ _
    | ((with_reducible refine Eq.symm ?_); exact rfl)
    | with_reducible apply Touch.after (whileAlive_touch ?_ _ _ _ ?_)
    | with_reducible apply Touch.after (chainMsg_touch ?_ _ _ _ _ _ ?_)
    | with_reducible apply Touch.via (chFreeze_touch _ _ _ _ _)
    | intro _

theorem execChFrozen_touch (a1 : Fin 16) (a2 : Fin 8) (a3 : BitVec 8) (a4 : BitVec 48) (a5 : BitVec 13) (a6 : State) : ∃ t, execChFrozen a1 a2 a3 a4 a5 a6 = .next t ∧ Touch 0x426000000000000000000000000000000000000000000000c00000000000000000000000000000008a0000000180000000000000 a6 t := by
  refine ⟨_, rfl, ?_⟩
  repeat' first
    | with_reducible exact Touch.refl _ _
    | ((with_reducible refine Eq.symm ?_); exact rfl)
    | with_reducible apply Touch.after (whileAlive_touch ?_ _ _ _ ?_)
    | with_reducible apply Touch.after (chainMsg_touch ?_ _ _ _ _ _ ?_)
    | with_reducible apply Touch.via (chFrozen_touch _ _ _ _ _)
    | intro _

theorem execChClear_touch (a1 : Fin 16) (a2 : Fin 8) (a3 : BitVec 8) (a4 : State) : ∃ t, execChClear a1 a2 a3 a4 = .next t ∧ Touch 0x426000000000000000000000000000000000000000000000c00000000000000000000000000000008a0000000180000000000000 a4 t := by
  refine ⟨_, rfl, ?_⟩
  repeat' first
    | with_reducible exact Touch.refl _ _
    | ((with_reducible refine Eq.symm ?_); exact rfl)
    | with_reducible apply Touch.after (whileAlive_touch ?_ _ _ _ ?_)
    | with_reducible apply Touch.after (chainMsg_touch ?_ _ _ _ _ _ ?_)
    | with_reducible apply Touch.via (chClear_touch _ _ _)
    | intro _

theorem execChResume_touch (a1 : Fin 16) (a2 : Fin 8) (a3 : BitVec 8) (a4 : BitVec 48) (a5 : BitVec 13) (a6 : BitVec 32) (a7 : State) : ∃ t, execChResume a1 a2 a3 a4 a5 a6 a7 = .next t ∧ Touch 0x426000000000000000000000000000000000000000000000c00000000000000000000000000000008a0000000180000000000000 a7 t := by
  refine ⟨_, rfl, ?_⟩
  repeat' first
    | with_reducible exact Touch.refl _ _
    | ((with_reducible refine Eq.symm ?_); exact rfl)
    | with_reducible apply Touch.after (whileAlive_touch ?_ _ _ _ ?_)
    | with_reducible apply Touch.after (chainMsg_touch ?_ _ _ _ _ _ ?_)
    | with_reducible apply Touch.via (chResume_touch _ _ _ _ _ _ _)
    | intro _

theorem execStepClockChange_touch (a1 : State) : ∃ t, execStepClockChange a1 = .next t ∧ Touch 0x824000000000000030000000000000000000000000000000c0000000000000000000000000000000000000000004000000000000 a1 t := by
  refine ⟨_, rfl, ?_⟩
  repeat' first
    | with_reducible exact Touch.refl _ _
    | ((with_reducible refine Eq.symm ?_); exact rfl)
    | with_reducible apply Touch.via (stepClockChange_touch _)

theorem execClkchgWindowExpiry_touch (a1 : State) : ∃ t, execClkchgWindowExpiry a1 = .next t ∧ Touch 0x220440000000000000000000000000000000000000000000000000000000000000000000000000000000000000004000000000000 a1 t := by
  refine ⟨_, rfl, ?_⟩
  repeat' first
    | with_reducible exact Touch.refl _ _
    | ((with_reducible refine Eq.symm ?_); exact rfl)
    | with_reducible apply Touch.via (clkchgExpiry_touch _)

theorem execStepPllLock_touch (a1 : State) : ∃ t, execStepPllLock a1 = .next t ∧ Touch 0x80000000000000000000000000000000000000000000000000000000000000000000000000000000000000000000000000000000 a1 t := by
  refine ⟨_, rfl, ?_⟩
  repeat' first
    | with_reducible exact Touch.refl _ _
    | ((with_reducible refine Eq.symm ?_); exact rfl)
    | with_reducible apply Touch.via (stepPllLock_touch _)

theorem execGlbStepTargetWrite_touch (a1 : Requester) (a2 : BitVec 32) (a3 : State) : ∃ t, execGlbStepTargetWrite a1 a2 a3 = .next t ∧ Touch 0x40c200000000000000380000020000a0000000000000000000c0000000000000000000000000000000000000000000000000000000 a3 t := by
  refine ⟨_, rfl, ?_⟩
  repeat' first
    | with_reducible exact Touch.refl _ _
    | ((with_reducible refine Eq.symm ?_); exact rfl)
    | with_reducible apply Touch.via (stepTargetWrite_touch _ _ _)

theorem execLaneLock_touch (a1 : Fin 68) (a2 : Fin 17) (a3 : State) : ∃ t, execLaneLock a1 a2 a3 = .next t ∧ Touch 0x80000000000000000000000000000000000000000000000 a3 t := by
  refine ⟨_, rfl, ?_⟩
  repeat' first
    | with_reducible exact Touch.refl _ _
    | ((with_reducible refine Eq.symm ?_); exact rfl)
    | with_reducible apply Touch.via (laneLock_touch _ _ _)

theorem execLaneLossOfLock_touch (a1 : Fin 68) (a2 : Fin 17) (a3 : State) : ∃ t, execLaneLossOfLock a1 a2 a3 = .next t ∧ Touch 0xc66000000000000030000002000140000000000000000000c00000000c20000000000000000000008a0000000004400000000000 a3 t := by
  refine ⟨_, rfl, ?_⟩
  repeat' first
    | with_reducible exact Touch.refl _ _
    | ((with_reducible refine Eq.symm ?_); exact rfl)
    | with_reducible apply Touch.via (laneLoss_touch _ _ _)

theorem execAm_touch (a1 : Fin 68) (a2 : BitVec 17) (a3 : List (Prod Nat Nat)) (a4 : BitVec 17) (a5 : State) : ∃ t, execAm a1 a2 a3 a4 a5 = .next t ∧ Touch 0xc66000000000000030000002000140000000000000000000c00000001c60000000000000000000008a0000000004400000000000 a5 t := by
  refine ⟨_, rfl, ?_⟩
  repeat' first
    | with_reducible exact Touch.refl _ _
    | ((with_reducible refine Eq.symm ?_); exact rfl)
    | with_reducible apply Touch.after (whileAlive_touch ?_ _ _ _ ?_)
    | with_reducible apply Touch.via (amRow_touch _ _ _ _ _)
    | intro _

theorem execAmPeriod_touch (a1 : Fin 68) (a2 : State) : ∃ t, execAmPeriod a1 a2 = .next t ∧ Touch 0x40000000000000000000000000000000000000000000000000000000000000000000000000000000000000000000000000000000 a2 t := by
  refine ⟨_, rfl, ?_⟩
  repeat' first
    | with_reducible exact Touch.refl _ _
    | ((with_reducible refine Eq.symm ?_); exact rfl)
    | with_reducible apply Touch.via (amPeriod_touch _ _)

theorem execTrainingPhaseDone_touch (a1 : Fin 68) (a2 : BitVec 32) (a3 : State) : ∃ t, execTrainingPhaseDone a1 a2 a3 = .next t ∧ Touch 0xc26000000000000030000002000000000000080000000000c00000000c20000000000000000000008a0000000004400000000000 a3 t := by
  refine ⟨_, rfl, ?_⟩
  repeat' first
    | with_reducible exact Touch.refl _ _
    | ((with_reducible refine Eq.symm ?_); exact rfl)
    | with_reducible apply Touch.via (trainingPhaseDone_touch _ _ _)

theorem execTrainingTimeout_touch (a1 : Fin 68) (a2 : State) : ∃ t, execTrainingTimeout a1 a2 = .next t ∧ Touch 0x40000000000000000000000000000000000000000000000000000000002000000000000000000000000000000000000000000000 a2 t := by
  refine ⟨_, rfl, ?_⟩
  repeat' first
    | with_reducible exact Touch.refl _ _
    | ((with_reducible refine Eq.symm ?_); exact rfl)
    | with_reducible apply Touch.via (trainingTimeout_touch _ _)

theorem execCrcBlock_touch (a1 : Fin 68) (a2 : BitVec 12) (a3 : Bool) (a4 : List Nat) (a5 : State) : ∃ t, execCrcBlock a1 a2 a3 a4 a5 = .next t ∧ Touch 0x40600000000000000000000000000000000000000000000000000000022c00000000000000000000000000000084000000000000 a5 t := by
  refine ⟨_, rfl, ?_⟩
  repeat' first
    | with_reducible exact Touch.refl _ _
    | ((with_reducible refine Eq.symm ?_); exact rfl)
    | with_reducible apply Touch.after (whileAlive_touch ?_ _ _ _ ?_)
    | with_reducible apply Touch.via (crcBlock_touch _ _ _ _ _)
    | intro _

theorem execReplay_touch (a1 : Fin 68) (a2 : BitVec 12) (a3 : State) : ∃ t, execReplay a1 a2 a3 = .next t ∧ Touch 0x40000000000000000000000000000000000000000000000000000000022000000000000000000000000000000000000000000000 a3 t := by
  refine ⟨_, rfl, ?_⟩
  repeat' first
    | with_reducible exact Touch.refl _ _
    | ((with_reducible refine Eq.symm ?_); exact rfl)
    | with_reducible apply Touch.after (whileAlive_touch ?_ _ _ _ ?_)
    | with_reducible apply Touch.via (replayMsg_touch _ _ _)
    | intro _

theorem execReplayTimeout_touch (a1 : Fin 68) (a2 : State) : ∃ t, execReplayTimeout a1 a2 = .next t ∧ Touch 0x40000000000000000000000000000000000000000000000000000000002000000000000000000000000000000000000000000000 a2 t := by
  refine ⟨_, rfl, ?_⟩
  repeat' first
    | with_reducible exact Touch.refl _ _
    | ((with_reducible refine Eq.symm ?_); exact rfl)
    | with_reducible apply Touch.via (replayTimeout_touch _ _)

theorem execCheckFrame_touch (a1 : Fin 2) (a2 : Fin 2) (a3 : BitVec 12) (a4 : BitVec 12) (a5 : BitVec 12) (a6 : Nat) (a7 : Option (Prod Nat Nat)) (a8 : State) : ∃ t, execCheckFrame a1 a2 a3 a4 a5 a6 a7 a8 = .next t ∧ Touch 0x804ae000000000000000000000000000000060000000000000c00000000220000000000000000000008a00000001bc800000000400 a8 t := by
  refine ⟨_, rfl, ?_⟩
  repeat' first
    | with_reducible exact Touch.refl _ _
    | ((with_reducible refine Eq.symm ?_); exact rfl)
    | with_reducible apply Touch.via (checkFrame_touch _ _ _ _ _ _ _ _)

theorem execLinkCap_touch (a1 : Fin 68) (a2 : BitVec 8) (a3 : BitVec 8) (a4 : BitVec 8) (a5 : BitVec 8) (a6 : BitVec 32) (a7 : State) : ∃ t, execLinkCap a1 a2 a3 a4 a5 a6 a7 = .next t ∧ Touch 0x40000000000000000000000000000000000000000000000000000000000200000000000000000000000000000000000000000000 a7 t := by
  refine ⟨_, rfl, ?_⟩
  repeat' first
    | with_reducible exact Touch.refl _ _
    | ((with_reducible refine Eq.symm ?_); exact rfl)
    | with_reducible apply Touch.after (whileAlive_touch ?_ _ _ _ ?_)
    | with_reducible apply Touch.via (linkCap_touch _ _ _ _ _ _ _)
    | intro _

theorem execLinkId_touch (a1 : Fin 68) (a2 : BitVec 48) (a3 : State) : ∃ t, execLinkId a1 a2 a3 = .next t ∧ Touch 0x40000000000000000000000000000000000000000000000000000000000000000000000000000000000000000000000000000000 a3 t := by
  refine ⟨_, rfl, ?_⟩
  repeat' first
    | with_reducible exact Touch.refl _ _
    | ((with_reducible refine Eq.symm ?_); exact rfl)
    | with_reducible apply Touch.after (whileAlive_touch ?_ _ _ _ ?_)
    | with_reducible apply Touch.via (linkId_touch _ _ _)
    | intro _

theorem execLinkEpoch_touch (a1 : Fin 8) (a2 : BitVec 16) (a3 : State) : ∃ t, execLinkEpoch a1 a2 a3 = .next t ∧ Touch 0x200000000000000000000000000000000000000000000 a3 t := by
  refine ⟨_, rfl, ?_⟩
  repeat' first
    | with_reducible exact Touch.refl _ _
    | ((with_reducible refine Eq.symm ?_); exact rfl)
    | with_reducible apply Touch.after (whileAlive_touch ?_ _ _ _ ?_)
    | with_reducible apply Touch.via (linkEpoch_touch _ _ _)
    | intro _

theorem execLinkDist_touch (a1 : Fin 8) (a2 : BitVec 8) (a3 : State) : ∃ t, execLinkDist a1 a2 a3 = .next t ∧ Touch 0x40000000000000000000000000000000000000000000000000000000000100000000000000000000000000000000000000000000 a3 t := by
  refine ⟨_, rfl, ?_⟩
  repeat' first
    | with_reducible exact Touch.refl _ _
    | ((with_reducible refine Eq.symm ?_); exact rfl)
    | with_reducible apply Touch.after (whileAlive_touch ?_ _ _ _ ?_)
    | with_reducible apply Touch.via (linkDist_touch _ _ _)
    | intro _

theorem execLinkDerate_touch (a1 : Fin 8) (a2 : BitVec 16) (a3 : State) : ∃ t, execLinkDerate a1 a2 a3 = .next t ∧ Touch 0xc26000000000000030000002000000000000000000000000c00000000421000000000000000000008a0000000004400000000000 a3 t := by
  refine ⟨_, rfl, ?_⟩
  repeat' first
    | with_reducible exact Touch.refl _ _
    | ((with_reducible refine Eq.symm ?_); exact rfl)
    | with_reducible apply Touch.after (whileAlive_touch ?_ _ _ _ ?_)
    | with_reducible apply Touch.via (linkDerate_touch _ _ _)
    | intro _

theorem execLinkSpare_touch (a1 : Fin 68) (a2 : Fin 17) (a3 : State) : ∃ t, execLinkSpare a1 a2 a3 = .next t ∧ Touch 0x40000000000000000000000000000000000000000000000000000000080000000000000000000000000000000000000000000000 a3 t := by
  refine ⟨_, rfl, ?_⟩
  repeat' first
    | with_reducible exact Touch.refl _ _
    | ((with_reducible refine Eq.symm ?_); exact rfl)
    | with_reducible apply Touch.after (whileAlive_touch ?_ _ _ _ ?_)
    | with_reducible apply Touch.via (linkSpare_touch _ _ _)
    | intro _

theorem execLinkRemap_touch (a1 : Fin 68) (a2 : State) : ∃ t, execLinkRemap a1 a2 = .next t ∧ Touch 0xc66000000000000030000002000140000000000000000000c00000000c20000000000000000000008a0000000004400000000000 a2 t := by
  refine ⟨_, rfl, ?_⟩
  repeat' first
    | with_reducible exact Touch.refl _ _
    | ((with_reducible refine Eq.symm ?_); exact rfl)
    | with_reducible apply Touch.via (linkRemap_touch _ _)

theorem execLinkProbe_touch (a1 : Fin 68) (a2 : BitVec 32) (a3 : State) : ∃ t, execLinkProbe a1 a2 a3 = .next t ∧ Touch 0x40000000000000000000000000000000000000000000000000000000000000000000000000000000000000000000000000000000 a3 t := by
  refine ⟨_, rfl, ?_⟩
  repeat' first
    | with_reducible exact Touch.refl _ _
    | ((with_reducible refine Eq.symm ?_); exact rfl)
    | with_reducible apply Touch.after (whileAlive_touch ?_ _ _ _ ?_)
    | with_reducible apply Touch.via (linkProbe_touch _ _ _)
    | intro _

theorem execLinkEcho_touch (a1 : Fin 68) (a2 : BitVec 32) (a3 : State) : ∃ t, execLinkEcho a1 a2 a3 = .next t ∧ Touch 0x40000000000000000000000000000000000000000000000000000000000000000000000000000000000000000000000000000000 a3 t := by
  refine ⟨_, rfl, ?_⟩
  repeat' first
    | with_reducible exact Touch.refl _ _
    | ((with_reducible refine Eq.symm ?_); exact rfl)
    | with_reducible apply Touch.after (whileAlive_touch ?_ _ _ _ ?_)
    | with_reducible apply Touch.via (linkEcho_touch _ _ _)
    | intro _

theorem execLinkSkip_touch (a1 : Fin 68) (a2 : State) : ∃ t, execLinkSkip a1 a2 = .next t ∧ Touch 0x2000000000000000000000000000000000000000000000 a2 t := by
  refine ⟨_, rfl, ?_⟩
  repeat' first
    | with_reducible exact Touch.refl _ _
    | ((with_reducible refine Eq.symm ?_); exact rfl)
    | with_reducible apply Touch.after (whileAlive_touch ?_ _ _ _ ?_)
    | with_reducible apply Touch.via (linkSkip_touch _ _)
    | intro _

theorem execLinkFcfg_touch (a1 : Fin 8) (a2 : State) : ∃ t, execLinkFcfg a1 a2 = .next t ∧ Touch 0x40000000000000000000000000000000000000000000000000000000000000000000000000000000000000000000000000000000 a2 t := by
  refine ⟨_, rfl, ?_⟩
  repeat' first
    | with_reducible exact Touch.refl _ _
    | ((with_reducible refine Eq.symm ?_); exact rfl)
    | with_reducible apply Touch.via (linkFcfg_touch _ _)

theorem execChainBell_touch (a1 : Fin 8) (a2 : BitVec 48) (a3 : State) : ∃ t, execChainBell a1 a2 a3 = .next t ∧ Touch 0x40200000000000000000000000000000000000000000000000000000000800000000000000000000000000000000000000000000 a3 t := by
  refine ⟨_, rfl, ?_⟩
  repeat' first
    | with_reducible exact Touch.refl _ _
    | ((with_reducible refine Eq.symm ?_); exact rfl)
    | with_reducible apply Touch.after (whileAlive_touch ?_ _ _ _ ?_)
    | with_reducible apply Touch.via (chainBell_touch _ _ _)
    | intro _

theorem execRframe_touch (a1 : Fin 8) (a2 : BitVec 48) (a3 : List Nat) (a4 : State) : ∃ t, execRframe a1 a2 a3 a4 = .next t ∧ Touch 0x40600000000000000000000000000000000000000000000000000000000400000000000000000000000000000004000000000000 a4 t := by
  refine ⟨_, rfl, ?_⟩
  repeat' first
    | with_reducible exact Touch.refl _ _
    | ((with_reducible refine Eq.symm ?_); exact rfl)
    | with_reducible apply Touch.after (whileAlive_touch ?_ _ _ _ ?_)
    | with_reducible apply Touch.via (rframe_touch _ _ _ _)
    | intro _

theorem execBulk_touch (a1 : Fin 8) (a2 : BitVec 16) (a3 : State) : ∃ t, execBulk a1 a2 a3 = .next t ∧ Touch 0x40000000000000000000000000000000000000000000000000000000000000000000000000000000000000000000000000000000 a3 t := by
  refine ⟨_, rfl, ?_⟩
  repeat' first
    | with_reducible exact Touch.refl _ _
    | ((with_reducible refine Eq.symm ?_); exact rfl)
    | with_reducible apply Touch.after (whileAlive_touch ?_ _ _ _ ?_)
    | with_reducible apply Touch.via (bulkBlock_touch _ _ _)
    | intro _

theorem execNapIdleTimeout_touch (a1 : Fin 68) (a2 : State) : ∃ t, execNapIdleTimeout a1 a2 = .next t ∧ Touch 0x2000000000000000000000000000000000000000000000 a2 t := by
  refine ⟨_, rfl, ?_⟩
  repeat' first
    | with_reducible exact Touch.refl _ _
    | ((with_reducible refine Eq.symm ?_); exact rfl)
    | with_reducible apply Touch.via (napIdle_touch _ _)

theorem execLinkEnable_touch (a1 : Requester) (a2 : Fin 68) (a3 : State) : ∃ t, execLinkEnable a1 a2 a3 = .next t ∧ Touch 0x404200000000000000000000000000a0000000000000000000c0000000002100000000000000000000000000000000000000000000 a3 t := by
  refine ⟨_, rfl, ?_⟩
  repeat' first
    | with_reducible exact Touch.refl _ _
    | ((with_reducible refine Eq.symm ?_); exact rfl)
    | with_reducible apply Touch.via (linkEnable_touch _ _ _)

theorem execLinkDisable_touch (a1 : Requester) (a2 : Fin 68) (a3 : State) : ∃ t, execLinkDisable a1 a2 a3 = .next t ∧ Touch 0x404200000000000000000000000000a0000000000000000000c0000000002000000000000000000000000000000000000000000000 a3 t := by
  refine ⟨_, rfl, ?_⟩
  repeat' first
    | with_reducible exact Touch.refl _ _
    | ((with_reducible refine Eq.symm ?_); exact rfl)
    | with_reducible apply Touch.via (linkDisable_touch _ _ _)

theorem execLinkRetrain_touch (a1 : Requester) (a2 : Fin 68) (a3 : State) : ∃ t, execLinkRetrain a1 a2 a3 = .next t ∧ Touch 0x404200000000000000000000000000a0000000000000000000c0000000002000000000000000000000000000000000000000000000 a3 t := by
  refine ⟨_, rfl, ?_⟩
  repeat' first
    | with_reducible exact Touch.refl _ _
    | ((with_reducible refine Eq.symm ?_); exact rfl)
    | with_reducible apply Touch.via (linkRetrain_touch _ _ _)

theorem execLinkNap_touch (a1 : Requester) (a2 : Fin 68) (a3 : State) : ∃ t, execLinkNap a1 a2 a3 = .next t ∧ Touch 0x400200000000000000000000000000a0000000000000000000c0000000002000000000000000000000000000000000000000000000 a3 t := by
  refine ⟨_, rfl, ?_⟩
  repeat' first
    | with_reducible exact Touch.refl _ _
    | ((with_reducible refine Eq.symm ?_); exact rfl)
    | with_reducible apply Touch.via (linkNap_touch _ _ _)

theorem execLinkRecess_touch (a1 : Requester) (a2 : Fin 68) (a3 : State) : ∃ t, execLinkRecess a1 a2 a3 = .next t ∧ Touch 0x404200000000000000000000000000a0000000000000000000c0000000002000000000000000000000000000000000000000000000 a3 t := by
  refine ⟨_, rfl, ?_⟩
  repeat' first
    | with_reducible exact Touch.refl _ _
    | ((with_reducible refine Eq.symm ?_); exact rfl)
    | with_reducible apply Touch.via (linkRecess_touch _ _ _)

theorem execLinkWake_touch (a1 : Requester) (a2 : Fin 68) (a3 : State) : ∃ t, execLinkWake a1 a2 a3 = .next t ∧ Touch 0x404200000000000000000000000000a0000000000000000000c0000000002100000000000000000000000000000000000000000000 a3 t := by
  refine ⟨_, rfl, ?_⟩
  repeat' first
    | with_reducible exact Touch.refl _ _
    | ((with_reducible refine Eq.symm ?_); exact rfl)
    | with_reducible apply Touch.via (linkWake_touch _ _ _)

theorem execLoopback_touch (a1 : Requester) (a2 : Fin 68) (a3 : BitVec 4) (a4 : Bool) (a5 : State) : ∃ t, execLoopback a1 a2 a3 a4 a5 = .next t ∧ Touch 0x404200000000000000000000000000a0000000000000000000c0000000002000000000000000000000000000000000000000000000 a5 t := by
  refine ⟨_, rfl, ?_⟩
  repeat' first
    | with_reducible exact Touch.refl _ _
    | ((with_reducible refine Eq.symm ?_); exact rfl)
    | with_reducible apply Touch.via (linkLoopback_touch _ _ _ _ _)

theorem execLbEnd_touch (a1 : Requester) (a2 : Fin 68) (a3 : State) : ∃ t, execLbEnd a1 a2 a3 = .next t ∧ Touch 0x404200000000000000000000000000a0000000000000000000c0000000002000000000000000000000000000000000000000000000 a3 t := by
  refine ⟨_, rfl, ?_⟩
  repeat' first
    | with_reducible exact Touch.refl _ _
    | ((with_reducible refine Eq.symm ?_); exact rfl)
    | with_reducible apply Touch.via (linkLbEnd_touch _ _ _)

theorem execLinkSpareCmd_touch (a1 : Requester) (a2 : Fin 68) (a3 : BitVec 8) (a4 : State) : ∃ t, execLinkSpareCmd a1 a2 a3 a4 = .next t ∧ Touch 0x404200000000000000000000000000a0000000000000000000c0000000002000000000000000000000000000000000000000000000 a4 t := by
  refine ⟨_, rfl, ?_⟩
  repeat' first
    | with_reducible exact Touch.refl _ _
    | ((with_reducible refine Eq.symm ?_); exact rfl)
    | with_reducible apply Touch.via (linkSpareCmd_touch _ _ _ _)

theorem execNapExitDone_touch (a1 : Fin 68) (a2 : BitVec 17) (a3 : State) : ∃ t, execNapExitDone a1 a2 a3 = .next t ∧ Touch 0xc26000000000000030000002000000000000000000000000c00000000c20000000000000000000008a0000000004400000000000 a3 t := by
  refine ⟨_, rfl, ?_⟩
  repeat' first
    | with_reducible exact Touch.refl _ _
    | ((with_reducible refine Eq.symm ?_); exact rfl)
    | with_reducible apply Touch.via (napExitDone_touch _ _ _)

end Machine
end Sys2Proof
end

