-- ==== Sys2Proof/Laws/TouchExecLoad.lean ====
section
/-! SUPPORT. What each operation of Machine/ExecLoad.lean leaves alone. -/
set_option linter.unusedVariables false
set_option Elab.async false
namespace Sys2Proof
namespace Machine

theorem execLoaderStart_touch (a1 : Requester) (a2 : Fin 4) (a3 : BitVec 2) (a4 : Fin 16) (a5 : Bool) (a6 : Bool) (a7 : Fin 8) (a8 : State) : ∃ t, execLoaderStart a1 a2 a3 a4 a5 a6 a7 a8 = .next t ∧ Touch 0x440200000000000000000000000000a0000000000000000000c0000000000000000000000000002440000000000000000000000000 a8 t := by
  refine ⟨_, rfl, ?_⟩
  repeat' first
    | with_reducible exact Touch.refl _ _
    | ((with_reducible refine Eq.symm ?_); exact rfl)
    | with_reducible apply Touch.via (loaderStart_touch _ _ _ _ _ _ _ _)

theorem execLoaderCancel_touch (a1 : Requester) (a2 : Fin 4) (a3 : State) : ∃ t, execLoaderCancel a1 a2 a3 = .next t ∧ Touch 0xc5eef8000000000000300001020001e0020060000000000020c00000000421006000c004300000a3c0fa4c040809047e10000e1605 a3 t := by
  refine ⟨_, rfl, ?_⟩
  repeat' first
    | with_reducible exact Touch.refl _ _
    | ((with_reducible refine Eq.symm ?_); exact rfl)
    | with_reducible apply Touch.via (loaderCancel_touch _ _ _)

theorem execLoadSection_touch (a1 : Fin 4) (a2 : List Byte) (a3 : Bool) (a4 : State) : ∃ t, execLoadSection a1 a2 a3 a4 = .next t ∧ Touch 0x85eef8000000000000300001020001e0020060000000000020c00000000421006000c004300000a7c0fa4c040809047e10000e1605 a4 t := by
  refine ⟨_, rfl, ?_⟩
  repeat' first
    | with_reducible exact Touch.refl _ _
    | ((with_reducible refine Eq.symm ?_); exact rfl)
    | with_reducible apply Touch.via (loadSection_touch _ _ _ _)

theorem execLoadComplete_touch (a1 : Fin 4) (a2 : State) : ∃ t, execLoadComplete a1 a2 = .next t ∧ Touch 0x85eef800000000000030000102000140020060000000000020c00000000421006000c004300000a3c0fbcc040809047e10000ff605 a2 t := by
  refine ⟨_, rfl, ?_⟩
  repeat' first
    | with_reducible exact Touch.refl _ _
    | ((with_reducible refine Eq.symm ?_); exact rfl)
    | with_reducible apply Touch.via (loadComplete_touch _ _)

theorem execLoadTimeout_touch (a1 : Fin 4) (a2 : State) : ∃ t, execLoadTimeout a1 a2 = .next t ∧ Touch 0x85eef800000000000030000102000140020060000000000020c00000000421006000c004300000a3c0fa4c040809047e10000e1605 a2 t := by
  refine ⟨_, rfl, ?_⟩
  repeat' first
    | with_reducible exact Touch.refl _ _
    | ((with_reducible refine Eq.symm ?_); exact rfl)
    | with_reducible apply Touch.via (loadTimeout_touch _ _)

end Machine
end Sys2Proof
end

