-- ==== Sys2Proof/Laws/TouchExecMemory.lean ====
section
/-! SUPPORT. What each operation of Machine/ExecMemory.lean leaves alone. -/
set_option linter.unusedVariables false
set_option Elab.async false
namespace Sys2Proof
namespace Machine

theorem execHbmSchedule_touch (a1 : Fin 16) (a2 : Fin 4) (a3 : Fin 32) (a4 : Bool) (a5 : State) : ∃ t, execHbmSchedule a1 a2 a3 a4 a5 = .next t ∧ Touch 0x600000000000000000000000000000000000000000000000000000000000000000000000000000000200000084000000000000 a5 t := by
  refine ⟨_, rfl, ?_⟩
  repeat' first
    | with_reducible exact Touch.refl _ _
    | ((with_reducible refine Eq.symm ?_); exact rfl)
    | with_reducible apply Touch.via (hbmSchedule_touch _ _ _ _ _)

theorem execHbmRefresh_touch (a1 : Fin 4) (a2 : Fin 256) (a3 : State) : ∃ t, execHbmRefresh a1 a2 a3 = .next t ∧ Touch 0x40000000000000000000 a3 t := by
  refine ⟨_, rfl, ?_⟩
  repeat' first
    | with_reducible exact Touch.refl _ _
    | ((with_reducible refine Eq.symm ?_); exact rfl)
    | with_reducible apply Touch.via (hbmRefresh_touch _ _ _)

theorem execDesignMemoryAccess_touch (a1 : Requester) (a2 : Bool) (a3 : BitVec 48) (a4 : BitVec 8) (a5 : BitVec 64) (a6 : State) : ∃ t, execDesignMemoryAccess a1 a2 a3 a4 a5 a6 = .next t ∧ Touch 0x400e80000000000000000000020001e0000000000000000000c000000000000000000000300000000000018000f800000000000000 a6 t := by
  refine ⟨_, rfl, ?_⟩
  repeat' first
    | with_reducible exact Touch.refl _ _
    | ((with_reducible refine Eq.symm ?_); exact rfl)
    | with_reducible apply Touch.via (designMemoryAccess_touch _ _ _ _ _ _)

theorem execBitSetAliasWrite_touch (a1 : Requester) (a2 : BitVec 28) (a3 : BitVec 8) (a4 : BitVec 64) (a5 : State) : ∃ t, execBitSetAliasWrite a1 a2 a3 a4 a5 = .next t ∧ Touch 0x400a80000000000000000000020000a0000000000000000000c0000000000000000000003000000000000000000800000000000000 a5 t := by
  refine ⟨_, rfl, ?_⟩
  repeat' first
    | with_reducible exact Touch.refl _ _
    | ((with_reducible refine Eq.symm ?_); exact rfl)
    | with_reducible apply Touch.via (bitSetAlias_touch _ _ _ _ _)

theorem execBitClearAliasWrite_touch (a1 : Requester) (a2 : BitVec 28) (a3 : BitVec 8) (a4 : BitVec 64) (a5 : State) : ∃ t, execBitClearAliasWrite a1 a2 a3 a4 a5 = .next t ∧ Touch 0x400a80000000000000000000020000a0000000000000000000c0000000000000000000003000000000000000000800000000000000 a5 t := by
  refine ⟨_, rfl, ?_⟩
  repeat' first
    | with_reducible exact Touch.refl _ _
    | ((with_reducible refine Eq.symm ?_); exact rfl)
    | with_reducible apply Touch.via (bitClearAlias_touch _ _ _ _ _)

theorem execEccWriteback_touch (a1 : Fin 512) (a2 : State) : ∃ t, execEccWriteback a1 a2 = .next t ∧ Touch 0x800000000000000000000000000000000000000000000000000000000000000000000000000000000000000000000000000000 a2 t := by
  refine ⟨_, rfl, ?_⟩
  repeat' first
    | with_reducible exact Touch.refl _ _
    | ((with_reducible refine Eq.symm ?_); exact rfl)
    | with_reducible apply Touch.via (eccWriteback_touch _ _)

theorem execBackgroundScrub_touch (a1 : Fin 512) (a2 : BitVec 16) (a3 : State) : ∃ t, execBackgroundScrub a1 a2 a3 = .next t ∧ Touch 0x68000000000000000000000000140000000000000000000c000000000000000000000000000000000000000f000000000000000 a3 t := by
  refine ⟨_, rfl, ?_⟩
  repeat' first
    | with_reducible exact Touch.refl _ _
    | ((with_reducible refine Eq.symm ?_); exact rfl)
    | with_reducible apply Touch.via (backgroundScrub_touch _ _ _)

theorem execBankZeroiseDone_touch (a1 : Fin 896) (a2 : State) : ∃ t, execBankZeroiseDone a1 a2 = .next t ∧ Touch 0x800000000000000000000000000000000000000000000000000000000000000000000000000000000000000800000000000000 a2 t := by
  refine ⟨_, rfl, ?_⟩
  repeat' first
    | with_reducible exact Touch.refl _ _
    | ((with_reducible refine Eq.symm ?_); exact rfl)
    | with_reducible apply Touch.via (bankZeroiseDone_touch _ _)

theorem execMarchStart_touch (a1 : Requester) (a2 : Fin 2) (a3 : State) : ∃ t, execMarchStart a1 a2 a3 = .next t ∧ Touch 0xc00280000000000000000000000000a0000000000000000000c000000000000000000000000000000000000c000000000000000000 a3 t := by
  refine ⟨_, rfl, ?_⟩
  repeat' first
    | with_reducible exact Touch.refl _ _
    | ((with_reducible refine Eq.symm ?_); exact rfl)
    | with_reducible apply Touch.via (marchStart_touch _ _ _)

theorem execMarchStop_touch (a1 : Requester) (a2 : Fin 2) (a3 : Fin 256) (a4 : State) : ∃ t, execMarchStop a1 a2 a3 a4 = .next t ∧ Touch 0x400280000000000000000000000000a0000000000000000000c0000000000000000000000000000000000004000000000000000000 a4 t := by
  refine ⟨_, rfl, ?_⟩
  repeat' first
    | with_reducible exact Touch.refl _ _
    | ((with_reducible refine Eq.symm ?_); exact rfl)
    | with_reducible apply Touch.via (marchStop_touch _ _ _ _)

theorem execMarchDone_touch (a1 : Fin 2) (a2 : List (Prod Nat Nat)) (a3 : State) : ∃ t, execMarchDone a1 a2 a3 = .next t ∧ Touch 0x80000000000000000000000000000000000000000000000000000000000000000000000000000000000c000800000000000000 a3 t := by
  refine ⟨_, rfl, ?_⟩
  repeat' first
    | with_reducible exact Touch.refl _ _
    | ((with_reducible refine Eq.symm ?_); exact rfl)
    | with_reducible apply Touch.via (marchDone_touch _ _ _)

theorem execRetire_touch (a1 : Requester) (a2 : Fin 512) (a3 : State) : ∃ t, execRetire a1 a2 a3 = .next t ∧ Touch 0x400600000000000000000000000001e0000000000000000000c0000000000000000000000000000000000020000800000000000000 a3 t := by
  refine ⟨_, rfl, ?_⟩
  repeat' first
    | with_reducible exact Touch.refl _ _
    | ((with_reducible refine Eq.symm ?_); exact rfl)
    | with_reducible apply Touch.via (retireBank_touch _ _ _)

theorem execUnretire_touch (a1 : Requester) (a2 : Fin 512) (a3 : State) : ∃ t, execUnretire a1 a2 a3 = .next t ∧ Touch 0x400200000000000000000000000000a0000000000000000000c0000000000000000000000000000000000020000800000000000000 a3 t := by
  refine ⟨_, rfl, ?_⟩
  repeat' first
    | with_reducible exact Touch.refl _ _
    | ((with_reducible refine Eq.symm ?_); exact rfl)
    | with_reducible apply Touch.via (unretireBank_touch _ _ _)

theorem execHbmRetire_touch (a1 : Requester) (a2 : Fin 4) (a3 : BitVec 23) (a4 : State) : ∃ t, execHbmRetire a1 a2 a3 a4 = .next t ∧ Touch 0x400280000000000000000000000000a0000000000000000000c0000000000000000000000000000000001000000000000000000000 a4 t := by
  refine ⟨_, rfl, ?_⟩
  repeat' first
    | with_reducible exact Touch.refl _ _
    | ((with_reducible refine Eq.symm ?_); exact rfl)
    | with_reducible apply Touch.via (hbmRetire_touch _ _ _ _)

theorem execHbmPageSwitch_touch (a1 : Fin 4) (a2 : State) : ∃ t, execHbmPageSwitch a1 a2 = .next t ∧ Touch 0x68000000000000000000000000140000000000000000000c0000000000000000000000000000000001000000000000000000000 a2 t := by
  refine ⟨_, rfl, ?_⟩
  repeat' first
    | with_reducible exact Touch.refl _ _
    | ((with_reducible refine Eq.symm ?_); exact rfl)
    | with_reducible apply Touch.via (hbmPageSwitch_touch _ _)

theorem execMarchRestoreDone_touch (a1 : Fin 2) (a2 : State) : ∃ t, execMarchRestoreDone a1 a2 = .next t ∧ Touch 0x4000000000000000000 a2 t := by
  refine ⟨_, rfl, ?_⟩
  repeat' first
    | with_reducible exact Touch.refl _ _
    | ((with_reducible refine Eq.symm ?_); exact rfl)
    | with_reducible apply Touch.via (marchRestoreDone_touch _ _)

end Machine
end Sys2Proof
end

