-- ==== Sys2Proof/Laws/TouchTNet.lean ====
section
/-! SUPPORT. What each operation of Machine/TNet.lean leaves alone. -/
set_option linter.unusedVariables false
set_option Elab.async false
namespace Sys2Proof
namespace Machine

theorem stalePkt_touch (a1 : Requester) (a2 : Nat) (a3 : State) : Touch 0x62000000000000000000000000150000000000000000000c00000000000000000000000000000008a0000000000000000000000 a3 (stalePkt a1 a2 a3) := by
  unfold stalePkt
  repeat' first
    | with_reducible exact Touch.refl _ _
    | ((with_reducible refine Eq.symm ?_); exact rfl)
    | with_reducible apply Touch.via (epochStale_touch _ _ _ _ _ _)
    | split

theorem errLogged_touch (a1 : Requester) (a2 : Nat) (a3 : Nat) (a4 : Nat) (a5 : Nat) (a6 : Nat) (a7 : State) : Touch 0x400200000000000000000000000000a0000000000000000000c0000000000000000000000000000000000000000000000000000000 a7 (errLogged a1 a2 a3 a4 a5 a6 a7) := by
  unfold errLogged
  repeat' first
    | with_reducible exact Touch.refl _ _
    | ((with_reducible refine Eq.symm ?_); exact rfl)
    | with_reducible apply Touch.via (logViol_touch _ _ _ _ _ _ _)
    | (simp only [Touch.mk_eq]; with_reducible refine TouchMk.intro ?_)

theorem ctrlRead_touch (a1 : Requester) (a2 : Bool) (a3 : Bool) (a4 : Nat) (a5 : State) : Touch 0xfffffffffffffffffff9afffffffffffffffffffffffffffffffffffffffffffffffffffffffffffffffffffffffffffffffffffff a5 (ctrlRead a1 a2 a3 a4 a5) := by
  unfold ctrlRead
  repeat' first
    | with_reducible exact Touch.refl _ _
    | ((with_reducible refine Eq.symm ?_); exact rfl)
    | with_reducible refine Touch.ite ?_ ?_
    | with_reducible apply Touch.via (denyNowhere_touch _ _ _ _ _)
    | with_reducible apply Touch.via (lockerRead_touch _ _ _)
    | with_reducible apply Touch.via (okResp_touch _ _)
    | with_reducible apply Touch.via (errLogged_touch _ _ _ _ _ _ _)
    | with_reducible apply Touch.via (regRead_touch _ _ _ _ _)
    | split

theorem ctrlWrite_touch (a1 : Requester) (a2 : Nat) (a3 : Nat) (a4 : State) : Touch 0xfffffffffffffffffff9afffffffffffffffffffffffffffffffffffffffffffffffffffffffffffffffffffffffffffffffffffff a4 (ctrlWrite a1 a2 a3 a4) := by
  unfold ctrlWrite
  repeat' first
    | with_reducible exact Touch.refl _ _
    | ((with_reducible refine Eq.symm ?_); exact rfl)
    | with_reducible refine Touch.ite ?_ ?_
    | with_reducible apply Touch.via (denyNowhere_touch _ _ _ _ _)
    | with_reducible apply Touch.via (lockerWrite_touch _ _ _ _)
    | with_reducible apply Touch.via (okResp_touch _ _)
    | with_reducible apply Touch.via (regWrite_touch _ _ _ _ _)
    | split

theorem ctrlPair_touch {w : Nat} (hw : Nat.lor 0x4000000000000000000000000000000000000000000000000000000000000000000000000000000000000000000000000000000000 w = w) (f : Nat → State → State) (a : Nat) (s : State) (hf : ∀ a t, Touch w t (f a t)) :
    Touch w s (ctrlPair f a s) := by
  unfold ctrlPair
  refine Touch.ite (hf _ _) (Touch.ite (hf _ _) ?_)
  exact ((hf _ _).trans (hf _ _)).trans ((State.withResp_touch _ _).mono (Touch.sub (by rfl) hw))

theorem ctrlReadN_touch (a1 : Requester) (a2 : Bool) (a3 : Bool) (a4 : Nat) (a5 : Nat) (a6 : State) : Touch 0xfffffffffffffffffff9afffffffffffffffffffffffffffffffffffffffffffffffffffffffffffffffffffffffffffffffffffff a6 (ctrlReadN a1 a2 a3 a4 a5 a6) := by
  unfold ctrlReadN
  repeat' first
    | with_reducible exact Touch.refl _ _
    | ((with_reducible refine Eq.symm ?_); exact rfl)
    | with_reducible refine Touch.ite ?_ ?_
    | with_reducible apply Touch.via (denyAddr_touch _ _ _ _ _)
    | with_reducible apply Touch.via (ctrlRead_touch _ _ _ _ _)
    | with_reducible apply Touch.after (ctrlPair_touch ?_ _ _ _ ?_)
    | intro _

theorem ctrlWriteN_touch (a1 : Requester) (a2 : Nat) (a3 : List Nat) (a4 : Nat → Bool) (a5 : State) : Touch 0xfffffffffffffffffff9afffffffffffffffffffffffffffffffffffffffffffffffffffffffffffffffffffffffffffffffffffff a5 (ctrlWriteN a1 a2 a3 a4 a5) := by
  unfold ctrlWriteN
  repeat' first
    | with_reducible exact Touch.refl _ _
    | ((with_reducible refine Eq.symm ?_); exact rfl)
    | with_reducible refine Touch.ite ?_ ?_
    | with_reducible apply Touch.via (denyAddr_touch _ _ _ _ _)
    | with_reducible apply Touch.via (ctrlWrite_touch _ _ _ _)
    | with_reducible apply Touch.after (ctrlPair_touch ?_ _ _ _ ?_)
    | intro _

theorem doorRead_touch (a1 : Requester) (a2 : Nat) (a3 : State) : Touch 0x400200000000000000000000000000a0000000000000000000c0000000000000000000000000000000000000000000000000000000 a3 (doorRead a1 a2 a3) := by
  unfold doorRead
  repeat' first
    | with_reducible exact Touch.refl _ _
    | ((with_reducible refine Eq.symm ?_); exact rfl)
    | with_reducible refine Touch.ite ?_ ?_
    | with_reducible apply Touch.via (okResp_touch _ _)
    | with_reducible apply Touch.via (denyRead_touch _ _ _ _)
    | split

theorem doorWrite_touch (a1 : Requester) (a2 : Nat) (a3 : Nat) (a4 : Nat) (a5 : State) : Touch 0xc80e80000000000000000000020001e0000000000000000100c002c00880000000000000300000000000018000f800000000000000 a5 (doorWrite a1 a2 a3 a4 a5) := by
  unfold doorWrite
  repeat' first
    | with_reducible exact Touch.refl _ _
    | ((with_reducible refine Eq.symm ?_); exact rfl)
    | with_reducible refine Touch.ite ?_ ?_
    | with_reducible apply Touch.via (queueTailWrite_touch _ _ _ _)
    | with_reducible apply Touch.via (okResp_touch _ _)

theorem targetRead_touch (a1 : Requester) (a2 : Nat) (a3 : Bool) (a4 : Bool) (a5 : Nat) (a6 : Nat) (a7 : State) : Touch 0xfffffffffffffffffff9afffffffffffffffffffffffffffffffffffffffffffffffffffffffffffffffffffffffffffffffffffff a7 (targetRead a1 a2 a3 a4 a5 a6 a7).2 := by
  unfold targetRead
  repeat' first
    | with_reducible exact Touch.refl _ _
    | ((with_reducible refine Eq.symm ?_); exact rfl)
    | with_reducible apply Touch.via (doorRead_touch _ _ _)
    | with_reducible apply Touch.via (memRead_touch _ _ _ _)
    | with_reducible apply Touch.via (ctrlReadN_touch _ _ _ _ _ _)
    | split

theorem targetWrite_touch (a1 : Requester) (a2 : Nat) (a3 : Nat) (a4 : List Nat) (a5 : Nat → Bool) (a6 : State) : Touch 0xfffffffffffffffffff9afffffffffffffffffffffffffffffffffffffffffffffffffffffffffffffffffffffffffffffffffffff a6 (targetWrite a1 a2 a3 a4 a5 a6) := by
  unfold targetWrite
  repeat' first
    | with_reducible exact Touch.refl _ _
    | ((with_reducible refine Eq.symm ?_); exact rfl)
    | with_reducible refine Touch.ite ?_ ?_
    | with_reducible apply Touch.via (doorWrite_touch _ _ _ _ _)
    | with_reducible apply Touch.via (memWrite_touch _ _ _ _ _)
    | with_reducible apply Touch.via (ctrlWriteN_touch _ _ _ _ _)

theorem targetAmo_touch (a1 : Requester) (a2 : AmoOp) (a3 : Nat) (a4 : Nat) (a5 : Nat) (a6 : State) : Touch 0xc00e80000000000000000000020001e0000000000000000100c000000000000000000000300000000000018000f800000000000000 a6 (targetAmo a1 a2 a3 a4 a5 a6).2 := by
  unfold targetAmo
  repeat' first
    | with_reducible exact Touch.refl _ _
    | ((with_reducible refine Eq.symm ?_); exact rfl)
    | with_reducible apply Touch.via (denyNowhere_touch _ _ _ _ _)
    | with_reducible apply Touch.via (denyAddr_touch _ _ _ _ _)
    | with_reducible apply Touch.via (memRead_touch _ _ _ _)
    | with_reducible apply Touch.via (memWrite_touch _ _ _ _ _)
    | with_reducible apply Touch.via (okResp_touch _ _)
    | split
    | dsimp only

theorem answered_touch (a1 : Requester) (a2 : Pkt) (a3 : Nat) (a4 : BusResp) (a5 : List Nat) (a6 : State) : Touch 0x5000000000000000000000000000000000000000000000010000000000000000000000000000000000000000000000000000000000 a6 (answered a1 a2 a3 a4 a5 a6) := by
  unfold answered
  repeat' first
    | with_reducible exact Touch.refl _ _
    | ((with_reducible refine Eq.symm ?_); exact rfl)
    | with_reducible refine Touch.ite ?_ ?_
    | with_reducible refine Touch.bump ?_ ?_
    | (simp only [Touch.mk_eq]; with_reducible refine TouchMk.intro ?_)

theorem unanswered_touch (a1 : Requester) (a2 : Pkt) (a3 : Nat) (a4 : State) : Touch 0x1000000000000000000000000000000000000000000000000000000000000000000000000000000000000000000000000000000000 a4 (unanswered a1 a2 a3 a4) := by
  unfold unanswered
  repeat' first
    | with_reducible exact Touch.refl _ _
    | (simp only [Touch.mk_eq]; with_reducible refine TouchMk.intro ?_)

theorem coreFault_touch (a1 : Requester) (a2 : Nat) (a3 : State) : Touch 0x800000000000000000000000000000000000000000000000000000000000000000000000000000000000000000000000000000000 a3 (coreFault a1 a2 a3) := by
  unfold coreFault
  repeat' first
    | with_reducible exact Touch.refl _ _
    | ((with_reducible refine Eq.symm ?_); exact rfl)
    | with_reducible apply Touch.via (State.modCore_touch _ _ _)
    | split

theorem request_touch {w : Nat} (hw : Nat.lor 0x580620000000000000000000000001f0000000000000000100c00000000000000000000000000000008a0000000000000000000000 w = w) (a1 : Requester) (a2 : Pkt) (a3 : Nat) (a4 : Nat) (a5 : Nat) (a6 : Bool) (a7 : State → Prod (List Nat) State) (a8 : State) (ha7 : ∀  t, Touch w t (a7  t).2) : Touch w a8 (request a1 a2 a3 a4 a5 a6 a7 a8) := by
  unfold request
  repeat' first
    | with_reducible exact Touch.refl _ _
    | with_reducible refine Touch.ite ?_ ?_
    | exact Touch.sub (by rfl) hw
    | exact Touch.bit hw (by rfl)
    | with_reducible apply Touch.after (ha7 _)
    | with_reducible apply Touch.via (coreFault_touch _ _ _)
    | with_reducible apply Touch.via (unanswered_touch _ _ _ _)
    | with_reducible apply Touch.via (stalePkt_touch _ _ _)
    | with_reducible apply Touch.via (answered_touch _ _ _ _ _ _)
    | with_reducible apply Touch.via (errLogged_touch _ _ _ _ _ _ _)
    | with_reducible refine Touch.bump ?_ ?_

theorem netRead_touch (a1 : Requester) (a2 : Pkt) (a3 : Nat) (a4 : Bool) (a5 : Bool) (a6 : Bool) (a7 : Bool) (a8 : State) : Touch 0xfffffffffffffffffff9afffffffffffffffffffffffffffffffffffffffffffffffffffffffffffffffffffffffffffffffffffff a8 (netRead a1 a2 a3 a4 a5 a6 a7 a8) := by
  unfold netRead
  repeat' first
    | with_reducible exact Touch.refl _ _
    | ((with_reducible refine Eq.symm ?_); exact rfl)
    | with_reducible apply Touch.after (request_touch ?_ _ _ _ _ _ _ _ _ ?_)
    | with_reducible apply Touch.via (targetRead_touch _ _ _ _ _ _ _)
    | intro _

theorem netWrite_touch (a1 : Requester) (a2 : Pkt) (a3 : Nat) (a4 : List Nat) (a5 : State) : Touch 0xfffffffffffffffffff9afffffffffffffffffffffffffffffffffffffffffffffffffffffffffffffffffffffffffffffffffffff a5 (netWrite a1 a2 a3 a4 a5) := by
  unfold netWrite
  repeat' first
    | with_reducible exact Touch.refl _ _
    | ((with_reducible refine Eq.symm ?_); exact rfl)
    | with_reducible refine Touch.ite ?_ ?_
    | with_reducible apply Touch.after (request_touch ?_ _ _ _ _ _ _ _ _ ?_)
    | with_reducible apply Touch.via (targetWrite_touch _ _ _ _ _ _)
    | intro _

theorem markPosted_touch (a1 : Requester) (a2 : State) (a3 : State) : Touch 0x8000000000000000000000000000000000000000000000000000000000000000000000000000 a3 (markPosted a1 a2 a3) := by
  unfold markPosted
  repeat' first
    | with_reducible exact Touch.refl _ _
    | ((with_reducible refine Eq.symm ?_); exact rfl)
    | with_reducible refine Touch.ite ?_ ?_
    | with_reducible refine Touch.setReg ?_ ?_

theorem netWriteP_touch (a1 : Requester) (a2 : Pkt) (a3 : Nat) (a4 : List Nat) (a5 : State) : Touch 0xfffffffffffffffffff9afffffffffffffffffffffffffffffffffffffffffffffffffffffffffffffffffffffffffffffffffffff a5 (netWriteP a1 a2 a3 a4 a5) := by
  unfold netWriteP
  repeat' first
    | with_reducible exact Touch.refl _ _
    | ((with_reducible refine Eq.symm ?_); exact rfl)
    | with_reducible refine Touch.ite ?_ ?_
    | with_reducible apply Touch.via (coreFault_touch _ _ _)
    | with_reducible apply Touch.via (stalePkt_touch _ _ _)
    | with_reducible apply Touch.via (errLogged_touch _ _ _ _ _ _ _)
    | with_reducible apply Touch.via (markPosted_touch _ _ _)
    | with_reducible apply Touch.via (targetWrite_touch _ _ _ _ _ _)
    | with_reducible refine Touch.bump ?_ ?_
    | (simp only [Touch.mk_eq]; with_reducible refine TouchMk.intro ?_)

theorem netAmo_touch (a1 : Requester) (a2 : Pkt) (a3 : AmoOp) (a4 : Bool) (a5 : Nat) (a6 : State) : Touch 0xd80ea0000000000000000000020001f0000000000000000100c00000000000000000000030000000008a018000f800000000000000 a6 (netAmo a1 a2 a3 a4 a5 a6) := by
  unfold netAmo
  repeat' first
    | with_reducible exact Touch.refl _ _
    | ((with_reducible refine Eq.symm ?_); exact rfl)
    | with_reducible refine Touch.ite ?_ ?_
    | with_reducible apply Touch.after (request_touch ?_ _ _ _ _ _ _ _ _ ?_)
    | with_reducible apply Touch.via (targetAmo_touch _ _ _ _ _ _)
    | intro _

theorem dropReq_touch (a1 : Requester) (a2 : Nat) (a3 : State) : Touch 0x1000000000000000000000000000000000000000000000000000000000000000000000000000000000000000000000000000000000 a3 (dropReq a1 a2 a3) := by
  unfold dropReq
  repeat' first
    | with_reducible exact Touch.refl _ _
    | (simp only [Touch.mk_eq]; with_reducible refine TouchMk.intro ?_)

theorem takesError_touch (a1 : TnReq) (a2 : Nat) (a3 : State) : Touch 0x802000000000000000000000000000000000000000000000000000000000000000000000000000000000000000000000000000000 a3 (takesError a1 a2 a3) := by
  unfold takesError
  repeat' first
    | with_reducible exact Touch.refl _ _
    | ((with_reducible refine Eq.symm ?_); exact rfl)
    | with_reducible refine Touch.ite ?_ ?_
    | with_reducible apply Touch.via (coreFault_touch _ _ _)
    | (simp only [Touch.mk_eq]; with_reducible refine TouchMk.intro ?_)

theorem response_touch (a1 : Requester) (a2 : Nat) (a3 : State) : Touch 0x5802000000000000000000000000000000000000000000000000000000000000000000000000000000000000000000000000000000 a3 (response a1 a2 a3) := by
  unfold response
  repeat' first
    | with_reducible exact Touch.refl _ _
    | ((with_reducible refine Eq.symm ?_); exact rfl)
    | with_reducible refine Touch.ite ?_ ?_
    | with_reducible apply Touch.via (dropReq_touch _ _ _)
    | with_reducible apply Touch.via (takesError_touch _ _ _)
    | (simp only [Touch.mk_eq]; with_reducible refine TouchMk.intro ?_)
    | split

theorem requestTimeout_touch (a1 : Requester) (a2 : Nat) (a3 : State) : Touch 0x5802000000000000000000000000000000000000000000010000000000000000000000000000000000000000000000000000000000 a3 (requestTimeout a1 a2 a3) := by
  unfold requestTimeout
  repeat' first
    | with_reducible exact Touch.refl _ _
    | ((with_reducible refine Eq.symm ?_); exact rfl)
    | with_reducible apply Touch.via (takesError_touch _ _ _)
    | with_reducible apply Touch.via (timedOut_touch _)
    | with_reducible apply Touch.via (dropReq_touch _ _ _)
    | split

theorem doorbell_touch (a1 : Nat) (a2 : Nat) (a3 : Nat) (a4 : State) : Touch 0xc80e80000000000000000000020001e0000000000000000100c002c00880000000000000300000000000018000f800000000000000 a4 (doorbell a1 a2 a3 a4) := by
  unfold doorbell
  repeat' first
    | with_reducible exact Touch.refl _ _
    | ((with_reducible refine Eq.symm ?_); exact rfl)
    | with_reducible apply Touch.via (queueTailWrite_touch _ _ _ _)
    | with_reducible apply Touch.via (okResp_touch _ _)

theorem apertureRequest_touch (a1 : Requester) (a2 : Nat) (a3 : Nat) (a4 : Bool) (a5 : List Nat) (a6 : State) : Touch 0xc00e80000000000000000000020001e0000000000000000100c000000000000000000000300000000000018000f800000000000000 a6 (apertureRequest a1 a2 a3 a4 a5 a6) := by
  unfold apertureRequest
  repeat' first
    | with_reducible exact Touch.refl _ _
    | ((with_reducible refine Eq.symm ?_); exact rfl)
    | with_reducible refine Touch.ite ?_ ?_
    | with_reducible apply Touch.via (memWrite_touch _ _ _ _ _)
    | with_reducible apply Touch.via (memRead_touch _ _ _ _)

end Machine
end Sys2Proof
end

