-- ==== Sys2Proof/Laws/TouchMonitor.lean ====
section
/-! SUPPORT. What each operation of Machine/Monitor.lean leaves alone. -/
set_option linter.unusedVariables false
set_option Elab.async false
namespace Sys2Proof
namespace Machine

theorem monSend_touch (a1 : Nat) (a2 : List Nat) (a3 : State) : Touch 0x100000000000000000000000000000000000a0000000000000000000000000000000000000000000000000000000000000000000 a3 (monSend a1 a2 a3) := by
  unfold monSend
  repeat' first
    | with_reducible exact Touch.refl _ _
    | ((with_reducible refine Eq.symm ?_); exact rfl)
    | with_reducible refine Touch.ite ?_ ?_
    | with_reducible refine Touch.setReg ?_ ?_
    | with_reducible refine Touch.sf ?_ ?_
    | with_reducible refine Touch.forUpTo ?_ ?_
    | (simp only [Touch.mk_eq]; with_reducible refine TouchMk.intro ?_)
    | intro _

theorem malformed_touch (a1 : State) : Touch 0x0 a1 (malformed a1).2.2 := by
  unfold malformed
  repeat' with_reducible exact Touch.refl _ _

theorem peerSeen_touch (a1 : State) : Touch 0x10000000000000000000000000000000000000000000000000000000000000000000000000000000000000000000000000000000 a1 (peerSeen a1) := by
  unfold peerSeen
  repeat' first
    | with_reducible exact Touch.refl _ _
    | (simp only [Touch.mk_eq]; with_reducible refine TouchMk.intro ?_)

theorem cacheAnswer_touch (a1 : Nat) (a2 : Nat) (a3 : List Nat) (a4 : State) : Touch 0x10000000000000000000000000000000000000000000000000000000000000000000000000000000000000000000000000000000 a4 (cacheAnswer a1 a2 a3 a4) := by
  unfold cacheAnswer
  repeat' first
    | with_reducible exact Touch.refl _ _
    | (simp only [Touch.mk_eq]; with_reducible refine TouchMk.intro ?_)

theorem monServe_touch {w : Nat} (hw : Nat.lor 0x40100000000000000000000000000000000000a0000000000000000000000000000000000000000000000000000000000000000000 w = w) (t sq : Nat) (b : List Nat) (f : State → MonAns) (s : State) (hf : ∀ t, Touch w t (f t).2.2) :
    Touch w s (monServe t sq b f s) := by
  unfold monServe
  refine Touch.trans (hf s) ?_
  generalize f s = a
  exact (((State.withResp_touch _ _).mono (Touch.sub (by rfl) hw)).trans ((cacheAnswer_touch _ _ _ _).mono (Touch.sub (by rfl) hw))).trans
    ((monSend_touch _ _ _).mono (Touch.sub (by rfl) hw))

theorem monAnswer_touch {w : Nat} (hw : Nat.lor 0x40100000000000000000000002000000000000a0000000000000000000000000000000000000000000000000000000000000000000 w = w) (t : Nat) (b : List Nat) (f : State → MonAns) (s : State) (hf : ∀ t, Touch w t (f t).2.2) :
    Touch w s (monAnswer t b f s) := by
  unfold monAnswer
  refine Touch.trans (x := wakeBy 2 (if t = 1 then peerSeen s else s)) ?_ ?_
  · exact (Touch.ite ((peerSeen_touch _).mono (Touch.sub (by rfl) hw)) (Touch.refl _ _)).trans ((wakeBy_touch _ _).mono (Touch.sub (by rfl) hw))
  · exact Touch.ite ((monSend_touch _ _ _).mono (Touch.sub (by rfl) hw)) (monServe_touch (Touch.sub (by rfl) hw) _ _ _ _ _ hf)

theorem monCmd_touch {w : Nat} (hw : Nat.lor 0x40100000000000000000000002000000000000a0000000000000000000000000000000000000000000000000000000000000000000 w = w) (a1 : Nat) (a2 : Nat) (a3 : List Nat) (a4 : List Nat → Nat) (a5 : List Nat → State → MonAns) (a6 : State) (ha5 : ∀ y0 t, Touch w t (a5 y0 t).2.2) : Touch w a6 (monCmd a1 a2 a3 a4 a5 a6) := by
  unfold monCmd
  repeat' first
    | with_reducible exact Touch.refl _ _
    | with_reducible assumption
    | with_reducible refine Touch.ite ?_ ?_
    | exact Touch.sub (by rfl) hw
    | with_reducible apply Touch.after (ha5 _ _)
    | with_reducible apply Touch.after (monAnswer_touch ?_ _ _ _ _ ?_)
    | with_reducible apply Touch.via (malformed_touch _)
    | intro _
    | split

theorem haltCore_touch (a1 : Bool) (a2 : Nat) (a3 : State) : Touch 0x800000000000000000000000000000000000100000000000000000000000000000000000000000000000000000000000000000000 a3 (haltCore a1 a2 a3) := by
  unfold haltCore
  repeat' first
    | with_reducible exact Touch.refl _ _
    | ((with_reducible refine Eq.symm ?_); exact rfl)
    | with_reducible refine Touch.ite ?_ ?_
    | with_reducible apply Touch.via (haltRequest_touch _ _ _ _)
    | with_reducible refine Touch.sf ?_ ?_

theorem monHalt_touch (a1 : Nat) (a2 : List Nat) (a3 : State) : Touch 0x48100000000000000000000002000000000001a0000000000000000000000000000000000000000000000000000000000000000000 a3 (monHalt a1 a2 a3) := by
  unfold monHalt
  repeat' first
    | with_reducible exact Touch.refl _ _
    | ((with_reducible refine Eq.symm ?_); exact rfl)
    | with_reducible apply Touch.after (monCmd_touch ?_ _ _ _ _ _ _ ?_)
    | with_reducible apply Touch.via (haltCore_touch _ _ _)
    | with_reducible refine Touch.forEach ?_ ?_
    | intro _

theorem resumeCore_touch (a1 : Nat) (a2 : State) : Touch 0x8808800000000000000000000000000000006100000000000000000000000000000000000000000000000000000000000000000000 a2 (resumeCore a1 a2) := by
  unfold resumeCore
  repeat' first
    | with_reducible exact Touch.refl _ _
    | ((with_reducible refine Eq.symm ?_); exact rfl)
    | with_reducible apply Touch.via (csrForget_touch _ _)
    | with_reducible apply Touch.via (ctEmit_touch _ _ _ _ _ _)
    | with_reducible refine Touch.sf ?_ ?_

theorem monResume_touch (a1 : Nat) (a2 : List Nat) (a3 : State) : Touch 0xc8188000000000000000000002000000000061a0000000000000000000000000000000000000000000000000000000000000000000 a3 (monResume a1 a2 a3) := by
  unfold monResume
  repeat' first
    | with_reducible exact Touch.refl _ _
    | ((with_reducible refine Eq.symm ?_); exact rfl)
    | with_reducible apply Touch.after (monCmd_touch ?_ _ _ _ _ _ _ ?_)
    | with_reducible apply Touch.via (resumeCore_touch _ _)
    | with_reducible refine Touch.sf ?_ ?_
    | with_reducible refine Touch.forEach ?_ ?_
    | intro _

theorem stepCore_touch (a1 : Nat) (a2 : Bool) (a3 : Bool) (a4 : State) : Touch 0xc81e80000000000000000000020001e0000061000000000100c002440880000000000000300000000000018000f800000000000000 a4 (stepCore a1 a2 a3 a4) := by
  unfold stepCore
  repeat' first
    | with_reducible exact Touch.refl _ _
    | ((with_reducible refine Eq.symm ?_); exact rfl)
    | with_reducible refine Touch.ite ?_ ?_
    | with_reducible apply Touch.via (csrForget_touch _ _)
    | with_reducible apply Touch.via (enterHalted_touch _ _ _ _ _ _)
    | with_reducible apply Touch.via (drawRegs_touch _ _)
    | with_reducible apply Touch.via (drawn_touch _)
    | with_reducible apply Touch.via (State.modCore_touch _ _ _)
    | with_reducible refine Touch.sf ?_ ?_

theorem monStep_touch (a1 : Nat) (a2 : List Nat) (a3 : Bool) (a4 : State) : Touch 0xc81e80000000000000000000020001e0000061a00000000100c002440880000000000000300000000000018000f800000000000000 a4 (monStep a1 a2 a3 a4) := by
  unfold monStep
  repeat' first
    | with_reducible exact Touch.refl _ _
    | ((with_reducible refine Eq.symm ?_); exact rfl)
    | with_reducible apply Touch.after (monCmd_touch ?_ _ _ _ _ _ _ ?_)
    | with_reducible apply Touch.via (malformed_touch _)
    | with_reducible apply Touch.via (stepCore_touch _ _ _ _)
    | intro _
    | split
    | dsimp only

theorem csrUnseen_touch (a1 : Nat) (a2 : Nat) (a3 : State) : Touch 0x800000000000000000000000000000000000000000000000000000000000000000000000000000000000000000000000000000000 a3 (csrUnseen a1 a2 a3) := by
  unfold csrUnseen
  repeat' first
    | with_reducible exact Touch.refl _ _
    | (simp only [Touch.mk_eq]; with_reducible refine TouchMk.intro ?_)

theorem csrSee_touch (a1 : Nat) (a2 : Nat) (a3 : Nat) (a4 : State) : Touch 0x800000000000000000000000000000000000000000000000000000000000000000000000000000000000000000000000000000000 a4 (csrSee a1 a2 a3 a4) := by
  unfold csrSee
  repeat' first
    | with_reducible exact Touch.refl _ _
    | (simp only [Touch.mk_eq]; with_reducible refine TouchMk.intro ?_)

theorem csrRead_touch (a1 : Nat) (a2 : Nat) (a3 : State) : Touch 0x8800000000000000000000000000000000000000000000000000000000000000000000000000000000000000000000000000000000 a3 (csrRead a1 a2 a3).2 := by
  unfold csrRead
  repeat' first
    | with_reducible exact Touch.refl _ _
    | ((with_reducible refine Eq.symm ?_); exact rfl)
    | with_reducible refine Touch.ite ?_ ?_
    | with_reducible apply Touch.via (csrSee_touch _ _ _ _)
    | with_reducible apply Touch.via (drawn_touch _)
    | split

theorem csrWrite_touch (a1 : Nat) (a2 : Nat) (a3 : Nat) (a4 : State) : Touch 0x800000000000000000000000000000000000000000000000000000000000000000000000000000000000000000000000000000000 a4 (csrWrite a1 a2 a3 a4) := by
  unfold csrWrite
  repeat' first
    | with_reducible exact Touch.refl _ _
    | ((with_reducible refine Eq.symm ?_); exact rfl)
    | with_reducible refine Touch.ite ?_ ?_
    | with_reducible apply Touch.via (csrPut_touch _ _ _ _)
    | with_reducible apply Touch.via (csrSee_touch _ _ _ _)
    | with_reducible apply Touch.via (csrUnseen_touch _ _ _)
    | split

theorem translate_touch (a1 : Nat) (a2 : Nat) (a3 : Bool) (a4 : State) : Touch 0x8800000000000000000000000000000000000000000000000000000000000000000000000000000000000000000000000000000000 a4 (translate a1 a2 a3 a4).2 := by
  unfold translate
  repeat' first
    | with_reducible exact Touch.refl _ _
    | ((with_reducible refine Eq.symm ?_); exact rfl)
    | with_reducible apply Touch.via (csrRead_touch _ _ _)
    | with_reducible apply Touch.via (drawn_touch _)
    | split
    | dsimp only

theorem elemOf_touch (a1 : List Nat) (a2 : State) : Touch 0x0 a2 (elemOf a1 a2).2 := by
  unfold elemOf
  repeat' first
    | with_reducible exact Touch.refl _ _
    | split

theorem devElem_touch (a1 : Bool) (a2 : Bool) (a3 : Option Nat) (a4 : Nat) (a5 : Nat) (a6 : State) : Touch 0xfffffffffffffffffff9afffffffffffffffffffffffffffffffffffffffffffffffffffffffffffffffffffffffffffffffffffff a6 (devElem a1 a2 a3 a4 a5 a6).2 := by
  unfold devElem
  repeat' first
    | with_reducible exact Touch.refl _ _
    | ((with_reducible refine Eq.symm ?_); exact rfl)
    | with_reducible apply Touch.via (errLogged_touch _ _ _ _ _ _ _)
    | with_reducible apply Touch.via (targetRead_touch _ _ _ _ _ _ _)
    | with_reducible apply Touch.via (elemOf_touch _ _)
    | with_reducible apply Touch.via (targetWrite_touch _ _ _ _ _ _)
    | split

theorem monElem_touch (a1 : Nat) (a2 : Nat) (a3 : Bool) (a4 : Bool) (a5 : Option Nat) (a6 : Nat) (a7 : Nat) (a8 : State) : Touch 0xfffffffffffffffffff9afffffffffffffffffffffffffffffffffffffffffffffffffffffffffffffffffffffffffffffffffffff a8 (monElem a1 a2 a3 a4 a5 a6 a7 a8).2 := by
  unfold monElem
  repeat' first
    | with_reducible exact Touch.refl _ _
    | ((with_reducible refine Eq.symm ?_); exact rfl)
    | with_reducible refine Touch.ite ?_ ?_
    | with_reducible apply Touch.via (devElem_touch _ _ _ _ _ _)
    | with_reducible apply Touch.via (State.modCore_touch _ _ _)
    | with_reducible apply Touch.via (xWrite_touch _ _ _ _)
    | with_reducible apply Touch.via (csrRead_touch _ _ _)
    | with_reducible apply Touch.via (csrWrite_touch _ _ _ _)
    | with_reducible apply Touch.via (translate_touch _ _ _ _)
    | split
    | dsimp only

theorem monElems_touch {w : Nat} (f : Nat → State → Elem) (size : Nat) (l : List Nat) (acc : List Nat) (s : State) (hf : ∀ k t, Touch w t (f k t).2) :
    Touch w s (monElems f size l acc s).2.2 := by
  induction l generalizing acc s with
  | nil => exact Touch.refl _ _
  | cons k r ih =>
    have h := hf k s
    rw [monElems]
    generalize f k s = x at h
    obtain ⟨x, t⟩ := x
    cases x with
    | ok b => exact h.trans (ih _ _)
    | error e => exact h

theorem monAccess_touch (a1 : Bool) (a2 : Bool) (a3 : Bool) (a4 : List Nat) (a5 : State) : Touch 0xfffffffffffffffffff9afffffffffffffffffffffffffffffffffffffffffffffffffffffffffffffffffffffffffffffffffffff a5 (monAccess a1 a2 a3 a4 a5).2.2 := by
  unfold monAccess
  repeat' first
    | with_reducible exact Touch.refl _ _
    | ((with_reducible refine Eq.symm ?_); exact rfl)
    | with_reducible apply Touch.via (malformed_touch _)
    | with_reducible apply Touch.via (monElem_touch _ _ _ _ _ _ _ _)
    | with_reducible apply Touch.after (monElems_touch _ _ _ _ _ ?_)
    | intro _
    | split
    | dsimp only

theorem monRead_touch (a1 : Nat) (a2 : List Nat) (a3 : State) : Touch 0xfffffffffffffffffff9afffffffffffffffffffffffffffffffffffffffffffffffffffffffffffffffffffffffffffffffffffff a3 (monRead a1 a2 a3) := by
  unfold monRead
  repeat' first
    | with_reducible exact Touch.refl _ _
    | ((with_reducible refine Eq.symm ?_); exact rfl)
    | with_reducible apply Touch.after (monCmd_touch ?_ _ _ _ _ _ _ ?_)
    | with_reducible apply Touch.via (monAccess_touch _ _ _ _ _)
    | intro _

theorem monWrite_touch (a1 : Nat) (a2 : List Nat) (a3 : State) : Touch 0xfffffffffffffffffff9afffffffffffffffffffffffffffffffffffffffffffffffffffffffffffffffffffffffffffffffffffff a3 (monWrite a1 a2 a3) := by
  unfold monWrite
  repeat' first
    | with_reducible exact Touch.refl _ _
    | ((with_reducible refine Eq.symm ?_); exact rfl)
    | with_reducible apply Touch.after (monCmd_touch ?_ _ _ _ _ _ _ ?_)
    | with_reducible apply Touch.via (monAccess_touch _ _ _ _ _)
    | intro _

theorem monPeek_touch (a1 : Nat) (a2 : List Nat) (a3 : State) : Touch 0xfffffffffffffffffff9afffffffffffffffffffffffffffffffffffffffffffffffffffffffffffffffffffffffffffffffffffff a3 (monPeek a1 a2 a3) := by
  unfold monPeek
  repeat' first
    | with_reducible exact Touch.refl _ _
    | ((with_reducible refine Eq.symm ?_); exact rfl)
    | with_reducible apply Touch.after (monCmd_touch ?_ _ _ _ _ _ _ ?_)
    | with_reducible apply Touch.via (monAccess_touch _ _ _ _ _)
    | intro _

theorem setCmpr_touch (a1 : Bool) (a2 : List Nat) (a3 : State) : Touch 0x800000000000000000000000000000000000000000000000000000000000000000000000000000000000000000000000000000000 a3 (setCmpr a1 a2 a3).2.2 := by
  unfold setCmpr
  repeat' first
    | with_reducible exact Touch.refl _ _
    | ((with_reducible refine Eq.symm ?_); exact rfl)
    | with_reducible apply Touch.via (malformed_touch _)
    | with_reducible apply Touch.via (State.modCore_touch _ _ _)
    | split
    | dsimp only

theorem monSetbp_touch (a1 : Nat) (a2 : List Nat) (a3 : State) : Touch 0x48100000000000000000000002000000000000a0000000000000000000000000000000000000000000000000000000000000000000 a3 (monSetbp a1 a2 a3) := by
  unfold monSetbp
  repeat' first
    | with_reducible exact Touch.refl _ _
    | ((with_reducible refine Eq.symm ?_); exact rfl)
    | with_reducible apply Touch.after (monCmd_touch ?_ _ _ _ _ _ _ ?_)
    | with_reducible apply Touch.via (setCmpr_touch _ _ _)
    | intro _

theorem monSetwp_touch (a1 : Nat) (a2 : List Nat) (a3 : State) : Touch 0x48100000000000000000000002000000000000a0000000000000000000000000000000000000000000000000000000000000000000 a3 (monSetwp a1 a2 a3) := by
  unfold monSetwp
  repeat' first
    | with_reducible exact Touch.refl _ _
    | ((with_reducible refine Eq.symm ?_); exact rfl)
    | with_reducible apply Touch.after (monCmd_touch ?_ _ _ _ _ _ _ ?_)
    | with_reducible apply Touch.via (setCmpr_touch _ _ _)
    | intro _

theorem traceCfg_touch (a1 : Nat) (a2 : Nat) (a3 : Nat) (a4 : Nat) (a5 : Nat) (a6 : State) : Touch 0x8808800000000000000000000000000000006100000000000000000000000000000000000000000000000000000000000000000000 a6 (traceCfg a1 a2 a3 a4 a5 a6) := by
  unfold traceCfg
  repeat' first
    | with_reducible exact Touch.refl _ _
    | ((with_reducible refine Eq.symm ?_); exact rfl)
    | with_reducible refine Touch.ite ?_ ?_
    | with_reducible apply Touch.via (State.modCore_touch _ _ _)
    | with_reducible apply Touch.via (ctEmit_touch _ _ _ _ _ _)
    | with_reducible refine Touch.sf ?_ ?_

theorem monTracecfg_touch (a1 : Nat) (a2 : List Nat) (a3 : State) : Touch 0xc8188000000000000000000002000000000061a0000000000000000000000000000000000000000000000000000000000000000000 a3 (monTracecfg a1 a2 a3) := by
  unfold monTracecfg
  repeat' first
    | with_reducible exact Touch.refl _ _
    | ((with_reducible refine Eq.symm ?_); exact rfl)
    | with_reducible apply Touch.after (monCmd_touch ?_ _ _ _ _ _ _ ?_)
    | with_reducible apply Touch.via (traceCfg_touch _ _ _ _ _ _)
    | with_reducible refine Touch.forEach ?_ ?_
    | intro _

theorem monFreeze_touch (a1 : Nat) (a2 : List Nat) (a3 : State) : Touch 0x401260000000000000000000020000a0000000a00000000000c00000000000000000000000000000000000000000040000000c1400 a3 (monFreeze a1 a2 a3) := by
  unfold monFreeze
  repeat' first
    | with_reducible exact Touch.refl _ _
    | ((with_reducible refine Eq.symm ?_); exact rfl)
    | with_reducible refine Touch.ite ?_ ?_
    | with_reducible apply Touch.after (monCmd_touch ?_ _ _ _ _ _ _ ?_)
    | with_reducible apply Touch.via (malformed_touch _)
    | with_reducible apply Touch.via (cmdFreezeNow_touch _ _ _ _)
    | with_reducible apply Touch.via (cmdResume_touch _ _ _ _)
    | with_reducible refine Touch.forEach ?_ ?_
    | intro _
    | split
    | dsimp only

theorem monCapture_touch (a1 : Nat) (a2 : List Nat) (a3 : State) : Touch 0x401ea8000000000000000000020000a0020000a00000000000c0000000000000000000183000000000000000000000000000001405 a3 (monCapture a1 a2 a3) := by
  unfold monCapture
  repeat' first
    | with_reducible exact Touch.refl _ _
    | ((with_reducible refine Eq.symm ?_); exact rfl)
    | with_reducible apply Touch.after (monCmd_touch ?_ _ _ _ _ _ _ ?_)
    | with_reducible apply Touch.via (malformed_touch _)
    | with_reducible apply Touch.via (cmdCapture_touch _ _ _ _)
    | intro _
    | split
    | dsimp only

theorem passTake_touch (a1 : List Nat) (a2 : State) : Touch 0x801a80000000000000000000000000000000e0000000000000c000000000000000000000f020000000000000000000000000000000 a2 (passTake a1 a2) := by
  unfold passTake
  repeat' first
    | with_reducible exact Touch.refl _ _
    | ((with_reducible refine Eq.symm ?_); exact rfl)
    | with_reducible apply Touch.via (passEnd_touch _)
    | with_reducible refine Touch.sf ?_ ?_
    | (simp only [Touch.mk_eq]; with_reducible refine TouchMk.intro ?_)

theorem present_touch (a1 : List Nat) (a2 : State) : Touch 0x801a80000000000000000000000000a00000e0000000000000c000000000000000000000f020000000000000000000000000000000 a2 (present a1 a2).2.2 := by
  unfold present
  repeat' first
    | with_reducible exact Touch.refl _ _
    | ((with_reducible refine Eq.symm ?_); exact rfl)
    | with_reducible apply Touch.via (passTake_touch _ _)
    | with_reducible apply Touch.via (logViol_touch _ _ _ _ _ _ _)
    | (simp only [Touch.mk_eq]; with_reducible refine TouchMk.intro ?_)
    | split

theorem hallpassCmd_touch {w : Nat} (hw : Nat.lor 0x40100000000000000000000002000000000000a0000000000000000000000000000000000000000000000000000000000000000000 w = w) (a1 : Nat) (a2 : List Nat) (a3 : Nat) (a4 : Nat) (a5 : List Nat → State → MonAns) (a6 : State) (ha5 : ∀ y0 t, Touch w t (a5 y0 t).2.2) : Touch w a6 (hallpassCmd a1 a2 a3 a4 a5 a6) := by
  unfold hallpassCmd
  repeat' first
    | with_reducible exact Touch.refl _ _
    | with_reducible assumption
    | with_reducible refine Touch.ite ?_ ?_
    | with_reducible apply Touch.after (ha5 _ _)
    | with_reducible apply Touch.after (monCmd_touch ?_ _ _ _ _ _ _ ?_)
    | intro _

theorem hallpassNonce_touch (a1 : Nat) (a2 : List Nat) (a3 : State) : Touch 0x40100000000000000000000002000000000000a0000000000000000000000000000000000000000000000000000000000000000000 a3 (hallpassNonce a1 a2 a3) := by
  unfold hallpassNonce
  repeat' first
    | with_reducible exact Touch.refl _ _
    | ((with_reducible refine Eq.symm ?_); exact rfl)
    | with_reducible apply Touch.after (hallpassCmd_touch ?_ _ _ _ _ _ _ ?_)
    | intro _

theorem hallpassPresent_touch (a1 : Nat) (a2 : List Nat) (a3 : State) : Touch 0xc01a80000000000000000000020000a00000e0a00000000000c000000000000000000000f020000000000000000000000000000000 a3 (hallpassPresent a1 a2 a3) := by
  unfold hallpassPresent
  repeat' first
    | with_reducible exact Touch.refl _ _
    | ((with_reducible refine Eq.symm ?_); exact rfl)
    | with_reducible apply Touch.after (hallpassCmd_touch ?_ _ _ _ _ _ _ ?_)
    | with_reducible apply Touch.via (present_touch _ _)
    | intro _

theorem hallpassWithdraw_touch (a1 : Nat) (a2 : List Nat) (a3 : State) : Touch 0xc01a80000000000000000000020000000000e0a00000000000c000000000000000000000f020000000000000000000000000000000 a3 (hallpassWithdraw a1 a2 a3) := by
  unfold hallpassWithdraw
  repeat' first
    | with_reducible exact Touch.refl _ _
    | ((with_reducible refine Eq.symm ?_); exact rfl)
    | with_reducible apply Touch.after (hallpassCmd_touch ?_ _ _ _ _ _ _ ?_)
    | with_reducible apply Touch.via (passEnd_touch _)
    | intro _

theorem badFrame_touch (a1 : Nat) (a2 : State) : Touch 0x20000000000000000000000000000000000000000000000000000000000000000000 a2 (badFrame a1 a2) := by
  unfold badFrame
  repeat' first
    | with_reducible exact Touch.refl _ _
    | ((with_reducible refine Eq.symm ?_); exact rfl)
    | with_reducible refine Touch.ite ?_ ?_
    | with_reducible refine Touch.sf ?_ ?_
    | with_reducible refine Touch.bump ?_ ?_

theorem badMonitorFrame_touch (a1 : Nat) (a2 : List Nat) (a3 : Bool) (a4 : State) : Touch 0x40100000000000000000000002000000000000a0000000000000000000000000000000000000000000000000000000000000000000 a4 (badMonitorFrame a1 a2 a3 a4) := by
  unfold badMonitorFrame
  repeat' first
    | with_reducible exact Touch.refl _ _
    | ((with_reducible refine Eq.symm ?_); exact rfl)
    | with_reducible refine Touch.ite ?_ ?_
    | with_reducible apply Touch.via (badFrame_touch _ _)
    | with_reducible apply Touch.after (monAnswer_touch ?_ _ _ _ _ ?_)
    | with_reducible apply Touch.via (malformed_touch _)
    | with_reducible refine Touch.bump ?_ ?_
    | intro _

end Machine
end Sys2Proof
end

