-- ==== Sys2Proof/Laws/TouchExecMonitor.lean ====
section
/-! SUPPORT. What each operation of Machine/ExecMonitor.lean leaves alone. -/
set_option linter.unusedVariables false
set_option Elab.async false
namespace Sys2Proof
namespace Machine

theorem execMonHalt_touch (a1 : Fin 3) (a2 : List Byte) (a3 : State) : ∃ t, execMonHalt a1 a2 a3 = .next t ∧ Touch 0x48100000000000000000000002000000000001a0000000000000000000000000000000000000000000000000000000000000000000 a3 t := by
  refine ⟨_, rfl, ?_⟩
  repeat' first
    | with_reducible exact Touch.refl _ _
    | ((with_reducible refine Eq.symm ?_); exact rfl)
    | with_reducible apply Touch.via (monHalt_touch _ _ _)

theorem execMonResume_touch (a1 : Fin 3) (a2 : List Byte) (a3 : State) : ∃ t, execMonResume a1 a2 a3 = .next t ∧ Touch 0xc8188000000000000000000002000000000061a0000000000000000000000000000000000000000000000000000000000000000000 a3 t := by
  refine ⟨_, rfl, ?_⟩
  repeat' first
    | with_reducible exact Touch.refl _ _
    | ((with_reducible refine Eq.symm ?_); exact rfl)
    | with_reducible apply Touch.via (monResume_touch _ _ _)

theorem execMonStep_touch (a1 : Fin 3) (a2 : List Byte) (a3 : Bool) (a4 : State) : ∃ t, execMonStep a1 a2 a3 a4 = .next t ∧ Touch 0xc81e80000000000000000000020001e0000061a00000000100c002440880000000000000300000000000018000f800000000000000 a4 t := by
  refine ⟨_, rfl, ?_⟩
  repeat' first
    | with_reducible exact Touch.refl _ _
    | ((with_reducible refine Eq.symm ?_); exact rfl)
    | with_reducible apply Touch.via (monStep_touch _ _ _ _)

theorem execMonRead_touch (a1 : Fin 3) (a2 : List Byte) (a3 : State) : ∃ t, execMonRead a1 a2 a3 = .next t ∧ Touch 0xfffffffffffffffffff9afffffffffffffffffffffffffffffffffffffffffffffffffffffffffffffffffffffffffffffffffffff a3 t := by
  refine ⟨_, rfl, ?_⟩
  repeat' first
    | with_reducible exact Touch.refl _ _
    | ((with_reducible refine Eq.symm ?_); exact rfl)
    | with_reducible apply Touch.via (monRead_touch _ _ _)

theorem execMonWrite_touch (a1 : Fin 3) (a2 : List Byte) (a3 : State) : ∃ t, execMonWrite a1 a2 a3 = .next t ∧ Touch 0xfffffffffffffffffff9afffffffffffffffffffffffffffffffffffffffffffffffffffffffffffffffffffffffffffffffffffff a3 t := by
  refine ⟨_, rfl, ?_⟩
  repeat' first
    | with_reducible exact Touch.refl _ _
    | ((with_reducible refine Eq.symm ?_); exact rfl)
    | with_reducible apply Touch.via (monWrite_touch _ _ _)

theorem execMonPeek_touch (a1 : Fin 3) (a2 : List Byte) (a3 : State) : ∃ t, execMonPeek a1 a2 a3 = .next t ∧ Touch 0xfffffffffffffffffff9afffffffffffffffffffffffffffffffffffffffffffffffffffffffffffffffffffffffffffffffffffff a3 t := by
  refine ⟨_, rfl, ?_⟩
  repeat' first
    | with_reducible exact Touch.refl _ _
    | ((with_reducible refine Eq.symm ?_); exact rfl)
    | with_reducible apply Touch.via (monPeek_touch _ _ _)

theorem execMonSetbp_touch (a1 : Fin 3) (a2 : List Byte) (a3 : State) : ∃ t, execMonSetbp a1 a2 a3 = .next t ∧ Touch 0x48100000000000000000000002000000000000a0000000000000000000000000000000000000000000000000000000000000000000 a3 t := by
  refine ⟨_, rfl, ?_⟩
  repeat' first
    | with_reducible exact Touch.refl _ _
    | ((with_reducible refine Eq.symm ?_); exact rfl)
    | with_reducible apply Touch.via (monSetbp_touch _ _ _)

theorem execMonSetwp_touch (a1 : Fin 3) (a2 : List Byte) (a3 : State) : ∃ t, execMonSetwp a1 a2 a3 = .next t ∧ Touch 0x48100000000000000000000002000000000000a0000000000000000000000000000000000000000000000000000000000000000000 a3 t := by
  refine ⟨_, rfl, ?_⟩
  repeat' first
    | with_reducible exact Touch.refl _ _
    | ((with_reducible refine Eq.symm ?_); exact rfl)
    | with_reducible apply Touch.via (monSetwp_touch _ _ _)

theorem execMonTracecfg_touch (a1 : Fin 3) (a2 : List Byte) (a3 : State) : ∃ t, execMonTracecfg a1 a2 a3 = .next t ∧ Touch 0xc8188000000000000000000002000000000061a0000000000000000000000000000000000000000000000000000000000000000000 a3 t := by
  refine ⟨_, rfl, ?_⟩
  repeat' first
    | with_reducible exact Touch.refl _ _
    | ((with_reducible refine Eq.symm ?_); exact rfl)
    | with_reducible apply Touch.via (monTracecfg_touch _ _ _)

theorem execMonFreeze_touch (a1 : Fin 3) (a2 : List Byte) (a3 : State) : ∃ t, execMonFreeze a1 a2 a3 = .next t ∧ Touch 0x401260000000000000000000020000a0000000a00000000000c00000000000000000000000000000000000000000040000000c1400 a3 t := by
  refine ⟨_, rfl, ?_⟩
  repeat' first
    | with_reducible exact Touch.refl _ _
    | ((with_reducible refine Eq.symm ?_); exact rfl)
    | with_reducible apply Touch.via (monFreeze_touch _ _ _)

theorem execMonCapture_touch (a1 : Fin 3) (a2 : List Byte) (a3 : State) : ∃ t, execMonCapture a1 a2 a3 = .next t ∧ Touch 0x401ea8000000000000000000020000a0020000a00000000000c0000000000000000000183000000000000000000000000000001405 a3 t := by
  refine ⟨_, rfl, ?_⟩
  repeat' first
    | with_reducible exact Touch.refl _ _
    | ((with_reducible refine Eq.symm ?_); exact rfl)
    | with_reducible apply Touch.via (monCapture_touch _ _ _)

theorem execHallpassNonce_touch (a1 : Fin 3) (a2 : List Byte) (a3 : State) : ∃ t, execHallpassNonce a1 a2 a3 = .next t ∧ Touch 0x40100000000000000000000002000000000000a0000000000000000000000000000000000000000000000000000000000000000000 a3 t := by
  refine ⟨_, rfl, ?_⟩
  repeat' first
    | with_reducible exact Touch.refl _ _
    | ((with_reducible refine Eq.symm ?_); exact rfl)
    | with_reducible apply Touch.via (hallpassNonce_touch _ _ _)

theorem execHallpassPresent_touch (a1 : Fin 3) (a2 : List Byte) (a3 : State) : ∃ t, execHallpassPresent a1 a2 a3 = .next t ∧ Touch 0xc01a80000000000000000000020000a00000e0a00000000000c000000000000000000000f020000000000000000000000000000000 a3 t := by
  refine ⟨_, rfl, ?_⟩
  repeat' first
    | with_reducible exact Touch.refl _ _
    | ((with_reducible refine Eq.symm ?_); exact rfl)
    | with_reducible apply Touch.via (hallpassPresent_touch _ _ _)

theorem execHallpassWithdraw_touch (a1 : Fin 3) (a2 : List Byte) (a3 : State) : ∃ t, execHallpassWithdraw a1 a2 a3 = .next t ∧ Touch 0xc01a80000000000000000000020000000000e0a00000000000c000000000000000000000f020000000000000000000000000000000 a3 t := by
  refine ⟨_, rfl, ?_⟩
  repeat' first
    | with_reducible exact Touch.refl _ _
    | ((with_reducible refine Eq.symm ?_); exact rfl)
    | with_reducible apply Touch.via (hallpassWithdraw_touch _ _ _)

theorem execBadMonitorFrame_touch (a1 : Fin 3) (a2 : List Byte) (a3 : Bool) (a4 : State) : ∃ t, execBadMonitorFrame a1 a2 a3 a4 = .next t ∧ Touch 0x40100000000000000000000002000000000000a0000000000000000000000000000000000000000000000000000000000000000000 a4 t := by
  refine ⟨_, rfl, ?_⟩
  repeat' first
    | with_reducible exact Touch.refl _ _
    | ((with_reducible refine Eq.symm ?_); exact rfl)
    | with_reducible apply Touch.via (badMonitorFrame_touch _ _ _ _)

end Machine
end Sys2Proof
end

