-- ==== Sys2Proof/Laws/TouchExecNet.lean ====
section
/-! SUPPORT. What each operation of Machine/ExecNet.lean leaves alone. -/
set_option linter.unusedVariables false
set_option Elab.async false
namespace Sys2Proof
namespace Machine

theorem execNetRead_touch (a1 : Requester) (a2 : Pkt) (a3 : Byte) (a4 : Bool) (a5 : Bool) (a6 : Bool) (a7 : Bool) (a8 : State) : ∃ t, execNetRead a1 a2 a3 a4 a5 a6 a7 a8 = .next t ∧ Touch 0xfffffffffffffffffff9afffffffffffffffffffffffffffffffffffffffffffffffffffffffffffffffffffffffffffffffffffff a8 t := by
  refine ⟨_, rfl, ?_⟩
  repeat' first
    | with_reducible exact Touch.refl _ _
    | ((with_reducible refine Eq.symm ?_); exact rfl)
    | with_reducible apply Touch.via (netRead_touch _ _ _ _ _ _ _ _)

theorem execNetWrite_touch (a1 : Requester) (a2 : Pkt) (a3 : BitVec 64) (a4 : List Byte) (a5 : State) : ∃ t, execNetWrite a1 a2 a3 a4 a5 = .next t ∧ Touch 0xfffffffffffffffffff9afffffffffffffffffffffffffffffffffffffffffffffffffffffffffffffffffffffffffffffffffffff a5 t := by
  refine ⟨_, rfl, ?_⟩
  repeat' first
    | with_reducible exact Touch.refl _ _
    | ((with_reducible refine Eq.symm ?_); exact rfl)
    | with_reducible apply Touch.via (netWrite_touch _ _ _ _ _)

theorem execNetWriteP_touch (a1 : Requester) (a2 : Pkt) (a3 : BitVec 64) (a4 : List Byte) (a5 : State) : ∃ t, execNetWriteP a1 a2 a3 a4 a5 = .next t ∧ Touch 0xfffffffffffffffffff9afffffffffffffffffffffffffffffffffffffffffffffffffffffffffffffffffffffffffffffffffffff a5 t := by
  refine ⟨_, rfl, ?_⟩
  repeat' first
    | with_reducible exact Touch.refl _ _
    | ((with_reducible refine Eq.symm ?_); exact rfl)
    | with_reducible apply Touch.via (netWriteP_touch _ _ _ _ _)

theorem execNetAmo_touch (a1 : Requester) (a2 : Pkt) (a3 : AmoOp) (a4 : Bool) (a5 : BitVec 64) (a6 : State) : ∃ t, execNetAmo a1 a2 a3 a4 a5 a6 = .next t ∧ Touch 0xd80ea0000000000000000000020001f0000000000000000100c00000000000000000000030000000008a018000f800000000000000 a6 t := by
  refine ⟨_, rfl, ?_⟩
  repeat' first
    | with_reducible exact Touch.refl _ _
    | ((with_reducible refine Eq.symm ?_); exact rfl)
    | with_reducible apply Touch.via (netAmo_touch _ _ _ _ _ _)

theorem execResponse_touch (a1 : Requester) (a2 : Byte) (a3 : State) : ∃ t, execResponse a1 a2 a3 = .next t ∧ Touch 0x5802000000000000000000000000000000000000000000000000000000000000000000000000000000000000000000000000000000 a3 t := by
  refine ⟨_, rfl, ?_⟩
  repeat' first
    | with_reducible exact Touch.refl _ _
    | ((with_reducible refine Eq.symm ?_); exact rfl)
    | with_reducible apply Touch.via (response_touch _ _ _)

theorem execRequestTimeout_touch (a1 : Requester) (a2 : Byte) (a3 : State) : ∃ t, execRequestTimeout a1 a2 a3 = .next t ∧ Touch 0x5802000000000000000000000000000000000000000000010000000000000000000000000000000000000000000000000000000000 a3 t := by
  refine ⟨_, rfl, ?_⟩
  repeat' first
    | with_reducible exact Touch.refl _ _
    | ((with_reducible refine Eq.symm ?_); exact rfl)
    | with_reducible apply Touch.via (requestTimeout_touch _ _ _)

theorem execDoorbell_touch (a1 : Fin 64) (a2 : Fin 16384) (a3 : Word) (a4 : State) : ∃ t, execDoorbell a1 a2 a3 a4 = .next t ∧ Touch 0xc80e80000000000000000000020001e0000000000000000100c002c00880000000000000300000000000018000f800000000000000 a4 t := by
  refine ⟨_, rfl, ?_⟩
  repeat' first
    | with_reducible exact Touch.refl _ _
    | ((with_reducible refine Eq.symm ?_); exact rfl)
    | with_reducible apply Touch.via (doorbell_touch _ _ _ _)

theorem execApertureRequest_touch (a1 : Requester) (a2 : Fin 64) (a3 : BitVec 40) (a4 : Bool) (a5 : List Byte) (a6 : State) : ∃ t, execApertureRequest a1 a2 a3 a4 a5 a6 = .next t ∧ Touch 0xc00e80000000000000000000020001e0000000000000000100c000000000000000000000300000000000018000f800000000000000 a6 t := by
  refine ⟨_, rfl, ?_⟩
  repeat' first
    | with_reducible exact Touch.refl _ _
    | ((with_reducible refine Eq.symm ?_); exact rfl)
    | with_reducible apply Touch.via (apertureRequest_touch _ _ _ _ _ _)

end Machine
end Sys2Proof
end

