-- ==== Sys2Proof/Laws/TouchExecPartCmd.lean ====
section
/-! SUPPORT. What each operation of Machine/ExecPartCmd.lean leaves alone. -/
set_option linter.unusedVariables false
set_option Elab.async false
namespace Sys2Proof
namespace Machine

theorem execLoad_touch (a1 : Requester) (a2 : Fin 16) (a3 : State) : ∃ t, execLoad a1 a2 a3 = .next t ∧ Touch 0xc5eef8000000000000300001020001e0020060000000000020c00000000421006000c004300000a3c0fa4c040809047e10000e1605 a3 t := by
  refine ⟨_, rfl, ?_⟩
  repeat' first
    | with_reducible exact Touch.refl _ _
    | ((with_reducible refine Eq.symm ?_); exact rfl)
    | with_reducible apply Touch.via (cmdLoad_touch _ _ _)

theorem execArm_touch (a1 : Requester) (a2 : Fin 16) (a3 : BitVec 16) (a4 : State) : ∃ t, execArm a1 a2 a3 a4 = .next t ∧ Touch 0x400220000000000000000000000000a0000000000000000000c0000000000000000000000000000000000000000000000000001000 a4 t := by
  refine ⟨_, rfl, ?_⟩
  repeat' first
    | with_reducible exact Touch.refl _ _
    | ((with_reducible refine Eq.symm ?_); exact rfl)
    | with_reducible apply Touch.via (cmdArm_touch _ _ _ _)

theorem execArmDone_touch (a1 : Fin 16) (a2 : State) : ∃ t, execArmDone a1 a2 = .next t ∧ Touch 0x462f800000000000000000000000000000000000000000020c00000000000000000000000000020008e00000000bb800000341400 a2 t := by
  refine ⟨_, rfl, ?_⟩
  repeat' first
    | with_reducible exact Touch.refl _ _
    | ((with_reducible refine Eq.symm ?_); exact rfl)
    | with_reducible apply Touch.via (armDone_touch _ _)

theorem execStart_touch (a1 : Requester) (a2 : Fin 16) (a3 : BitVec 16) (a4 : State) : ∃ t, execStart a1 a2 a3 a4 = .next t ∧ Touch 0x400260000000000000000000000000a0000000000000000000c00000000000000000000000000000000000000000040000000c1400 a4 t := by
  refine ⟨_, rfl, ?_⟩
  repeat' first
    | with_reducible exact Touch.refl _ _
    | ((with_reducible refine Eq.symm ?_); exact rfl)
    | with_reducible apply Touch.via (cmdStart_touch _ _ _ _)

theorem execStopAtBell_touch (a1 : Requester) (a2 : Fin 16) (a3 : BitVec 16) (a4 : State) : ∃ t, execStopAtBell a1 a2 a3 a4 = .next t ∧ Touch 0x400260000000000000000000000000a0000000000000000000c00000000000000000000000000000000000000000040000000c1400 a4 t := by
  refine ⟨_, rfl, ?_⟩
  repeat' first
    | with_reducible exact Touch.refl _ _
    | ((with_reducible refine Eq.symm ?_); exact rfl)
    | with_reducible apply Touch.via (cmdStop_touch _ _ _ _)

theorem execResume_touch (a1 : Requester) (a2 : Fin 16) (a3 : BitVec 16) (a4 : State) : ∃ t, execResume a1 a2 a3 a4 = .next t ∧ Touch 0x400260000000000000000000000000a0000000000000000000c00000000000000000000000000000000000000000040000000c1400 a4 t := by
  refine ⟨_, rfl, ?_⟩
  repeat' first
    | with_reducible exact Touch.refl _ _
    | ((with_reducible refine Eq.symm ?_); exact rfl)
    | with_reducible apply Touch.via (cmdResume_touch _ _ _ _)

theorem execFreezeNow_touch (a1 : Requester) (a2 : Fin 16) (a3 : BitVec 16) (a4 : State) : ∃ t, execFreezeNow a1 a2 a3 a4 = .next t ∧ Touch 0x400240000000000000000000000000a0000000000000000000c0000000000000000000000000000000000000000004000000001000 a4 t := by
  refine ⟨_, rfl, ?_⟩
  repeat' first
    | with_reducible exact Touch.refl _ _
    | ((with_reducible refine Eq.symm ?_); exact rfl)
    | with_reducible apply Touch.via (cmdFreezeNow_touch _ _ _ _)

theorem execCapture_touch (a1 : Requester) (a2 : Fin 16) (a3 : BitVec 16) (a4 : State) : ∃ t, execCapture a1 a2 a3 a4 = .next t ∧ Touch 0x400ea8000000000000000000000000a0020000000000000000c0000000000000000000183000000000000000000000000000001405 a4 t := by
  refine ⟨_, rfl, ?_⟩
  repeat' first
    | with_reducible exact Touch.refl _ _
    | ((with_reducible refine Eq.symm ?_); exact rfl)
    | with_reducible apply Touch.via (cmdCapture_touch _ _ _ _)

theorem execRewind_touch (a1 : Requester) (a2 : Fin 16) (a3 : BitVec 16) (a4 : State) : ∃ t, execRewind a1 a2 a3 a4 = .next t ∧ Touch 0x400a00000000000000000000000000a0000000000000000000c0000000000000000000040000000000000000000000000000001000 a4 t := by
  refine ⟨_, rfl, ?_⟩
  repeat' first
    | with_reducible exact Touch.refl _ _
    | ((with_reducible refine Eq.symm ?_); exact rfl)
    | with_reducible apply Touch.via (cmdRewind_touch _ _ _ _)

theorem execAbort_touch (a1 : Requester) (a2 : Fin 16) (a3 : BitVec 16) (a4 : State) : ∃ t, execAbort a1 a2 a3 a4 = .next t ∧ Touch 0xc5eef8000000000000300001020001e0020060000000000020c00000000421006000c004300000a3c0fa4c040809047e10000e1605 a4 t := by
  refine ⟨_, rfl, ?_⟩
  repeat' first
    | with_reducible exact Touch.refl _ _
    | ((with_reducible refine Eq.symm ?_); exact rfl)
    | with_reducible apply Touch.via (cmdAbort_touch _ _ _ _)

theorem execUnload_touch (a1 : Requester) (a2 : Fin 16) (a3 : BitVec 16) (a4 : State) : ∃ t, execUnload a1 a2 a3 a4 = .next t ∧ Touch 0xc5eef8000000000000300001020000a0020060000000000020c00000000421006000c0043000002000fa4c040809047e10000e1605 a4 t := by
  refine ⟨_, rfl, ?_⟩
  repeat' first
    | with_reducible exact Touch.refl _ _
    | ((with_reducible refine Eq.symm ?_); exact rfl)
    | with_reducible apply Touch.via (cmdUnload_touch _ _ _ _)

theorem execPartCommit_touch (a1 : Requester) (a2 : Fin 16) (a3 : Bool) (a4 : State) : ∃ t, execPartCommit a1 a2 a3 a4 = .next t ∧ Touch 0xc06ab8000000000000000000000000a0000060000000000020c00000000000006000c00030040000000080000000000000000eb400 a4 t := by
  refine ⟨_, rfl, ?_⟩
  repeat' first
    | with_reducible exact Touch.refl _ _
    | ((with_reducible refine Eq.symm ?_); exact rfl)
    | with_reducible apply Touch.via (partCommit_touch _ _ _ _)

theorem execPartCommitCancel_touch (a1 : Requester) (a2 : Fin 16) (a3 : State) : ∃ t, execPartCommitCancel a1 a2 a3 = .next t ∧ Touch 0x400200000000000000000000000000a0000000000000000000c0000000000000000000000000000000000000000000000000021400 a3 t := by
  refine ⟨_, rfl, ?_⟩
  repeat' first
    | with_reducible exact Touch.refl _ _
    | ((with_reducible refine Eq.symm ?_); exact rfl)
    | with_reducible apply Touch.via (partCommitCancel_touch _ _ _)

theorem execFaultTailWrite_touch (a1 : Requester) (a2 : Fin 16) (a3 : BitVec 32) (a4 : State) : ∃ t, execFaultTailWrite a1 a2 a3 a4 = .next t ∧ Touch 0x400200000000000000000000000000a0000000000000000000c0000000000000000000000000000000060000000000000000000000 a4 t := by
  refine ⟨_, rfl, ?_⟩
  repeat' first
    | with_reducible exact Touch.refl _ _
    | ((with_reducible refine Eq.symm ?_); exact rfl)
    | with_reducible apply Touch.via (faultTailWrite_touch _ _ _ _)

theorem execDoneSensed_touch (a1 : Bool) (a2 : State) : ∃ t, execDoneSensed a1 a2 = .next t ∧ Touch 0x440260000000000000000000000000a0000000000000000000c00000000000000000000000000020000000000000040000000c1400 a2 t := by
  refine ⟨_, rfl, ?_⟩
  repeat' first
    | with_reducible exact Touch.refl _ _
    | ((with_reducible refine Eq.symm ?_); exact rfl)
    | with_reducible apply Touch.via (doneSensed_touch _ _)

end Machine
end Sys2Proof
end

