-- ==== Sys2Proof/Laws/TouchExecPins.lean ====
section
/-! SUPPORT. What each operation of Machine/ExecPins.lean leaves alone. -/
set_option linter.unusedVariables false
set_option Elab.async false
namespace Sys2Proof
namespace Machine

theorem execPinCfgWrite_touch (a1 : Requester) (a2 : Fin 96) (a3 : BitVec 32) (a4 : State) : ∃ t, execPinCfgWrite a1 a2 a3 a4 = .next t ∧ Touch 0x400200000000000000000001000000a0000000000000000000c0000000000000000000000000000000000000000000000000000000 a4 t := by
  refine ⟨_, rfl, ?_⟩
  repeat' first
    | with_reducible exact Touch.refl _ _
    | ((with_reducible refine Eq.symm ?_); exact rfl)
    | with_reducible apply Touch.via (pinCfgWrite_touch _ _ _ _)

theorem execPioFuseCmd_touch (a1 : Requester) (a2 : BitVec 8) (a3 : BitVec 2) (a4 : State) : ∃ t, execPioFuseCmd a1 a2 a3 a4 = .next t ∧ Touch 0x410200000000000000000200000000a0000000000000000000c0000000000000000000000000000000000000000000000000000000 a4 t := by
  refine ⟨_, rfl, ?_⟩
  repeat' first
    | with_reducible exact Touch.refl _ _
    | ((with_reducible refine Eq.symm ?_); exact rfl)
    | with_reducible apply Touch.via (pioFuseCmd_touch _ _ _ _)

theorem execPioLockKey_touch (a1 : Requester) (a2 : BitVec 8) (a3 : State) : ∃ t, execPioLockKey a1 a2 a3 = .next t ∧ Touch 0x410200000000000000000200000000a0000000000000000000c0000000000000000000000000000000000000000000000000000000 a3 t := by
  refine ⟨_, rfl, ?_⟩
  repeat' first
    | with_reducible exact Touch.refl _ _
    | ((with_reducible refine Eq.symm ?_); exact rfl)
    | with_reducible apply Touch.via (pioLockKey_touch _ _ _)

theorem execPioLock_touch (a1 : Requester) (a2 : State) : ∃ t, execPioLock a1 a2 = .next t ∧ Touch 0x400200000000000000000301000000a0000000000000000000c0000000000000000000000000000000000000000000000000000000 a2 t := by
  refine ⟨_, rfl, ?_⟩
  repeat' first
    | with_reducible exact Touch.refl _ _
    | ((with_reducible refine Eq.symm ?_); exact rfl)
    | with_reducible apply Touch.via (pioLock_touch _ _)

theorem execBankSupplyChange_touch (a1 : Fin 4) (a2 : Bool) (a3 : Bool) (a4 : State) : ∃ t, execBankSupplyChange a1 a2 a3 a4 = .next t ∧ Touch 0x200000000000000000000000000000000000000000000000000000000000000000000000000000000000 a4 t := by
  refine ⟨_, rfl, ?_⟩
  repeat' first
    | with_reducible exact Touch.refl _ _
    | ((with_reducible refine Eq.symm ?_); exact rfl)
    | with_reducible apply Touch.via (bankSupply_touch _ _ _ _)

theorem execJtagInstruction_touch (a1 : BitVec 8) (a2 : State) : ∃ t, execJtagInstruction a1 a2 = .next t ∧ Touch 0x100000000000000000000000000000000000000000000000000000000000000000000000000000000000000000000000000000000 a2 t := by
  refine ⟨_, rfl, ?_⟩
  repeat' first
    | with_reducible exact Touch.refl _ _
    | ((with_reducible refine Eq.symm ?_); exact rfl)
    | with_reducible apply Touch.via (jtagInstruction_touch _ _)

end Machine
end Sys2Proof
end

