-- ==== Sys2Proof/Laws/TouchExecPower.lean ====
section
/-! SUPPORT. What each operation of Machine/ExecPower.lean leaves alone. -/
set_option linter.unusedVariables false
set_option Elab.async false
namespace Sys2Proof
namespace Machine

theorem execClockGood_touch (a1 : Fin 421) (a2 : State) : ∃ t, execClockGood a1 a2 = .next t ∧ Touch 0xe81e80000000000000000000022201e0000061000000000100c00244088000000000000030000000000001c000f800000000000000 a2 t := by
  refine ⟨_, rfl, ?_⟩
  repeat' first
    | with_reducible exact Touch.refl _ _
    | ((with_reducible refine Eq.symm ?_); exact rfl)
    | with_reducible apply Touch.via (clockGoodUp_touch _ _)

theorem execClockFail_touch (a1 : Fin 421) (a2 : State) : ∃ t, execClockFail a1 a2 = .next t ∧ Touch 0xfffffffffffffffffff9afffffffffffffffffffffffffffffffffffffffffffffffffffffffffffffffffffffffffffffffffffff a2 t := by
  refine ⟨_, rfl, ?_⟩
  repeat' first
    | with_reducible exact Touch.refl _ _
    | ((with_reducible refine Eq.symm ?_); exact rfl)
    | with_reducible apply Touch.via (clockFail_touch _ _)

theorem execTempSample_touch (a1 : List Byte) (a2 : State) : ∃ t, execTempSample a1 a2 = .next t ∧ Touch 0xfffffffffffffffffff9afffffffffffffffffffffffffffffffffffffffffffffffffffffffffffffffffffffffffffffffffffff a2 t := by
  refine ⟨_, rfl, ?_⟩
  repeat' first
    | with_reducible exact Touch.refl _ _
    | ((with_reducible refine Eq.symm ?_); exact rfl)
    | with_reducible apply Touch.via (tempSample_touch _ _)

theorem execThrottleAdjust_touch (a1 : State) : ∃ t, execThrottleAdjust a1 = .next t ∧ Touch 0xc20000000000000030000002000000000000000000000000c0000000000000000000000000000000000000000000000000000000 a1 t := by
  refine ⟨_, rfl, ?_⟩
  repeat' first
    | with_reducible exact Touch.refl _ _
    | ((with_reducible refine Eq.symm ?_); exact rfl)
    | with_reducible apply Touch.via (throttleAdjust_touch _)

theorem execPwrRecess_touch (a1 : Requester) (a2 : State) : ∃ t, execPwrRecess a1 a2 = .next t ∧ Touch 0xe9cac0000000000000300000020000a0000060000000000000c0000000002000000000000000000000000040000004000000000000 a2 t := by
  refine ⟨_, rfl, ?_⟩
  repeat' first
    | with_reducible exact Touch.refl _ _
    | ((with_reducible refine Eq.symm ?_); exact rfl)
    | with_reducible apply Touch.via (pwrRecess_touch _ _)

theorem execPwrWake_touch (a1 : Requester) (a2 : State) : ∃ t, execPwrWake a1 a2 = .next t ∧ Touch 0x400200000000000000000000020000a0000000000000000000c0000000000000000000000000000000000000000000000000000000 a2 t := by
  refine ⟨_, rfl, ?_⟩
  repeat' first
    | with_reducible exact Touch.refl _ _
    | ((with_reducible refine Eq.symm ?_); exact rfl)
    | with_reducible apply Touch.via (pwrWake_touch _ _)

theorem execGpioWake_touch (a1 : State) : ∃ t, execGpioWake a1 = .next t ∧ Touch 0x200000000000000000000000000000000000000000000000000000000000000000000000000000000 a1 t := by
  refine ⟨_, rfl, ?_⟩
  repeat' first
    | with_reducible exact Touch.refl _ _
    | ((with_reducible refine Eq.symm ?_); exact rfl)
    | with_reducible apply Touch.via (gpioWake_touch _)

theorem execRecessExitDone_touch (a1 : State) : ∃ t, execRecessExitDone a1 = .next t ∧ Touch 0xa9ca8000000000000030000002000000000060000000000000c0000000002100000000000000000000000040000000000000000000 a1 t := by
  refine ⟨_, rfl, ?_⟩
  repeat' first
    | with_reducible exact Touch.refl _ _
    | ((with_reducible refine Eq.symm ?_); exact rfl)
    | with_reducible apply Touch.via (recessExit_touch _)

theorem execEthernetFrame_touch (a1 : State) : ∃ t, execEthernetFrame a1 = .next t ∧ Touch 0x200000000000000000000000000000000000000000000000000000000000000000000000000000000 a1 t := by
  refine ⟨_, rfl, ?_⟩
  repeat' first
    | with_reducible exact Touch.refl _ _
    | ((with_reducible refine Eq.symm ?_); exact rfl)
    | with_reducible apply Touch.via (ethernetFrame_touch _)

end Machine
end Sys2Proof
end

