-- ==== Sys2Proof/Laws/TouchExecRel.lean ====
section
/-! SUPPORT. What each operation of Machine/ExecRel.lean leaves alone. -/
set_option linter.unusedVariables false
set_option Elab.async false
namespace Sys2Proof
namespace Machine

theorem execClassImmediateSubstitute_touch (a1 : Fin 256) (a2 : State) : ∃ t, execClassImmediateSubstitute a1 a2 = .next t ∧ Touch 0x80eef800000000000030000002000140020060000000000020c00000000420006000c00000000000008a000000000440000002153d a2 t := by
  refine ⟨_, rfl, ?_⟩
  repeat' first
    | with_reducible exact Touch.refl _ _
    | ((with_reducible refine Eq.symm ?_); exact rfl)
    | with_reducible apply Touch.via (classImmediate_touch _ _)

theorem execDeclareDead_touch (a1 : Fin 7) (a2 : BitVec 18) (a3 : Fin 7) (a4 : State) : ∃ t, execDeclareDead a1 a2 a3 a4 = .next t ∧ Touch 0xcdeef8000000000000300001020001e0020261000000000120c00244288421006000c004300000a3c0fa4d8408f9047e10000e173d a4 t := by
  refine ⟨_, rfl, ?_⟩
  repeat' first
    | with_reducible exact Touch.refl _ _
    | ((with_reducible refine Eq.symm ?_); exact rfl)
    | with_reducible apply Touch.via (declareDead_touch _ _ _ _)

theorem execEpochStale_touch (a1 : Fin 7) (a2 : BitVec 18) (a3 : BitVec 18) (a4 : BitVec 16) (a5 : BitVec 16) (a6 : State) : ∃ t, execEpochStale a1 a2 a3 a4 a5 a6 = .next t ∧ Touch 0x62000000000000000000000000150000000000000000000c00000000000000000000000000000008a0000000000000000000000 a6 t := by
  refine ⟨_, rfl, ?_⟩
  repeat' first
    | with_reducible exact Touch.refl _ _
    | ((with_reducible refine Eq.symm ?_); exact rfl)
    | with_reducible apply Touch.via (epochStale_touch _ _ _ _ _ _)

theorem execThresholdReached_touch (a1 : Fin 9) (a2 : BitVec 16) (a3 : BitVec 26) (a4 : Fin 15) (a5 : BitVec 40) (a6 : State) : ∃ t, execThresholdReached a1 a2 a3 a4 a5 a6 = .next t ∧ Touch 0xc80e88000000000000000000020001e0020001000000000100c00244288000000000000030000000000011a000f800000000000105 a6 t := by
  refine ⟨_, rfl, ?_⟩
  repeat' first
    | with_reducible exact Touch.refl _ _
    | ((with_reducible refine Eq.symm ?_); exact rfl)
    | with_reducible apply Touch.via (thresholdReached_touch _ _ _ _ _ _)

theorem execSelftest_touch (a1 : Requester) (a2 : BitVec 4) (a3 : BitVec 18) (a4 : State) : ∃ t, execSelftest a1 a2 a3 a4 = .next t ∧ Touch 0x400600000000000000000000000000a0080000000000000000c0000000000000000000000000000000000000000000000000000000 a4 t := by
  refine ⟨_, rfl, ?_⟩
  repeat' first
    | with_reducible exact Touch.refl _ _
    | ((with_reducible refine Eq.symm ?_); exact rfl)
    | with_reducible apply Touch.via (selftest_touch _ _ _ _)

theorem execSelftestDone_touch (a1 : Bool) (a2 : State) : ∃ t, execSelftestDone a1 a2 = .next t ∧ Touch 0x60800000000000000000000000140080000000000000000c0000000000000000000000000000000000000000000000000000000 a2 t := by
  refine ⟨_, rfl, ?_⟩
  repeat' first
    | with_reducible exact Touch.refl _ _
    | ((with_reducible refine Eq.symm ?_); exact rfl)
    | with_reducible apply Touch.via (selftestDone_touch _ _)

theorem execEnrol_touch (a1 : Requester) (a2 : BitVec 4) (a3 : BitVec 18) (a4 : State) : ∃ t, execEnrol a1 a2 a3 a4 = .next t ∧ Touch 0x404600000000000000000000000001e0080000000000000000c0000000002100000000000000000000000000000000000000000001 a4 t := by
  refine ⟨_, rfl, ?_⟩
  repeat' first
    | with_reducible exact Touch.refl _ _
    | ((with_reducible refine Eq.symm ?_); exact rfl)
    | with_reducible apply Touch.via (enrol_touch _ _ _ _)

theorem execEccSelftestStart_touch (a1 : Requester) (a2 : State) : ∃ t, execEccSelftestStart a1 a2 = .next t ∧ Touch 0x400200000000000000000000000000a4000000000000000000c0000000000000000000000000000000000000000000000000000000 a2 t := by
  refine ⟨_, rfl, ?_⟩
  repeat' first
    | with_reducible exact Touch.refl _ _
    | ((with_reducible refine Eq.symm ?_); exact rfl)
    | with_reducible apply Touch.via (eccStart_touch _ _)

theorem execEccSelftestDone_touch (a1 : List (Prod Nat (Prod Nat Nat))) (a2 : State) : ∃ t, execEccSelftestDone a1 a2 = .next t ∧ Touch 0xcdeef8000000000000300001020001e4020261000000000120c00244288421006000c004300000a3c0fa4da408f9047e10000e173d a2 t := by
  refine ⟨_, rfl, ?_⟩
  repeat' first
    | with_reducible exact Touch.refl _ _
    | ((with_reducible refine Eq.symm ?_); exact rfl)
    | with_reducible apply Touch.via (eccDone_touch _ _)

theorem execTokenRenew_touch (a1 : Fin 2) (a2 : BitVec 16) (a3 : State) : ∃ t, execTokenRenew a1 a2 a3 = .next t ∧ Touch 0x14000000000000000000000000000000020020000000000000000000000000000000000000000000000000000000000000000000 a3 t := by
  refine ⟨_, rfl, ?_⟩
  repeat' first
    | with_reducible exact Touch.refl _ _
    | ((with_reducible refine Eq.symm ?_); exact rfl)
    | with_reducible apply Touch.via (tokenRenew_touch _ _ _)

theorem execHeartbeat_touch (a1 : Fin 2) (a2 : Fin 2) (a3 : State) : ∃ t, execHeartbeat a1 a2 a3 = .next t ∧ Touch 0x4000000000000000000000000000000020000000000000000000000000000000000000000000000000000000000000000000000 a3 t := by
  refine ⟨_, rfl, ?_⟩
  repeat' first
    | with_reducible exact Touch.refl _ _
    | ((with_reducible refine Eq.symm ?_); exact rfl)
    | with_reducible apply Touch.via (heartbeat_touch _ _ _)

theorem execHeartbeatTimeout_touch (a1 : Fin 2) (a2 : BitVec 2) (a3 : State) : ∃ t, execHeartbeatTimeout a1 a2 a3 = .next t ∧ Touch 0xc41688000000000000000000400001e0028200200000000000c000000000000000000000000000000000000000000000000000013d a3 t := by
  refine ⟨_, rfl, ?_⟩
  repeat' first
    | with_reducible exact Touch.refl _ _
    | ((with_reducible refine Eq.symm ?_); exact rfl)
    | with_reducible apply Touch.via (heartbeatTimeout_touch _ _ _)

theorem execProctorWatchdogExpiry_touch (a1 : Fin 2) (a2 : State) : ∃ t, execProctorWatchdogExpiry a1 a2 = .next t ∧ Touch 0x14000000000000000000000000000000000020000000000000000000000000000000000000000000000000000000000000000000 a2 t := by
  refine ⟨_, rfl, ?_⟩
  repeat' first
    | with_reducible exact Touch.refl _ _
    | ((with_reducible refine Eq.symm ?_); exact rfl)
    | with_reducible apply Touch.via (proctorStops_touch _ _)

theorem execLockstepMismatch_touch (a1 : Fin 2) (a2 : State) : ∃ t, execLockstepMismatch a1 a2 = .next t ∧ Touch 0x14000000000000000000000000000000000020000000000000000000000000000000000000000000000000000000000000000000 a2 t := by
  refine ⟨_, rfl, ?_⟩
  repeat' first
    | with_reducible exact Touch.refl _ _
    | ((with_reducible refine Eq.symm ?_); exact rfl)
    | with_reducible apply Touch.via (proctorStops_touch _ _)

theorem execFailMsg_touch (a1 : Fin 2) (a2 : State) : ∃ t, execFailMsg a1 a2 = .next t ∧ Touch 0xc41688000000000000000000400001e0028200200000000000c000000000000000000000000000000000000000000000000000013d a2 t := by
  refine ⟨_, rfl, ?_⟩
  repeat' first
    | with_reducible exact Touch.refl _ _
    | ((with_reducible refine Eq.symm ?_); exact rfl)
    | with_reducible apply Touch.via (failMsg_touch _ _)

theorem execLoadStandby_touch (a1 : Requester) (a2 : State) : ∃ t, execLoadStandby a1 a2 = .next t ∧ Touch 0x400600000000000000000000000000a0000200000000000000c0000000000000000000000000000000000000000000000000000000 a2 t := by
  refine ⟨_, rfl, ?_⟩
  repeat' first
    | with_reducible exact Touch.refl _ _
    | ((with_reducible refine Eq.symm ?_); exact rfl)
    | with_reducible apply Touch.via (loadStandby_touch _ _)

theorem execSwitch_touch (a1 : Requester) (a2 : State) : ∃ t, execSwitch a1 a2 = .next t ∧ Touch 0xc41688000000000000000000400001e0028200200000000000c000000000000000000000000000000000000000000000000000013d a2 t := by
  refine ⟨_, rfl, ?_⟩
  repeat' first
    | with_reducible exact Touch.refl _ _
    | ((with_reducible refine Eq.symm ?_); exact rfl)
    | with_reducible apply Touch.via (switchProctor_touch _ _)

theorem execReload_touch (a1 : Requester) (a2 : Fin 2) (a3 : State) : ∃ t, execReload a1 a2 a3 = .next t ∧ Touch 0x400600000000000000000000000000a0000200000000000000c0000000000000000000000000000000000000000000000000000000 a3 t := by
  refine ⟨_, rfl, ?_⟩
  repeat' first
    | with_reducible exact Touch.refl _ _
    | ((with_reducible refine Eq.symm ?_); exact rfl)
    | with_reducible apply Touch.via (reload_touch _ _ _)

theorem execProctorFirmwareLoaded_touch (a1 : Fin 2) (a2 : List Byte) (a3 : List Byte) (a4 : Bool) (a5 : Bool) (a6 : BitVec 48) (a7 : State) : ∃ t, execProctorFirmwareLoaded a1 a2 a3 a4 a5 a6 a7 = .next t ∧ Touch 0xedfef8000000000000302001420001e0028261200000000120c00244088421006000c004300000a3c0fa4dc408f9047e10000e173d a7 t := by
  refine ⟨_, rfl, ?_⟩
  repeat' first
    | with_reducible exact Touch.refl _ _
    | ((with_reducible refine Eq.symm ?_); exact rfl)
    | with_reducible apply Touch.via (fwLoaded_touch _ _ _ _ _ _ _)

theorem execHallMonitorTakeover_touch (a1 : State) : ∃ t, execHallMonitorTakeover a1 = .next t ∧ Touch 0x160000000000000000000040000140008200200000000000c0000000000000000000000000000000000000000000000000000000 a1 t := by
  refine ⟨_, rfl, ?_⟩
  repeat' first
    | with_reducible exact Touch.refl _ _
    | ((with_reducible refine Eq.symm ?_); exact rfl)
    | with_reducible apply Touch.via (hallTakeover_touch _)

end Machine
end Sys2Proof
end

