-- ==== Sys2Proof/Laws/TouchExecReset.lean ====
section
/-! SUPPORT. What each operation of Machine/ExecReset.lean leaves alone. -/
set_option linter.unusedVariables false
set_option Elab.async false
namespace Sys2Proof
namespace Machine

theorem execBootPush_touch (a1 : Requester) (a2 : BitVec 32) (a3 : State) : ∃ t, execBootPush a1 a2 a3 = .next t ∧ Touch 0x440200000000000000000000000000a0000000000000000000c0000000000000000000000000000000000000000000000000000000 a3 t := by
  refine ⟨_, rfl, ?_⟩
  repeat' first
    | with_reducible exact Touch.refl _ _
    | ((with_reducible refine Eq.symm ?_); exact rfl)
    | with_reducible apply Touch.via (bootPush_touch _ _ _)

theorem execLcAdvanceDone_touch (a1 : State) : ∃ t, execLcAdvanceDone a1 = .next t ∧ Touch 0xfffffffffffffffffff9afffffffffffffffffffffffffffffffffffffffffffffffffffffffffffffffffffffffffffffffffffff a1 t := by
  refine ⟨_, rfl, ?_⟩
  repeat' first
    | with_reducible exact Touch.refl _ _
    | ((with_reducible refine Eq.symm ?_); exact rfl)
    | with_reducible apply Touch.via (lcAdvanceDone_touch _)

theorem execCoreWatchdogExpiry_touch (a1 : Fin 64) (a2 : State) : ∃ t, execCoreWatchdogExpiry a1 a2 = .next t ∧ Touch 0xe80e80000000000000000000020003e0000001000000000100c002440880000000000000300000000000018000f800000000000000 a2 t := by
  refine ⟨_, rfl, ?_⟩
  repeat' first
    | with_reducible exact Touch.refl _ _
    | ((with_reducible refine Eq.symm ?_); exact rfl)
    | with_reducible apply Touch.via (coreWatchdog_touch _ _)

theorem execPowerOn_touch (a1 : State) : ∃ t, execPowerOn a1 = .next t ∧ Touch 0xfffffffffffffffffff9afffffffffffffffffffffffffffffffffffffffffffffffffffffffffffffffffffffffffffffffffffff a1 t := by
  refine ⟨_, rfl, ?_⟩
  repeat' first
    | with_reducible exact Touch.refl _ _
    | ((with_reducible refine Eq.symm ?_); exact rfl)
    | with_reducible apply Touch.via (powerOn_touch _)

theorem execBrownOut_touch (a1 : Fin 11) (a2 : State) : ∃ t, execBrownOut a1 a2 = .next t ∧ Touch 0xfffffffffffffffffff9afffffffffffffffffffffffffffffffffffffffffffffffffffffffffffffffffffffffffffffffffffff a2 t := by
  refine ⟨_, rfl, ?_⟩
  repeat' first
    | with_reducible exact Touch.refl _ _
    | ((with_reducible refine Eq.symm ?_); exact rfl)
    | with_reducible apply Touch.via (brownOut_touch _ _)

theorem execRailGood_touch (a1 : Fin 11) (a2 : State) : ∃ t, execRailGood a1 a2 = .next t ∧ Touch 0x2000000000000000000000000040000000000000000000000000000000000000000000000000000000000000000000000000000000 a2 t := by
  refine ⟨_, rfl, ?_⟩
  repeat' first
    | with_reducible exact Touch.refl _ _
    | ((with_reducible refine Eq.symm ?_); exact rfl)
    | with_reducible apply Touch.via (railGood_touch _ _)

theorem execResetNAssert_touch (a1 : State) : ∃ t, execResetNAssert a1 = .next t ∧ Touch 0xfffffffffffffffffff9afffffffffffffffffffffffffffffffffffffffffffffffffffffffffffffffffffffffffffffffffffff a1 t := by
  refine ⟨_, rfl, ?_⟩
  repeat' first
    | with_reducible exact Touch.refl _ _
    | ((with_reducible refine Eq.symm ?_); exact rfl)
    | with_reducible apply Touch.via (resetNAssert_touch _)

theorem execResetNRelease_touch (a1 : State) : ∃ t, execResetNRelease a1 = .next t ∧ Touch 0x2000000000000000000000000000000000000000000000000000000000000000000000000000000000000000000000000000000000 a1 t := by
  refine ⟨_, rfl, ?_⟩
  repeat' first
    | with_reducible exact Touch.refl _ _
    | ((with_reducible refine Eq.symm ?_); exact rfl)
    | with_reducible apply Touch.via (resetNRelease_touch _)

theorem execDeviceWatchdogExpiry_touch (a1 : State) : ∃ t, execDeviceWatchdogExpiry a1 = .next t ∧ Touch 0xfffffffffffffffffff9afffffffffffffffffffffffffffffffffffffffffffffffffffffffffffffffffffffffffffffffffffff a1 t := by
  refine ⟨_, rfl, ?_⟩
  repeat' first
    | with_reducible exact Touch.refl _ _
    | ((with_reducible refine Eq.symm ?_); exact rfl)
    | with_reducible apply Touch.via (dwdogExpiry_touch _)

theorem execDwdogKick_touch (a1 : Requester) (a2 : BitVec 8) (a3 : State) : ∃ t, execDwdogKick a1 a2 a3 = .next t ∧ Touch 0x400200000000000000000000400000a0000000000000000000c0000000000000000000000000000000000000000000000000000000 a3 t := by
  refine ⟨_, rfl, ?_⟩
  repeat' first
    | with_reducible exact Touch.refl _ _
    | ((with_reducible refine Eq.symm ?_); exact rfl)
    | with_reducible apply Touch.via (dwdogKick_touch _ _ _)

theorem execDwdogCfgWrite_touch (a1 : Requester) (a2 : BitVec 32) (a3 : State) : ∃ t, execDwdogCfgWrite a1 a2 a3 = .next t ∧ Touch 0x400200000000000000000000500000a0000000000000000000c0000000000000000000000000000000000000000000000000000000 a3 t := by
  refine ⟨_, rfl, ?_⟩
  repeat' first
    | with_reducible exact Touch.refl _ _
    | ((with_reducible refine Eq.symm ?_); exact rfl)
    | with_reducible apply Touch.via (dwdogCfg_touch _ _ _)

theorem execSwreq_touch (a1 : Requester) (a2 : BitVec 2) (a3 : State) : ∃ t, execSwreq a1 a2 a3 = .next t ∧ Touch 0xfffffffffffffffffff9afffffffffffffffffffffffffffffffffffffffffffffffffffffffffffffffffffffffffffffffffffff a3 t := by
  refine ⟨_, rfl, ?_⟩
  repeat' first
    | with_reducible exact Touch.refl _ _
    | ((with_reducible refine Eq.symm ?_); exact rfl)
    | with_reducible apply Touch.via (swReq_touch _ _ _)

theorem execDbgreqPulse_touch (a1 : Requester) (a2 : State) : ∃ t, execDbgreqPulse a1 a2 = .next t ∧ Touch 0xfffffffffffffffffff9afffffffffffffffffffffffffffffffffffffffffffffffffffffffffffffffffffffffffffffffffffff a2 t := by
  refine ⟨_, rfl, ?_⟩
  repeat' first
    | with_reducible exact Touch.refl _ _
    | ((with_reducible refine Eq.symm ?_); exact rfl)
    | with_reducible apply Touch.via (dbgreqPulse_touch _ _)

theorem execDbgreqHold_touch (a1 : Requester) (a2 : Bool) (a3 : State) : ∃ t, execDbgreqHold a1 a2 a3 = .next t ∧ Touch 0xfffffffffffffffffff9afffffffffffffffffffffffffffffffffffffffffffffffffffffffffffffffffffffffffffffffffffff a3 t := by
  refine ⟨_, rfl, ?_⟩
  repeat' first
    | with_reducible exact Touch.refl _ _
    | ((with_reducible refine Eq.symm ?_); exact rfl)
    | with_reducible apply Touch.via (dbgreqHold_touch _ _ _)

theorem execRstUnitWrite_touch (a1 : Requester) (a2 : Fin 11) (a3 : BitVec 32) (a4 : State) : ∃ t, execRstUnitWrite a1 a2 a3 a4 = .next t ∧ Touch 0xedfef800000000000030000d0203f1e0020061000000000120c00244088421006020c784300000a3c0fa4dc408f9047e10000e16fd a4 t := by
  refine ⟨_, rfl, ?_⟩
  repeat' first
    | with_reducible exact Touch.refl _ _
    | ((with_reducible refine Eq.symm ?_); exact rfl)
    | with_reducible apply Touch.via (rstUnitWrite_touch _ _ _ _)

theorem execResetSourceTimeout_touch (a1 : Fin 8) (a2 : Fin 64) (a3 : State) : ∃ t, execResetSourceTimeout a1 a2 a3 = .next t ∧ Touch 0xe81e80000000000000000000020001e0000061000000000100c002440880000000000000300000000000018000f800000000000000 a3 t := by
  refine ⟨_, rfl, ?_⟩
  repeat' first
    | with_reducible exact Touch.refl _ _
    | ((with_reducible refine Eq.symm ?_); exact rfl)
    | with_reducible apply Touch.via (sourceTimeout_touch _ _ _)

theorem execReleaseStep_touch (a1 : BitVec 3) (a2 : BitVec 2) (a3 : State) : ∃ t, execReleaseStep a1 a2 a3 = .next t ∧ Touch 0x20460000000000000000000040060140000200000000000000c0000000002100000000000000000000000000000000000000000000 a3 t := by
  refine ⟨_, rfl, ?_⟩
  repeat' first
    | with_reducible exact Touch.refl _ _
    | ((with_reducible refine Eq.symm ?_); exact rfl)
    | with_reducible apply Touch.via (releaseStep_touch _ _ _)

theorem execWritePulseEnd_touch (a1 : Bool) (a2 : State) : ∃ t, execWritePulseEnd a1 a2 = .next t ∧ Touch 0xfffffffffffffffffff9afffffffffffffffffffffffffffffffffffffffffffffffffffffffffffffffffffffffffffffffffffff a2 t := by
  refine ⟨_, rfl, ?_⟩
  repeat' first
    | with_reducible exact Touch.refl _ _
    | ((with_reducible refine Eq.symm ?_); exact rfl)
    | with_reducible apply Touch.via (writePulseEnd_touch _ _)

theorem execMtvecFetchFault_touch (a1 : Fin 64) (a2 : State) : ∃ t, execMtvecFetchFault a1 a2 = .next t ∧ Touch 0xe80e80000000000000000000020003e0000001000000000100c002440880000000000000300000000000018000f800000000000000 a2 t := by
  refine ⟨_, rfl, ?_⟩
  repeat' first
    | with_reducible exact Touch.refl _ _
    | ((with_reducible refine Eq.symm ?_); exact rfl)
    | with_reducible apply Touch.via (mtvecFault_touch _ _)

theorem execHbmStackTrained_touch (a1 : State) : ∃ t, execHbmStackTrained a1 = .next t ∧ Touch 0x2000000040000000000000000000 a1 t := by
  refine ⟨_, rfl, ?_⟩
  repeat' first
    | with_reducible exact Touch.refl _ _
    | ((with_reducible refine Eq.symm ?_); exact rfl)
    | with_reducible apply Touch.via (hbmStackTrained_touch _)

end Machine
end Sys2Proof
end

