-- ==== Sys2Proof/Laws/TouchExecStep.lean ====
section
/-! SUPPORT. What each operation of Machine/ExecStep.lean leaves alone. -/
set_option linter.unusedVariables false
set_option Elab.async false
namespace Sys2Proof
namespace Machine

theorem execStep_touch (a1 : Fin 16) (a2 : List (Fin 256)) (a3 : State) : ∃ t, execStep a1 a2 a3 = .next t ∧ Touch 0x837efc00000000000000000000000140000060000000000020c0000000000c406000ca80f2200000008a818030f08401e0000ca438 a3 t := by
  refine ⟨_, rfl, ?_⟩
  repeat' first
    | with_reducible exact Touch.refl _ _
    | ((with_reducible refine Eq.symm ?_); exact rfl)
    | with_reducible apply Touch.via (partStep_touch _ _ _)

theorem execGapStep_touch (a1 : Fin 16) (a2 : State) : ∃ t, execGapStep a1 a2 = .next t ∧ Touch 0x837efc000000000000000000000001e0020060000000000020c0000000000c406000ca9cf2240000008a800000008401e0000eb53d a2 t := by
  refine ⟨_, rfl, ?_⟩
  repeat' first
    | with_reducible exact Touch.refl _ _
    | ((with_reducible refine Eq.symm ?_); exact rfl)
    | with_reducible apply Touch.via (gapStep_touch _ _)

theorem execFaultRequestArrival_touch (a1 : Fin 16) (a2 : State) : ∃ t, execFaultRequestArrival a1 a2 = .next t ∧ Touch 0x220640000000000000000000000000000000000000000000000000000000000000000000000000000000000000004000000000400 a2 t := by
  refine ⟨_, rfl, ?_⟩
  repeat' first
    | with_reducible exact Touch.refl _ _
    | ((with_reducible refine Eq.symm ?_); exact rfl)
    | with_reducible apply Touch.via (faultRequestArrival_touch _ _)

theorem execFreezePoint_touch (a1 : Fin 16) (a2 : State) : ∃ t, execFreezePoint a1 a2 = .next t ∧ Touch 0x822ae400000000000000000000000000000060000000000000c00000000000000000000000000000008a000000013c800000000400 a2 t := by
  refine ⟨_, rfl, ?_⟩
  repeat' first
    | with_reducible exact Touch.refl _ _
    | ((with_reducible refine Eq.symm ?_); exact rfl)
    | with_reducible apply Touch.via (freezePoint_touch _ _)

theorem execResumePoint_touch (a1 : Fin 16) (a2 : State) : ∃ t, execResumePoint a1 a2 = .next t ∧ Touch 0x822ae400000000000000000000000000000060000000000000c00000000000000000000000000000000000000000440000000c1400 a2 t := by
  refine ⟨_, rfl, ?_⟩
  repeat' first
    | with_reducible exact Touch.refl _ _
    | ((with_reducible refine Eq.symm ?_); exact rfl)
    | with_reducible apply Touch.via (resumePointEvent_touch _ _)

theorem execChainResumeDelayExpiry_touch (a1 : Fin 16) (a2 : State) : ∃ t, execChainResumeDelayExpiry a1 a2 = .next t ∧ Touch 0x822ae400000000000000000000000000000060000000000000c00000000000000000000000000000000000000000440000000c1400 a2 t := by
  refine ⟨_, rfl, ?_⟩
  repeat' first
    | with_reducible exact Touch.refl _ _
    | ((with_reducible refine Eq.symm ?_); exact rfl)
    | with_reducible apply Touch.via (chainResumeEvent_touch _ _)

theorem execDrainDone_touch (a1 : Fin 16) (a2 : State) : ∃ t, execDrainDone a1 a2 = .next t ∧ Touch 0xc880000000000000000000000000002000000000000000000000000000000000000183000000000000000000000000000001405 a2 t := by
  refine ⟨_, rfl, ?_⟩
  repeat' first
    | with_reducible exact Touch.refl _ _
    | ((with_reducible refine Eq.symm ?_); exact rfl)
    | with_reducible apply Touch.via (drainDone_touch _ _)

theorem execRewindDone_touch (a1 : Fin 16) (a2 : State) : ∃ t, execRewindDone a1 a2 = .next t ∧ Touch 0x837efc000000000000000000000001e0020060000000000020c0000000000c406000ca9cf2240000008a800000008401e0001eb53d a2 t := by
  refine ⟨_, rfl, ?_⟩
  repeat' first
    | with_reducible exact Touch.refl _ _
    | ((with_reducible refine Eq.symm ?_); exact rfl)
    | with_reducible apply Touch.via (rewindDone_touch _ _)

theorem execDesignTrigger_touch (a1 : Fin 16) (a2 : State) : ∃ t, execDesignTrigger a1 a2 = .next t ∧ Touch 0x823ae400000000000000000000000000000060000000000000c000000000000000000000c220000000000000000000000000000400 a2 t := by
  refine ⟨_, rfl, ?_⟩
  repeat' first
    | with_reducible exact Touch.refl _ _
    | ((with_reducible refine Eq.symm ?_); exact rfl)
    | with_reducible apply Touch.via (designTriggerEvent_touch _ _)

theorem execBindingPresent_touch (a1 : Fin 16) (a2 : State) : ∃ t, execBindingPresent a1 a2 = .next t ∧ Touch 0x220540000000000000000000000000000000000000000000000000000000000000000000000000000000000000000000000000000 a2 t := by
  refine ⟨_, rfl, ?_⟩
  repeat' first
    | with_reducible exact Touch.refl _ _
    | ((with_reducible refine Eq.symm ?_); exact rfl)
    | with_reducible apply Touch.via (bindingEvent_touch _ _)

end Machine
end Sys2Proof
end

