-- ==== Sys2Proof/Laws/TouchExecStopwatch.lean ====
section
/-! SUPPORT. What each operation of Machine/ExecStopwatch.lean leaves alone. -/
set_option linter.unusedVariables false
set_option Elab.async false
namespace Sys2Proof
namespace Machine

theorem execStwEdge_touch (a1 : Fin 64) (a2 : Bool) (a3 : BitVec 64) (a4 : State) : ∃ t, execStwEdge a1 a2 a3 a4 = .next t ∧ Touch 0x20000000000000000000000000000000000000000000000000000000000000000040000000000000000000000000000000000000 a4 t := by
  refine ⟨_, rfl, ?_⟩
  repeat' first
    | with_reducible exact Touch.refl _ _
    | ((with_reducible refine Eq.symm ?_); exact rfl)
    | with_reducible apply Touch.via (stwEdge_touch _ _ _ _)

theorem execRecordEnd_touch (a1 : Fin 64) (a2 : State) : ∃ t, execRecordEnd a1 a2 = .next t ∧ Touch 0x80288000000000000000000000000000000060000000000000000000000000406000ca800000000000000000000000000000000000 a2 t := by
  refine ⟨_, rfl, ?_⟩
  repeat' first
    | with_reducible exact Touch.refl _ _
    | ((with_reducible refine Eq.symm ?_); exact rfl)
    | with_reducible apply Touch.via (recordEnd_touch _ _)

theorem execTdcHandover_touch (a1 : Fin 2) (a2 : Option Int) (a3 : State) : ∃ t, execTdcHandover a1 a2 a3 = .next t ∧ Touch 0x260000000000000000000000000140000000000000000000c0000000000040040040000000000000000000000000000000000000 a3 t := by
  refine ⟨_, rfl, ?_⟩
  repeat' first
    | with_reducible exact Touch.refl _ _
    | ((with_reducible refine Eq.symm ?_); exact rfl)
    | with_reducible apply Touch.via (tdcHandover_touch _ _ _)

theorem execTdcCalDone_touch (a1 : Fin 68) (a2 : Bool) (a3 : State) : ∃ t, execTdcCalDone a1 a2 a3 = .next t ∧ Touch 0x260000000000000000000000000140000000000000000000c0000000000040040040000000000000000000000000000000000000 a3 t := by
  refine ⟨_, rfl, ?_⟩
  repeat' first
    | with_reducible exact Touch.refl _ _
    | ((with_reducible refine Eq.symm ?_); exact rfl)
    | with_reducible apply Touch.via (tdcCalDone_touch _ _ _)

theorem execTriggerFire_touch (a1 : Fin 16) (a2 : State) : ∃ t, execTriggerFire a1 a2 = .next t ∧ Touch 0x803aa000000000000000000000000000000060000000000000c000000000000080600000c220000000000000000000000000000400 a2 t := by
  refine ⟨_, rfl, ?_⟩
  repeat' first
    | with_reducible exact Touch.refl _ _
    | ((with_reducible refine Eq.symm ?_); exact rfl)
    | with_reducible apply Touch.via (triggerFire_touch _ _)

theorem execTriggerTimeout_touch (a1 : Fin 16) (a2 : State) : ∃ t, execTriggerTimeout a1 a2 = .next t ∧ Touch 0x20000000000000000000000000000000000000000000000000000000000000000000000000000000000000000000000000000000 a2 t := by
  refine ⟨_, rfl, ?_⟩
  repeat' first
    | with_reducible exact Touch.refl _ _
    | ((with_reducible refine Eq.symm ?_); exact rfl)
    | with_reducible apply Touch.via (triggerTimeout_touch _ _)

theorem execInstrLineRelease_touch (a1 : Fin 16) (a2 : Bool) (a3 : State) : ∃ t, execInstrLineRelease a1 a2 a3 = .next t ∧ Touch 0x20000000000000000000000000000000000000000000000000000000000000800000000000000000000000000000000000000000 a3 t := by
  refine ⟨_, rfl, ?_⟩
  repeat' first
    | with_reducible exact Touch.refl _ _
    | ((with_reducible refine Eq.symm ?_); exact rfl)
    | with_reducible apply Touch.via (instrLineRelease_touch _ _ _)

theorem execInstrLineEdge_touch (a1 : Fin 8) (a2 : Bool) (a3 : BitVec 64) (a4 : State) : ∃ t, execInstrLineEdge a1 a2 a3 a4 = .next t ∧ Touch 0x20000000000000000000000000000000000000000000000000000000000000800000000000000000000000000000000000000000 a4 t := by
  refine ⟨_, rfl, ?_⟩
  repeat' first
    | with_reducible exact Touch.refl _ _
    | ((with_reducible refine Eq.symm ?_); exact rfl)
    | with_reducible apply Touch.via (instrLineEdge_touch _ _ _ _)

theorem execStwInEnable_touch (a1 : Requester) (a2 : Fin 64) (a3 : State) : ∃ t, execStwInEnable a1 a2 a3 = .next t ∧ Touch 0x400200000000000000000000000000a0000000000000000000c0000000000000000040000000000000000000000000000000000000 a3 t := by
  refine ⟨_, rfl, ?_⟩
  repeat' first
    | with_reducible exact Touch.refl _ _
    | ((with_reducible refine Eq.symm ?_); exact rfl)
    | with_reducible apply Touch.via (stwInEnable_touch _ _ _)

theorem execStwInArm_touch (a1 : Requester) (a2 : Fin 64) (a3 : State) : ∃ t, execStwInArm a1 a2 a3 = .next t ∧ Touch 0x402200000000000000000000000000a0000000000000000000c000000000004000004a800000000000000000000000000000000000 a3 t := by
  refine ⟨_, rfl, ?_⟩
  repeat' first
    | with_reducible exact Touch.refl _ _
    | ((with_reducible refine Eq.symm ?_); exact rfl)
    | with_reducible apply Touch.via (stwInArm_touch _ _ _)

theorem execStwInStop_touch (a1 : Requester) (a2 : Fin 64) (a3 : State) : ∃ t, execStwInStop a1 a2 a3 = .next t ∧ Touch 0xc02a80000000000000000000000000a0000060000000000000c00000000000006000c0000000000000000000000000000000000000 a3 t := by
  refine ⟨_, rfl, ?_⟩
  repeat' first
    | with_reducible exact Touch.refl _ _
    | ((with_reducible refine Eq.symm ?_); exact rfl)
    | with_reducible apply Touch.via (stwInStop_touch _ _ _)

theorem execStwInDisable_touch (a1 : Requester) (a2 : Fin 64) (a3 : State) : ∃ t, execStwInDisable a1 a2 a3 = .next t ∧ Touch 0x400200000000000000000000000000a0000000000000000000c0000000000000000040000000000000000000000000000000000000 a3 t := by
  refine ⟨_, rfl, ?_⟩
  repeat' first
    | with_reducible exact Touch.refl _ _
    | ((with_reducible refine Eq.symm ?_); exact rfl)
    | with_reducible apply Touch.via (stwInDisable_touch _ _ _)

theorem execStwTrgArm_touch (a1 : Requester) (a2 : Fin 16) (a3 : State) : ∃ t, execStwTrgArm a1 a2 a3 = .next t ∧ Touch 0x402200000000000000000000000000a0000000000000000000c0000000000000002000000000000000000000000000000000000000 a3 t := by
  refine ⟨_, rfl, ?_⟩
  repeat' first
    | with_reducible exact Touch.refl _ _
    | ((with_reducible refine Eq.symm ?_); exact rfl)
    | with_reducible apply Touch.via (stwTrgArm_touch _ _ _)

theorem execStwTrgDisarm_touch (a1 : Requester) (a2 : Fin 16) (a3 : State) : ∃ t, execStwTrgDisarm a1 a2 a3 = .next t ∧ Touch 0x402200000000000000000000000000a0000000000000000000c0000000000000002000000000000000000000000000000000000000 a3 t := by
  refine ⟨_, rfl, ?_⟩
  repeat' first
    | with_reducible exact Touch.refl _ _
    | ((with_reducible refine Eq.symm ?_); exact rfl)
    | with_reducible apply Touch.via (stwTrgDisarm_touch _ _ _)

theorem execStwTrgForce_touch (a1 : Requester) (a2 : Fin 16) (a3 : State) : ∃ t, execStwTrgForce a1 a2 a3 = .next t ∧ Touch 0xc03aa0000000000000000000000000a0000060000000000000c000000000000080600000c220000000000000000000000000000400 a3 t := by
  refine ⟨_, rfl, ?_⟩
  repeat' first
    | with_reducible exact Touch.refl _ _
    | ((with_reducible refine Eq.symm ?_); exact rfl)
    | with_reducible apply Touch.via (stwTrgForce_touch _ _ _)

theorem execCalStart_touch (a1 : Requester) (a2 : State) : ∃ t, execCalStart a1 a2 = .next t ∧ Touch 0x400200000000000000000000000000a0000000000000000000c0000000000000040000000000000000000000000000000000000000 a2 t := by
  refine ⟨_, rfl, ?_⟩
  repeat' first
    | with_reducible exact Touch.refl _ _
    | ((with_reducible refine Eq.symm ?_); exact rfl)
    | with_reducible apply Touch.via (calStart_touch _ _)

theorem execCalStop_touch (a1 : Requester) (a2 : State) : ∃ t, execCalStop a1 a2 = .next t ∧ Touch 0x400200000000000000000000000000a0000000000000000000c0000000000000040000000000000000000000000000000000000000 a2 t := by
  refine ⟨_, rfl, ?_⟩
  repeat' first
    | with_reducible exact Touch.refl _ _
    | ((with_reducible refine Eq.symm ?_); exact rfl)
    | with_reducible apply Touch.via (calStop_touch _ _)

theorem execTbLatch_touch (a1 : Requester) (a2 : State) : ∃ t, execTbLatch a1 a2 = .next t ∧ Touch 0x400200000000000000000000000000a0000000000000000000c000000000003e000000000000000000000000000000000000000000 a2 t := by
  refine ⟨_, rfl, ?_⟩
  repeat' first
    | with_reducible exact Touch.refl _ _
    | ((with_reducible refine Eq.symm ?_); exact rfl)
    | with_reducible apply Touch.via (tbLatch_touch _ _)

theorem execMailboxPost_touch (a1 : Requester) (a2 : Fin 64) (a3 : BitVec 32) (a4 : State) : ∃ t, execMailboxPost a1 a2 a3 a4 = .next t ∧ Touch 0x400260000000000000000000000000a0000000000000000030c0000000000000000000000000000000000000000004000000000000 a4 t := by
  refine ⟨_, rfl, ?_⟩
  repeat' first
    | with_reducible exact Touch.refl _ _
    | ((with_reducible refine Eq.symm ?_); exact rfl)
    | with_reducible apply Touch.via (mailboxPost_touch _ _ _ _)

theorem execTdcSelfCheckFail_touch (a1 : Fin 68) (a2 : State) : ∃ t, execTdcSelfCheckFail a1 a2 = .next t ∧ Touch 0x260000000000000000000000000140000000000000000000c0000000000040040040000000000000000000000000000000000000 a2 t := by
  refine ⟨_, rfl, ?_⟩
  repeat' first
    | with_reducible exact Touch.refl _ _
    | ((with_reducible refine Eq.symm ?_); exact rfl)
    | with_reducible apply Touch.via (tdcSelfCheckFail_touch _ _)

end Machine
end Sys2Proof
end

