-- ==== Sys2Proof/Laws/TouchExecTempo.lean ====
section
/-! SUPPORT. What each operation of Machine/ExecTempo.lean leaves alone. -/
set_option linter.unusedVariables false
set_option Elab.async false
namespace Sys2Proof
namespace Machine

theorem execTempoInputEdge_touch (a1 : Fin 4) (a2 : Bool) (a3 : State) : ∃ t, execTempoInputEdge a1 a2 a3 = .next t ∧ Touch 0x2422000000000000000000000000000000000000000000000c00000000000000000000000000000008a00000000000000080c0000 a3 t := by
  refine ⟨_, rfl, ?_⟩
  repeat' first
    | with_reducible exact Touch.refl _ _
    | ((with_reducible refine Eq.symm ?_); exact rfl)
    | with_reducible apply Touch.via (tempoInputEdge_touch _ _ _)

theorem execGeneratorTick_touch (a1 : Fin 4) (a2 : State) : ∃ t, execGeneratorTick a1 a2 = .next t ∧ Touch 0x2422000000000000000000000000000000000000000000000c00000000000000000000000000000008a00000000000000100c0000 a2 t := by
  refine ⟨_, rfl, ?_⟩
  repeat' first
    | with_reducible exact Touch.refl _ _
    | ((with_reducible refine Eq.symm ?_); exact rfl)
    | with_reducible apply Touch.via (generatorTick_touch _ _)

theorem execChainTempo_touch (a1 : Fin 8) (a2 : BitVec 48) (a3 : State) : ∃ t, execChainTempo a1 a2 a3 = .next t ∧ Touch 0x422000000000000000000000000000000000000000000000c00000000008000000000000000000008a00000000000000000c0000 a3 t := by
  refine ⟨_, rfl, ?_⟩
  repeat' first
    | with_reducible exact Touch.refl _ _
    | ((with_reducible refine Eq.symm ?_); exact rfl)
    | with_reducible apply Touch.after (whileAlive_touch ?_ _ _ _ ?_)
    | with_reducible apply Touch.via (chainTempo_touch _ _ _)
    | intro _

theorem execBellStart_touch (a1 : Fin 16) (a2 : State) : ∃ t, execBellStart a1 a2 = .next t ∧ Touch 0x822efc00000000000000000100000000000060000000000000c000000000000000000000f020000000000000000000000000340400 a2 t := by
  refine ⟨_, rfl, ?_⟩
  repeat' first
    | with_reducible exact Touch.refl _ _
    | ((with_reducible refine Eq.symm ?_); exact rfl)
    | with_reducible apply Touch.via (bellStart_touch _ _)

theorem execTempoOutFall_touch (a1 : State) : ∃ t, execTempoOutFall a1 = .next t ∧ Touch 0x220440000000000000000000000000000000000000000000000000000000000000000000000000000000000000000000000000000 a1 t := by
  refine ⟨_, rfl, ?_⟩
  repeat' first
    | with_reducible exact Touch.refl _ _
    | ((with_reducible refine Eq.symm ?_); exact rfl)
    | with_reducible apply Touch.via (tempoOutFall_touch _)

theorem execTempoStall_touch (a1 : Fin 16) (a2 : State) : ∃ t, execTempoStall a1 a2 = .next t ∧ Touch 0x20000000000000000000000000000000000000000000000c0000000000000000000000000000000000000000000000000040000 a2 t := by
  refine ⟨_, rfl, ?_⟩
  repeat' first
    | with_reducible exact Touch.refl _ _
    | ((with_reducible refine Eq.symm ?_); exact rfl)
    | with_reducible apply Touch.via (tempoStall_touch _ _)

theorem execGenCtlWrite_touch (a1 : Requester) (a2 : Fin 4) (a3 : BitVec 32) (a4 : State) : ∃ t, execGenCtlWrite a1 a2 a3 a4 = .next t ∧ Touch 0x420200000000000000000000000000a0000000000000000000c0000000000000000000000000000000000000000000000010000000 a4 t := by
  refine ⟨_, rfl, ?_⟩
  repeat' first
    | with_reducible exact Touch.refl _ _
    | ((with_reducible refine Eq.symm ?_); exact rfl)
    | with_reducible apply Touch.via (genCtlWrite_touch _ _ _ _)

end Machine
end Sys2Proof
end

