-- ==== Sys2Proof/Laws/TouchExecTime.lean ====
section
/-! SUPPORT. What each operation of Machine/ExecTime.lean leaves alone. -/
set_option linter.unusedVariables false
set_option Elab.async false
namespace Sys2Proof
namespace Machine

theorem execTimeIncrement_touch (a1 : State) : ∃ t, execTimeIncrement a1 = .next t ∧ Touch 0x2030000000000000000000000000000000000000000808000c0000000000000000000000000000000000000000000000000000000 a1 t := by
  refine ⟨_, rfl, ?_⟩
  repeat' first
    | with_reducible exact Touch.refl _ _
    | ((with_reducible refine Eq.symm ?_); exact rfl)
    | with_reducible apply Touch.via (timeAdvance_touch _)

theorem execTimeStep_touch (a1 : Requester) (a2 : State) : ∃ t, execTimeStep a1 a2 = .next t ∧ Touch 0x400300000000000000000000000000a0000000000000808000c0000000000000000000000000000000000000000000000000000000 a2 t := by
  refine ⟨_, rfl, ?_⟩
  repeat' first
    | with_reducible exact Touch.refl _ _
    | ((with_reducible refine Eq.symm ?_); exact rfl)
    | with_reducible apply Touch.via (timeStep_touch _ _)

theorem execTimeRearm_touch (a1 : Requester) (a2 : State) : ∃ t, execTimeRearm a1 a2 = .next t ∧ Touch 0x400300000000000000000000000000a0000000000000008000c0000000000000000000000000000000000000000000000000000000 a2 t := by
  refine ⟨_, rfl, ?_⟩
  repeat' first
    | with_reducible exact Touch.refl _ _
    | ((with_reducible refine Eq.symm ?_); exact rfl)
    | with_reducible apply Touch.via (timeRearm_touch _ _)

theorem execTimRateWrite_touch (a1 : Requester) (a2 : BitVec 32) (a3 : State) : ∃ t, execTimRateWrite a1 a2 a3 = .next t ∧ Touch 0x400200000000000000000000000000a0000000000000200000c0000000000000000000000000000000000000000000000000000000 a3 t := by
  refine ⟨_, rfl, ?_⟩
  repeat' first
    | with_reducible exact Touch.refl _ _
    | ((with_reducible refine Eq.symm ?_); exact rfl)
    | with_reducible apply Touch.via (timRateWrite_touch _ _ _)

theorem execPtpEventTx_touch (a1 : BitVec 4) (a2 : BitVec 16) (a3 : Bool) (a4 : State) : ∃ t, execPtpEventTx a1 a2 a3 a4 = .next t ∧ Touch 0x30000000000000000000000000000000000000004800000c0000000000000000000000000000000000000000000000000000000 a4 t := by
  refine ⟨_, rfl, ?_⟩
  repeat' first
    | with_reducible exact Touch.refl _ _
    | ((with_reducible refine Eq.symm ?_); exact rfl)
    | with_reducible apply Touch.via (ptpTx_touch _ _ _ _)

theorem execPtpEventRx_touch (a1 : BitVec 4) (a2 : BitVec 16) (a3 : State) : ∃ t, execPtpEventRx a1 a2 a3 = .next t ∧ Touch 0x1000000000000000000000000000000000000000000000000000000000000000000000000000000000000000000000000000000 a3 t := by
  refine ⟨_, rfl, ?_⟩
  repeat' first
    | with_reducible exact Touch.refl _ _
    | ((with_reducible refine Eq.symm ?_); exact rfl)
    | with_reducible apply Touch.via (ptpRx_touch _ _ _)

theorem execTxtsPop_touch (a1 : Requester) (a2 : State) : ∃ t, execTxtsPop a1 a2 = .next t ∧ Touch 0x400300000000000000000000000000a000000000003c000000c0000000000000000000000000000000000000000000000000000000 a2 t := by
  refine ⟨_, rfl, ?_⟩
  repeat' first
    | with_reducible exact Touch.refl _ _
    | ((with_reducible refine Eq.symm ?_); exact rfl)
    | with_reducible apply Touch.via (txtsPop_touch _ _)

theorem execChainTimeMarker_touch (a1 : Fin 8) (a2 : BitVec 32) (a3 : Bool) (a4 : State) : ∃ t, execChainTimeMarker a1 a2 a3 a4 = .next t ∧ Touch 0x30000000000000000000000000000000000020000800000c0000000000000000000000000000000000000000000000000000000 a4 t := by
  refine ⟨_, rfl, ?_⟩
  repeat' first
    | with_reducible exact Touch.refl _ _
    | ((with_reducible refine Eq.symm ?_); exact rfl)
    | with_reducible apply Touch.after (whileAlive_touch ?_ _ _ _ ?_)
    | with_reducible apply Touch.via (chainMarker_touch _ _ _ _)
    | intro _

theorem execPtmTrigger_touch (a1 : Requester) (a2 : State) : ∃ t, execPtmTrigger a1 a2 = .next t ∧ Touch 0x400300000000000000000000000000a0000000000300000000c0000000000000000000000000000000000000000000000000000000 a2 t := by
  refine ⟨_, rfl, ?_⟩
  repeat' first
    | with_reducible exact Touch.refl _ _
    | ((with_reducible refine Eq.symm ?_); exact rfl)
    | with_reducible apply Touch.via (ptmTrigger_touch _ _)

theorem execPtmPeriod_touch (a1 : State) : ∃ t, execPtmPeriod a1 = .next t ∧ Touch 0x1000000000000000000000000000000000000030000000000000000000000000000000000000000000000000000000000000000 a1 t := by
  refine ⟨_, rfl, ?_⟩
  repeat' first
    | with_reducible exact Touch.refl _ _
    | ((with_reducible refine Eq.symm ?_); exact rfl)
    | with_reducible apply Touch.via (ptmPeriod_touch _)

theorem execPtmResponse_touch (a1 : Bool) (a2 : BitVec 64) (a3 : BitVec 32) (a4 : State) : ∃ t, execPtmResponse a1 a2 a3 a4 = .next t ∧ Touch 0x3000000000000000000000000000000000000a900800000c0000000000000000000000000000000000000000000000000000000 a4 t := by
  refine ⟨_, rfl, ?_⟩
  repeat' first
    | with_reducible exact Touch.refl _ _
    | ((with_reducible refine Eq.symm ?_); exact rfl)
    | with_reducible apply Touch.via (ptmResponse_touch _ _ _ _)

theorem execPtmTimeout_touch (a1 : State) : ∃ t, execPtmTimeout a1 = .next t ∧ Touch 0x20000000000000000000000000000000000000100800000c0000000000000000000000000000000000000000000000000000000 a1 t := by
  refine ⟨_, rfl, ?_⟩
  repeat' first
    | with_reducible exact Touch.refl _ _
    | ((with_reducible refine Eq.symm ?_); exact rfl)
    | with_reducible apply Touch.via (ptmTimeout_touch _)

end Machine
end Sys2Proof
end

