-- ==== Sys2Proof/Laws/TouchExecTrace.lean ====
section
/-! SUPPORT. What each operation of Machine/ExecTrace.lean leaves alone. -/
set_option linter.unusedVariables false
set_option Elab.async false
namespace Sys2Proof
namespace Machine

theorem execTrcArm_touch (a1 : Requester) (a2 : Fin 16) (a3 : State) : ∃ t, execTrcArm a1 a2 a3 = .next t ∧ Touch 0x400a00000000000000000000000000a0000000000000000000c0000000000000000000000220000000000000000000000000000000 a3 t := by
  refine ⟨_, rfl, ?_⟩
  repeat' first
    | with_reducible exact Touch.refl _ _
    | ((with_reducible refine Eq.symm ?_); exact rfl)
    | with_reducible apply Touch.via (trcArm_touch _ _ _)

theorem execTrcStop_touch (a1 : Requester) (a2 : Fin 16) (a3 : State) : ∃ t, execTrcStop a1 a2 a3 = .next t ∧ Touch 0xc00a80000000000000000000000000a0000060000000000000c000000000000000000000c020000000000000000000000000000000 a3 t := by
  refine ⟨_, rfl, ?_⟩
  repeat' first
    | with_reducible exact Touch.refl _ _
    | ((with_reducible refine Eq.symm ?_); exact rfl)
    | with_reducible apply Touch.via (trcStop_touch _ _ _)

theorem execTrcForce_touch (a1 : Requester) (a2 : Fin 16) (a3 : State) : ∃ t, execTrcForce a1 a2 a3 = .next t ∧ Touch 0xc01aa0000000000000000000000000a0000060000000000000c000000000000000000000c220000000000000000000000000000400 a3 t := by
  refine ⟨_, rfl, ?_⟩
  repeat' first
    | with_reducible exact Touch.refl _ _
    | ((with_reducible refine Eq.symm ?_); exact rfl)
    | with_reducible apply Touch.via (trcForce_touch _ _ _)

end Machine
end Sys2Proof
end

