-- ==== Sys2Proof/Laws/TouchExecTutor.lean ====
section
/-! SUPPORT. What each operation of Machine/ExecTutor.lean leaves alone. -/
set_option linter.unusedVariables false
set_option Elab.async false
namespace Sys2Proof
namespace Machine

theorem execDxBellwait_touch (a1 : Fin 64) (a2 : Priv) (a3 : Fin 32) (a4 : BitVec 64) (a5 : BitVec 64) (a6 : State) : ∃ t, execDxBellwait a1 a2 a3 a4 a5 a6 = .next t ∧ Touch 0x8808800000000000000000000000000000006000000000000000000000000000000000000000000000000000000000000000000000 a6 t := by
  refine ⟨_, rfl, ?_⟩
  repeat' first
    | with_reducible exact Touch.refl _ _
    | ((with_reducible refine Eq.symm ?_); exact rfl)
    | with_reducible apply Touch.via (dxBellwait_touch _ _ _ _ _ _)

theorem execBellwaitWake_touch (a1 : Fin 64) (a2 : Fin 4) (a3 : State) : ∃ t, execBellwaitWake a1 a2 a3 = .next t ∧ Touch 0x8808800000000000000000000000000000006000000000000000000000000000000000000000000000000000000000000000000000 a3 t := by
  refine ⟨_, rfl, ?_⟩
  repeat' first
    | with_reducible exact Touch.refl _ _
    | ((with_reducible refine Eq.symm ?_); exact rfl)
    | with_reducible apply Touch.via (bellwaitWake_touch _ _ _)

theorem execDxDeskpop_touch (a1 : Fin 64) (a2 : Priv) (a3 : Fin 32) (a4 : BitVec 64) (a5 : State) : ∃ t, execDxDeskpop a1 a2 a3 a4 a5 = .next t ∧ Touch 0x880a80000000000000000000000000a0000060000000000000c0000000000000000000000000000000000000000000000000000000 a5 t := by
  refine ⟨_, rfl, ?_⟩
  repeat' first
    | with_reducible exact Touch.refl _ _
    | ((with_reducible refine Eq.symm ?_); exact rfl)
    | with_reducible apply Touch.via (dxDeskpop_touch _ _ _ _ _)

theorem execDeskpopTimeout_touch (a1 : Fin 64) (a2 : Bool) (a3 : State) : ∃ t, execDeskpopTimeout a1 a2 a3 = .next t ∧ Touch 0x8808800000000000000000000000000000006000000000000000000000000000000000000000000000000000000000000000000000 a3 t := by
  refine ⟨_, rfl, ?_⟩
  repeat' first
    | with_reducible exact Touch.refl _ _
    | ((with_reducible refine Eq.symm ?_); exact rfl)
    | with_reducible apply Touch.via (deskpopTimeout_touch _ _ _)

theorem execDxDeskdone_touch (a1 : Fin 64) (a2 : Priv) (a3 : Fin 32) (a4 : BitVec 64) (a5 : State) : ∃ t, execDxDeskdone a1 a2 a3 a4 a5 = .next t ∧ Touch 0xc80e80000000000000000000020001e0000000000000000100c002440880000000000000300000000000018000f800000000000000 a5 t := by
  refine ⟨_, rfl, ?_⟩
  repeat' first
    | with_reducible exact Touch.refl _ _
    | ((with_reducible refine Eq.symm ?_); exact rfl)
    | with_reducible apply Touch.via (dxDeskdone_touch _ _ _ _ _)

theorem execDxQpush_touch (a1 : Fin 64) (a2 : Priv) (a3 : Fin 32) (a4 : BitVec 64) (a5 : BitVec 64) (a6 : State) : ∃ t, execDxQpush a1 a2 a3 a4 a5 a6 = .next t ∧ Touch 0xc80e80000000000000000000020001e0000000000000000100c002c00880000000000000300000000000018000f800000000000000 a6 t := by
  refine ⟨_, rfl, ?_⟩
  repeat' first
    | with_reducible exact Touch.refl _ _
    | ((with_reducible refine Eq.symm ?_); exact rfl)
    | with_reducible apply Touch.via (dxQpush_touch _ _ _ _ _ _)

theorem execDxTick_touch (a1 : Fin 64) (a2 : Priv) (a3 : Fin 32) (a4 : BitVec 64) (a5 : State) : ∃ t, execDxTick a1 a2 a3 a4 a5 = .next t ∧ Touch 0xc80e80000000000000000000020001e0000000000000000100c002400c80000000000000300000000000018000f800000000000000 a5 t := by
  refine ⟨_, rfl, ?_⟩
  repeat' first
    | with_reducible exact Touch.refl _ _
    | ((with_reducible refine Eq.symm ?_); exact rfl)
    | with_reducible apply Touch.via (dxTick_touch _ _ _ _ _)

theorem execQueueTailWrite_touch (a1 : Requester) (a2 : Fin 16384) (a3 : BitVec 32) (a4 : State) : ∃ t, execQueueTailWrite a1 a2 a3 a4 = .next t ∧ Touch 0xc80e80000000000000000000020001e0000000000000000100c002c00880000000000000300000000000018000f800000000000000 a4 t := by
  refine ⟨_, rfl, ?_⟩
  repeat' first
    | with_reducible exact Touch.refl _ _
    | ((with_reducible refine Eq.symm ?_); exact rfl)
    | with_reducible apply Touch.via (queueTailWrite_touch _ _ _ _)

theorem execQEnable_touch (a1 : Requester) (a2 : Fin 16384) (a3 : State) : ∃ t, execQEnable a1 a2 a3 = .next t ∧ Touch 0xc80e80000000000000000000020001e0000000000000000100c002400880000000000000300000000000018000f800000000000000 a3 t := by
  refine ⟨_, rfl, ?_⟩
  repeat' first
    | with_reducible exact Touch.refl _ _
    | ((with_reducible refine Eq.symm ?_); exact rfl)
    | with_reducible apply Touch.via (qEnable_touch _ _ _)

theorem execQPause_touch (a1 : Requester) (a2 : Fin 16384) (a3 : State) : ∃ t, execQPause a1 a2 a3 = .next t ∧ Touch 0x480200000000000000000000000000a0000000000000000000c0020000000000000000000000000000000000000000000000000000 a3 t := by
  refine ⟨_, rfl, ?_⟩
  repeat' first
    | with_reducible exact Touch.refl _ _
    | ((with_reducible refine Eq.symm ?_); exact rfl)
    | with_reducible apply Touch.via (qPause_touch _ _ _)

theorem execQUnpause_touch (a1 : Requester) (a2 : Fin 16384) (a3 : State) : ∃ t, execQUnpause a1 a2 a3 = .next t ∧ Touch 0xc80e80000000000000000000020001e0000000000000000100c002400880000000000000300000000000018000f800000000000000 a3 t := by
  refine ⟨_, rfl, ?_⟩
  repeat' first
    | with_reducible exact Touch.refl _ _
    | ((with_reducible refine Eq.symm ?_); exact rfl)
    | with_reducible apply Touch.via (qUnpause_touch _ _ _)

theorem execQDisable_touch (a1 : Requester) (a2 : Fin 16384) (a3 : State) : ∃ t, execQDisable a1 a2 a3 = .next t ∧ Touch 0xc80e80000000000000000000020001e0000000000000000100c002440880000000000000300000000000018000f800000000000000 a3 t := by
  refine ⟨_, rfl, ?_⟩
  repeat' first
    | with_reducible exact Touch.refl _ _
    | ((with_reducible refine Eq.symm ?_); exact rfl)
    | with_reducible apply Touch.via (qDisable_touch _ _ _)

theorem execQFlush_touch (a1 : Requester) (a2 : Fin 16384) (a3 : State) : ∃ t, execQFlush a1 a2 a3 = .next t ∧ Touch 0x480200000000000000000000000000a0000000000000000000c0024008000000000000000000000000000000000000000000000000 a3 t := by
  refine ⟨_, rfl, ?_⟩
  repeat' first
    | with_reducible exact Touch.refl _ _
    | ((with_reducible refine Eq.symm ?_); exact rfl)
    | with_reducible apply Touch.via (qFlush_touch _ _ _)

theorem execQCfgNextWrite_touch (a1 : Requester) (a2 : Fin 16384) (a3 : BitVec 32) (a4 : State) : ∃ t, execQCfgNextWrite a1 a2 a3 a4 = .next t ∧ Touch 0xc80e80000000000000000000020001e0000000000000000100c0024c0880000000000000300000000000018000f800000000000000 a4 t := by
  refine ⟨_, rfl, ?_⟩
  repeat' first
    | with_reducible exact Touch.refl _ _
    | ((with_reducible refine Eq.symm ?_); exact rfl)
    | with_reducible apply Touch.via (qCfgNextWrite_touch _ _ _ _)

theorem execTaskPlace_touch (a1 : State) : ∃ t, execTaskPlace a1 = .next t ∧ Touch 0xc80e80000000000000000000020001e0000060000000000100c0024408c0000000000000300000000000018000f800000000000000 a1 t := by
  refine ⟨_, rfl, ?_⟩
  repeat' first
    | with_reducible exact Touch.refl _ _
    | ((with_reducible refine Eq.symm ?_); exact rfl)
    | with_reducible apply Touch.via (taskPlace_touch _)

theorem execTickSourceTick_touch (a1 : Fin 4) (a2 : State) : ∃ t, execTickSourceTick a1 a2 = .next t ∧ Touch 0xc80e80000000000000000000020001e0000000000000000100c002400c80000000000000300000000000018000f800000000000000 a2 t := by
  refine ⟨_, rfl, ?_⟩
  repeat' first
    | with_reducible exact Touch.refl _ _
    | ((with_reducible refine Eq.symm ?_); exact rfl)
    | with_reducible apply Touch.via (tickSource_touch _ _)

theorem execCoreCfgWrite_touch (a1 : Requester) (a2 : Fin 64) (a3 : Bool) (a4 : State) : ∃ t, execCoreCfgWrite a1 a2 a3 a4 = .next t ∧ Touch 0xc80e80000000000000000000020001e0000000000000000100c002442880000000000000300000000000018000f800000000000000 a4 t := by
  refine ⟨_, rfl, ?_⟩
  repeat' first
    | with_reducible exact Touch.refl _ _
    | ((with_reducible refine Eq.symm ?_); exact rfl)
    | with_reducible apply Touch.via (coreCfgWrite_touch _ _ _ _)

theorem execCoreTraceStop_touch (a1 : Fin 64) (a2 : State) : ∃ t, execCoreTraceStop a1 a2 = .next t ∧ Touch 0x8808800000000000000000000000000000006100000000000000000000000000000000000000000000000000000000000000000000 a2 t := by
  refine ⟨_, rfl, ?_⟩
  repeat' first
    | with_reducible exact Touch.refl _ _
    | ((with_reducible refine Eq.symm ?_); exact rfl)
    | with_reducible apply Touch.via (coreTraceStop_touch _ _)

end Machine
end Sys2Proof
end

