-- ==== Sys2Proof/Laws/Exec.lean ====
section
/-! SUPPORT. What a command can do, said once for all commands: it answers a next state that differs from the old one at most in what the mask of
the command names (the bits of Laws/Touch.lean). -/
set_option linter.unusedVariables false
set_option Elab.async false
namespace Sys2Proof
namespace Machine

/-- The registers and parts that a command may change. -/
def Instr.mask : Instr → Nat
  | .freezeRegistration .. => 0x220440000000000000000000000000000000000000000000000000000000000000000000000000000000000000104000000000000
  | .lateItemArrival .. => 0x600000000000000000000000000000000000000000000000000000000000000000000000000000000000000004000000000000
  | .bridgeControlWordRx .. => 0x800ae000000000000000000000000000000060000000000000c00000000000000000000000000000008a00000001bc800000000400
  | .bridgeFreezeMsg .. => 0x400000000000000000000000000000000000000000000000000000000000000000000000000000000000000004000000000000
  | .bridgeClearMsg .. => 0x400000000000000000000000000000000000000000000000000000000000000000000000000000000000000104000000000000
  | .bridgeResumeMsg .. => 0x400000000000000000000000000000000000000000000000000000000000000000000000000000000000000004000000000000
  | .hbmSchedule .. => 0x600000000000000000000000000000000000000000000000000000000000000000000000000000000200000084000000000000
  | .hbmRefresh .. => 0x40000000000000000000
  | .designMemoryAccess .. => 0x400e80000000000000000000020001e0000000000000000000c000000000000000000000300000000000018000f800000000000000
  | .bitSetAliasWrite .. => 0x400a80000000000000000000020000a0000000000000000000c0000000000000000000003000000000000000000800000000000000
  | .bitClearAliasWrite .. => 0x400a80000000000000000000020000a0000000000000000000c0000000000000000000003000000000000000000800000000000000
  | .eccWriteback .. => 0x800000000000000000000000000000000000000000000000000000000000000000000000000000000000000000000000000000
  | .backgroundScrub .. => 0x68000000000000000000000000140000000000000000000c000000000000000000000000000000000000000f000000000000000
  | .bankZeroiseDone .. => 0x800000000000000000000000000000000000000000000000000000000000000000000000000000000000000800000000000000
  | .marchStart .. => 0xc00280000000000000000000000000a0000000000000000000c000000000000000000000000000000000000c000000000000000000
  | .marchStop .. => 0x400280000000000000000000000000a0000000000000000000c0000000000000000000000000000000000004000000000000000000
  | .marchDone .. => 0x80000000000000000000000000000000000000000000000000000000000000000000000000000000000c000800000000000000
  | .retire .. => 0x400600000000000000000000000001e0000000000000000000c0000000000000000000000000000000000020000800000000000000
  | .unretire .. => 0x400200000000000000000000000000a0000000000000000000c0000000000000000000000000000000000020000800000000000000
  | .hbmRetire .. => 0x400280000000000000000000000000a0000000000000000000c0000000000000000000000000000000001000000000000000000000
  | .hbmPageSwitch .. => 0x68000000000000000000000000140000000000000000000c0000000000000000000000000000000001000000000000000000000
  | .marchRestoreDone .. => 0x4000000000000000000
  | .trcArm .. => 0x400a00000000000000000000000000a0000000000000000000c0000000000000000000000220000000000000000000000000000000
  | .trcStop .. => 0xc00a80000000000000000000000000a0000060000000000000c000000000000000000000c020000000000000000000000000000000
  | .trcForce .. => 0xc01aa0000000000000000000000000a0000060000000000000c000000000000000000000c220000000000000000000000000000400
  | .stwEdge .. => 0x20000000000000000000000000000000000000000000000000000000000000000040000000000000000000000000000000000000
  | .recordEnd .. => 0x80288000000000000000000000000000000060000000000000000000000000406000ca800000000000000000000000000000000000
  | .tdcHandover .. => 0x260000000000000000000000000140000000000000000000c0000000000040040040000000000000000000000000000000000000
  | .tdcCalDone .. => 0x260000000000000000000000000140000000000000000000c0000000000040040040000000000000000000000000000000000000
  | .triggerFire .. => 0x803aa000000000000000000000000000000060000000000000c000000000000080600000c220000000000000000000000000000400
  | .triggerTimeout .. => 0x20000000000000000000000000000000000000000000000000000000000000000000000000000000000000000000000000000000
  | .instrLineRelease .. => 0x20000000000000000000000000000000000000000000000000000000000000800000000000000000000000000000000000000000
  | .instrLineEdge .. => 0x20000000000000000000000000000000000000000000000000000000000000800000000000000000000000000000000000000000
  | .stwInEnable .. => 0x400200000000000000000000000000a0000000000000000000c0000000000000000040000000000000000000000000000000000000
  | .stwInArm .. => 0x402200000000000000000000000000a0000000000000000000c000000000004000004a800000000000000000000000000000000000
  | .stwInStop .. => 0xc02a80000000000000000000000000a0000060000000000000c00000000000006000c0000000000000000000000000000000000000
  | .stwInDisable .. => 0x400200000000000000000000000000a0000000000000000000c0000000000000000040000000000000000000000000000000000000
  | .stwTrgArm .. => 0x402200000000000000000000000000a0000000000000000000c0000000000000002000000000000000000000000000000000000000
  | .stwTrgDisarm .. => 0x402200000000000000000000000000a0000000000000000000c0000000000000002000000000000000000000000000000000000000
  | .stwTrgForce .. => 0xc03aa0000000000000000000000000a0000060000000000000c000000000000080600000c220000000000000000000000000000400
  | .calStart .. => 0x400200000000000000000000000000a0000000000000000000c0000000000000040000000000000000000000000000000000000000
  | .calStop .. => 0x400200000000000000000000000000a0000000000000000000c0000000000000040000000000000000000000000000000000000000
  | .tbLatch .. => 0x400200000000000000000000000000a0000000000000000000c000000000003e000000000000000000000000000000000000000000
  | .tdcSelfCheckFail .. => 0x260000000000000000000000000140000000000000000000c0000000000040040040000000000000000000000000000000000000
  | .mailboxPost .. => 0x400260000000000000000000000000a0000000000000000030c0000000000000000000000000000000000000000004000000000000
  | .stepClockChange => 0x824000000000000030000000000000000000000000000000c0000000000000000000000000000000000000000004000000000000
  | .clkchgWindowExpiry => 0x220440000000000000000000000000000000000000000000000000000000000000000000000000000000000000004000000000000
  | .stepPllLock => 0x80000000000000000000000000000000000000000000000000000000000000000000000000000000000000000000000000000000
  | .glbStepTargetWrite .. => 0x40c200000000000000380000020000a0000000000000000000c0000000000000000000000000000000000000000000000000000000
  | .laneLock .. => 0x80000000000000000000000000000000000000000000000
  | .laneLossOfLock .. => 0xc66000000000000030000002000140000000000000000000c00000000c20000000000000000000008a0000000004400000000000
  | .linkRemap .. => 0xc66000000000000030000002000140000000000000000000c00000000c20000000000000000000008a0000000004400000000000
  | .am .. => 0xc66000000000000030000002000140000000000000000000c00000001c60000000000000000000008a0000000004400000000000
  | .amPeriod .. => 0x40000000000000000000000000000000000000000000000000000000000000000000000000000000000000000000000000000000
  | .trainingPhaseDone .. => 0xc26000000000000030000002000000000000080000000000c00000000c20000000000000000000008a0000000004400000000000
  | .trainingTimeout .. => 0x40000000000000000000000000000000000000000000000000000000002000000000000000000000000000000000000000000000
  | .linkEnable .. => 0x404200000000000000000000000000a0000000000000000000c0000000002100000000000000000000000000000000000000000000
  | .linkDisable .. => 0x404200000000000000000000000000a0000000000000000000c0000000002000000000000000000000000000000000000000000000
  | .linkRetrain .. => 0x404200000000000000000000000000a0000000000000000000c0000000002000000000000000000000000000000000000000000000
  | .linkNap .. => 0x400200000000000000000000000000a0000000000000000000c0000000002000000000000000000000000000000000000000000000
  | .linkRecess .. => 0x404200000000000000000000000000a0000000000000000000c0000000002000000000000000000000000000000000000000000000
  | .linkWake .. => 0x404200000000000000000000000000a0000000000000000000c0000000002100000000000000000000000000000000000000000000
  | .loopback .. => 0x404200000000000000000000000000a0000000000000000000c0000000002000000000000000000000000000000000000000000000
  | .lbEnd .. => 0x404200000000000000000000000000a0000000000000000000c0000000002000000000000000000000000000000000000000000000
  | .linkSpareCmd .. => 0x404200000000000000000000000000a0000000000000000000c0000000002000000000000000000000000000000000000000000000
  | .napIdleTimeout .. => 0x2000000000000000000000000000000000000000000000
  | .napExitDone .. => 0xc26000000000000030000002000000000000000000000000c00000000c20000000000000000000008a0000000004400000000000
  | .crcBlock .. => 0x40600000000000000000000000000000000000000000000000000000022c00000000000000000000000000000084000000000000
  | .replay .. => 0x40000000000000000000000000000000000000000000000000000000022000000000000000000000000000000000000000000000
  | .replayTimeout .. => 0x40000000000000000000000000000000000000000000000000000000002000000000000000000000000000000000000000000000
  | .checkFrame .. => 0x804ae000000000000000000000000000000060000000000000c00000000220000000000000000000008a00000001bc800000000400
  | .linkCap .. => 0x40000000000000000000000000000000000000000000000000000000000200000000000000000000000000000000000000000000
  | .linkId .. => 0x40000000000000000000000000000000000000000000000000000000000000000000000000000000000000000000000000000000
  | .linkEpoch .. => 0x200000000000000000000000000000000000000000000
  | .linkDist .. => 0x40000000000000000000000000000000000000000000000000000000000100000000000000000000000000000000000000000000
  | .linkDerate .. => 0xc26000000000000030000002000000000000000000000000c00000000421000000000000000000008a0000000004400000000000
  | .linkSpare .. => 0x40000000000000000000000000000000000000000000000000000000080000000000000000000000000000000000000000000000
  | .linkProbe .. => 0x40000000000000000000000000000000000000000000000000000000000000000000000000000000000000000000000000000000
  | .linkEcho .. => 0x40000000000000000000000000000000000000000000000000000000000000000000000000000000000000000000000000000000
  | .linkSkip .. => 0x2000000000000000000000000000000000000000000000
  | .linkFcfg .. => 0x40000000000000000000000000000000000000000000000000000000000000000000000000000000000000000000000000000000
  | .bulk .. => 0x40000000000000000000000000000000000000000000000000000000000000000000000000000000000000000000000000000000
  | .chainBell .. => 0x40200000000000000000000000000000000000000000000000000000000800000000000000000000000000000000000000000000
  | .rframe .. => 0x40600000000000000000000000000000000000000000000000000000000400000000000000000000000000000004000000000000
  | .chFreeze .. => 0x426000000000000000000000000000000000000000000000c00000000000000000000000000000008a0000000084000000000000
  | .chFrozen .. => 0x426000000000000000000000000000000000000000000000c00000000000000000000000000000008a0000000180000000000000
  | .chClear .. => 0x426000000000000000000000000000000000000000000000c00000000000000000000000000000008a0000000180000000000000
  | .chResume .. => 0x426000000000000000000000000000000000000000000000c00000000000000000000000000000008a0000000180000000000000
  | .pinCfgWrite .. => 0x400200000000000000000001000000a0000000000000000000c0000000000000000000000000000000000000000000000000000000
  | .pioLockKey .. => 0x410200000000000000000200000000a0000000000000000000c0000000000000000000000000000000000000000000000000000000
  | .pioLock .. => 0x400200000000000000000301000000a0000000000000000000c0000000000000000000000000000000000000000000000000000000
  | .pioFuseCmd .. => 0x410200000000000000000200000000a0000000000000000000c0000000000000000000000000000000000000000000000000000000
  | .bankSupplyChange .. => 0x200000000000000000000000000000000000000000000000000000000000000000000000000000000000
  | .jtagInstruction .. => 0x100000000000000000000000000000000000000000000000000000000000000000000000000000000000000000000000000000000
  | .tempoInputEdge .. => 0x2422000000000000000000000000000000000000000000000c00000000000000000000000000000008a00000000000000080c0000
  | .generatorTick .. => 0x2422000000000000000000000000000000000000000000000c00000000000000000000000000000008a00000000000000100c0000
  | .chainTempo .. => 0x422000000000000000000000000000000000000000000000c00000000008000000000000000000008a00000000000000000c0000
  | .bellStart .. => 0x822efc00000000000000000100000000000060000000000000c000000000000000000000f020000000000000000000000000340400
  | .tempoOutFall => 0x220440000000000000000000000000000000000000000000000000000000000000000000000000000000000000000000000000000
  | .tempoStall .. => 0x20000000000000000000000000000000000000000000000c0000000000000000000000000000000000000000000000000040000
  | .genCtlWrite .. => 0x420200000000000000000000000000a0000000000000000000c0000000000000000000000000000000000000000000000010000000
  | .subFollow .. => 0x400208000000000000000000000000a0000000000000000000c0000000000000000000000000000000000000000000000000000005
  | .subCommit .. => 0x400608000000000000000000000001e0000000000000000000c0000000000000000000000000000000000000000000000000000105
  | .subCancel .. => 0x400208000000000000000000000000a0000000000000000000c0000000000000000000000000000000000000000000000000000005
  | .clsFollow .. => 0x400600000000000000000000000000a0020000000000000000c0000000000000000000000000000000000000000000000000000000
  | .clsCommit .. => 0x400688000000000000000000000001e0020000000000000000c000000000000000000000000000000000000000000000000000013d
  | .clsCancel .. => 0x400600000000000000000000000000a0020000000000000000c0000000000000000000000000000000000000000000000000000000
  | .followCopyDone .. => 0x4080000000000000000000000000002000000000000000000000000000000000000000000000000000000000000000000000005
  | .step .. => 0x837efc00000000000000000000000140000060000000000020c0000000000c406000ca80f2200000008a818030f08401e0000ca438
  | .gapStep .. => 0x837efc000000000000000000000001e0020060000000000020c0000000000c406000ca9cf2240000008a800000008401e0000eb53d
  | .faultRequestArrival .. => 0x220640000000000000000000000000000000000000000000000000000000000000000000000000000000000000004000000000400
  | .freezePoint .. => 0x822ae400000000000000000000000000000060000000000000c00000000000000000000000000000008a000000013c800000000400
  | .resumePoint .. => 0x822ae400000000000000000000000000000060000000000000c00000000000000000000000000000000000000000440000000c1400
  | .chainResumeDelayExpiry .. => 0x822ae400000000000000000000000000000060000000000000c00000000000000000000000000000000000000000440000000c1400
  | .drainDone .. => 0xc880000000000000000000000000002000000000000000000000000000000000000183000000000000000000000000000001405
  | .rewindDone .. => 0x837efc000000000000000000000001e0020060000000000020c0000000000c406000ca9cf2240000008a800000008401e0001eb53d
  | .designTrigger .. => 0x823ae400000000000000000000000000000060000000000000c000000000000000000000c220000000000000000000000000000400
  | .bindingPresent .. => 0x220540000000000000000000000000000000000000000000000000000000000000000000000000000000000000000000000000000
  | .load .. => 0xc5eef8000000000000300001020001e0020060000000000020c00000000421006000c004300000a3c0fa4c040809047e10000e1605
  | .arm .. => 0x400220000000000000000000000000a0000000000000000000c0000000000000000000000000000000000000000000000000001000
  | .armDone .. => 0x462f800000000000000000000000000000000000000000020c00000000000000000000000000020008e00000000bb800000341400
  | .start .. => 0x400260000000000000000000000000a0000000000000000000c00000000000000000000000000000000000000000040000000c1400
  | .stopAtBell .. => 0x400260000000000000000000000000a0000000000000000000c00000000000000000000000000000000000000000040000000c1400
  | .resume .. => 0x400260000000000000000000000000a0000000000000000000c00000000000000000000000000000000000000000040000000c1400
  | .freezeNow .. => 0x400240000000000000000000000000a0000000000000000000c0000000000000000000000000000000000000000004000000001000
  | .capture .. => 0x400ea8000000000000000000000000a0020000000000000000c0000000000000000000183000000000000000000000000000001405
  | .rewind .. => 0x400a00000000000000000000000000a0000000000000000000c0000000000000000000040000000000000000000000000000001000
  | .abort .. => 0xc5eef8000000000000300001020001e0020060000000000020c00000000421006000c004300000a3c0fa4c040809047e10000e1605
  | .unload .. => 0xc5eef8000000000000300001020000a0020060000000000020c00000000421006000c0043000002000fa4c040809047e10000e1605
  | .partCommit .. => 0xc06ab8000000000000000000000000a0000060000000000020c00000000000006000c00030040000000080000000000000000eb400
  | .partCommitCancel .. => 0x400200000000000000000000000000a0000000000000000000c0000000000000000000000000000000000000000000000000021400
  | .faultTailWrite .. => 0x400200000000000000000000000000a0000000000000000000c0000000000000000000000000000000060000000000000000000000
  | .doneSensed .. => 0x440260000000000000000000000000a0000000000000000000c00000000000000000000000000020000000000000040000000c1400
  | .loaderStart .. => 0x440200000000000000000000000000a0000000000000000000c0000000000000000000000000002440000000000000000000000000
  | .loaderCancel .. => 0xc5eef8000000000000300001020001e0020060000000000020c00000000421006000c004300000a3c0fa4c040809047e10000e1605
  | .loadSection .. => 0x85eef8000000000000300001020001e0020060000000000020c00000000421006000c004300000a7c0fa4c040809047e10000e1605
  | .loadComplete .. => 0x85eef800000000000030000102000140020060000000000020c00000000421006000c004300000a3c0fbcc040809047e10000ff605
  | .loadTimeout .. => 0x85eef800000000000030000102000140020060000000000020c00000000421006000c004300000a3c0fa4c040809047e10000e1605
  | .keyProgram .. => 0x440200000000000000000000000000a0000000000000000000c0000000000000000000000000050000000000000000000000000000
  | .keyRevoke .. => 0x440200000000000000000000000000a0000000000000000000c0000000000000000000000000050000000000000000000000000000
  | .keyClear .. => 0x440200000000000000000000000000a0000000000000000000c0000000000000000000000000050000000000000000000000000000
  | .vbatLoss => 0x85eef800000000000030000102000140020060000000000020c00000000421006000c004300001a3c0fa4c040809047e10000e1605
  | .lcAdvance .. => 0x440200000000000000000000000000a0000000000000000000c0000000000000000000000000110000000000000000000000000000
  | .rkProgram .. => 0x440200000000000000000000000000a0000000000000000000c0000000000000000000000000a10000000000000000000000000000
  | .rkRevoke .. => 0x440200000000000000000000000000a0000000000000000000c0000000000000000000000000a10000000000000000000000000000
  | .svnAdvance .. => 0x440200000000000000000000000000a0000000000000000000c0000000000000000000000001010000000000000000000000000000
  | .dxBellwait .. => 0x8808800000000000000000000000000000006000000000000000000000000000000000000000000000000000000000000000000000
  | .bellwaitWake .. => 0x8808800000000000000000000000000000006000000000000000000000000000000000000000000000000000000000000000000000
  | .dxDeskpop .. => 0x880a80000000000000000000000000a0000060000000000000c0000000000000000000000000000000000000000000000000000000
  | .deskpopTimeout .. => 0x8808800000000000000000000000000000006000000000000000000000000000000000000000000000000000000000000000000000
  | .dxDeskdone .. => 0xc80e80000000000000000000020001e0000000000000000100c002440880000000000000300000000000018000f800000000000000
  | .dxQpush .. => 0xc80e80000000000000000000020001e0000000000000000100c002c00880000000000000300000000000018000f800000000000000
  | .dxTick .. => 0xc80e80000000000000000000020001e0000000000000000100c002400c80000000000000300000000000018000f800000000000000
  | .queueTailWrite .. => 0xc80e80000000000000000000020001e0000000000000000100c002c00880000000000000300000000000018000f800000000000000
  | .qEnable .. => 0xc80e80000000000000000000020001e0000000000000000100c002400880000000000000300000000000018000f800000000000000
  | .qPause .. => 0x480200000000000000000000000000a0000000000000000000c0020000000000000000000000000000000000000000000000000000
  | .qUnpause .. => 0xc80e80000000000000000000020001e0000000000000000100c002400880000000000000300000000000018000f800000000000000
  | .qDisable .. => 0xc80e80000000000000000000020001e0000000000000000100c002440880000000000000300000000000018000f800000000000000
  | .qFlush .. => 0x480200000000000000000000000000a0000000000000000000c0024008000000000000000000000000000000000000000000000000
  | .qCfgNextWrite .. => 0xc80e80000000000000000000020001e0000000000000000100c0024c0880000000000000300000000000018000f800000000000000
  | .taskPlace => 0xc80e80000000000000000000020001e0000060000000000100c0024408c0000000000000300000000000018000f800000000000000
  | .tickSourceTick .. => 0xc80e80000000000000000000020001e0000000000000000100c002400c80000000000000300000000000018000f800000000000000
  | .coreCfgWrite .. => 0xc80e80000000000000000000020001e0000000000000000100c002442880000000000000300000000000018000f800000000000000
  | .coreTraceStop .. => 0x8808800000000000000000000000000000006100000000000000000000000000000000000000000000000000000000000000000000
  | .timeIncrement => 0x2030000000000000000000000000000000000000000808000c0000000000000000000000000000000000000000000000000000000
  | .timeStep .. => 0x400300000000000000000000000000a0000000000000808000c0000000000000000000000000000000000000000000000000000000
  | .timeRearm .. => 0x400300000000000000000000000000a0000000000000008000c0000000000000000000000000000000000000000000000000000000
  | .timRateWrite .. => 0x400200000000000000000000000000a0000000000000200000c0000000000000000000000000000000000000000000000000000000
  | .ptpEventTx .. => 0x30000000000000000000000000000000000000004800000c0000000000000000000000000000000000000000000000000000000
  | .ptpEventRx .. => 0x1000000000000000000000000000000000000000000000000000000000000000000000000000000000000000000000000000000
  | .txtsPop .. => 0x400300000000000000000000000000a000000000003c000000c0000000000000000000000000000000000000000000000000000000
  | .chainTimeMarker .. => 0x30000000000000000000000000000000000020000800000c0000000000000000000000000000000000000000000000000000000
  | .ptmTrigger .. => 0x400300000000000000000000000000a0000000000300000000c0000000000000000000000000000000000000000000000000000000
  | .ptmPeriod => 0x1000000000000000000000000000000000000030000000000000000000000000000000000000000000000000000000000000000
  | .ptmResponse .. => 0x3000000000000000000000000000000000000a900800000c0000000000000000000000000000000000000000000000000000000
  | .ptmTimeout => 0x20000000000000000000000000000000000000100800000c0000000000000000000000000000000000000000000000000000000
  | .coreHalt .. => 0xc81e80000000000000000000020001e0000061000000000100c002440880000000000000300000000000018000f800000000000000
  | .comparatorMatch .. => 0x8818800000000000000000000000000000006100000000000000000000000000000000000000000000000000000000000000000000
  | .ctiPulse => 0x881ae000000000000000000000000000000061000000000000c000000000000000000000c220000000000000000004000000000400
  | .dbgCtiPulseWrite .. => 0x401200000000000000000000000000a0000000000000000000c0000000000000000000000000000000000000000000000000000000
  | .mbxGo .. => 0x400200000000000000000000020000a0000000300000000000c0000000000000000000000000000000000000000000000000000000
  | .hallPassExpiry => 0x801a80000000000000000000000000000000e0000000000000c000000000000000000000f020000000000000000000000000000000
  | .classImmediateSubstitute .. => 0x80eef800000000000030000002000140020060000000000020c00000000420006000c00000000000008a000000000440000002153d
  | .declareDead .. => 0xcdeef8000000000000300001020001e0020261000000000120c00244288421006000c004300000a3c0fa4d8408f9047e10000e173d
  | .epochStale .. => 0x62000000000000000000000000150000000000000000000c00000000000000000000000000000008a0000000000000000000000
  | .thresholdReached .. => 0xc80e88000000000000000000020001e0020001000000000100c00244288000000000000030000000000011a000f800000000000105
  | .selftest .. => 0x400600000000000000000000000000a0080000000000000000c0000000000000000000000000000000000000000000000000000000
  | .selftestDone .. => 0x60800000000000000000000000140080000000000000000c0000000000000000000000000000000000000000000000000000000
  | .enrol .. => 0x404600000000000000000000000001e0080000000000000000c0000000002100000000000000000000000000000000000000000001
  | .eccSelftestStart .. => 0x400200000000000000000000000000a4000000000000000000c0000000000000000000000000000000000000000000000000000000
  | .eccSelftestDone .. => 0xcdeef8000000000000300001020001e4020261000000000120c00244288421006000c004300000a3c0fa4da408f9047e10000e173d
  | .tokenRenew .. => 0x14000000000000000000000000000000020020000000000000000000000000000000000000000000000000000000000000000000
  | .heartbeat .. => 0x4000000000000000000000000000000020000000000000000000000000000000000000000000000000000000000000000000000
  | .heartbeatTimeout .. => 0xc41688000000000000000000400001e0028200200000000000c000000000000000000000000000000000000000000000000000013d
  | .proctorWatchdogExpiry .. => 0x14000000000000000000000000000000000020000000000000000000000000000000000000000000000000000000000000000000
  | .lockstepMismatch .. => 0x14000000000000000000000000000000000020000000000000000000000000000000000000000000000000000000000000000000
  | .failMsg .. => 0xc41688000000000000000000400001e0028200200000000000c000000000000000000000000000000000000000000000000000013d
  | .loadStandby .. => 0x400600000000000000000000000000a0000200000000000000c0000000000000000000000000000000000000000000000000000000
  | .switch .. => 0xc41688000000000000000000400001e0028200200000000000c000000000000000000000000000000000000000000000000000013d
  | .reload .. => 0x400600000000000000000000000000a0000200000000000000c0000000000000000000000000000000000000000000000000000000
  | .proctorFirmwareLoaded .. => 0xedfef8000000000000302001420001e0028261200000000120c00244088421006000c004300000a3c0fa4dc408f9047e10000e173d
  | .hallMonitorTakeover => 0x160000000000000000000040000140008200200000000000c0000000000000000000000000000000000000000000000000000000
  | .bootPush .. => 0x440200000000000000000000000000a0000000000000000000c0000000000000000000000000000000000000000000000000000000
  | .lcAdvanceDone => 0xfffffffffffffffffff9afffffffffffffffffffffffffffffffffffffffffffffffffffffffffffffffffffffffffffffffffffff
  | .coreWatchdogExpiry .. => 0xe80e80000000000000000000020003e0000001000000000100c002440880000000000000300000000000018000f800000000000000
  | .mtvecFetchFault .. => 0xe80e80000000000000000000020003e0000001000000000100c002440880000000000000300000000000018000f800000000000000
  | .powerOn => 0xfffffffffffffffffff9afffffffffffffffffffffffffffffffffffffffffffffffffffffffffffffffffffffffffffffffffffff
  | .brownOut .. => 0xfffffffffffffffffff9afffffffffffffffffffffffffffffffffffffffffffffffffffffffffffffffffffffffffffffffffffff
  | .railGood .. => 0x2000000000000000000000000040000000000000000000000000000000000000000000000000000000000000000000000000000000
  | .resetNAssert => 0xfffffffffffffffffff9afffffffffffffffffffffffffffffffffffffffffffffffffffffffffffffffffffffffffffffffffffff
  | .resetNRelease => 0x2000000000000000000000000000000000000000000000000000000000000000000000000000000000000000000000000000000000
  | .deviceWatchdogExpiry => 0xfffffffffffffffffff9afffffffffffffffffffffffffffffffffffffffffffffffffffffffffffffffffffffffffffffffffffff
  | .dwdogKick .. => 0x400200000000000000000000400000a0000000000000000000c0000000000000000000000000000000000000000000000000000000
  | .dwdogCfgWrite .. => 0x400200000000000000000000500000a0000000000000000000c0000000000000000000000000000000000000000000000000000000
  | .swreq .. => 0xfffffffffffffffffff9afffffffffffffffffffffffffffffffffffffffffffffffffffffffffffffffffffffffffffffffffffff
  | .dbgreqPulse .. => 0xfffffffffffffffffff9afffffffffffffffffffffffffffffffffffffffffffffffffffffffffffffffffffffffffffffffffffff
  | .dbgreqHold .. => 0xfffffffffffffffffff9afffffffffffffffffffffffffffffffffffffffffffffffffffffffffffffffffffffffffffffffffffff
  | .rstUnitWrite .. => 0xedfef800000000000030000d0203f1e0020061000000000120c00244088421006020c784300000a3c0fa4dc408f9047e10000e16fd
  | .resetSourceTimeout .. => 0xe81e80000000000000000000020001e0000061000000000100c002440880000000000000300000000000018000f800000000000000
  | .releaseStep .. => 0x20460000000000000000000040060140000200000000000000c0000000002100000000000000000000000000000000000000000000
  | .writePulseEnd .. => 0xfffffffffffffffffff9afffffffffffffffffffffffffffffffffffffffffffffffffffffffffffffffffffffffffffffffffffff
  | .hbmStackTrained => 0x2000000040000000000000000000
  | .clockGood .. => 0xe81e80000000000000000000022201e0000061000000000100c00244088000000000000030000000000001c000f800000000000000
  | .clockFail .. => 0xfffffffffffffffffff9afffffffffffffffffffffffffffffffffffffffffffffffffffffffffffffffffffffffffffffffffffff
  | .tempSample .. => 0xfffffffffffffffffff9afffffffffffffffffffffffffffffffffffffffffffffffffffffffffffffffffffffffffffffffffffff
  | .throttleAdjust => 0xc20000000000000030000002000000000000000000000000c0000000000000000000000000000000000000000000000000000000
  | .pwrRecess .. => 0xe9cac0000000000000300000020000a0000060000000000000c0000000002000000000000000000000000040000004000000000000
  | .pwrWake .. => 0x400200000000000000000000020000a0000000000000000000c0000000000000000000000000000000000000000000000000000000
  | .gpioWake => 0x200000000000000000000000000000000000000000000000000000000000000000000000000000000
  | .recessExitDone => 0xa9ca8000000000000030000002000000000060000000000000c0000000002100000000000000000000000040000000000000000000
  | .ethernetFrame => 0x200000000000000000000000000000000000000000000000000000000000000000000000000000000
  | .vfFlr .. => 0xcdeef8000000000000300001020001e0020060000000000120cf0244088421006000c004300000a3c0fa4d8408f9047e10000e1605
  | .pfFlr => 0x200000000000000000000000000000000000000000000000ff80000000000000000000000000000000000000000000000000000
  | .hotReset => 0x200000000000000000000000000000000000000000000000ff80000000000000000000000000000000000000000000000000000
  | .linkDown => 0x200000000000000000000000000000000000000000000000ffc0000000000000000000000000000000000000000000000000000
  | .msixUnmask .. => 0x2000000000000000000000000000000000000000000000000000000000000000000000000000000000000000000000000000000
  | .configurationSpaceWrite .. => 0x2000000000000000000000000000000000000000000000000000000000000000000000000000000000000000000000000000000
  | .registerWrite .. => 0xfffffffffffffffffff9afffffffffffffffffffffffffffffffffffffffffffffffffffffffffffffffffffffffffffffffffffff
  | .rclRead .. => 0xfffffffffffffffffff9afffffffffffffffffffffffffffffffffffffffffffffffffffffffffffffffffffffffffffffffffffff
  | .latchingRead .. => 0xfffffffffffffffffff9afffffffffffffffffffffffffffffffffffffffffffffffffffffffffffffffffffffffffffffffffffff
  | .routeTableWrite .. => 0xd00200000000000000000000000000a0000000000000000000c0000000000000000000000000000000000000000000000000000000
  | .netRead .. => 0xfffffffffffffffffff9afffffffffffffffffffffffffffffffffffffffffffffffffffffffffffffffffffffffffffffffffffff
  | .netWrite .. => 0xfffffffffffffffffff9afffffffffffffffffffffffffffffffffffffffffffffffffffffffffffffffffffffffffffffffffffff
  | .netWriteP .. => 0xfffffffffffffffffff9afffffffffffffffffffffffffffffffffffffffffffffffffffffffffffffffffffffffffffffffffffff
  | .netAmo .. => 0xd80ea0000000000000000000020001f0000000000000000100c00000000000000000000030000000008a018000f800000000000000
  | .response .. => 0x5802000000000000000000000000000000000000000000000000000000000000000000000000000000000000000000000000000000
  | .requestTimeout .. => 0x5802000000000000000000000000000000000000000000010000000000000000000000000000000000000000000000000000000000
  | .doorbell .. => 0xc80e80000000000000000000020001e0000000000000000100c002c00880000000000000300000000000018000f800000000000000
  | .apertureRequest .. => 0xc00e80000000000000000000020001e0000000000000000100c000000000000000000000300000000000018000f800000000000000
  | .monHalt .. => 0x48100000000000000000000002000000000001a0000000000000000000000000000000000000000000000000000000000000000000
  | .monResume .. => 0xc8188000000000000000000002000000000061a0000000000000000000000000000000000000000000000000000000000000000000
  | .monStep .. => 0xc81e80000000000000000000020001e0000061a00000000100c002440880000000000000300000000000018000f800000000000000
  | .monRead .. => 0xfffffffffffffffffff9afffffffffffffffffffffffffffffffffffffffffffffffffffffffffffffffffffffffffffffffffffff
  | .monWrite .. => 0xfffffffffffffffffff9afffffffffffffffffffffffffffffffffffffffffffffffffffffffffffffffffffffffffffffffffffff
  | .monPeek .. => 0xfffffffffffffffffff9afffffffffffffffffffffffffffffffffffffffffffffffffffffffffffffffffffffffffffffffffffff
  | .monSetbp .. => 0x48100000000000000000000002000000000000a0000000000000000000000000000000000000000000000000000000000000000000
  | .monSetwp .. => 0x48100000000000000000000002000000000000a0000000000000000000000000000000000000000000000000000000000000000000
  | .monTracecfg .. => 0xc8188000000000000000000002000000000061a0000000000000000000000000000000000000000000000000000000000000000000
  | .monFreeze .. => 0x401260000000000000000000020000a0000000a00000000000c00000000000000000000000000000000000000000040000000c1400
  | .monCapture .. => 0x401ea8000000000000000000020000a0020000a00000000000c0000000000000000000183000000000000000000000000000001405
  | .hallpassNonce .. => 0x40100000000000000000000002000000000000a0000000000000000000000000000000000000000000000000000000000000000000
  | .hallpassPresent .. => 0xc01a80000000000000000000020000a00000e0a00000000000c000000000000000000000f020000000000000000000000000000000
  | .hallpassWithdraw .. => 0xc01a80000000000000000000020000000000e0a00000000000c000000000000000000000f020000000000000000000000000000000
  | .badMonitorFrame .. => 0x40100000000000000000000002000000000000a0000000000000000000000000000000000000000000000000000000000000000000

/-- Every command answers a next state, within its mask. -/
theorem exec_touch (c : Instr) (s : State) : ∃ t, exec c s = .next t ∧ Touch (Instr.mask c) s t := by
  cases c with
  | freezeRegistration a0 a1 => exact execFreezeRegistration_touch a0 a1 s
  | lateItemArrival a0 a1 a2 a3 => exact execLateItemArrival_touch a0 a1 a2 a3 s
  | bridgeControlWordRx a0 a1 a2 => exact execBridgeControlWordRx_touch a0 a1 a2 s
  | bridgeFreezeMsg a0 a1 a2 => exact execBridgeFreezeMsg_touch a0 a1 a2 s
  | bridgeClearMsg a0 a1 => exact execBridgeClearMsg_touch a0 a1 s
  | bridgeResumeMsg a0 a1 a2 => exact execBridgeResumeMsg_touch a0 a1 a2 s
  | hbmSchedule a0 a1 a2 a3 => exact execHbmSchedule_touch a0 a1 a2 a3 s
  | hbmRefresh a0 a1 => exact execHbmRefresh_touch a0 a1 s
  | designMemoryAccess a0 a1 a2 a3 a4 => exact execDesignMemoryAccess_touch a0 a1 a2 a3 a4 s
  | bitSetAliasWrite a0 a1 a2 a3 => exact execBitSetAliasWrite_touch a0 a1 a2 a3 s
  | bitClearAliasWrite a0 a1 a2 a3 => exact execBitClearAliasWrite_touch a0 a1 a2 a3 s
  | eccWriteback a0 => exact execEccWriteback_touch a0 s
  | backgroundScrub a0 a1 => exact execBackgroundScrub_touch a0 a1 s
  | bankZeroiseDone a0 => exact execBankZeroiseDone_touch a0 s
  | marchStart a0 a1 => exact execMarchStart_touch a0 a1 s
  | marchStop a0 a1 a2 => exact execMarchStop_touch a0 a1 a2 s
  | marchDone a0 a1 => exact execMarchDone_touch a0 a1 s
  | retire a0 a1 => exact execRetire_touch a0 a1 s
  | unretire a0 a1 => exact execUnretire_touch a0 a1 s
  | hbmRetire a0 a1 a2 => exact execHbmRetire_touch a0 a1 a2 s
  | hbmPageSwitch a0 => exact execHbmPageSwitch_touch a0 s
  | marchRestoreDone a0 => exact execMarchRestoreDone_touch a0 s
  | trcArm a0 a1 => exact execTrcArm_touch a0 a1 s
  | trcStop a0 a1 => exact execTrcStop_touch a0 a1 s
  | trcForce a0 a1 => exact execTrcForce_touch a0 a1 s
  | stwEdge a0 a1 a2 => exact execStwEdge_touch a0 a1 a2 s
  | recordEnd a0 => exact execRecordEnd_touch a0 s
  | tdcHandover a0 a1 => exact execTdcHandover_touch a0 a1 s
  | tdcCalDone a0 a1 => exact execTdcCalDone_touch a0 a1 s
  | triggerFire a0 => exact execTriggerFire_touch a0 s
  | triggerTimeout a0 => exact execTriggerTimeout_touch a0 s
  | instrLineRelease a0 a1 => exact execInstrLineRelease_touch a0 a1 s
  | instrLineEdge a0 a1 a2 => exact execInstrLineEdge_touch a0 a1 a2 s
  | stwInEnable a0 a1 => exact execStwInEnable_touch a0 a1 s
  | stwInArm a0 a1 => exact execStwInArm_touch a0 a1 s
  | stwInStop a0 a1 => exact execStwInStop_touch a0 a1 s
  | stwInDisable a0 a1 => exact execStwInDisable_touch a0 a1 s
  | stwTrgArm a0 a1 => exact execStwTrgArm_touch a0 a1 s
  | stwTrgDisarm a0 a1 => exact execStwTrgDisarm_touch a0 a1 s
  | stwTrgForce a0 a1 => exact execStwTrgForce_touch a0 a1 s
  | calStart a0 => exact execCalStart_touch a0 s
  | calStop a0 => exact execCalStop_touch a0 s
  | tbLatch a0 => exact execTbLatch_touch a0 s
  | tdcSelfCheckFail a0 => exact execTdcSelfCheckFail_touch a0 s
  | mailboxPost a0 a1 a2 => exact execMailboxPost_touch a0 a1 a2 s
  | stepClockChange => exact execStepClockChange_touch  s
  | clkchgWindowExpiry => exact execClkchgWindowExpiry_touch  s
  | stepPllLock => exact execStepPllLock_touch  s
  | glbStepTargetWrite a0 a1 => exact execGlbStepTargetWrite_touch a0 a1 s
  | laneLock a0 a1 => exact execLaneLock_touch a0 a1 s
  | laneLossOfLock a0 a1 => exact execLaneLossOfLock_touch a0 a1 s
  | linkRemap a0 => exact execLinkRemap_touch a0 s
  | am a0 a1 a2 a3 => exact execAm_touch a0 a1 a2 a3 s
  | amPeriod a0 => exact execAmPeriod_touch a0 s
  | trainingPhaseDone a0 a1 => exact execTrainingPhaseDone_touch a0 a1 s
  | trainingTimeout a0 => exact execTrainingTimeout_touch a0 s
  | linkEnable a0 a1 => exact execLinkEnable_touch a0 a1 s
  | linkDisable a0 a1 => exact execLinkDisable_touch a0 a1 s
  | linkRetrain a0 a1 => exact execLinkRetrain_touch a0 a1 s
  | linkNap a0 a1 => exact execLinkNap_touch a0 a1 s
  | linkRecess a0 a1 => exact execLinkRecess_touch a0 a1 s
  | linkWake a0 a1 => exact execLinkWake_touch a0 a1 s
  | loopback a0 a1 a2 a3 => exact execLoopback_touch a0 a1 a2 a3 s
  | lbEnd a0 a1 => exact execLbEnd_touch a0 a1 s
  | linkSpareCmd a0 a1 a2 => exact execLinkSpareCmd_touch a0 a1 a2 s
  | napIdleTimeout a0 => exact execNapIdleTimeout_touch a0 s
  | napExitDone a0 a1 => exact execNapExitDone_touch a0 a1 s
  | crcBlock a0 a1 a2 a3 => exact execCrcBlock_touch a0 a1 a2 a3 s
  | replay a0 a1 => exact execReplay_touch a0 a1 s
  | replayTimeout a0 => exact execReplayTimeout_touch a0 s
  | checkFrame a0 a1 a2 a3 a4 a5 a6 => exact execCheckFrame_touch a0 a1 a2 a3 a4 a5 a6 s
  | linkCap a0 a1 a2 a3 a4 a5 => exact execLinkCap_touch a0 a1 a2 a3 a4 a5 s
  | linkId a0 a1 => exact execLinkId_touch a0 a1 s
  | linkEpoch a0 a1 => exact execLinkEpoch_touch a0 a1 s
  | linkDist a0 a1 => exact execLinkDist_touch a0 a1 s
  | linkDerate a0 a1 => exact execLinkDerate_touch a0 a1 s
  | linkSpare a0 a1 => exact execLinkSpare_touch a0 a1 s
  | linkProbe a0 a1 => exact execLinkProbe_touch a0 a1 s
  | linkEcho a0 a1 => exact execLinkEcho_touch a0 a1 s
  | linkSkip a0 => exact execLinkSkip_touch a0 s
  | linkFcfg a0 => exact execLinkFcfg_touch a0 s
  | bulk a0 a1 => exact execBulk_touch a0 a1 s
  | chainBell a0 a1 => exact execChainBell_touch a0 a1 s
  | rframe a0 a1 a2 => exact execRframe_touch a0 a1 a2 s
  | chFreeze a0 a1 a2 a3 a4 => exact execChFreeze_touch a0 a1 a2 a3 a4 s
  | chFrozen a0 a1 a2 a3 a4 => exact execChFrozen_touch a0 a1 a2 a3 a4 s
  | chClear a0 a1 a2 => exact execChClear_touch a0 a1 a2 s
  | chResume a0 a1 a2 a3 a4 a5 => exact execChResume_touch a0 a1 a2 a3 a4 a5 s
  | pinCfgWrite a0 a1 a2 => exact execPinCfgWrite_touch a0 a1 a2 s
  | pioLockKey a0 a1 => exact execPioLockKey_touch a0 a1 s
  | pioLock a0 => exact execPioLock_touch a0 s
  | pioFuseCmd a0 a1 a2 => exact execPioFuseCmd_touch a0 a1 a2 s
  | bankSupplyChange a0 a1 a2 => exact execBankSupplyChange_touch a0 a1 a2 s
  | jtagInstruction a0 => exact execJtagInstruction_touch a0 s
  | tempoInputEdge a0 a1 => exact execTempoInputEdge_touch a0 a1 s
  | generatorTick a0 => exact execGeneratorTick_touch a0 s
  | chainTempo a0 a1 => exact execChainTempo_touch a0 a1 s
  | bellStart a0 => exact execBellStart_touch a0 s
  | tempoOutFall => exact execTempoOutFall_touch  s
  | tempoStall a0 => exact execTempoStall_touch a0 s
  | genCtlWrite a0 a1 a2 => exact execGenCtlWrite_touch a0 a1 a2 s
  | subFollow a0 a1 a2 a3 => exact execSubFollow_touch a0 a1 a2 a3 s
  | subCommit a0 a1 => exact execSubCommit_touch a0 a1 s
  | subCancel a0 a1 => exact execSubCancel_touch a0 a1 s
  | clsFollow a0 a1 => exact execClsFollow_touch a0 a1 s
  | clsCommit a0 a1 => exact execClsCommit_touch a0 a1 s
  | clsCancel a0 a1 => exact execClsCancel_touch a0 a1 s
  | followCopyDone a0 a1 => exact execFollowCopyDone_touch a0 a1 s
  | step a0 a1 => exact execStep_touch a0 a1 s
  | gapStep a0 => exact execGapStep_touch a0 s
  | faultRequestArrival a0 => exact execFaultRequestArrival_touch a0 s
  | freezePoint a0 => exact execFreezePoint_touch a0 s
  | resumePoint a0 => exact execResumePoint_touch a0 s
  | chainResumeDelayExpiry a0 => exact execChainResumeDelayExpiry_touch a0 s
  | drainDone a0 => exact execDrainDone_touch a0 s
  | rewindDone a0 => exact execRewindDone_touch a0 s
  | designTrigger a0 => exact execDesignTrigger_touch a0 s
  | bindingPresent a0 => exact execBindingPresent_touch a0 s
  | load a0 a1 => exact execLoad_touch a0 a1 s
  | arm a0 a1 a2 => exact execArm_touch a0 a1 a2 s
  | armDone a0 => exact execArmDone_touch a0 s
  | start a0 a1 a2 => exact execStart_touch a0 a1 a2 s
  | stopAtBell a0 a1 a2 => exact execStopAtBell_touch a0 a1 a2 s
  | resume a0 a1 a2 => exact execResume_touch a0 a1 a2 s
  | freezeNow a0 a1 a2 => exact execFreezeNow_touch a0 a1 a2 s
  | capture a0 a1 a2 => exact execCapture_touch a0 a1 a2 s
  | rewind a0 a1 a2 => exact execRewind_touch a0 a1 a2 s
  | abort a0 a1 a2 => exact execAbort_touch a0 a1 a2 s
  | unload a0 a1 a2 => exact execUnload_touch a0 a1 a2 s
  | partCommit a0 a1 a2 => exact execPartCommit_touch a0 a1 a2 s
  | partCommitCancel a0 a1 => exact execPartCommitCancel_touch a0 a1 s
  | faultTailWrite a0 a1 a2 => exact execFaultTailWrite_touch a0 a1 a2 s
  | doneSensed a0 => exact execDoneSensed_touch a0 s
  | loaderStart a0 a1 a2 a3 a4 a5 a6 => exact execLoaderStart_touch a0 a1 a2 a3 a4 a5 a6 s
  | loaderCancel a0 a1 => exact execLoaderCancel_touch a0 a1 s
  | loadSection a0 a1 a2 => exact execLoadSection_touch a0 a1 a2 s
  | loadComplete a0 => exact execLoadComplete_touch a0 s
  | loadTimeout a0 => exact execLoadTimeout_touch a0 s
  | keyProgram a0 a1 => exact execKeyProgram_touch a0 a1 s
  | keyRevoke a0 a1 => exact execKeyRevoke_touch a0 a1 s
  | keyClear a0 a1 => exact execKeyClear_touch a0 a1 s
  | vbatLoss => exact execVbatLoss_touch  s
  | lcAdvance a0 => exact execLcAdvance_touch a0 s
  | rkProgram a0 a1 => exact execRkProgram_touch a0 a1 s
  | rkRevoke a0 a1 => exact execRkRevoke_touch a0 a1 s
  | svnAdvance a0 a1 => exact execSvnAdvance_touch a0 a1 s
  | dxBellwait a0 a1 a2 a3 a4 => exact execDxBellwait_touch a0 a1 a2 a3 a4 s
  | bellwaitWake a0 a1 => exact execBellwaitWake_touch a0 a1 s
  | dxDeskpop a0 a1 a2 a3 => exact execDxDeskpop_touch a0 a1 a2 a3 s
  | deskpopTimeout a0 a1 => exact execDeskpopTimeout_touch a0 a1 s
  | dxDeskdone a0 a1 a2 a3 => exact execDxDeskdone_touch a0 a1 a2 a3 s
  | dxQpush a0 a1 a2 a3 a4 => exact execDxQpush_touch a0 a1 a2 a3 a4 s
  | dxTick a0 a1 a2 a3 => exact execDxTick_touch a0 a1 a2 a3 s
  | queueTailWrite a0 a1 a2 => exact execQueueTailWrite_touch a0 a1 a2 s
  | qEnable a0 a1 => exact execQEnable_touch a0 a1 s
  | qPause a0 a1 => exact execQPause_touch a0 a1 s
  | qUnpause a0 a1 => exact execQUnpause_touch a0 a1 s
  | qDisable a0 a1 => exact execQDisable_touch a0 a1 s
  | qFlush a0 a1 => exact execQFlush_touch a0 a1 s
  | qCfgNextWrite a0 a1 a2 => exact execQCfgNextWrite_touch a0 a1 a2 s
  | taskPlace => exact execTaskPlace_touch  s
  | tickSourceTick a0 => exact execTickSourceTick_touch a0 s
  | coreCfgWrite a0 a1 a2 => exact execCoreCfgWrite_touch a0 a1 a2 s
  | coreTraceStop a0 => exact execCoreTraceStop_touch a0 s
  | timeIncrement => exact execTimeIncrement_touch  s
  | timeStep a0 => exact execTimeStep_touch a0 s
  | timeRearm a0 => exact execTimeRearm_touch a0 s
  | timRateWrite a0 a1 => exact execTimRateWrite_touch a0 a1 s
  | ptpEventTx a0 a1 a2 => exact execPtpEventTx_touch a0 a1 a2 s
  | ptpEventRx a0 a1 => exact execPtpEventRx_touch a0 a1 s
  | txtsPop a0 => exact execTxtsPop_touch a0 s
  | chainTimeMarker a0 a1 a2 => exact execChainTimeMarker_touch a0 a1 a2 s
  | ptmTrigger a0 => exact execPtmTrigger_touch a0 s
  | ptmPeriod => exact execPtmPeriod_touch  s
  | ptmResponse a0 a1 a2 => exact execPtmResponse_touch a0 a1 a2 s
  | ptmTimeout => exact execPtmTimeout_touch  s
  | coreHalt a0 a1 a2 a3 => exact execCoreHalt_touch a0 a1 a2 a3 s
  | comparatorMatch a0 a1 a2 a3 a4 => exact execComparatorMatch_touch a0 a1 a2 a3 a4 s
  | ctiPulse => exact execCtiPulse_touch  s
  | dbgCtiPulseWrite a0 a1 => exact execDbgCtiPulseWrite_touch a0 a1 s
  | mbxGo a0 a1 => exact execMbxGo_touch a0 a1 s
  | hallPassExpiry => exact execHallPassExpiry_touch  s
  | classImmediateSubstitute a0 => exact execClassImmediateSubstitute_touch a0 s
  | declareDead a0 a1 a2 => exact execDeclareDead_touch a0 a1 a2 s
  | epochStale a0 a1 a2 a3 a4 => exact execEpochStale_touch a0 a1 a2 a3 a4 s
  | thresholdReached a0 a1 a2 a3 a4 => exact execThresholdReached_touch a0 a1 a2 a3 a4 s
  | selftest a0 a1 a2 => exact execSelftest_touch a0 a1 a2 s
  | selftestDone a0 => exact execSelftestDone_touch a0 s
  | enrol a0 a1 a2 => exact execEnrol_touch a0 a1 a2 s
  | eccSelftestStart a0 => exact execEccSelftestStart_touch a0 s
  | eccSelftestDone a0 => exact execEccSelftestDone_touch a0 s
  | tokenRenew a0 a1 => exact execTokenRenew_touch a0 a1 s
  | heartbeat a0 a1 => exact execHeartbeat_touch a0 a1 s
  | heartbeatTimeout a0 a1 => exact execHeartbeatTimeout_touch a0 a1 s
  | proctorWatchdogExpiry a0 => exact execProctorWatchdogExpiry_touch a0 s
  | lockstepMismatch a0 => exact execLockstepMismatch_touch a0 s
  | failMsg a0 => exact execFailMsg_touch a0 s
  | loadStandby a0 => exact execLoadStandby_touch a0 s
  | switch a0 => exact execSwitch_touch a0 s
  | reload a0 a1 => exact execReload_touch a0 a1 s
  | proctorFirmwareLoaded a0 a1 a2 a3 a4 a5 => exact execProctorFirmwareLoaded_touch a0 a1 a2 a3 a4 a5 s
  | hallMonitorTakeover => exact execHallMonitorTakeover_touch  s
  | bootPush a0 a1 => exact execBootPush_touch a0 a1 s
  | lcAdvanceDone => exact execLcAdvanceDone_touch  s
  | coreWatchdogExpiry a0 => exact execCoreWatchdogExpiry_touch a0 s
  | mtvecFetchFault a0 => exact execMtvecFetchFault_touch a0 s
  | powerOn => exact execPowerOn_touch  s
  | brownOut a0 => exact execBrownOut_touch a0 s
  | railGood a0 => exact execRailGood_touch a0 s
  | resetNAssert => exact execResetNAssert_touch  s
  | resetNRelease => exact execResetNRelease_touch  s
  | deviceWatchdogExpiry => exact execDeviceWatchdogExpiry_touch  s
  | dwdogKick a0 a1 => exact execDwdogKick_touch a0 a1 s
  | dwdogCfgWrite a0 a1 => exact execDwdogCfgWrite_touch a0 a1 s
  | swreq a0 a1 => exact execSwreq_touch a0 a1 s
  | dbgreqPulse a0 => exact execDbgreqPulse_touch a0 s
  | dbgreqHold a0 a1 => exact execDbgreqHold_touch a0 a1 s
  | rstUnitWrite a0 a1 a2 => exact execRstUnitWrite_touch a0 a1 a2 s
  | resetSourceTimeout a0 a1 => exact execResetSourceTimeout_touch a0 a1 s
  | releaseStep a0 a1 => exact execReleaseStep_touch a0 a1 s
  | writePulseEnd a0 => exact execWritePulseEnd_touch a0 s
  | hbmStackTrained => exact execHbmStackTrained_touch  s
  | clockGood a0 => exact execClockGood_touch a0 s
  | clockFail a0 => exact execClockFail_touch a0 s
  | tempSample a0 => exact execTempSample_touch a0 s
  | throttleAdjust => exact execThrottleAdjust_touch  s
  | pwrRecess a0 => exact execPwrRecess_touch a0 s
  | pwrWake a0 => exact execPwrWake_touch a0 s
  | gpioWake => exact execGpioWake_touch  s
  | recessExitDone => exact execRecessExitDone_touch  s
  | ethernetFrame => exact execEthernetFrame_touch  s
  | vfFlr a0 => exact execVfFlr_touch a0 s
  | pfFlr => exact execPfFlr_touch  s
  | hotReset => exact execHotReset_touch  s
  | linkDown => exact execLinkDown_touch  s
  | msixUnmask a0 a1 => exact execMsixUnmask_touch a0 a1 s
  | configurationSpaceWrite a0 a1 => exact execConfigurationSpaceWrite_touch a0 a1 s
  | registerWrite a0 a1 a2 a3 => exact execRegisterWrite_touch a0 a1 a2 a3 s
  | rclRead a0 a1 a2 a3 => exact execRclRead_touch a0 a1 a2 a3 s
  | latchingRead a0 a1 a2 a3 => exact execLatchingRead_touch a0 a1 a2 a3 s
  | routeTableWrite a0 a1 => exact execRouteTableWrite_touch a0 a1 s
  | netRead a0 a1 a2 a3 a4 a5 a6 => exact execNetRead_touch a0 a1 a2 a3 a4 a5 a6 s
  | netWrite a0 a1 a2 a3 => exact execNetWrite_touch a0 a1 a2 a3 s
  | netWriteP a0 a1 a2 a3 => exact execNetWriteP_touch a0 a1 a2 a3 s
  | netAmo a0 a1 a2 a3 a4 => exact execNetAmo_touch a0 a1 a2 a3 a4 s
  | response a0 a1 => exact execResponse_touch a0 a1 s
  | requestTimeout a0 a1 => exact execRequestTimeout_touch a0 a1 s
  | doorbell a0 a1 a2 => exact execDoorbell_touch a0 a1 a2 s
  | apertureRequest a0 a1 a2 a3 a4 => exact execApertureRequest_touch a0 a1 a2 a3 a4 s
  | monHalt a0 a1 => exact execMonHalt_touch a0 a1 s
  | monResume a0 a1 => exact execMonResume_touch a0 a1 s
  | monStep a0 a1 a2 => exact execMonStep_touch a0 a1 a2 s
  | monRead a0 a1 => exact execMonRead_touch a0 a1 s
  | monWrite a0 a1 => exact execMonWrite_touch a0 a1 s
  | monPeek a0 a1 => exact execMonPeek_touch a0 a1 s
  | monSetbp a0 a1 => exact execMonSetbp_touch a0 a1 s
  | monSetwp a0 a1 => exact execMonSetwp_touch a0 a1 s
  | monTracecfg a0 a1 => exact execMonTracecfg_touch a0 a1 s
  | monFreeze a0 a1 => exact execMonFreeze_touch a0 a1 s
  | monCapture a0 a1 => exact execMonCapture_touch a0 a1 s
  | hallpassNonce a0 a1 => exact execHallpassNonce_touch a0 a1 s
  | hallpassPresent a0 a1 => exact execHallpassPresent_touch a0 a1 s
  | hallpassWithdraw a0 a1 => exact execHallpassWithdraw_touch a0 a1 s
  | badMonitorFrame a0 a1 a2 => exact execBadMonitorFrame_touch a0 a1 a2 s

end Machine
end Sys2Proof
end

