-- ==== Sys2Proof/Laws/Fields.lean ====
section
/-! SUPPORT. Fields of registers: what a field reads after a field was written. -/
namespace Sys2Proof
namespace Machine

variable (s : State)

/-- The field just written reads its value, cut to its width. -/
theorem State.gf_sf_same {f : Fld} (i v : Nat) (h : f.lo + f.w ≤ 32) : (s.sf f i v).gf f i = v % 2 ^ f.w := by
  unfold State.gf State.sf
  rw [State.reg_setReg_same, Fld.of_put_same f _ v h]

/-- The field just written reads its value, where the value fits. -/
theorem State.gf_sf_fit {f : Fld} (i : Nat) {v : Nat} (h : f.lo + f.w ≤ 32) (k : v < 2 ^ f.w) : (s.sf f i v).gf f i = v := by
  rw [State.gf_sf_same s i v h, Nat.mod_eq_of_lt k]

/-- A write of a field leaves every field of another register. -/
theorem State.gf_sf_reg {f g : Fld} (i j v : Nat) (h : g.reg.ctorIdx ≠ f.reg.ctorIdx) : (s.sf f i v).gf g j = s.gf g j := by
  unfold State.gf State.sf
  rw [State.reg_setReg_reg s i j _ h]

/-- A write of a field leaves every field of another instance. -/
theorem State.gf_sf_inst {f g : Fld} {i j : Nat} (v : Nat) (h : j ≠ i) : (s.sf f i v).gf g j = s.gf g j := by
  unfold State.gf State.sf
  rw [State.reg_setReg_inst s _ _ _ h]

/-- A write of a field leaves the other fields of its register. -/
theorem State.gf_sf_fld {f g : Fld} (i v : Nat) (r : g.reg = f.reg) (h : f.lo + f.w ≤ 32) (d : f.lo + f.w ≤ g.lo ∨ g.lo + g.w ≤ f.lo) :
    (s.sf f i v).gf g i = s.gf g i := by
  unfold State.gf State.sf
  rw [r, State.reg_setReg_same, Fld.of_put_ne f g _ v h d]

/-- A write of a register leaves every field of another register. -/
theorem State.gf_setReg_reg {r : Reg} {g : Fld} (i j : Nat) (w : Word) (h : g.reg.ctorIdx ≠ r.ctorIdx) : (s.setReg r i w).gf g j = s.gf g j := by
  unfold State.gf
  rw [State.reg_setReg_reg s i j _ h]

/-- A write of a field leaves every other register. -/
theorem State.reg_sf_reg {f : Fld} {r : Reg} (i j v : Nat) (h : r.ctorIdx ≠ f.reg.ctorIdx) : (s.sf f i v).reg r j = s.reg r j :=
  State.reg_setReg_reg s i j _ h

/-- A flag just written reads back. -/
theorem State.flag_sflag {f : Fld} (i : Nat) (b : Bool) (h : f.lo + f.w ≤ 32) (w : f.w = 1) : (s.sflag f i b).flag f i = b := by
  unfold State.flag State.sflag
  rw [State.gf_sf_same s i _ h, w]
  cases b <;> rfl

end Machine
end Sys2Proof
end

