-- ==== Sys2Proof/Laws/Only.lean ====
section
/-! SUPPORT. From what an operation touches to the frames that statements speak of: a mask within the named registers and parts. -/
namespace Sys2Proof
namespace Machine

theorem Reg.ofNat_ctorIdx (r : Reg) : Reg.ofNat r.ctorIdx = r := by cases r <;> rfl

theorem Reg.ctorIdx_inj {r q : Reg} (h : r.ctorIdx = q.ctorIdx) : r = q := by
  rw [← Reg.ofNat_ctorIdx r, ← Reg.ofNat_ctorIdx q, h]

theorem Reg.ctorIdx_lt_402 (r : Reg) : r.ctorIdx < 402 := by cases r <;> decide

/-- The bit of a part in a mask. -/
def Part.bit : Part → Nat
  | .scc => 402
  | .bp => 403
  | .net => 404
  | .parts => 405
  | .frz => 406
  | .mem => 407
  | .tim => 408
  | .hif => 409
  | .rel => 410
  | .trc => 411
  | .dbg => 412
  | .stw => 413
  | .lnk => 414
  | .clk => 415
  | .pio => 416
  | .tmp => 417
  | .ld => 418
  | .dsp => 419
  | .tn => 420
  | .rst => 421
  | .resp => 422
  | .seq => 423

/-- Every register of the mask stands in the list. -/
def regsWithin (w : Nat) (rs : List Reg) : Bool :=
  (List.range 402).all fun n => !w.testBit n || rs.any fun r => decide (r.ctorIdx = n)

/-- Every part of the mask stands in the list. -/
def partsWithin (w : Nat) (ps : List Part) : Bool :=
  (List.range 22).all fun n => !w.testBit (402 + n) || ps.any fun p => decide (p.bit = 402 + n)

theorem regsWithin_testBit {w : Nat} {rs : List Reg} (h : regsWithin w rs = true) {r : Reg} (k : r ∉ rs) : w.testBit r.ctorIdx = false := by
  have a := (List.all_eq_true.mp h) r.ctorIdx (List.mem_range.mpr (Reg.ctorIdx_lt_402 r))
  rcases Bool.or_eq_true_iff.mp a with b | b
  · simpa using b
  · obtain ⟨q, hq, e⟩ := List.any_eq_true.mp b
    exact absurd (Reg.ctorIdx_inj (of_decide_eq_true e) ▸ hq) k

theorem partsWithin_testBit {w : Nat} {ps : List Part} (h : partsWithin w ps = true) {p : Part} (k : p ∉ ps) : w.testBit p.bit = false := by
  have l : p.bit - 402 < 22 := by cases p <;> decide
  have e' : 402 + (p.bit - 402) = p.bit := by cases p <;> rfl
  have a := (List.all_eq_true.mp h) (p.bit - 402) (List.mem_range.mpr l)
  rw [e'] at a
  rcases Bool.or_eq_true_iff.mp a with b | b
  · simpa using b
  · obtain ⟨q, hq, e⟩ := List.any_eq_true.mp b
    have : q = p := by
      have := of_decide_eq_true e
      revert this
      cases q <;> cases p <;> decide
    exact absurd (this ▸ hq) k

/-- A part that the mask leaves out is the same. -/
theorem Touch.part {w : Nat} {s t : State} (h : Touch w s t) (p : Part) (e : w.testBit p.bit = false) : p.same s t := by
  cases p
  · exact h.scc e
  · exact h.bp e
  · exact h.net e
  · exact h.parts e
  · exact h.frz e
  · exact h.mem e
  · exact h.tim e
  · exact h.hif e
  · exact h.rel e
  · exact h.trc e
  · exact h.dbg e
  · exact h.stw e
  · exact h.lnk e
  · exact h.clk e
  · exact h.pio e
  · exact h.tmp e
  · exact h.ld e
  · exact h.dsp e
  · exact h.tn e
  · exact h.rst e
  · exact h.resp e
  · exact h.seq e

/-- A mask within the named registers and parts is a frame. -/
theorem Touch.only {w : Nat} {s t : State} {rs : List Reg} {ps : List Part} (h : Touch w s t) (a : regsWithin w rs = true)
    (b : partsWithin w ps = true) : Only rs ps s t where
  pending := h.pending
  reg r k i := h.reg r i (regsWithin_testBit a k)
  part p k := h.part p (partsWithin_testBit b k)
  bytes k x := by unfold State.rb; rw [h.mem (partsWithin_testBit (p := .mem) b k)]

/-- Frames follow one another. -/
theorem Only.trans {rs : List Reg} {ps : List Part} {s x t : State} (h : Only rs ps s x) (k : Only rs ps x t) : Only rs ps s t where
  pending := k.pending.trans h.pending
  reg r e i := (k.reg r e i).trans (h.reg r e i)
  part p e := by
    have a := h.part p e
    have b := k.part p e
    revert a b
    cases p <;> exact fun a b => Eq.trans b a
  bytes e a := (k.bytes e a).trans (h.bytes e a)

end Machine
end Sys2Proof
end

