-- ==== Sys2Proof/Laws/State.lean ====
section
/-! SUPPORT. What each update of the state leaves: one lemma for each field and each update, and what registers, fields and flags read after an
update of another part. -/
set_option Elab.async false
namespace Sys2Proof
namespace Machine

variable (s : State)

/-! ### `setReg` -/

@[simp] theorem State.setReg_pending (r : Reg) (i : Nat) (w : Word) : (s.setReg r i w).pending = s.pending := rfl
@[simp] theorem State.setReg_scc (r : Reg) (i : Nat) (w : Word) : (s.setReg r i w).scc = s.scc := rfl
@[simp] theorem State.setReg_bp (r : Reg) (i : Nat) (w : Word) : (s.setReg r i w).bp = s.bp := rfl
@[simp] theorem State.setReg_net (r : Reg) (i : Nat) (w : Word) : (s.setReg r i w).net = s.net := rfl
@[simp] theorem State.setReg_parts (r : Reg) (i : Nat) (w : Word) : (s.setReg r i w).parts = s.parts := rfl
@[simp] theorem State.setReg_frz (r : Reg) (i : Nat) (w : Word) : (s.setReg r i w).frz = s.frz := rfl
@[simp] theorem State.setReg_mem (r : Reg) (i : Nat) (w : Word) : (s.setReg r i w).mem = s.mem := rfl
@[simp] theorem State.setReg_tim (r : Reg) (i : Nat) (w : Word) : (s.setReg r i w).tim = s.tim := rfl
@[simp] theorem State.setReg_hif (r : Reg) (i : Nat) (w : Word) : (s.setReg r i w).hif = s.hif := rfl
@[simp] theorem State.setReg_rel (r : Reg) (i : Nat) (w : Word) : (s.setReg r i w).rel = s.rel := rfl
@[simp] theorem State.setReg_trc (r : Reg) (i : Nat) (w : Word) : (s.setReg r i w).trc = s.trc := rfl
@[simp] theorem State.setReg_dbg (r : Reg) (i : Nat) (w : Word) : (s.setReg r i w).dbg = s.dbg := rfl
@[simp] theorem State.setReg_stw (r : Reg) (i : Nat) (w : Word) : (s.setReg r i w).stw = s.stw := rfl
@[simp] theorem State.setReg_lnk (r : Reg) (i : Nat) (w : Word) : (s.setReg r i w).lnk = s.lnk := rfl
@[simp] theorem State.setReg_clk (r : Reg) (i : Nat) (w : Word) : (s.setReg r i w).clk = s.clk := rfl
@[simp] theorem State.setReg_pio (r : Reg) (i : Nat) (w : Word) : (s.setReg r i w).pio = s.pio := rfl
@[simp] theorem State.setReg_tmp (r : Reg) (i : Nat) (w : Word) : (s.setReg r i w).tmp = s.tmp := rfl
@[simp] theorem State.setReg_ld (r : Reg) (i : Nat) (w : Word) : (s.setReg r i w).ld = s.ld := rfl
@[simp] theorem State.setReg_dsp (r : Reg) (i : Nat) (w : Word) : (s.setReg r i w).dsp = s.dsp := rfl
@[simp] theorem State.setReg_tn (r : Reg) (i : Nat) (w : Word) : (s.setReg r i w).tn = s.tn := rfl
@[simp] theorem State.setReg_rst (r : Reg) (i : Nat) (w : Word) : (s.setReg r i w).rst = s.rst := rfl
@[simp] theorem State.setReg_resp (r : Reg) (i : Nat) (w : Word) : (s.setReg r i w).resp = s.resp := rfl
@[simp] theorem State.setReg_seq (r : Reg) (i : Nat) (w : Word) : (s.setReg r i w).seq = s.seq := rfl

/-! ### `sf` -/

@[simp] theorem State.sf_pending (f : Fld) (i v : Nat) : (s.sf f i v).pending = s.pending := rfl
@[simp] theorem State.sf_scc (f : Fld) (i v : Nat) : (s.sf f i v).scc = s.scc := rfl
@[simp] theorem State.sf_bp (f : Fld) (i v : Nat) : (s.sf f i v).bp = s.bp := rfl
@[simp] theorem State.sf_net (f : Fld) (i v : Nat) : (s.sf f i v).net = s.net := rfl
@[simp] theorem State.sf_parts (f : Fld) (i v : Nat) : (s.sf f i v).parts = s.parts := rfl
@[simp] theorem State.sf_frz (f : Fld) (i v : Nat) : (s.sf f i v).frz = s.frz := rfl
@[simp] theorem State.sf_mem (f : Fld) (i v : Nat) : (s.sf f i v).mem = s.mem := rfl
@[simp] theorem State.sf_tim (f : Fld) (i v : Nat) : (s.sf f i v).tim = s.tim := rfl
@[simp] theorem State.sf_hif (f : Fld) (i v : Nat) : (s.sf f i v).hif = s.hif := rfl
@[simp] theorem State.sf_rel (f : Fld) (i v : Nat) : (s.sf f i v).rel = s.rel := rfl
@[simp] theorem State.sf_trc (f : Fld) (i v : Nat) : (s.sf f i v).trc = s.trc := rfl
@[simp] theorem State.sf_dbg (f : Fld) (i v : Nat) : (s.sf f i v).dbg = s.dbg := rfl
@[simp] theorem State.sf_stw (f : Fld) (i v : Nat) : (s.sf f i v).stw = s.stw := rfl
@[simp] theorem State.sf_lnk (f : Fld) (i v : Nat) : (s.sf f i v).lnk = s.lnk := rfl
@[simp] theorem State.sf_clk (f : Fld) (i v : Nat) : (s.sf f i v).clk = s.clk := rfl
@[simp] theorem State.sf_pio (f : Fld) (i v : Nat) : (s.sf f i v).pio = s.pio := rfl
@[simp] theorem State.sf_tmp (f : Fld) (i v : Nat) : (s.sf f i v).tmp = s.tmp := rfl
@[simp] theorem State.sf_ld (f : Fld) (i v : Nat) : (s.sf f i v).ld = s.ld := rfl
@[simp] theorem State.sf_dsp (f : Fld) (i v : Nat) : (s.sf f i v).dsp = s.dsp := rfl
@[simp] theorem State.sf_tn (f : Fld) (i v : Nat) : (s.sf f i v).tn = s.tn := rfl
@[simp] theorem State.sf_rst (f : Fld) (i v : Nat) : (s.sf f i v).rst = s.rst := rfl
@[simp] theorem State.sf_resp (f : Fld) (i v : Nat) : (s.sf f i v).resp = s.resp := rfl
@[simp] theorem State.sf_seq (f : Fld) (i v : Nat) : (s.sf f i v).seq = s.seq := rfl

/-! ### `sflag` -/

@[simp] theorem State.sflag_pending (f : Fld) (i : Nat) (b : Bool) : (s.sflag f i b).pending = s.pending := rfl
@[simp] theorem State.sflag_scc (f : Fld) (i : Nat) (b : Bool) : (s.sflag f i b).scc = s.scc := rfl
@[simp] theorem State.sflag_bp (f : Fld) (i : Nat) (b : Bool) : (s.sflag f i b).bp = s.bp := rfl
@[simp] theorem State.sflag_net (f : Fld) (i : Nat) (b : Bool) : (s.sflag f i b).net = s.net := rfl
@[simp] theorem State.sflag_parts (f : Fld) (i : Nat) (b : Bool) : (s.sflag f i b).parts = s.parts := rfl
@[simp] theorem State.sflag_frz (f : Fld) (i : Nat) (b : Bool) : (s.sflag f i b).frz = s.frz := rfl
@[simp] theorem State.sflag_mem (f : Fld) (i : Nat) (b : Bool) : (s.sflag f i b).mem = s.mem := rfl
@[simp] theorem State.sflag_tim (f : Fld) (i : Nat) (b : Bool) : (s.sflag f i b).tim = s.tim := rfl
@[simp] theorem State.sflag_hif (f : Fld) (i : Nat) (b : Bool) : (s.sflag f i b).hif = s.hif := rfl
@[simp] theorem State.sflag_rel (f : Fld) (i : Nat) (b : Bool) : (s.sflag f i b).rel = s.rel := rfl
@[simp] theorem State.sflag_trc (f : Fld) (i : Nat) (b : Bool) : (s.sflag f i b).trc = s.trc := rfl
@[simp] theorem State.sflag_dbg (f : Fld) (i : Nat) (b : Bool) : (s.sflag f i b).dbg = s.dbg := rfl
@[simp] theorem State.sflag_stw (f : Fld) (i : Nat) (b : Bool) : (s.sflag f i b).stw = s.stw := rfl
@[simp] theorem State.sflag_lnk (f : Fld) (i : Nat) (b : Bool) : (s.sflag f i b).lnk = s.lnk := rfl
@[simp] theorem State.sflag_clk (f : Fld) (i : Nat) (b : Bool) : (s.sflag f i b).clk = s.clk := rfl
@[simp] theorem State.sflag_pio (f : Fld) (i : Nat) (b : Bool) : (s.sflag f i b).pio = s.pio := rfl
@[simp] theorem State.sflag_tmp (f : Fld) (i : Nat) (b : Bool) : (s.sflag f i b).tmp = s.tmp := rfl
@[simp] theorem State.sflag_ld (f : Fld) (i : Nat) (b : Bool) : (s.sflag f i b).ld = s.ld := rfl
@[simp] theorem State.sflag_dsp (f : Fld) (i : Nat) (b : Bool) : (s.sflag f i b).dsp = s.dsp := rfl
@[simp] theorem State.sflag_tn (f : Fld) (i : Nat) (b : Bool) : (s.sflag f i b).tn = s.tn := rfl
@[simp] theorem State.sflag_rst (f : Fld) (i : Nat) (b : Bool) : (s.sflag f i b).rst = s.rst := rfl
@[simp] theorem State.sflag_resp (f : Fld) (i : Nat) (b : Bool) : (s.sflag f i b).resp = s.resp := rfl
@[simp] theorem State.sflag_seq (f : Fld) (i : Nat) (b : Bool) : (s.sflag f i b).seq = s.seq := rfl

/-! ### `setPart` -/

@[simp] theorem State.setPart_pending (p : Nat) (r : PartRec) : (s.setPart p r).pending = s.pending := rfl
@[simp] theorem State.setPart_regs (p : Nat) (r : PartRec) : (s.setPart p r).regs = s.regs := rfl
@[simp] theorem State.setPart_scc (p : Nat) (r : PartRec) : (s.setPart p r).scc = s.scc := rfl
@[simp] theorem State.setPart_bp (p : Nat) (r : PartRec) : (s.setPart p r).bp = s.bp := rfl
@[simp] theorem State.setPart_net (p : Nat) (r : PartRec) : (s.setPart p r).net = s.net := rfl
@[simp] theorem State.setPart_frz (p : Nat) (r : PartRec) : (s.setPart p r).frz = s.frz := rfl
@[simp] theorem State.setPart_mem (p : Nat) (r : PartRec) : (s.setPart p r).mem = s.mem := rfl
@[simp] theorem State.setPart_tim (p : Nat) (r : PartRec) : (s.setPart p r).tim = s.tim := rfl
@[simp] theorem State.setPart_hif (p : Nat) (r : PartRec) : (s.setPart p r).hif = s.hif := rfl
@[simp] theorem State.setPart_rel (p : Nat) (r : PartRec) : (s.setPart p r).rel = s.rel := rfl
@[simp] theorem State.setPart_trc (p : Nat) (r : PartRec) : (s.setPart p r).trc = s.trc := rfl
@[simp] theorem State.setPart_dbg (p : Nat) (r : PartRec) : (s.setPart p r).dbg = s.dbg := rfl
@[simp] theorem State.setPart_stw (p : Nat) (r : PartRec) : (s.setPart p r).stw = s.stw := rfl
@[simp] theorem State.setPart_lnk (p : Nat) (r : PartRec) : (s.setPart p r).lnk = s.lnk := rfl
@[simp] theorem State.setPart_clk (p : Nat) (r : PartRec) : (s.setPart p r).clk = s.clk := rfl
@[simp] theorem State.setPart_pio (p : Nat) (r : PartRec) : (s.setPart p r).pio = s.pio := rfl
@[simp] theorem State.setPart_tmp (p : Nat) (r : PartRec) : (s.setPart p r).tmp = s.tmp := rfl
@[simp] theorem State.setPart_ld (p : Nat) (r : PartRec) : (s.setPart p r).ld = s.ld := rfl
@[simp] theorem State.setPart_dsp (p : Nat) (r : PartRec) : (s.setPart p r).dsp = s.dsp := rfl
@[simp] theorem State.setPart_tn (p : Nat) (r : PartRec) : (s.setPart p r).tn = s.tn := rfl
@[simp] theorem State.setPart_rst (p : Nat) (r : PartRec) : (s.setPart p r).rst = s.rst := rfl
@[simp] theorem State.setPart_resp (p : Nat) (r : PartRec) : (s.setPart p r).resp = s.resp := rfl
@[simp] theorem State.setPart_seq (p : Nat) (r : PartRec) : (s.setPart p r).seq = s.seq := rfl
@[simp] theorem State.setPart_reg (p : Nat) (r : PartRec) (q : Reg) (j : Nat) : (s.setPart p r).reg q j = s.reg q j := rfl
@[simp] theorem State.setPart_gf (p : Nat) (r : PartRec) (q : Fld) (j : Nat) : (s.setPart p r).gf q j = s.gf q j := rfl
@[simp] theorem State.setPart_flag (p : Nat) (r : PartRec) (q : Fld) (j : Nat) : (s.setPart p r).flag q j = s.flag q j := rfl
@[simp] theorem State.setPart_pst (p : Nat) (r : PartRec) (q : Nat) : (s.setPart p r).pst q = s.pst q := rfl

/-! ### `modPart` -/

@[simp] theorem State.modPart_pending (p : Nat) (f : PartRec → PartRec) : (s.modPart p f).pending = s.pending := rfl
@[simp] theorem State.modPart_regs (p : Nat) (f : PartRec → PartRec) : (s.modPart p f).regs = s.regs := rfl
@[simp] theorem State.modPart_scc (p : Nat) (f : PartRec → PartRec) : (s.modPart p f).scc = s.scc := rfl
@[simp] theorem State.modPart_bp (p : Nat) (f : PartRec → PartRec) : (s.modPart p f).bp = s.bp := rfl
@[simp] theorem State.modPart_net (p : Nat) (f : PartRec → PartRec) : (s.modPart p f).net = s.net := rfl
@[simp] theorem State.modPart_frz (p : Nat) (f : PartRec → PartRec) : (s.modPart p f).frz = s.frz := rfl
@[simp] theorem State.modPart_mem (p : Nat) (f : PartRec → PartRec) : (s.modPart p f).mem = s.mem := rfl
@[simp] theorem State.modPart_tim (p : Nat) (f : PartRec → PartRec) : (s.modPart p f).tim = s.tim := rfl
@[simp] theorem State.modPart_hif (p : Nat) (f : PartRec → PartRec) : (s.modPart p f).hif = s.hif := rfl
@[simp] theorem State.modPart_rel (p : Nat) (f : PartRec → PartRec) : (s.modPart p f).rel = s.rel := rfl
@[simp] theorem State.modPart_trc (p : Nat) (f : PartRec → PartRec) : (s.modPart p f).trc = s.trc := rfl
@[simp] theorem State.modPart_dbg (p : Nat) (f : PartRec → PartRec) : (s.modPart p f).dbg = s.dbg := rfl
@[simp] theorem State.modPart_stw (p : Nat) (f : PartRec → PartRec) : (s.modPart p f).stw = s.stw := rfl
@[simp] theorem State.modPart_lnk (p : Nat) (f : PartRec → PartRec) : (s.modPart p f).lnk = s.lnk := rfl
@[simp] theorem State.modPart_clk (p : Nat) (f : PartRec → PartRec) : (s.modPart p f).clk = s.clk := rfl
@[simp] theorem State.modPart_pio (p : Nat) (f : PartRec → PartRec) : (s.modPart p f).pio = s.pio := rfl
@[simp] theorem State.modPart_tmp (p : Nat) (f : PartRec → PartRec) : (s.modPart p f).tmp = s.tmp := rfl
@[simp] theorem State.modPart_ld (p : Nat) (f : PartRec → PartRec) : (s.modPart p f).ld = s.ld := rfl
@[simp] theorem State.modPart_dsp (p : Nat) (f : PartRec → PartRec) : (s.modPart p f).dsp = s.dsp := rfl
@[simp] theorem State.modPart_tn (p : Nat) (f : PartRec → PartRec) : (s.modPart p f).tn = s.tn := rfl
@[simp] theorem State.modPart_rst (p : Nat) (f : PartRec → PartRec) : (s.modPart p f).rst = s.rst := rfl
@[simp] theorem State.modPart_resp (p : Nat) (f : PartRec → PartRec) : (s.modPart p f).resp = s.resp := rfl
@[simp] theorem State.modPart_seq (p : Nat) (f : PartRec → PartRec) : (s.modPart p f).seq = s.seq := rfl
@[simp] theorem State.modPart_reg (p : Nat) (f : PartRec → PartRec) (q : Reg) (j : Nat) : (s.modPart p f).reg q j = s.reg q j := rfl
@[simp] theorem State.modPart_gf (p : Nat) (f : PartRec → PartRec) (q : Fld) (j : Nat) : (s.modPart p f).gf q j = s.gf q j := rfl
@[simp] theorem State.modPart_flag (p : Nat) (f : PartRec → PartRec) (q : Fld) (j : Nat) : (s.modPart p f).flag q j = s.flag q j := rfl
@[simp] theorem State.modPart_pst (p : Nat) (f : PartRec → PartRec) (q : Nat) : (s.modPart p f).pst q = s.pst q := rfl

/-! ### `setFz` -/

@[simp] theorem State.setFz_pending (p : Nat) (r : FrzPart) : (s.setFz p r).pending = s.pending := rfl
@[simp] theorem State.setFz_regs (p : Nat) (r : FrzPart) : (s.setFz p r).regs = s.regs := rfl
@[simp] theorem State.setFz_scc (p : Nat) (r : FrzPart) : (s.setFz p r).scc = s.scc := rfl
@[simp] theorem State.setFz_bp (p : Nat) (r : FrzPart) : (s.setFz p r).bp = s.bp := rfl
@[simp] theorem State.setFz_net (p : Nat) (r : FrzPart) : (s.setFz p r).net = s.net := rfl
@[simp] theorem State.setFz_parts (p : Nat) (r : FrzPart) : (s.setFz p r).parts = s.parts := rfl
@[simp] theorem State.setFz_mem (p : Nat) (r : FrzPart) : (s.setFz p r).mem = s.mem := rfl
@[simp] theorem State.setFz_tim (p : Nat) (r : FrzPart) : (s.setFz p r).tim = s.tim := rfl
@[simp] theorem State.setFz_hif (p : Nat) (r : FrzPart) : (s.setFz p r).hif = s.hif := rfl
@[simp] theorem State.setFz_rel (p : Nat) (r : FrzPart) : (s.setFz p r).rel = s.rel := rfl
@[simp] theorem State.setFz_trc (p : Nat) (r : FrzPart) : (s.setFz p r).trc = s.trc := rfl
@[simp] theorem State.setFz_dbg (p : Nat) (r : FrzPart) : (s.setFz p r).dbg = s.dbg := rfl
@[simp] theorem State.setFz_stw (p : Nat) (r : FrzPart) : (s.setFz p r).stw = s.stw := rfl
@[simp] theorem State.setFz_lnk (p : Nat) (r : FrzPart) : (s.setFz p r).lnk = s.lnk := rfl
@[simp] theorem State.setFz_clk (p : Nat) (r : FrzPart) : (s.setFz p r).clk = s.clk := rfl
@[simp] theorem State.setFz_pio (p : Nat) (r : FrzPart) : (s.setFz p r).pio = s.pio := rfl
@[simp] theorem State.setFz_tmp (p : Nat) (r : FrzPart) : (s.setFz p r).tmp = s.tmp := rfl
@[simp] theorem State.setFz_ld (p : Nat) (r : FrzPart) : (s.setFz p r).ld = s.ld := rfl
@[simp] theorem State.setFz_dsp (p : Nat) (r : FrzPart) : (s.setFz p r).dsp = s.dsp := rfl
@[simp] theorem State.setFz_tn (p : Nat) (r : FrzPart) : (s.setFz p r).tn = s.tn := rfl
@[simp] theorem State.setFz_rst (p : Nat) (r : FrzPart) : (s.setFz p r).rst = s.rst := rfl
@[simp] theorem State.setFz_resp (p : Nat) (r : FrzPart) : (s.setFz p r).resp = s.resp := rfl
@[simp] theorem State.setFz_seq (p : Nat) (r : FrzPart) : (s.setFz p r).seq = s.seq := rfl
@[simp] theorem State.setFz_reg (p : Nat) (r : FrzPart) (q : Reg) (j : Nat) : (s.setFz p r).reg q j = s.reg q j := rfl
@[simp] theorem State.setFz_gf (p : Nat) (r : FrzPart) (q : Fld) (j : Nat) : (s.setFz p r).gf q j = s.gf q j := rfl
@[simp] theorem State.setFz_flag (p : Nat) (r : FrzPart) (q : Fld) (j : Nat) : (s.setFz p r).flag q j = s.flag q j := rfl
@[simp] theorem State.setFz_pst (p : Nat) (r : FrzPart) (q : Nat) : (s.setFz p r).pst q = s.pst q := rfl

/-! ### `modTrec` -/

@[simp] theorem State.modTrec_pending (p : Nat) (f : TrcRec → TrcRec) : (s.modTrec p f).pending = s.pending := rfl
@[simp] theorem State.modTrec_regs (p : Nat) (f : TrcRec → TrcRec) : (s.modTrec p f).regs = s.regs := rfl
@[simp] theorem State.modTrec_scc (p : Nat) (f : TrcRec → TrcRec) : (s.modTrec p f).scc = s.scc := rfl
@[simp] theorem State.modTrec_bp (p : Nat) (f : TrcRec → TrcRec) : (s.modTrec p f).bp = s.bp := rfl
@[simp] theorem State.modTrec_net (p : Nat) (f : TrcRec → TrcRec) : (s.modTrec p f).net = s.net := rfl
@[simp] theorem State.modTrec_parts (p : Nat) (f : TrcRec → TrcRec) : (s.modTrec p f).parts = s.parts := rfl
@[simp] theorem State.modTrec_frz (p : Nat) (f : TrcRec → TrcRec) : (s.modTrec p f).frz = s.frz := rfl
@[simp] theorem State.modTrec_mem (p : Nat) (f : TrcRec → TrcRec) : (s.modTrec p f).mem = s.mem := rfl
@[simp] theorem State.modTrec_tim (p : Nat) (f : TrcRec → TrcRec) : (s.modTrec p f).tim = s.tim := rfl
@[simp] theorem State.modTrec_hif (p : Nat) (f : TrcRec → TrcRec) : (s.modTrec p f).hif = s.hif := rfl
@[simp] theorem State.modTrec_rel (p : Nat) (f : TrcRec → TrcRec) : (s.modTrec p f).rel = s.rel := rfl
@[simp] theorem State.modTrec_dbg (p : Nat) (f : TrcRec → TrcRec) : (s.modTrec p f).dbg = s.dbg := rfl
@[simp] theorem State.modTrec_stw (p : Nat) (f : TrcRec → TrcRec) : (s.modTrec p f).stw = s.stw := rfl
@[simp] theorem State.modTrec_lnk (p : Nat) (f : TrcRec → TrcRec) : (s.modTrec p f).lnk = s.lnk := rfl
@[simp] theorem State.modTrec_clk (p : Nat) (f : TrcRec → TrcRec) : (s.modTrec p f).clk = s.clk := rfl
@[simp] theorem State.modTrec_pio (p : Nat) (f : TrcRec → TrcRec) : (s.modTrec p f).pio = s.pio := rfl
@[simp] theorem State.modTrec_tmp (p : Nat) (f : TrcRec → TrcRec) : (s.modTrec p f).tmp = s.tmp := rfl
@[simp] theorem State.modTrec_ld (p : Nat) (f : TrcRec → TrcRec) : (s.modTrec p f).ld = s.ld := rfl
@[simp] theorem State.modTrec_dsp (p : Nat) (f : TrcRec → TrcRec) : (s.modTrec p f).dsp = s.dsp := rfl
@[simp] theorem State.modTrec_tn (p : Nat) (f : TrcRec → TrcRec) : (s.modTrec p f).tn = s.tn := rfl
@[simp] theorem State.modTrec_rst (p : Nat) (f : TrcRec → TrcRec) : (s.modTrec p f).rst = s.rst := rfl
@[simp] theorem State.modTrec_resp (p : Nat) (f : TrcRec → TrcRec) : (s.modTrec p f).resp = s.resp := rfl
@[simp] theorem State.modTrec_seq (p : Nat) (f : TrcRec → TrcRec) : (s.modTrec p f).seq = s.seq := rfl
@[simp] theorem State.modTrec_reg (p : Nat) (f : TrcRec → TrcRec) (q : Reg) (j : Nat) : (s.modTrec p f).reg q j = s.reg q j := rfl
@[simp] theorem State.modTrec_gf (p : Nat) (f : TrcRec → TrcRec) (q : Fld) (j : Nat) : (s.modTrec p f).gf q j = s.gf q j := rfl
@[simp] theorem State.modTrec_flag (p : Nat) (f : TrcRec → TrcRec) (q : Fld) (j : Nat) : (s.modTrec p f).flag q j = s.flag q j := rfl
@[simp] theorem State.modTrec_pst (p : Nat) (f : TrcRec → TrcRec) (q : Nat) : (s.modTrec p f).pst q = s.pst q := rfl

/-! ### `modLk` -/

@[simp] theorem State.modLk_pending (l : Nat) (f : LinkRec → LinkRec) : (s.modLk l f).pending = s.pending := rfl
@[simp] theorem State.modLk_regs (l : Nat) (f : LinkRec → LinkRec) : (s.modLk l f).regs = s.regs := rfl
@[simp] theorem State.modLk_scc (l : Nat) (f : LinkRec → LinkRec) : (s.modLk l f).scc = s.scc := rfl
@[simp] theorem State.modLk_bp (l : Nat) (f : LinkRec → LinkRec) : (s.modLk l f).bp = s.bp := rfl
@[simp] theorem State.modLk_net (l : Nat) (f : LinkRec → LinkRec) : (s.modLk l f).net = s.net := rfl
@[simp] theorem State.modLk_parts (l : Nat) (f : LinkRec → LinkRec) : (s.modLk l f).parts = s.parts := rfl
@[simp] theorem State.modLk_frz (l : Nat) (f : LinkRec → LinkRec) : (s.modLk l f).frz = s.frz := rfl
@[simp] theorem State.modLk_mem (l : Nat) (f : LinkRec → LinkRec) : (s.modLk l f).mem = s.mem := rfl
@[simp] theorem State.modLk_tim (l : Nat) (f : LinkRec → LinkRec) : (s.modLk l f).tim = s.tim := rfl
@[simp] theorem State.modLk_hif (l : Nat) (f : LinkRec → LinkRec) : (s.modLk l f).hif = s.hif := rfl
@[simp] theorem State.modLk_rel (l : Nat) (f : LinkRec → LinkRec) : (s.modLk l f).rel = s.rel := rfl
@[simp] theorem State.modLk_trc (l : Nat) (f : LinkRec → LinkRec) : (s.modLk l f).trc = s.trc := rfl
@[simp] theorem State.modLk_dbg (l : Nat) (f : LinkRec → LinkRec) : (s.modLk l f).dbg = s.dbg := rfl
@[simp] theorem State.modLk_stw (l : Nat) (f : LinkRec → LinkRec) : (s.modLk l f).stw = s.stw := rfl
@[simp] theorem State.modLk_clk (l : Nat) (f : LinkRec → LinkRec) : (s.modLk l f).clk = s.clk := rfl
@[simp] theorem State.modLk_pio (l : Nat) (f : LinkRec → LinkRec) : (s.modLk l f).pio = s.pio := rfl
@[simp] theorem State.modLk_tmp (l : Nat) (f : LinkRec → LinkRec) : (s.modLk l f).tmp = s.tmp := rfl
@[simp] theorem State.modLk_ld (l : Nat) (f : LinkRec → LinkRec) : (s.modLk l f).ld = s.ld := rfl
@[simp] theorem State.modLk_dsp (l : Nat) (f : LinkRec → LinkRec) : (s.modLk l f).dsp = s.dsp := rfl
@[simp] theorem State.modLk_tn (l : Nat) (f : LinkRec → LinkRec) : (s.modLk l f).tn = s.tn := rfl
@[simp] theorem State.modLk_rst (l : Nat) (f : LinkRec → LinkRec) : (s.modLk l f).rst = s.rst := rfl
@[simp] theorem State.modLk_resp (l : Nat) (f : LinkRec → LinkRec) : (s.modLk l f).resp = s.resp := rfl
@[simp] theorem State.modLk_seq (l : Nat) (f : LinkRec → LinkRec) : (s.modLk l f).seq = s.seq := rfl
@[simp] theorem State.modLk_reg (l : Nat) (f : LinkRec → LinkRec) (q : Reg) (j : Nat) : (s.modLk l f).reg q j = s.reg q j := rfl
@[simp] theorem State.modLk_gf (l : Nat) (f : LinkRec → LinkRec) (q : Fld) (j : Nat) : (s.modLk l f).gf q j = s.gf q j := rfl
@[simp] theorem State.modLk_flag (l : Nat) (f : LinkRec → LinkRec) (q : Fld) (j : Nat) : (s.modLk l f).flag q j = s.flag q j := rfl
@[simp] theorem State.modLk_pst (l : Nat) (f : LinkRec → LinkRec) (q : Nat) : (s.modLk l f).pst q = s.pst q := rfl

/-! ### `setLdc` -/

@[simp] theorem State.setLdc_pending (c : Nat) (x : LoadCtx) : (s.setLdc c x).pending = s.pending := rfl
@[simp] theorem State.setLdc_regs (c : Nat) (x : LoadCtx) : (s.setLdc c x).regs = s.regs := rfl
@[simp] theorem State.setLdc_scc (c : Nat) (x : LoadCtx) : (s.setLdc c x).scc = s.scc := rfl
@[simp] theorem State.setLdc_bp (c : Nat) (x : LoadCtx) : (s.setLdc c x).bp = s.bp := rfl
@[simp] theorem State.setLdc_net (c : Nat) (x : LoadCtx) : (s.setLdc c x).net = s.net := rfl
@[simp] theorem State.setLdc_parts (c : Nat) (x : LoadCtx) : (s.setLdc c x).parts = s.parts := rfl
@[simp] theorem State.setLdc_frz (c : Nat) (x : LoadCtx) : (s.setLdc c x).frz = s.frz := rfl
@[simp] theorem State.setLdc_mem (c : Nat) (x : LoadCtx) : (s.setLdc c x).mem = s.mem := rfl
@[simp] theorem State.setLdc_tim (c : Nat) (x : LoadCtx) : (s.setLdc c x).tim = s.tim := rfl
@[simp] theorem State.setLdc_hif (c : Nat) (x : LoadCtx) : (s.setLdc c x).hif = s.hif := rfl
@[simp] theorem State.setLdc_rel (c : Nat) (x : LoadCtx) : (s.setLdc c x).rel = s.rel := rfl
@[simp] theorem State.setLdc_trc (c : Nat) (x : LoadCtx) : (s.setLdc c x).trc = s.trc := rfl
@[simp] theorem State.setLdc_dbg (c : Nat) (x : LoadCtx) : (s.setLdc c x).dbg = s.dbg := rfl
@[simp] theorem State.setLdc_stw (c : Nat) (x : LoadCtx) : (s.setLdc c x).stw = s.stw := rfl
@[simp] theorem State.setLdc_lnk (c : Nat) (x : LoadCtx) : (s.setLdc c x).lnk = s.lnk := rfl
@[simp] theorem State.setLdc_clk (c : Nat) (x : LoadCtx) : (s.setLdc c x).clk = s.clk := rfl
@[simp] theorem State.setLdc_pio (c : Nat) (x : LoadCtx) : (s.setLdc c x).pio = s.pio := rfl
@[simp] theorem State.setLdc_tmp (c : Nat) (x : LoadCtx) : (s.setLdc c x).tmp = s.tmp := rfl
@[simp] theorem State.setLdc_dsp (c : Nat) (x : LoadCtx) : (s.setLdc c x).dsp = s.dsp := rfl
@[simp] theorem State.setLdc_tn (c : Nat) (x : LoadCtx) : (s.setLdc c x).tn = s.tn := rfl
@[simp] theorem State.setLdc_rst (c : Nat) (x : LoadCtx) : (s.setLdc c x).rst = s.rst := rfl
@[simp] theorem State.setLdc_resp (c : Nat) (x : LoadCtx) : (s.setLdc c x).resp = s.resp := rfl
@[simp] theorem State.setLdc_seq (c : Nat) (x : LoadCtx) : (s.setLdc c x).seq = s.seq := rfl
@[simp] theorem State.setLdc_reg (c : Nat) (x : LoadCtx) (q : Reg) (j : Nat) : (s.setLdc c x).reg q j = s.reg q j := rfl
@[simp] theorem State.setLdc_gf (c : Nat) (x : LoadCtx) (q : Fld) (j : Nat) : (s.setLdc c x).gf q j = s.gf q j := rfl
@[simp] theorem State.setLdc_flag (c : Nat) (x : LoadCtx) (q : Fld) (j : Nat) : (s.setLdc c x).flag q j = s.flag q j := rfl
@[simp] theorem State.setLdc_pst (c : Nat) (x : LoadCtx) (q : Nat) : (s.setLdc c x).pst q = s.pst q := rfl

/-! ### `modLdc` -/

@[simp] theorem State.modLdc_pending (c : Nat) (f : LoadCtx → LoadCtx) : (s.modLdc c f).pending = s.pending := rfl
@[simp] theorem State.modLdc_regs (c : Nat) (f : LoadCtx → LoadCtx) : (s.modLdc c f).regs = s.regs := rfl
@[simp] theorem State.modLdc_scc (c : Nat) (f : LoadCtx → LoadCtx) : (s.modLdc c f).scc = s.scc := rfl
@[simp] theorem State.modLdc_bp (c : Nat) (f : LoadCtx → LoadCtx) : (s.modLdc c f).bp = s.bp := rfl
@[simp] theorem State.modLdc_net (c : Nat) (f : LoadCtx → LoadCtx) : (s.modLdc c f).net = s.net := rfl
@[simp] theorem State.modLdc_parts (c : Nat) (f : LoadCtx → LoadCtx) : (s.modLdc c f).parts = s.parts := rfl
@[simp] theorem State.modLdc_frz (c : Nat) (f : LoadCtx → LoadCtx) : (s.modLdc c f).frz = s.frz := rfl
@[simp] theorem State.modLdc_mem (c : Nat) (f : LoadCtx → LoadCtx) : (s.modLdc c f).mem = s.mem := rfl
@[simp] theorem State.modLdc_tim (c : Nat) (f : LoadCtx → LoadCtx) : (s.modLdc c f).tim = s.tim := rfl
@[simp] theorem State.modLdc_hif (c : Nat) (f : LoadCtx → LoadCtx) : (s.modLdc c f).hif = s.hif := rfl
@[simp] theorem State.modLdc_rel (c : Nat) (f : LoadCtx → LoadCtx) : (s.modLdc c f).rel = s.rel := rfl
@[simp] theorem State.modLdc_trc (c : Nat) (f : LoadCtx → LoadCtx) : (s.modLdc c f).trc = s.trc := rfl
@[simp] theorem State.modLdc_dbg (c : Nat) (f : LoadCtx → LoadCtx) : (s.modLdc c f).dbg = s.dbg := rfl
@[simp] theorem State.modLdc_stw (c : Nat) (f : LoadCtx → LoadCtx) : (s.modLdc c f).stw = s.stw := rfl
@[simp] theorem State.modLdc_lnk (c : Nat) (f : LoadCtx → LoadCtx) : (s.modLdc c f).lnk = s.lnk := rfl
@[simp] theorem State.modLdc_clk (c : Nat) (f : LoadCtx → LoadCtx) : (s.modLdc c f).clk = s.clk := rfl
@[simp] theorem State.modLdc_pio (c : Nat) (f : LoadCtx → LoadCtx) : (s.modLdc c f).pio = s.pio := rfl
@[simp] theorem State.modLdc_tmp (c : Nat) (f : LoadCtx → LoadCtx) : (s.modLdc c f).tmp = s.tmp := rfl
@[simp] theorem State.modLdc_dsp (c : Nat) (f : LoadCtx → LoadCtx) : (s.modLdc c f).dsp = s.dsp := rfl
@[simp] theorem State.modLdc_tn (c : Nat) (f : LoadCtx → LoadCtx) : (s.modLdc c f).tn = s.tn := rfl
@[simp] theorem State.modLdc_rst (c : Nat) (f : LoadCtx → LoadCtx) : (s.modLdc c f).rst = s.rst := rfl
@[simp] theorem State.modLdc_resp (c : Nat) (f : LoadCtx → LoadCtx) : (s.modLdc c f).resp = s.resp := rfl
@[simp] theorem State.modLdc_seq (c : Nat) (f : LoadCtx → LoadCtx) : (s.modLdc c f).seq = s.seq := rfl
@[simp] theorem State.modLdc_reg (c : Nat) (f : LoadCtx → LoadCtx) (q : Reg) (j : Nat) : (s.modLdc c f).reg q j = s.reg q j := rfl
@[simp] theorem State.modLdc_gf (c : Nat) (f : LoadCtx → LoadCtx) (q : Fld) (j : Nat) : (s.modLdc c f).gf q j = s.gf q j := rfl
@[simp] theorem State.modLdc_flag (c : Nat) (f : LoadCtx → LoadCtx) (q : Fld) (j : Nat) : (s.modLdc c f).flag q j = s.flag q j := rfl
@[simp] theorem State.modLdc_pst (c : Nat) (f : LoadCtx → LoadCtx) (q : Nat) : (s.modLdc c f).pst q = s.pst q := rfl

/-! ### `setStwIn` -/

@[simp] theorem State.setStwIn_pending (i : Nat) (r : StwIn) : (s.setStwIn i r).pending = s.pending := rfl
@[simp] theorem State.setStwIn_regs (i : Nat) (r : StwIn) : (s.setStwIn i r).regs = s.regs := rfl
@[simp] theorem State.setStwIn_scc (i : Nat) (r : StwIn) : (s.setStwIn i r).scc = s.scc := rfl
@[simp] theorem State.setStwIn_bp (i : Nat) (r : StwIn) : (s.setStwIn i r).bp = s.bp := rfl
@[simp] theorem State.setStwIn_net (i : Nat) (r : StwIn) : (s.setStwIn i r).net = s.net := rfl
@[simp] theorem State.setStwIn_parts (i : Nat) (r : StwIn) : (s.setStwIn i r).parts = s.parts := rfl
@[simp] theorem State.setStwIn_frz (i : Nat) (r : StwIn) : (s.setStwIn i r).frz = s.frz := rfl
@[simp] theorem State.setStwIn_mem (i : Nat) (r : StwIn) : (s.setStwIn i r).mem = s.mem := rfl
@[simp] theorem State.setStwIn_tim (i : Nat) (r : StwIn) : (s.setStwIn i r).tim = s.tim := rfl
@[simp] theorem State.setStwIn_hif (i : Nat) (r : StwIn) : (s.setStwIn i r).hif = s.hif := rfl
@[simp] theorem State.setStwIn_rel (i : Nat) (r : StwIn) : (s.setStwIn i r).rel = s.rel := rfl
@[simp] theorem State.setStwIn_trc (i : Nat) (r : StwIn) : (s.setStwIn i r).trc = s.trc := rfl
@[simp] theorem State.setStwIn_dbg (i : Nat) (r : StwIn) : (s.setStwIn i r).dbg = s.dbg := rfl
@[simp] theorem State.setStwIn_lnk (i : Nat) (r : StwIn) : (s.setStwIn i r).lnk = s.lnk := rfl
@[simp] theorem State.setStwIn_clk (i : Nat) (r : StwIn) : (s.setStwIn i r).clk = s.clk := rfl
@[simp] theorem State.setStwIn_pio (i : Nat) (r : StwIn) : (s.setStwIn i r).pio = s.pio := rfl
@[simp] theorem State.setStwIn_tmp (i : Nat) (r : StwIn) : (s.setStwIn i r).tmp = s.tmp := rfl
@[simp] theorem State.setStwIn_ld (i : Nat) (r : StwIn) : (s.setStwIn i r).ld = s.ld := rfl
@[simp] theorem State.setStwIn_dsp (i : Nat) (r : StwIn) : (s.setStwIn i r).dsp = s.dsp := rfl
@[simp] theorem State.setStwIn_tn (i : Nat) (r : StwIn) : (s.setStwIn i r).tn = s.tn := rfl
@[simp] theorem State.setStwIn_rst (i : Nat) (r : StwIn) : (s.setStwIn i r).rst = s.rst := rfl
@[simp] theorem State.setStwIn_resp (i : Nat) (r : StwIn) : (s.setStwIn i r).resp = s.resp := rfl
@[simp] theorem State.setStwIn_seq (i : Nat) (r : StwIn) : (s.setStwIn i r).seq = s.seq := rfl
@[simp] theorem State.setStwIn_reg (i : Nat) (r : StwIn) (q : Reg) (j : Nat) : (s.setStwIn i r).reg q j = s.reg q j := rfl
@[simp] theorem State.setStwIn_gf (i : Nat) (r : StwIn) (q : Fld) (j : Nat) : (s.setStwIn i r).gf q j = s.gf q j := rfl
@[simp] theorem State.setStwIn_flag (i : Nat) (r : StwIn) (q : Fld) (j : Nat) : (s.setStwIn i r).flag q j = s.flag q j := rfl
@[simp] theorem State.setStwIn_pst (i : Nat) (r : StwIn) (q : Nat) : (s.setStwIn i r).pst q = s.pst q := rfl

/-! ### `setStwTrg` -/

@[simp] theorem State.setStwTrg_pending (n : Nat) (r : StwTrg) : (s.setStwTrg n r).pending = s.pending := rfl
@[simp] theorem State.setStwTrg_regs (n : Nat) (r : StwTrg) : (s.setStwTrg n r).regs = s.regs := rfl
@[simp] theorem State.setStwTrg_scc (n : Nat) (r : StwTrg) : (s.setStwTrg n r).scc = s.scc := rfl
@[simp] theorem State.setStwTrg_bp (n : Nat) (r : StwTrg) : (s.setStwTrg n r).bp = s.bp := rfl
@[simp] theorem State.setStwTrg_net (n : Nat) (r : StwTrg) : (s.setStwTrg n r).net = s.net := rfl
@[simp] theorem State.setStwTrg_parts (n : Nat) (r : StwTrg) : (s.setStwTrg n r).parts = s.parts := rfl
@[simp] theorem State.setStwTrg_frz (n : Nat) (r : StwTrg) : (s.setStwTrg n r).frz = s.frz := rfl
@[simp] theorem State.setStwTrg_mem (n : Nat) (r : StwTrg) : (s.setStwTrg n r).mem = s.mem := rfl
@[simp] theorem State.setStwTrg_tim (n : Nat) (r : StwTrg) : (s.setStwTrg n r).tim = s.tim := rfl
@[simp] theorem State.setStwTrg_hif (n : Nat) (r : StwTrg) : (s.setStwTrg n r).hif = s.hif := rfl
@[simp] theorem State.setStwTrg_rel (n : Nat) (r : StwTrg) : (s.setStwTrg n r).rel = s.rel := rfl
@[simp] theorem State.setStwTrg_trc (n : Nat) (r : StwTrg) : (s.setStwTrg n r).trc = s.trc := rfl
@[simp] theorem State.setStwTrg_dbg (n : Nat) (r : StwTrg) : (s.setStwTrg n r).dbg = s.dbg := rfl
@[simp] theorem State.setStwTrg_lnk (n : Nat) (r : StwTrg) : (s.setStwTrg n r).lnk = s.lnk := rfl
@[simp] theorem State.setStwTrg_clk (n : Nat) (r : StwTrg) : (s.setStwTrg n r).clk = s.clk := rfl
@[simp] theorem State.setStwTrg_pio (n : Nat) (r : StwTrg) : (s.setStwTrg n r).pio = s.pio := rfl
@[simp] theorem State.setStwTrg_tmp (n : Nat) (r : StwTrg) : (s.setStwTrg n r).tmp = s.tmp := rfl
@[simp] theorem State.setStwTrg_ld (n : Nat) (r : StwTrg) : (s.setStwTrg n r).ld = s.ld := rfl
@[simp] theorem State.setStwTrg_dsp (n : Nat) (r : StwTrg) : (s.setStwTrg n r).dsp = s.dsp := rfl
@[simp] theorem State.setStwTrg_tn (n : Nat) (r : StwTrg) : (s.setStwTrg n r).tn = s.tn := rfl
@[simp] theorem State.setStwTrg_rst (n : Nat) (r : StwTrg) : (s.setStwTrg n r).rst = s.rst := rfl
@[simp] theorem State.setStwTrg_resp (n : Nat) (r : StwTrg) : (s.setStwTrg n r).resp = s.resp := rfl
@[simp] theorem State.setStwTrg_seq (n : Nat) (r : StwTrg) : (s.setStwTrg n r).seq = s.seq := rfl
@[simp] theorem State.setStwTrg_reg (n : Nat) (r : StwTrg) (q : Reg) (j : Nat) : (s.setStwTrg n r).reg q j = s.reg q j := rfl
@[simp] theorem State.setStwTrg_gf (n : Nat) (r : StwTrg) (q : Fld) (j : Nat) : (s.setStwTrg n r).gf q j = s.gf q j := rfl
@[simp] theorem State.setStwTrg_flag (n : Nat) (r : StwTrg) (q : Fld) (j : Nat) : (s.setStwTrg n r).flag q j = s.flag q j := rfl
@[simp] theorem State.setStwTrg_pst (n : Nat) (r : StwTrg) (q : Nat) : (s.setStwTrg n r).pst q = s.pst q := rfl

/-! ### `modUnit` -/

@[simp] theorem State.modUnit_pending (k u : Nat) (f : UnitRec → UnitRec) : (s.modUnit k u f).pending = s.pending := rfl
@[simp] theorem State.modUnit_regs (k u : Nat) (f : UnitRec → UnitRec) : (s.modUnit k u f).regs = s.regs := rfl
@[simp] theorem State.modUnit_scc (k u : Nat) (f : UnitRec → UnitRec) : (s.modUnit k u f).scc = s.scc := rfl
@[simp] theorem State.modUnit_bp (k u : Nat) (f : UnitRec → UnitRec) : (s.modUnit k u f).bp = s.bp := rfl
@[simp] theorem State.modUnit_net (k u : Nat) (f : UnitRec → UnitRec) : (s.modUnit k u f).net = s.net := rfl
@[simp] theorem State.modUnit_parts (k u : Nat) (f : UnitRec → UnitRec) : (s.modUnit k u f).parts = s.parts := rfl
@[simp] theorem State.modUnit_frz (k u : Nat) (f : UnitRec → UnitRec) : (s.modUnit k u f).frz = s.frz := rfl
@[simp] theorem State.modUnit_mem (k u : Nat) (f : UnitRec → UnitRec) : (s.modUnit k u f).mem = s.mem := rfl
@[simp] theorem State.modUnit_tim (k u : Nat) (f : UnitRec → UnitRec) : (s.modUnit k u f).tim = s.tim := rfl
@[simp] theorem State.modUnit_hif (k u : Nat) (f : UnitRec → UnitRec) : (s.modUnit k u f).hif = s.hif := rfl
@[simp] theorem State.modUnit_trc (k u : Nat) (f : UnitRec → UnitRec) : (s.modUnit k u f).trc = s.trc := rfl
@[simp] theorem State.modUnit_dbg (k u : Nat) (f : UnitRec → UnitRec) : (s.modUnit k u f).dbg = s.dbg := rfl
@[simp] theorem State.modUnit_stw (k u : Nat) (f : UnitRec → UnitRec) : (s.modUnit k u f).stw = s.stw := rfl
@[simp] theorem State.modUnit_lnk (k u : Nat) (f : UnitRec → UnitRec) : (s.modUnit k u f).lnk = s.lnk := rfl
@[simp] theorem State.modUnit_clk (k u : Nat) (f : UnitRec → UnitRec) : (s.modUnit k u f).clk = s.clk := rfl
@[simp] theorem State.modUnit_pio (k u : Nat) (f : UnitRec → UnitRec) : (s.modUnit k u f).pio = s.pio := rfl
@[simp] theorem State.modUnit_tmp (k u : Nat) (f : UnitRec → UnitRec) : (s.modUnit k u f).tmp = s.tmp := rfl
@[simp] theorem State.modUnit_ld (k u : Nat) (f : UnitRec → UnitRec) : (s.modUnit k u f).ld = s.ld := rfl
@[simp] theorem State.modUnit_dsp (k u : Nat) (f : UnitRec → UnitRec) : (s.modUnit k u f).dsp = s.dsp := rfl
@[simp] theorem State.modUnit_tn (k u : Nat) (f : UnitRec → UnitRec) : (s.modUnit k u f).tn = s.tn := rfl
@[simp] theorem State.modUnit_rst (k u : Nat) (f : UnitRec → UnitRec) : (s.modUnit k u f).rst = s.rst := rfl
@[simp] theorem State.modUnit_resp (k u : Nat) (f : UnitRec → UnitRec) : (s.modUnit k u f).resp = s.resp := rfl
@[simp] theorem State.modUnit_seq (k u : Nat) (f : UnitRec → UnitRec) : (s.modUnit k u f).seq = s.seq := rfl
@[simp] theorem State.modUnit_reg (k u : Nat) (f : UnitRec → UnitRec) (q : Reg) (j : Nat) : (s.modUnit k u f).reg q j = s.reg q j := rfl
@[simp] theorem State.modUnit_gf (k u : Nat) (f : UnitRec → UnitRec) (q : Fld) (j : Nat) : (s.modUnit k u f).gf q j = s.gf q j := rfl
@[simp] theorem State.modUnit_flag (k u : Nat) (f : UnitRec → UnitRec) (q : Fld) (j : Nat) : (s.modUnit k u f).flag q j = s.flag q j := rfl
@[simp] theorem State.modUnit_pst (k u : Nat) (f : UnitRec → UnitRec) (q : Nat) : (s.modUnit k u f).pst q = s.pst q := rfl

/-! ### `setFollow` -/

@[simp] theorem State.setFollow_pending (n : Nat) (f : Follow) : (s.setFollow n f).pending = s.pending := rfl
@[simp] theorem State.setFollow_regs (n : Nat) (f : Follow) : (s.setFollow n f).regs = s.regs := rfl
@[simp] theorem State.setFollow_scc (n : Nat) (f : Follow) : (s.setFollow n f).scc = s.scc := rfl
@[simp] theorem State.setFollow_net (n : Nat) (f : Follow) : (s.setFollow n f).net = s.net := rfl
@[simp] theorem State.setFollow_parts (n : Nat) (f : Follow) : (s.setFollow n f).parts = s.parts := rfl
@[simp] theorem State.setFollow_frz (n : Nat) (f : Follow) : (s.setFollow n f).frz = s.frz := rfl
@[simp] theorem State.setFollow_mem (n : Nat) (f : Follow) : (s.setFollow n f).mem = s.mem := rfl
@[simp] theorem State.setFollow_tim (n : Nat) (f : Follow) : (s.setFollow n f).tim = s.tim := rfl
@[simp] theorem State.setFollow_hif (n : Nat) (f : Follow) : (s.setFollow n f).hif = s.hif := rfl
@[simp] theorem State.setFollow_rel (n : Nat) (f : Follow) : (s.setFollow n f).rel = s.rel := rfl
@[simp] theorem State.setFollow_trc (n : Nat) (f : Follow) : (s.setFollow n f).trc = s.trc := rfl
@[simp] theorem State.setFollow_dbg (n : Nat) (f : Follow) : (s.setFollow n f).dbg = s.dbg := rfl
@[simp] theorem State.setFollow_stw (n : Nat) (f : Follow) : (s.setFollow n f).stw = s.stw := rfl
@[simp] theorem State.setFollow_lnk (n : Nat) (f : Follow) : (s.setFollow n f).lnk = s.lnk := rfl
@[simp] theorem State.setFollow_clk (n : Nat) (f : Follow) : (s.setFollow n f).clk = s.clk := rfl
@[simp] theorem State.setFollow_pio (n : Nat) (f : Follow) : (s.setFollow n f).pio = s.pio := rfl
@[simp] theorem State.setFollow_tmp (n : Nat) (f : Follow) : (s.setFollow n f).tmp = s.tmp := rfl
@[simp] theorem State.setFollow_ld (n : Nat) (f : Follow) : (s.setFollow n f).ld = s.ld := rfl
@[simp] theorem State.setFollow_dsp (n : Nat) (f : Follow) : (s.setFollow n f).dsp = s.dsp := rfl
@[simp] theorem State.setFollow_tn (n : Nat) (f : Follow) : (s.setFollow n f).tn = s.tn := rfl
@[simp] theorem State.setFollow_rst (n : Nat) (f : Follow) : (s.setFollow n f).rst = s.rst := rfl
@[simp] theorem State.setFollow_resp (n : Nat) (f : Follow) : (s.setFollow n f).resp = s.resp := rfl
@[simp] theorem State.setFollow_seq (n : Nat) (f : Follow) : (s.setFollow n f).seq = s.seq := rfl
@[simp] theorem State.setFollow_reg (n : Nat) (f : Follow) (q : Reg) (j : Nat) : (s.setFollow n f).reg q j = s.reg q j := rfl
@[simp] theorem State.setFollow_gf (n : Nat) (f : Follow) (q : Fld) (j : Nat) : (s.setFollow n f).gf q j = s.gf q j := rfl
@[simp] theorem State.setFollow_flag (n : Nat) (f : Follow) (q : Fld) (j : Nat) : (s.setFollow n f).flag q j = s.flag q j := rfl
@[simp] theorem State.setFollow_pst (n : Nat) (f : Follow) (q : Nat) : (s.setFollow n f).pst q = s.pst q := rfl

/-! ### `modCore` -/

@[simp] theorem State.modCore_pending (c : Nat) (f : CoreRec → CoreRec) : (s.modCore c f).pending = s.pending := rfl
@[simp] theorem State.modCore_regs (c : Nat) (f : CoreRec → CoreRec) : (s.modCore c f).regs = s.regs := rfl
@[simp] theorem State.modCore_scc (c : Nat) (f : CoreRec → CoreRec) : (s.modCore c f).scc = s.scc := rfl
@[simp] theorem State.modCore_bp (c : Nat) (f : CoreRec → CoreRec) : (s.modCore c f).bp = s.bp := rfl
@[simp] theorem State.modCore_net (c : Nat) (f : CoreRec → CoreRec) : (s.modCore c f).net = s.net := rfl
@[simp] theorem State.modCore_parts (c : Nat) (f : CoreRec → CoreRec) : (s.modCore c f).parts = s.parts := rfl
@[simp] theorem State.modCore_frz (c : Nat) (f : CoreRec → CoreRec) : (s.modCore c f).frz = s.frz := rfl
@[simp] theorem State.modCore_mem (c : Nat) (f : CoreRec → CoreRec) : (s.modCore c f).mem = s.mem := rfl
@[simp] theorem State.modCore_tim (c : Nat) (f : CoreRec → CoreRec) : (s.modCore c f).tim = s.tim := rfl
@[simp] theorem State.modCore_hif (c : Nat) (f : CoreRec → CoreRec) : (s.modCore c f).hif = s.hif := rfl
@[simp] theorem State.modCore_rel (c : Nat) (f : CoreRec → CoreRec) : (s.modCore c f).rel = s.rel := rfl
@[simp] theorem State.modCore_trc (c : Nat) (f : CoreRec → CoreRec) : (s.modCore c f).trc = s.trc := rfl
@[simp] theorem State.modCore_dbg (c : Nat) (f : CoreRec → CoreRec) : (s.modCore c f).dbg = s.dbg := rfl
@[simp] theorem State.modCore_stw (c : Nat) (f : CoreRec → CoreRec) : (s.modCore c f).stw = s.stw := rfl
@[simp] theorem State.modCore_lnk (c : Nat) (f : CoreRec → CoreRec) : (s.modCore c f).lnk = s.lnk := rfl
@[simp] theorem State.modCore_clk (c : Nat) (f : CoreRec → CoreRec) : (s.modCore c f).clk = s.clk := rfl
@[simp] theorem State.modCore_pio (c : Nat) (f : CoreRec → CoreRec) : (s.modCore c f).pio = s.pio := rfl
@[simp] theorem State.modCore_tmp (c : Nat) (f : CoreRec → CoreRec) : (s.modCore c f).tmp = s.tmp := rfl
@[simp] theorem State.modCore_ld (c : Nat) (f : CoreRec → CoreRec) : (s.modCore c f).ld = s.ld := rfl
@[simp] theorem State.modCore_tn (c : Nat) (f : CoreRec → CoreRec) : (s.modCore c f).tn = s.tn := rfl
@[simp] theorem State.modCore_rst (c : Nat) (f : CoreRec → CoreRec) : (s.modCore c f).rst = s.rst := rfl
@[simp] theorem State.modCore_resp (c : Nat) (f : CoreRec → CoreRec) : (s.modCore c f).resp = s.resp := rfl
@[simp] theorem State.modCore_seq (c : Nat) (f : CoreRec → CoreRec) : (s.modCore c f).seq = s.seq := rfl
@[simp] theorem State.modCore_reg (c : Nat) (f : CoreRec → CoreRec) (q : Reg) (j : Nat) : (s.modCore c f).reg q j = s.reg q j := rfl
@[simp] theorem State.modCore_gf (c : Nat) (f : CoreRec → CoreRec) (q : Fld) (j : Nat) : (s.modCore c f).gf q j = s.gf q j := rfl
@[simp] theorem State.modCore_flag (c : Nat) (f : CoreRec → CoreRec) (q : Fld) (j : Nat) : (s.modCore c f).flag q j = s.flag q j := rfl
@[simp] theorem State.modCore_pst (c : Nat) (f : CoreRec → CoreRec) (q : Nat) : (s.modCore c f).pst q = s.pst q := rfl

/-! ### `wb` -/

@[simp] theorem State.wb_pending (a : Nat) (v : Byte) : (s.wb a v).pending = s.pending := rfl
@[simp] theorem State.wb_regs (a : Nat) (v : Byte) : (s.wb a v).regs = s.regs := rfl
@[simp] theorem State.wb_scc (a : Nat) (v : Byte) : (s.wb a v).scc = s.scc := rfl
@[simp] theorem State.wb_bp (a : Nat) (v : Byte) : (s.wb a v).bp = s.bp := rfl
@[simp] theorem State.wb_net (a : Nat) (v : Byte) : (s.wb a v).net = s.net := rfl
@[simp] theorem State.wb_parts (a : Nat) (v : Byte) : (s.wb a v).parts = s.parts := rfl
@[simp] theorem State.wb_frz (a : Nat) (v : Byte) : (s.wb a v).frz = s.frz := rfl
@[simp] theorem State.wb_tim (a : Nat) (v : Byte) : (s.wb a v).tim = s.tim := rfl
@[simp] theorem State.wb_hif (a : Nat) (v : Byte) : (s.wb a v).hif = s.hif := rfl
@[simp] theorem State.wb_rel (a : Nat) (v : Byte) : (s.wb a v).rel = s.rel := rfl
@[simp] theorem State.wb_trc (a : Nat) (v : Byte) : (s.wb a v).trc = s.trc := rfl
@[simp] theorem State.wb_dbg (a : Nat) (v : Byte) : (s.wb a v).dbg = s.dbg := rfl
@[simp] theorem State.wb_stw (a : Nat) (v : Byte) : (s.wb a v).stw = s.stw := rfl
@[simp] theorem State.wb_lnk (a : Nat) (v : Byte) : (s.wb a v).lnk = s.lnk := rfl
@[simp] theorem State.wb_clk (a : Nat) (v : Byte) : (s.wb a v).clk = s.clk := rfl
@[simp] theorem State.wb_pio (a : Nat) (v : Byte) : (s.wb a v).pio = s.pio := rfl
@[simp] theorem State.wb_tmp (a : Nat) (v : Byte) : (s.wb a v).tmp = s.tmp := rfl
@[simp] theorem State.wb_ld (a : Nat) (v : Byte) : (s.wb a v).ld = s.ld := rfl
@[simp] theorem State.wb_dsp (a : Nat) (v : Byte) : (s.wb a v).dsp = s.dsp := rfl
@[simp] theorem State.wb_tn (a : Nat) (v : Byte) : (s.wb a v).tn = s.tn := rfl
@[simp] theorem State.wb_rst (a : Nat) (v : Byte) : (s.wb a v).rst = s.rst := rfl
@[simp] theorem State.wb_resp (a : Nat) (v : Byte) : (s.wb a v).resp = s.resp := rfl
@[simp] theorem State.wb_seq (a : Nat) (v : Byte) : (s.wb a v).seq = s.seq := rfl
@[simp] theorem State.wb_reg (a : Nat) (v : Byte) (q : Reg) (j : Nat) : (s.wb a v).reg q j = s.reg q j := rfl
@[simp] theorem State.wb_gf (a : Nat) (v : Byte) (q : Fld) (j : Nat) : (s.wb a v).gf q j = s.gf q j := rfl
@[simp] theorem State.wb_flag (a : Nat) (v : Byte) (q : Fld) (j : Nat) : (s.wb a v).flag q j = s.flag q j := rfl
@[simp] theorem State.wb_pst (a : Nat) (v : Byte) (q : Nat) : (s.wb a v).pst q = s.pst q := rfl

/-! ### `okResp` -/

@[simp] theorem okResp_pending (d : Nat) : (okResp d s).pending = s.pending := rfl
@[simp] theorem okResp_regs (d : Nat) : (okResp d s).regs = s.regs := rfl
@[simp] theorem okResp_scc (d : Nat) : (okResp d s).scc = s.scc := rfl
@[simp] theorem okResp_bp (d : Nat) : (okResp d s).bp = s.bp := rfl
@[simp] theorem okResp_net (d : Nat) : (okResp d s).net = s.net := rfl
@[simp] theorem okResp_parts (d : Nat) : (okResp d s).parts = s.parts := rfl
@[simp] theorem okResp_frz (d : Nat) : (okResp d s).frz = s.frz := rfl
@[simp] theorem okResp_mem (d : Nat) : (okResp d s).mem = s.mem := rfl
@[simp] theorem okResp_tim (d : Nat) : (okResp d s).tim = s.tim := rfl
@[simp] theorem okResp_hif (d : Nat) : (okResp d s).hif = s.hif := rfl
@[simp] theorem okResp_rel (d : Nat) : (okResp d s).rel = s.rel := rfl
@[simp] theorem okResp_trc (d : Nat) : (okResp d s).trc = s.trc := rfl
@[simp] theorem okResp_dbg (d : Nat) : (okResp d s).dbg = s.dbg := rfl
@[simp] theorem okResp_stw (d : Nat) : (okResp d s).stw = s.stw := rfl
@[simp] theorem okResp_lnk (d : Nat) : (okResp d s).lnk = s.lnk := rfl
@[simp] theorem okResp_clk (d : Nat) : (okResp d s).clk = s.clk := rfl
@[simp] theorem okResp_pio (d : Nat) : (okResp d s).pio = s.pio := rfl
@[simp] theorem okResp_tmp (d : Nat) : (okResp d s).tmp = s.tmp := rfl
@[simp] theorem okResp_ld (d : Nat) : (okResp d s).ld = s.ld := rfl
@[simp] theorem okResp_dsp (d : Nat) : (okResp d s).dsp = s.dsp := rfl
@[simp] theorem okResp_tn (d : Nat) : (okResp d s).tn = s.tn := rfl
@[simp] theorem okResp_rst (d : Nat) : (okResp d s).rst = s.rst := rfl
@[simp] theorem okResp_seq (d : Nat) : (okResp d s).seq = s.seq := rfl
@[simp] theorem okResp_reg (d : Nat) (q : Reg) (j : Nat) : (okResp d s).reg q j = s.reg q j := rfl
@[simp] theorem okResp_gf (d : Nat) (q : Fld) (j : Nat) : (okResp d s).gf q j = s.gf q j := rfl
@[simp] theorem okResp_flag (d : Nat) (q : Fld) (j : Nat) : (okResp d s).flag q j = s.flag q j := rfl
@[simp] theorem okResp_pst (d : Nat) (q : Nat) : (okResp d s).pst q = s.pst q := rfl

/-! ### What was just written reads back -/

@[simp] theorem State.part_setPart (p : Nat) (r : PartRec) : (s.setPart p r).part p = r := Store.get_set_same _ _ _ _
theorem State.part_setPart_ne {p q : Nat} (r : PartRec) (h : q ≠ p) : (s.setPart p r).part q = s.part q := Store.get_set_ne _ _ _ _ h
@[simp] theorem State.fz_setFz (p : Nat) (r : FrzPart) : (s.setFz p r).fz p = r := Store.get_set_same _ _ _ _
theorem State.fz_setFz_ne {p q : Nat} (r : FrzPart) (h : q ≠ p) : (s.setFz p r).fz q = s.fz q := Store.get_set_ne _ _ _ _ h
@[simp] theorem State.trec_modTrec (p : Nat) (f : TrcRec → TrcRec) : (s.modTrec p f).trec p = f (s.trec p) := Store.get_set_same _ _ _ _
@[simp] theorem State.lk_modLk (l : Nat) (f : LinkRec → LinkRec) : (s.modLk l f).lk l = f (s.lk l) := Store.get_set_same _ _ _ _
theorem State.lk_modLk_ne {l m : Nat} (f : LinkRec → LinkRec) (h : m ≠ l) : (s.modLk l f).lk m = s.lk m := Store.get_set_ne _ _ _ _ h
@[simp] theorem State.ldc_setLdc (c : Nat) (x : LoadCtx) : (s.setLdc c x).ldc c = x := Store.get_set_same _ _ _ _
@[simp] theorem State.stwIn_setStwIn (i : Nat) (r : StwIn) : (s.setStwIn i r).stwIn i = r := Store.get_set_same _ _ _ _
@[simp] theorem State.stwTrg_setStwTrg (n : Nat) (r : StwTrg) : (s.setStwTrg n r).stwTrg n = r := Store.get_set_same _ _ _ _
@[simp] theorem State.core_modCore (c : Nat) (f : CoreRec → CoreRec) : (s.modCore c f).core c = f (s.core c) := Store.get_set_same _ _ _ _
theorem State.core_modCore_ne {c d : Nat} (f : CoreRec → CoreRec) (h : d ≠ c) : (s.modCore c f).core d = s.core d := Store.get_set_ne _ _ _ _ h

end Machine
end Sys2Proof
end

