-- ==== Sys2Proof/WellFormed.lean ====
section
/-! DEFINITION. The well-formed commands: what the types of the operands do not say. -/
namespace Sys2Proof

/-- A register has the instance (R470). -/
def instanceOk (r : Reg) (i : Nat) : Bool := decide (i < r.count)

/-- A register with a field of type RCL (R10). -/
def clearsOnRead (r : Reg) : Bool := decide (r.masks.rcl ≠ 0)

/-- The latching registers (R479). -/
def latchesOnRead (r : Reg) : Bool :=
  [Reg.PART_BELL_NUM_LO, .PART_FROZEN_CLOCKS_LO, .PART_SCC_LO, .PART_LDR_BYTES_LO, .STW_TRG_TIME_LO, .TIM_NOW_0, .TIM_TXTS_0, .TIM_CMK_ARR_LO
   , .TIM_PTM_T1_LO, .TIM_PTM_T4_LO, .TIM_PTM_MST_LO].contains r

/-- Return codes of two bits (R286). -/
def codesOk (l : List Nat) : Bool := l.all fun c => decide (c < 4)

/-- A payload of 1 to 256 bytes (Table HIF-2). -/
def payloadOk (l : List Byte) : Bool := decide (1 ≤ l.length) && decide (l.length ≤ 256)

/-- One byte for each of the twelve sensors (R440). -/
def sensorsOk (l : List Byte) : Bool := decide (l.length = 12)

/-- What a command must meet beside its operands' types. -/
def Instr.wellFormed : Instr → Bool
  | .registerWrite _ r inst _ => instanceOk r inst
  | .rclRead _ r ix _ => instanceOk r ix && clearsOnRead r
  | .latchingRead _ r ix _ => instanceOk r ix && latchesOnRead r
  | .step _ bad => decide bad.Nodup
  | .rframe _ _ codes => codesOk codes
  | .netWrite _ _ _ data => payloadOk data
  | .netWriteP _ _ _ data => payloadOk data
  | .apertureRequest _ _ _ _ data => payloadOk data
  | .tempSample t => sensorsOk t
  | .gapStep ..
  | .tempoInputEdge ..
  | .generatorTick ..
  | .chainTempo ..
  | .bellStart ..
  | .tempoOutFall
  | .tempoStall ..
  | .genCtlWrite ..
  | .load ..
  | .arm ..
  | .armDone ..
  | .start ..
  | .stopAtBell ..
  | .resume ..
  | .freezeNow ..
  | .capture ..
  | .rewind ..
  | .abort ..
  | .unload ..
  | .partCommit ..
  | .partCommitCancel ..
  | .faultRequestArrival ..
  | .faultTailWrite ..
  | .freezeRegistration ..
  | .freezePoint ..
  | .resumePoint ..
  | .lateItemArrival ..
  | .bridgeControlWordRx ..
  | .bridgeFreezeMsg ..
  | .bridgeClearMsg ..
  | .bridgeResumeMsg ..
  | .chFreeze ..
  | .chFrozen ..
  | .chClear ..
  | .chResume ..
  | .chainResumeDelayExpiry ..
  | .stepClockChange
  | .clkchgWindowExpiry
  | .stepPllLock
  | .glbStepTargetWrite ..
  | .hbmSchedule ..
  | .hbmRefresh ..
  | .designMemoryAccess ..
  | .bitSetAliasWrite ..
  | .bitClearAliasWrite ..
  | .eccWriteback ..
  | .backgroundScrub ..
  | .bankZeroiseDone ..
  | .marchStart ..
  | .marchStop ..
  | .marchDone ..
  | .retire ..
  | .unretire ..
  | .hbmRetire ..
  | .hbmPageSwitch ..
  | .loaderStart ..
  | .loaderCancel ..
  | .loadSection ..
  | .loadComplete ..
  | .loadTimeout ..
  | .bootPush ..
  | .doneSensed ..
  | .keyProgram ..
  | .keyRevoke ..
  | .keyClear ..
  | .vbatLoss
  | .lcAdvance ..
  | .lcAdvanceDone
  | .rkProgram ..
  | .rkRevoke ..
  | .svnAdvance ..
  | .drainDone ..
  | .rewindDone ..
  | .trcArm ..
  | .trcStop ..
  | .trcForce ..
  | .designTrigger ..
  | .stwEdge ..
  | .recordEnd ..
  | .bindingPresent ..
  | .tdcHandover ..
  | .tdcCalDone ..
  | .triggerFire ..
  | .triggerTimeout ..
  | .instrLineRelease ..
  | .instrLineEdge ..
  | .stwInEnable ..
  | .stwInArm ..
  | .stwInStop ..
  | .stwInDisable ..
  | .stwTrgArm ..
  | .stwTrgDisarm ..
  | .stwTrgForce ..
  | .calStart ..
  | .calStop ..
  | .tbLatch ..
  | .laneLock ..
  | .laneLossOfLock ..
  | .am ..
  | .amPeriod ..
  | .trainingPhaseDone ..
  | .trainingTimeout ..
  | .crcBlock ..
  | .replay ..
  | .replayTimeout ..
  | .checkFrame ..
  | .linkCap ..
  | .linkId ..
  | .linkEpoch ..
  | .linkDist ..
  | .linkDerate ..
  | .linkSpare ..
  | .linkRemap ..
  | .linkProbe ..
  | .linkEcho ..
  | .linkSkip ..
  | .linkFcfg ..
  | .chainBell ..
  | .bulk ..
  | .napIdleTimeout ..
  | .linkEnable ..
  | .linkDisable ..
  | .linkRetrain ..
  | .linkNap ..
  | .linkRecess ..
  | .linkWake ..
  | .loopback ..
  | .lbEnd ..
  | .linkSpareCmd ..
  | .dxBellwait ..
  | .bellwaitWake ..
  | .dxDeskpop ..
  | .deskpopTimeout ..
  | .dxDeskdone ..
  | .dxQpush ..
  | .dxTick ..
  | .coreWatchdogExpiry ..
  | .queueTailWrite ..
  | .qEnable ..
  | .qPause ..
  | .qUnpause ..
  | .qDisable ..
  | .qFlush ..
  | .qCfgNextWrite ..
  | .taskPlace
  | .tickSourceTick ..
  | .coreCfgWrite ..
  | .netRead ..
  | .netAmo ..
  | .response ..
  | .requestTimeout ..
  | .routeTableWrite ..
  | .doorbell ..
  | .vfFlr ..
  | .pfFlr
  | .hotReset
  | .linkDown
  | .msixUnmask ..
  | .mailboxPost ..
  | .timeIncrement
  | .timeStep ..
  | .timeRearm ..
  | .timRateWrite ..
  | .ptpEventTx ..
  | .ptpEventRx ..
  | .txtsPop ..
  | .chainTimeMarker ..
  | .ptmTrigger ..
  | .ptmPeriod
  | .ptmResponse ..
  | .ptmTimeout
  | .mbxGo ..
  | .monHalt ..
  | .monResume ..
  | .monStep ..
  | .monRead ..
  | .monWrite ..
  | .monPeek ..
  | .monSetbp ..
  | .monSetwp ..
  | .monTracecfg ..
  | .monFreeze ..
  | .monCapture ..
  | .hallpassNonce ..
  | .hallpassPresent ..
  | .hallpassWithdraw ..
  | .hallPassExpiry
  | .coreHalt ..
  | .comparatorMatch ..
  | .ctiPulse
  | .dbgCtiPulseWrite ..
  | .coreTraceStop ..
  | .subFollow ..
  | .subCommit ..
  | .subCancel ..
  | .followCopyDone ..
  | .clsFollow ..
  | .clsCommit ..
  | .clsCancel ..
  | .classImmediateSubstitute ..
  | .declareDead ..
  | .epochStale ..
  | .thresholdReached ..
  | .selftest ..
  | .selftestDone ..
  | .enrol ..
  | .eccSelftestStart ..
  | .eccSelftestDone ..
  | .tokenRenew ..
  | .heartbeat ..
  | .heartbeatTimeout ..
  | .proctorWatchdogExpiry ..
  | .lockstepMismatch ..
  | .failMsg ..
  | .loadStandby ..
  | .switch ..
  | .reload ..
  | .proctorFirmwareLoaded ..
  | .hallMonitorTakeover
  | .powerOn
  | .brownOut ..
  | .railGood ..
  | .resetNAssert
  | .resetNRelease
  | .deviceWatchdogExpiry
  | .dwdogKick ..
  | .dwdogCfgWrite ..
  | .swreq ..
  | .dbgreqPulse ..
  | .dbgreqHold ..
  | .rstUnitWrite ..
  | .resetSourceTimeout ..
  | .releaseStep ..
  | .clockGood ..
  | .clockFail ..
  | .throttleAdjust
  | .pwrRecess ..
  | .pwrWake ..
  | .gpioWake
  | .recessExitDone
  | .pinCfgWrite ..
  | .pioFuseCmd ..
  | .pioLockKey ..
  | .pioLock ..
  | .bankSupplyChange ..
  | .jtagInstruction ..
  | .napExitDone ..
  | .writePulseEnd ..
  | .tdcSelfCheckFail ..
  | .mtvecFetchFault ..
  | .ethernetFrame
  | .hbmStackTrained
  | .marchRestoreDone ..
  | .configurationSpaceWrite ..
  | .badMonitorFrame .. => true

end Sys2Proof
end

