-- ==== Sys2Proof/Tests/Slice0.lean ====
section
/-! SUPPORT. The model's own tests: an ill-formed term for each check of WellFormed, the worked examples of the spec, a few commands
from reset, and, for each statement that has hypotheses, a state and operands that meet them (theorems `witness_`). -/
set_option linter.unusedVariables false
set_option Elab.async false
open Sys2Proof Sys2Proof.Machine

/-! ### What WellFormed refuses -/

theorem test_wf_instance : (Instr.registerWrite .pf0 .PART_STATE 16 0).wellFormed = false := by decide +kernel
theorem test_wf_instance_ok : (Instr.registerWrite .pf0 .PART_TEMPO_NEXT 15 0).wellFormed = true := by decide +kernel
theorem test_wf_rcl : (Instr.rclRead .pf0 .PART_STATE 0 false).wellFormed = false := by decide +kernel
theorem test_wf_latching : (Instr.latchingRead .pf0 .PART_STATE 0 false).wellFormed = false := by decide +kernel
theorem test_wf_latching_ok : (Instr.latchingRead .pf0 .TIM_NOW_0 0 false).wellFormed = true := by decide +kernel
theorem test_wf_step : (Instr.step 0 [7, 7]).wellFormed = false := by decide +kernel
theorem test_wf_rframe : (Instr.rframe 0 0 [4]).wellFormed = false := by decide +kernel
theorem test_wf_payload : (Instr.netWrite .pf0 {} 0 []).wellFormed = false := by decide +kernel
theorem test_wf_payload_posted : (Instr.netWriteP .pf0 {} 0 []).wellFormed = false := by decide +kernel
theorem test_wf_aperture : (Instr.apertureRequest .pf0 0 0 true []).wellFormed = false := by decide +kernel
theorem test_wf_sensors : (Instr.tempSample [25]).wellFormed = false := by decide +kernel

/-! ### Worked examples of the spec -/

/-- Table BP-8. -/
theorem test_three_valued_results :
    lut 0x8888 .zero .zero .x .zero = .zero ∧ lut 0x8888 .zero .zero .x .one = .x ∧ lut 0xCACA .zero .x .one .one = .one ∧
    lut 0xCACA .zero .x .one .zero = .x ∧ lut 0x6996 .x .zero .zero .zero = .x ∧ lut 0x9696 .x .one .zero .one = .zero := by decide +kernel

/-- A BP at step `t` whose slate, chalk bus and imports read one value each. -/
def exampleCtx (t : Nat) (slate : Nat → Tri) (chalk imp : Tri) : BpCtx :=
  { t := t, xmode := true, b0 := false, dual := false, base := 0, slate := fun a => SlateEntry.ofTri (slate a), chalk := fun _ => chalk
    imp := fun _ => imp, ret := {} }

/-- Table BP-9: the flip-flop's words copy chalk line 5, and slate entry 20. -/
theorem test_flip_flop :
    (bpEval (exampleCtx 20 (fun _ => .zero) .one .zero) 0x2AAAA00B800A0280).write = some .one ∧
    (bpEval (exampleCtx 0 (fun a => if a = 20 then .one else .zero) .zero .zero) 0x2AAA8029800A0280).drive = some .one := by decide +kernel

/-- Table BP-10: with the enable X and the old value 1, a 1 on the line keeps the register and a 0 makes it X; with the enable 0 nothing is
written and the old value is driven. -/
theorem test_enabled_register :
    (bpEval (exampleCtx 30 (fun _ => .one) .one .x) 0x402AA0C9800A020C).write = some .one ∧
    (bpEval (exampleCtx 30 (fun _ => .one) .zero .x) 0x402AA0C9800A020C).write = some .x ∧
    (bpEval (exampleCtx 30 (fun _ => .one) .zero .zero) 0x402AA0C9800A020C) = { write := none, drive := some .one, faults := [] } := by decide +kernel

/-- Table BP-12, bells 2 and 4: the two bits of the counter. -/
theorem test_counter :
    (bpEval (exampleCtx 40 (fun a => if a = 40 then .one else .zero) .zero .one) 0x1B1B005202880E80).write = some .one ∧
    (bpEval (exampleCtx 41 (fun _ => .zero) .zero .one) 0x1696805380080E80).write = some .one ∧
    (bpEval (exampleCtx 40 (fun _ => .zero) .zero .x) 0x1B1B005202880E80).write = some .zero ∧
    (bpEval (exampleCtx 41 (fun _ => .zero) .zero .x) 0x1696805380080E80).write = some .x := by decide +kernel

/-- The worked example of R174: a contention fault of bank 44 at step 700 with HALT_AT_BELL. -/
theorem test_fault_record : frecWord0 4 0 false false false false 700 = 0x82BC0004 ∧ frecWord0 4 0 false true false false 700 = 0x82BC0804 := by
  decide +kernel

/-- A bundle of 14 lanes has FMAX code 252 (the worked example of the register map). -/
theorem test_fmax : fmaxOf 14 = 252 ∧ fmaxOf 16 = 256 := by decide +kernel

/-- The period of generator 1 stands at PART + 0x10_0050 + 0x20 (R91). -/
theorem test_register_address : regAddr .PART_GEN_PERIOD_NS 1 = 0x300070 := by decide +kernel

/-! ### A few commands from reset -/

/-- Check the next state. -/
def nextHolds (o : Host.Outcome State Fault Refusal) (f : State → Bool) : Bool :=
  match o with
  | .next t => f t
  | _ => false

/-- On an empty queue one step clock passes. -/
theorem test_idle : nextHolds (step State.reset) (fun t => decide (t.scc = 1)) = true := by decide +kernel

/-- The front command runs and leaves the queue. -/
theorem test_step_takes_front :
    nextHolds (step { State.reset with pending := [.railGood 3, .stepPllLock] }) (fun t => decide (t.pending = [.stepPllLock])) = true := by decide +kernel

/-- The host target is clamped to 256 (R18, R12). -/
theorem test_target_clamped : nextHolds (exec (.glbStepTargetWrite .pf0 1000) State.reset) (fun t => decide (t.gf F.GLB_STEP_TARGET_TARGET 0 = 256)) = true := by
  decide +kernel

/-- User software may not write PART_GEN_CTL: 0x21, logged once (R13). -/
theorem test_refused_write :
    nextHolds (exec (.genCtlWrite (.core 3 .user) 0 1) State.reset)
      (fun t => decide (t.resp.status = 0x21) && decide (t.gf F.PRC_VIOL_STAT_COUNT 0 = 1) && !t.flag F.PART_GEN_CTL_EN 0) = true := by decide +kernel

/-- START of an EMPTY partition is refused with 0x20 (R77). -/
theorem test_start_refused :
    nextHolds (exec (.start .pf0 0 0) State.reset) (fun t => decide (t.gf F.PART_CMD_STATUS_STATUS 0 = 0x20) && decide (t.pst 0 = stEmpty)) = true := by
  decide +kernel

/-- A write of a blackboard word reads back (R148). -/
theorem test_design_memory :
    nextHolds (exec (.designMemoryAccess .pf0 true 0x200000010 0xFF 0x1122334455667788) State.reset)
      (fun t => nextHolds (exec (.designMemoryAccess .pf0 false 0x200000010 0 0) t) (fun u => decide (u.resp.data = 0x1122334455667788))) = true := by
  decide +kernel

/-! ### States and operands that meet the statements' hypotheses -/

theorem witness_AStepRunsTheFrontCommandOrIdles : ∃ s : State, s.pending = [] := ⟨State.reset, rfl⟩

theorem witness_StepKeepsTheCanonicalForm : ∃ s t : State, s.Canonical ∧ step s = .next t := ⟨State.reset, _, by unfold State.Canonical; decide +kernel, rfl⟩

theorem witness_EveryStepAnswersAndKeepsTheIdentity : ∃ s : State, LowestStepping s := ⟨State.reset, by unfold LowestStepping; decide +kernel⟩

theorem witness_EvalAndPortIndexTheTruthTable :
    (∃ (x : BpCtx) (w : Nat) (a b c d : Bool), bitsAt w 62 2 = 0 ∧
      operandValues x w = (Tri.ofBool a, Tri.ofBool b, Tri.ofBool c, Tri.ofBool d)) ∧
    (∃ (x : BpCtx) (w : Nat) (a b c d : Bool), bitsAt w 62 2 = 2 ∧
      operandValues x w = (Tri.ofBool a, Tri.ofBool b, Tri.ofBool c, Tri.ofBool d)) :=
  ⟨⟨exampleCtx 20 (fun _ => .zero) .one .zero, 0x2AAAA00B800A0280, true, false, false, false, by decide +kernel⟩,
   ⟨{ exampleCtx 20 (fun _ => .zero) .one .zero with ret := { val := 1, unk := 0 } }, 0xAAAA8000000A0280, true, true, false, false, by decide +kernel⟩⟩

theorem witness_UnknownOperandsGiveTheExactResult :
    ∃ (x : BpCtx) (w : Nat) (r : Tri), bitsAt w 62 2 = 0 ∧ (bpEval x w).write = some r ∧
      (∃ n < 16, agrees x w n ∧ bitAt (bitsAt w 46 16) n = 0) ∧ (∃ n < 16, agrees x w n ∧ bitAt (bitsAt w 46 16) n = 1) :=
  ⟨exampleCtx 41 (fun _ => .zero) .zero .x, 0x1696805380080E80, .x, by decide +kernel, by decide +kernel,
   ⟨0, by decide, by unfold agrees; decide +kernel, by decide +kernel⟩, ⟨4, by decide, by unfold agrees; decide +kernel, by decide +kernel⟩⟩

theorem witness_UnknownOperandsGiveTheExactResult_known :
    ∃ (x : BpCtx) (w : Nat), bitsAt w 62 2 = 0 ∧ (bpEval x w).write = some .zero ∧ (∀ n < 16, agrees x w n → bitAt (bitsAt w 46 16) n = 0) :=
  ⟨exampleCtx 40 (fun _ => .zero) .zero .x, 0x1B1B005202880E80, by decide +kernel, by decide +kernel, by unfold agrees; decide +kernel⟩

theorem witness_UnknownOperandsGiveTheExactResult_one :
    ∃ (x : BpCtx) (w : Nat), bitsAt w 62 2 = 0 ∧ (bpEval x w).write = some .one ∧ (∀ n < 16, agrees x w n → bitAt (bitsAt w 46 16) n = 1) :=
  ⟨exampleCtx 20 (fun _ => .zero) .one .zero, 0x2AAAA00B800A0280, by decide +kernel, by decide +kernel, by unfold agrees; decide +kernel⟩

theorem witness_MonitorFramesReadBack :
    ∃ (flags seq cmd status : Nat) (pl : List Nat), flags < 256 ∧ cmd < 256 ∧ status < 256 ∧ seq < 65536 ∧ pl.length ≤ 1024 ∧ ∀ b ∈ pl, b < 256 :=
  ⟨1, 65535, 3, 0x20, [255, 0], by decide +kernel⟩

theorem witness_OnlyTheNamedCommandsMoveAPartition :
    ∃ (c : Instr) (s t : State), mayMovePartition c = false ∧ exec c s = .next t := ⟨.railGood 3, State.reset, _, rfl, rfl⟩

theorem witness_PartitionCommandsKeepTheirFrame : ∃ s t : State, exec (.tempoInputEdge 1 true) s = .next t := ⟨State.reset, _, rfl⟩

theorem witness_LinkCommandsKeepTheirFrame : ∃ s t : State, exec (.stepClockChange) s = .next t := ⟨State.reset, _, rfl⟩

theorem witness_MemoryAndInstrumentCommandsKeepTheirFrame : ∃ s t : State, exec (.hbmSchedule 1 1 1 true) s = .next t := ⟨State.reset, _, rfl⟩

theorem witness_TimeHostAndKeyCommandsKeepTheirFrame : ∃ s t : State, exec (.timeIncrement) s = .next t := ⟨State.reset, _, rfl⟩

theorem witness_MonitorAndNetworkCommandsKeepTheirFrame : ∃ s t : State, exec (.monHalt 1 []) s = .next t := ⟨State.reset, _, rfl⟩

theorem witness_ReliabilityAndPowerCommandsKeepTheirFrame : ∃ s t : State, exec (.clockGood 1) s = .next t := ⟨State.reset, _, rfl⟩

theorem witness_StepEventsKeepTheirFrame : ∃ s t : State, exec (.step 1 []) s = .next t := ⟨State.reset, _, rfl⟩

def wit_StepEventsTakeEffect_step : State × (Fin 16) × Nat :=
  let s : State := State.reset
  let p : Fin 16 := 1
  let s : State := ((((s.sf F.PART_STATE_STATE p stRunning).sf F.PART_STATE_WAITING p 0).sf F.PART_STATE_IN_GAP p 0).sf F.PART_STATE_STEP p 8).setFz p {} |> fun (s : State) => ((s.sf F.PART_CFG_DEPTH p 64).sf F.PART_CFG_IMG_DEPTH p 16)
  let n : Nat := (nextStep p s).1
  (s, p, n)
theorem witness_StepEventsTakeEffect_step : ∃ (s : State) (p : Fin 16) (n : Nat), canStep p s = true ∧ nextStep p s = (n, false) ∧
    n < 4096 :=
  ⟨wit_StepEventsTakeEffect_step.1, wit_StepEventsTakeEffect_step.2.1, wit_StepEventsTakeEffect_step.2.2, by decide +kernel⟩

def wit_StepEventsTakeEffect_gapStep : State × (Fin 16) × Nat :=
  let s : State := State.reset
  let p : Fin 16 := 1
  let k : Fin 12 := 1
  let s : State := (((((s.sf F.PART_STATE_STATE p stRunning).sf F.PART_STATE_WAITING p 0).sf F.PART_STATE_IN_GAP p 1).sf F.PART_STATE_STEP p k).setFz p {}).setPart p { s.part p with fresh := true, rewinding := false } |> fun (s : State) => ((s.sf F.PART_CFG_DEPTH p 64).sf F.PART_CFG_IMG_DEPTH p 16)
  let g : Nat := (nextStep p s).1
  (s, p, g)
theorem witness_StepEventsTakeEffect_gapStep : ∃ (s : State) (p : Fin 16) (g : Nat), canStep p s = true ∧ nextStep p s = (g, true) ∧
    (s.part p).rewinding = false ∧ g < 12 :=
  ⟨wit_StepEventsTakeEffect_gapStep.1, wit_StepEventsTakeEffect_gapStep.2.1, wit_StepEventsTakeEffect_gapStep.2.2, by decide +kernel⟩

def wit_StepEventsTakeEffect_faultRequestArrival : State × (Fin 16) × Nat × Bool :=
  let s : State := State.reset
  let p : Fin 16 := 1
  let s : State := (((((s.sf F.PART_STATE_STATE p stRunning).sf F.PART_STATE_WAITING p 0).sf F.PART_STATE_IN_GAP p 0).sf F.PART_STATE_STEP p 3).setFz p {}).setPart p { s.part p with travel := [⟨(s.part p).count + 1, 4, 0⟩] } |> fun (s : State) => ((s.sf F.PART_CFG_DEPTH p 64).sf F.PART_CFG_IMG_DEPTH p 16)
  let n : Nat := (nextStep p s).1
  let gap : Bool := (nextStep p s).2
  (s, p, n, gap)
theorem witness_StepEventsTakeEffect_faultRequestArrival : ∃ (s : State) (p : Fin 16) (n : Nat) (gap : Bool), canStep p s = true ∧
    nextStep p s = (n, gap) ∧ (gap = true ∨ n < s.dImg p) :=
  ⟨wit_StepEventsTakeEffect_faultRequestArrival.1, wit_StepEventsTakeEffect_faultRequestArrival.2.1,
      wit_StepEventsTakeEffect_faultRequestArrival.2.2.1, wit_StepEventsTakeEffect_faultRequestArrival.2.2.2, by decide +kernel⟩

def wit_StepEventsTakeEffect_freezePoint : State × (Fin 16) × Nat :=
  let s : State := State.reset
  let p : Fin 16 := 1
  let s : State := (s.setFz p { s.fz p with f := some (s.scc + 5) }).sf F.PART_STATE_STATE p stRunning
  let f : Nat := (s.scc + 5)
  (s, p, f)
theorem witness_StepEventsTakeEffect_freezePoint : ∃ (s : State) (p : Fin 16) (f : Nat), (s.fz p).f = some f ∧ s.scc ≤ f ∧
    s.pst p = stRunning :=
  ⟨wit_StepEventsTakeEffect_freezePoint.1, wit_StepEventsTakeEffect_freezePoint.2.1, wit_StepEventsTakeEffect_freezePoint.2.2,
      by decide +kernel⟩

def wit_StepEventsTakeEffect_resumePoint : State × (Fin 16) × Nat :=
  let s : State := State.reset
  let p : Fin 16 := 1
  let s : State := (s.setFz p { s.fz p with r := some (s.scc + 5) }).sf F.PART_STATE_STATE p stFrozen
  let r : Nat := (s.scc + 5)
  (s, p, r)
theorem witness_StepEventsTakeEffect_resumePoint : ∃ (s : State) (p : Fin 16) (r : Nat), (s.fz p).r = some r ∧ s.scc ≤ r ∧
    s.pst p = stFrozen :=
  ⟨wit_StepEventsTakeEffect_resumePoint.1, wit_StepEventsTakeEffect_resumePoint.2.1, wit_StepEventsTakeEffect_resumePoint.2.2,
      by decide +kernel⟩

def wit_StepEventsTakeEffect_chainResumeDelayExpiry : State × (Fin 16) × Nat × Nat :=
  let s : State := State.reset
  let p : Fin 16 := 1
  let x : Nat := 1
  let s : State := (s.setFz p { s.fz p with chDelay := some (s.scc + 5, x) }).sf F.PART_STATE_STATE p stFrozen
  let r : Nat := (s.scc + 5)
  (s, p, r, x)
theorem witness_StepEventsTakeEffect_chainResumeDelayExpiry : ∃ (s : State) (p : Fin 16) (r x : Nat), (s.fz p).chDelay = some (r,
    x) ∧ s.scc ≤ r ∧ s.pst p = stFrozen :=
  ⟨wit_StepEventsTakeEffect_chainResumeDelayExpiry.1, wit_StepEventsTakeEffect_chainResumeDelayExpiry.2.1,
      wit_StepEventsTakeEffect_chainResumeDelayExpiry.2.2.1, wit_StepEventsTakeEffect_chainResumeDelayExpiry.2.2.2, by decide +kernel⟩

def wit_StepEventsTakeEffect_drainDone : State × (Fin 16) :=
  let s : State := State.reset
  let p : Fin 16 := 1
  let s : State := ((((s.resetAll .CLS_SEQ_STATUS).sf F.TRC_SNAP_STAT_DRAINING p 1).sf F.TRC_SNAP_STAT_DSLOT p 3).sf F.PART_STATE_CAPTURE_PEND p 0).modTrec p (fun r => { r with drainDead := false })
  (s, p)
theorem witness_StepEventsTakeEffect_drainDone : ∃ (s : State) (p : Fin 16), s.flag F.TRC_SNAP_STAT_DRAINING p = true ∧
    (s.trec p).drainDead = false ∧ s.flag F.PART_STATE_CAPTURE_PEND p = false :=
  ⟨wit_StepEventsTakeEffect_drainDone.1, wit_StepEventsTakeEffect_drainDone.2, by decide +kernel⟩

def wit_StepEventsTakeEffect_rewindDone : State × (Fin 16) × Nat :=
  let s : State := State.reset
  let p : Fin 16 := 1
  let s : State := (s.resetAll .CLS_SEQ_STATUS).modTrec p fun r => { r with undoPos := 0, rewind := some 0, snaps := Store.put 0 { boundary := true, bell := 77 } r.snaps }
  let k : Nat := 0
  (s, p, k)
theorem witness_StepEventsTakeEffect_rewindDone : ∃ (s : State) (p : Fin 16) (k : Nat), (s.trec p).rewind = some k ∧
    ((s.trec p).snap k).boundary = true :=
  ⟨wit_StepEventsTakeEffect_rewindDone.1, wit_StepEventsTakeEffect_rewindDone.2.1, wit_StepEventsTakeEffect_rewindDone.2.2,
      by decide +kernel⟩

def wit_StepEventsTakeEffect_designTrigger : State × (Fin 16) × Nat × Nat × Nat × Nat × (List (Nat × Nat × Nat × Nat)) :=
  let s : State := State.reset
  let p : Fin 16 := 1
  let k : Nat := 1
  let at_ : Nat := 1
  let bell : Nat := 1
  let l : List (Nat × Nat × Nat × Nat) := []
  let s : State := ((((((s.sf F.PART_STATE_STATE p stRunning).sf F.PART_STATE_WAITING p 0).sf F.PART_STATE_IN_GAP p 0).sf F.PART_STATE_STEP p 3).setFz p {}).sf F.TRC_PSTAT_STATE p trcRunning).modTrec p (fun r => { r with trig := ((s.part p).count + 1, k, at_, bell) :: l }) |> fun (s : State) => ((s.sf F.PART_CFG_DEPTH p 64).sf F.PART_CFG_IMG_DEPTH p 16)
  let due : Nat := ((s.part p).count + 1)
  (s, p, due, k, at_, bell, l)
theorem witness_StepEventsTakeEffect_designTrigger : ∃ (s : State) (p : Fin 16) (due k at_ bell : Nat) (l : List (Nat × Nat × Nat × Nat)), canStep p s = true ∧ ((nextStep p s).2 = true ∨ (nextStep p s).1 < s.dImg p) ∧ (s.trec p).trig = (due, k, at_, bell) :: l ∧ due ≤ (s.part p).count + 1 ∧ s.trst p = trcRunning :=
  ⟨wit_StepEventsTakeEffect_designTrigger.1, wit_StepEventsTakeEffect_designTrigger.2.1,
      wit_StepEventsTakeEffect_designTrigger.2.2.1, wit_StepEventsTakeEffect_designTrigger.2.2.2.1,
      wit_StepEventsTakeEffect_designTrigger.2.2.2.2.1, wit_StepEventsTakeEffect_designTrigger.2.2.2.2.2.1,
      wit_StepEventsTakeEffect_designTrigger.2.2.2.2.2.2, by decide +kernel⟩

def wit_StepEventsTakeEffect_bindingPresent : State × (Fin 16) :=
  let s : State := State.reset
  let p : Fin 16 := 1
  let s : State := (((((s.sf F.PART_STATE_STATE p stRunning).sf F.PART_STATE_WAITING p 0).sf F.PART_STATE_IN_GAP p 0).sf F.PART_STATE_STEP p 3).setFz p {}) |> fun (s : State) => ((s.sf F.PART_CFG_DEPTH p 64).sf F.PART_CFG_IMG_DEPTH p 16)
  (s, p)
theorem witness_StepEventsTakeEffect_bindingPresent : ∃ (s : State) (p : Fin 16), canStep p s = true ∧
    ((nextStep p s).2 = true ∨ (nextStep p s).1 < s.dImg p) :=
  ⟨wit_StepEventsTakeEffect_bindingPresent.1, wit_StepEventsTakeEffect_bindingPresent.2, by decide +kernel⟩

def wit_TempoEventsTakeEffect_tempoInputEdge : State × (Fin 4) × Bool :=
  let s : State := State.reset
  let ix : Fin 4 := 1
  let rising : Bool := true
  let s : State := (s.sf F.PART_TIN_CFG_EN ix 1).sf F.PART_TIN_CFG_HOLDOFF ix 0
  (s, ix, rising)
theorem witness_TempoEventsTakeEffect_tempoInputEdge : ∃ (s : State) (ix : Fin 4) (rising : Bool),
    s.flag F.PART_TIN_CFG_EN ix = true ∧
    (Store.get 0 s.tmp.last (2 * ix.val + b2n (!rising)) = 0 ∨ s.gf F.PART_TIN_CFG_HOLDOFF ix ≤ s.scc + 1 - Store.get 0 s.tmp.last (2 * ix.val + b2n (!rising))) :=
  ⟨wit_TempoEventsTakeEffect_tempoInputEdge.1, wit_TempoEventsTakeEffect_tempoInputEdge.2.1,
      wit_TempoEventsTakeEffect_tempoInputEdge.2.2, by decide +kernel⟩

def wit_TempoEventsTakeEffect_tempoInputEdge_2 : State × (Fin 4) × Bool × (Fin 16) :=
  let s : State := State.reset
  let ix : Fin 4 := 1
  let rising : Bool := true
  let p : Fin 16 := 1
  let s : State := ((s.resetAll .PART_TEMPO).setReg .PART_TEMPO p (BitVec.ofNat 32 (1 + 16 * ix.val))).sf F.PART_TEMPO_EDGE p (b2n (!rising)) |> fun (s : State) => (((s.sf F.PART_TIN_CFG_EN ix 1).sf F.PART_TIN_CFG_HOLDOFF ix 0).sf F.TRC_REPLAY_STAT_ACTIVE p 0).setPart p {} |> fun (s : State) => (s.sf F.PART_STATE_STATE p stRunning).sf F.PART_STATE_WAITING p 1
  (s, ix, rising, p)
theorem witness_TempoEventsTakeEffect_tempoInputEdge_2 : ∃ (s : State) (ix : Fin 4) (rising : Bool) (p : Fin 16),
    s.flag F.PART_TIN_CFG_EN ix = true ∧
    (Store.get 0 s.tmp.last (2 * ix.val + b2n (!rising)) = 0 ∨ s.gf F.PART_TIN_CFG_HOLDOFF ix ≤ s.scc + 1 - Store.get 0 s.tmp.last (2 * ix.val + b2n (!rising))) ∧ tempoUsers 1 ix s = [p.val] ∧ s.gf F.PART_TEMPO_EDGE p = b2n (!rising) ∧ s.pst p = stRunning ∧ s.flag F.TRC_REPLAY_STAT_ACTIVE p = false ∧ (s.part p).div = 0 ∧ (s.part p).debts = [] ∧ (s.part p).tick = none ∧ bellOpen p s = true :=
  ⟨wit_TempoEventsTakeEffect_tempoInputEdge_2.1, wit_TempoEventsTakeEffect_tempoInputEdge_2.2.1,
      wit_TempoEventsTakeEffect_tempoInputEdge_2.2.2.1, wit_TempoEventsTakeEffect_tempoInputEdge_2.2.2.2, by decide +kernel⟩

def wit_TempoEventsTakeEffect_generatorTick : State × (Fin 4) :=
  let s : State := State.reset
  let g : Fin 4 := 1
  let s : State := { s.sf F.PART_GEN_CTL_EN g 1 with tmp := { s.tmp with gen := Store.set 0 g.val 0 s.tmp.gen } }
      |> fun (s : State) => (s.setReg .PART_GEN_START_SEC_LO g 0).setReg .PART_GEN_START_SEC_HI g 0
      |> fun (s : State) => s.setReg .PART_GEN_START_NS g 0
  (s, g)
theorem witness_TempoEventsTakeEffect_generatorTick : ∃ (s : State) (g : Fin 4), s.flag F.PART_GEN_CTL_EN g = true ∧
    genStart g s + Store.get 0 s.tmp.gen g * genPeriod g s ≤ timeFrac16 s :=
  ⟨wit_TempoEventsTakeEffect_generatorTick.1, wit_TempoEventsTakeEffect_generatorTick.2, by decide +kernel⟩

def wit_TempoEventsTakeEffect_chainTempo : State × (Fin 8) × (Fin 16) :=
  let s : State := State.reset
  let ix : Fin 8 := 1
  let p : Fin 16 := 1
  let s : State := ((s.sf F.XOT_STAT_OWNED ix 1).sf F.XOT_STAT_OWNER ix p).sf F.PART_LAT_PORT_CTL_CHAIN (8 * p.val + ix.val) 1
      |> fun (s : State) => ((s.setReg .PART_TEMPO p (BitVec.ofNat 32 (3 + 16 * ix.val))).sf F.TRC_REPLAY_STAT_ACTIVE p 0).setPart p {} |> fun (s : State) => ((s.sf F.PART_STATE_STATE p stRunning).sf F.PART_STATE_WAITING p 1).modLk (2 * ix.val) fun r => { r with dead := false }
  (s, ix, p)
theorem witness_TempoEventsTakeEffect_chainTempo : ∃ (s : State) (ix : Fin 8) (p : Fin 16), (s.lk (2 * ix.val)).dead = false ∧
    s.portOwner ix = p.val + 1 ∧ s.pst p = stRunning ∧ s.flag F.TRC_REPLAY_STAT_ACTIVE p = false ∧ ix.val ∈ s.chainPorts p ∧
    s.gf F.PART_TEMPO_SRC p = 3 ∧ s.gf F.PART_TEMPO_SEL p = ix.val ∧ (s.part p).debts = [] ∧ (s.part p).tick = none ∧
    bellOpen p s = true :=
  ⟨wit_TempoEventsTakeEffect_chainTempo.1, wit_TempoEventsTakeEffect_chainTempo.2.1, wit_TempoEventsTakeEffect_chainTempo.2.2,
      by decide +kernel⟩

def wit_TempoEventsTakeEffect_bellStart : State × (Fin 16) × Nat × Nat × Bool :=
  let s : State := State.reset
  let p : Fin 16 := 1
  let s : State := (((s.sf F.PART_STATE_STATE p stRunning).sf F.PART_STATE_WAITING p 1).sf F.TRC_REPLAY_STAT_ACTIVE p 0).setPart p { s.part p with tick := some (s.scc - 3) } |> fun (s : State) => s.setFz p {}
  let n : Nat := (((bellCause p s).map (·.1)).getD 0)
  let lag : Nat := (((bellCause p s).map (·.2.1)).getD 0)
  let bad : Bool := (((bellCause p s).map (·.2.2)).getD false)
  (s, p, n, lag, bad)
theorem witness_TempoEventsTakeEffect_bellStart : ∃ (s : State) (p : Fin 16) (n lag : Nat) (bad : Bool), s.pst p = stRunning ∧
    s.flag F.PART_STATE_WAITING p = true ∧ bellCause p s = some (n, lag, bad) ∧ (∀ f ∈ (s.fz p).f, n < f) :=
  ⟨wit_TempoEventsTakeEffect_bellStart.1, wit_TempoEventsTakeEffect_bellStart.2.1, wit_TempoEventsTakeEffect_bellStart.2.2.1,
      wit_TempoEventsTakeEffect_bellStart.2.2.2.1, wit_TempoEventsTakeEffect_bellStart.2.2.2.2, by decide +kernel⟩

def wit_TempoEventsTakeEffect_tempoOutFall : State :=
  let s : State := State.reset
  let s : State := { s with tmp := { s.tmp with out := true, fall := s.scc + 4, rises := [] } }
  (s)
theorem witness_TempoEventsTakeEffect_tempoOutFall : ∃ (s : State), s.tmp.out = true ∧ s.scc < s.tmp.fall ∧ (∀ r ∈ s.tmp.rises,
    s.tmp.fall < r) :=
  ⟨wit_TempoEventsTakeEffect_tempoOutFall, by decide +kernel⟩

def wit_TempoEventsTakeEffect_tempoStall : State × (Fin 16) :=
  let s : State := State.reset
  let p : Fin 16 := 1
  let s : State := (s.sf F.PART_STATE_STATE p stRunning).sf F.PART_TEMPO_STALL p 5
  (s, p)
theorem witness_TempoEventsTakeEffect_tempoStall : ∃ (s : State) (p : Fin 16), s.pst p = stRunning ∧ s.gf F.PART_TEMPO_STALL p ≠ 0 :=
  ⟨wit_TempoEventsTakeEffect_tempoStall.1, wit_TempoEventsTakeEffect_tempoStall.2, by decide +kernel⟩

def wit_TempoEventsTakeEffect_genCtlWrite : State × Requester :=
  let s : State := State.reset
  let rq : Requester := .monitor
  let s : State := s
  (s, rq)
theorem witness_TempoEventsTakeEffect_genCtlWrite : ∃ (s : State) (rq : Requester), adminOk rq s = true :=
  ⟨wit_TempoEventsTakeEffect_genCtlWrite.1, wit_TempoEventsTakeEffect_genCtlWrite.2, by decide +kernel⟩

def wit_LoadArmAndStartTakeEffect_load : State × Requester × (Fin 16) × (Fin 4) :=
  let s : State := State.reset
  let p : Fin 16 := 1
  let c : Fin 4 := 1
  let rq : Requester := .device ⟨c.val, by omega⟩
  let s : State := ((s.modLdc c fun x => { x with declared := true, entered := false, part := p, standby := false, keep := false }).sf F.PART_LDR_STATUS_STATE c 1).sf F.PART_STATE_STATE p stEmpty |> fun (s : State) => (s.sf F.TRC_REPLAY_STAT_RESTORING p 0).sf F.PART_STATE_STBY_READY p 0
  (s, rq, p, c)
theorem witness_LoadArmAndStartTakeEffect_load : ∃ (s : State) (rq : Requester) (p : Fin 16) (c : Fin 4),
    loaderFor rq p s = some c.val ∧ loadLegal p s = true ∧ (s.ldc c).standby = s.live p ∧ ((s.ldc c).keep = true →
    s.pst p = stLoaded ∨ s.pst p = stHalted) :=
  ⟨wit_LoadArmAndStartTakeEffect_load.1, wit_LoadArmAndStartTakeEffect_load.2.1, wit_LoadArmAndStartTakeEffect_load.2.2.1,
      wit_LoadArmAndStartTakeEffect_load.2.2.2, by decide +kernel⟩

def wit_LoadArmAndStartTakeEffect_arm : State × Requester × (Fin 16) :=
  let s : State := State.reset
  let p : Fin 16 := 1
  let rq : Requester := .monitor
  let s : State := (s.sf F.PART_STATE_STATE p stLoaded).sf F.TRC_REPLAY_STAT_RESTORING p 0
  (s, rq, p)
theorem witness_LoadArmAndStartTakeEffect_arm : ∃ (s : State) (rq : Requester) (p : Fin 16), partOk rq p s = true ∧
    s.pst p = stLoaded ∧ s.flag F.TRC_REPLAY_STAT_RESTORING p = false ∧ marchOn p s = false :=
  ⟨wit_LoadArmAndStartTakeEffect_arm.1, wit_LoadArmAndStartTakeEffect_arm.2.1, wit_LoadArmAndStartTakeEffect_arm.2.2,
      by decide +kernel⟩

def wit_LoadArmAndStartTakeEffect_armDone : State × (Fin 16) :=
  let s : State := State.reset
  let p : Fin 16 := 1
  let s : State := (((s.sf F.PART_STATE_STATE p stLoaded).resetAll .CLS_SEQ_STATUS).resetAll .PART_LAT_DECL).modPart p (fun r => { r with arming := true }) |> fun (s : State) => s.sf F.GLB_STEP_FREQ_PENDING 0 0
  (s, p)
theorem witness_LoadArmAndStartTakeEffect_armDone : ∃ (s : State) (p : Fin 16), s.pst p = stLoaded ∧ (s.part p).arming = true ∧
    (s.flag F.GLB_STEP_FREQ_PENDING 0 = false ∨ s.gf F.GLB_STEP_FREQ_FREQ 0 ≤ s.clk.want) ∧
    latFails p (s.gf F.GLB_STEP_FREQ_FREQ 0) s = [] :=
  ⟨wit_LoadArmAndStartTakeEffect_armDone.1, wit_LoadArmAndStartTakeEffect_armDone.2, by decide +kernel⟩

def wit_LoadArmAndStartTakeEffect_start : State × Requester × (Fin 16) :=
  let s : State := State.reset
  let p : Fin 16 := 1
  let c : Fin 64 := 1
  let rq : Requester := .core c .machine
  let s : State := (s.sf F.PART_STATE_STATE p stArmed).sf F.TRC_REPLAY_STAT_RESTORING p 0
  (s, rq, p)
theorem witness_LoadArmAndStartTakeEffect_start : ∃ (s : State) (rq : Requester) (p : Fin 16), partOk rq p s = true ∧
    s.pst p = stArmed ∧ s.flag F.TRC_REPLAY_STAT_RESTORING p = false ∧ marchOn p s = false :=
  ⟨wit_LoadArmAndStartTakeEffect_start.1, wit_LoadArmAndStartTakeEffect_start.2.1, wit_LoadArmAndStartTakeEffect_start.2.2,
      by decide +kernel⟩

def wit_LoadArmAndStartTakeEffect_doneSensed : State × Bool × (Fin 16) :=
  let s : State := State.reset
  let p : Fin 16 := 1
  let high : Bool := true
  let s : State := ({ s with ld := { s.ld with autos := Store.set 0 p.val 2 s.ld.autos } }.sf F.PART_LDR_DONE_SENSED 0 0).sf F.PART_LDR_DONE_DRIVE 0 0
  (s, high, p)
theorem witness_LoadArmAndStartTakeEffect_doneSensed : ∃ (s : State) (high : Bool) (p : Fin 16), high = true ∧
    s.flag F.PART_LDR_DONE_SENSED 0 = false ∧ s.flag F.PART_LDR_DONE_DRIVE 0 = false ∧ Store.get 0 s.ld.autos p = 2 :=
  ⟨wit_LoadArmAndStartTakeEffect_doneSensed.1, wit_LoadArmAndStartTakeEffect_doneSensed.2.1,
      wit_LoadArmAndStartTakeEffect_doneSensed.2.2, by decide +kernel⟩

def wit_LoadArmAndStartTakeEffect_doneSensed_2 : Bool :=
  let high : Bool := false
  (high)
theorem witness_LoadArmAndStartTakeEffect_doneSensed_2 : ∃ (high : Bool), high = false :=
  ⟨wit_LoadArmAndStartTakeEffect_doneSensed_2, by decide +kernel⟩

def wit_StopResumeAndEndTakeEffect_stopAtBell : State × Requester × (Fin 16) :=
  let s : State := State.reset
  let p : Fin 16 := 1
  let z : Bool := true
  let rq : Requester := .pf0
  let s : State := (s.sf F.PART_STATE_STATE p (if z then stRunning else stFrozen)).sf F.TRC_REPLAY_STAT_RESTORING p 0
  (s, rq, p)
theorem witness_StopResumeAndEndTakeEffect_stopAtBell : ∃ (s : State) (rq : Requester) (p : Fin 16), partOk rq p s = true ∧
    s.live p = true ∧ s.flag F.TRC_REPLAY_STAT_RESTORING p = false :=
  ⟨wit_StopResumeAndEndTakeEffect_stopAtBell.1, wit_StopResumeAndEndTakeEffect_stopAtBell.2.1,
      wit_StopResumeAndEndTakeEffect_stopAtBell.2.2, by decide +kernel⟩

def wit_StopResumeAndEndTakeEffect_resume : State × Requester × (Fin 16) :=
  let s : State := State.reset
  let p : Fin 16 := 1
  let rq : Requester := .pf0
  let s : State := (s.sf F.PART_STATE_STATE p stHalted).sf F.TRC_REPLAY_STAT_RESTORING p 0
  (s, rq, p)
theorem witness_StopResumeAndEndTakeEffect_resume : ∃ (s : State) (rq : Requester) (p : Fin 16), partOk rq p s = true ∧
    s.pst p = stHalted ∧ s.flag F.TRC_REPLAY_STAT_RESTORING p = false ∧ marchOn p s = false :=
  ⟨wit_StopResumeAndEndTakeEffect_resume.1, wit_StopResumeAndEndTakeEffect_resume.2.1, wit_StopResumeAndEndTakeEffect_resume.2.2,
      by decide +kernel⟩

def wit_StopResumeAndEndTakeEffect_resume_2 : State × Requester × (Fin 16) :=
  let s : State := State.reset
  let p : Fin 16 := 1
  let b : Fin 2 := 1
  let rq : Requester := .pf0
  let s : State := ((s.sf F.PART_STATE_STATE p stFrozen).sf F.TRC_REPLAY_STAT_RESTORING p 0).setFz p (({} : FrzPart).setCtl b { items := [(8,0),(9,0),(1,4)] })
  (s, rq, p)
theorem witness_StopResumeAndEndTakeEffect_resume_2 : ∃ (s : State) (rq : Requester) (p : Fin 16), partOk rq p s = true ∧
    s.pst p = stFrozen ∧ s.flag F.TRC_REPLAY_STAT_RESTORING p = false ∧ marchOn p s = false :=
  ⟨wit_StopResumeAndEndTakeEffect_resume_2.1, wit_StopResumeAndEndTakeEffect_resume_2.2.1,
      wit_StopResumeAndEndTakeEffect_resume_2.2.2, by decide +kernel⟩

def wit_StopResumeAndEndTakeEffect_freezeNow : State × Requester × (Fin 16) :=
  let s : State := State.reset
  let p : Fin 16 := 1
  let z : Bool := true
  let rq : Requester := .monitor
  let s : State := ((s.sf F.PART_STATE_STATE p (if z then stRunning else stFrozen)).sf F.TRC_REPLAY_STAT_RESTORING p 0).setFz p {}
      |> fun (s : State) => s.setReg .PART_FRZ_STATUS p 0
  (s, rq, p)
theorem witness_StopResumeAndEndTakeEffect_freezeNow : ∃ (s : State) (rq : Requester) (p : Fin 16), rq = .monitor ∧ s.live p = true ∧
    s.flag F.TRC_REPLAY_STAT_RESTORING p = false ∧ s.hasCause p 8 = false ∧ (∀ q ∈ ((s.fz p).ctl (s.leadBase p)).raised,
    q.cause ≠ 8) :=
  ⟨wit_StopResumeAndEndTakeEffect_freezeNow.1, wit_StopResumeAndEndTakeEffect_freezeNow.2.1,
      wit_StopResumeAndEndTakeEffect_freezeNow.2.2, by decide +kernel⟩

def wit_StopResumeAndEndTakeEffect_capture : State × Requester × (Fin 16) :=
  let s : State := State.reset
  let p : Fin 16 := 1
  let z : Fin 3 := 1
  let rq : Requester := .pf0
  let s : State := (((s.sf F.PART_STATE_STATE p (4 + z.val)).sf F.TRC_REPLAY_STAT_RESTORING p 0).sf F.PART_STATE_CAPTURE_PEND p 0).sf F.GLB_LCS_STATE 0 0 |> fun (s : State) => (((s.resetAll .CLS_SEQ_STATUS).sf F.TRC_SNAP_STAT_SLOTS p 2).sf F.TRC_AREA_COUNT (4 * p.val + 1) 5).sf F.TRC_AREA_COUNT (4 * p.val + 2) 5
  (s, rq, p)
theorem witness_StopResumeAndEndTakeEffect_capture : ∃ (s : State) (rq : Requester) (p : Fin 16), partOk rq p s = true ∧
    sealedOut p s = false ∧ (s.live p = true ∨ s.pst p = stHalted) ∧ s.flag F.TRC_REPLAY_STAT_RESTORING p = false ∧
    s.gf F.TRC_SNAP_STAT_SLOTS p ≠ 0 ∧ s.gf F.TRC_AREA_COUNT (4 * p.val + 1) ≠ 0 ∧ s.gf F.TRC_AREA_COUNT (4 * p.val + 2) ≠ 0 ∧
    s.flag F.PART_STATE_CAPTURE_PEND p = false :=
  ⟨wit_StopResumeAndEndTakeEffect_capture.1, wit_StopResumeAndEndTakeEffect_capture.2.1, wit_StopResumeAndEndTakeEffect_capture.2.2,
      by decide +kernel⟩

def wit_StopResumeAndEndTakeEffect_rewind : State × Requester × (Fin 16) × (BitVec 16) × Nat :=
  let s : State := State.reset
  let p : Fin 16 := 1
  let rq : Requester := .pf0
  let arg : BitVec 16 := 0x8000
  let s : State := ((((s.sf F.PART_STATE_STATE p stHalted).sf F.TRC_REPLAY_STAT_RESTORING p 0).sf F.GLB_LCS_STATE 0 0).sf F.TRC_SNAP_STAT_DRAINING p 0).sf F.TRC_SNAP_STAT_VALID p 1 |> fun (s : State) => (((s.sf F.TRC_SNAP_STAT_SLOTS p 2).sf F.PART_STATE_SLOT p 0).setPart p {}).modTrec p fun r => { r with snaps := [(0, {})] }
  let k : Nat := 0
  (s, rq, p, arg, k)
theorem witness_StopResumeAndEndTakeEffect_rewind : ∃ (s : State) (rq : Requester) (p : Fin 16) (arg : BitVec 16) (k : Nat),
    partOk rq p s = true ∧ sealedOut p s = false ∧ s.pst p = stHalted ∧ s.flag F.TRC_REPLAY_STAT_RESTORING p = false ∧
    s.flag F.TRC_SNAP_STAT_DRAINING p = false ∧ marchOn p s = false ∧ rewindSlot p arg.toNat s = some k ∧
    sameImage p ((s.trec p).snap k) s = true :=
  ⟨wit_StopResumeAndEndTakeEffect_rewind.1, wit_StopResumeAndEndTakeEffect_rewind.2.1, wit_StopResumeAndEndTakeEffect_rewind.2.2.1,
      wit_StopResumeAndEndTakeEffect_rewind.2.2.2.1, wit_StopResumeAndEndTakeEffect_rewind.2.2.2.2, by decide +kernel⟩

def wit_StopResumeAndEndTakeEffect_abort : State × Requester × (Fin 16) :=
  let s : State := State.reset
  let p : Fin 16 := 1
  let rq : Requester := .pf0
  let s : State := (s.resetAll .CLS_SEQ_STATUS).sf F.PART_STATE_STATE p stFenced
  (s, rq, p)
theorem witness_StopResumeAndEndTakeEffect_abort : ∃ (s : State) (rq : Requester) (p : Fin 16), partOk rq p s = true ∧
    s.pst p ≠ stEmpty :=
  ⟨wit_StopResumeAndEndTakeEffect_abort.1, wit_StopResumeAndEndTakeEffect_abort.2.1, wit_StopResumeAndEndTakeEffect_abort.2.2,
      by decide +kernel⟩

def wit_StopResumeAndEndTakeEffect_unload : State × Requester × (Fin 16) :=
  let s : State := State.reset
  let p : Fin 16 := 1
  let rq : Requester := .pf0
  let s : State := ((s.resetAll .CLS_SEQ_STATUS).sf F.PART_STATE_STATE p stLoaded).sf F.TRC_REPLAY_STAT_RESTORING p 0
  (s, rq, p)
theorem witness_StopResumeAndEndTakeEffect_unload : ∃ (s : State) (rq : Requester) (p : Fin 16), partOk rq p s = true ∧
    s.pst p ∈ [stLoaded, stArmed, stHalted, stFenced] ∧ s.flag F.TRC_REPLAY_STAT_RESTORING p = false :=
  ⟨wit_StopResumeAndEndTakeEffect_unload.1, wit_StopResumeAndEndTakeEffect_unload.2.1, wit_StopResumeAndEndTakeEffect_unload.2.2,
      by decide +kernel⟩

def wit_SettingsAndFaultLogWritesTakeEffect_partCommit : State × Requester × (Fin 16) :=
  let s : State := State.reset
  let p : Fin 16 := 1
  let z : Bool := true
  let rq : Requester := .pf0
  let s : State := (s.sf F.PART_STATE_STATE p (if z then stRunning else stFrozen)).sf F.TRC_REPLAY_STAT_RESTORING p 0
  (s, rq, p)
theorem witness_SettingsAndFaultLogWritesTakeEffect_partCommit : ∃ (s : State) (rq : Requester) (p : Fin 16), partOk rq p s = true ∧
    s.live p = true ∧ s.flag F.TRC_REPLAY_STAT_RESTORING p = false :=
  ⟨wit_SettingsAndFaultLogWritesTakeEffect_partCommit.1, wit_SettingsAndFaultLogWritesTakeEffect_partCommit.2.1,
      wit_SettingsAndFaultLogWritesTakeEffect_partCommit.2.2, by decide +kernel⟩

def wit_SettingsAndFaultLogWritesTakeEffect_partCommit_2 : State × Requester × (Fin 16) :=
  let s : State := State.reset
  let p : Fin 16 := 1
  let z : Fin 3 := 1
  let rq : Requester := .pf0
  let s : State := ((s.sf F.PART_STATE_STATE p ([stLoaded, stArmed,
      stHalted].getD z.val 2)).setReg .TRC_REPLAY_STAT p 0).sf F.PART_STATE_STBY_READY p 1
      |> fun (s : State) => (s.resetAll .CLS_SEQ_STATUS).sf F.PART_TEMPO_NEXT_SRC p 1
  (s, rq, p)
theorem witness_SettingsAndFaultLogWritesTakeEffect_partCommit_2 : ∃ (s : State) (rq : Requester) (p : Fin 16),
    partOk rq p s = true ∧ s.pst p ∈ [stLoaded, stArmed, stHalted] ∧ s.flag F.TRC_REPLAY_STAT_RESTORING p = false ∧
    s.flag F.TRC_REPLAY_STAT_ACTIVE p = false ∧ s.flag F.PART_STATE_STBY_READY p = true ∧
    (s.gf F.PART_TEMPO_NEXT_SRC p ≠ 3 ∨ s.gf F.PART_TEMPO_NEXT_SEL p ∈ s.chainPorts p) :=
  ⟨wit_SettingsAndFaultLogWritesTakeEffect_partCommit_2.1, wit_SettingsAndFaultLogWritesTakeEffect_partCommit_2.2.1,
      wit_SettingsAndFaultLogWritesTakeEffect_partCommit_2.2.2, by decide +kernel⟩

def wit_SettingsAndFaultLogWritesTakeEffect_partCommitCancel : State × Requester × (Fin 16) :=
  let s : State := State.reset
  let p : Fin 16 := 1
  let rq : Requester := .pf0
  let s : State := s.modPart p fun r => { r with commitSampled := false }
  (s, rq, p)
theorem witness_SettingsAndFaultLogWritesTakeEffect_partCommitCancel : ∃ (s : State) (rq : Requester) (p : Fin 16),
    partOk rq p s = true ∧ (s.part p).commitSampled = false :=
  ⟨wit_SettingsAndFaultLogWritesTakeEffect_partCommitCancel.1, wit_SettingsAndFaultLogWritesTakeEffect_partCommitCancel.2.1,
      wit_SettingsAndFaultLogWritesTakeEffect_partCommitCancel.2.2, by decide +kernel⟩

def wit_SettingsAndFaultLogWritesTakeEffect_faultTailWrite : State × Requester × (Fin 16) × (BitVec 32) × Nat :=
  let s : State := State.reset
  let p : Fin 16 := 1
  let v : BitVec 32 := 1
  let rq : Requester := .pf0
  let s : State := s
  let n : Nat := ((v.toNat % 64 + 64 - s.gf F.PART_FAULT_TAIL_TAIL p) % 64)
  (s, rq, p, v, n)
theorem witness_SettingsAndFaultLogWritesTakeEffect_faultTailWrite : ∃ (s : State) (rq : Requester) (p : Fin 16) (v : BitVec 32) (n : Nat), partOk rq p s = true ∧ (v.toNat % 64 + 64 - s.gf F.PART_FAULT_TAIL_TAIL p) % 64 = n :=
  ⟨wit_SettingsAndFaultLogWritesTakeEffect_faultTailWrite.1, wit_SettingsAndFaultLogWritesTakeEffect_faultTailWrite.2.1,
      wit_SettingsAndFaultLogWritesTakeEffect_faultTailWrite.2.2.1, wit_SettingsAndFaultLogWritesTakeEffect_faultTailWrite.2.2.2.1,
      wit_SettingsAndFaultLogWritesTakeEffect_faultTailWrite.2.2.2.2, by decide +kernel⟩

def wit_SubstitutionCommandsTakeEffect_subFollow : State × Requester × (Fin 256) × (BitVec 9) × (BitVec 4) :=
  let s : State := State.reset
  let n : Fin 256 := 1
  let k : BitVec 9 := 1
  let j : BitVec 4 := 1
  let rq : Requester := .proctor 0
  let s : State := (((s.sf F.PRC_PROC_STAT_STATE 0 3).sf F.CLS_SUB_STATUS_FOLLOW n 0).sf F.TRC_SNAP_STAT_DRAINING (clsPart n s) 0).sf F.CLS_BP_MAP_EPOCH (512 * n.val + k.toNat) 4 |> fun (s : State) => s.modUnit 1 (528 * s.phys n + s.spareBp n j.toNat) fun u => { u with state := uSubstitute, banned := 0 }
  (s, rq, n, k, j)
theorem witness_SubstitutionCommandsTakeEffect_subFollow : ∃ (s : State) (rq : Requester) (n : Fin 256) (k : BitVec 9) (j : BitVec 4), isActiveProctor rq s = true ∧ s.flag F.CLS_SUB_STATUS_FOLLOW n = false ∧ spareFreeBp n j.toNat s = true ∧ draining n s = false ∧ (s.unit 1 (528 * s.phys n + s.spareBp n j.toNat)).banned ≠ k.toNat + 1 ∧ roleEpoch s 1 (512 * n.val + k.toNat) < 0xFFFE ∧ lockerRoom [(1, 528 * s.phys n + s.spareBp n j.toNat), (1, 528 * s.phys n + s.physBp n k.toNat)] s = true :=
  ⟨wit_SubstitutionCommandsTakeEffect_subFollow.1, wit_SubstitutionCommandsTakeEffect_subFollow.2.1,
      wit_SubstitutionCommandsTakeEffect_subFollow.2.2.1, wit_SubstitutionCommandsTakeEffect_subFollow.2.2.2.1,
      wit_SubstitutionCommandsTakeEffect_subFollow.2.2.2.2, by decide +kernel⟩

def wit_SubstitutionCommandsTakeEffect_subCommit : State × Requester × (Fin 256) :=
  let s : State := State.reset
  let n : Fin 256 := 1
  let rq : Requester := .proctor 1
  let s : State := (((s.sf F.PRC_PROC_STAT_STATE 1 3).sf F.CLS_SUB_STATUS_FOLLOW n 1).sf F.CLS_SUB_STATUS_READY n 1)
      |> fun (s : State) => ((s.sf F.CLS_SEQ_STATUS_ASSIGNED n 1).sf F.CLS_SEQ_STATUS_PART n 5).sf F.PART_STATE_STATE 5 stRunning
  (s, rq, n)
theorem witness_SubstitutionCommandsTakeEffect_subCommit : ∃ (s : State) (rq : Requester) (n : Fin 256),
    isActiveProctor rq s = true ∧ s.flag F.CLS_SUB_STATUS_FOLLOW n = true ∧ s.flag F.CLS_SUB_STATUS_READY n = true ∧
    copiesWhole n s = false :=
  ⟨wit_SubstitutionCommandsTakeEffect_subCommit.1, wit_SubstitutionCommandsTakeEffect_subCommit.2.1,
      wit_SubstitutionCommandsTakeEffect_subCommit.2.2, by decide +kernel⟩

def wit_SubstitutionCommandsTakeEffect_subCommit_2 : State × Requester × (Fin 256) :=
  let s : State := State.reset
  let n : Fin 256 := 1
  let rq : Requester := .proctor 1
  let s : State := (((s.sf F.PRC_PROC_STAT_STATE 1 3).sf F.CLS_SUB_STATUS_FOLLOW n 1).sf F.CLS_SUB_STATUS_READY n 1)
      |> fun (s : State) => s.sf F.CLS_SEQ_STATUS_ASSIGNED n 0
  (s, rq, n)
theorem witness_SubstitutionCommandsTakeEffect_subCommit_2 : ∃ (s : State) (rq : Requester) (n : Fin 256),
    isActiveProctor rq s = true ∧ s.flag F.CLS_SUB_STATUS_FOLLOW n = true ∧ s.flag F.CLS_SUB_STATUS_READY n = true ∧
    copiesWhole n s = true ∧ s.spareBp n (s.gf F.CLS_SUB_STATUS_SPARE n) < 528 :=
  ⟨wit_SubstitutionCommandsTakeEffect_subCommit_2.1, wit_SubstitutionCommandsTakeEffect_subCommit_2.2.1,
      wit_SubstitutionCommandsTakeEffect_subCommit_2.2.2, by decide +kernel⟩

def wit_SubstitutionCommandsTakeEffect_subCancel : State × Requester × (Fin 256) :=
  let s : State := State.reset
  let n : Fin 256 := 1
  let rq : Requester := .proctor 0
  let s : State := (s.sf F.PRC_PROC_STAT_STATE 0 3).sf F.CLS_SUB_STATUS_HELD n 1
  (s, rq, n)
theorem witness_SubstitutionCommandsTakeEffect_subCancel : ∃ (s : State) (rq : Requester) (n : Fin 256),
    isActiveProctor rq s = true ∧ (s.flag F.CLS_SUB_STATUS_FOLLOW n = true ∨ s.flag F.CLS_SUB_STATUS_HELD n = true) :=
  ⟨wit_SubstitutionCommandsTakeEffect_subCancel.1, wit_SubstitutionCommandsTakeEffect_subCancel.2.1,
      wit_SubstitutionCommandsTakeEffect_subCancel.2.2, by decide +kernel⟩

def wit_SubstitutionCommandsTakeEffect_clsFollow : State × Requester × (Fin 256) × Nat :=
  let s : State := State.reset
  let n : Fin 256 := 1
  let rq : Requester := .proctor 0
  let s : State := ((((s.sf F.PRC_PROC_STAT_STATE 0 3).sf F.PRC_CLS_SUB_STAT_FOLLOW 0 0).sf F.CLS_SUB_STATUS_FOLLOW n 0).sf F.TRC_SNAP_STAT_DRAINING (clsPart n s) 0).modUnit 0 (33 * (n.val / 32) + 32) fun u => { u with state := uSubstitute, banned := 0 }
  let f : Nat := ((freeClass n s).getD 0)
  (s, rq, n, f)
theorem witness_SubstitutionCommandsTakeEffect_clsFollow : ∃ (s : State) (rq : Requester) (n : Fin 256) (f : Nat),
    isActiveProctor rq s = true ∧ s.flag F.PRC_CLS_SUB_STAT_FOLLOW 0 = false ∧ freeClass n s = some f ∧ draining n s = false ∧
    s.flag F.CLS_SUB_STATUS_FOLLOW n = false ∧ roleEpoch s 0 n < 0xFFFE ∧ lockerRoom [(0, f), (0, s.phys n)] s = true :=
  ⟨wit_SubstitutionCommandsTakeEffect_clsFollow.1, wit_SubstitutionCommandsTakeEffect_clsFollow.2.1,
      wit_SubstitutionCommandsTakeEffect_clsFollow.2.2.1, wit_SubstitutionCommandsTakeEffect_clsFollow.2.2.2, by decide +kernel⟩

def wit_SubstitutionCommandsTakeEffect_clsCommit : State × Requester × Nat :=
  let s : State := State.reset
  let m0 : Fin 256 := 1
  let rq : Requester := .proctor 0
  let s : State := ((((s.sf F.PRC_PROC_STAT_STATE 0 3).sf F.PRC_CLS_SUB_STAT_FOLLOW 0 1).sf F.PRC_CLS_SUB_STAT_READY 0 1).sf F.PRC_CLS_SUB_STAT_CLASS 0 m0) |> fun (s : State) => ((s.sf F.CLS_SEQ_STATUS_ASSIGNED m0 1).sf F.CLS_SEQ_STATUS_PART m0 5).sf F.PART_STATE_STATE 5 stRunning
  let m : Nat := (s.gf F.PRC_CLS_SUB_STAT_CLASS 0)
  (s, rq, m)
theorem witness_SubstitutionCommandsTakeEffect_clsCommit : ∃ (s : State) (rq : Requester) (m : Nat), isActiveProctor rq s = true ∧
    s.flag F.PRC_CLS_SUB_STAT_FOLLOW 0 = true ∧ s.flag F.PRC_CLS_SUB_STAT_READY 0 = true ∧ s.gf F.PRC_CLS_SUB_STAT_CLASS 0 = m ∧
    copiesWhole m s = false :=
  ⟨wit_SubstitutionCommandsTakeEffect_clsCommit.1, wit_SubstitutionCommandsTakeEffect_clsCommit.2.1,
      wit_SubstitutionCommandsTakeEffect_clsCommit.2.2, by decide +kernel⟩

def wit_SubstitutionCommandsTakeEffect_clsCommit_2 : State × Requester × Nat :=
  let s : State := State.reset
  let m0 : Fin 256 := 1
  let rq : Requester := .proctor 0
  let s : State := ((((s.sf F.PRC_PROC_STAT_STATE 0 3).sf F.PRC_CLS_SUB_STAT_FOLLOW 0 1).sf F.PRC_CLS_SUB_STAT_READY 0 1).sf F.PRC_CLS_SUB_STAT_CLASS 0 m0).sf F.CLS_SEQ_STATUS_ASSIGNED m0 0
  let m : Nat := (s.gf F.PRC_CLS_SUB_STAT_CLASS 0)
  (s, rq, m)
theorem witness_SubstitutionCommandsTakeEffect_clsCommit_2 : ∃ (s : State) (rq : Requester) (m : Nat), isActiveProctor rq s = true ∧
    s.flag F.PRC_CLS_SUB_STAT_FOLLOW 0 = true ∧ s.flag F.PRC_CLS_SUB_STAT_READY 0 = true ∧ s.gf F.PRC_CLS_SUB_STAT_CLASS 0 = m ∧
    copiesWhole m s = true :=
  ⟨wit_SubstitutionCommandsTakeEffect_clsCommit_2.1, wit_SubstitutionCommandsTakeEffect_clsCommit_2.2.1,
      wit_SubstitutionCommandsTakeEffect_clsCommit_2.2.2, by decide +kernel⟩

def wit_SubstitutionCommandsTakeEffect_clsCancel : State × Requester :=
  let s : State := State.reset
  let rq : Requester := .proctor 0
  let s : State := (s.sf F.PRC_PROC_STAT_STATE 0 3).sf F.PRC_CLS_SUB_STAT_FOLLOW 0 1
  (s, rq)
theorem witness_SubstitutionCommandsTakeEffect_clsCancel : ∃ (s : State) (rq : Requester), isActiveProctor rq s = true ∧
    (s.flag F.PRC_CLS_SUB_STAT_FOLLOW 0 = true ∨ s.flag F.PRC_CLS_SUB_STAT_HELD 0 = true) :=
  ⟨wit_SubstitutionCommandsTakeEffect_clsCancel.1, wit_SubstitutionCommandsTakeEffect_clsCancel.2, by decide +kernel⟩

def wit_SubstitutionCommandsTakeEffect_followCopyDone : State × (Fin 256) :=
  let s : State := State.reset
  let n : Fin 256 := 1
  let s : State := (s.sf F.CLS_SUB_STATUS_FOLLOW n 1).setFollow n { copying := true }
  (s, n)
theorem witness_SubstitutionCommandsTakeEffect_followCopyDone : ∃ (s : State) (n : Fin 256),
    s.flag F.CLS_SUB_STATUS_FOLLOW n = true ∧ (s.follow n).copying = true :=
  ⟨wit_SubstitutionCommandsTakeEffect_followCopyDone.1, wit_SubstitutionCommandsTakeEffect_followCopyDone.2, by decide +kernel⟩

def wit_SubstitutionCommandsTakeEffect_followCopyDone_2 : State × (Fin 256) × Nat :=
  let s : State := State.reset
  let n : Fin 256 := 1
  let s : State := { (s.sf F.PRC_CLS_SUB_STAT_FOLLOW 0 1).sf F.PRC_CLS_SUB_STAT_CLASS 0 n with rel := { s.rel with clsRec := { copying := true }, clsSub := 32 } }
  let f : Nat := ((s.clsFollower n).getD 0)
  (s, n, f)
theorem witness_SubstitutionCommandsTakeEffect_followCopyDone_2 : ∃ (s : State) (n : Fin 256) (f : Nat), s.clsFollower n = some f ∧
    s.rel.clsRec.copying = true :=
  ⟨wit_SubstitutionCommandsTakeEffect_followCopyDone_2.1, wit_SubstitutionCommandsTakeEffect_followCopyDone_2.2.1,
      wit_SubstitutionCommandsTakeEffect_followCopyDone_2.2.2, by decide +kernel⟩

def wit_FreezeCommandsTakeEffect_freezeRegistration : State × (Fin 16) × (Fin 2) × Nat × Nat × Nat :=
  let s : State := State.reset
  let p : Fin 16 := 1
  let b : Fin 2 := 1
  let cause : Nat := 1
  let src : Nat := 1
  let s : State := (s.setFz p (({} : FrzPart).setCtl b { raised := [⟨s.scc + 1, cause, src⟩] })).sf F.PART_STATE_STATE p stRunning
  let t0 : Nat := s.scc + 1
  (s, p, b, t0, cause, src)
theorem witness_FreezeCommandsTakeEffect_freezeRegistration : ∃ (s : State) (p : Fin 16) (b : Fin 2) (t0 cause src : Nat),
    s.pst p = stRunning ∧ (s.fz p).f = none ∧ (s.fz p).r = none ∧ (s.fz p).ctl b = { raised := [⟨t0, cause, src⟩] } ∧
    s.scc ≤ t0 + 2 :=
  ⟨wit_FreezeCommandsTakeEffect_freezeRegistration.1, wit_FreezeCommandsTakeEffect_freezeRegistration.2.1,
      wit_FreezeCommandsTakeEffect_freezeRegistration.2.2.1, wit_FreezeCommandsTakeEffect_freezeRegistration.2.2.2.1,
      wit_FreezeCommandsTakeEffect_freezeRegistration.2.2.2.2.1, wit_FreezeCommandsTakeEffect_freezeRegistration.2.2.2.2.2,
      by decide +kernel⟩

def wit_FreezeCommandsTakeEffect_lateItemArrival : State × (Fin 16) × (Fin 2) × (Fin 13) × (Fin 2048) :=
  let s : State := State.reset
  let p : Fin 16 := 1
  let b : Fin 2 := 1
  let cause : Fin 13 := 1
  let src : Fin 2048 := 1
  let s : State := (s.setFz p (({} : FrzPart).setCtl b { items := [(cause.val, src.val)] })).sf F.PART_STATE_STATE p stRunning
  (s, p, b, cause, src)
theorem witness_FreezeCommandsTakeEffect_lateItemArrival : ∃ (s : State) (p : Fin 16) (b : Fin 2) (cause : Fin 13) (src : Fin 2048),
    s.live p = true ∧ (cause.val, src.val) ∈ ((s.fz p).ctl b).items :=
  ⟨wit_FreezeCommandsTakeEffect_lateItemArrival.1, wit_FreezeCommandsTakeEffect_lateItemArrival.2.1,
      wit_FreezeCommandsTakeEffect_lateItemArrival.2.2.1, wit_FreezeCommandsTakeEffect_lateItemArrival.2.2.2.1,
      wit_FreezeCommandsTakeEffect_lateItemArrival.2.2.2.2, by decide +kernel⟩

def wit_FreezeCommandsTakeEffect_bridgeControlWordRx : State × (Fin 2) × (BitVec 64) × (BitVec 16) :=
  let s : State := State.reset
  let b : Fin 2 := 1
  let starts : BitVec 16 := 1
  let m : BitVec 34 := 1
  let w : BitVec 64 := let v : BitVec 64 := 1 + 4 * BitVec.ofNat 64 ((rxSeq b s + 1) % 16) + 64 * BitVec.ofNat 64 m.toNat + BitVec.ofNat 64 (starts.toNat * 2 ^ 40); v + BitVec.ofNat 64 (crc8ctl v.toNat * 2 ^ 56)
  let s : State := s
  (s, b, w, starts)
theorem witness_FreezeCommandsTakeEffect_bridgeControlWordRx : ∃ (s : State) (b : Fin 2) (w : BitVec 64) (starts : BitVec 16),
    crc8ctl w.toNat = bitsAt w.toNat 56 8 ∧ bitsAt w.toNat 0 2 = 1 ∧ rxSeq b s ≠ bitsAt w.toNat 2 4 ∧
    (rxSeq b s = 16 ∨ bitsAt w.toNat 2 4 = (rxSeq b s + 1) % 16) ∧ bitsAt w.toNat 40 16 = starts.toNat :=
  ⟨wit_FreezeCommandsTakeEffect_bridgeControlWordRx.1, wit_FreezeCommandsTakeEffect_bridgeControlWordRx.2.1,
      wit_FreezeCommandsTakeEffect_bridgeControlWordRx.2.2.1, wit_FreezeCommandsTakeEffect_bridgeControlWordRx.2.2.2,
      by decide +kernel⟩

def wit_FreezeCommandsTakeEffect_bridgeFreezeMsg : State × (BitVec 16) × (Fin 16) :=
  let s : State := State.reset
  let mask0 : BitVec 16 := 1
  let p : Fin 16 := 1
  let mask : BitVec 16 := mask0 ||| (1 <<< p.val)
  let s : State := ((((s.setFz p {}).sf F.PART_STATE_STATE p stRunning).setReg .CLS_SEQ_STATUS 3 0).sf F.CLS_SEQ_STATUS_ASSIGNED 3 1).sf F.CLS_SEQ_STATUS_PART 3 p |> fun (s : State) => ((s.setReg .CLS_SEQ_STATUS 200 0).sf F.CLS_SEQ_STATUS_ASSIGNED 200 1).sf F.CLS_SEQ_STATUS_PART 200 p
  (s, mask, p)
theorem witness_FreezeCommandsTakeEffect_bridgeFreezeMsg : ∃ (s : State) (mask : BitVec 16) (p : Fin 16), bitAt mask.toNat p = 1 ∧
    s.spans p = true ∧ s.pst p = stRunning ∧ (s.fz p).f = none :=
  ⟨wit_FreezeCommandsTakeEffect_bridgeFreezeMsg.1, wit_FreezeCommandsTakeEffect_bridgeFreezeMsg.2.1,
      wit_FreezeCommandsTakeEffect_bridgeFreezeMsg.2.2, by decide +kernel⟩

def wit_FreezeCommandsTakeEffect_bridgeClearMsg : State × (Fin 2) × (BitVec 16) × (Fin 16) :=
  let s : State := State.reset
  let mask0 : BitVec 16 := 1
  let p : Fin 16 := 1
  let b : Fin 2 := 0
  let mask : BitVec 16 := mask0 ||| (1 <<< p.val)
  let s : State := ((((s.setFz p {}).sf F.PART_STATE_STATE p stRunning).setReg .CLS_SEQ_STATUS 3 0).sf F.CLS_SEQ_STATUS_ASSIGNED 3 1).sf F.CLS_SEQ_STATUS_PART 3 p |> fun (s : State) => ((s.setReg .CLS_SEQ_STATUS 200 0).sf F.CLS_SEQ_STATUS_ASSIGNED 200 1).sf F.CLS_SEQ_STATUS_PART 200 p
  (s, b, mask, p)
theorem witness_FreezeCommandsTakeEffect_bridgeClearMsg : ∃ (s : State) (b : Fin 2) (mask : BitVec 16) (p : Fin 16),
    bitAt mask.toNat p = 1 ∧ s.spans p = true ∧ s.leadBase p = b :=
  ⟨wit_FreezeCommandsTakeEffect_bridgeClearMsg.1, wit_FreezeCommandsTakeEffect_bridgeClearMsg.2.1,
      wit_FreezeCommandsTakeEffect_bridgeClearMsg.2.2.1, wit_FreezeCommandsTakeEffect_bridgeClearMsg.2.2.2, by decide +kernel⟩

def wit_FreezeCommandsTakeEffect_bridgeResumeMsg : State × (Fin 2) × (BitVec 16) × (Fin 16) :=
  let s : State := State.reset
  let mask0 : BitVec 16 := 1
  let p : Fin 16 := 1
  let b : Fin 2 := 1
  let mask : BitVec 16 := mask0 ||| (1 <<< p.val)
  let s : State := (((s.sf F.PART_STATE_STATE p stFrozen).setReg .CLS_SEQ_STATUS 3 0).sf F.CLS_SEQ_STATUS_ASSIGNED 3 1).sf F.CLS_SEQ_STATUS_PART 3 p |> fun (s : State) => ((s.setReg .CLS_SEQ_STATUS 200 0).sf F.CLS_SEQ_STATUS_ASSIGNED 200 1).sf F.CLS_SEQ_STATUS_PART 200 p
  (s, b, mask, p)
theorem witness_FreezeCommandsTakeEffect_bridgeResumeMsg : ∃ (s : State) (b : Fin 2) (mask : BitVec 16) (p : Fin 16),
    bitAt mask.toNat p = 1 ∧ s.spans p = true ∧ b.val ≠ s.leadBase p ∧ s.pst p = stFrozen :=
  ⟨wit_FreezeCommandsTakeEffect_bridgeResumeMsg.1, wit_FreezeCommandsTakeEffect_bridgeResumeMsg.2.1,
      wit_FreezeCommandsTakeEffect_bridgeResumeMsg.2.2.1, wit_FreezeCommandsTakeEffect_bridgeResumeMsg.2.2.2, by decide +kernel⟩

def wit_LoaderCommandsTakeEffect_loaderStart : State × Requester × (Fin 4) × (BitVec 2) × (Fin 16) × Bool × (Fin 8) :=
  let s : State := State.reset
  let c : Fin 4 := 1
  let src : BitVec 2 := 1
  let p : Fin 16 := 1
  let port : Fin 8 := 1
  let rq : Requester := .pf0
  let keep : Bool := false
  let s : State := ((s.sf F.PART_STATE_STATE p stEmpty).resetAll .PART_LDR_STATUS).sf F.RST_PEND_ACTIVE 0 0
      |> fun (s : State) => ({ s with rst := {} } : State).modLk (2 * port.val) (fun r => { r with dead := false })
      |> fun (s : State) => (s.setLst (2 * port.val) lsReady).sf F.XOT_STAT_MODE port 1
  (s, rq, c, src, p, keep, port)
theorem witness_LoaderCommandsTakeEffect_loaderStart : ∃ (s : State) (rq : Requester) (c : Fin 4) (src : BitVec 2) (p : Fin 16) (keep : Bool) (port : Fin 8), loaderOk rq c p src.toNat s = true ∧ ldRunning c s = false ∧ loadLegal p s = true ∧ (∀ d ∈ List.range 4, ¬(ldRunning d s = true ∧ (s.ldc d).part = p.val)) ∧ (keep = true → s.pst p = stLoaded ∨ s.pst p = stHalted) ∧ (src.toNat = 3 → (s.lst (2 * port.val) = lsReady ∨ s.lst (2 * port.val) = lsActive) ∧ s.gf F.XOT_STAT_MODE port = 1) :=
  ⟨wit_LoaderCommandsTakeEffect_loaderStart.1, wit_LoaderCommandsTakeEffect_loaderStart.2.1,
      wit_LoaderCommandsTakeEffect_loaderStart.2.2.1, wit_LoaderCommandsTakeEffect_loaderStart.2.2.2.1,
      wit_LoaderCommandsTakeEffect_loaderStart.2.2.2.2.1, wit_LoaderCommandsTakeEffect_loaderStart.2.2.2.2.2.1,
      wit_LoaderCommandsTakeEffect_loaderStart.2.2.2.2.2.2, by decide +kernel⟩

def wit_LoaderCommandsTakeEffect_loaderCancel : State × Requester × (Fin 4) :=
  let s : State := State.reset
  let c : Fin 4 := 1
  let rq : Requester := .pf0
  let s : State := (s.resetAll .CLS_SEQ_STATUS).sf F.PART_LDR_STATUS_STATE c 1
  (s, rq, c)
theorem witness_LoaderCommandsTakeEffect_loaderCancel : ∃ (s : State) (rq : Requester) (c : Fin 4),
    loaderOk rq c (s.ldc c).part (s.ldc c).src s = true ∧ ldRunning c s = true :=
  ⟨wit_LoaderCommandsTakeEffect_loaderCancel.1, wit_LoaderCommandsTakeEffect_loaderCancel.2.1,
      wit_LoaderCommandsTakeEffect_loaderCancel.2.2, by decide +kernel⟩

def wit_LoaderCommandsTakeEffect_loadSection : State × (Fin 4) :=
  let s : State := State.reset
  let c : Fin 4 := 1
  let s : State := ((s.resetAll .CLS_SEQ_STATUS).sf F.PART_LDR_STATUS_STATE c 1).sf F.PART_LDR_STATUS_PHASE c 1
  (s, c)
theorem witness_LoaderCommandsTakeEffect_loadSection : ∃ (s : State) (c : Fin 4), ldRunning c s = true ∧ ldPhase c s ≤ 3 ∧
    ((s.ldc c).declared = true → (s.ldc c).entered = true) :=
  ⟨wit_LoaderCommandsTakeEffect_loadSection.1, wit_LoaderCommandsTakeEffect_loadSection.2, by decide +kernel⟩

def wit_LoaderCommandsTakeEffect_loadComplete : State × (Fin 4) :=
  let s : State := State.reset
  let c : Fin 4 := 1
  let s : State := (((s.resetAll .CLS_SEQ_STATUS).sf F.PART_LDR_STATUS_STATE c 1).sf F.PART_LDR_STATUS_PHASE c 5).modLdc c fun x => { x with standby := false }
  (s, c)
theorem witness_LoaderCommandsTakeEffect_loadComplete : ∃ (s : State) (c : Fin 4), ldRunning c s = true ∧ ldPhase c s = 5 ∧
    (s.ldc c).standby = false :=
  ⟨wit_LoaderCommandsTakeEffect_loadComplete.1, wit_LoaderCommandsTakeEffect_loadComplete.2, by decide +kernel⟩

def wit_LoaderCommandsTakeEffect_loadComplete_2 : State × (Fin 4) :=
  let s : State := State.reset
  let c : Fin 4 := 1
  let s : State := (((s.resetAll .CLS_SEQ_STATUS).sf F.PART_LDR_STATUS_STATE c 1).sf F.PART_LDR_STATUS_PHASE c 5).modLdc c fun x => { x with standby := true }
  (s, c)
theorem witness_LoaderCommandsTakeEffect_loadComplete_2 : ∃ (s : State) (c : Fin 4), ldRunning c s = true ∧ ldPhase c s = 5 ∧
    (s.ldc c).standby = true :=
  ⟨wit_LoaderCommandsTakeEffect_loadComplete_2.1, wit_LoaderCommandsTakeEffect_loadComplete_2.2, by decide +kernel⟩

def wit_LoaderCommandsTakeEffect_loadTimeout : State × (Fin 4) :=
  let s : State := State.reset
  let c : Fin 4 := 1
  let s : State := ((s.resetAll .CLS_SEQ_STATUS).sf F.PART_LDR_STATUS_STATE c 1).sf F.PART_LDR_STATUS_PHASE c 2
  (s, c)
theorem witness_LoaderCommandsTakeEffect_loadTimeout : ∃ (s : State) (c : Fin 4), ldRunning c s = true ∧ ldPhase c s ≤ 3 :=
  ⟨wit_LoaderCommandsTakeEffect_loadTimeout.1, wit_LoaderCommandsTakeEffect_loadTimeout.2, by decide +kernel⟩

def wit_StepClockCommandsTakeEffect_stepClockChange : State :=
  let s : State := State.reset
  let s : State := { (s.sf F.GLB_STEP_FREQ_PENDING 0 1).sf F.RST_PWR_STAT_STATE 0 0 with clk := { s.clk with locked := true, want := 200 } } |> fun (s : State) => s.resetAll .PART_STATE
  (s)
theorem witness_StepClockCommandsTakeEffect_stepClockChange : ∃ (s : State), s.flag F.GLB_STEP_FREQ_PENDING 0 = true ∧
    s.clk.locked = true ∧ clockBoundary s = true ∧ s.gf F.RST_PWR_STAT_STATE 0 ≠ 2 ∧ s.clk.want < 512 :=
  ⟨wit_StepClockCommandsTakeEffect_stepClockChange, by decide +kernel⟩

def wit_StepClockCommandsTakeEffect_clkchgWindowExpiry : State × (Fin 16) :=
  let s : State := State.reset
  let p : Fin 16 := 1
  let s : State := { s.sf F.GLB_STEP_FREQ_PENDING 0 1 with clk := { s.clk with locked := true, since := s.scc } }
      |> fun (s : State) => (((s.sf F.PART_STATE_STATE p stRunning).sf F.PART_STATE_IN_GAP p 0).sf F.PART_STATE_WAITING p 0).sf F.PART_STATE_STEP p 3 |> fun (s : State) => s.sf F.PART_CFG_IMG_DEPTH p 100
  (s, p)
theorem witness_StepClockCommandsTakeEffect_clkchgWindowExpiry : ∃ (s : State) (p : Fin 16),
    s.flag F.GLB_STEP_FREQ_PENDING 0 = true ∧ s.clk.locked = true ∧ s.scc ≤ s.clk.since + 65536 ∧ atClockGap p s = false :=
  ⟨wit_StepClockCommandsTakeEffect_clkchgWindowExpiry.1, wit_StepClockCommandsTakeEffect_clkchgWindowExpiry.2, by decide +kernel⟩

def wit_StepClockCommandsTakeEffect_stepPllLock : State :=
  let s : State := State.reset
  let s : State := { s.sf F.GLB_STEP_FREQ_PENDING 0 1 with clk := { s.clk with locked := false } }
  (s)
theorem witness_StepClockCommandsTakeEffect_stepPllLock : ∃ (s : State), s.flag F.GLB_STEP_FREQ_PENDING 0 = true ∧
    s.clk.locked = false :=
  ⟨wit_StepClockCommandsTakeEffect_stepPllLock, by decide +kernel⟩

def wit_StepClockCommandsTakeEffect_glbStepTargetWrite : State × Requester :=
  let s : State := State.reset
  let rq : Requester := .pf0
  let s : State := s
  (s, rq)
theorem witness_StepClockCommandsTakeEffect_glbStepTargetWrite : ∃ (s : State) (rq : Requester), adminOk rq s = true :=
  ⟨wit_StepClockCommandsTakeEffect_glbStepTargetWrite.1, wit_StepClockCommandsTakeEffect_glbStepTargetWrite.2, by decide +kernel⟩

def wit_LinkStateCommandsTakeEffect_linkEnable : State × Requester × (Fin 68) :=
  let s : State := State.reset
  let l : Fin 68 := 1
  let c : Fin 64 := 1
  let rq : Requester := .core c .machine
  let s : State := s.setLst l lsOff
  (s, rq, l)
theorem witness_LinkStateCommandsTakeEffect_linkEnable : ∃ (s : State) (rq : Requester) (l : Fin 68), linkOk rq l s = true ∧
    s.lst l = lsOff :=
  ⟨wit_LinkStateCommandsTakeEffect_linkEnable.1, wit_LinkStateCommandsTakeEffect_linkEnable.2.1,
      wit_LinkStateCommandsTakeEffect_linkEnable.2.2, by decide +kernel⟩

def wit_LinkStateCommandsTakeEffect_linkDisable : State × Requester × (Fin 68) :=
  let s : State := State.reset
  let c : Fin 64 := 1
  let l0 : Nat := 1
  let rq : Requester := .core c .machine
  let l : Fin 68 := Fin.ofNat 68 (l0 % 64)
  let s : State := s.setLst l lsFailed
  (s, rq, l)
theorem witness_LinkStateCommandsTakeEffect_linkDisable : ∃ (s : State) (rq : Requester) (l : Fin 68), linkOk rq l s = true ∧
    (s.lst l = lsReady ∨ s.lst l = lsNap ∨ s.lst l = lsRecess ∨ s.lst l = lsFailed) ∧ l.val < 64 :=
  ⟨wit_LinkStateCommandsTakeEffect_linkDisable.1, wit_LinkStateCommandsTakeEffect_linkDisable.2.1,
      wit_LinkStateCommandsTakeEffect_linkDisable.2.2, by decide +kernel⟩

def wit_LinkStateCommandsTakeEffect_linkRetrain : State × Requester × (Fin 68) :=
  let s : State := State.reset
  let l : Fin 68 := 1
  let c : Fin 64 := 1
  let rq : Requester := .core c .machine
  let s : State := s.setLst l lsActive
  (s, rq, l)
theorem witness_LinkStateCommandsTakeEffect_linkRetrain : ∃ (s : State) (rq : Requester) (l : Fin 68), linkOk rq l s = true ∧
    (s.lst l = lsReady ∨ s.lst l = lsActive ∨ s.lst l = lsFailed) :=
  ⟨wit_LinkStateCommandsTakeEffect_linkRetrain.1, wit_LinkStateCommandsTakeEffect_linkRetrain.2.1,
      wit_LinkStateCommandsTakeEffect_linkRetrain.2.2, by decide +kernel⟩

def wit_LinkStateCommandsTakeEffect_linkNap : State × Requester × (Fin 68) :=
  let s : State := State.reset
  let c : Fin 64 := 1
  let l0 : Nat := 1
  let rq : Requester := .core c .machine
  let l : Fin 68 := Fin.ofNat 68 (l0 % 64)
  let s : State := (s.setLst l lsReady).resetAll .PART_STATE
  (s, rq, l)
theorem witness_LinkStateCommandsTakeEffect_linkNap : ∃ (s : State) (rq : Requester) (l : Fin 68), linkOk rq l s = true ∧
    s.lst l = lsReady ∧ linkInUse l s = false :=
  ⟨wit_LinkStateCommandsTakeEffect_linkNap.1, wit_LinkStateCommandsTakeEffect_linkNap.2.1,
      wit_LinkStateCommandsTakeEffect_linkNap.2.2, by decide +kernel⟩

def wit_LinkStateCommandsTakeEffect_linkRecess : State × Requester × (Fin 68) :=
  let s : State := State.reset
  let c : Fin 64 := 1
  let l0 : Nat := 1
  let rq : Requester := .core c .machine
  let l : Fin 68 := Fin.ofNat 68 (l0 % 64)
  let s : State := (s.setLst l lsNap).resetAll .PART_STATE
  (s, rq, l)
theorem witness_LinkStateCommandsTakeEffect_linkRecess : ∃ (s : State) (rq : Requester) (l : Fin 68), linkOk rq l s = true ∧
    (s.lst l = lsReady ∨ s.lst l = lsNap) ∧ linkInUse l s = false :=
  ⟨wit_LinkStateCommandsTakeEffect_linkRecess.1, wit_LinkStateCommandsTakeEffect_linkRecess.2.1,
      wit_LinkStateCommandsTakeEffect_linkRecess.2.2, by decide +kernel⟩

def wit_LinkStateCommandsTakeEffect_linkWake : State × Requester × (Fin 68) :=
  let s : State := State.reset
  let l : Fin 68 := 1
  let c : Fin 64 := 1
  let z : Bool := true
  let rq : Requester := .core c .machine
  let s : State := s.setLst l (if z then lsNap else lsRecess)
  (s, rq, l)
theorem witness_LinkStateCommandsTakeEffect_linkWake : ∃ (s : State) (rq : Requester) (l : Fin 68), linkOk rq l s = true ∧
    (s.lst l = lsNap ∨ s.lst l = lsRecess) :=
  ⟨wit_LinkStateCommandsTakeEffect_linkWake.1, wit_LinkStateCommandsTakeEffect_linkWake.2.1,
      wit_LinkStateCommandsTakeEffect_linkWake.2.2, by decide +kernel⟩

def wit_LinkStateCommandsTakeEffect_loopback : State × Requester × (Fin 68) × (BitVec 4) × Bool :=
  let s : State := State.reset
  let kind : BitVec 4 := 1
  let c : Fin 64 := 1
  let l0 : Nat := 1
  let rq : Requester := .core c .machine
  let l : Fin 68 := Fin.ofNat 68 (l0 % 64)
  let consent : Bool := true
  let s : State := (s.setLst l lsReady).resetAll .PART_STATE
  (s, rq, l, kind, consent)
theorem witness_LinkStateCommandsTakeEffect_loopback : ∃ (s : State) (rq : Requester) (l : Fin 68) (kind : BitVec 4) (consent : Bool), linkOk rq l s = true ∧ s.lst l = lsReady ∧ linkInUse l s = false ∧ (kind.toNat = 3 → consent = true) :=
  ⟨wit_LinkStateCommandsTakeEffect_loopback.1, wit_LinkStateCommandsTakeEffect_loopback.2.1,
      wit_LinkStateCommandsTakeEffect_loopback.2.2.1, wit_LinkStateCommandsTakeEffect_loopback.2.2.2.1,
      wit_LinkStateCommandsTakeEffect_loopback.2.2.2.2, by decide +kernel⟩

def wit_LinkStateCommandsTakeEffect_lbEnd : State × Requester × (Fin 68) :=
  let s : State := State.reset
  let l : Fin 68 := 1
  let c : Fin 64 := 1
  let rq : Requester := .core c .machine
  let s : State := s.setLst l lsLoopback
  (s, rq, l)
theorem witness_LinkStateCommandsTakeEffect_lbEnd : ∃ (s : State) (rq : Requester) (l : Fin 68), linkOk rq l s = true ∧
    s.lst l = lsLoopback :=
  ⟨wit_LinkStateCommandsTakeEffect_lbEnd.1, wit_LinkStateCommandsTakeEffect_lbEnd.2.1, wit_LinkStateCommandsTakeEffect_lbEnd.2.2,
      by decide +kernel⟩

def wit_LinkStateCommandsTakeEffect_linkSpareCmd : State × Requester × (Fin 68) × (BitVec 8) :=
  let s : State := State.reset
  let l : Fin 68 := 1
  let c : Fin 64 := 1
  let rq : Requester := .core c .machine
  let lane : BitVec 8 := 5
  let s : State := (((s.setLst l lsReady).sf F.LNK_LANE_STATE (laneIdx l 16) 0).sf F.LNK_LANE_LOCK (laneIdx l 16) 1).sf F.LNK_LANE_STATE (laneIdx l 5) 1 |> fun (s : State) => s.modLk l fun r => { r with spareOver := none, lost := [] }
  (s, rq, l, lane)
theorem witness_LinkStateCommandsTakeEffect_linkSpareCmd : ∃ (s : State) (rq : Requester) (l : Fin 68) (lane : BitVec 8),
    linkOk rq l s = true ∧ (s.lst l = lsReady ∨ s.lst l = lsActive) ∧ spareFree l s = true ∧ laneHolds l lane.toNat s = true ∧
    lane.toNat < 16 ∧ (s.lk l).spareOver = none ∧ (∀ e ∈ (s.lk l).lost, e.2 = false) :=
  ⟨wit_LinkStateCommandsTakeEffect_linkSpareCmd.1, wit_LinkStateCommandsTakeEffect_linkSpareCmd.2.1,
      wit_LinkStateCommandsTakeEffect_linkSpareCmd.2.2.1, wit_LinkStateCommandsTakeEffect_linkSpareCmd.2.2.2, by decide +kernel⟩

def wit_LinkStateCommandsTakeEffect_napIdleTimeout : State × (Fin 68) :=
  let s : State := State.reset
  let l0 : Nat := 1
  let l : Fin 68 := Fin.ofNat 68 (l0 % 48 + 16)
  let s : State := (s.setLst l lsReady).resetAll .PART_STATE
  (s, l)
theorem witness_LinkStateCommandsTakeEffect_napIdleTimeout : ∃ (s : State) (l : Fin 68), s.lst l = lsReady ∧ linkInUse l s = false ∧
    l.val < 64 ∧ (16 ≤ l.val ∨ (s.flag F.LNK_CFG_NAP_EN l = true ∧ s.portOwner (l.val / 2) = 0)) :=
  ⟨wit_LinkStateCommandsTakeEffect_napIdleTimeout.1, wit_LinkStateCommandsTakeEffect_napIdleTimeout.2, by decide +kernel⟩

def wit_LinkStateCommandsTakeEffect_napExitDone : State × (Fin 68) × (BitVec 17) :=
  let s : State := State.reset
  let l : Fin 68 := 1
  let seen : BitVec 17 := 0x1FFFF
  let s : State := (s.setLst l lsNap).modLk l fun r => { r with waking := true }
  (s, l, seen)
theorem witness_LinkStateCommandsTakeEffect_napExitDone : ∃ (s : State) (l : Fin 68) (seen : BitVec 17), s.lst l = lsNap ∧
    (s.lk l).waking = true ∧ (∀ n ∈ List.range 17, (laneHolds l n s = true ∨ n = 16) → bitAt seen.toNat n ≠ 0) :=
  ⟨wit_LinkStateCommandsTakeEffect_napExitDone.1, wit_LinkStateCommandsTakeEffect_napExitDone.2.1,
      wit_LinkStateCommandsTakeEffect_napExitDone.2.2, by decide +kernel⟩

def wit_LinkStateCommandsTakeEffect_napExitDone_2 : State × (Fin 68) × (BitVec 17) × (Fin 17) :=
  let s : State := State.reset
  let l : Fin 68 := 1
  let seen : BitVec 17 := 0
  let n : Fin 17 := 16
  let s : State := (s.setLst l lsNap).modLk l fun r => { r with waking := true }
  (s, l, seen, n)
theorem witness_LinkStateCommandsTakeEffect_napExitDone_2 : ∃ (s : State) (l : Fin 68) (seen : BitVec 17) (n : Fin 17),
    s.lst l = lsNap ∧ (s.lk l).waking = true ∧ (laneHolds l n s = true ∨ n = 16) ∧ bitAt seen.toNat n = 0 :=
  ⟨wit_LinkStateCommandsTakeEffect_napExitDone_2.1, wit_LinkStateCommandsTakeEffect_napExitDone_2.2.1,
      wit_LinkStateCommandsTakeEffect_napExitDone_2.2.2.1, wit_LinkStateCommandsTakeEffect_napExitDone_2.2.2.2, by decide +kernel⟩

def wit_LaneEventsTakeEffect_laneLossOfLock : State × (Fin 68) × (Fin 17) :=
  let s : State := State.reset
  let l : Fin 68 := 1
  let n : Fin 17 := 1
  let z : Bool := true
  let s : State := (s.setLst l (if z then lsReady else lsActive)).sf F.LNK_LANE_STATE (laneIdx l n) 1
  (s, l, n)
theorem witness_LaneEventsTakeEffect_laneLossOfLock : ∃ (s : State) (l : Fin 68) (n : Fin 17),
    (s.lst l = lsReady ∨ s.lst l = lsActive) ∧ laneHolds l n s = true :=
  ⟨wit_LaneEventsTakeEffect_laneLossOfLock.1, wit_LaneEventsTakeEffect_laneLossOfLock.2.1,
      wit_LaneEventsTakeEffect_laneLossOfLock.2.2, by decide +kernel⟩

def wit_LaneEventsTakeEffect_linkRemap : State × (Fin 68) × Nat × Bool × (List (Nat × Bool)) :=
  let s : State := State.reset
  let l : Fin 68 := 1
  let spare : Bool := true
  let rest : List (Nat × Bool) := []
  let n : Nat := 3
  let s : State := s.modLk l fun r => { r with lost := (3, spare) :: rest }
  (s, l, n, spare, rest)
theorem witness_LaneEventsTakeEffect_linkRemap : ∃ (s : State) (l : Fin 68) (n : Nat) (spare : Bool) (rest : List (Nat × Bool)),
    (s.lk l).lost = (n, spare) :: rest :=
  ⟨wit_LaneEventsTakeEffect_linkRemap.1, wit_LaneEventsTakeEffect_linkRemap.2.1, wit_LaneEventsTakeEffect_linkRemap.2.2.1,
      wit_LaneEventsTakeEffect_linkRemap.2.2.2.1, wit_LaneEventsTakeEffect_linkRemap.2.2.2.2, by decide +kernel⟩

def wit_LaneEventsTakeEffect_am : State × (Fin 68) :=
  let s : State := State.reset
  let l : Fin 68 := 1
  let s : State := s.modLk l fun r => { r with dead := false }
  (s, l)
theorem witness_LaneEventsTakeEffect_am : ∃ (s : State) (l : Fin 68), (s.lk l).dead = false :=
  ⟨wit_LaneEventsTakeEffect_am.1, wit_LaneEventsTakeEffect_am.2, by decide +kernel⟩

def wit_TrainingAndReplayTakeEffect_trainingPhaseDone : State × (Fin 68) × Nat :=
  let s : State := State.reset
  let l : Fin 68 := 1
  let z : Fin 4 := 1
  let s : State := (s.setLst l lsTraining).sf F.LNK_STAT_PHASE l (z.val + 1)
  let ph : Nat := (s.gf F.LNK_STAT_PHASE l)
  (s, l, ph)
theorem witness_TrainingAndReplayTakeEffect_trainingPhaseDone : ∃ (s : State) (l : Fin 68) (ph : Nat), s.lst l = lsTraining ∧
    s.gf F.LNK_STAT_PHASE l = ph ∧ 1 ≤ ph ∧ ph ≤ 4 :=
  ⟨wit_TrainingAndReplayTakeEffect_trainingPhaseDone.1, wit_TrainingAndReplayTakeEffect_trainingPhaseDone.2.1,
      wit_TrainingAndReplayTakeEffect_trainingPhaseDone.2.2, by decide +kernel⟩

def wit_TrainingAndReplayTakeEffect_trainingPhaseDone_2 : State × (Fin 68) :=
  let s : State := State.reset
  let l : Fin 68 := 1
  let s : State := (s.setLst l lsTraining).sf F.LNK_STAT_PHASE l (if l.val < 16 then 6 else 5)
  (s, l)
theorem witness_TrainingAndReplayTakeEffect_trainingPhaseDone_2 : ∃ (s : State) (l : Fin 68), s.lst l = lsTraining ∧
    (s.gf F.LNK_STAT_PHASE l = 6 ∨ (s.gf F.LNK_STAT_PHASE l = 5 ∧ 16 ≤ l.val)) :=
  ⟨wit_TrainingAndReplayTakeEffect_trainingPhaseDone_2.1, wit_TrainingAndReplayTakeEffect_trainingPhaseDone_2.2, by decide +kernel⟩

def wit_TrainingAndReplayTakeEffect_trainingTimeout : State × (Fin 68) :=
  let s : State := State.reset
  let l : Fin 68 := 1
  let s : State := s.setLst l lsTraining
  (s, l)
theorem witness_TrainingAndReplayTakeEffect_trainingTimeout : ∃ (s : State) (l : Fin 68), s.lst l = lsTraining :=
  ⟨wit_TrainingAndReplayTakeEffect_trainingTimeout.1, wit_TrainingAndReplayTakeEffect_trainingTimeout.2, by decide +kernel⟩

def wit_TrainingAndReplayTakeEffect_crcBlock : State × (Fin 68) × (BitVec 12) :=
  let s : State := State.reset
  let l : Fin 68 := 1
  let group : BitVec 12 := 1
  let z : Bool := true
  let s : State := s.modLk l fun r => { r with dead := false, await := if z then none else some group.toNat }
  (s, l, group)
theorem witness_TrainingAndReplayTakeEffect_crcBlock : ∃ (s : State) (l : Fin 68) (group : BitVec 12), (s.lk l).dead = false ∧
    ((s.lk l).await = none ∨ (s.lk l).await = some group.toNat) :=
  ⟨wit_TrainingAndReplayTakeEffect_crcBlock.1, wit_TrainingAndReplayTakeEffect_crcBlock.2.1,
      wit_TrainingAndReplayTakeEffect_crcBlock.2.2, by decide +kernel⟩

def wit_TrainingAndReplayTakeEffect_crcBlock_2 : State × (Fin 68) :=
  let s : State := State.reset
  let l : Fin 68 := 1
  let s : State := s.modLk l fun r => { r with dead := false, await := none }
  (s, l)
theorem witness_TrainingAndReplayTakeEffect_crcBlock_2 : ∃ (s : State) (l : Fin 68), (s.lk l).dead = false ∧ (s.lk l).await = none :=
  ⟨wit_TrainingAndReplayTakeEffect_crcBlock_2.1, wit_TrainingAndReplayTakeEffect_crcBlock_2.2, by decide +kernel⟩

def wit_TrainingAndReplayTakeEffect_replay : State × (Fin 68) × (BitVec 12) × Nat :=
  let s : State := State.reset
  let l : Fin 68 := 1
  let group : BitVec 12 := 1
  let k : Fin 128 := 1
  let s : State := (s.modLk (revLink l) fun r => { r with dead := false }).modLk l fun r => { r with asks := 3, txGroup := (group.toNat + k.val + 1) % 4096 }
  let back : Nat := (((s.lk l).txGroup + 4096 - group.toNat) % 4096)
  (s, l, group, back)
theorem witness_TrainingAndReplayTakeEffect_replay : ∃ (s : State) (l : Fin 68) (group : BitVec 12) (back : Nat),
    (s.lk (revLink l)).dead = false ∧ (s.lk l).asks < 8 ∧ ((s.lk l).txGroup + 4096 - group.toNat) % 4096 = back ∧ 1 ≤ back ∧
    back ≤ 128 :=
  ⟨wit_TrainingAndReplayTakeEffect_replay.1, wit_TrainingAndReplayTakeEffect_replay.2.1,
      wit_TrainingAndReplayTakeEffect_replay.2.2.1, wit_TrainingAndReplayTakeEffect_replay.2.2.2, by decide +kernel⟩

def wit_TrainingAndReplayTakeEffect_replayTimeout : State × (Fin 68) :=
  let s : State := State.reset
  let l : Fin 68 := 1
  let s : State := (s.setLst l lsReady).modLk l fun r => { r with await := some 5 }
  (s, l)
theorem witness_TrainingAndReplayTakeEffect_replayTimeout : ∃ (s : State) (l : Fin 68), (s.lk l).await.isSome = true :=
  ⟨wit_TrainingAndReplayTakeEffect_replayTimeout.1, wit_TrainingAndReplayTakeEffect_replayTimeout.2, by decide +kernel⟩

def wit_TrainingAndReplayTakeEffect_checkFrame : (BitVec 12) × (Fin 12) :=
  let bad0 : BitVec 12 := 1
  let j : Fin 12 := 1
  let bad : BitVec 12 := bad0 ||| (1 <<< j.val)
  (bad, j)
theorem witness_TrainingAndReplayTakeEffect_checkFrame : ∃ (bad : BitVec 12) (j : Fin 12), bitAt bad.toNat j = 1 :=
  ⟨wit_TrainingAndReplayTakeEffect_checkFrame.1, wit_TrainingAndReplayTakeEffect_checkFrame.2, by decide +kernel⟩

def wit_LinkBlocksTakeEffect_linkCap : State × (Fin 68) :=
  let s : State := State.reset
  let l : Fin 68 := 1
  let s : State := s.modLk l fun r => { r with dead := false }
  (s, l)
theorem witness_LinkBlocksTakeEffect_linkCap : ∃ (s : State) (l : Fin 68), (s.lk l).dead = false :=
  ⟨wit_LinkBlocksTakeEffect_linkCap.1, wit_LinkBlocksTakeEffect_linkCap.2, by decide +kernel⟩

def wit_LinkBlocksTakeEffect_linkId : State × (Fin 68) :=
  let s : State := State.reset
  let l : Fin 68 := 1
  let s : State := s.modLk l fun r => { r with dead := false }
  (s, l)
theorem witness_LinkBlocksTakeEffect_linkId : ∃ (s : State) (l : Fin 68), (s.lk l).dead = false :=
  ⟨wit_LinkBlocksTakeEffect_linkId.1, wit_LinkBlocksTakeEffect_linkId.2, by decide +kernel⟩

def wit_LinkBlocksTakeEffect_linkEpoch : State × (Fin 8) :=
  let s : State := State.reset
  let ix : Fin 8 := 1
  let s : State := s.modLk (2 * ix.val) fun r => { r with dead := false }
  (s, ix)
theorem witness_LinkBlocksTakeEffect_linkEpoch : ∃ (s : State) (ix : Fin 8), (s.lk (2 * ix.val)).dead = false :=
  ⟨wit_LinkBlocksTakeEffect_linkEpoch.1, wit_LinkBlocksTakeEffect_linkEpoch.2, by decide +kernel⟩

def wit_LinkBlocksTakeEffect_linkDist : State × (Fin 8) :=
  let s : State := State.reset
  let ix : Fin 8 := 1
  let s : State := s.modLk (2 * ix.val) fun r => { r with dead := false }
  (s, ix)
theorem witness_LinkBlocksTakeEffect_linkDist : ∃ (s : State) (ix : Fin 8), (s.lk (2 * ix.val)).dead = false :=
  ⟨wit_LinkBlocksTakeEffect_linkDist.1, wit_LinkBlocksTakeEffect_linkDist.2, by decide +kernel⟩

def wit_LinkBlocksTakeEffect_linkDerate : State × (Fin 8) :=
  let s : State := State.reset
  let ix : Fin 8 := 1
  let s : State := s.modLk (2 * ix.val) fun r => { r with dead := false }
  (s, ix)
theorem witness_LinkBlocksTakeEffect_linkDerate : ∃ (s : State) (ix : Fin 8), (s.lk (2 * ix.val)).dead = false :=
  ⟨wit_LinkBlocksTakeEffect_linkDerate.1, wit_LinkBlocksTakeEffect_linkDerate.2, by decide +kernel⟩

def wit_LinkBlocksTakeEffect_linkSpare : State × (Fin 68) :=
  let s : State := State.reset
  let l : Fin 68 := 1
  let s : State := (s.modLk (revLink l) fun r => { r with dead := false }).modLk l fun r => { r with spareOver := none }
  (s, l)
theorem witness_LinkBlocksTakeEffect_linkSpare : ∃ (s : State) (l : Fin 68), (s.lk (revLink l)).dead = false ∧
    (s.lk l).spareOver = none :=
  ⟨wit_LinkBlocksTakeEffect_linkSpare.1, wit_LinkBlocksTakeEffect_linkSpare.2, by decide +kernel⟩

def wit_LinkBlocksTakeEffect_linkProbe : State × (Fin 68) :=
  let s : State := State.reset
  let l : Fin 68 := 1
  let s : State := s.modLk l fun r => { r with dead := false }
  (s, l)
theorem witness_LinkBlocksTakeEffect_linkProbe : ∃ (s : State) (l : Fin 68), (s.lk l).dead = false :=
  ⟨wit_LinkBlocksTakeEffect_linkProbe.1, wit_LinkBlocksTakeEffect_linkProbe.2, by decide +kernel⟩

def wit_LinkBlocksTakeEffect_linkEcho : State × (Fin 68) :=
  let s : State := State.reset
  let l : Fin 68 := 1
  let rtt : BitVec 32 := 1
  let s : State := ((s.setLst l lsTraining).sf F.LNK_STAT_PHASE l 6).modLk l fun r => { r with dead := false, rtt := r.rtt.take 4 }
  (s, l)
theorem witness_LinkBlocksTakeEffect_linkEcho : ∃ (s : State) (l : Fin 68), (s.lk l).dead = false ∧ s.lst l = lsTraining ∧
    s.gf F.LNK_STAT_PHASE l = 6 ∧ (s.lk l).rtt.length < 16 :=
  ⟨wit_LinkBlocksTakeEffect_linkEcho.1, wit_LinkBlocksTakeEffect_linkEcho.2, by decide +kernel⟩

def wit_LinkBlocksTakeEffect_linkSkip : State × (Fin 68) :=
  let s : State := State.reset
  let l : Fin 68 := 1
  let s : State := s.modLk l fun r => { r with dead := false }
  (s, l)
theorem witness_LinkBlocksTakeEffect_linkSkip : ∃ (s : State) (l : Fin 68), (s.lk l).dead = false :=
  ⟨wit_LinkBlocksTakeEffect_linkSkip.1, wit_LinkBlocksTakeEffect_linkSkip.2, by decide +kernel⟩

def wit_LinkBlocksTakeEffect_linkFcfg : State × (Fin 8) × (Fin 16) × Nat × Nat :=
  let s : State := State.reset
  let ix : Fin 8 := 1
  let p : Fin 16 := 1
  let a : Nat := 1
  let f : Nat := 1
  let s : State := ((s.sf F.XOT_STAT_OWNED ix 1).sf F.XOT_STAT_OWNER ix p).setPart p { img0 := { vecPort := [(ix.val, a, f)] }, img1 := { vecPort := [(ix.val, a, f)] } }
  (s, ix, p, a, f)
theorem witness_LinkBlocksTakeEffect_linkFcfg : ∃ (s : State) (ix : Fin 8) (p : Fin 16) (a f : Nat), s.portOwner ix = p.val + 1 ∧
    (((s.part p).img (s.slot p)).vecPort.find? (fun e => e.1 == ix.val) = some (ix.val, a, f)) :=
  ⟨wit_LinkBlocksTakeEffect_linkFcfg.1, wit_LinkBlocksTakeEffect_linkFcfg.2.1, wit_LinkBlocksTakeEffect_linkFcfg.2.2.1,
      wit_LinkBlocksTakeEffect_linkFcfg.2.2.2.1, wit_LinkBlocksTakeEffect_linkFcfg.2.2.2.2, by decide +kernel⟩

def wit_LinkBlocksTakeEffect_bulk : State × (Fin 8) :=
  let s : State := State.reset
  let ix : Fin 8 := 1
  let s : State := ((s.setLst (2 * ix.val) lsReady).sf F.XOT_STAT_MODE ix 1).sf F.XOT_STAT_OWNED ix 0
      |> fun (s : State) => s.modLk (2 * ix.val) fun r => { r with dead := false }
  (s, ix)
theorem witness_LinkBlocksTakeEffect_bulk : ∃ (s : State) (ix : Fin 8), (s.lk (2 * ix.val)).dead = false ∧
    s.lst (2 * ix.val) = lsReady ∧ s.gf F.XOT_STAT_MODE ix = 1 ∧ s.portOwner ix = 0 :=
  ⟨wit_LinkBlocksTakeEffect_bulk.1, wit_LinkBlocksTakeEffect_bulk.2, by decide +kernel⟩

def wit_ChainAndVectorFramesTakeEffect_chainBell : State × (Fin 8) × (Fin 16) × Nat :=
  let s : State := State.reset
  let ix : Fin 8 := 1
  let p : Fin 16 := 1
  let s : State := ((s.sf F.XOT_STAT_OWNED ix 1).sf F.XOT_STAT_OWNER ix p).sf F.PART_STATE_STATE p stRunning
      |> fun (s : State) => s.modLk (2 * ix.val) fun r => { r with dead := false }
  let want : Nat := (((s.lk (2 * ix.val)).rxLin.map fun lin => (lin + codeLen p s - 1) / codeLen p s).getD (s.part p).bell)
  (s, ix, p, want)
theorem witness_ChainAndVectorFramesTakeEffect_chainBell : ∃ (s : State) (ix : Fin 8) (p : Fin 16) (want : Nat),
    (s.lk (2 * ix.val)).dead = false ∧ s.portOwner ix = p.val + 1 ∧ s.live p = true ∧
    (want = ((s.lk (2 * ix.val)).rxLin.map fun lin => (lin + codeLen p s - 1) / codeLen p s).getD (s.part p).bell) :=
  ⟨wit_ChainAndVectorFramesTakeEffect_chainBell.1, wit_ChainAndVectorFramesTakeEffect_chainBell.2.1,
      wit_ChainAndVectorFramesTakeEffect_chainBell.2.2.1, wit_ChainAndVectorFramesTakeEffect_chainBell.2.2.2, by decide +kernel⟩

def wit_ChainAndVectorFramesTakeEffect_rframe : State × (Fin 8) × (BitVec 48) × (Fin 16) × Nat × Nat × (List (Nat × Nat)) :=
  let s : State := State.reset
  let ix : Fin 8 := 1
  let bell : BitVec 48 := 1
  let p : Fin 16 := 1
  let lin : Nat := 1
  let rest : List (Nat × Nat) := []
  let s : State := ((s.sf F.XOT_STAT_OWNED ix 1).sf F.XOT_STAT_OWNER ix p).setPart p { border := true }
      |> fun (s : State) => (s.sf F.TRC_REPLAY_STAT_ACTIVE p 0).modLk (2 * ix.val) fun r => { r with dead := false, sent := (bell.toNat, lin) :: rest }
  let b : Nat := bell.toNat
  (s, ix, bell, p, b, lin, rest)
theorem witness_ChainAndVectorFramesTakeEffect_rframe : ∃ (s : State) (ix : Fin 8) (bell : BitVec 48) (p : Fin 16) (b lin : Nat) (rest : List (Nat × Nat)), (s.lk (2 * ix.val)).dead = false ∧ s.portOwner ix = p.val + 1 ∧ portFenced ix s = false ∧ (s.lk (2 * ix.val)).sent = (b, lin) :: rest ∧ b % 2 ^ 48 = bell.toNat :=
  ⟨wit_ChainAndVectorFramesTakeEffect_rframe.1, wit_ChainAndVectorFramesTakeEffect_rframe.2.1,
      wit_ChainAndVectorFramesTakeEffect_rframe.2.2.1, wit_ChainAndVectorFramesTakeEffect_rframe.2.2.2.1,
      wit_ChainAndVectorFramesTakeEffect_rframe.2.2.2.2.1, wit_ChainAndVectorFramesTakeEffect_rframe.2.2.2.2.2.1,
      wit_ChainAndVectorFramesTakeEffect_rframe.2.2.2.2.2.2, by decide +kernel⟩

def wit_ChainAndVectorFramesTakeEffect_rframe_2 : State × (Fin 8) × (BitVec 48) × (Fin 16) :=
  let s : State := State.reset
  let ix : Fin 8 := 1
  let bell : BitVec 48 := 1
  let p : Fin 16 := 1
  let s : State := ((s.sf F.XOT_STAT_OWNED ix 1).sf F.XOT_STAT_OWNER ix p).setPart p { border := true }
      |> fun (s : State) => (s.sf F.TRC_REPLAY_STAT_ACTIVE p 0).modLk (2 * ix.val) fun r => { r with dead := false, sent := [] }
  (s, ix, bell, p)
theorem witness_ChainAndVectorFramesTakeEffect_rframe_2 : ∃ (s : State) (ix : Fin 8) (bell : BitVec 48) (p : Fin 16),
    (s.lk (2 * ix.val)).dead = false ∧ s.portOwner ix = p.val + 1 ∧ portFenced ix s = false ∧
    ((s.lk (2 * ix.val)).sent.head?.map (fun e => e.1 % 2 ^ 48) ≠ some bell.toNat) :=
  ⟨wit_ChainAndVectorFramesTakeEffect_rframe_2.1, wit_ChainAndVectorFramesTakeEffect_rframe_2.2.1,
      wit_ChainAndVectorFramesTakeEffect_rframe_2.2.2.1, wit_ChainAndVectorFramesTakeEffect_rframe_2.2.2.2, by decide +kernel⟩

def wit_ChainAndVectorFramesTakeEffect_chFreeze : State × (Fin 16) × (Fin 8) × (BitVec 8) × (BitVec 48) × Nat :=
  let s : State := State.reset
  let p : Fin 16 := 1
  let port : Fin 8 := 1
  let seq : BitVec 8 := 1
  let bell : BitVec 48 := 1
  let z : Bool := true
  let s : State := ((s.sf F.XOT_STAT_OWNED port 1).sf F.XOT_STAT_OWNER port p).sf F.PART_STATE_STATE p stRunning
      |> fun (s : State) => (s.modLk (2 * port.val) fun r => { r with dead := false, rxSeq := if z then 256 else (seq.toNat + 255) % 256 }).setFz p {}
  let b : Nat := (extendBell (s.part p).bell bell.toNat)
  (s, p, port, seq, bell, b)
theorem witness_ChainAndVectorFramesTakeEffect_chFreeze : ∃ (s : State) (p : Fin 16) (port : Fin 8) (seq : BitVec 8) (bell : BitVec 48) (b : Nat), (s.lk (2 * port.val)).dead = false ∧ s.portOwner port = p.val + 1 ∧ ((s.lk (2 * port.val)).rxSeq = 256 ∨ seq.toNat = ((s.lk (2 * port.val)).rxSeq + 1) % 256) ∧ (s.lk (2 * port.val)).rxSeq ≠ seq.toNat ∧ b = extendBell (s.part p).bell bell.toNat ∧ s.pst p = stRunning ∧ (s.fz p).f = none :=
  ⟨wit_ChainAndVectorFramesTakeEffect_chFreeze.1, wit_ChainAndVectorFramesTakeEffect_chFreeze.2.1,
      wit_ChainAndVectorFramesTakeEffect_chFreeze.2.2.1, wit_ChainAndVectorFramesTakeEffect_chFreeze.2.2.2.1,
      wit_ChainAndVectorFramesTakeEffect_chFreeze.2.2.2.2.1, wit_ChainAndVectorFramesTakeEffect_chFreeze.2.2.2.2.2, by decide +kernel⟩

def wit_ChainAndVectorFramesTakeEffect_chFrozen : State × (Fin 16) × (Fin 8) × (BitVec 8) :=
  let s : State := State.reset
  let p : Fin 16 := 1
  let port : Fin 8 := 1
  let seq : BitVec 8 := 1
  let s : State := (s.sf F.XOT_STAT_OWNED port 1).sf F.XOT_STAT_OWNER port p
      |> fun (s : State) => s.modLk (2 * port.val) fun r => { r with dead := false, rxSeq := 256 }
  (s, p, port, seq)
theorem witness_ChainAndVectorFramesTakeEffect_chFrozen : ∃ (s : State) (p : Fin 16) (port : Fin 8) (seq : BitVec 8),
    (s.lk (2 * port.val)).dead = false ∧ s.portOwner port = p.val + 1 ∧
    ((s.lk (2 * port.val)).rxSeq = 256 ∨ seq.toNat = ((s.lk (2 * port.val)).rxSeq + 1) % 256) ∧
    (s.lk (2 * port.val)).rxSeq ≠ seq.toNat :=
  ⟨wit_ChainAndVectorFramesTakeEffect_chFrozen.1, wit_ChainAndVectorFramesTakeEffect_chFrozen.2.1,
      wit_ChainAndVectorFramesTakeEffect_chFrozen.2.2.1, wit_ChainAndVectorFramesTakeEffect_chFrozen.2.2.2, by decide +kernel⟩

def wit_ChainAndVectorFramesTakeEffect_chClear : State × (Fin 16) × (Fin 8) × (BitVec 8) :=
  let s : State := State.reset
  let p : Fin 16 := 1
  let port : Fin 8 := 1
  let seq : BitVec 8 := 1
  let s : State := (s.sf F.XOT_STAT_OWNED port 1).sf F.XOT_STAT_OWNER port p
      |> fun (s : State) => s.modLk (2 * port.val) fun r => { r with dead := false, rxSeq := 256 }
  (s, p, port, seq)
theorem witness_ChainAndVectorFramesTakeEffect_chClear : ∃ (s : State) (p : Fin 16) (port : Fin 8) (seq : BitVec 8),
    (s.lk (2 * port.val)).dead = false ∧ s.portOwner port = p.val + 1 ∧
    ((s.lk (2 * port.val)).rxSeq = 256 ∨ seq.toNat = ((s.lk (2 * port.val)).rxSeq + 1) % 256) ∧
    (s.lk (2 * port.val)).rxSeq ≠ seq.toNat :=
  ⟨wit_ChainAndVectorFramesTakeEffect_chClear.1, wit_ChainAndVectorFramesTakeEffect_chClear.2.1,
      wit_ChainAndVectorFramesTakeEffect_chClear.2.2.1, wit_ChainAndVectorFramesTakeEffect_chClear.2.2.2, by decide +kernel⟩

def wit_ChainAndVectorFramesTakeEffect_chResume : State × (Fin 16) × (Fin 8) × (BitVec 8) × (BitVec 48) × (BitVec 13) × Nat :=
  let s : State := State.reset
  let p : Fin 16 := 1
  let port : Fin 8 := 1
  let seq : BitVec 8 := 1
  let bell : BitVec 48 := 1
  let code : BitVec 13 := 1
  let s : State := ((s.sf F.XOT_STAT_OWNED port 1).sf F.XOT_STAT_OWNER port p).sf F.PART_STATE_STATE p stFrozen
      |> fun (s : State) => s.modLk (2 * port.val) fun r => { r with dead := false, rxSeq := 256 }
  let fmax : Nat := (extendBell (s.part p).bell bell.toNat * 8192 + code.toNat)
  (s, p, port, seq, bell, code, fmax)
theorem witness_ChainAndVectorFramesTakeEffect_chResume : ∃ (s : State) (p : Fin 16) (port : Fin 8) (seq : BitVec 8) (bell : BitVec 48) (code : BitVec 13) (fmax : Nat), (s.lk (2 * port.val)).dead = false ∧ s.portOwner port = p.val + 1 ∧ ((s.lk (2 * port.val)).rxSeq = 256 ∨ seq.toNat = ((s.lk (2 * port.val)).rxSeq + 1) % 256) ∧ (s.lk (2 * port.val)).rxSeq ≠ seq.toNat ∧ s.pst p = stFrozen ∧ fmax = extendBell (s.part p).bell bell.toNat * 8192 + code.toNat :=
  ⟨wit_ChainAndVectorFramesTakeEffect_chResume.1, wit_ChainAndVectorFramesTakeEffect_chResume.2.1,
      wit_ChainAndVectorFramesTakeEffect_chResume.2.2.1, wit_ChainAndVectorFramesTakeEffect_chResume.2.2.2.1,
      wit_ChainAndVectorFramesTakeEffect_chResume.2.2.2.2.1, wit_ChainAndVectorFramesTakeEffect_chResume.2.2.2.2.2.1,
      wit_ChainAndVectorFramesTakeEffect_chResume.2.2.2.2.2.2, by decide +kernel⟩

def wit_DesignMemoryAccessesTakeEffect_hbmSchedule : State × (Fin 16) × (Fin 4) × (Nat × Nat × Nat × Nat × Nat) :=
  let s : State := State.reset
  let p : Fin 16 := 1
  let stack : Fin 4 := 1
  let s : State := s.setPart p { s.part p with hbmPend := [(3, stack.val, (s.part p).count + 50, 2, 7), (5, 1, 2, 2, 7)] }
  let e : Nat × Nat × Nat × Nat × Nat := ((s.part p).hbmPend.find? (fun e => e.2.1 == stack.val)).getD (0,0,0,0,0)
  (s, p, stack, e)
theorem witness_DesignMemoryAccessesTakeEffect_hbmSchedule : ∃ (s : State) (p : Fin 16) (stack : Fin 4) (e : Nat × Nat × Nat × Nat × Nat), ((s.part p).hbmPend.find? (fun e => e.2.1 == stack.val) = some e) :=
  ⟨wit_DesignMemoryAccessesTakeEffect_hbmSchedule.1, wit_DesignMemoryAccessesTakeEffect_hbmSchedule.2.1,
      wit_DesignMemoryAccessesTakeEffect_hbmSchedule.2.2.1, wit_DesignMemoryAccessesTakeEffect_hbmSchedule.2.2.2, by decide +kernel⟩

def wit_DesignMemoryAccessesTakeEffect_designMemoryAccess : State × Requester × (BitVec 48) × Nat :=
  let s : State := State.reset
  let z : Bool := true
  let off : Fin 65536 := 1
  let rq : Requester := .pf0
  let a : BitVec 48 := BitVec.ofNat 48 ((if z then bbBase + 524288 * 3 else hbmBase + granSize) + off.val)
  let s : State := s.sf F.BBD_BANK_STATE 3 0
  let x : Nat := (a.toNat / 8 * 8)
  (s, rq, a, x)
theorem witness_DesignMemoryAccessesTakeEffect_designMemoryAccess : ∃ (s : State) (rq : Requester) (a : BitVec 48) (x : Nat),
    x = a.toNat / 8 * 8 ∧ ((inBB x = true ∧ s.gf F.BBD_BANK_STATE (bankOf x) ≠ 3) ∨ (inHbm x = true ∧
    Store.get false s.mem.granZ (granOf x) = false)) ∧ spareGran x = false ∧ (inRepair x s = false ∨ isActiveProctor rq s = true) ∧
    (∀ i ∈ List.range 8, s.mem.err (x + i) < 2) :=
  ⟨wit_DesignMemoryAccessesTakeEffect_designMemoryAccess.1, wit_DesignMemoryAccessesTakeEffect_designMemoryAccess.2.1,
      wit_DesignMemoryAccessesTakeEffect_designMemoryAccess.2.2.1, wit_DesignMemoryAccessesTakeEffect_designMemoryAccess.2.2.2,
      by decide +kernel⟩

def wit_DesignMemoryAccessesTakeEffect_designMemoryAccess_2 : State × Requester × (BitVec 48) × (BitVec 8) × (Fin 8) × Nat :=
  let s : State := State.reset
  let z : Bool := true
  let off : Fin 65536 := 1
  let be0 : BitVec 8 := 1
  let i : Fin 8 := 1
  let rq : Requester := .pf0
  let a : BitVec 48 := BitVec.ofNat 48 ((if z then bbBase + 524288 * 3 else hbmBase + granSize) + off.val)
  let be : BitVec 8 := be0 ||| (1 <<< i.val)
  let s : State := (s.sf F.BBD_BANK_STATE 3 0)
  let x : Nat := (a.toNat / 8 * 8)
  (s, rq, a, be, i, x)
theorem witness_DesignMemoryAccessesTakeEffect_designMemoryAccess_2 : ∃ (s : State) (rq : Requester) (a : BitVec 48) (be : BitVec 8) (i : Fin 8) (x : Nat), x = a.toNat / 8 * 8 ∧ (inBB x = true ∨ inHbm x = true) ∧ spareGran x = false ∧ (inRepair x s = false ∨ isActiveProctor rq s = true) ∧ hostWriteBarred x s = false ∧ bitAt be.toNat i = 1 ∧ (inBB x = true ∨ memOwner x s = 0 ∨ x % 16 = 0 ∨ i.val = 0) :=
  ⟨wit_DesignMemoryAccessesTakeEffect_designMemoryAccess_2.1, wit_DesignMemoryAccessesTakeEffect_designMemoryAccess_2.2.1,
      wit_DesignMemoryAccessesTakeEffect_designMemoryAccess_2.2.2.1, wit_DesignMemoryAccessesTakeEffect_designMemoryAccess_2.2.2.2.1,
      wit_DesignMemoryAccessesTakeEffect_designMemoryAccess_2.2.2.2.2.1,
      wit_DesignMemoryAccessesTakeEffect_designMemoryAccess_2.2.2.2.2.2, by decide +kernel⟩

def wit_DesignMemoryAccessesTakeEffect_bitSetAliasWrite : State × (BitVec 28) × (BitVec 8) × (Fin 8) × Nat :=
  let s : State := State.reset
  let be0 : BitVec 8 := 1
  let o0 : Fin 524288 := 1
  let i : Fin 8 := 1
  let o : BitVec 28 := BitVec.ofNat 28 (o0.val + 524288 * 3)
  let be : BitVec 8 := be0 ||| (1 <<< i.val)
  let s : State := s.sf F.BBD_BANK_STATE 3 0
  let x : Nat := (bbBase + o.toNat / 8 * 8)
  (s, o, be, i, x)
theorem witness_DesignMemoryAccessesTakeEffect_bitSetAliasWrite : ∃ (s : State) (o : BitVec 28) (be : BitVec 8) (i : Fin 8) (x : Nat), x = bbBase + o.toNat / 8 * 8 ∧ hostWriteBarred x s = false ∧ s.gf F.BBD_BANK_STATE (bankOf x) ≠ 3 ∧ (∀ j ∈ List.range 8, s.mem.err (x + j) < 2) ∧ bitAt be.toNat i = 1 :=
  ⟨wit_DesignMemoryAccessesTakeEffect_bitSetAliasWrite.1, wit_DesignMemoryAccessesTakeEffect_bitSetAliasWrite.2.1,
      wit_DesignMemoryAccessesTakeEffect_bitSetAliasWrite.2.2.1, wit_DesignMemoryAccessesTakeEffect_bitSetAliasWrite.2.2.2.1,
      wit_DesignMemoryAccessesTakeEffect_bitSetAliasWrite.2.2.2.2, by decide +kernel⟩

def wit_DesignMemoryAccessesTakeEffect_bitClearAliasWrite : State × (BitVec 28) × (BitVec 8) × (Fin 8) × Nat :=
  let s : State := State.reset
  let be0 : BitVec 8 := 1
  let o0 : Fin 524288 := 1
  let i : Fin 8 := 1
  let o : BitVec 28 := BitVec.ofNat 28 (o0.val + 524288 * 3)
  let be : BitVec 8 := be0 ||| (1 <<< i.val)
  let s : State := s.sf F.BBD_BANK_STATE 3 0 |> fun (s : State) => s.wbs (bbBase + 524288 * 3) [255, 7, 9, 200, 255, 16, 12, 11, 35,
      2, 1, 8]
  let x : Nat := (bbBase + o.toNat / 8 * 8)
  (s, o, be, i, x)
theorem witness_DesignMemoryAccessesTakeEffect_bitClearAliasWrite : ∃ (s : State) (o : BitVec 28) (be : BitVec 8) (i : Fin 8) (x : Nat), x = bbBase + o.toNat / 8 * 8 ∧ hostWriteBarred x s = false ∧ s.gf F.BBD_BANK_STATE (bankOf x) ≠ 3 ∧ (∀ j ∈ List.range 8, s.mem.err (x + j) < 2) ∧ bitAt be.toNat i = 1 :=
  ⟨wit_DesignMemoryAccessesTakeEffect_bitClearAliasWrite.1, wit_DesignMemoryAccessesTakeEffect_bitClearAliasWrite.2.1,
      wit_DesignMemoryAccessesTakeEffect_bitClearAliasWrite.2.2.1, wit_DesignMemoryAccessesTakeEffect_bitClearAliasWrite.2.2.2.1,
      wit_DesignMemoryAccessesTakeEffect_bitClearAliasWrite.2.2.2.2, by decide +kernel⟩

def wit_DesignMemoryAccessesTakeEffect_eccWriteback : State × (Fin 512) × Nat :=
  let s : State := State.reset
  let b : Fin 512 := 1
  let i : Fin 8 := 1
  let s : State := { s with mem := { s.mem with wb := Store.set 0 b.val 6 s.mem.wb, ecc := Store.set 0 (bankAddr b + 40 + i.val) 1 s.mem.ecc } }
  let w : Nat := (Store.get 0 s.mem.wb b - 1)
  (s, b, w)
theorem witness_DesignMemoryAccessesTakeEffect_eccWriteback : ∃ (s : State) (b : Fin 512) (w : Nat), Store.get 0 s.mem.wb b = w + 1 :=
  ⟨wit_DesignMemoryAccessesTakeEffect_eccWriteback.1, wit_DesignMemoryAccessesTakeEffect_eccWriteback.2.1,
      wit_DesignMemoryAccessesTakeEffect_eccWriteback.2.2, by decide +kernel⟩

def wit_DesignMemoryAccessesTakeEffect_backgroundScrub : State :=
  let s : State := State.reset
  let b : Fin 512 := 1
  let w : BitVec 16 := 1
  let i : Fin 8 := 1
  let s : State := { s.sf F.BBD_SCRUB_CFG_PERIOD 0 5 with mem := { s.mem with ecc := Store.set 0 (bankAddr b + 8 * w.toNat + i.val) 1 s.mem.ecc } }
  (s)
theorem witness_DesignMemoryAccessesTakeEffect_backgroundScrub : ∃ (s : State), s.gf F.BBD_SCRUB_CFG_PERIOD 0 ≠ 0 :=
  ⟨wit_DesignMemoryAccessesTakeEffect_backgroundScrub, by decide +kernel⟩

def wit_BankAndPageCommandsTakeEffect_bankZeroiseDone : State × (Fin 896) :=
  let s : State := State.reset
  let z : Bool := true
  let blk0 : Nat := 1
  let x : Fin 524288 := 1
  let blk : Fin 896 := Fin.ofNat 896 (blk0 % 512)
  let s : State := (s.sf F.BBD_BANK_STATE blk 3).sflag F.BBD_BANK_RETIRE_PEND blk z
      |> fun (s : State) => s.wb (bankAddr blk + x.val) 7
  (s, blk)
theorem witness_BankAndPageCommandsTakeEffect_bankZeroiseDone : ∃ (s : State) (blk : Fin 896), blk.val < 512 ∧
    s.gf F.BBD_BANK_STATE blk = 3 :=
  ⟨wit_BankAndPageCommandsTakeEffect_bankZeroiseDone.1, wit_BankAndPageCommandsTakeEffect_bankZeroiseDone.2, by decide +kernel⟩

def wit_BankAndPageCommandsTakeEffect_bankZeroiseDone_2 : State × (Fin 896) :=
  let s : State := State.reset
  let blk0 : Nat := 1
  let blk : Fin 896 := Fin.ofNat 896 (512 + blk0 % 384)
  let s : State := { s with mem := { s.mem with granZ := Store.set false (blk.val - 512) true s.mem.granZ } }
  (s, blk)
theorem witness_BankAndPageCommandsTakeEffect_bankZeroiseDone_2 : ∃ (s : State) (blk : Fin 896), 512 ≤ blk.val ∧
    Store.get false s.mem.granZ (blk.val - 512) = true :=
  ⟨wit_BankAndPageCommandsTakeEffect_bankZeroiseDone_2.1, wit_BankAndPageCommandsTakeEffect_bankZeroiseDone_2.2, by decide +kernel⟩

def wit_BankAndPageCommandsTakeEffect_marchStart : State × Requester × (Fin 2) :=
  let s : State := State.reset
  let ix : Fin 2 := 1
  let rq : Requester := .core 3 .machine
  let s : State := (((s.setReg .BBD_MARCH_CFG ix 0).sf F.BBD_MARCH_CFG_FIRST ix 4).sf F.BBD_MARCH_CFG_LAST ix 9).setReg .BBD_MARCH_STATUS ix 0 |> fun (s : State) => s.resetAll .BBD_BANK
  (s, rq, ix)
theorem witness_BankAndPageCommandsTakeEffect_marchStart : ∃ (s : State) (rq : Requester) (ix : Fin 2), procOrM rq s = true ∧
    s.gf F.BBD_MARCH_STATUS_STATE ix = 0 ∧ (s.flag F.BBD_MARCH_CFG_PRESERVE ix = true → memOwner (marchBuf ix s) s = 0) ∧
    (∀ u ∈ List.range 256, s.gf F.BBD_MARCH_CFG_FIRST ix ≤ u ∧
    u ≤ max (s.gf F.BBD_MARCH_CFG_FIRST ix) (s.gf F.BBD_MARCH_CFG_LAST ix) → marchEligible ix s u = true) :=
  ⟨wit_BankAndPageCommandsTakeEffect_marchStart.1, wit_BankAndPageCommandsTakeEffect_marchStart.2.1,
      wit_BankAndPageCommandsTakeEffect_marchStart.2.2, by decide +kernel⟩

def wit_BankAndPageCommandsTakeEffect_marchStop : State × Requester × (Fin 2) :=
  let s : State := State.reset
  let ix : Fin 2 := 1
  let z : Bool := true
  let rq : Requester := .core 3 .machine
  let s : State := (s.sf F.BBD_MARCH_STATUS_STATE ix 1).sf F.BBD_MARCH_CFG_FIRST ix 4
      |> fun (s : State) => setMarch ix { last := 9, preserve := z } s
  (s, rq, ix)
theorem witness_BankAndPageCommandsTakeEffect_marchStop : ∃ (s : State) (rq : Requester) (ix : Fin 2), procOrM rq s = true ∧
    s.gf F.BBD_MARCH_STATUS_STATE ix = 1 :=
  ⟨wit_BankAndPageCommandsTakeEffect_marchStop.1, wit_BankAndPageCommandsTakeEffect_marchStop.2.1,
      wit_BankAndPageCommandsTakeEffect_marchStop.2.2, by decide +kernel⟩

def wit_BankAndPageCommandsTakeEffect_marchDone : State × (Fin 2) :=
  let s : State := State.reset
  let ix : Fin 2 := 1
  let s : State := s.sf F.BBD_MARCH_STATUS_STATE ix 1 |> fun (s : State) => setMarch ix { last := 9, preserve := true } s
  (s, ix)
theorem witness_BankAndPageCommandsTakeEffect_marchDone : ∃ (s : State) (ix : Fin 2), s.gf F.BBD_MARCH_STATUS_STATE ix = 1 :=
  ⟨wit_BankAndPageCommandsTakeEffect_marchDone.1, wit_BankAndPageCommandsTakeEffect_marchDone.2, by decide +kernel⟩

def wit_BankAndPageCommandsTakeEffect_retire : State × Requester × (Fin 512) :=
  let s : State := State.reset
  let b : Fin 512 := 1
  let z : Bool := true
  let rq : Requester := .proctor 0
  let s : State := (s.sf F.PRC_PROC_STAT_STATE 0 3).sf F.BBD_BANK_STATE b (if z then 0 else 1)
  (s, rq, b)
theorem witness_BankAndPageCommandsTakeEffect_retire : ∃ (s : State) (rq : Requester) (b : Fin 512), isActiveProctor rq s = true ∧
    s.gf F.BBD_BANK_STATE b ≠ 2 :=
  ⟨wit_BankAndPageCommandsTakeEffect_retire.1, wit_BankAndPageCommandsTakeEffect_retire.2.1,
      wit_BankAndPageCommandsTakeEffect_retire.2.2, by decide +kernel⟩

def wit_BankAndPageCommandsTakeEffect_unretire : State × Requester × (Fin 512) :=
  let s : State := State.reset
  let b : Fin 512 := 1
  let rq : Requester := .proctor 0
  let s : State := (s.sf F.PRC_PROC_STAT_STATE 0 3).sf F.BBD_BANK_STATE b 2
  (s, rq, b)
theorem witness_BankAndPageCommandsTakeEffect_unretire : ∃ (s : State) (rq : Requester) (b : Fin 512), isActiveProctor rq s = true ∧
    s.gf F.BBD_BANK_STATE b = 2 :=
  ⟨wit_BankAndPageCommandsTakeEffect_unretire.1, wit_BankAndPageCommandsTakeEffect_unretire.2.1,
      wit_BankAndPageCommandsTakeEffect_unretire.2.2, by decide +kernel⟩

def wit_BankAndPageCommandsTakeEffect_hbmRetire : State × Requester × (Fin 4) × (BitVec 23) :=
  let s : State := State.reset
  let k : Fin 4 := 1
  let p0 : Nat := 1
  let rq : Requester := .proctor 1
  let page : BitVec 23 := BitVec.ofNat 23 (p0 % (95 * 65536))
  let s : State := { (s.sf F.PRC_PROC_STAT_STATE 1 3).sf F.HBM_RET_STAT_BUSY k 0 with mem := { s.mem with pages := [] } }
  (s, rq, k, page)
theorem witness_BankAndPageCommandsTakeEffect_hbmRetire : ∃ (s : State) (rq : Requester) (k : Fin 4) (page : BitVec 23),
    isActiveProctor rq s = true ∧ s.flag F.HBM_RET_STAT_BUSY k = false ∧ page.toNat ∉ Store.get [] s.mem.pages k ∧
    page.toNat < 95 * 65536 ∧ (Store.get [] s.mem.pages k).length < 1024 :=
  ⟨wit_BankAndPageCommandsTakeEffect_hbmRetire.1, wit_BankAndPageCommandsTakeEffect_hbmRetire.2.1,
      wit_BankAndPageCommandsTakeEffect_hbmRetire.2.2.1, wit_BankAndPageCommandsTakeEffect_hbmRetire.2.2.2, by decide +kernel⟩

def wit_BankAndPageCommandsTakeEffect_hbmPageSwitch : State × (Fin 4) × Nat :=
  let s : State := State.reset
  let k : Fin 4 := 1
  let s : State := { s with mem := { s.mem with pages := [(0, [5, 9])], copying := Store.set 0 k.val 78 s.mem.copying } }
  let page : Nat := (Store.get 0 s.mem.copying k - 1)
  (s, k, page)
theorem witness_BankAndPageCommandsTakeEffect_hbmPageSwitch : ∃ (s : State) (k : Fin 4) (page : Nat),
    Store.get 0 s.mem.copying k = page + 1 :=
  ⟨wit_BankAndPageCommandsTakeEffect_hbmPageSwitch.1, wit_BankAndPageCommandsTakeEffect_hbmPageSwitch.2.1,
      wit_BankAndPageCommandsTakeEffect_hbmPageSwitch.2.2, by decide +kernel⟩

def wit_BankAndPageCommandsTakeEffect_marchRestoreDone : State × (Fin 2) :=
  let s : State := State.reset
  let ix : Fin 2 := 1
  let s : State := s.sf F.BBD_MARCH_STATUS_STATE ix 2
  (s, ix)
theorem witness_BankAndPageCommandsTakeEffect_marchRestoreDone : ∃ (s : State) (ix : Fin 2), s.gf F.BBD_MARCH_STATUS_STATE ix = 2 :=
  ⟨wit_BankAndPageCommandsTakeEffect_marchRestoreDone.1, wit_BankAndPageCommandsTakeEffect_marchRestoreDone.2, by decide +kernel⟩

def wit_StopwatchInputsTakeEffect_stwEdge : State × (Fin 64) × (BitVec 64) × Nat × Nat × StwRec :=
  let s : State := State.reset
  let ix : Fin 64 := 1
  let u : BitVec 64 := 1
  let s : State := (s.sf F.RST_PWR_STAT_STATE 0 0).sf F.STW_IN_STAT_STATE ix inAcq
      |> fun (s : State) => s.setStwIn ix { cur := some { start := 3, edges := [(1, true, 8)] } }
  let d : Nat := (s.gf F.STW_IN_DSK_DESKEW ix)
  let tc : Nat := (if s.gf F.STW_IN_DSK_DESKEW ix ≥ 8388608 then u.toNat - (16777216 - s.gf F.STW_IN_DSK_DESKEW ix) else u.toNat + s.gf F.STW_IN_DSK_DESKEW ix)
  let c : StwRec := (((s.stwIn ix).cur).getD { start := 0 })
  (s, ix, u, d, tc, c)
theorem witness_StopwatchInputsTakeEffect_stwEdge : ∃ (s : State) (ix : Fin 64) (u : BitVec 64) (d tc : Nat) (c : StwRec),
    s.gf F.RST_PWR_STAT_STATE 0 ≠ 2 ∧ s.gf F.STW_IN_STAT_STATE ix ≠ inOff ∧ s.gf F.STW_IN_STAT_STATE ix ≠ inFailed ∧
    d = s.gf F.STW_IN_DSK_DESKEW ix ∧ (tc = if 8388608 ≤ d then u.toNat - (16777216 - d) else u.toNat + d) ∧
    (s.stwIn ix).cur = some c :=
  ⟨wit_StopwatchInputsTakeEffect_stwEdge.1, wit_StopwatchInputsTakeEffect_stwEdge.2.1, wit_StopwatchInputsTakeEffect_stwEdge.2.2.1,
      wit_StopwatchInputsTakeEffect_stwEdge.2.2.2.1, wit_StopwatchInputsTakeEffect_stwEdge.2.2.2.2.1,
      wit_StopwatchInputsTakeEffect_stwEdge.2.2.2.2.2, by decide +kernel⟩

def wit_StopwatchInputsTakeEffect_recordEnd : State × (Fin 64) × StwRec × Nat :=
  let s : State := State.reset
  let ix : Fin 64 := 1
  let s : State := (s.sf F.STW_IN_STAT_STATE ix inAcq).setStwIn ix { cur := some { start := 3, edges := [(ix.val, true, 90), (ix.val, false, 95)] }, seq := 65535 }
  let c : StwRec := (((s.stwIn ix).cur).getD { start := 0 })
  let stop : Nat := ((if s.flag F.STW_IN_CFG_END ix then (edgeTimes (kindPol 0 (s.gf F.STW_IN_CFG_POL ix)) ix [(ix.val, true, 90),
      (ix.val, false, 95)])[max 1 (s.gf F.STW_IN_CFG_LEN ix) - 1]? else some (3 + 262144 * max 1 (s.gf F.STW_IN_CFG_LEN ix))).getD 0)
  (s, ix, c, stop)
theorem witness_StopwatchInputsTakeEffect_recordEnd : ∃ (s : State) (ix : Fin 64) (c : StwRec) (stop : Nat),
    s.gf F.STW_IN_STAT_STATE ix = inAcq ∧ (s.stwIn ix).cur = some c ∧ c.win = none ∧
    ((if s.flag F.STW_IN_CFG_END ix then (edgeTimes (kindPol 0 (s.gf F.STW_IN_CFG_POL ix)) ix c.edges)[max 1 (s.gf F.STW_IN_CFG_LEN ix) - 1]? else some (c.start + 262144 * max 1 (s.gf F.STW_IN_CFG_LEN ix))) = some stop) :=
  ⟨wit_StopwatchInputsTakeEffect_recordEnd.1, wit_StopwatchInputsTakeEffect_recordEnd.2.1,
      wit_StopwatchInputsTakeEffect_recordEnd.2.2.1, wit_StopwatchInputsTakeEffect_recordEnd.2.2.2, by decide +kernel⟩

def wit_StopwatchInputsTakeEffect_tdcHandover : State × (Fin 2) × Nat :=
  let s : State := State.reset
  let b : Fin 2 := 1
  let s : State := (s.setReg .STW_TDC (34 * b.val + 5) 0).sf F.STW_TDC_ROLE (34 * b.val + 5) 1
      |> fun (s : State) => (s.sf F.STW_CAL_STAT_ROT_W 0 1).sf F.STW_CAL_STAT_ROT_E 0 1
  let k : Nat := ((readyTdc b s).getD 0)
  (s, b, k)
theorem witness_StopwatchInputsTakeEffect_tdcHandover : ∃ (s : State) (b : Fin 2) (k : Nat),
    ((if b = 0 then s.flag F.STW_CAL_STAT_ROT_W 0 else s.flag F.STW_CAL_STAT_ROT_E 0) = true) ∧ readyTdc b s = some k :=
  ⟨wit_StopwatchInputsTakeEffect_tdcHandover.1, wit_StopwatchInputsTakeEffect_tdcHandover.2.1,
      wit_StopwatchInputsTakeEffect_tdcHandover.2.2, by decide +kernel⟩

def wit_StopwatchInputsTakeEffect_tdcHandover_2 : State × (Fin 2) × Nat :=
  let s : State := State.reset
  let b : Fin 2 := 1
  let s : State := (s.setReg .STW_TDC (34 * b.val + 5) 0).sf F.STW_TDC_ROLE (34 * b.val + 5) 1
      |> fun (s : State) => (s.sf F.STW_CAL_STAT_ROT_W 0 1).sf F.STW_CAL_STAT_ROT_E 0 1
  let k : Nat := ((readyTdc b s).getD 0)
  (s, b, k)
theorem witness_StopwatchInputsTakeEffect_tdcHandover_2 : ∃ (s : State) (b : Fin 2) (k : Nat),
    ((if b = 0 then s.flag F.STW_CAL_STAT_ROT_W 0 else s.flag F.STW_CAL_STAT_ROT_E 0) = true) ∧ readyTdc b s = some k :=
  ⟨wit_StopwatchInputsTakeEffect_tdcHandover_2.1, wit_StopwatchInputsTakeEffect_tdcHandover_2.2.1,
      wit_StopwatchInputsTakeEffect_tdcHandover_2.2.2, by decide +kernel⟩

def wit_StopwatchInputsTakeEffect_tdcCalDone : State × (Fin 68) :=
  let s : State := State.reset
  let u : Fin 68 := 1
  let z : Bool := true
  let s : State := { s.sf F.STW_TDC_ROLE u 2 with stw := { s.stw with calFail := Store.set 0 u.val (b2n z) s.stw.calFail } }
  (s, u)
theorem witness_StopwatchInputsTakeEffect_tdcCalDone : ∃ (s : State) (u : Fin 68), s.gf F.STW_TDC_ROLE u = 2 :=
  ⟨wit_StopwatchInputsTakeEffect_tdcCalDone.1, wit_StopwatchInputsTakeEffect_tdcCalDone.2, by decide +kernel⟩

def wit_StopwatchInputsTakeEffect_stwInEnable : State × Requester × (Fin 64) :=
  let s : State := State.reset
  let ix : Fin 64 := 1
  let rq : Requester := .monitor
  let s : State := (s.sf F.STW_IN_STAT_STATE ix inOff)
  (s, rq, ix)
theorem witness_StopwatchInputsTakeEffect_stwInEnable : ∃ (s : State) (rq : Requester) (ix : Fin 64), stwInOk rq ix s = true ∧
    s.gf F.STW_IN_STAT_STATE ix = inOff :=
  ⟨wit_StopwatchInputsTakeEffect_stwInEnable.1, wit_StopwatchInputsTakeEffect_stwInEnable.2.1,
      wit_StopwatchInputsTakeEffect_stwInEnable.2.2, by decide +kernel⟩

def wit_StopwatchInputsTakeEffect_stwInArm : State × Requester × (Fin 64) :=
  let s : State := State.reset
  let ix : Fin 64 := 1
  let rq : Requester := .monitor
  let s : State := (s.sf F.STW_IN_STAT_STATE ix inIdle)
  (s, rq, ix)
theorem witness_StopwatchInputsTakeEffect_stwInArm : ∃ (s : State) (rq : Requester) (ix : Fin 64), stwInOk rq ix s = true ∧
    s.gf F.STW_IN_STAT_STATE ix = inIdle :=
  ⟨wit_StopwatchInputsTakeEffect_stwInArm.1, wit_StopwatchInputsTakeEffect_stwInArm.2.1, wit_StopwatchInputsTakeEffect_stwInArm.2.2,
      by decide +kernel⟩

def wit_StopwatchInputsTakeEffect_stwInStop : State × Requester × (Fin 64) :=
  let s : State := State.reset
  let ix : Fin 64 := 1
  let rq : Requester := .monitor
  let s : State := (s.sf F.STW_IN_STAT_STATE ix inAcq)
  (s, rq, ix)
theorem witness_StopwatchInputsTakeEffect_stwInStop : ∃ (s : State) (rq : Requester) (ix : Fin 64), stwInOk rq ix s = true ∧
    s.gf F.STW_IN_STAT_STATE ix = inAcq :=
  ⟨wit_StopwatchInputsTakeEffect_stwInStop.1, wit_StopwatchInputsTakeEffect_stwInStop.2.1,
      wit_StopwatchInputsTakeEffect_stwInStop.2.2, by decide +kernel⟩

def wit_StopwatchInputsTakeEffect_stwInDisable : State × Requester × (Fin 64) :=
  let s : State := State.reset
  let ix : Fin 64 := 1
  let rq : Requester := .monitor
  let s : State := (s.sf F.STW_IN_STAT_STATE ix inIdle).resetAll .STW_TRG_STAT
  (s, rq, ix)
theorem witness_StopwatchInputsTakeEffect_stwInDisable : ∃ (s : State) (rq : Requester) (ix : Fin 64), stwInOk rq ix s = true ∧
    s.gf F.STW_IN_STAT_STATE ix = inIdle ∧ (∀ n ∈ List.range 16, s.gf F.STW_TRG_STAT_STATE n = 0 ∨ ix.val ∉ watched n s) :=
  ⟨wit_StopwatchInputsTakeEffect_stwInDisable.1, wit_StopwatchInputsTakeEffect_stwInDisable.2.1,
      wit_StopwatchInputsTakeEffect_stwInDisable.2.2, by decide +kernel⟩

def wit_StopwatchInputsTakeEffect_tbLatch : State × Requester :=
  let s : State := State.reset
  let rq : Requester := .monitor
  let s : State := s
  (s, rq)
theorem witness_StopwatchInputsTakeEffect_tbLatch : ∃ (s : State) (rq : Requester), stwOk rq s = true :=
  ⟨wit_StopwatchInputsTakeEffect_tbLatch.1, wit_StopwatchInputsTakeEffect_tbLatch.2, by decide +kernel⟩

def wit_StopwatchInputsTakeEffect_calStart : State × Requester :=
  let s : State := State.reset
  let rq : Requester := .core 3 .machine
  let s : State := (s.resetAll .STW_TDC).setReg .STW_CAL_STAT 0 0
  (s, rq)
theorem witness_StopwatchInputsTakeEffect_calStart : ∃ (s : State) (rq : Requester), procOrM rq s = true ∧
    ((s.flag F.STW_CAL_STAT_ROT_W 0 = false ∧ 0 < spares 0 s) ∨ (s.flag F.STW_CAL_STAT_ROT_E 0 = false ∧ 0 < spares 1 s)) :=
  ⟨wit_StopwatchInputsTakeEffect_calStart.1, wit_StopwatchInputsTakeEffect_calStart.2, by decide +kernel⟩

def wit_StopwatchInputsTakeEffect_calStop : State × Requester :=
  let s : State := State.reset
  let rq : Requester := .core 3 .machine
  let s : State := s.sf F.STW_CAL_STAT_ROT_E 0 1
  (s, rq)
theorem witness_StopwatchInputsTakeEffect_calStop : ∃ (s : State) (rq : Requester), procOrM rq s = true ∧
    (s.flag F.STW_CAL_STAT_ROT_W 0 = true ∨ s.flag F.STW_CAL_STAT_ROT_E 0 = true) :=
  ⟨wit_StopwatchInputsTakeEffect_calStop.1, wit_StopwatchInputsTakeEffect_calStop.2, by decide +kernel⟩

def wit_StopwatchInputsTakeEffect_tdcSelfCheckFail : State × (Fin 68) :=
  let s : State := State.reset
  let u : Fin 68 := 1
  let s : State := s.sf F.STW_TDC_ROLE u 0
  (s, u)
theorem witness_StopwatchInputsTakeEffect_tdcSelfCheckFail : ∃ (s : State) (u : Fin 68), s.gf F.STW_TDC_ROLE u = 0 :=
  ⟨wit_StopwatchInputsTakeEffect_tdcSelfCheckFail.1, wit_StopwatchInputsTakeEffect_tdcSelfCheckFail.2, by decide +kernel⟩

def wit_TriggersAndMailboxesTakeEffect_triggerFire : State × (Fin 16) × Nat × (List Nat) :=
  let s : State := State.reset
  let n : Fin 16 := 1
  let at_ : Nat := 1
  let rest : List Nat := []
  let s : State := (s.sf F.STW_TRG_STAT_STATE n 1).setStwTrg n { pend := at_ :: rest }
  (s, n, at_, rest)
theorem witness_TriggersAndMailboxesTakeEffect_triggerFire : ∃ (s : State) (n : Fin 16) (at_ : Nat) (rest : List Nat),
    (s.stwTrg n).pend = at_ :: rest ∧ s.gf F.STW_TRG_STAT_STATE n = 1 :=
  ⟨wit_TriggersAndMailboxesTakeEffect_triggerFire.1, wit_TriggersAndMailboxesTakeEffect_triggerFire.2.1,
      wit_TriggersAndMailboxesTakeEffect_triggerFire.2.2.1, wit_TriggersAndMailboxesTakeEffect_triggerFire.2.2.2, by decide +kernel⟩

def wit_TriggersAndMailboxesTakeEffect_triggerTimeout : State × (Fin 16) × Nat :=
  let s : State := State.reset
  let n : Fin 16 := 1
  let s : State := ((s.sf F.STW_TRG_STAT_STATE n 1).sf F.STW_TRG_CFG_KIND n 5).setStwTrg n { since := 40 }
  let lim : Nat := ((s.reg .STW_TRG_MAX n).toNat)
  (s, n, lim)
theorem witness_TriggersAndMailboxesTakeEffect_triggerTimeout : ∃ (s : State) (n : Fin 16) (lim : Nat), trgLive n s = true ∧
    s.gf F.STW_TRG_CFG_KIND n = 5 ∧ (s.reg .STW_TRG_MAX n).toNat = lim :=
  ⟨wit_TriggersAndMailboxesTakeEffect_triggerTimeout.1, wit_TriggersAndMailboxesTakeEffect_triggerTimeout.2.1,
      wit_TriggersAndMailboxesTakeEffect_triggerTimeout.2.2, by decide +kernel⟩

def wit_TriggersAndMailboxesTakeEffect_instrLineRelease : State × (Fin 16) :=
  let s : State := State.reset
  let n : Fin 16 := 1
  let s : State := { s with stw := { s.stw with drv := Store.set [] (s.gf F.STW_TRG_OUT_LINE n) [n.val] s.stw.drv } }
  (s, n)
theorem witness_TriggersAndMailboxesTakeEffect_instrLineRelease : ∃ (s : State) (n : Fin 16),
    n.val ∈ Store.get [] s.stw.drv (s.gf F.STW_TRG_OUT_LINE n) :=
  ⟨wit_TriggersAndMailboxesTakeEffect_instrLineRelease.1, wit_TriggersAndMailboxesTakeEffect_instrLineRelease.2, by decide +kernel⟩

def wit_TriggersAndMailboxesTakeEffect_instrLineEdge : State × (Fin 8) :=
  let s : State := State.reset
  let l : Fin 8 := 1
  let s : State := s.setReg .STW_LINE 0 0
  (s, l)
theorem witness_TriggersAndMailboxesTakeEffect_instrLineEdge : ∃ (s : State) (l : Fin 8), bitAt (s.gf F.STW_LINE_DRIVE 0) l = 0 :=
  ⟨wit_TriggersAndMailboxesTakeEffect_instrLineEdge.1, wit_TriggersAndMailboxesTakeEffect_instrLineEdge.2, by decide +kernel⟩

def wit_TriggersAndMailboxesTakeEffect_stwTrgArm : State × Requester × (Fin 16) :=
  let s : State := State.reset
  let n : Fin 16 := 1
  let rq : Requester := .monitor
  let s : State := (s.setReg .STW_TRG_CFG n 0).sf F.STW_TRG_STAT_STATE n 2 |> fun (s : State) => s.sf F.STW_IN_STAT_STATE 0 inIdle
  (s, rq, n)
theorem witness_TriggersAndMailboxesTakeEffect_stwTrgArm : ∃ (s : State) (rq : Requester) (n : Fin 16), stwOk rq s = true ∧
    (s.gf F.STW_TRG_STAT_STATE n = 0 ∨ s.gf F.STW_TRG_STAT_STATE n = 2) ∧ (∀ i ∈ watched n s,
    s.gf F.STW_IN_STAT_STATE i = inIdle ∨ s.gf F.STW_IN_STAT_STATE i = inAcq ∨ s.gf F.STW_IN_STAT_STATE i = inBound) ∧
    (s.gf F.STW_TRG_CFG_KIND n = 3 ∨ s.gf F.STW_TRG_CFG_KIND n = 4 →
    s.flag F.STW_IN_RX_PAIR (s.gf F.STW_TRG_CFG_SRC n / 2 * 2) = true) :=
  ⟨wit_TriggersAndMailboxesTakeEffect_stwTrgArm.1, wit_TriggersAndMailboxesTakeEffect_stwTrgArm.2.1,
      wit_TriggersAndMailboxesTakeEffect_stwTrgArm.2.2, by decide +kernel⟩

def wit_TriggersAndMailboxesTakeEffect_stwTrgDisarm : State × Requester × (Fin 16) :=
  let s : State := State.reset
  let n : Fin 16 := 1
  let rq : Requester := .monitor
  let s : State := s.sf F.STW_TRG_STAT_STATE n 2
  (s, rq, n)
theorem witness_TriggersAndMailboxesTakeEffect_stwTrgDisarm : ∃ (s : State) (rq : Requester) (n : Fin 16), stwOk rq s = true ∧
    s.gf F.STW_TRG_STAT_STATE n ≠ 0 :=
  ⟨wit_TriggersAndMailboxesTakeEffect_stwTrgDisarm.1, wit_TriggersAndMailboxesTakeEffect_stwTrgDisarm.2.1,
      wit_TriggersAndMailboxesTakeEffect_stwTrgDisarm.2.2, by decide +kernel⟩

def wit_TriggersAndMailboxesTakeEffect_stwTrgForce : State × Requester × (Fin 16) :=
  let s : State := State.reset
  let n : Fin 16 := 1
  let rq : Requester := .monitor
  let s : State := s.sf F.STW_TRG_STAT_STATE n 1
  (s, rq, n)
theorem witness_TriggersAndMailboxesTakeEffect_stwTrgForce : ∃ (s : State) (rq : Requester) (n : Fin 16), stwOk rq s = true ∧
    s.gf F.STW_TRG_STAT_STATE n = 1 :=
  ⟨wit_TriggersAndMailboxesTakeEffect_stwTrgForce.1, wit_TriggersAndMailboxesTakeEffect_stwTrgForce.2.1,
      wit_TriggersAndMailboxesTakeEffect_stwTrgForce.2.2, by decide +kernel⟩

def wit_TriggersAndMailboxesTakeEffect_mailboxPost : State × Requester × (Fin 64) :=
  let s : State := State.reset
  let g : Fin 64 := 1
  let rq : Requester := .pf0
  let s : State := s.setMbx g { queue := [{ data := 7, xmask := 0, bell := 9 }] } |> fun (s : State) => s.resetAll .TRC_REPLAY_STAT
  (s, rq, g)
theorem witness_TriggersAndMailboxesTakeEffect_mailboxPost : ∃ (s : State) (rq : Requester) (g : Fin 64), mbxOk rq g s = true ∧
    (∀ p ∈ List.range 16, s.mbxOwner g = p + 1 → (s.part p).fence = false ∧ s.flag F.TRC_REPLAY_STAT_ACTIVE p = false) ∧
    s.mbxOwner g ≤ 16 ∧ (s.mbx g).queue.length < 16 ∧ (s.mbx g).waiting = none :=
  ⟨wit_TriggersAndMailboxesTakeEffect_mailboxPost.1, wit_TriggersAndMailboxesTakeEffect_mailboxPost.2.1,
      wit_TriggersAndMailboxesTakeEffect_mailboxPost.2.2, by decide +kernel⟩

def wit_TraceCommandsTakeEffect_trcArm : State × Requester × (Fin 16) :=
  let s : State := State.reset
  let p : Fin 16 := 1
  let rq : Requester := .monitor
  let s : State := (s.sf F.TRC_PSTAT_STATE p trcStopped).sf F.TRC_PCFG_SINK p 2 |> fun (s : State) => s.sf F.GLB_LCS_STATE 0 0
  (s, rq, p)
theorem witness_TraceCommandsTakeEffect_trcArm : ∃ (s : State) (rq : Requester) (p : Fin 16), partOk rq p s = true ∧
    sealedOut p s = false ∧ (s.trst p = trcIdle ∨ s.trst p = trcStopped) ∧ s.gf F.TRC_PCFG_SINK p ≠ 0 :=
  ⟨wit_TraceCommandsTakeEffect_trcArm.1, wit_TraceCommandsTakeEffect_trcArm.2.1, wit_TraceCommandsTakeEffect_trcArm.2.2,
      by decide +kernel⟩

def wit_TraceCommandsTakeEffect_trcStop : State × Requester × (Fin 16) :=
  let s : State := State.reset
  let p : Fin 16 := 1
  let rq : Requester := .monitor
  let s : State := s.sf F.TRC_PSTAT_STATE p trcRunning
  (s, rq, p)
theorem witness_TraceCommandsTakeEffect_trcStop : ∃ (s : State) (rq : Requester) (p : Fin 16), partOk rq p s = true ∧
    (s.trst p = trcRunning ∨ s.trst p = trcTriggered) :=
  ⟨wit_TraceCommandsTakeEffect_trcStop.1, wit_TraceCommandsTakeEffect_trcStop.2.1, wit_TraceCommandsTakeEffect_trcStop.2.2,
      by decide +kernel⟩

def wit_TraceCommandsTakeEffect_trcForce : State × Requester × (Fin 16) :=
  let s : State := State.reset
  let p : Fin 16 := 1
  let rq : Requester := .monitor
  let s : State := (s.sf F.TRC_PSTAT_STATE p trcRunning).sf F.TRC_REPLAY_STAT_ACTIVE p 0
  (s, rq, p)
theorem witness_TraceCommandsTakeEffect_trcForce : ∃ (s : State) (rq : Requester) (p : Fin 16), partOk rq p s = true ∧
    s.trst p = trcRunning ∧ s.flag F.TRC_REPLAY_STAT_ACTIVE p = false :=
  ⟨wit_TraceCommandsTakeEffect_trcForce.1, wit_TraceCommandsTakeEffect_trcForce.2.1, wit_TraceCommandsTakeEffect_trcForce.2.2,
      by decide +kernel⟩

def wit_PinCommandsTakeEffect_pinCfgWrite : State × Requester × (Fin 96) :=
  let s : State := State.reset
  let g : Fin 96 := 1
  let rq : Requester := .monitor
  let s : State := (s.sf F.PIO_PIN_CFG_LOCKED g 0).sf F.PIO_PIN_CFG_OWNED g 0
  (s, rq, g)
theorem witness_PinCommandsTakeEffect_pinCfgWrite : ∃ (s : State) (rq : Requester) (g : Fin 96), adminOk rq s = true ∧
    s.flag F.PIO_PIN_CFG_LOCKED g = false ∧ s.flag F.PIO_PIN_CFG_OWNED g = false :=
  ⟨wit_PinCommandsTakeEffect_pinCfgWrite.1, wit_PinCommandsTakeEffect_pinCfgWrite.2.1, wit_PinCommandsTakeEffect_pinCfgWrite.2.2,
      by decide +kernel⟩

def wit_PinCommandsTakeEffect_pioLockKey : State × Requester × (BitVec 8) :=
  let s : State := State.reset
  let rq : Requester := .monitor
  let key : BitVec 8 := 0x5A
  let s : State := s.sf F.PIO_STAT_LSTEP 0 0
  (s, rq, key)
theorem witness_PinCommandsTakeEffect_pioLockKey : ∃ (s : State) (rq : Requester) (key : BitVec 8), adminOk rq s = true ∧
    s.gf F.PIO_STAT_LSTEP 0 = 0 ∧ key = 0x5A :=
  ⟨wit_PinCommandsTakeEffect_pioLockKey.1, wit_PinCommandsTakeEffect_pioLockKey.2.1, wit_PinCommandsTakeEffect_pioLockKey.2.2,
      by decide +kernel⟩

def wit_PinCommandsTakeEffect_pioLockKey_2 : State × Requester × (BitVec 8) :=
  let s : State := State.reset
  let rq : Requester := .monitor
  let key : BitVec 8 := 0xA5
  let s : State := s.sf F.PIO_STAT_LSTEP 0 1
  (s, rq, key)
theorem witness_PinCommandsTakeEffect_pioLockKey_2 : ∃ (s : State) (rq : Requester) (key : BitVec 8), adminOk rq s = true ∧
    s.gf F.PIO_STAT_LSTEP 0 = 1 ∧ key = 0xA5 :=
  ⟨wit_PinCommandsTakeEffect_pioLockKey_2.1, wit_PinCommandsTakeEffect_pioLockKey_2.2.1, wit_PinCommandsTakeEffect_pioLockKey_2.2.2,
      by decide +kernel⟩

def wit_PinCommandsTakeEffect_pioLock : State × Requester × (Fin 96) :=
  let s : State := State.reset
  let g : Fin 96 := 1
  let rq : Requester := .monitor
  let s : State := { s.sf F.PIO_STAT_LSTEP 0 2 with pio := { s.pio with mask := [2 ^ (g.val % 32), 2 ^ (g.val % 32), 2 ^ (g.val % 32)] } }
  (s, rq, g)
theorem witness_PinCommandsTakeEffect_pioLock : ∃ (s : State) (rq : Requester) (g : Fin 96), adminOk rq s = true ∧
    s.gf F.PIO_STAT_LSTEP 0 = 2 ∧ bitAt (s.pio.mask.getD (g.val / 32) 0) (g.val % 32) = 1 :=
  ⟨wit_PinCommandsTakeEffect_pioLock.1, wit_PinCommandsTakeEffect_pioLock.2.1, wit_PinCommandsTakeEffect_pioLock.2.2,
      by decide +kernel⟩

def wit_PinCommandsTakeEffect_pioFuseCmd : State × Requester :=
  let s : State := State.reset
  let rq : Requester := .core 0 .machine
  let s : State := (s.sf F.PIO_STAT_BUSY 0 0).sf F.GLB_LCS_STATE 0 1
  (s, rq)
theorem witness_PinCommandsTakeEffect_pioFuseCmd : ∃ (s : State) (rq : Requester), procOrM rq s = true ∧ s.gf F.GLB_LCS_STATE 0 ≤ 1 ∧
    s.flag F.PIO_STAT_BUSY 0 = false :=
  ⟨wit_PinCommandsTakeEffect_pioFuseCmd.1, wit_PinCommandsTakeEffect_pioFuseCmd.2, by decide +kernel⟩

def wit_DeviceTimeCommandsTakeEffect_timeIncrement : State :=
  let s : State := State.reset
  let s : State := { s with tim := { s.tim with step := none, slew := 0 } }
  (s)
theorem witness_DeviceTimeCommandsTakeEffect_timeIncrement : ∃ (s : State), s.tim.step = none ∧ s.tim.slew = 0 :=
  ⟨wit_DeviceTimeCommandsTakeEffect_timeIncrement, by decide +kernel⟩

def wit_DeviceTimeCommandsTakeEffect_timeIncrement_2 : State × Int :=
  let s : State := State.reset
  let o : Int := 1
  let s : State := { s with tim := { s.tim with step := some o, slew := 0 } }
  (s, o)
theorem witness_DeviceTimeCommandsTakeEffect_timeIncrement_2 : ∃ (s : State) (o : Int), s.tim.step = some o ∧ s.tim.slew = 0 :=
  ⟨wit_DeviceTimeCommandsTakeEffect_timeIncrement_2.1, wit_DeviceTimeCommandsTakeEffect_timeIncrement_2.2, by decide +kernel⟩

def wit_DeviceTimeCommandsTakeEffect_timeStep : State × Requester :=
  let s : State := State.reset
  let rq : Requester := .monitor
  let s : State := s.sf F.TIM_STAT_STATE 0 0
  (s, rq)
theorem witness_DeviceTimeCommandsTakeEffect_timeStep : ∃ (s : State) (rq : Requester), adminOk rq s = true ∧
    s.gf F.TIM_STAT_STATE 0 = 0 :=
  ⟨wit_DeviceTimeCommandsTakeEffect_timeStep.1, wit_DeviceTimeCommandsTakeEffect_timeStep.2, by decide +kernel⟩

def wit_DeviceTimeCommandsTakeEffect_timeStep_2 : State × Requester :=
  let s : State := State.reset
  let rq : Requester := .monitor
  let s : State := ((s.sf F.TIM_STAT_STATE 0 1).sf F.TIM_CFG_JUMP 0 4000000000).setReg .TIM_OFS_3 0 0
      |> fun (s : State) => { s.setReg .TIM_OFS_2 0 0 with tim := { s.tim with slew := 2 } }
  (s, rq)
theorem witness_DeviceTimeCommandsTakeEffect_timeStep_2 : ∃ (s : State) (rq : Requester), adminOk rq s = true ∧
    s.gf F.TIM_STAT_STATE 0 = 1 ∧ (timOfs s).natAbs + s.tim.slew.natAbs ≤ s.gf F.TIM_CFG_JUMP 0 * nsUnit :=
  ⟨wit_DeviceTimeCommandsTakeEffect_timeStep_2.1, wit_DeviceTimeCommandsTakeEffect_timeStep_2.2, by decide +kernel⟩

def wit_DeviceTimeCommandsTakeEffect_timeStep_3 : State × Requester :=
  let s : State := State.reset
  let rq : Requester := .monitor
  let s : State := ((s.sf F.TIM_STAT_STATE 0 1).sf F.TIM_CFG_JUMP 0 0).sf F.TIM_OFS_1_NS 0 5
  (s, rq)
theorem witness_DeviceTimeCommandsTakeEffect_timeStep_3 : ∃ (s : State) (rq : Requester), adminOk rq s = true ∧
    s.gf F.TIM_STAT_STATE 0 = 1 ∧ s.gf F.TIM_CFG_JUMP 0 * nsUnit < (timOfs s).natAbs + s.tim.slew.natAbs :=
  ⟨wit_DeviceTimeCommandsTakeEffect_timeStep_3.1, wit_DeviceTimeCommandsTakeEffect_timeStep_3.2, by decide +kernel⟩

def wit_DeviceTimeCommandsTakeEffect_timeRearm : State × Requester :=
  let s : State := State.reset
  let rq : Requester := .monitor
  let s : State := s.sf F.TIM_STAT_STATE 0 2
  (s, rq)
theorem witness_DeviceTimeCommandsTakeEffect_timeRearm : ∃ (s : State) (rq : Requester), adminOk rq s = true ∧
    s.gf F.TIM_STAT_STATE 0 ≠ 0 :=
  ⟨wit_DeviceTimeCommandsTakeEffect_timeRearm.1, wit_DeviceTimeCommandsTakeEffect_timeRearm.2, by decide +kernel⟩

def wit_DeviceTimeCommandsTakeEffect_timRateWrite : State × Requester :=
  let s : State := State.reset
  let rq : Requester := .monitor
  let s : State := s.sf F.TIM_STAT_STATE 0 1
  (s, rq)
theorem witness_DeviceTimeCommandsTakeEffect_timRateWrite : ∃ (s : State) (rq : Requester), adminOk rq s = true ∧
    s.gf F.TIM_STAT_STATE 0 ≠ 2 :=
  ⟨wit_DeviceTimeCommandsTakeEffect_timRateWrite.1, wit_DeviceTimeCommandsTakeEffect_timRateWrite.2, by decide +kernel⟩

def wit_TimestampAndPtmCommandsTakeEffect_ptpEventTx : State × (BitVec 4) × Bool :=
  let s : State := State.reset
  let kind : BitVec 4 := 1
  let ipv6 : Bool := true
  let s : State := (s.sf F.TIM_ETH_CFG_EN 0 1).sf F.TIM_ETH_CFG_ONESTEP 0 0
  (s, kind, ipv6)
theorem witness_TimestampAndPtmCommandsTakeEffect_ptpEventTx : ∃ (s : State) (kind : BitVec 4) (ipv6 : Bool),
    s.flag F.TIM_ETH_CFG_EN 0 = true ∧ (s.flag F.TIM_ETH_CFG_ONESTEP 0 = false ∨ ipv6 = true ∨ (kind ≠ 0 ∧ kind ≠ 3)) ∧
    s.tim.fifo.length < 64 :=
  ⟨wit_TimestampAndPtmCommandsTakeEffect_ptpEventTx.1, wit_TimestampAndPtmCommandsTakeEffect_ptpEventTx.2.1,
      wit_TimestampAndPtmCommandsTakeEffect_ptpEventTx.2.2, by decide +kernel⟩

def wit_TimestampAndPtmCommandsTakeEffect_ptpEventTx_2 : State × (BitVec 4) × Bool :=
  let s : State := State.reset
  let kind : BitVec 4 := 1
  let seqId : BitVec 16 := 1
  let ipv6 : Bool := true
  let s : State := { (s.sf F.TIM_ETH_CFG_EN 0 1).sf F.TIM_ETH_CFG_ONESTEP 0 0 with tim := { s.tim with fifo := List.replicate 64 { seqId := 1, msgType := 0, sec := 1, ns := 1, frac := 0 } } }
  (s, kind, ipv6)
theorem witness_TimestampAndPtmCommandsTakeEffect_ptpEventTx_2 : ∃ (s : State) (kind : BitVec 4) (ipv6 : Bool),
    s.flag F.TIM_ETH_CFG_EN 0 = true ∧ (s.flag F.TIM_ETH_CFG_ONESTEP 0 = false ∨ ipv6 = true ∨ (kind ≠ 0 ∧ kind ≠ 3)) ∧
    64 ≤ s.tim.fifo.length :=
  ⟨wit_TimestampAndPtmCommandsTakeEffect_ptpEventTx_2.1, wit_TimestampAndPtmCommandsTakeEffect_ptpEventTx_2.2.1,
      wit_TimestampAndPtmCommandsTakeEffect_ptpEventTx_2.2.2, by decide +kernel⟩

def wit_TimestampAndPtmCommandsTakeEffect_ptpEventTx_3 : State × (BitVec 4) × Bool :=
  let s : State := State.reset
  let kind : BitVec 4 := 3
  let ipv6 : Bool := false
  let s : State := (s.sf F.TIM_ETH_CFG_EN 0 1).sf F.TIM_ETH_CFG_ONESTEP 0 1
  (s, kind, ipv6)
theorem witness_TimestampAndPtmCommandsTakeEffect_ptpEventTx_3 : ∃ (s : State) (kind : BitVec 4) (ipv6 : Bool),
    s.flag F.TIM_ETH_CFG_EN 0 = true ∧ s.flag F.TIM_ETH_CFG_ONESTEP 0 = true ∧ ipv6 = false ∧ (kind = 0 ∨ kind = 3) :=
  ⟨wit_TimestampAndPtmCommandsTakeEffect_ptpEventTx_3.1, wit_TimestampAndPtmCommandsTakeEffect_ptpEventTx_3.2.1,
      wit_TimestampAndPtmCommandsTakeEffect_ptpEventTx_3.2.2, by decide +kernel⟩

def wit_TimestampAndPtmCommandsTakeEffect_ptpEventRx : State :=
  let s : State := State.reset
  let s : State := s.sf F.TIM_ETH_CFG_EN 0 1
  (s)
theorem witness_TimestampAndPtmCommandsTakeEffect_ptpEventRx : ∃ (s : State), s.flag F.TIM_ETH_CFG_EN 0 = true :=
  ⟨wit_TimestampAndPtmCommandsTakeEffect_ptpEventRx, by decide +kernel⟩

def wit_TimestampAndPtmCommandsTakeEffect_txtsPop : State × Requester × TxTs × (List TxTs) :=
  let s : State := State.reset
  let rq : Requester := .monitor
  let e : TxTs := { seqId := 7, msgType := 2, sec := 2 ^ 33 + 5, ns := 999999999, frac := 65535 }
  let rest : List TxTs := [{ seqId := 9, msgType := 1, sec := 1, ns := 1, frac := 1 }]
  let s : State := { s with tim := { s.tim with fifo := e :: rest } }
  (s, rq, e, rest)
theorem witness_TimestampAndPtmCommandsTakeEffect_txtsPop : ∃ (s : State) (rq : Requester) (e : TxTs) (rest : List TxTs),
    readOk rq s = true ∧ s.tim.fifo = e :: rest :=
  ⟨wit_TimestampAndPtmCommandsTakeEffect_txtsPop.1, wit_TimestampAndPtmCommandsTakeEffect_txtsPop.2.1,
      wit_TimestampAndPtmCommandsTakeEffect_txtsPop.2.2.1, wit_TimestampAndPtmCommandsTakeEffect_txtsPop.2.2.2, by decide +kernel⟩

def wit_TimestampAndPtmCommandsTakeEffect_chainTimeMarker : State × (Fin 8) × Bool :=
  let s : State := State.reset
  let ix : Fin 8 := 1
  let good : Bool := true
  let s : State := ((s.sf F.XOT_STAT_MODE ix 1).sf F.LNK_STAT_STATE (2 * ix.val) lsActive).modLk (2 * ix.val) fun r => { r with dead := false }
  (s, ix, good)
theorem witness_TimestampAndPtmCommandsTakeEffect_chainTimeMarker : ∃ (s : State) (ix : Fin 8) (good : Bool),
    (s.lk (2 * ix.val)).dead = false ∧ good = true ∧ s.gf F.XOT_STAT_MODE ix = 1 ∧
    (s.lst (2 * ix.val) = lsReady ∨ s.lst (2 * ix.val) = lsActive) :=
  ⟨wit_TimestampAndPtmCommandsTakeEffect_chainTimeMarker.1, wit_TimestampAndPtmCommandsTakeEffect_chainTimeMarker.2.1,
      wit_TimestampAndPtmCommandsTakeEffect_chainTimeMarker.2.2, by decide +kernel⟩

def wit_TimestampAndPtmCommandsTakeEffect_ptmTrigger : State × Requester :=
  let s : State := State.reset
  let rq : Requester := .monitor
  let s : State := { s.sf F.TIM_PTM_STAT_BUSY 0 0 with hif := { s.hif with ptmEnable := true } }
  (s, rq)
theorem witness_TimestampAndPtmCommandsTakeEffect_ptmTrigger : ∃ (s : State) (rq : Requester), adminOk rq s = true ∧
    s.hif.ptmEnable = true ∧ s.flag F.TIM_PTM_STAT_BUSY 0 = false :=
  ⟨wit_TimestampAndPtmCommandsTakeEffect_ptmTrigger.1, wit_TimestampAndPtmCommandsTakeEffect_ptmTrigger.2, by decide +kernel⟩

def wit_TimestampAndPtmCommandsTakeEffect_ptmPeriod : State :=
  let s : State := State.reset
  let s : State := { (s.sf F.TIM_PTM_STAT_BUSY 0 0).sf F.TIM_PTM_CFG_PERIOD 0 1 with hif := { s.hif with ptmEnable := true } }
  (s)
theorem witness_TimestampAndPtmCommandsTakeEffect_ptmPeriod : ∃ (s : State), s.hif.ptmEnable = true ∧
    s.gf F.TIM_PTM_CFG_PERIOD 0 ≠ 0 ∧ s.flag F.TIM_PTM_STAT_BUSY 0 = false :=
  ⟨wit_TimestampAndPtmCommandsTakeEffect_ptmPeriod, by decide +kernel⟩

def wit_TimestampAndPtmCommandsTakeEffect_ptmResponse : State × Bool :=
  let s : State := State.reset
  let full : Bool := true
  let s : State := s.sf F.TIM_PTM_STAT_BUSY 0 1
  (s, full)
theorem witness_TimestampAndPtmCommandsTakeEffect_ptmResponse : ∃ (s : State) (full : Bool), s.flag F.TIM_PTM_STAT_BUSY 0 = true ∧
    full = true :=
  ⟨wit_TimestampAndPtmCommandsTakeEffect_ptmResponse.1, wit_TimestampAndPtmCommandsTakeEffect_ptmResponse.2, by decide +kernel⟩

def wit_TimestampAndPtmCommandsTakeEffect_ptmResponse_2 : State × Bool :=
  let s : State := State.reset
  let full : Bool := false
  let s : State := s.sf F.TIM_PTM_STAT_BUSY 0 1
  (s, full)
theorem witness_TimestampAndPtmCommandsTakeEffect_ptmResponse_2 : ∃ (s : State) (full : Bool), s.flag F.TIM_PTM_STAT_BUSY 0 = true ∧
    full = false :=
  ⟨wit_TimestampAndPtmCommandsTakeEffect_ptmResponse_2.1, wit_TimestampAndPtmCommandsTakeEffect_ptmResponse_2.2, by decide +kernel⟩

def wit_TimestampAndPtmCommandsTakeEffect_ptmTimeout : State :=
  let s : State := State.reset
  let s : State := s.sf F.TIM_PTM_STAT_BUSY 0 1
  (s)
theorem witness_TimestampAndPtmCommandsTakeEffect_ptmTimeout : ∃ (s : State), s.flag F.TIM_PTM_STAT_BUSY 0 = true :=
  ⟨wit_TimestampAndPtmCommandsTakeEffect_ptmTimeout, by decide +kernel⟩

def wit_FunctionCommandsTakeEffect_vfFlr : State × (Fin 64) :=
  let s : State := State.reset
  let f : Fin 64 := 1
  let s : State := { s with hif := { s.hif with vfEnable := true } }
  (s, f)
theorem witness_FunctionCommandsTakeEffect_vfFlr : ∃ (s : State) (f : Fin 64), f ≠ 0 ∧ s.hif.vfEnable = true :=
  ⟨wit_FunctionCommandsTakeEffect_vfFlr.1, wit_FunctionCommandsTakeEffect_vfFlr.2, by decide +kernel⟩

def wit_FunctionCommandsTakeEffect_msixUnmask : State × (Fin 64) × (BitVec 11) :=
  let s : State := State.reset
  let f : Fin 64 := 1
  let v : BitVec 11 := 1
  let z : Bool := true
  let s : State := { s with hif := { s.hif with msixPend := Store.set false (2048 * f.val + v.toNat) z s.hif.msixPend } }
  (s, f, v)
theorem witness_FunctionCommandsTakeEffect_msixUnmask : ∃ (s : State) (f : Fin 64) (v : BitVec 11), v.toNat < msixShare f s :=
  ⟨wit_FunctionCommandsTakeEffect_msixUnmask.1, wit_FunctionCommandsTakeEffect_msixUnmask.2.1,
      wit_FunctionCommandsTakeEffect_msixUnmask.2.2, by decide +kernel⟩

def wit_KeyCommandsTakeEffect_keyProgram : State × Requester × (BitVec 4) :=
  let s : State := State.reset
  let rq : Requester := .core 3 .machine
  let slot : BitVec 4 := 3
  let s : State := ((s.sf F.SEC_KEY_STATUS_BUSY 0 0).sf F.GLB_LCS_STATE 0 1).sf (F.SEC_KEY_STATUS_SLOT.nth slot.toNat) 0 0
  (s, rq, slot)
theorem witness_KeyCommandsTakeEffect_keyProgram : ∃ (s : State) (rq : Requester) (slot : BitVec 4), procOrM rq s = true ∧
    s.flag F.SEC_KEY_STATUS_BUSY 0 = false ∧ slot.toNat ≤ 3 ∧ keyState slot.toNat s = 0 ∧ s.gf F.GLB_LCS_STATE 0 ≤ 1 :=
  ⟨wit_KeyCommandsTakeEffect_keyProgram.1, wit_KeyCommandsTakeEffect_keyProgram.2.1, wit_KeyCommandsTakeEffect_keyProgram.2.2,
      by decide +kernel⟩

def wit_KeyCommandsTakeEffect_keyProgram_2 : State × Requester × (BitVec 4) :=
  let s : State := State.reset
  let rq : Requester := .core 3 .machine
  let slot : BitVec 4 := 4
  let s : State := (s.sf F.SEC_KEY_STATUS_BUSY 0 0).sf F.GLB_LCS_STATE 0 2
  (s, rq, slot)
theorem witness_KeyCommandsTakeEffect_keyProgram_2 : ∃ (s : State) (rq : Requester) (slot : BitVec 4), procOrM rq s = true ∧
    s.flag F.SEC_KEY_STATUS_BUSY 0 = false ∧ (slot.toNat = 4 ∨ slot.toNat = 5) ∧
    (s.gf F.GLB_LCS_STATE 0 = 1 ∨ s.gf F.GLB_LCS_STATE 0 = 2) :=
  ⟨wit_KeyCommandsTakeEffect_keyProgram_2.1, wit_KeyCommandsTakeEffect_keyProgram_2.2.1, wit_KeyCommandsTakeEffect_keyProgram_2.2.2,
      by decide +kernel⟩

def wit_KeyCommandsTakeEffect_keyRevoke : State × Requester × (BitVec 4) :=
  let s : State := State.reset
  let slot : BitVec 4 := 1
  let rq : Requester := .core 3 .machine
  let s : State := ((s.sf F.SEC_KEY_STATUS_BUSY 0 0).sf F.GLB_LCS_STATE 0 1).sf (F.SEC_KEY_STATUS_SLOT.nth slot.toNat) 0 1
  (s, rq, slot)
theorem witness_KeyCommandsTakeEffect_keyRevoke : ∃ (s : State) (rq : Requester) (slot : BitVec 4), procOrM rq s = true ∧
    s.flag F.SEC_KEY_STATUS_BUSY 0 = false ∧ slot.toNat ≤ 3 ∧ keyState slot.toNat s = 1 ∧ s.gf F.GLB_LCS_STATE 0 ≠ 0 :=
  ⟨wit_KeyCommandsTakeEffect_keyRevoke.1, wit_KeyCommandsTakeEffect_keyRevoke.2.1, wit_KeyCommandsTakeEffect_keyRevoke.2.2,
      by decide +kernel⟩

def wit_KeyCommandsTakeEffect_keyClear : State × Requester × (BitVec 4) :=
  let s : State := State.reset
  let rq : Requester := .core 3 .machine
  let slot : BitVec 4 := 5
  let s : State := (s.sf F.SEC_KEY_STATUS_BUSY 0 0).sf (F.SEC_KEY_STATUS_SLOT.nth (min slot.toNat 5)) 0 1
  (s, rq, slot)
theorem witness_KeyCommandsTakeEffect_keyClear : ∃ (s : State) (rq : Requester) (slot : BitVec 4), procOrM rq s = true ∧
    s.flag F.SEC_KEY_STATUS_BUSY 0 = false ∧ 4 ≤ slot.toNat ∧ keyState (min slot.toNat 5) s = 1 :=
  ⟨wit_KeyCommandsTakeEffect_keyClear.1, wit_KeyCommandsTakeEffect_keyClear.2.1, wit_KeyCommandsTakeEffect_keyClear.2.2,
      by decide +kernel⟩

def wit_KeyCommandsTakeEffect_lcAdvance : State × Requester :=
  let s : State := State.reset
  let rq : Requester := .core 3 .machine
  let s : State := ((s.sf F.SEC_KEY_STATUS_BUSY 0 0).sf F.GLB_LCS_STATE 0 1).sf (F.SEC_RK_STAT_SLOT.nth 2) 0 1
  (s, rq)
theorem witness_KeyCommandsTakeEffect_lcAdvance : ∃ (s : State) (rq : Requester), procOrM rq s = true ∧
    s.flag F.SEC_KEY_STATUS_BUSY 0 = false ∧ (s.gf F.GLB_LCS_STATE 0 = 0 ∨ (s.gf F.GLB_LCS_STATE 0 = 1 ∧ ∃ k ∈ List.range 4,
    rkState k s = 1)) :=
  ⟨wit_KeyCommandsTakeEffect_lcAdvance.1, wit_KeyCommandsTakeEffect_lcAdvance.2, by decide +kernel⟩

def wit_KeyCommandsTakeEffect_rkProgram : State × Requester × (BitVec 2) :=
  let s : State := State.reset
  let k : BitVec 2 := 1
  let rq : Requester := .core 3 .machine
  let s : State := ((s.sf F.SEC_KEY_STATUS_BUSY 0 0).sf F.GLB_LCS_STATE 0 1).sf (F.SEC_RK_STAT_SLOT.nth k.toNat) 0 0
  (s, rq, k)
theorem witness_KeyCommandsTakeEffect_rkProgram : ∃ (s : State) (rq : Requester) (k : BitVec 2), procOrM rq s = true ∧
    s.flag F.SEC_KEY_STATUS_BUSY 0 = false ∧ rkState k.toNat s = 0 ∧ s.gf F.GLB_LCS_STATE 0 ≤ 1 :=
  ⟨wit_KeyCommandsTakeEffect_rkProgram.1, wit_KeyCommandsTakeEffect_rkProgram.2.1, wit_KeyCommandsTakeEffect_rkProgram.2.2,
      by decide +kernel⟩

def wit_KeyCommandsTakeEffect_rkRevoke : State × Requester × (BitVec 2) :=
  let s : State := State.reset
  let k : BitVec 2 := 1
  let rq : Requester := .core 3 .machine
  let s : State := ((s.sf F.SEC_KEY_STATUS_BUSY 0 0).sf F.GLB_LCS_STATE 0 1).sf (F.SEC_RK_STAT_SLOT.nth k.toNat) 0 1
      |> fun (s : State) => s.sf (F.SEC_RK_STAT_SLOT.nth ((k.toNat + 1) % 4)) 0 1
  (s, rq, k)
theorem witness_KeyCommandsTakeEffect_rkRevoke : ∃ (s : State) (rq : Requester) (k : BitVec 2), procOrM rq s = true ∧
    s.flag F.SEC_KEY_STATUS_BUSY 0 = false ∧ rkState k.toNat s = 1 ∧ (s.gf F.GLB_LCS_STATE 0 = 1 ∨ s.gf F.GLB_LCS_STATE 0 = 2) ∧
    (∃ j ∈ List.range 4, j ≠ k.toNat ∧ rkState j s = 1) :=
  ⟨wit_KeyCommandsTakeEffect_rkRevoke.1, wit_KeyCommandsTakeEffect_rkRevoke.2.1, wit_KeyCommandsTakeEffect_rkRevoke.2.2,
      by decide +kernel⟩

def wit_KeyCommandsTakeEffect_svnAdvance : State × Requester × (BitVec 8) × Nat :=
  let s : State := State.reset
  let value : BitVec 8 := 1
  let rq : Requester := .core 3 .machine
  let m : Nat := 60
  let s : State := { (((s.sf F.SEC_KEY_STATUS_BUSY 0 0).sf F.GLB_LCS_STATE 0 2).sf F.SEC_SVN_STAT_SVN 0 0) with ld := { s.ld with svn := some m } }
  (s, rq, value, m)
theorem witness_KeyCommandsTakeEffect_svnAdvance : ∃ (s : State) (rq : Requester) (value : BitVec 8) (m : Nat), procOrM rq s = true ∧
    s.flag F.SEC_KEY_STATUS_BUSY 0 = false ∧ (s.gf F.GLB_LCS_STATE 0 = 1 ∨ s.gf F.GLB_LCS_STATE 0 = 2) ∧
    s.gf F.SEC_SVN_STAT_SVN 0 < min value.toNat 64 ∧ s.ld.svn = some m ∧ min value.toNat 64 ≤ m :=
  ⟨wit_KeyCommandsTakeEffect_svnAdvance.1, wit_KeyCommandsTakeEffect_svnAdvance.2.1, wit_KeyCommandsTakeEffect_svnAdvance.2.2.1,
      wit_KeyCommandsTakeEffect_svnAdvance.2.2.2, by decide +kernel⟩

def wit_DebugCommandsTakeEffect_mbxGo : State × Requester :=
  let s : State := State.reset
  let rq : Requester := .pf0
  let s : State := (s.sf F.DBG_MBX_STAT_BUSY 0 0).sf F.DBG_MBX_STAT_ONLINE 0 1
  (s, rq)
theorem witness_DebugCommandsTakeEffect_mbxGo : ∃ (s : State) (rq : Requester), rq = .pf0 ∧ s.flag F.DBG_MBX_STAT_BUSY 0 = false ∧
    s.flag F.DBG_MBX_STAT_ONLINE 0 = true :=
  ⟨wit_DebugCommandsTakeEffect_mbxGo.1, wit_DebugCommandsTakeEffect_mbxGo.2, by decide +kernel⟩

def wit_DebugCommandsTakeEffect_hallPassExpiry : State × HallPass :=
  let s : State := State.reset
  let h : HallPass := { notAfter := 0 }
  let s : State := { s.sf F.DBG_HP_STAT_ACTIVE 0 1 with dbg := { s.dbg with pass := some h }, tim := { s.tim with ns := 5 } }
  (s, h)
theorem witness_DebugCommandsTakeEffect_hallPassExpiry : ∃ (s : State) (h : HallPass), s.dbg.pass = some h ∧
    h.notAfter * secUnit < timeUnits s ∧ s.flag F.DBG_HP_STAT_ACTIVE 0 = true :=
  ⟨wit_DebugCommandsTakeEffect_hallPassExpiry.1, wit_DebugCommandsTakeEffect_hallPassExpiry.2, by decide +kernel⟩

def wit_DebugCommandsTakeEffect_coreHalt : State × (Fin 64) × Bool × Nat × Nat :=
  let s : State := State.reset
  let c : Fin 64 := 1
  let lr : Bool := false
  let cause : Nat := 2
  let cmp : Nat := 3
  let s : State := ((s.sf F.DBG_CORE_STAT_STATE c 1).sf F.RST_PWR_STAT_STATE 0 0).modCore c fun r => { r with halt := some (cause, cmp) }
  (s, c, lr, cause, cmp)
theorem witness_DebugCommandsTakeEffect_coreHalt : ∃ (s : State) (c : Fin 64) (lr : Bool) (cause cmp : Nat),
    (s.core c).halt = some (cause, cmp) ∧ s.cst c = coreRunning ∧ s.gf F.RST_PWR_STAT_STATE 0 ≠ 2 ∧ lr = false ∧ cause < 8 ∧
    cmp < 8 :=
  ⟨wit_DebugCommandsTakeEffect_coreHalt.1, wit_DebugCommandsTakeEffect_coreHalt.2.1, wit_DebugCommandsTakeEffect_coreHalt.2.2.1,
      wit_DebugCommandsTakeEffect_coreHalt.2.2.2.1, wit_DebugCommandsTakeEffect_coreHalt.2.2.2.2, by decide +kernel⟩

def wit_DebugCommandsTakeEffect_coreHalt_2 : State × (Fin 64) × Bool :=
  let s : State := State.reset
  let c : Fin 64 := 1
  let lr : Bool := true
  let s : State := ((s.sf F.DBG_CORE_STAT_STATE c 1).sf F.RST_PWR_STAT_STATE 0 0).modCore c fun r => { r with halt := some (1, 0) }
  (s, c, lr)
theorem witness_DebugCommandsTakeEffect_coreHalt_2 : ∃ (s : State) (c : Fin 64) (lr : Bool), (s.core c).halt ≠ none ∧
    s.cst c = coreRunning ∧ s.gf F.RST_PWR_STAT_STATE 0 ≠ 2 ∧ lr = true :=
  ⟨wit_DebugCommandsTakeEffect_coreHalt_2.1, wit_DebugCommandsTakeEffect_coreHalt_2.2.1, wit_DebugCommandsTakeEffect_coreHalt_2.2.2,
      by decide +kernel⟩

def wit_DebugCommandsTakeEffect_comparatorMatch : State × (Fin 64) × Priv × (BitVec 16) × (BitVec 64) × (Option CoreAcc) × (Fin 8) :=
  let s : State := State.reset
  let c : Fin 64 := 1
  let asid : BitVec 16 := 1
  let pc : BitVec 64 := 1
  let m : Priv := .supervisor
  let acc : Option CoreAcc := none
  let k : Fin 8 := 2
  let s : State := (((s.sf F.DBG_CORE_STAT_STATE c 1).sf F.RST_PWR_STAT_STATE 0 0).sf F.DBG_CORE_STAT_STATE c 1).modCore c fun r => { r with halt := none, cmps := [(k.val, { value := pc.toNat, mask := 0, kind := 1, mode := 0, priv := 2, ctxen := 0, asid := 0, action := 1, chan := 0 })] }
  (s, c, m, asid, pc, acc, k)
theorem witness_DebugCommandsTakeEffect_comparatorMatch : ∃ (s : State) (c : Fin 64) (m : Priv) (asid : BitVec 16) (pc : BitVec 64) (acc : Option CoreAcc) (k : Fin 8), s.cst c = coreRunning ∧ s.gf F.RST_PWR_STAT_STATE 0 ≠ 2 ∧ acc = none ∧ cmprActs s c k m asid.toNat pc.toNat none = true ∧ (∀ j ∈ List.range 8, j ≠ k.val → cmprActs s c j m asid.toNat pc.toNat none = false) ∧ (s.cmpr c k).action = 1 ∧ (s.core c).halt = none :=
  ⟨wit_DebugCommandsTakeEffect_comparatorMatch.1, wit_DebugCommandsTakeEffect_comparatorMatch.2.1,
      wit_DebugCommandsTakeEffect_comparatorMatch.2.2.1, wit_DebugCommandsTakeEffect_comparatorMatch.2.2.2.1,
      wit_DebugCommandsTakeEffect_comparatorMatch.2.2.2.2.1, wit_DebugCommandsTakeEffect_comparatorMatch.2.2.2.2.2.1,
      wit_DebugCommandsTakeEffect_comparatorMatch.2.2.2.2.2.2, by decide +kernel⟩

def wit_DebugCommandsTakeEffect_ctiPulse : State × Nat × (List Nat) :=
  let s : State := State.reset
  let k : Nat := 1
  let rest : List Nat := []
  let c : Fin 64 := 1
  let s : State := { ((s.sf F.DBG_CORE_STAT_STATE c 1).sf F.DBG_CTI_CORE_IN c 65535) with dbg := { s.dbg with cti := k :: rest } }
      |> fun (s : State) => s.modCore c fun r => { r with halt := none }
  (s, k, rest)
theorem witness_DebugCommandsTakeEffect_ctiPulse : ∃ (s : State) (k : Nat) (rest : List Nat), s.dbg.cti = k :: rest :=
  ⟨wit_DebugCommandsTakeEffect_ctiPulse.1, wit_DebugCommandsTakeEffect_ctiPulse.2.1, wit_DebugCommandsTakeEffect_ctiPulse.2.2,
      by decide +kernel⟩

def wit_DebugCommandsTakeEffect_dbgCtiPulseWrite : Requester :=
  let rq : Requester := .monitor
  (rq)
theorem witness_DebugCommandsTakeEffect_dbgCtiPulseWrite : ∃ (rq : Requester), rq = .monitor :=
  ⟨wit_DebugCommandsTakeEffect_dbgCtiPulseWrite, by decide +kernel⟩

def wit_MonitorCoreCommandsTakeEffect_monHalt : State × (Fin 3) × (List Byte) × (Fin 64) × (List Nat) :=
  let s : State := State.reset
  let q : BitVec 16 := 1
  let c : Fin 64 := 1
  let u : Fin 3 := 1
  let b : List Byte := (monFrame 0 q.toNat 1 0 (toBytes 8 (2 ^ c.val) ++ [0])).map (BitVec.ofNat 8)
  let s : State := (s.sf F.DBG_MBX_STAT_ONLINE 0 1) |> fun (s : State) => { s with dbg := { s.dbg with ports := [] } }
      |> fun (s : State) => (s.sf F.DBG_CORE_STAT_STATE c 1).modCore c fun r => { r with halt := none }
  let x : List Nat := (monBytes u.val (b.map (·.toNat)) s)
  (s, u, b, c, x)
theorem witness_MonitorCoreCommandsTakeEffect_monHalt : ∃ (s : State) (u : Fin 3) (b : List Byte) (c : Fin 64) (x : List Nat),
    x = monBytes u.val (b.map (·.toNat)) s ∧ monServes u.val s = true ∧ frameOk x = true ∧ x.getD 6 0 = 1 ∧ leAt x 8 2 = 9 ∧
    (Store.get ({} : MonPort) s.dbg.ports u.val).seq ≠ some (leAt x 4 2) ∧ bitAt (leAt x 12 8) c = 1 ∧ bitAt (x.getD 20 0) 0 = 0 ∧
    s.cst c = coreRunning ∧ (s.core c).halt = none :=
  ⟨wit_MonitorCoreCommandsTakeEffect_monHalt.1, wit_MonitorCoreCommandsTakeEffect_monHalt.2.1,
      wit_MonitorCoreCommandsTakeEffect_monHalt.2.2.1, wit_MonitorCoreCommandsTakeEffect_monHalt.2.2.2.1,
      wit_MonitorCoreCommandsTakeEffect_monHalt.2.2.2.2, by decide +kernel⟩

def wit_MonitorCoreCommandsTakeEffect_monResume : State × (Fin 3) × (List Byte) × (Fin 64) × (List Nat) :=
  let s : State := State.reset
  let q : BitVec 16 := 1
  let c : Fin 64 := 1
  let u : Fin 3 := 1
  let b : List Byte := (monFrame 0 q.toNat 2 0 (toBytes 8 (2 ^ c.val))).map (BitVec.ofNat 8)
  let s : State := (s.sf F.DBG_MBX_STAT_ONLINE 0 1) |> fun (s : State) => { s with dbg := { s.dbg with ports := [] } }
      |> fun (s : State) => (s.sf F.DBG_CORE_STAT_STATE c 2)
  let x : List Nat := (monBytes u.val (b.map (·.toNat)) s)
  (s, u, b, c, x)
theorem witness_MonitorCoreCommandsTakeEffect_monResume : ∃ (s : State) (u : Fin 3) (b : List Byte) (c : Fin 64) (x : List Nat),
    x = monBytes u.val (b.map (·.toNat)) s ∧ monServes u.val s = true ∧ frameOk x = true ∧ x.getD 6 0 = 2 ∧ leAt x 8 2 = 8 ∧
    (Store.get ({} : MonPort) s.dbg.ports u.val).seq ≠ some (leAt x 4 2) ∧ bitAt (leAt x 12 8) c = 1 ∧ s.cst c = coreHalted :=
  ⟨wit_MonitorCoreCommandsTakeEffect_monResume.1, wit_MonitorCoreCommandsTakeEffect_monResume.2.1,
      wit_MonitorCoreCommandsTakeEffect_monResume.2.2.1, wit_MonitorCoreCommandsTakeEffect_monResume.2.2.2.1,
      wit_MonitorCoreCommandsTakeEffect_monResume.2.2.2.2, by decide +kernel⟩

def wit_MonitorCoreCommandsTakeEffect_monStep : State × (Fin 3) × (List Byte) × Bool × (Fin 64) × (List Nat) :=
  let s : State := State.reset
  let q : BitVec 16 := 1
  let c : Fin 64 := 1
  let u : Fin 3 := 1
  let b : List Byte := (monFrame 0 q.toNat 3 0 ([c.val, 1, 0, 0])).map (BitVec.ofNat 8)
  let ended : Bool := false
  let s : State := (s.sf F.DBG_MBX_STAT_ONLINE 0 1) |> fun (s : State) => { s with dbg := { s.dbg with ports := [] } }
      |> fun (s : State) => (s.sf F.DBG_CORE_STAT_STATE c 2)
  let x : List Nat := (monBytes u.val (b.map (·.toNat)) s)
  (s, u, b, ended, c, x)
theorem witness_MonitorCoreCommandsTakeEffect_monStep : ∃ (s : State) (u : Fin 3) (b : List Byte) (ended : Bool) (c : Fin 64) (x : List Nat), x = monBytes u.val (b.map (·.toNat)) s ∧ monServes u.val s = true ∧ frameOk x = true ∧ x.getD 6 0 = 3 ∧ leAt x 8 2 = 4 ∧ (Store.get ({} : MonPort) s.dbg.ports u.val).seq ≠ some (leAt x 4 2) ∧ x.getD 12 0 = c ∧ s.cst c = coreHalted ∧ ended = false :=
  ⟨wit_MonitorCoreCommandsTakeEffect_monStep.1, wit_MonitorCoreCommandsTakeEffect_monStep.2.1,
      wit_MonitorCoreCommandsTakeEffect_monStep.2.2.1, wit_MonitorCoreCommandsTakeEffect_monStep.2.2.2.1,
      wit_MonitorCoreCommandsTakeEffect_monStep.2.2.2.2.1, wit_MonitorCoreCommandsTakeEffect_monStep.2.2.2.2.2, by decide +kernel⟩

def wit_MonitorCoreCommandsTakeEffect_monStep_2 : State × (Fin 3) × (List Byte) × Bool × (Fin 64) × (List Nat) :=
  let s : State := State.reset
  let q : BitVec 16 := 1
  let c : Fin 64 := 1
  let u : Fin 3 := 1
  let b : List Byte := (monFrame 0 q.toNat 3 0 ([c.val, 1, 0, 0])).map (BitVec.ofNat 8)
  let ended : Bool := true
  let s : State := (s.sf F.DBG_MBX_STAT_ONLINE 0 1) |> fun (s : State) => { s with dbg := { s.dbg with ports := [] } }
      |> fun (s : State) => (s.sf F.DBG_CORE_STAT_STATE c 2)
  let x : List Nat := (monBytes u.val (b.map (·.toNat)) s)
  (s, u, b, ended, c, x)
theorem witness_MonitorCoreCommandsTakeEffect_monStep_2 : ∃ (s : State) (u : Fin 3) (b : List Byte) (ended : Bool) (c : Fin 64) (x : List Nat), x = monBytes u.val (b.map (·.toNat)) s ∧ monServes u.val s = true ∧ frameOk x = true ∧ x.getD 6 0 = 3 ∧ leAt x 8 2 = 4 ∧ (Store.get ({} : MonPort) s.dbg.ports u.val).seq ≠ some (leAt x 4 2) ∧ x.getD 12 0 = c ∧ s.cst c = coreHalted ∧ ended = true :=
  ⟨wit_MonitorCoreCommandsTakeEffect_monStep_2.1, wit_MonitorCoreCommandsTakeEffect_monStep_2.2.1,
      wit_MonitorCoreCommandsTakeEffect_monStep_2.2.2.1, wit_MonitorCoreCommandsTakeEffect_monStep_2.2.2.2.1,
      wit_MonitorCoreCommandsTakeEffect_monStep_2.2.2.2.2.1, wit_MonitorCoreCommandsTakeEffect_monStep_2.2.2.2.2.2, by decide +kernel⟩

def wit_MonitorCoreCommandsTakeEffect_monRead : State × (Fin 3) × (List Byte) × (Fin 64) × (Fin 32) × (List Nat) :=
  let s : State := State.reset
  let q : BitVec 16 := 1
  let c : Fin 64 := 1
  let a : Fin 32 := 1
  let u : Fin 3 := 1
  let b : List Byte := (monFrame 0 q.toNat 4 0 ([1, c.val, 8, 0, 1, 0, 0, 0] ++ toBytes 8 a.val)).map (BitVec.ofNat 8)
  let s : State := (s.sf F.DBG_MBX_STAT_ONLINE 0 1) |> fun (s : State) => { s with dbg := { s.dbg with ports := [] } }
      |> fun (s : State) => (s.sf F.DBG_CORE_STAT_STATE c 2).sf F.DBG_CORE_STAT_MPRIV c 0
  let x : List Nat := (monBytes u.val (b.map (·.toNat)) s)
  (s, u, b, c, a, x)
theorem witness_MonitorCoreCommandsTakeEffect_monRead : ∃ (s : State) (u : Fin 3) (b : List Byte) (c : Fin 64) (a : Fin 32) (x : List Nat), x = monBytes u.val (b.map (·.toNat)) s ∧ monServes u.val s = true ∧ frameOk x = true ∧ x.getD 6 0 = 4 ∧ leAt x 8 2 = 16 ∧ (Store.get ({} : MonPort) s.dbg.ports u.val).seq ≠ some (leAt x 4 2) ∧ x.getD 12 0 = 1 ∧ x.getD 13 0 = c ∧ x.getD 14 0 = 8 ∧ leAt x 16 2 = 1 ∧ leAt x 20 8 = a ∧ s.cst c = coreHalted ∧ (coreExcluded c s = false ∨ s.gf F.DBG_CORE_STAT_MPRIV c ≠ 1) :=
  ⟨wit_MonitorCoreCommandsTakeEffect_monRead.1, wit_MonitorCoreCommandsTakeEffect_monRead.2.1,
      wit_MonitorCoreCommandsTakeEffect_monRead.2.2.1, wit_MonitorCoreCommandsTakeEffect_monRead.2.2.2.1,
      wit_MonitorCoreCommandsTakeEffect_monRead.2.2.2.2.1, wit_MonitorCoreCommandsTakeEffect_monRead.2.2.2.2.2, by decide +kernel⟩

def wit_MonitorCoreCommandsTakeEffect_monWrite : State × (Fin 3) × (List Byte) × (Fin 64) × (Fin 32) × (BitVec 64) × (List Nat) :=
  let s : State := State.reset
  let q : BitVec 16 := 1
  let c : Fin 64 := 1
  let a : Fin 32 := 1
  let d : BitVec 64 := 1
  let u : Fin 3 := 1
  let b : List Byte := (monFrame 0 q.toNat 5 0 ([1, c.val, 8, 0, 1, 0, 0,
      0] ++ toBytes 8 a.val ++ toBytes 8 d.toNat)).map (BitVec.ofNat 8)
  let s : State := (s.sf F.DBG_MBX_STAT_ONLINE 0 1) |> fun (s : State) => { s with dbg := { s.dbg with ports := [] } }
      |> fun (s : State) => (s.sf F.DBG_CORE_STAT_STATE c 2).sf F.DBG_CORE_STAT_MPRIV c 0
  let x : List Nat := (monBytes u.val (b.map (·.toNat)) s)
  (s, u, b, c, a, d, x)
theorem witness_MonitorCoreCommandsTakeEffect_monWrite : ∃ (s : State) (u : Fin 3) (b : List Byte) (c : Fin 64) (a : Fin 32) (d : BitVec 64) (x : List Nat), x = monBytes u.val (b.map (·.toNat)) s ∧ monServes u.val s = true ∧ frameOk x = true ∧ x.getD 6 0 = 5 ∧ leAt x 8 2 = 24 ∧ (Store.get ({} : MonPort) s.dbg.ports u.val).seq ≠ some (leAt x 4 2) ∧ x.getD 12 0 = 1 ∧ x.getD 13 0 = c ∧ x.getD 14 0 = 8 ∧ leAt x 16 2 = 1 ∧ leAt x 20 8 = a ∧ leAt x 28 8 = d.toNat ∧ s.cst c = coreHalted ∧ (coreExcluded c s = false ∨ s.gf F.DBG_CORE_STAT_MPRIV c ≠ 1) :=
  ⟨wit_MonitorCoreCommandsTakeEffect_monWrite.1, wit_MonitorCoreCommandsTakeEffect_monWrite.2.1,
      wit_MonitorCoreCommandsTakeEffect_monWrite.2.2.1, wit_MonitorCoreCommandsTakeEffect_monWrite.2.2.2.1,
      wit_MonitorCoreCommandsTakeEffect_monWrite.2.2.2.2.1, wit_MonitorCoreCommandsTakeEffect_monWrite.2.2.2.2.2.1,
      wit_MonitorCoreCommandsTakeEffect_monWrite.2.2.2.2.2.2, by decide +kernel⟩

def wit_MonitorCoreCommandsTakeEffect_monPeek : State × (Fin 3) × (List Byte) × (BitVec 20) × (List Nat) :=
  let s : State := State.reset
  let q : BitVec 16 := 1
  let a : BitVec 20 := 1
  let u : Fin 3 := 1
  let b : List Byte := (monFrame 0 q.toNat 6 0 ([0, 0, 4, 0, 1, 0, 0, 0] ++ toBytes 8 (4 * a.toNat))).map (BitVec.ofNat 8)
  let s : State := (s.sf F.DBG_MBX_STAT_ONLINE 0 1) |> fun (s : State) => { s with dbg := { s.dbg with ports := [] } }
  let x : List Nat := (monBytes u.val (b.map (·.toNat)) s)
  (s, u, b, a, x)
theorem witness_MonitorCoreCommandsTakeEffect_monPeek : ∃ (s : State) (u : Fin 3) (b : List Byte) (a : BitVec 20) (x : List Nat),
    x = monBytes u.val (b.map (·.toNat)) s ∧ monServes u.val s = true ∧ frameOk x = true ∧ x.getD 6 0 = 6 ∧ leAt x 8 2 = 16 ∧
    (Store.get ({} : MonPort) s.dbg.ports u.val).seq ≠ some (leAt x 4 2) ∧ x.getD 12 0 = 0 ∧ x.getD 14 0 = 4 ∧ leAt x 16 2 = 1 ∧
    leAt x 20 8 = 4 * a.toNat ∧ ((ctrlRead .monitor true (monForce u.val (b.map (·.toNat)) s) (4 * a.toNat) (wakeBy 2 (if u.val = 1 then peerSeen s else s))).resp.status = 0) :=
  ⟨wit_MonitorCoreCommandsTakeEffect_monPeek.1, wit_MonitorCoreCommandsTakeEffect_monPeek.2.1,
      wit_MonitorCoreCommandsTakeEffect_monPeek.2.2.1, wit_MonitorCoreCommandsTakeEffect_monPeek.2.2.2.1,
      wit_MonitorCoreCommandsTakeEffect_monPeek.2.2.2.2, by decide +kernel⟩

def wit_MonitorDebugCommandsTakeEffect_monSetbp : State × (Fin 3) × (List Byte) × (Fin 64) × (Fin 8) × (List Nat) :=
  let s : State := State.reset
  let z : BitVec 64 := 1
  let y : BitVec 64 := 1
  let q : BitVec 16 := 1
  let c : Fin 64 := 1
  let k : Fin 8 := 1
  let u : Fin 3 := 1
  let b : List Byte := (monFrame 0 q.toNat 7 0 ([c.val, k.val] ++ toBytes 8 z.toNat ++ toBytes 8 y.toNat ++ [1, 0, 9, 1, 5, 0, 3,
      2])).map (BitVec.ofNat 8)
  let s : State := (s.sf F.DBG_MBX_STAT_ONLINE 0 1) |> fun (s : State) => { s with dbg := { s.dbg with ports := [] } }
  let x : List Nat := (monBytes u.val (b.map (·.toNat)) s)
  (s, u, b, c, k, x)
theorem witness_MonitorDebugCommandsTakeEffect_monSetbp : ∃ (s : State) (u : Fin 3) (b : List Byte) (c : Fin 64) (k : Fin 8) (x : List Nat), x = monBytes u.val (b.map (·.toNat)) s ∧ monServes u.val s = true ∧ frameOk x = true ∧ x.getD 6 0 = 7 ∧ leAt x 8 2 = 26 ∧ (Store.get ({} : MonPort) s.dbg.ports u.val).seq ≠ some (leAt x 4 2) ∧ x.getD 12 0 = c ∧ x.getD 13 0 = k :=
  ⟨wit_MonitorDebugCommandsTakeEffect_monSetbp.1, wit_MonitorDebugCommandsTakeEffect_monSetbp.2.1,
      wit_MonitorDebugCommandsTakeEffect_monSetbp.2.2.1, wit_MonitorDebugCommandsTakeEffect_monSetbp.2.2.2.1,
      wit_MonitorDebugCommandsTakeEffect_monSetbp.2.2.2.2.1, wit_MonitorDebugCommandsTakeEffect_monSetbp.2.2.2.2.2, by decide +kernel⟩

def wit_MonitorDebugCommandsTakeEffect_monSetwp : State × (Fin 3) × (List Byte) × (Fin 64) × (Fin 8) × (List Nat) :=
  let s : State := State.reset
  let z : BitVec 64 := 1
  let y : BitVec 64 := 1
  let q : BitVec 16 := 1
  let c : Fin 64 := 1
  let k : Fin 8 := 1
  let u : Fin 3 := 1
  let b : List Byte := (monFrame 0 q.toNat 8 0 ([c.val, k.val] ++ toBytes 8 z.toNat ++ toBytes 8 y.toNat ++ [4, 0, 9, 1, 5, 0, 3,
      2])).map (BitVec.ofNat 8)
  let s : State := (s.sf F.DBG_MBX_STAT_ONLINE 0 1) |> fun (s : State) => { s with dbg := { s.dbg with ports := [] } }
  let x : List Nat := (monBytes u.val (b.map (·.toNat)) s)
  (s, u, b, c, k, x)
theorem witness_MonitorDebugCommandsTakeEffect_monSetwp : ∃ (s : State) (u : Fin 3) (b : List Byte) (c : Fin 64) (k : Fin 8) (x : List Nat), x = monBytes u.val (b.map (·.toNat)) s ∧ monServes u.val s = true ∧ frameOk x = true ∧ x.getD 6 0 = 8 ∧ leAt x 8 2 = 26 ∧ (Store.get ({} : MonPort) s.dbg.ports u.val).seq ≠ some (leAt x 4 2) ∧ x.getD 12 0 = c ∧ x.getD 13 0 = k :=
  ⟨wit_MonitorDebugCommandsTakeEffect_monSetwp.1, wit_MonitorDebugCommandsTakeEffect_monSetwp.2.1,
      wit_MonitorDebugCommandsTakeEffect_monSetwp.2.2.1, wit_MonitorDebugCommandsTakeEffect_monSetwp.2.2.2.1,
      wit_MonitorDebugCommandsTakeEffect_monSetwp.2.2.2.2.1, wit_MonitorDebugCommandsTakeEffect_monSetwp.2.2.2.2.2, by decide +kernel⟩

def wit_MonitorDebugCommandsTakeEffect_monTracecfg : State × (Fin 3) × (List Byte) × (Fin 64) × (List Nat) :=
  let s : State := State.reset
  let flg : BitVec 8 := 1
  let sl : BitVec 8 := 1
  let cti : BitVec 16 := 1
  let post : BitVec 32 := 1
  let q : BitVec 16 := 1
  let c : Fin 64 := 1
  let u : Fin 3 := 1
  let b : List Byte := (monFrame 0 q.toNat 9 0 (toBytes 8 (2 ^ c.val) ++ [flg.toNat,
      sl.toNat] ++ toBytes 2 cti.toNat ++ toBytes 4 post.toNat)).map (BitVec.ofNat 8)
  let s : State := (s.sf F.DBG_MBX_STAT_ONLINE 0 1) |> fun (s : State) => { s with dbg := { s.dbg with ports := [] } }
  let x : List Nat := (monBytes u.val (b.map (·.toNat)) s)
  (s, u, b, c, x)
theorem witness_MonitorDebugCommandsTakeEffect_monTracecfg : ∃ (s : State) (u : Fin 3) (b : List Byte) (c : Fin 64) (x : List Nat),
    x = monBytes u.val (b.map (·.toNat)) s ∧ monServes u.val s = true ∧ frameOk x = true ∧ x.getD 6 0 = 9 ∧ leAt x 8 2 = 16 ∧
    (Store.get ({} : MonPort) s.dbg.ports u.val).seq ≠ some (leAt x 4 2) ∧ leAt x 12 8 = 2 ^ c.val :=
  ⟨wit_MonitorDebugCommandsTakeEffect_monTracecfg.1, wit_MonitorDebugCommandsTakeEffect_monTracecfg.2.1,
      wit_MonitorDebugCommandsTakeEffect_monTracecfg.2.2.1, wit_MonitorDebugCommandsTakeEffect_monTracecfg.2.2.2.1,
      wit_MonitorDebugCommandsTakeEffect_monTracecfg.2.2.2.2, by decide +kernel⟩

def wit_MonitorDebugCommandsTakeEffect_monFreeze : State × (Fin 3) × (List Byte) × (Fin 16) × (List Nat) :=
  let s : State := State.reset
  let q : BitVec 16 := 1
  let p : Fin 16 := 1
  let u : Fin 3 := 1
  let b : List Byte := (monFrame 0 q.toNat 10 0 (toBytes 2 (2 ^ p.val) ++ [0])).map (BitVec.ofNat 8)
  let s : State := (s.sf F.DBG_MBX_STAT_ONLINE 0 1) |> fun (s : State) => { s with dbg := { s.dbg with ports := [] } }
      |> fun (s : State) => ((s.sf F.PART_STATE_STATE p stRunning).sf F.TRC_REPLAY_STAT_RESTORING p 0).setFz p {}
      |> fun (s : State) => s.setReg .PART_FRZ_STATUS p 0
  let x : List Nat := (monBytes u.val (b.map (·.toNat)) s)
  (s, u, b, p, x)
theorem witness_MonitorDebugCommandsTakeEffect_monFreeze : ∃ (s : State) (u : Fin 3) (b : List Byte) (p : Fin 16) (x : List Nat),
    x = monBytes u.val (b.map (·.toNat)) s ∧ monServes u.val s = true ∧ frameOk x = true ∧ x.getD 6 0 = 10 ∧ leAt x 8 2 = 3 ∧
    (Store.get ({} : MonPort) s.dbg.ports u.val).seq ≠ some (leAt x 4 2) ∧ leAt x 12 2 = 2 ^ p.val ∧ x.getD 14 0 = 0 ∧
    s.live p = true ∧ s.flag F.TRC_REPLAY_STAT_RESTORING p = false ∧ s.hasCause p 8 = false ∧
    (∀ q ∈ ((s.fz p).ctl (s.leadBase p)).raised, q.cause ≠ 8) :=
  ⟨wit_MonitorDebugCommandsTakeEffect_monFreeze.1, wit_MonitorDebugCommandsTakeEffect_monFreeze.2.1,
      wit_MonitorDebugCommandsTakeEffect_monFreeze.2.2.1, wit_MonitorDebugCommandsTakeEffect_monFreeze.2.2.2.1,
      wit_MonitorDebugCommandsTakeEffect_monFreeze.2.2.2.2, by decide +kernel⟩

def wit_MonitorDebugCommandsTakeEffect_monCapture : State × (Fin 3) × (List Byte) × (Fin 16) × (List Nat) :=
  let s : State := State.reset
  let e : BitVec 16 := 1
  let q : BitVec 16 := 1
  let p : Fin 16 := 1
  let u : Fin 3 := 1
  let b : List Byte := (monFrame 0 q.toNat 11 0 ([p.val, 0, e.toNat % 256, e.toNat / 256])).map (BitVec.ofNat 8)
  let s : State := (s.sf F.DBG_MBX_STAT_ONLINE 0 1) |> fun (s : State) => { s with dbg := { s.dbg with ports := [] } }
  let x : List Nat := (monBytes u.val (b.map (·.toNat)) s)
  (s, u, b, p, x)
theorem witness_MonitorDebugCommandsTakeEffect_monCapture : ∃ (s : State) (u : Fin 3) (b : List Byte) (p : Fin 16) (x : List Nat),
    x = monBytes u.val (b.map (·.toNat)) s ∧ monServes u.val s = true ∧ frameOk x = true ∧ x.getD 6 0 = 11 ∧ leAt x 8 2 = 4 ∧
    (Store.get ({} : MonPort) s.dbg.ports u.val).seq ≠ some (leAt x 4 2) ∧ x.getD 12 0 = p :=
  ⟨wit_MonitorDebugCommandsTakeEffect_monCapture.1, wit_MonitorDebugCommandsTakeEffect_monCapture.2.1,
      wit_MonitorDebugCommandsTakeEffect_monCapture.2.2.1, wit_MonitorDebugCommandsTakeEffect_monCapture.2.2.2.1,
      wit_MonitorDebugCommandsTakeEffect_monCapture.2.2.2.2, by decide +kernel⟩

def wit_MonitorDebugCommandsTakeEffect_hallpassNonce : State × (Fin 3) × (List Byte) × (List Nat) :=
  let s : State := State.reset
  let q : BitVec 16 := 1
  let u : Fin 3 := 1
  let b : List Byte := (monFrame 0 q.toNat 12 0 ([0])).map (BitVec.ofNat 8)
  let s : State := (s.sf F.DBG_MBX_STAT_ONLINE 0 1) |> fun (s : State) => { s with dbg := { s.dbg with ports := [] } }
  let x : List Nat := (monBytes u.val (b.map (·.toNat)) s)
  (s, u, b, x)
theorem witness_MonitorDebugCommandsTakeEffect_hallpassNonce : ∃ (s : State) (u : Fin 3) (b : List Byte) (x : List Nat),
    x = monBytes u.val (b.map (·.toNat)) s ∧ monServes u.val s = true ∧ frameOk x = true ∧ x.getD 6 0 = 12 ∧ leAt x 8 2 = 1 ∧
    (Store.get ({} : MonPort) s.dbg.ports u.val).seq ≠ some (leAt x 4 2) ∧ x.getD 12 0 = 0 :=
  ⟨wit_MonitorDebugCommandsTakeEffect_hallpassNonce.1, wit_MonitorDebugCommandsTakeEffect_hallpassNonce.2.1,
      wit_MonitorDebugCommandsTakeEffect_hallpassNonce.2.2.1, wit_MonitorDebugCommandsTakeEffect_hallpassNonce.2.2.2,
      by decide +kernel⟩

/-- The first 13 bytes of the frame that presents a hall pass: HALLPASS, SUB 1, sequence number 1, 257 bytes of payload. -/
def passHead : List Nat := [0x44, 0x4D, 1, 0, 1, 0, 12, 0, 1, 1, 0, 0, 1]

/-- The pass: 256 bytes of zeros. -/
def passBody : List Nat := List.replicate 256 0

/-- One byte of the CRC. -/
def crcStep (c b : Nat) : Nat := (List.range 8).foldl (fun c _ => crc32bit c) (Nat.xor c b)

theorem crcStep_zeros :
    passHead.foldl crcStep 0xFFFFFFFF = 3237817322 ∧ (List.replicate 32 0).foldl crcStep 3237817322 = 3412469608 ∧
    (List.replicate 32 0).foldl crcStep 3412469608 = 1671757246 ∧ (List.replicate 32 0).foldl crcStep 1671757246 = 4184302452 ∧
    (List.replicate 32 0).foldl crcStep 4184302452 = 1923344033 ∧ (List.replicate 32 0).foldl crcStep 1923344033 = 1698374830 ∧
    (List.replicate 32 0).foldl crcStep 1698374830 = 1072353442 ∧ (List.replicate 32 0).foldl crcStep 1072353442 = 2471855174 ∧
    (List.replicate 32 0).foldl crcStep 2471855174 = 1927889151 := by decide +kernel

theorem crc32_eq (l : List Nat) : crc32 l = Nat.xor (l.foldl crcStep 0xFFFFFFFF) 0xFFFFFFFF := rfl

theorem crc32_pass : crc32 (passHead ++ passBody) = 2367078144 := by
  obtain ⟨h, a, b, c, d, e, f, g, i⟩ := crcStep_zeros
  have z : passBody = ((((((List.replicate 32 0 ++ List.replicate 32 0) ++ List.replicate 32 0) ++ List.replicate 32 0) ++
      List.replicate 32 0) ++ List.replicate 32 0) ++ List.replicate 32 0) ++ List.replicate 32 (0 : Nat) := by decide +kernel
  have k : (passHead ++ passBody).foldl crcStep 0xFFFFFFFF = 1927889151 := by
    rw [z, List.foldl_append, List.foldl_append, List.foldl_append, List.foldl_append, List.foldl_append, List.foldl_append,
      List.foldl_append, List.foldl_append, h, a, b, c, d, e, f, g, i]
  rw [crc32_eq, k]
  decide +kernel

/-- A frame that presents a pass of zeros. -/
def passFrame : List Nat := passHead ++ passBody ++ toBytes 4 2367078144

theorem frameOk_passFrame : frameOk passFrame = true := by
  have h : passFrame.take (12 + leAt passFrame 8 2) = passHead ++ passBody := by decide +kernel
  have k : leAt passFrame (12 + leAt passFrame 8 2) 4 = 2367078144 := by decide +kernel
  have e : passFrame.take 3 = [0x44, 0x4D, 1] ∧ leAt passFrame 8 2 ≤ 1024 ∧
      passFrame.length = 16 + leAt passFrame 8 2 := by decide +kernel
  unfold frameOk
  simp only [h, k, e, crc32_pass, decide_true, Bool.and_self]

def wit_MonitorDebugCommandsTakeEffect_hallpassPresent : State × (Fin 3) × (List Byte) × (List Nat) :=
  let s : State := State.reset
  let u : Fin 3 := 1
  let b : List Byte := passFrame.map (BitVec.ofNat 8)
  let s : State := (s.sf F.DBG_MBX_STAT_ONLINE 0 1) |> fun (s : State) => { s with dbg := { s.dbg with ports := [] } }
  let x : List Nat := passFrame
  (s, u, b, x)
theorem witness_MonitorDebugCommandsTakeEffect_hallpassPresent : ∃ (s : State) (u : Fin 3) (b : List Byte) (x : List Nat),
    x = monBytes u.val (b.map (·.toNat)) s ∧ monServes u.val s = true ∧ frameOk x = true ∧ x.getD 6 0 = 12 ∧ leAt x 8 2 = 257 ∧
    (Store.get ({} : MonPort) s.dbg.ports u.val).seq ≠ some (leAt x 4 2) ∧ x.getD 12 0 = 1 ∧
    passOk ((x.drop 13).take 256) s = false :=
  ⟨wit_MonitorDebugCommandsTakeEffect_hallpassPresent.1, wit_MonitorDebugCommandsTakeEffect_hallpassPresent.2.1,
      wit_MonitorDebugCommandsTakeEffect_hallpassPresent.2.2.1, wit_MonitorDebugCommandsTakeEffect_hallpassPresent.2.2.2,
      by decide +kernel, by decide +kernel, frameOk_passFrame, by decide +kernel⟩

def wit_MonitorDebugCommandsTakeEffect_hallpassWithdraw : State × (Fin 3) × (List Byte) × (List Nat) :=
  let s : State := State.reset
  let q : BitVec 16 := 1
  let u : Fin 3 := 1
  let b : List Byte := (monFrame 0 q.toNat 12 0 ([2])).map (BitVec.ofNat 8)
  let s : State := (s.sf F.DBG_MBX_STAT_ONLINE 0 1) |> fun (s : State) => { s with dbg := { s.dbg with ports := [] } }
      |> fun (s : State) => s.sf F.DBG_HP_STAT_ACTIVE 0 1
  let x : List Nat := (monBytes u.val (b.map (·.toNat)) s)
  (s, u, b, x)
theorem witness_MonitorDebugCommandsTakeEffect_hallpassWithdraw : ∃ (s : State) (u : Fin 3) (b : List Byte) (x : List Nat),
    x = monBytes u.val (b.map (·.toNat)) s ∧ monServes u.val s = true ∧ frameOk x = true ∧ x.getD 6 0 = 12 ∧ leAt x 8 2 = 1 ∧
    (Store.get ({} : MonPort) s.dbg.ports u.val).seq ≠ some (leAt x 4 2) ∧ x.getD 12 0 = 2 ∧ s.flag F.DBG_HP_STAT_ACTIVE 0 = true :=
  ⟨wit_MonitorDebugCommandsTakeEffect_hallpassWithdraw.1, wit_MonitorDebugCommandsTakeEffect_hallpassWithdraw.2.1,
      wit_MonitorDebugCommandsTakeEffect_hallpassWithdraw.2.2.1, wit_MonitorDebugCommandsTakeEffect_hallpassWithdraw.2.2.2,
      by decide +kernel⟩

def wit_MonitorDebugCommandsTakeEffect_badMonitorFrame : State × (Fin 3) × (List Byte) × Bool × (List Nat) :=
  let s : State := State.reset
  let u : Fin 3 := 1
  let b : List Byte := []
  let busy : Bool := false
  let s : State := (s.sf F.DBG_MBX_STAT_ONLINE 0 1).sf F.DBG_MBX_STAT_BUSY 0 1
  let x : List Nat := (monBytes u.val (b.map (·.toNat)) s)
  (s, u, b, busy, x)
theorem witness_MonitorDebugCommandsTakeEffect_badMonitorFrame : ∃ (s : State) (u : Fin 3) (b : List Byte) (busy : Bool) (x : List Nat), x = monBytes u.val (b.map (·.toNat)) s ∧ monServes u.val s = true ∧ busy = false ∧ frameOk x = false :=
  ⟨wit_MonitorDebugCommandsTakeEffect_badMonitorFrame.1, wit_MonitorDebugCommandsTakeEffect_badMonitorFrame.2.1,
      wit_MonitorDebugCommandsTakeEffect_badMonitorFrame.2.2.1, wit_MonitorDebugCommandsTakeEffect_badMonitorFrame.2.2.2.1,
      wit_MonitorDebugCommandsTakeEffect_badMonitorFrame.2.2.2.2, by decide +kernel⟩

def wit_MonitorDebugCommandsTakeEffect_badMonitorFrame_2 : State × (Fin 3) × (List Byte) × Bool × (List Nat) :=
  let s : State := State.reset
  let q : BitVec 16 := 1
  let u : Fin 3 := 1
  let b : List Byte := (monFrame 0 q.toNat 13 0 ([])).map (BitVec.ofNat 8)
  let busy : Bool := false
  let s : State := (s.sf F.DBG_MBX_STAT_ONLINE 0 1) |> fun (s : State) => { s with dbg := { s.dbg with ports := [] } }
  let x : List Nat := (monBytes u.val (b.map (·.toNat)) s)
  (s, u, b, busy, x)
theorem witness_MonitorDebugCommandsTakeEffect_badMonitorFrame_2 : ∃ (s : State) (u : Fin 3) (b : List Byte) (busy : Bool) (x : List Nat), x = monBytes u.val (b.map (·.toNat)) s ∧ monServes u.val s = true ∧ frameOk x = true ∧ frameReserved x = true ∧ (Store.get ({} : MonPort) s.dbg.ports u.val).seq ≠ some (leAt x 4 2) ∧ busy = false :=
  ⟨wit_MonitorDebugCommandsTakeEffect_badMonitorFrame_2.1, wit_MonitorDebugCommandsTakeEffect_badMonitorFrame_2.2.1,
      wit_MonitorDebugCommandsTakeEffect_badMonitorFrame_2.2.2.1, wit_MonitorDebugCommandsTakeEffect_badMonitorFrame_2.2.2.2.1,
      wit_MonitorDebugCommandsTakeEffect_badMonitorFrame_2.2.2.2.2, by decide +kernel⟩

def wit_NetworkRequestsTakeEffect_netRead : State × Requester × Pkt × Byte × Bool × Bool × Bool × Bool × Nat × (List Nat × State) :=
  let s : State := State.reset
  let peek : Bool := true
  let force : Bool := true
  let rq : Requester := .device 0x10
  let k : Pkt := { addr := 4 * 77, src := 1, dst := 2, cut := 0, bar := 0, tag := 3, epoch := 0 }
  let len : Byte := 3
  let fetch : Bool := false
  let badOp : Bool := false
  let n : Nat := len.toNat + 1
  let s : State := s
  let q : List Nat × State := (targetRead rq k.bar.val peek force k.addr.toNat (len.toNat + 1) s)
  (s, rq, k, len, peek, force, fetch, badOp, n, q)
theorem witness_NetworkRequestsTakeEffect_netRead : ∃ (s : State) (rq : Requester) (k : Pkt) (len : Byte) (peek force fetch badOp : Bool) (n : Nat) (q : List Nat × State), n = len.toNat + 1 ∧ (coreBars rq (if fetch then 3 else 0) k.addr.toNat n = false) ∧ k.cut = 0 ∧ crosses k.src.val k.dst.val s = true ∧ (hasEpoch rq = true → k.epoch.toNat = reqEpoch rq s) ∧ badOp = false ∧ k.addr.toNat % 4096 + n ≤ 4096 ∧ q = targetRead rq k.bar.val peek force k.addr.toNat n s ∧ crosses k.dst.val k.src.val q.2 = true :=
  ⟨wit_NetworkRequestsTakeEffect_netRead.1, wit_NetworkRequestsTakeEffect_netRead.2.1, wit_NetworkRequestsTakeEffect_netRead.2.2.1,
      wit_NetworkRequestsTakeEffect_netRead.2.2.2.1, wit_NetworkRequestsTakeEffect_netRead.2.2.2.2.1,
      wit_NetworkRequestsTakeEffect_netRead.2.2.2.2.2.1, wit_NetworkRequestsTakeEffect_netRead.2.2.2.2.2.2.1,
      wit_NetworkRequestsTakeEffect_netRead.2.2.2.2.2.2.2.1, wit_NetworkRequestsTakeEffect_netRead.2.2.2.2.2.2.2.2.1,
      wit_NetworkRequestsTakeEffect_netRead.2.2.2.2.2.2.2.2.2, by decide +kernel⟩

def wit_NetworkRequestsTakeEffect_netWrite : State × Requester × Pkt × (BitVec 64) × (List Byte) × State :=
  let s : State := State.reset
  let be : BitVec 64 := 1
  let rq : Requester := .device 0x10
  let k : Pkt := { addr := 4 * 77, src := 1, dst := 2, cut := 0, bar := 0, tag := 3, epoch := 0 }
  let data : List Byte := [1, 2, 3, 4]
  let s : State := s
  let q : State := (targetWrite rq k.bar.val k.addr.toNat (data.map (·.toNat)) (enables be.toNat) s)
  (s, rq, k, be, data, q)
theorem witness_NetworkRequestsTakeEffect_netWrite : ∃ (s : State) (rq : Requester) (k : Pkt) (be : BitVec 64) (data : List Byte) (q : State), isHost rq = false ∧ 0 < data.length ∧ data.length ≤ 256 ∧ coreBars rq 1 k.addr.toNat data.length = false ∧ k.cut = 0 ∧ crosses k.src.val k.dst.val s = true ∧ (hasEpoch rq = true → k.epoch.toNat = reqEpoch rq s) ∧ k.addr.toNat % 4096 + data.length ≤ 4096 ∧ q = targetWrite rq k.bar.val k.addr.toNat (data.map (·.toNat)) (enables be.toNat) s ∧ crosses k.dst.val k.src.val q = true :=
  ⟨wit_NetworkRequestsTakeEffect_netWrite.1, wit_NetworkRequestsTakeEffect_netWrite.2.1,
      wit_NetworkRequestsTakeEffect_netWrite.2.2.1, wit_NetworkRequestsTakeEffect_netWrite.2.2.2.1,
      wit_NetworkRequestsTakeEffect_netWrite.2.2.2.2.1, wit_NetworkRequestsTakeEffect_netWrite.2.2.2.2.2, by decide +kernel⟩

def wit_NetworkRequestsTakeEffect_netWriteP : State × Requester × Pkt × (BitVec 64) × (List Byte) × Reg × Nat :=
  let s : State := State.reset
  let rq : Requester := .pf0
  let k : Pkt := { addr := 0x1000100, src := 1, dst := 2, cut := 0, bar := 0, tag := 3, epoch := 0 }
  let be : BitVec 64 := 0xF
  let data : List Byte := [1, 2, 3, 0x40]
  let r : Reg := .HIF_WIN_LO
  let i : Nat := 0
  let s : State := s
  (s, rq, k, be, data, r, i)
theorem witness_NetworkRequestsTakeEffect_netWriteP : ∃ (s : State) (rq : Requester) (k : Pkt) (be : BitVec 64) (data : List Byte) (r : Reg) (i : Nat), data.length = 4 ∧ k.addr.toNat % 4 = 0 ∧ k.addr.toNat < 0x1700000 ∧ k.bar = 0 ∧ be.toNat % 16 = 15 ∧ within k.addr.toNat lockerBase 0x10000 = false ∧ regAt k.addr.toNat = some (r, i) ∧ k.cut = 0 ∧ crosses k.src.val k.dst.val s = true ∧ (hasEpoch rq = true → k.epoch.toNat = reqEpoch rq s) :=
  ⟨wit_NetworkRequestsTakeEffect_netWriteP.1, wit_NetworkRequestsTakeEffect_netWriteP.2.1,
      wit_NetworkRequestsTakeEffect_netWriteP.2.2.1, wit_NetworkRequestsTakeEffect_netWriteP.2.2.2.1,
      wit_NetworkRequestsTakeEffect_netWriteP.2.2.2.2.1, wit_NetworkRequestsTakeEffect_netWriteP.2.2.2.2.2.1,
      wit_NetworkRequestsTakeEffect_netWriteP.2.2.2.2.2.2, by decide +kernel⟩

def wit_NetworkRequestsTakeEffect_netAmo : State × Requester × Pkt × AmoOp × Bool × (BitVec 64) × Nat × (List Nat × State) :=
  let s : State := State.reset
  let op : AmoOp := .add
  let wide : Bool := true
  let v : BitVec 64 := 1
  let rq : Requester := .device 0x10
  let k : Pkt := { addr := 0x200000010, src := 1, dst := 2, cut := 0, bar := 0, tag := 3, epoch := 0 }
  let n : Nat := if wide then 8 else 4
  let s : State := s
  let q : List Nat × State := (targetAmo rq op (if wide then 8 else 4) k.addr.toNat v.toNat s)
  (s, rq, k, op, wide, v, n, q)
theorem witness_NetworkRequestsTakeEffect_netAmo : ∃ (s : State) (rq : Requester) (k : Pkt) (op : AmoOp) (wide : Bool) (v : BitVec 64) (n : Nat) (q : List Nat × State), (n = if wide then 8 else 4) ∧ isHost rq = false ∧ k.addr.toNat % n = 0 ∧ coreBars rq 2 k.addr.toNat n = false ∧ k.cut = 0 ∧ crosses k.src.val k.dst.val s = true ∧ (hasEpoch rq = true → k.epoch.toNat = reqEpoch rq s) ∧ q = targetAmo rq op n k.addr.toNat v.toNat s ∧ crosses k.dst.val k.src.val q.2 = true :=
  ⟨wit_NetworkRequestsTakeEffect_netAmo.1, wit_NetworkRequestsTakeEffect_netAmo.2.1, wit_NetworkRequestsTakeEffect_netAmo.2.2.1,
      wit_NetworkRequestsTakeEffect_netAmo.2.2.2.1, wit_NetworkRequestsTakeEffect_netAmo.2.2.2.2.1,
      wit_NetworkRequestsTakeEffect_netAmo.2.2.2.2.2.1, wit_NetworkRequestsTakeEffect_netAmo.2.2.2.2.2.2.1,
      wit_NetworkRequestsTakeEffect_netAmo.2.2.2.2.2.2.2, by decide +kernel⟩

def wit_NetworkRequestsTakeEffect_response : State × Requester × Byte × (List Nat) × TnReq :=
  let s : State := State.reset
  let rq : Requester := .pf0
  let tag : Byte := 1
  let b : List Nat := []
  let s : State := { s with tn := { s.tn with flight := [{ rq := rq, tag := tag.toNat, kind := 0, ans := some (b, 0, 0) }] } }
  let r : TnReq := ({ rq := rq, tag := tag.toNat, kind := 0, ans := some (b, 0, 0) })
  (s, rq, tag, b, r)
theorem witness_NetworkRequestsTakeEffect_response : ∃ (s : State) (rq : Requester) (tag : Byte) (b : List Nat) (r : TnReq),
    findReq rq tag.toNat s = some r ∧ r.ans = some (b, 0, 0) :=
  ⟨wit_NetworkRequestsTakeEffect_response.1, wit_NetworkRequestsTakeEffect_response.2.1,
      wit_NetworkRequestsTakeEffect_response.2.2.1, wit_NetworkRequestsTakeEffect_response.2.2.2.1,
      wit_NetworkRequestsTakeEffect_response.2.2.2.2, by decide +kernel⟩

def wit_NetworkRequestsTakeEffect_response_2 : State × Requester × Byte × (Fin 64) × Priv × (List Nat) × (Fin 4) × Nat × Nat :=
  let s : State := State.reset
  let tag : Byte := 1
  let b : List Nat := []
  let kd : Fin 4 := 1
  let rq : Requester := .core 5 .machine
  let c : Fin 64 := 5
  let m : Priv := .machine
  let st : Nat := 0x21
  let ek : Nat := 4
  let s : State := { s with tn := { s.tn with flight := [{ rq := rq, tag := tag.toNat, kind := kd.val, ans := some (b, st, ek) }] } }
  (s, rq, tag, c, m, b, kd, st, ek)
theorem witness_NetworkRequestsTakeEffect_response_2 : ∃ (s : State) (rq : Requester) (tag : Byte) (c : Fin 64) (m : Priv) (b : List Nat) (kd : Fin 4) (st ek : Nat), rq = .core c m ∧ findReq rq tag.toNat s = some { rq := rq, tag := tag.toNat, kind := kd.val, ans := some (b, st, ek) } ∧ st ≠ 0 :=
  ⟨wit_NetworkRequestsTakeEffect_response_2.1, wit_NetworkRequestsTakeEffect_response_2.2.1,
      wit_NetworkRequestsTakeEffect_response_2.2.2.1, wit_NetworkRequestsTakeEffect_response_2.2.2.2.1,
      wit_NetworkRequestsTakeEffect_response_2.2.2.2.2.1, wit_NetworkRequestsTakeEffect_response_2.2.2.2.2.2.1,
      wit_NetworkRequestsTakeEffect_response_2.2.2.2.2.2.2.1, wit_NetworkRequestsTakeEffect_response_2.2.2.2.2.2.2.2.1,
      wit_NetworkRequestsTakeEffect_response_2.2.2.2.2.2.2.2.2, by decide +kernel⟩

def wit_NetworkRequestsTakeEffect_requestTimeout : State × Requester × Byte × TnReq :=
  let s : State := State.reset
  let rq : Requester := .pf0
  let tag : Byte := 1
  let s : State := { s with tn := { s.tn with flight := [{ rq := rq, tag := tag.toNat, kind := 0, ans := none }] } }
  let r : TnReq := ({ rq := rq, tag := tag.toNat, kind := 0, ans := none })
  (s, rq, tag, r)
theorem witness_NetworkRequestsTakeEffect_requestTimeout : ∃ (s : State) (rq : Requester) (tag : Byte) (r : TnReq),
    findReq rq tag.toNat s = some r :=
  ⟨wit_NetworkRequestsTakeEffect_requestTimeout.1, wit_NetworkRequestsTakeEffect_requestTimeout.2.1,
      wit_NetworkRequestsTakeEffect_requestTimeout.2.2.1, wit_NetworkRequestsTakeEffect_requestTimeout.2.2.2, by decide +kernel⟩

def wit_NetworkRequestsTakeEffect_doorbell : State × (Fin 64) × (Fin 16384) :=
  let s : State := State.reset
  let q : Fin 16384 := 1
  let f : Fin 64 := 0
  let s : State := (((s.sf F.DSP_Q_STAT_STATE q qEnabled).sf F.DSP_Q_CFG_OWNER q 0).sf F.DSP_Q_HEAD_HEAD q 5).sf F.DSP_Q_TAIL_TAIL q 5 |> fun (s : State) => s.sf F.DSP_Q_RING_HI_DEPTH_LOG2 q 3
  (s, f, q)
theorem witness_NetworkRequestsTakeEffect_doorbell : ∃ (s : State) (f : Fin 64) (q : Fin 16384), (f = 0 ∨ (s.hif.vfEnable = true ∧
    s.gf F.DSP_Q_CFG_OWNER q = f)) ∧ s.gf F.DSP_Q_CFG_OWNER q ≠ 0x40 ∧ (s.qst q = qEnabled ∨ s.qst q = qPaused) ∧ qFull q s = false :=
  ⟨wit_NetworkRequestsTakeEffect_doorbell.1, wit_NetworkRequestsTakeEffect_doorbell.2.1, wit_NetworkRequestsTakeEffect_doorbell.2.2,
      by decide +kernel⟩

def wit_NetworkRequestsTakeEffect_apertureRequest : State × Requester × (Fin 64) × Bool :=
  let s : State := State.reset
  let f : Fin 64 := 1
  let rq : Requester := .device 0x10
  let write : Bool := true
  let s : State := { s.sf F.HIF_AP_LO_ADDR f 7 with hif := { s.hif with vfEnable := true } }
  (s, rq, f, write)
theorem witness_NetworkRequestsTakeEffect_apertureRequest : ∃ (s : State) (rq : Requester) (f : Fin 64) (write : Bool),
    apUser rq = true ∧ write = true ∧ apOpen f s = true :=
  ⟨wit_NetworkRequestsTakeEffect_apertureRequest.1, wit_NetworkRequestsTakeEffect_apertureRequest.2.1,
      wit_NetworkRequestsTakeEffect_apertureRequest.2.2.1, wit_NetworkRequestsTakeEffect_apertureRequest.2.2.2, by decide +kernel⟩

def wit_NetworkRequestsTakeEffect_apertureRequest_2 : State × Requester × (Fin 64) × Bool :=
  let s : State := State.reset
  let f : Fin 64 := 1
  let rq : Requester := .core 3 .user
  let write : Bool := false
  let s : State := { s.sf F.HIF_AP_LO_ADDR f 7 with hif := { s.hif with vfEnable := true } }
  (s, rq, f, write)
theorem witness_NetworkRequestsTakeEffect_apertureRequest_2 : ∃ (s : State) (rq : Requester) (f : Fin 64) (write : Bool),
    apUser rq = true ∧ write = false ∧ apOpen f s = true :=
  ⟨wit_NetworkRequestsTakeEffect_apertureRequest_2.1, wit_NetworkRequestsTakeEffect_apertureRequest_2.2.1,
      wit_NetworkRequestsTakeEffect_apertureRequest_2.2.2.1, wit_NetworkRequestsTakeEffect_apertureRequest_2.2.2.2, by decide +kernel⟩

def wit_TutorInstructionsTakeEffect_dxBellwait : State × (Fin 64) × Priv :=
  let s : State := State.reset
  let c : Fin 64 := 1
  let m : Priv := .machine
  let s : State := s.sf F.DBG_CORE_STAT_STATE c 1
      |> fun (s : State) => (s.sf F.RST_PWR_STAT_STATE 0 0).modCore c fun r => { r with wait := none }
  (s, c, m)
theorem witness_TutorInstructionsTakeEffect_dxBellwait : ∃ (s : State) (c : Fin 64) (m : Priv), coreFree c s = true ∧
    (m ≠ .user ∨ bitAt (csrHeld c csrCtl s) 0 = 1) :=
  ⟨wit_TutorInstructionsTakeEffect_dxBellwait.1, wit_TutorInstructionsTakeEffect_dxBellwait.2.1,
      wit_TutorInstructionsTakeEffect_dxBellwait.2.2, by decide +kernel⟩

def wit_TutorInstructionsTakeEffect_dxBellwait_2 : State × (Fin 64) × Priv :=
  let s : State := State.reset
  let c : Fin 64 := 1
  let m : Priv := .user
  let s : State := s.sf F.DBG_CORE_STAT_STATE c 1
      |> fun (s : State) => ((s.sf F.RST_PWR_STAT_STATE 0 0).modCore c fun r => { r with wait := none }) |> csrPut c csrCtl 0
  (s, c, m)
theorem witness_TutorInstructionsTakeEffect_dxBellwait_2 : ∃ (s : State) (c : Fin 64) (m : Priv), coreFree c s = true ∧ m = .user ∧
    bitAt (csrHeld c csrCtl s) 0 = 0 :=
  ⟨wit_TutorInstructionsTakeEffect_dxBellwait_2.1, wit_TutorInstructionsTakeEffect_dxBellwait_2.2.1,
      wit_TutorInstructionsTakeEffect_dxBellwait_2.2.2, by decide +kernel⟩

def wit_TutorInstructionsTakeEffect_bellwaitWake : State × (Fin 64) × (Fin 4) × Nat × Nat × Nat :=
  let s : State := State.reset
  let c : Fin 64 := 1
  let p : Nat := 1
  let target : Nat := 1
  let rd : Nat := 1
  let reason : Fin 4 := 2
  let s : State := s.modCore c fun r => { r with wait := some { bell := some (p, target), rd := rd } }
  (s, c, reason, p, target, rd)
theorem witness_TutorInstructionsTakeEffect_bellwaitWake : ∃ (s : State) (c : Fin 64) (reason : Fin 4) (p target rd : Nat),
    (s.core c).wait = some { bell := some (p, target), rd := rd } ∧ bellEnds c p target reason s = true :=
  ⟨wit_TutorInstructionsTakeEffect_bellwaitWake.1, wit_TutorInstructionsTakeEffect_bellwaitWake.2.1,
      wit_TutorInstructionsTakeEffect_bellwaitWake.2.2.1, wit_TutorInstructionsTakeEffect_bellwaitWake.2.2.2.1,
      wit_TutorInstructionsTakeEffect_bellwaitWake.2.2.2.2.1, wit_TutorInstructionsTakeEffect_bellwaitWake.2.2.2.2.2,
      by decide +kernel⟩

def wit_TutorInstructionsTakeEffect_dxDeskpop : State × (Fin 64) × Priv × Task × (List Task) :=
  let s : State := State.reset
  let c : Fin 64 := 1
  let m : Priv := .machine
  let k : Task := { entry := 2 ^ 40 + 5, queue := 7, prio := 3 }
  let rest : List Task := [{ entry := 9, queue := 2 }]
  let s : State := s.sf F.DBG_CORE_STAT_STATE c 1
      |> fun (s : State) => (s.sf F.RST_PWR_STAT_STATE 0 0).modCore c fun r => { r with wait := none, cur := none, desk := k :: rest }
  (s, c, m, k, rest)
theorem witness_TutorInstructionsTakeEffect_dxDeskpop : ∃ (s : State) (c : Fin 64) (m : Priv) (k : Task) (rest : List Task),
    coreFree c s = true ∧ (m ≠ .user ∨ bitAt (csrHeld c csrCtl s) 0 = 1) ∧ (s.core c).cur = none ∧ (s.core c).desk = k :: rest :=
  ⟨wit_TutorInstructionsTakeEffect_dxDeskpop.1, wit_TutorInstructionsTakeEffect_dxDeskpop.2.1,
      wit_TutorInstructionsTakeEffect_dxDeskpop.2.2.1, wit_TutorInstructionsTakeEffect_dxDeskpop.2.2.2.1,
      wit_TutorInstructionsTakeEffect_dxDeskpop.2.2.2.2, by decide +kernel⟩

def wit_TutorInstructionsTakeEffect_dxDeskpop_2 : State × (Fin 64) × Priv :=
  let s : State := State.reset
  let c : Fin 64 := 1
  let m : Priv := .machine
  let s : State := s.sf F.DBG_CORE_STAT_STATE c 1
      |> fun (s : State) => (s.sf F.RST_PWR_STAT_STATE 0 0).modCore c fun r => { r with wait := none, cur := none, desk := [] }
  (s, c, m)
theorem witness_TutorInstructionsTakeEffect_dxDeskpop_2 : ∃ (s : State) (c : Fin 64) (m : Priv), coreFree c s = true ∧
    (m ≠ .user ∨ bitAt (csrHeld c csrCtl s) 0 = 1) ∧ (s.core c).cur = none ∧ (s.core c).desk = [] :=
  ⟨wit_TutorInstructionsTakeEffect_dxDeskpop_2.1, wit_TutorInstructionsTakeEffect_dxDeskpop_2.2.1,
      wit_TutorInstructionsTakeEffect_dxDeskpop_2.2.2, by decide +kernel⟩

def wit_TutorInstructionsTakeEffect_deskpopTimeout : State × (Fin 64) × Bool × Nat :=
  let s : State := State.reset
  let c : Fin 64 := 1
  let rd : Nat := 1
  let irq : Bool := true
  let s : State := s.modCore c fun r => { r with wait := some { bell := none, rd := rd } }
  (s, c, irq, rd)
theorem witness_TutorInstructionsTakeEffect_deskpopTimeout : ∃ (s : State) (c : Fin 64) (irq : Bool) (rd : Nat),
    (s.core c).wait = some { bell := none, rd := rd } ∧ (irq = true ∨ csrHeld c csrTmo s / 65536 % 65536 ≠ 0) :=
  ⟨wit_TutorInstructionsTakeEffect_deskpopTimeout.1, wit_TutorInstructionsTakeEffect_deskpopTimeout.2.1,
      wit_TutorInstructionsTakeEffect_deskpopTimeout.2.2.1, wit_TutorInstructionsTakeEffect_deskpopTimeout.2.2.2, by decide +kernel⟩

def wit_TutorInstructionsTakeEffect_dxDeskdone : State × (Fin 64) × Priv × Task :=
  let s : State := State.reset
  let c : Fin 64 := 1
  let m : Priv := .machine
  let k : Task := { entry := 2 ^ 40 + 5, queue := 7, prio := 3, flags := 2 }
  let s : State := s.sf F.DBG_CORE_STAT_STATE c 1
      |> fun (s : State) => ((s.sf F.RST_PWR_STAT_STATE 0 0).modCore c fun r => { r with wait := none, cur := some k, desk := [] }) |> fun (s : State) => (s.sf F.HIF_QIRQ_EN k.queue 1).sf F.DSP_Q_STAT_INFLIGHT k.queue 3
  (s, c, m, k)
theorem witness_TutorInstructionsTakeEffect_dxDeskdone : ∃ (s : State) (c : Fin 64) (m : Priv) (k : Task), coreFree c s = true ∧
    (m ≠ .user ∨ bitAt (csrHeld c csrCtl s) 0 = 1) ∧ (s.core c).cur = some k :=
  ⟨wit_TutorInstructionsTakeEffect_dxDeskdone.1, wit_TutorInstructionsTakeEffect_dxDeskdone.2.1,
      wit_TutorInstructionsTakeEffect_dxDeskdone.2.2.1, wit_TutorInstructionsTakeEffect_dxDeskdone.2.2.2, by decide +kernel⟩

def wit_TutorInstructionsTakeEffect_dxQpush : State × (Fin 64) × Priv × (BitVec 64) × (BitVec 64) × Nat × State × (List Nat × State) :=
  let s : State := State.reset
  let c : Fin 64 := 1
  let v1 : BitVec 64 := 1
  let m : Priv := .machine
  let v2 : BitVec 64 := 0x200000100
  let s : State := s.sf F.DBG_CORE_STAT_STATE c 1
      |> fun (s : State) => ((s.sf F.RST_PWR_STAT_STATE 0 0).modCore c fun r => { r with wait := none })
      |> fun (s : State) => ((s.sf F.DSP_Q_STAT_STATE (v1.toNat % 16384) qPaused).sf F.DSP_Q_CFG_OWNER (v1.toNat % 16384) 0x40).sf F.DSP_Q_HEAD_HEAD (v1.toNat % 16384) 0x1FFFF |> fun (s : State) => (s.sf F.DSP_Q_TAIL_TAIL (v1.toNat % 16384) 0x1FFFF).sf F.DSP_Q_RING_HI_DEPTH_LOG2 (v1.toNat % 16384) 3
  let q : Nat := (v1.toNat % 16384)
  let x : State := (s.modCore c fun r => { r with priv := privCode m })
  let u : List Nat × State := (memRead (.core c m) (v2.toNat % 2 ^ 48) 32 (s.modCore c fun r => { r with priv := privCode m }))
  (s, c, m, v1, v2, q, x, u)
theorem witness_TutorInstructionsTakeEffect_dxQpush : ∃ (s : State) (c : Fin 64) (m : Priv) (v1 v2 : BitVec 64) (q : Nat) (x : State) (u : List Nat × State), coreFree c s = true ∧ (m ≠ .user ∨ bitAt (csrHeld c csrCtl s) 0 = 1) ∧ q = v1.toNat % 16384 ∧ s.gf F.DSP_Q_CFG_OWNER q = 0x40 ∧ pushLegal q s = true ∧ regionAt (v2.toNat % 2 ^ 48) ≠ .control ∧ (x = s.modCore c fun r => { r with priv := privCode m }) ∧ u = memRead (.core c m) (v2.toNat % 2 ^ 48) 32 x ∧ u.2.resp.status = 0 :=
  ⟨wit_TutorInstructionsTakeEffect_dxQpush.1, wit_TutorInstructionsTakeEffect_dxQpush.2.1,
      wit_TutorInstructionsTakeEffect_dxQpush.2.2.1, wit_TutorInstructionsTakeEffect_dxQpush.2.2.2.1,
      wit_TutorInstructionsTakeEffect_dxQpush.2.2.2.2.1, wit_TutorInstructionsTakeEffect_dxQpush.2.2.2.2.2.1,
      wit_TutorInstructionsTakeEffect_dxQpush.2.2.2.2.2.2.1, wit_TutorInstructionsTakeEffect_dxQpush.2.2.2.2.2.2.2, by decide +kernel⟩

def wit_TutorInstructionsTakeEffect_dxTick : State × (Fin 64) × Priv × (BitVec 64) :=
  let s : State := State.reset
  let c : Fin 64 := 1
  let v1 : BitVec 64 := 1
  let m : Priv := .machine
  let s : State := s.sf F.DBG_CORE_STAT_STATE c 1
      |> fun (s : State) => ((s.sf F.RST_PWR_STAT_STATE 0 0).modCore c fun r => { r with wait := none }).sf F.DSP_TICK_CFG_KIND (v1.toNat % 4) 4
  (s, c, m, v1)
theorem witness_TutorInstructionsTakeEffect_dxTick : ∃ (s : State) (c : Fin 64) (m : Priv) (v1 : BitVec 64), coreFree c s = true ∧
    (m ≠ .user ∨ bitAt (csrHeld c csrCtl s) 0 = 1) ∧ s.gf F.DSP_TICK_CFG_KIND (v1.toNat % 4) = 4 :=
  ⟨wit_TutorInstructionsTakeEffect_dxTick.1, wit_TutorInstructionsTakeEffect_dxTick.2.1,
      wit_TutorInstructionsTakeEffect_dxTick.2.2.1, wit_TutorInstructionsTakeEffect_dxTick.2.2.2, by decide +kernel⟩

def wit_TutorInstructionsTakeEffect_coreTraceStop : State × (Fin 64) :=
  let s : State := State.reset
  let c : Fin 64 := 1
  let s : State := s.sf F.DBG_CORE_STAT_TRC c ctTriggered
  (s, c)
theorem witness_TutorInstructionsTakeEffect_coreTraceStop : ∃ (s : State) (c : Fin 64), s.gf F.DBG_CORE_STAT_TRC c = ctTriggered :=
  ⟨wit_TutorInstructionsTakeEffect_coreTraceStop.1, wit_TutorInstructionsTakeEffect_coreTraceStop.2, by decide +kernel⟩

def wit_DispatcherCommandsTakeEffect_queueTailWrite : State × Requester × (Fin 16384) :=
  let s : State := State.reset
  let q : Fin 16384 := 1
  let rq : Requester := .pf0
  let s : State := (((s.sf F.DSP_Q_STAT_STATE q qEnabled).sf F.DSP_Q_CFG_OWNER q 0).sf F.DSP_Q_HEAD_HEAD q 131071).sf F.DSP_Q_TAIL_TAIL q 131071 |> fun (s : State) => s.sf F.DSP_Q_RING_HI_DEPTH_LOG2 q 3
  (s, rq, q)
theorem witness_DispatcherCommandsTakeEffect_queueTailWrite : ∃ (s : State) (rq : Requester) (q : Fin 16384),
    (rq = .pf0 ∨ rq = .monitor) ∧ s.gf F.DSP_Q_CFG_OWNER q ≠ 0x40 ∧ (s.qst q = qEnabled ∨ s.qst q = qPaused) ∧ qFull q s = false :=
  ⟨wit_DispatcherCommandsTakeEffect_queueTailWrite.1, wit_DispatcherCommandsTakeEffect_queueTailWrite.2.1,
      wit_DispatcherCommandsTakeEffect_queueTailWrite.2.2, by decide +kernel⟩

def wit_DispatcherCommandsTakeEffect_qEnable : State × Requester × (Fin 16384) :=
  let s : State := State.reset
  let q : Fin 16384 := 1
  let rq : Requester := .monitor
  let s : State := (s.sf F.DSP_Q_STAT_STATE q qDisabled).sf F.DSP_Q_RING_HI_DEPTH_LOG2 q 3
  (s, rq, q)
theorem witness_DispatcherCommandsTakeEffect_qEnable : ∃ (s : State) (rq : Requester) (q : Fin 16384), qCmdOk rq q s = true ∧
    s.qst q = qDisabled ∧ 1 ≤ qDepth q s :=
  ⟨wit_DispatcherCommandsTakeEffect_qEnable.1, wit_DispatcherCommandsTakeEffect_qEnable.2.1,
      wit_DispatcherCommandsTakeEffect_qEnable.2.2, by decide +kernel⟩

def wit_DispatcherCommandsTakeEffect_qPause : State × Requester × (Fin 16384) :=
  let s : State := State.reset
  let q : Fin 16384 := 1
  let rq : Requester := .monitor
  let s : State := s.sf F.DSP_Q_STAT_STATE q qEnabled
  (s, rq, q)
theorem witness_DispatcherCommandsTakeEffect_qPause : ∃ (s : State) (rq : Requester) (q : Fin 16384), qCmdOk rq q s = true ∧
    s.qst q = qEnabled :=
  ⟨wit_DispatcherCommandsTakeEffect_qPause.1, wit_DispatcherCommandsTakeEffect_qPause.2.1,
      wit_DispatcherCommandsTakeEffect_qPause.2.2, by decide +kernel⟩

def wit_DispatcherCommandsTakeEffect_qUnpause : State × Requester × (Fin 16384) :=
  let s : State := State.reset
  let q : Fin 16384 := 1
  let rq : Requester := .monitor
  let s : State := s.sf F.DSP_Q_STAT_STATE q qPaused
  (s, rq, q)
theorem witness_DispatcherCommandsTakeEffect_qUnpause : ∃ (s : State) (rq : Requester) (q : Fin 16384), qCmdOk rq q s = true ∧
    s.qst q = qPaused :=
  ⟨wit_DispatcherCommandsTakeEffect_qUnpause.1, wit_DispatcherCommandsTakeEffect_qUnpause.2.1,
      wit_DispatcherCommandsTakeEffect_qUnpause.2.2, by decide +kernel⟩

def wit_DispatcherCommandsTakeEffect_qDisable : State × Requester × (Fin 16384) :=
  let s : State := State.reset
  let q : Fin 16384 := 1
  let c : Fin 64 := 1
  let z : Bool := true
  let rq : Requester := .monitor
  let s : State := (s.sf F.DSP_Q_STAT_STATE q (if z then qEnabled else qPaused)).modCore c fun r => { r with desk := [{ queue := q.val }, { queue := q.val + 1 }] }
  (s, rq, q)
theorem witness_DispatcherCommandsTakeEffect_qDisable : ∃ (s : State) (rq : Requester) (q : Fin 16384), qCmdOk rq q s = true ∧
    (s.qst q = qEnabled ∨ s.qst q = qPaused) :=
  ⟨wit_DispatcherCommandsTakeEffect_qDisable.1, wit_DispatcherCommandsTakeEffect_qDisable.2.1,
      wit_DispatcherCommandsTakeEffect_qDisable.2.2, by decide +kernel⟩

def wit_DispatcherCommandsTakeEffect_qFlush : State × Requester × (Fin 16384) :=
  let s : State := State.reset
  let q : Fin 16384 := 1
  let rq : Requester := .monitor
  let s : State := { s.sf F.DSP_Q_STAT_STATE q qPaused with dsp := { s.dsp with back := [(q.val, [{}])], top := [(q.val, {})] } }
  (s, rq, q)
theorem witness_DispatcherCommandsTakeEffect_qFlush : ∃ (s : State) (rq : Requester) (q : Fin 16384), qCmdOk rq q s = true ∧
    (s.qst q = qDisabled ∨ s.qst q = qPaused) :=
  ⟨wit_DispatcherCommandsTakeEffect_qFlush.1, wit_DispatcherCommandsTakeEffect_qFlush.2.1,
      wit_DispatcherCommandsTakeEffect_qFlush.2.2, by decide +kernel⟩

def wit_DispatcherCommandsTakeEffect_qCfgNextWrite : State × Requester :=
  let s : State := State.reset
  let rq : Requester := .monitor
  let s : State := s
  (s, rq)
theorem witness_DispatcherCommandsTakeEffect_qCfgNextWrite : ∃ (s : State) (rq : Requester), adminOk rq s = true :=
  ⟨wit_DispatcherCommandsTakeEffect_qCfgNextWrite.1, wit_DispatcherCommandsTakeEffect_qCfgNextWrite.2, by decide +kernel⟩

def wit_DispatcherCommandsTakeEffect_taskPlace : State × (Fin 16384) × (List Nat) × (Fin 64) × Task :=
  let s : State := State.reset
  let q : Fin 16384 := 3
  let c : Fin 64 := 9
  let k : Task := { entry := 2 ^ 40, queue := 3, prio := 2 }
  let s : State := { (s.resetAll .DSP_Q_STAT).resetAll .DSP_CORE_CFG with dsp := { s.dsp with top := [], back := [(q.val, [k])], expd := [], cores := [] } } |> fun (s : State) => ((s.sf F.DSP_Q_STAT_STATE q qEnabled).sf F.DSP_Q_CFG_INFLIGHT q 5).sf F.DSP_Q_CFG_CLUSTERS q 255 |> fun (s : State) => ((s.resetAll .DBG_CORE_STAT).sf F.DSP_CORE_CFG_EN c 1).sf F.DBG_CORE_STAT_STATE c 1 |> fun (s : State) => { s with rel := { s.rel with units := [(unitKey 2 20, { role := c.val + 1, state := uEnrolled })] } }
  let rest : List Nat := ((readyOrder s).drop 1)
  (s, q, rest, c, k)
theorem witness_DispatcherCommandsTakeEffect_taskPlace : ∃ (s : State) (q : Fin 16384) (rest : List Nat) (c : Fin 64) (k : Task),
    readyOrder s = q.val :: rest ∧ chooseCore q s = some c ∧ qHead q s = some k :=
  ⟨wit_DispatcherCommandsTakeEffect_taskPlace.1, wit_DispatcherCommandsTakeEffect_taskPlace.2.1,
      wit_DispatcherCommandsTakeEffect_taskPlace.2.2.1, wit_DispatcherCommandsTakeEffect_taskPlace.2.2.2.1,
      wit_DispatcherCommandsTakeEffect_taskPlace.2.2.2.2, by decide +kernel⟩

def wit_DispatcherCommandsTakeEffect_tickSourceTick : State × (Fin 4) :=
  let s : State := State.reset
  let n : Fin 4 := 1
  let z : Bool := true
  let s : State := s.sf F.DSP_TICK_CFG_KIND n (if z then 1 else 3)
  (s, n)
theorem witness_DispatcherCommandsTakeEffect_tickSourceTick : ∃ (s : State) (n : Fin 4),
    (s.gf F.DSP_TICK_CFG_KIND n = 1 ∨ s.gf F.DSP_TICK_CFG_KIND n = 3) :=
  ⟨wit_DispatcherCommandsTakeEffect_tickSourceTick.1, wit_DispatcherCommandsTakeEffect_tickSourceTick.2, by decide +kernel⟩

def wit_DispatcherCommandsTakeEffect_coreCfgWrite : State × Requester :=
  let s : State := State.reset
  let rq : Requester := .monitor
  let s : State := s
  (s, rq)
theorem witness_DispatcherCommandsTakeEffect_coreCfgWrite : ∃ (s : State) (rq : Requester), adminOk rq s = true :=
  ⟨wit_DispatcherCommandsTakeEffect_coreCfgWrite.1, wit_DispatcherCommandsTakeEffect_coreCfgWrite.2, by decide +kernel⟩

def wit_RegisterAccessesTakeEffect_registerWrite : State × Requester × Reg × Nat :=
  let s : State := State.reset
  let j : Fin 5 := 1
  let rq : Requester := .monitor
  let r : Reg := [Reg.HIF_WIN_LO, .HIF_WIN_HI, .HIF_AP_LO, .BBD_SCRUB_CFG, .BBD_WORD_SEL].getD j .HIF_WIN_LO
  let inst : Nat := 0
  let s : State := s
  (s, rq, r, inst)
theorem witness_RegisterAccessesTakeEffect_registerWrite : ∃ (s : State) (rq : Requester) (r : Reg) (inst : Nat),
    r ∈ [Reg.HIF_WIN_LO, .HIF_WIN_HI, .HIF_AP_LO, .BBD_SCRUB_CFG, .BBD_WORD_SEL] ∧ noRegister r inst = false ∧ adminOk rq s = true :=
  ⟨wit_RegisterAccessesTakeEffect_registerWrite.1, wit_RegisterAccessesTakeEffect_registerWrite.2.1,
      wit_RegisterAccessesTakeEffect_registerWrite.2.2.1, wit_RegisterAccessesTakeEffect_registerWrite.2.2.2, by decide +kernel⟩

def wit_RegisterAccessesTakeEffect_registerWrite_2 : Reg × Nat × (Fin 16) :=
  let r : Reg := .PART_CMD
  let inst : Nat := 3
  let p : Fin 16 := 3
  (r, inst, p)
theorem witness_RegisterAccessesTakeEffect_registerWrite_2 : ∃ (r : Reg) (inst : Nat) (p : Fin 16), r = .PART_CMD ∧ inst = p.val :=
  ⟨wit_RegisterAccessesTakeEffect_registerWrite_2.1, wit_RegisterAccessesTakeEffect_registerWrite_2.2.1,
      wit_RegisterAccessesTakeEffect_registerWrite_2.2.2, by decide +kernel⟩

def wit_RegisterAccessesTakeEffect_registerWrite_3 : Reg × Nat × (Fin 16384) :=
  let r : Reg := .DSP_Q_CMD
  let inst : Nat := 300
  let q : Fin 16384 := 300
  (r, inst, q)
theorem witness_RegisterAccessesTakeEffect_registerWrite_3 : ∃ (r : Reg) (inst : Nat) (q : Fin 16384), r = .DSP_Q_CMD ∧
    inst = q.val :=
  ⟨wit_RegisterAccessesTakeEffect_registerWrite_3.1, wit_RegisterAccessesTakeEffect_registerWrite_3.2.1,
      wit_RegisterAccessesTakeEffect_registerWrite_3.2.2, by decide +kernel⟩

def wit_RegisterAccessesTakeEffect_registerWrite_4 : Reg × Nat :=
  let r : Reg := .GLB_STEP_TARGET
  let inst : Nat := 20000
  (r, inst)
theorem witness_RegisterAccessesTakeEffect_registerWrite_4 : ∃ (r : Reg) (inst : Nat), noRegister r inst = true :=
  ⟨wit_RegisterAccessesTakeEffect_registerWrite_4.1, wit_RegisterAccessesTakeEffect_registerWrite_4.2, by decide +kernel⟩

def wit_RegisterAccessesTakeEffect_rclRead : State × Requester × Reg × Nat × Bool :=
  let s : State := State.reset
  let rq : Requester := .monitor
  let r : Reg := .NET_TN_ERR
  let ix : Nat := 0
  let peek : Bool := false
  let s : State := s
  (s, rq, r, ix, peek)
theorem witness_RegisterAccessesTakeEffect_rclRead : ∃ (s : State) (rq : Requester) (r : Reg) (ix : Nat) (peek : Bool),
    r.masks.rcl ≠ 0 ∧ r ≠ .TIM_TXTS_0 ∧ noRegister r ix = false ∧ mayRead rq r ix s = true ∧ (peek = false ∨ rq ≠ .monitor) :=
  ⟨wit_RegisterAccessesTakeEffect_rclRead.1, wit_RegisterAccessesTakeEffect_rclRead.2.1,
      wit_RegisterAccessesTakeEffect_rclRead.2.2.1, wit_RegisterAccessesTakeEffect_rclRead.2.2.2.1,
      wit_RegisterAccessesTakeEffect_rclRead.2.2.2.2, by decide +kernel⟩

def wit_RegisterAccessesTakeEffect_rclRead_2 : State × Requester × Reg × Nat × Bool :=
  let s : State := State.reset
  let rq : Requester := .monitor
  let r : Reg := .NET_TN_ERR
  let ix : Nat := 0
  let peek : Bool := true
  let s : State := s
  (s, rq, r, ix, peek)
theorem witness_RegisterAccessesTakeEffect_rclRead_2 : ∃ (s : State) (rq : Requester) (r : Reg) (ix : Nat) (peek : Bool),
    noRegister r ix = false ∧ mayRead rq r ix s = true ∧ peek = true ∧ rq = .monitor :=
  ⟨wit_RegisterAccessesTakeEffect_rclRead_2.1, wit_RegisterAccessesTakeEffect_rclRead_2.2.1,
      wit_RegisterAccessesTakeEffect_rclRead_2.2.2.1, wit_RegisterAccessesTakeEffect_rclRead_2.2.2.2.1,
      wit_RegisterAccessesTakeEffect_rclRead_2.2.2.2.2, by decide +kernel⟩

def wit_RegisterAccessesTakeEffect_latchingRead : State × Requester × Reg × Nat × Bool :=
  let s : State := State.reset
  let peek : Bool := true
  let rq : Requester := .pf0
  let r : Reg := .TIM_NOW_0
  let ix : Nat := 0
  let s : State := s
  (s, rq, r, ix, peek)
theorem witness_RegisterAccessesTakeEffect_latchingRead : ∃ (s : State) (rq : Requester) (r : Reg) (ix : Nat) (peek : Bool),
    r = .TIM_NOW_0 ∧ ix = 0 ∧ readOk rq s = true ∧ (peek = false ∨ rq ≠ .monitor) :=
  ⟨wit_RegisterAccessesTakeEffect_latchingRead.1, wit_RegisterAccessesTakeEffect_latchingRead.2.1,
      wit_RegisterAccessesTakeEffect_latchingRead.2.2.1, wit_RegisterAccessesTakeEffect_latchingRead.2.2.2.1,
      wit_RegisterAccessesTakeEffect_latchingRead.2.2.2.2, by decide +kernel⟩

def wit_RegisterAccessesTakeEffect_latchingRead_2 : State × Requester × Reg × Nat × Bool × (Fin 16) :=
  let s : State := State.reset
  let peek : Bool := true
  let rq : Requester := .pf0
  let r : Reg := .PART_BELL_NUM_LO
  let ix : Nat := 11
  let p : Fin 16 := 11
  let s : State := s
  (s, rq, r, ix, peek, p)
theorem witness_RegisterAccessesTakeEffect_latchingRead_2 : ∃ (s : State) (rq : Requester) (r : Reg) (ix : Nat) (peek : Bool) (p : Fin 16), r = .PART_BELL_NUM_LO ∧ ix = p.val ∧ readOk rq s = true ∧ (peek = false ∨ rq ≠ .monitor) :=
  ⟨wit_RegisterAccessesTakeEffect_latchingRead_2.1, wit_RegisterAccessesTakeEffect_latchingRead_2.2.1,
      wit_RegisterAccessesTakeEffect_latchingRead_2.2.2.1, wit_RegisterAccessesTakeEffect_latchingRead_2.2.2.2.1,
      wit_RegisterAccessesTakeEffect_latchingRead_2.2.2.2.2.1, wit_RegisterAccessesTakeEffect_latchingRead_2.2.2.2.2.2,
      by decide +kernel⟩

def wit_RegisterAccessesTakeEffect_routeTableWrite : State × Requester × Word :=
  let s : State := State.reset
  let z : Bool := true
  let rq : Requester := .core 1 .machine
  let v : Word := if z then 0x12345 else 0x81000000
  let s : State := ((s.sf F.NET_TN_RT_SEL_IFACE 0 3).sf F.NET_TN_RT_SEL_DEST 0 4)
  (s, rq, v)
theorem witness_RegisterAccessesTakeEffect_routeTableWrite : ∃ (s : State) (rq : Requester) (v : Word), procOrM rq s = true ∧
    (bitAt v.toNat 31 = 0 ∨ routeOk (rtSel s).1 (rtSel s).2 (rtWord v.toNat) = true) :=
  ⟨wit_RegisterAccessesTakeEffect_routeTableWrite.1, wit_RegisterAccessesTakeEffect_routeTableWrite.2.1,
      wit_RegisterAccessesTakeEffect_routeTableWrite.2.2, by decide +kernel⟩

def wit_PowerCommandsTakeEffect_clockFail : State × (Fin 421) :=
  let s : State := State.reset
  let d : Fin 421 := 3
  let s : State := (s.sf F.RST_PEND_ACTIVE 0 0).setReg .RST_CLKGOOD 0 0xFF
      |> fun (s : State) => (s.sf F.RST_CLK_CFG_CLKFAIL_RESET 0 0)
  (s, d)
theorem witness_PowerCommandsTakeEffect_clockFail : ∃ (s : State) (d : Fin 421), (d.val < 274 ∨ 342 ≤ d.val) ∧ d.val ≠ 413 ∧
    s.flag F.RST_CLK_CFG_CLKFAIL_RESET 0 = false ∧ clockGood d s = true ∧ domainOut d s = true :=
  ⟨wit_PowerCommandsTakeEffect_clockFail.1, wit_PowerCommandsTakeEffect_clockFail.2, by decide +kernel⟩

def wit_PowerCommandsTakeEffect_tempSample : (List Byte) :=
  let u : List Byte := [20, 30, 1, 2, 3, 4, 5, 6, 7, 8, 250, 99]
  (u)
theorem witness_PowerCommandsTakeEffect_tempSample : ∃ (u : List Byte), (∀ i ∈ List.range 12,
    degrees ((u.map (·.toNat)).getD i 0) < 115) :=
  ⟨wit_PowerCommandsTakeEffect_tempSample, by decide +kernel⟩

def wit_PowerCommandsTakeEffect_tempSample_2 : State × (List Byte) :=
  let s : State := State.reset
  let u : List Byte := [20, 30, 1, 115]
  let s : State := s.sf F.PIO_STAT_BUSY 0 0 |> fun (s : State) => s.sf F.SEC_KEY_STATUS_BUSY 0 0
  (s, u)
theorem witness_PowerCommandsTakeEffect_tempSample_2 : ∃ (s : State) (u : List Byte), (∃ i ∈ List.range 12,
    115 ≤ degrees ((u.map (·.toNat)).getD i 0)) ∧ anyPulse s = false :=
  ⟨wit_PowerCommandsTakeEffect_tempSample_2.1, wit_PowerCommandsTakeEffect_tempSample_2.2, by decide +kernel⟩

def wit_PowerCommandsTakeEffect_throttleAdjust : State :=
  let s : State := State.reset
  let s : State := { (s.sf F.RST_THR_CFG_STEP 0 3) with rst := { s.rst with hot := true }, clk := { s.clk with thermal := 200 } }
  (s)
theorem witness_PowerCommandsTakeEffect_throttleAdjust : ∃ (s : State), s.rst.hot = true :=
  ⟨wit_PowerCommandsTakeEffect_throttleAdjust, by decide +kernel⟩

def wit_PowerCommandsTakeEffect_throttleAdjust_2 : State :=
  let s : State := State.reset
  let s : State := { (s.sf F.RST_THR_CFG_STEP 0 3) with rst := { s.rst with hot := false, cool := 1000 }, clk := { s.clk with thermal := 254 } }
  (s)
theorem witness_PowerCommandsTakeEffect_throttleAdjust_2 : ∃ (s : State), s.rst.hot = false ∧ 1000 ≤ s.rst.cool :=
  ⟨wit_PowerCommandsTakeEffect_throttleAdjust_2, by decide +kernel⟩

def wit_PowerCommandsTakeEffect_pwrRecess : State × Requester :=
  let s : State := State.reset
  let rq : Requester := .monitor
  let s : State := ((s.resetAll .PART_STATE).resetAll .PART_LDR_STATUS).resetAll .BBD_MARCH_STATUS
      |> fun (s : State) => (s.sf F.PRC_HM_STAT_ACTIVE 0 0).sf F.RST_PWR_STAT_STATE 0 0
  (s, rq)
theorem witness_PowerCommandsTakeEffect_pwrRecess : ∃ (s : State) (rq : Requester), adminOk rq s = true ∧ recessLegal s = true :=
  ⟨wit_PowerCommandsTakeEffect_pwrRecess.1, wit_PowerCommandsTakeEffect_pwrRecess.2, by decide +kernel⟩

def wit_PowerCommandsTakeEffect_pwrWake : State × Requester :=
  let s : State := State.reset
  let rq : Requester := .monitor
  let s : State := s.sf F.RST_PWR_STAT_STATE 0 2
  (s, rq)
theorem witness_PowerCommandsTakeEffect_pwrWake : ∃ (s : State) (rq : Requester), adminOk rq s = true ∧
    s.gf F.RST_PWR_STAT_STATE 0 = 2 :=
  ⟨wit_PowerCommandsTakeEffect_pwrWake.1, wit_PowerCommandsTakeEffect_pwrWake.2, by decide +kernel⟩

def wit_PowerCommandsTakeEffect_gpioWake : State :=
  let s : State := State.reset
  let s : State := (s.sf F.RST_PWR_STAT_STATE 0 2).sf F.RST_PWR_WAKE_EN 0 31
  (s)
theorem witness_PowerCommandsTakeEffect_gpioWake : ∃ (s : State), s.gf F.RST_PWR_STAT_STATE 0 = 2 ∧
    bitAt (s.gf F.RST_PWR_WAKE_EN 0) 4 = 1 :=
  ⟨wit_PowerCommandsTakeEffect_gpioWake, by decide +kernel⟩

def wit_PowerCommandsTakeEffect_recessExitDone : State :=
  let s : State := State.reset
  let s : State := (s.sf F.RST_PWR_STAT_STATE 0 2).sf F.RST_PWR_STAT_EXITING 0 1
  (s)
theorem witness_PowerCommandsTakeEffect_recessExitDone : ∃ (s : State), s.gf F.RST_PWR_STAT_STATE 0 = 2 ∧
    s.flag F.RST_PWR_STAT_EXITING 0 = true :=
  ⟨wit_PowerCommandsTakeEffect_recessExitDone, by decide +kernel⟩

def wit_PowerCommandsTakeEffect_ethernetFrame : State :=
  let s : State := State.reset
  let s : State := (s.sf F.RST_PWR_STAT_STATE 0 2).sf F.RST_PWR_WAKE_EN 0 31
  (s)
theorem witness_PowerCommandsTakeEffect_ethernetFrame : ∃ (s : State), s.gf F.RST_PWR_STAT_STATE 0 = 2 ∧
    bitAt (s.gf F.RST_PWR_WAKE_EN 0) 3 = 1 :=
  ⟨wit_PowerCommandsTakeEffect_ethernetFrame, by decide +kernel⟩

def wit_UnitCommandsTakeEffect_classImmediateSubstitute : State × (Fin 256) :=
  let s : State := State.reset
  let n : Fin 256 := 1
  let s : State := ((s.sf F.PRC_PROC_STAT_STATE 0 3).sf F.PRC_HM_STAT_ACTIVE 0 0).sf F.CLS_SEQ_STATUS_ASSIGNED n 1
      |> fun (s : State) => (s.sf F.CLS_SEQ_STATUS_PART n 4).sf F.PART_STATE_STATE 4 stHalted
      |> fun (s : State) => { s with bp := { s.bp with fenced := Store.set false (s.phys n) true s.bp.fenced }, rel := { s.rel with stopped := [] } }
  (s, n)
theorem witness_UnitCommandsTakeEffect_classImmediateSubstitute : ∃ (s : State) (n : Fin 256), s.proctorUp = true ∧
    s.clsFenced n = true ∧ (s.unit 0 (s.phys n)).role = n.val + 1 ∧ s.clsOwner n ≠ 0 ∧ s.pst (s.clsOwner n - 1) = stHalted :=
  ⟨wit_UnitCommandsTakeEffect_classImmediateSubstitute.1, wit_UnitCommandsTakeEffect_classImmediateSubstitute.2, by decide +kernel⟩

def wit_UnitCommandsTakeEffect_declareDead : State × (Fin 7) × (BitVec 18) × (Fin 64) :=
  let s : State := State.reset
  let kind : Fin 7 := 2
  let u : BitVec 18 := 12
  let c : Fin 64 := 9
  let s : State := (s.sf F.PRC_PROC_STAT_STATE 0 3).sf F.PRC_HM_STAT_ACTIVE 0 0
      |> fun (s : State) => { s with rel := { s.rel with stopped := [], units := [(unitKey 2 12, { state := uEnrolled, role := 10 })] } }
  (s, kind, u, c)
theorem witness_UnitCommandsTakeEffect_declareDead : ∃ (s : State) (kind : Fin 7) (u : BitVec 18) (c : Fin 64), s.proctorUp = true ∧
    kind = 2 ∧ u.toNat < 64 ∧ (s.unit 2 u.toNat).state = uEnrolled ∧ (s.unit 2 u.toNat).role = c.val + 1 :=
  ⟨wit_UnitCommandsTakeEffect_declareDead.1, wit_UnitCommandsTakeEffect_declareDead.2.1,
      wit_UnitCommandsTakeEffect_declareDead.2.2.1, wit_UnitCommandsTakeEffect_declareDead.2.2.2, by decide +kernel⟩

def wit_UnitCommandsTakeEffect_declareDead_2 : State × (Fin 7) × (BitVec 18) :=
  let s : State := State.reset
  let kind : Fin 7 := 3
  let u : BitVec 18 := 12
  let s : State := (s.sf F.PRC_PROC_STAT_STATE 0 3).sf F.PRC_HM_STAT_ACTIVE 0 0
      |> fun (s : State) => { s with rel := { s.rel with stopped := [], units := [] } }
  (s, kind, u)
theorem witness_UnitCommandsTakeEffect_declareDead_2 : ∃ (s : State) (kind : Fin 7) (u : BitVec 18), s.proctorUp = true ∧ kind = 3 ∧
    u.toNat < 26 ∧ (s.unit 3 u.toNat).state = uEnrolled ∧ (s.unit 3 u.toNat).role ≠ 0 :=
  ⟨wit_UnitCommandsTakeEffect_declareDead_2.1, wit_UnitCommandsTakeEffect_declareDead_2.2.1,
      wit_UnitCommandsTakeEffect_declareDead_2.2.2, by decide +kernel⟩

def wit_UnitCommandsTakeEffect_epochStale : State × (Fin 7) × (BitVec 18) × (BitVec 18) × (BitVec 16) × Nat :=
  let s : State := State.reset
  let kind : Fin 7 := 1
  let u : BitVec 18 := 1
  let role : BitVec 18 := 1
  let ep : BitVec 16 := 1
  let s : State := { s with rel := { s.rel with stale := [] } }
  let now : Nat := (s.dtime)
  (s, kind, u, role, ep, now)
theorem witness_UnitCommandsTakeEffect_epochStale : ∃ (s : State) (kind : Fin 7) (u role : BitVec 18) (ep : BitVec 16) (now : Nat),
    ep.toNat ≠ roleEpoch s kind role.toNat ∧ now = s.dtime ∧
    (Store.get 0 s.rel.stale (unitKey kind u.toNat) = 0 ∨ Store.get 0 s.rel.stale (unitKey kind u.toNat) - 1 + 1000000000 ≤ now) :=
  ⟨wit_UnitCommandsTakeEffect_epochStale.1, wit_UnitCommandsTakeEffect_epochStale.2.1, wit_UnitCommandsTakeEffect_epochStale.2.2.1,
      wit_UnitCommandsTakeEffect_epochStale.2.2.2.1, wit_UnitCommandsTakeEffect_epochStale.2.2.2.2.1,
      wit_UnitCommandsTakeEffect_epochStale.2.2.2.2.2, by decide +kernel⟩

def wit_UnitCommandsTakeEffect_epochStale_2 : State × (Fin 7) × (BitVec 18) × (BitVec 18) × (BitVec 16) :=
  let s : State := State.reset
  let kind : Fin 7 := 1
  let u : BitVec 18 := 1
  let role : BitVec 18 := 1
  let ep : BitVec 16 := 1
  let s : State := { s with tim := { s.tim with sec := 0, ns := 5 }, rel := { s.rel with stale := [(unitKey kind u.toNat, 3)] } }
  (s, kind, u, role, ep)
theorem witness_UnitCommandsTakeEffect_epochStale_2 : ∃ (s : State) (kind : Fin 7) (u role : BitVec 18) (ep : BitVec 16),
    ep.toNat ≠ roleEpoch s kind role.toNat ∧ Store.get 0 s.rel.stale (unitKey kind u.toNat) ≠ 0 ∧
    s.dtime < Store.get 0 s.rel.stale (unitKey kind u.toNat) - 1 + 1000000000 :=
  ⟨wit_UnitCommandsTakeEffect_epochStale_2.1, wit_UnitCommandsTakeEffect_epochStale_2.2.1,
      wit_UnitCommandsTakeEffect_epochStale_2.2.2.1, wit_UnitCommandsTakeEffect_epochStale_2.2.2.2.1,
      wit_UnitCommandsTakeEffect_epochStale_2.2.2.2.2, by decide +kernel⟩

def wit_UnitCommandsTakeEffect_thresholdReached : State × (Fin 9) × (BitVec 16) × (BitVec 26) :=
  let s : State := State.reset
  let k : Fin 9 := 3
  let count : BitVec 16 := 0xFFFF
  let u : BitVec 26 := 20
  let s : State := (s.sf F.PRC_PROC_STAT_STATE 0 3).sf F.PRC_HM_STAT_ACTIVE 0 0
      |> fun (s : State) => { s with rel := { s.rel with stopped := [], units := [(unitKey 2 20, { state := uEnrolled, role := 21 })] } }
  (s, k, count, u)
theorem witness_UnitCommandsTakeEffect_thresholdReached : ∃ (s : State) (k : Fin 9) (count : BitVec 16) (u : BitVec 26),
    s.proctorUp = true ∧ k = 3 ∧ s.gf F.PRC_THRESH_VALUE 3 ≤ count.toNat ∧ (s.unit 2 u.toNat).role ≠ 0 ∧
    (s.unit 2 u.toNat).state = uEnrolled ∧ coreSpare ((s.unit 2 u.toNat).role - 1) s = none :=
  ⟨wit_UnitCommandsTakeEffect_thresholdReached.1, wit_UnitCommandsTakeEffect_thresholdReached.2.1,
      wit_UnitCommandsTakeEffect_thresholdReached.2.2.1, wit_UnitCommandsTakeEffect_thresholdReached.2.2.2, by decide +kernel⟩

def wit_UnitCommandsTakeEffect_selftest : State × Requester × (BitVec 4) × (BitVec 18) × Nat × Nat :=
  let s : State := State.reset
  let rq : Requester := .pf0
  let kind : BitVec 4 := 2
  let unit : BitVec 18 := 12
  let s : State := { s.sf F.PRC_UNIT_STAT_BUSY 0 0 with rel := { s.rel with units := [(unitKey 2 12, { state := uDetention, banned := 10 })] } }
  let k : Nat := (min kind.toNat 8)
  let x : Nat := (min unit.toNat (unitCount (min kind.toNat 8) - 1))
  (s, rq, kind, unit, k, x)
theorem witness_UnitCommandsTakeEffect_selftest : ∃ (s : State) (rq : Requester) (kind : BitVec 4) (unit : BitVec 18) (k x : Nat),
    rq = .pf0 ∧ k = min kind.toNat 8 ∧ x = min unit.toNat (unitCount k - 1) ∧ unitState k x s = uDetention ∧
    s.flag F.PRC_UNIT_STAT_BUSY 0 = false :=
  ⟨wit_UnitCommandsTakeEffect_selftest.1, wit_UnitCommandsTakeEffect_selftest.2.1, wit_UnitCommandsTakeEffect_selftest.2.2.1,
      wit_UnitCommandsTakeEffect_selftest.2.2.2.1, wit_UnitCommandsTakeEffect_selftest.2.2.2.2.1,
      wit_UnitCommandsTakeEffect_selftest.2.2.2.2.2, by decide +kernel⟩

def wit_UnitCommandsTakeEffect_selftestDone : State × (Fin 9) × Nat :=
  let s : State := State.reset
  let k : Fin 9 := 1
  let x : Nat := 1
  let s : State := { s with rel := { s.rel with test := some (k.val, x) } }
  (s, k, x)
theorem witness_UnitCommandsTakeEffect_selftestDone : ∃ (s : State) (k : Fin 9) (x : Nat), s.rel.test = some (k.val, x) :=
  ⟨wit_UnitCommandsTakeEffect_selftestDone.1, wit_UnitCommandsTakeEffect_selftestDone.2.1,
      wit_UnitCommandsTakeEffect_selftestDone.2.2, by decide +kernel⟩

def wit_UnitCommandsTakeEffect_enrol : State × Requester × (BitVec 4) × (BitVec 18) × Nat × Nat :=
  let s : State := State.reset
  let rq : Requester := .pf0
  let kind : BitVec 4 := 0
  let unit : BitVec 18 := 12
  let s : State := { s with rel := { s.rel with units := [(unitKey 0 12, { state := uDetention, banned := 10, passed := true, reenrol := 255 })] } }
  let k : Nat := (min kind.toNat 8)
  let x : Nat := (min unit.toNat (unitCount (min kind.toNat 8) - 1))
  (s, rq, kind, unit, k, x)
theorem witness_UnitCommandsTakeEffect_enrol : ∃ (s : State) (rq : Requester) (kind : BitVec 4) (unit : BitVec 18) (k x : Nat),
    rq = .pf0 ∧ k = min kind.toNat 8 ∧ x = min unit.toNat (unitCount k - 1) ∧ k ≠ 5 ∧ unitState k x s = uDetention ∧
    (s.unit k x).passed = true :=
  ⟨wit_UnitCommandsTakeEffect_enrol.1, wit_UnitCommandsTakeEffect_enrol.2.1, wit_UnitCommandsTakeEffect_enrol.2.2.1,
      wit_UnitCommandsTakeEffect_enrol.2.2.2.1, wit_UnitCommandsTakeEffect_enrol.2.2.2.2.1,
      wit_UnitCommandsTakeEffect_enrol.2.2.2.2.2, by decide +kernel⟩

def wit_UnitCommandsTakeEffect_eccSelftestStart : State × Requester :=
  let s : State := State.reset
  let rq : Requester := .core 3 .machine
  let s : State := s.sf F.PRC_ECCST_STAT_BUSY 0 0
  (s, rq)
theorem witness_UnitCommandsTakeEffect_eccSelftestStart : ∃ (s : State) (rq : Requester), procOrM rq s = true ∧
    s.flag F.PRC_ECCST_STAT_BUSY 0 = false :=
  ⟨wit_UnitCommandsTakeEffect_eccSelftestStart.1, wit_UnitCommandsTakeEffect_eccSelftestStart.2, by decide +kernel⟩

def wit_UnitCommandsTakeEffect_eccSelftestDone : State :=
  let s : State := State.reset
  let s : State := s.sf F.PRC_ECCST_STAT_BUSY 0 1
  (s)
theorem witness_UnitCommandsTakeEffect_eccSelftestDone : ∃ (s : State), s.flag F.PRC_ECCST_STAT_BUSY 0 = true :=
  ⟨wit_UnitCommandsTakeEffect_eccSelftestDone, by decide +kernel⟩

def wit_ProctorCommandsTakeEffect_tokenRenew : State × (Fin 2) :=
  let s : State := State.reset
  let ix : Fin 2 := 1
  let g : Bool := true
  let s : State := (s.sf F.PRC_PROC_STAT_STATE ix (if g then 2 else 3))
  (s, ix)
theorem witness_ProctorCommandsTakeEffect_tokenRenew : ∃ (s : State) (ix : Fin 2),
    (s.gf F.PRC_PROC_STAT_STATE ix = 2 ∨ s.gf F.PRC_PROC_STAT_STATE ix = 3) :=
  ⟨wit_ProctorCommandsTakeEffect_tokenRenew.1, wit_ProctorCommandsTakeEffect_tokenRenew.2, by decide +kernel⟩

def wit_ProctorCommandsTakeEffect_heartbeat : State × (Fin 2) :=
  let s : State := State.reset
  let ix : Fin 2 := 1
  let s : State := { s.sf F.PRC_PROC_STAT_STATE ix 2 with rel := { s.rel with stopped := [] } }
  (s, ix)
theorem witness_ProctorCommandsTakeEffect_heartbeat : ∃ (s : State) (ix : Fin 2), procState ix s ≠ 4 ∧ procState ix s ≠ 0 ∧
    Store.get false s.rel.stopped ix = false :=
  ⟨wit_ProctorCommandsTakeEffect_heartbeat.1, wit_ProctorCommandsTakeEffect_heartbeat.2, by decide +kernel⟩

def wit_ProctorCommandsTakeEffect_heartbeatTimeout : State × (Fin 2) × (BitVec 2) :=
  let s : State := State.reset
  let ix : Fin 2 := 1
  let miss : BitVec 2 := 3
  let s : State := { (s.sf F.PRC_PROC_STAT_STATE ix 3).sf F.PRC_PROC_STAT_STATE (1 - ix.val) 2 with rel := { s.rel with stopped := [], epoch := [] } } |> fun (s : State) => (s.resetAll .CLS_SUB_STATUS).resetAll .PRC_CLS_SUB_STAT
  (s, ix, miss)
theorem witness_ProctorCommandsTakeEffect_heartbeatTimeout : ∃ (s : State) (ix : Fin 2) (miss : BitVec 2), miss = 3 ∧
    s.proctorActive ix = true ∧ procState (1 - ix.val) s = 2 ∧ Store.get false s.rel.stopped (1 - ix.val) = false ∧
    roleEpoch s 5 0 < 0xFFFE :=
  ⟨wit_ProctorCommandsTakeEffect_heartbeatTimeout.1, wit_ProctorCommandsTakeEffect_heartbeatTimeout.2.1,
      wit_ProctorCommandsTakeEffect_heartbeatTimeout.2.2, by decide +kernel⟩

def wit_ProctorCommandsTakeEffect_heartbeatTimeout_2 : (BitVec 2) :=
  let miss : BitVec 2 := 1
  (miss)
theorem witness_ProctorCommandsTakeEffect_heartbeatTimeout_2 : ∃ (miss : BitVec 2), miss = 1 :=
  ⟨wit_ProctorCommandsTakeEffect_heartbeatTimeout_2, by decide +kernel⟩

def wit_ProctorCommandsTakeEffect_proctorWatchdogExpiry : State × (Fin 2) :=
  let s : State := State.reset
  let ix : Fin 2 := 1
  let s : State := s.sf F.PRC_PROC_STAT_STATE ix 3
  (s, ix)
theorem witness_ProctorCommandsTakeEffect_proctorWatchdogExpiry : ∃ (s : State) (ix : Fin 2), procState ix s ≠ 0 ∧
    procState ix s ≠ 4 :=
  ⟨wit_ProctorCommandsTakeEffect_proctorWatchdogExpiry.1, wit_ProctorCommandsTakeEffect_proctorWatchdogExpiry.2, by decide +kernel⟩

def wit_ProctorCommandsTakeEffect_lockstepMismatch : State × (Fin 2) :=
  let s : State := State.reset
  let ix : Fin 2 := 1
  let s : State := s.sf F.PRC_PROC_STAT_STATE ix 3
  (s, ix)
theorem witness_ProctorCommandsTakeEffect_lockstepMismatch : ∃ (s : State) (ix : Fin 2), procState ix s ≠ 0 ∧ procState ix s ≠ 4 :=
  ⟨wit_ProctorCommandsTakeEffect_lockstepMismatch.1, wit_ProctorCommandsTakeEffect_lockstepMismatch.2, by decide +kernel⟩

def wit_ProctorCommandsTakeEffect_failMsg : State × (Fin 2) :=
  let s : State := State.reset
  let ix : Fin 2 := 1
  let s : State := { (s.sf F.PRC_PROC_STAT_STATE ix 3).sf F.PRC_PROC_STAT_STATE (1 - ix.val) 2 with rel := { s.rel with stopped := [], epoch := [] } } |> fun (s : State) => (s.resetAll .CLS_SUB_STATUS).resetAll .PRC_CLS_SUB_STAT
  (s, ix)
theorem witness_ProctorCommandsTakeEffect_failMsg : ∃ (s : State) (ix : Fin 2), s.proctorActive ix = true ∧
    procState (1 - ix.val) s = 2 ∧ Store.get false s.rel.stopped (1 - ix.val) = false ∧ roleEpoch s 5 0 < 0xFFFE :=
  ⟨wit_ProctorCommandsTakeEffect_failMsg.1, wit_ProctorCommandsTakeEffect_failMsg.2, by decide +kernel⟩

def wit_ProctorCommandsTakeEffect_loadStandby : State × Requester × Nat :=
  let s : State := State.reset
  let rq : Requester := .pf0
  let s : State := (s.sf F.PRC_PROC_STAT_STATE 0 3).sf F.PRC_PROC_STAT_STATE 1 0
  let j : Nat := (otherProctor s)
  (s, rq, j)
theorem witness_ProctorCommandsTakeEffect_loadStandby : ∃ (s : State) (rq : Requester) (j : Nat), pf0OrProctor rq s = true ∧
    (s.proctorActive 0 = true ∨ s.proctorActive 1 = true) ∧ j = otherProctor s ∧
    (procState j s = 0 ∨ procState j s = 2 ∨ procState j s = 4) :=
  ⟨wit_ProctorCommandsTakeEffect_loadStandby.1, wit_ProctorCommandsTakeEffect_loadStandby.2.1,
      wit_ProctorCommandsTakeEffect_loadStandby.2.2, by decide +kernel⟩

def wit_ProctorCommandsTakeEffect_switch : State × Requester × Nat :=
  let s : State := State.reset
  let rq : Requester := .pf0
  let s : State := { (s.sf F.PRC_PROC_STAT_STATE 0 3).sf F.PRC_PROC_STAT_STATE 1 2 with rel := { s.rel with stopped := [], hb := [(2, 4)], epoch := [] } } |> fun (s : State) => (s.resetAll .CLS_SUB_STATUS).resetAll .PRC_CLS_SUB_STAT
  let j : Nat := (otherProctor s)
  (s, rq, j)
theorem witness_ProctorCommandsTakeEffect_switch : ∃ (s : State) (rq : Requester) (j : Nat), pf0OrProctor rq s = true ∧
    (s.proctorActive 0 = true ∨ s.proctorActive 1 = true) ∧ j = otherProctor s ∧ procState j s = 2 ∧
    Store.get false s.rel.stopped j = false ∧ (4 ≤ Store.get 0 s.rel.hb (2 * j) ∨ 4 ≤ Store.get 0 s.rel.hb (2 * j + 1)) ∧
    roleEpoch s 5 0 < 0xFFFE :=
  ⟨wit_ProctorCommandsTakeEffect_switch.1, wit_ProctorCommandsTakeEffect_switch.2.1, wit_ProctorCommandsTakeEffect_switch.2.2,
      by decide +kernel⟩

def wit_ProctorCommandsTakeEffect_reload : State × Requester :=
  let s : State := State.reset
  let rq : Requester := .pf0
  let s : State := s.sf F.PRC_HM_STAT_ACTIVE 0 1
  (s, rq)
theorem witness_ProctorCommandsTakeEffect_reload : ∃ (s : State) (rq : Requester), rq = .pf0 ∧ s.flag F.PRC_HM_STAT_ACTIVE 0 = true :=
  ⟨wit_ProctorCommandsTakeEffect_reload.1, wit_ProctorCommandsTakeEffect_reload.2, by decide +kernel⟩

def wit_ProctorCommandsTakeEffect_proctorFirmwareLoaded : State × (Fin 2) × (List Byte) × (List Byte) × Bool × Bool × (List Nat) :=
  let s : State := State.reset
  let a : List Byte := []
  let b : List Byte := []
  let ix : Fin 2 := 1
  let host : Bool := false
  let ecc : Bool := true
  let s : State := { ((s.sf F.PRC_PROC_STAT_STATE 0 3).sf F.PRC_PROC_STAT_STATE 1 1) with rel := { s.rel with boot := [(1, (1, 0))] } } |> fun (s : State) => (s.setReg .PRC_PROC_LEN 0 4).setReg .PRC_PROC_SRC_HI 0 0
  let m : List Nat := ((bootSources ix (a.map (·.toNat)) (b.map (·.toNat)) s).headD [])
  (s, ix, a, b, host, ecc, m)
theorem witness_ProctorCommandsTakeEffect_proctorFirmwareLoaded : ∃ (s : State) (ix : Fin 2) (a b : List Byte) (host ecc : Bool) (m : List Nat), procState ix s = 1 ∧ (Store.get (0, 0) s.rel.boot ix).1 = 1 ∧ ecc = true ∧ host = false ∧ bootSources ix (a.map (·.toNat)) (b.map (·.toNat)) s = [m] :=
  ⟨wit_ProctorCommandsTakeEffect_proctorFirmwareLoaded.1, wit_ProctorCommandsTakeEffect_proctorFirmwareLoaded.2.1,
      wit_ProctorCommandsTakeEffect_proctorFirmwareLoaded.2.2.1, wit_ProctorCommandsTakeEffect_proctorFirmwareLoaded.2.2.2.1,
      wit_ProctorCommandsTakeEffect_proctorFirmwareLoaded.2.2.2.2.1, wit_ProctorCommandsTakeEffect_proctorFirmwareLoaded.2.2.2.2.2.1,
      wit_ProctorCommandsTakeEffect_proctorFirmwareLoaded.2.2.2.2.2.2, by decide +kernel⟩

def wit_ProctorCommandsTakeEffect_hallMonitorTakeover : State :=
  let s : State := State.reset
  let s : State := (s.sf F.PRC_HM_STAT_ACTIVE 0 0).sf F.PRC_HM_CFG_POLICY 0 0
  (s)
theorem witness_ProctorCommandsTakeEffect_hallMonitorTakeover : ∃ (s : State), s.flag F.PRC_HM_STAT_ACTIVE 0 = false :=
  ⟨wit_ProctorCommandsTakeEffect_hallMonitorTakeover, by decide +kernel⟩

def wit_BootAndLockupCommandsTakeEffect_bootPush : State × Requester :=
  let s : State := State.reset
  let rq : Requester := .monitor
  let s : State := (s.sf F.RST_STRAP_BOOTSEL 0 1).sf F.PART_LDR_DONE_STAGE_RDY 0 1
      |> fun (s : State) => s.sf F.PART_LDR_DONE_BOOTED 0 0
  (s, rq)
theorem witness_BootAndLockupCommandsTakeEffect_bootPush : ∃ (s : State) (rq : Requester), adminOk rq s = true ∧
    s.gf F.RST_STRAP_BOOTSEL 0 = 1 ∧ s.flag F.PART_LDR_DONE_STAGE_RDY 0 = true ∧ s.flag F.PART_LDR_DONE_BOOTED 0 = false :=
  ⟨wit_BootAndLockupCommandsTakeEffect_bootPush.1, wit_BootAndLockupCommandsTakeEffect_bootPush.2, by decide +kernel⟩

def wit_BootAndLockupCommandsTakeEffect_lcAdvanceDone : State × Nat × (Fin 4) :=
  let s : State := State.reset
  let slot : Nat := 1
  let st : Fin 4 := 1
  let s : State := { s.sf F.PIO_STAT_BUSY 0 0 with ld := { s.ld with pulse := some (1, slot, st.val) } }
      |> fun (s : State) => { s with rst := { s.rst with src := [], held := [] } }
  (s, slot, st)
theorem witness_BootAndLockupCommandsTakeEffect_lcAdvanceDone : ∃ (s : State) (slot : Nat) (st : Fin 4), s.ld.pulse = some (1, slot,
    st.val) ∧ s.flag F.PIO_STAT_BUSY 0 = false ∧ s.rst.held = [] :=
  ⟨wit_BootAndLockupCommandsTakeEffect_lcAdvanceDone.1, wit_BootAndLockupCommandsTakeEffect_lcAdvanceDone.2.1,
      wit_BootAndLockupCommandsTakeEffect_lcAdvanceDone.2.2, by decide +kernel⟩

def wit_BootAndLockupCommandsTakeEffect_coreWatchdogExpiry : State × (Fin 64) :=
  let s : State := State.reset
  let c : Fin 64 := 1
  let s : State := ((s.sf F.DBG_CORE_STAT_STATE c 1).sf F.RST_PWR_STAT_STATE 0 0) |> csrPut c csrWdog 77
  (s, c)
theorem witness_BootAndLockupCommandsTakeEffect_coreWatchdogExpiry : ∃ (s : State) (c : Fin 64), csrHeld c csrWdog s % 2 ^ 32 ≠ 0 ∧
    s.cst c = coreRunning ∧ s.gf F.RST_PWR_STAT_STATE 0 ≠ 2 ∧ bitAt (csrHeld c csrWdog s) 33 = 0 :=
  ⟨wit_BootAndLockupCommandsTakeEffect_coreWatchdogExpiry.1, wit_BootAndLockupCommandsTakeEffect_coreWatchdogExpiry.2,
      by decide +kernel⟩

def wit_BootAndLockupCommandsTakeEffect_coreWatchdogExpiry_2 : State × (Fin 64) :=
  let s : State := State.reset
  let c : Fin 64 := 1
  let s : State := (((s.sf F.DBG_CORE_STAT_STATE c 1).sf F.RST_PWR_STAT_STATE 0 0) |> csrPut c csrWdog (77 + 2 ^ 33))
      |> fun (s : State) => ((s.resetAll .RST_UNIT_CORE_LO).resetAll .RST_UNIT_CORE_HI).sf F.PIO_STAT_BUSY 0 0
      |> fun (s : State) => s.sf F.SEC_KEY_STATUS_BUSY 0 0
  (s, c)
theorem witness_BootAndLockupCommandsTakeEffect_coreWatchdogExpiry_2 : ∃ (s : State) (c : Fin 64), csrHeld c csrWdog s % 2 ^ 32 ≠ 0 ∧
    s.cst c = coreRunning ∧ s.gf F.RST_PWR_STAT_STATE 0 ≠ 2 ∧ bitAt (csrHeld c csrWdog s) 33 = 1 ∧ coreHeld c s = false ∧
    anyPulse s = false :=
  ⟨wit_BootAndLockupCommandsTakeEffect_coreWatchdogExpiry_2.1, wit_BootAndLockupCommandsTakeEffect_coreWatchdogExpiry_2.2,
      by decide +kernel⟩

def wit_BootAndLockupCommandsTakeEffect_writePulseEnd : State × Bool × (Fin 4) × Nat :=
  let s : State := State.reset
  let k : Fin 4 := 1
  let key : Nat := 1
  let pio : Bool := false
  let s : State := { s with ld := { s.ld with pulse := some (0, k.val, key + 1) } }
      |> fun (s : State) => { s with rst := { s.rst with held := [] } }
  (s, pio, k, key)
theorem witness_BootAndLockupCommandsTakeEffect_writePulseEnd : ∃ (s : State) (pio : Bool) (k : Fin 4) (key : Nat), pio = false ∧
    s.ld.pulse = some (0, k.val, key + 1) ∧ s.rst.held = [] :=
  ⟨wit_BootAndLockupCommandsTakeEffect_writePulseEnd.1, wit_BootAndLockupCommandsTakeEffect_writePulseEnd.2.1,
      wit_BootAndLockupCommandsTakeEffect_writePulseEnd.2.2.1, wit_BootAndLockupCommandsTakeEffect_writePulseEnd.2.2.2,
      by decide +kernel⟩

def wit_BootAndLockupCommandsTakeEffect_writePulseEnd_2 : State × Bool × Nat × Nat :=
  let s : State := State.reset
  let g : Nat := 1
  let n : Nat := 1
  let pio : Bool := true
  let s : State := { s with pio := { s.pio with pulse := some (g, n) } }
      |> fun (s : State) => { s with rst := { s.rst with held := [] } }
  (s, pio, g, n)
theorem witness_BootAndLockupCommandsTakeEffect_writePulseEnd_2 : ∃ (s : State) (pio : Bool) (g n : Nat), pio = true ∧
    s.pio.pulse = some (g, n) ∧ s.rst.held = [] :=
  ⟨wit_BootAndLockupCommandsTakeEffect_writePulseEnd_2.1, wit_BootAndLockupCommandsTakeEffect_writePulseEnd_2.2.1,
      wit_BootAndLockupCommandsTakeEffect_writePulseEnd_2.2.2.1, wit_BootAndLockupCommandsTakeEffect_writePulseEnd_2.2.2.2,
      by decide +kernel⟩

def wit_BootAndLockupCommandsTakeEffect_mtvecFetchFault : State × (Fin 64) :=
  let s : State := State.reset
  let c : Fin 64 := 1
  let s : State := (s.sf F.DBG_CORE_STAT_STATE c 1).sf F.PIO_STAT_BUSY 0 0
      |> fun (s : State) => ((s.resetAll .RST_UNIT_CORE_LO).resetAll .RST_UNIT_CORE_HI).sf F.SEC_KEY_STATUS_BUSY 0 0
  (s, c)
theorem witness_BootAndLockupCommandsTakeEffect_mtvecFetchFault : ∃ (s : State) (c : Fin 64), s.cst c = coreRunning ∧
    coreHeld c s = false ∧ anyPulse s = false :=
  ⟨wit_BootAndLockupCommandsTakeEffect_mtvecFetchFault.1, wit_BootAndLockupCommandsTakeEffect_mtvecFetchFault.2, by decide +kernel⟩

def wit_ResetSourcesTakeEffect_brownOut : State × (Fin 11) :=
  let s : State := State.reset
  let r : Fin 11 := 1
  let s : State := (s.sf F.PIO_STAT_BUSY 0 0).sf F.SEC_KEY_STATUS_BUSY 0 0
  (s, r)
theorem witness_ResetSourcesTakeEffect_brownOut : ∃ (s : State) (r : Fin 11), (anyPulse s = false ∨ r.val < 2) :=
  ⟨wit_ResetSourcesTakeEffect_brownOut.1, wit_ResetSourcesTakeEffect_brownOut.2, by decide +kernel⟩

def wit_ResetSourcesTakeEffect_resetNAssert : State :=
  let s : State := State.reset
  let s : State := (s.sf F.PIO_STAT_BUSY 0 0).sf F.SEC_KEY_STATUS_BUSY 0 0
  (s)
theorem witness_ResetSourcesTakeEffect_resetNAssert : ∃ (s : State), anyPulse s = false :=
  ⟨wit_ResetSourcesTakeEffect_resetNAssert, by decide +kernel⟩

def wit_ResetSourcesTakeEffect_deviceWatchdogExpiry : State :=
  let s : State := State.reset
  let s : State := (s.sf F.PIO_STAT_BUSY 0 0).sf F.SEC_KEY_STATUS_BUSY 0 0 |> fun (s : State) => s.sf F.DBG_DWDOG_PAUSE 0 0
  (s)
theorem witness_ResetSourcesTakeEffect_deviceWatchdogExpiry : ∃ (s : State), s.flag F.DBG_DWDOG_PAUSE 0 = false ∧
    anyPulse s = false :=
  ⟨wit_ResetSourcesTakeEffect_deviceWatchdogExpiry, by decide +kernel⟩

def wit_ResetSourcesTakeEffect_dwdogKick : State × Requester × (BitVec 8) :=
  let s : State := State.reset
  let rq : Requester := .proctor 1
  let key : BitVec 8 := 0xD9
  let s : State := s.sf F.PRC_PROC_STAT_STATE 1 1
  (s, rq, key)
theorem witness_ResetSourcesTakeEffect_dwdogKick : ∃ (s : State) (rq : Requester) (key : BitVec 8), kickOk rq s = true ∧ key = 0xD9 :=
  ⟨wit_ResetSourcesTakeEffect_dwdogKick.1, wit_ResetSourcesTakeEffect_dwdogKick.2.1, wit_ResetSourcesTakeEffect_dwdogKick.2.2,
      by decide +kernel⟩

def wit_ResetSourcesTakeEffect_dwdogCfgWrite : State × Requester :=
  let s : State := State.reset
  let rq : Requester := .proctor 1
  let s : State := s.sf F.PRC_PROC_STAT_STATE 1 3
  (s, rq)
theorem witness_ResetSourcesTakeEffect_dwdogCfgWrite : ∃ (s : State) (rq : Requester), isActiveProctor rq s = true :=
  ⟨wit_ResetSourcesTakeEffect_dwdogCfgWrite.1, wit_ResetSourcesTakeEffect_dwdogCfgWrite.2, by decide +kernel⟩

def wit_ResetSourcesTakeEffect_swreq : State × Requester × (BitVec 2) :=
  let s : State := State.reset
  let rq : Requester := .pf0
  let lvl : BitVec 2 := 2
  let s : State := (s.sf F.PIO_STAT_BUSY 0 0).sf F.SEC_KEY_STATUS_BUSY 0 0
  (s, rq, lvl)
theorem witness_ResetSourcesTakeEffect_swreq : ∃ (s : State) (rq : Requester) (lvl : BitVec 2), (rq = .pf0 ∨ procOrM rq s = true) ∧
    anyPulse s = false ∧ (lvl = 1 ∨ lvl = 2) :=
  ⟨wit_ResetSourcesTakeEffect_swreq.1, wit_ResetSourcesTakeEffect_swreq.2.1, wit_ResetSourcesTakeEffect_swreq.2.2, by decide +kernel⟩

def wit_ResetSourcesTakeEffect_swreq_2 : State × Requester × (BitVec 2) :=
  let s : State := State.reset
  let rq : Requester := .pf0
  let lvl : BitVec 2 := 3
  let s : State := s
  (s, rq, lvl)
theorem witness_ResetSourcesTakeEffect_swreq_2 : ∃ (s : State) (rq : Requester) (lvl : BitVec 2), (rq = .pf0 ∨ procOrM rq s = true) ∧
    (lvl = 0 ∨ lvl = 3) :=
  ⟨wit_ResetSourcesTakeEffect_swreq_2.1, wit_ResetSourcesTakeEffect_swreq_2.2.1, wit_ResetSourcesTakeEffect_swreq_2.2.2,
      by decide +kernel⟩

def wit_ResetSourcesTakeEffect_dbgreqPulse : State × Requester :=
  let s : State := State.reset
  let rq : Requester := .monitor
  let s : State := (s.sf F.PIO_STAT_BUSY 0 0).sf F.SEC_KEY_STATUS_BUSY 0 0
  (s, rq)
theorem witness_ResetSourcesTakeEffect_dbgreqPulse : ∃ (s : State) (rq : Requester), rq = .monitor ∧ anyPulse s = false :=
  ⟨wit_ResetSourcesTakeEffect_dbgreqPulse.1, wit_ResetSourcesTakeEffect_dbgreqPulse.2, by decide +kernel⟩

def wit_ResetSourcesTakeEffect_dbgreqHold : State × Requester :=
  let s : State := State.reset
  let rq : Requester := .monitor
  let s : State := (s.sf F.PIO_STAT_BUSY 0 0).sf F.SEC_KEY_STATUS_BUSY 0 0
  (s, rq)
theorem witness_ResetSourcesTakeEffect_dbgreqHold : ∃ (s : State) (rq : Requester), rq = .monitor ∧ anyPulse s = false :=
  ⟨wit_ResetSourcesTakeEffect_dbgreqHold.1, wit_ResetSourcesTakeEffect_dbgreqHold.2, by decide +kernel⟩

def wit_ResetSourcesTakeEffect_resetSourceTimeout : (Fin 8) :=
  let src : Fin 8 := 4
  (src)
theorem witness_ResetSourcesTakeEffect_resetSourceTimeout : ∃ (src : Fin 8), (src = 3 ∨ src = 4) :=
  ⟨wit_ResetSourcesTakeEffect_resetSourceTimeout, by decide +kernel⟩

def wit_UnitResetAndReleaseTakeEffect_rstUnitWrite : State × Requester × (Fin 11) :=
  let s : State := State.reset
  let rq : Requester := .monitor
  let j : Fin 11 := 0
  let s : State := (s.sf F.PIO_STAT_BUSY 0 0).sf F.SEC_KEY_STATUS_BUSY 0 0
  (s, rq, j)
theorem witness_UnitResetAndReleaseTakeEffect_rstUnitWrite : ∃ (s : State) (rq : Requester) (j : Fin 11), adminOk rq s = true ∧
    j.val < 2 :=
  ⟨wit_UnitResetAndReleaseTakeEffect_rstUnitWrite.1, wit_UnitResetAndReleaseTakeEffect_rstUnitWrite.2.1,
      wit_UnitResetAndReleaseTakeEffect_rstUnitWrite.2.2, by decide +kernel⟩

def wit_UnitResetAndReleaseTakeEffect_releaseStep : State :=
  let s : State := State.reset
  let s : State := ((s.sf F.RST_PEND_ACTIVE 0 1).sf F.RST_PEND_STEP 0 2)
      |> fun (s : State) => { s with rst := { s.rst with src := [] } }
  (s)
theorem witness_UnitResetAndReleaseTakeEffect_releaseStep : ∃ (s : State), s.flag F.RST_PEND_ACTIVE 0 = true ∧
    s.gf F.RST_PEND_STEP 0 < 7 ∧ (∀ e ∈ s.rst.src, covers e.2.1 (s.gf F.RST_PEND_STEP 0) = false) ∧
    (∀ d ∈ stepDomains (s.gf F.RST_PEND_STEP 0), clockGood d s = true) :=
  ⟨wit_UnitResetAndReleaseTakeEffect_releaseStep, by decide +kernel⟩

def wit_UnitResetAndReleaseTakeEffect_releaseStep_2 : State :=
  let s : State := State.reset
  let s : State := ((s.sf F.RST_PEND_ACTIVE 0 1).sf F.RST_PEND_STEP 0 7)
      |> fun (s : State) => { s with rst := { s.rst with src := [] } }
      |> fun (s : State) => (List.range 14).foldl (fun t i => t.setReg .RST_CLKGOOD i 0xFFFFFFFF) s
  (s)
theorem witness_UnitResetAndReleaseTakeEffect_releaseStep_2 : ∃ (s : State), s.flag F.RST_PEND_ACTIVE 0 = true ∧
    s.gf F.RST_PEND_STEP 0 = 7 ∧ (∀ e ∈ s.rst.src, covers e.2.1 7 = false) ∧ (∀ d ∈ List.range 264, clockGood d s = true) :=
  ⟨wit_UnitResetAndReleaseTakeEffect_releaseStep_2, by decide +kernel⟩

def wit_UnitResetAndReleaseTakeEffect_hbmStackTrained : State :=
  let s : State := State.reset
  let s : State := (s.sf F.RST_STRAP_BOOTSEL 0 1).sf F.PRC_PROC_STAT_STATE 0 1 |> fun (s : State) => s.setReg .RST_UNIT_MISC 0 0
  (s)
theorem witness_UnitResetAndReleaseTakeEffect_hbmStackTrained : ∃ (s : State), s.gf F.RST_STRAP_BOOTSEL 0 = 1 ∧
    (procState 0 s = 1 ∨ procState 1 s = 1) ∧ unitBit 10 8 s = false :=
  ⟨wit_UnitResetAndReleaseTakeEffect_hbmStackTrained, by decide +kernel⟩

def wit_GeneratorRegistersAreLockedWhileEnabled_registerWrite : State × Requester × Reg × Nat :=
  let s : State := State.reset
  let g0 : Fin 4 := 1
  let k : Fin 5 := 1
  let rq : Requester := .pf0
  let r : Reg := [.PART_GEN_START_NS, .PART_GEN_START_SEC_LO, .PART_GEN_START_SEC_HI, .PART_GEN_PERIOD_NS,
      .PART_GEN_PERIOD_FRAC].getD k.val .PART_GEN_START_NS
  let inst : Nat := g0.val
  let s : State := s.sf F.PART_GEN_CTL_EN inst 1
  (s, rq, r, inst)
theorem witness_GeneratorRegistersAreLockedWhileEnabled_registerWrite : ∃ (s : State) (rq : Requester) (r : Reg) (inst : Nat),
    r ∈ [Reg.PART_GEN_START_NS, .PART_GEN_START_SEC_LO, .PART_GEN_START_SEC_HI, .PART_GEN_PERIOD_NS, .PART_GEN_PERIOD_FRAC] ∧
    inst < 4 ∧ s.flag F.PART_GEN_CTL_EN inst = true ∧ mayWrite rq r inst s = true :=
  ⟨wit_GeneratorRegistersAreLockedWhileEnabled_registerWrite.1, wit_GeneratorRegistersAreLockedWhileEnabled_registerWrite.2.1,
      wit_GeneratorRegistersAreLockedWhileEnabled_registerWrite.2.2.1,
      wit_GeneratorRegistersAreLockedWhileEnabled_registerWrite.2.2.2, by decide +kernel⟩

def wit_SoftTicksAdvanceOrAreRefused_dxTick : State × (Fin 64) × Priv :=
  let s : State := State.reset
  let c : Fin 64 := 1
  let v1 : BitVec 64 := 1
  let z : Bool := true
  let m : Priv := .machine
  let s : State := s.sf F.DBG_CORE_STAT_STATE c 1
      |> fun (s : State) => ((s.sf F.RST_PWR_STAT_STATE 0 0).modCore c fun r => { r with wait := none }).sf F.DSP_TICK_CFG_KIND (v1.toNat % 4) (if z then 4 else 1)
  (s, c, m)
theorem witness_SoftTicksAdvanceOrAreRefused_dxTick : ∃ (s : State) (c : Fin 64) (m : Priv), coreFree c s = true ∧
    (m ≠ .user ∨ bitAt (csrHeld c csrCtl s) 0 = 1) :=
  ⟨wit_SoftTicksAdvanceOrAreRefused_dxTick.1, wit_SoftTicksAdvanceOrAreRefused_dxTick.2.1,
      wit_SoftTicksAdvanceOrAreRefused_dxTick.2.2, by decide +kernel⟩

def wit_RefusedAccessesChangeNoRegister_registerWrite : State × Requester × Reg × Nat × Word :=
  let s : State := State.reset
  let v : Word := 1
  let rq : Requester := .core 3 .user
  let r : Reg := .PART_TOUT_CFG
  let inst : Nat := 0
  let s : State := s
  (s, rq, r, inst, v)
theorem witness_RefusedAccessesChangeNoRegister_registerWrite : ∃ (s : State) (rq : Requester) (r : Reg) (inst : Nat) (v : Word),
    noRegister r inst = false ∧ cmdWrite rq r inst v.toNat (okResp 0 s) = none ∧ writable r.masks ≠ 0 ∧
    mayWrite rq r inst (okResp 0 s) = false :=
  ⟨wit_RefusedAccessesChangeNoRegister_registerWrite.1, wit_RefusedAccessesChangeNoRegister_registerWrite.2.1,
      wit_RefusedAccessesChangeNoRegister_registerWrite.2.2.1, wit_RefusedAccessesChangeNoRegister_registerWrite.2.2.2.1,
      wit_RefusedAccessesChangeNoRegister_registerWrite.2.2.2.2, by decide +kernel⟩

def wit_RefusedAccessesChangeNoRegister_rclRead : State × Requester × Reg × Nat :=
  let s : State := State.reset
  let rq : Requester := .core 3 .user
  let r : Reg := .DBG_CORE_STAT
  let ix : Nat := 0
  let s : State := s
  (s, rq, r, ix)
theorem witness_RefusedAccessesChangeNoRegister_rclRead : ∃ (s : State) (rq : Requester) (r : Reg) (ix : Nat),
    noRegister r ix = false ∧ mayRead rq r ix s = false :=
  ⟨wit_RefusedAccessesChangeNoRegister_rclRead.1, wit_RefusedAccessesChangeNoRegister_rclRead.2.1,
      wit_RefusedAccessesChangeNoRegister_rclRead.2.2.1, wit_RefusedAccessesChangeNoRegister_rclRead.2.2.2, by decide +kernel⟩

def wit_RefusedAccessesChangeNoRegister_latchingRead : State × Requester × Reg × Nat :=
  let s : State := State.reset
  let rq : Requester := .core 3 .user
  let r : Reg := .DBG_CORE_STAT
  let ix : Nat := 0
  let s : State := s
  (s, rq, r, ix)
theorem witness_RefusedAccessesChangeNoRegister_latchingRead : ∃ (s : State) (rq : Requester) (r : Reg) (ix : Nat),
    noRegister r ix = false ∧ mayRead rq r ix s = false :=
  ⟨wit_RefusedAccessesChangeNoRegister_latchingRead.1, wit_RefusedAccessesChangeNoRegister_latchingRead.2.1,
      wit_RefusedAccessesChangeNoRegister_latchingRead.2.2.1, wit_RefusedAccessesChangeNoRegister_latchingRead.2.2.2,
      by decide +kernel⟩

def wit_WideCommandsChangeLittleWhereNothingIsReset_brownOut : State × (Fin 11) :=
  let s : State := State.reset
  let r : Fin 11 := 5
  let s : State := ({ s with rst := { s.rst with src := (3, 1, 0) :: s.rst.src } }.sf F.PIO_STAT_BUSY 0 0).sf F.SEC_KEY_STATUS_BUSY 0 0
  (s, r)
theorem witness_WideCommandsChangeLittleWhereNothingIsReset_brownOut : ∃ (s : State) (r : Fin 11), anyPulse s = false ∧
    (s.rst.src.any (fun e => decide (e.2.1 ≤ railLevel r)) = true) :=
  ⟨wit_WideCommandsChangeLittleWhereNothingIsReset_brownOut.1, wit_WideCommandsChangeLittleWhereNothingIsReset_brownOut.2,
      by decide +kernel⟩

def wit_WideCommandsChangeLittleWhereNothingIsReset_resetNAssert : State :=
  let s : State := State.reset
  let s : State := ({ s with rst := { s.rst with src := (3, 1, 0) :: s.rst.src } }.sf F.PIO_STAT_BUSY 0 0).sf F.SEC_KEY_STATUS_BUSY 0 0
  (s)
theorem witness_WideCommandsChangeLittleWhereNothingIsReset_resetNAssert : ∃ (s : State),
    (s.rst.src.any (fun e => decide (e.2.1 ≤ 1)) = true ∨ anyPulse s = true) :=
  ⟨wit_WideCommandsChangeLittleWhereNothingIsReset_resetNAssert, by decide +kernel⟩

def wit_WideCommandsChangeLittleWhereNothingIsReset_resetNAssert_2 : State :=
  let s : State := State.reset
  let s : State := (s.sf F.PIO_STAT_BUSY 0 1)
  (s)
theorem witness_WideCommandsChangeLittleWhereNothingIsReset_resetNAssert_2 : ∃ (s : State), anyPulse s = true :=
  ⟨wit_WideCommandsChangeLittleWhereNothingIsReset_resetNAssert_2, by decide +kernel⟩

def wit_WideCommandsChangeLittleWhereNothingIsReset_deviceWatchdogExpiry : State :=
  let s : State := State.reset
  let s : State := s.sf F.DBG_DWDOG_PAUSE 0 1
  (s)
theorem witness_WideCommandsChangeLittleWhereNothingIsReset_deviceWatchdogExpiry : ∃ (s : State), s.flag F.DBG_DWDOG_PAUSE 0 = true :=
  ⟨wit_WideCommandsChangeLittleWhereNothingIsReset_deviceWatchdogExpiry, by decide +kernel⟩

def wit_WideCommandsChangeLittleWhereNothingIsReset_deviceWatchdogExpiry_2 : State :=
  let s : State := State.reset
  let s : State := { s.sf F.DBG_DWDOG_PAUSE 0 0 with rst := { s.rst with src := (3, 1, 0) :: s.rst.src } }
  (s)
theorem witness_WideCommandsChangeLittleWhereNothingIsReset_deviceWatchdogExpiry_2 : ∃ (s : State),
    (s.rst.src.any (fun e => decide (e.2.1 ≤ 1)) = true ∨ anyPulse s = true) :=
  ⟨wit_WideCommandsChangeLittleWhereNothingIsReset_deviceWatchdogExpiry_2, by decide +kernel⟩

def wit_WideCommandsChangeLittleWhereNothingIsReset_swreq : State × Requester × (BitVec 2) :=
  let s : State := State.reset
  let z : Bool := true
  let rq : Requester := if z then .pf0 else .core 3 .user
  let lvl : BitVec 2 := 2
  let s : State := { s with rst := { s.rst with src := (3, 1, 0) :: s.rst.src } }
  (s, rq, lvl)
theorem witness_WideCommandsChangeLittleWhereNothingIsReset_swreq : ∃ (s : State) (rq : Requester) (lvl : BitVec 2), ((lvl ≠ 1 ∧
    lvl ≠ 2) ∨ (rq ≠ .pf0 ∧ procOrM rq s = false) ∨ s.rst.src.any (fun e => decide (e.2.1 ≤ lvl.toNat)) = true ∨ anyPulse s = true) :=
  ⟨wit_WideCommandsChangeLittleWhereNothingIsReset_swreq.1, wit_WideCommandsChangeLittleWhereNothingIsReset_swreq.2.1,
      wit_WideCommandsChangeLittleWhereNothingIsReset_swreq.2.2, by decide +kernel⟩

def wit_WideCommandsChangeLittleWhereNothingIsReset_dbgreqPulse : State × Requester :=
  let s : State := State.reset
  let rq : Requester := .pf0
  let s : State := { s with rst := { s.rst with src := (3, 1, 0) :: s.rst.src } }
  (s, rq)
theorem witness_WideCommandsChangeLittleWhereNothingIsReset_dbgreqPulse : ∃ (s : State) (rq : Requester),
    (rq ≠ .monitor ∨ s.rst.src.any (fun e => decide (e.2.1 ≤ 2)) = true ∨ anyPulse s = true) :=
  ⟨wit_WideCommandsChangeLittleWhereNothingIsReset_dbgreqPulse.1, wit_WideCommandsChangeLittleWhereNothingIsReset_dbgreqPulse.2,
      by decide +kernel⟩

def wit_WideCommandsChangeLittleWhereNothingIsReset_dbgreqHold : State × Requester × Bool :=
  let s : State := State.reset
  let rq : Requester := .pf0
  let hold : Bool := true
  let s : State := { s with rst := { s.rst with src := (3, 1, 0) :: s.rst.src } }
  (s, rq, hold)
theorem witness_WideCommandsChangeLittleWhereNothingIsReset_dbgreqHold : ∃ (s : State) (rq : Requester) (hold : Bool),
    (rq ≠ .monitor ∨ hold = false ∨ s.rst.src.any (fun e => decide (e.2.1 ≤ 2)) = true ∨ anyPulse s = true) :=
  ⟨wit_WideCommandsChangeLittleWhereNothingIsReset_dbgreqHold.1, wit_WideCommandsChangeLittleWhereNothingIsReset_dbgreqHold.2.1,
      wit_WideCommandsChangeLittleWhereNothingIsReset_dbgreqHold.2.2, by decide +kernel⟩

def wit_WideCommandsChangeLittleWhereNothingIsReset_tempSample : (List Byte) :=
  let x0 : Nat := 1
  let u : List Byte := (List.range 12).map fun i => BitVec.ofNat 8 ((x0 + 7 * i) % 100)
  (u)
theorem witness_WideCommandsChangeLittleWhereNothingIsReset_tempSample : ∃ (u : List Byte), (∀ b ∈ u, degrees b.toNat < 100) :=
  ⟨wit_WideCommandsChangeLittleWhereNothingIsReset_tempSample, by decide +kernel⟩

def wit_WideCommandsChangeLittleWhereNothingIsReset_clockFail : State × (Fin 421) :=
  let s : State := State.reset
  let d : Fin 421 := 1
  let s : State := s.setReg .RST_CLKGOOD (d.val / 32) 0
  (s, d)
theorem witness_WideCommandsChangeLittleWhereNothingIsReset_clockFail : ∃ (s : State) (d : Fin 421),
    (clockGood d s = false ∨ domainOut d s = false) ∧ ¬(274 ≤ d.val ∧ d.val < 342) :=
  ⟨wit_WideCommandsChangeLittleWhereNothingIsReset_clockFail.1, wit_WideCommandsChangeLittleWhereNothingIsReset_clockFail.2,
      by decide +kernel⟩

def wit_WideCommandsChangeLittleWhereNothingIsReset_writePulseEnd : State × Bool :=
  let s : State := State.reset
  let pio : Bool := true
  let s : State := { s with rst := { s.rst with held := [] } }
  (s, pio)
theorem witness_WideCommandsChangeLittleWhereNothingIsReset_writePulseEnd : ∃ (s : State) (pio : Bool), pio = true ∧
    s.rst.held = [] :=
  ⟨wit_WideCommandsChangeLittleWhereNothingIsReset_writePulseEnd.1, wit_WideCommandsChangeLittleWhereNothingIsReset_writePulseEnd.2,
      by decide +kernel⟩

def wit_WideCommandsChangeLittleWhereNothingIsReset_writePulseEnd_2 : State × Bool :=
  let s : State := State.reset
  let k : Fin 4 := 1
  let v : Nat := 1
  let z : Bool := true
  let pio : Bool := false
  let s : State := { s with rst := { s.rst with held := [] }, ld := { s.ld with pulse := if z then some (0, k.val, v + 1) else some (2, k.val, v + 1) } }
  (s, pio)
theorem witness_WideCommandsChangeLittleWhereNothingIsReset_writePulseEnd_2 : ∃ (s : State) (pio : Bool), pio = false ∧
    s.rst.held = [] ∧ (s.ld.pulse.all (fun e => decide (e.2.2 ≠ 0)) = true) :=
  ⟨wit_WideCommandsChangeLittleWhereNothingIsReset_writePulseEnd_2.1,
      wit_WideCommandsChangeLittleWhereNothingIsReset_writePulseEnd_2.2, by decide +kernel⟩

def wit_WideCommandsChangeLittleWhereNothingIsReset_rclRead : Requester × Bool :=
  let rq : Requester := .monitor
  let peek : Bool := true
  (rq, peek)
theorem witness_WideCommandsChangeLittleWhereNothingIsReset_rclRead : ∃ (rq : Requester) (peek : Bool), rq = .monitor ∧ peek = true :=
  ⟨wit_WideCommandsChangeLittleWhereNothingIsReset_rclRead.1, wit_WideCommandsChangeLittleWhereNothingIsReset_rclRead.2,
      by decide +kernel⟩

def wit_WideCommandsChangeLittleWhereNothingIsReset_latchingRead : Requester × Bool :=
  let rq : Requester := .monitor
  let peek : Bool := true
  (rq, peek)
theorem witness_WideCommandsChangeLittleWhereNothingIsReset_latchingRead : ∃ (rq : Requester) (peek : Bool), rq = .monitor ∧
    peek = true :=
  ⟨wit_WideCommandsChangeLittleWhereNothingIsReset_latchingRead.1, wit_WideCommandsChangeLittleWhereNothingIsReset_latchingRead.2,
      by decide +kernel⟩

def wit_WideCommandsChangeLittleWhereNothingIsReset_rclRead_2 : Reg :=
  let r : Reg := .GLB_STEP_TARGET
  (r)
theorem witness_WideCommandsChangeLittleWhereNothingIsReset_rclRead_2 : ∃ (r : Reg), r ≠ .TIM_TXTS_0 :=
  ⟨wit_WideCommandsChangeLittleWhereNothingIsReset_rclRead_2, by decide +kernel⟩

def wit_WideCommandsChangeLittleWhereNothingIsReset_latchingRead_2 : Reg :=
  let r : Reg := .GLB_STEP_TARGET
  (r)
theorem witness_WideCommandsChangeLittleWhereNothingIsReset_latchingRead_2 : ∃ (r : Reg), r ≠ .TIM_TXTS_0 :=
  ⟨wit_WideCommandsChangeLittleWhereNothingIsReset_latchingRead_2, by decide +kernel⟩

def wit_CommandsOfOneInstanceLeaveTheOthers_pinCfgWrite : (Fin 96) × Nat :=
  let g : Fin 96 := 1
  let j : Nat := 3
  (g, j)
theorem witness_CommandsOfOneInstanceLeaveTheOthers_pinCfgWrite : ∃ (g : Fin 96) (j : Nat), j ≠ g.val :=
  ⟨wit_CommandsOfOneInstanceLeaveTheOthers_pinCfgWrite.1, wit_CommandsOfOneInstanceLeaveTheOthers_pinCfgWrite.2, by decide +kernel⟩

def wit_CommandsOfOneInstanceLeaveTheOthers_stwInEnable : (Fin 64) × Nat :=
  let ix : Fin 64 := 1
  let j : Nat := (ix.val + 1) % 64
  (ix, j)
theorem witness_CommandsOfOneInstanceLeaveTheOthers_stwInEnable : ∃ (ix : Fin 64) (j : Nat), j ≠ ix.val :=
  ⟨wit_CommandsOfOneInstanceLeaveTheOthers_stwInEnable.1, wit_CommandsOfOneInstanceLeaveTheOthers_stwInEnable.2, by decide +kernel⟩

def wit_CommandsOfOneInstanceLeaveTheOthers_stwInDisable : (Fin 64) × Nat :=
  let ix : Fin 64 := 1
  let j : Nat := (ix.val + 1) % 64
  (ix, j)
theorem witness_CommandsOfOneInstanceLeaveTheOthers_stwInDisable : ∃ (ix : Fin 64) (j : Nat), j ≠ ix.val :=
  ⟨wit_CommandsOfOneInstanceLeaveTheOthers_stwInDisable.1, wit_CommandsOfOneInstanceLeaveTheOthers_stwInDisable.2, by decide +kernel⟩

def wit_CommandsOfOneInstanceLeaveTheOthers_stwTrgArm : (Fin 16) × Nat :=
  let n : Fin 16 := 1
  let j : Nat := (n.val + 1) % 16
  (n, j)
theorem witness_CommandsOfOneInstanceLeaveTheOthers_stwTrgArm : ∃ (n : Fin 16) (j : Nat), j ≠ n.val :=
  ⟨wit_CommandsOfOneInstanceLeaveTheOthers_stwTrgArm.1, wit_CommandsOfOneInstanceLeaveTheOthers_stwTrgArm.2, by decide +kernel⟩

def wit_CommandsOfOneInstanceLeaveTheOthers_stwTrgDisarm : (Fin 16) × Nat :=
  let n : Fin 16 := 1
  let j : Nat := (n.val + 1) % 16
  (n, j)
theorem witness_CommandsOfOneInstanceLeaveTheOthers_stwTrgDisarm : ∃ (n : Fin 16) (j : Nat), j ≠ n.val :=
  ⟨wit_CommandsOfOneInstanceLeaveTheOthers_stwTrgDisarm.1, wit_CommandsOfOneInstanceLeaveTheOthers_stwTrgDisarm.2, by decide +kernel⟩

def wit_CommandsOfOneInstanceLeaveTheOthers_trcArm : (Fin 16) × Nat :=
  let p : Fin 16 := 1
  let j : Nat := (p.val + 1) % 16
  (p, j)
theorem witness_CommandsOfOneInstanceLeaveTheOthers_trcArm : ∃ (p : Fin 16) (j : Nat), j ≠ p.val :=
  ⟨wit_CommandsOfOneInstanceLeaveTheOthers_trcArm.1, wit_CommandsOfOneInstanceLeaveTheOthers_trcArm.2, by decide +kernel⟩

def wit_CommandsOfOneInstanceLeaveTheOthers_trcStop : (Fin 16) × Nat :=
  let p : Fin 16 := 1
  let j : Nat := (p.val + 1) % 16
  (p, j)
theorem witness_CommandsOfOneInstanceLeaveTheOthers_trcStop : ∃ (p : Fin 16) (j : Nat), j ≠ p.val :=
  ⟨wit_CommandsOfOneInstanceLeaveTheOthers_trcStop.1, wit_CommandsOfOneInstanceLeaveTheOthers_trcStop.2, by decide +kernel⟩

def wit_CommandsOfOneInstanceLeaveTheOthers_arm : (Fin 16) × Nat :=
  let p : Fin 16 := 1
  let j : Nat := (p.val + 1) % 16
  (p, j)
theorem witness_CommandsOfOneInstanceLeaveTheOthers_arm : ∃ (p : Fin 16) (j : Nat), j ≠ p.val :=
  ⟨wit_CommandsOfOneInstanceLeaveTheOthers_arm.1, wit_CommandsOfOneInstanceLeaveTheOthers_arm.2, by decide +kernel⟩

def wit_CommandsOfOneInstanceLeaveTheOthers_start : (Fin 16) × Nat :=
  let p : Fin 16 := 1
  let j : Nat := (p.val + 1) % 16
  (p, j)
theorem witness_CommandsOfOneInstanceLeaveTheOthers_start : ∃ (p : Fin 16) (j : Nat), j ≠ p.val :=
  ⟨wit_CommandsOfOneInstanceLeaveTheOthers_start.1, wit_CommandsOfOneInstanceLeaveTheOthers_start.2, by decide +kernel⟩

def wit_CommandsOfOneInstanceLeaveTheOthers_stopAtBell : (Fin 16) × Nat :=
  let p : Fin 16 := 1
  let j : Nat := (p.val + 1) % 16
  (p, j)
theorem witness_CommandsOfOneInstanceLeaveTheOthers_stopAtBell : ∃ (p : Fin 16) (j : Nat), j ≠ p.val :=
  ⟨wit_CommandsOfOneInstanceLeaveTheOthers_stopAtBell.1, wit_CommandsOfOneInstanceLeaveTheOthers_stopAtBell.2, by decide +kernel⟩

def wit_CommandsOfOneInstanceLeaveTheOthers_resume : (Fin 16) × Nat :=
  let p : Fin 16 := 1
  let j : Nat := (p.val + 1) % 16
  (p, j)
theorem witness_CommandsOfOneInstanceLeaveTheOthers_resume : ∃ (p : Fin 16) (j : Nat), j ≠ p.val :=
  ⟨wit_CommandsOfOneInstanceLeaveTheOthers_resume.1, wit_CommandsOfOneInstanceLeaveTheOthers_resume.2, by decide +kernel⟩

def wit_CommandsOfOneInstanceLeaveTheOthers_freezeNow : (Fin 16) × Nat :=
  let p : Fin 16 := 1
  let j : Nat := (p.val + 1) % 16
  (p, j)
theorem witness_CommandsOfOneInstanceLeaveTheOthers_freezeNow : ∃ (p : Fin 16) (j : Nat), j ≠ p.val :=
  ⟨wit_CommandsOfOneInstanceLeaveTheOthers_freezeNow.1, wit_CommandsOfOneInstanceLeaveTheOthers_freezeNow.2, by decide +kernel⟩

def wit_CommandsOfOneInstanceLeaveTheOthers_faultTailWrite : (Fin 16) × Nat :=
  let p : Fin 16 := 1
  let j : Nat := (p.val + 1) % 16
  (p, j)
theorem witness_CommandsOfOneInstanceLeaveTheOthers_faultTailWrite : ∃ (p : Fin 16) (j : Nat), j ≠ p.val :=
  ⟨wit_CommandsOfOneInstanceLeaveTheOthers_faultTailWrite.1, wit_CommandsOfOneInstanceLeaveTheOthers_faultTailWrite.2,
      by decide +kernel⟩

def wit_CommandsOfOneInstanceLeaveTheOthers_partCommitCancel : (Fin 16) × Nat :=
  let p : Fin 16 := 1
  let j : Nat := (p.val + 1) % 16
  (p, j)
theorem witness_CommandsOfOneInstanceLeaveTheOthers_partCommitCancel : ∃ (p : Fin 16) (j : Nat), j ≠ p.val :=
  ⟨wit_CommandsOfOneInstanceLeaveTheOthers_partCommitCancel.1, wit_CommandsOfOneInstanceLeaveTheOthers_partCommitCancel.2,
      by decide +kernel⟩

def wit_CommandsOfOneInstanceLeaveTheOthers_qPause : (Fin 16384) × Nat :=
  let q : Fin 16384 := 1
  let j : Nat := (q.val + 1) % 64
  (q, j)
theorem witness_CommandsOfOneInstanceLeaveTheOthers_qPause : ∃ (q : Fin 16384) (j : Nat), j ≠ q.val :=
  ⟨wit_CommandsOfOneInstanceLeaveTheOthers_qPause.1, wit_CommandsOfOneInstanceLeaveTheOthers_qPause.2, by decide +kernel⟩

def wit_CommandsOfOneInstanceLeaveTheOthers_qFlush : (Fin 16384) × Nat :=
  let q : Fin 16384 := 1
  let j : Nat := (q.val + 1) % 64
  (q, j)
theorem witness_CommandsOfOneInstanceLeaveTheOthers_qFlush : ∃ (q : Fin 16384) (j : Nat), j ≠ q.val :=
  ⟨wit_CommandsOfOneInstanceLeaveTheOthers_qFlush.1, wit_CommandsOfOneInstanceLeaveTheOthers_qFlush.2, by decide +kernel⟩

def wit_CommandsOfOneInstanceLeaveTheOthers_heartbeat : (Fin 2) × Nat :=
  let ix : Fin 2 := 1
  let j : Nat := 0
  (ix, j)
theorem witness_CommandsOfOneInstanceLeaveTheOthers_heartbeat : ∃ (ix : Fin 2) (j : Nat), j < 2 ∧ j ≠ ix.val :=
  ⟨wit_CommandsOfOneInstanceLeaveTheOthers_heartbeat.1, wit_CommandsOfOneInstanceLeaveTheOthers_heartbeat.2, by decide +kernel⟩

def wit_CommandsOfOneInstanceLeaveTheOthers_genCtlWrite : (Fin 4) × Nat :=
  let g : Fin 4 := 1
  let j : Nat := (g.val + 1) % 8
  (g, j)
theorem witness_CommandsOfOneInstanceLeaveTheOthers_genCtlWrite : ∃ (g : Fin 4) (j : Nat), j ≠ g.val :=
  ⟨wit_CommandsOfOneInstanceLeaveTheOthers_genCtlWrite.1, wit_CommandsOfOneInstanceLeaveTheOthers_genCtlWrite.2, by decide +kernel⟩

def wit_CommandsOfOneInstanceLeaveTheOthers_linkNap : (Fin 68) × Nat :=
  let l : Fin 68 := 1
  let j : Nat := (l.val + 1) % 68
  (l, j)
theorem witness_CommandsOfOneInstanceLeaveTheOthers_linkNap : ∃ (l : Fin 68) (j : Nat), j ≠ l.val :=
  ⟨wit_CommandsOfOneInstanceLeaveTheOthers_linkNap.1, wit_CommandsOfOneInstanceLeaveTheOthers_linkNap.2, by decide +kernel⟩

def wit_CommandsOfOneInstanceLeaveTheOthers_linkDisable : (Fin 68) × Nat :=
  let l : Fin 68 := 1
  let j : Nat := (l.val + 1) % 68
  (l, j)
theorem witness_CommandsOfOneInstanceLeaveTheOthers_linkDisable : ∃ (l : Fin 68) (j : Nat), j ≠ l.val :=
  ⟨wit_CommandsOfOneInstanceLeaveTheOthers_linkDisable.1, wit_CommandsOfOneInstanceLeaveTheOthers_linkDisable.2, by decide +kernel⟩

def wit_CommandsOfOneInstanceLeaveTheOthers_linkRecess : (Fin 68) × Nat :=
  let l : Fin 68 := 1
  let j : Nat := (l.val + 1) % 68
  (l, j)
theorem witness_CommandsOfOneInstanceLeaveTheOthers_linkRecess : ∃ (l : Fin 68) (j : Nat), j ≠ l.val :=
  ⟨wit_CommandsOfOneInstanceLeaveTheOthers_linkRecess.1, wit_CommandsOfOneInstanceLeaveTheOthers_linkRecess.2, by decide +kernel⟩

def wit_CommandsOfOneInstanceLeaveTheOthers_coreTraceStop : (Fin 64) × Nat :=
  let c : Fin 64 := 1
  let j : Nat := (c.val + 1) % 64
  (c, j)
theorem witness_CommandsOfOneInstanceLeaveTheOthers_coreTraceStop : ∃ (c : Fin 64) (j : Nat), j ≠ c.val :=
  ⟨wit_CommandsOfOneInstanceLeaveTheOthers_coreTraceStop.1, wit_CommandsOfOneInstanceLeaveTheOthers_coreTraceStop.2,
      by decide +kernel⟩

def wit_CommandsOfOneInstanceLeaveTheOthers_comparatorMatch : (Fin 64) × Nat :=
  let c : Fin 64 := 1
  let j : Nat := (c.val + 1) % 64
  (c, j)
theorem witness_CommandsOfOneInstanceLeaveTheOthers_comparatorMatch : ∃ (c : Fin 64) (j : Nat), j ≠ c.val :=
  ⟨wit_CommandsOfOneInstanceLeaveTheOthers_comparatorMatch.1, wit_CommandsOfOneInstanceLeaveTheOthers_comparatorMatch.2,
      by decide +kernel⟩

def wit_CommandsOfOneInstanceLeaveTheOthers_registerWrite : Reg × Nat × Nat :=
  let g : Fin 4 := 1
  let k : Fin 5 := 1
  let r : Reg := [.PART_GEN_START_NS, .PART_GEN_START_SEC_LO, .PART_GEN_START_SEC_HI, .PART_GEN_PERIOD_NS,
      .PART_GEN_PERIOD_FRAC].getD k.val .PART_GEN_START_NS
  let inst : Nat := g.val
  let j : Nat := (g.val + 1) % 4
  (r, inst, j)
theorem witness_CommandsOfOneInstanceLeaveTheOthers_registerWrite : ∃ (r : Reg) (inst j : Nat), r ∈ [Reg.PART_GEN_START_NS,
    .PART_GEN_START_SEC_LO, .PART_GEN_START_SEC_HI, .PART_GEN_PERIOD_NS, .PART_GEN_PERIOD_FRAC] ∧ inst < 4 ∧ j ≠ inst :=
  ⟨wit_CommandsOfOneInstanceLeaveTheOthers_registerWrite.1, wit_CommandsOfOneInstanceLeaveTheOthers_registerWrite.2.1,
      wit_CommandsOfOneInstanceLeaveTheOthers_registerWrite.2.2, by decide +kernel⟩

def wit_DesignMemoryAccessesChangeOnlyTheirBytes_designMemoryAccess : State × (BitVec 48) × Nat × Nat :=
  let s : State := State.reset
  let z : Fin 4 := 1
  let off : Fin 65536 := 1
  let dy : Fin 200 := 1
  let own : Fin 17 := 1
  let a : BitVec 48 := BitVec.ofNat 48 ((if z.val = 0 then bbBase + 524288 * 3 else if z.val = 1 then hbmBase + granSize else if z.val = 2 then bbBase else off.val * 65536) + off.val)
  let s : State := ((s.sf F.BBD_BANK_STATE 3 (if own.val = 0 then 3 else 1)).sf F.BBD_BANK_OWNER 3 own.val).sf F.TRC_SNAP_STAT_VALID (own.val - 1) 1 |> fun (s : State) => { s with mem := { s.mem with granOwn := Store.set 0 1 own.val s.mem.granOwn } } |> fun (s : State) => (s.setReg .TRC_AREA (4 * (own.val - 1) + 1) 0x00010000).setReg .TRC_AREA (4 * (own.val - 1) + 2) 0x00010100
  let x : Nat := (a.toNat / 8 * 8)
  let y : Nat := (if z.val = 3 then dy.val else x + dy.val - 100)
  (s, a, x, y)
theorem witness_DesignMemoryAccessesChangeOnlyTheirBytes_designMemoryAccess : ∃ (s : State) (a : BitVec 48) (x y : Nat),
    x = a.toNat / 8 * 8 ∧ designStored x s y = false :=
  ⟨wit_DesignMemoryAccessesChangeOnlyTheirBytes_designMemoryAccess.1,
      wit_DesignMemoryAccessesChangeOnlyTheirBytes_designMemoryAccess.2.1,
      wit_DesignMemoryAccessesChangeOnlyTheirBytes_designMemoryAccess.2.2.1,
      wit_DesignMemoryAccessesChangeOnlyTheirBytes_designMemoryAccess.2.2.2, by decide +kernel⟩

def wit_DesignMemoryAccessesChangeOnlyTheirBytes_bitSetAliasWrite : State × (BitVec 28) × Nat × Nat :=
  let s : State := State.reset
  let dy : Fin 200 := 1
  let own : Fin 17 := 1
  let o0 : Fin 524288 := 1
  let o : BitVec 28 := BitVec.ofNat 28 (o0.val + 524288 * 3)
  let s : State := ((s.sf F.BBD_BANK_STATE 3 1).sf F.BBD_BANK_OWNER 3 own.val).sf F.TRC_SNAP_STAT_VALID (own.val - 1) 1
  let x : Nat := (bbBase + o.toNat % 0x10000000 / 8 * 8)
  let y : Nat := (x + dy.val - 100)
  (s, o, x, y)
theorem witness_DesignMemoryAccessesChangeOnlyTheirBytes_bitSetAliasWrite : ∃ (s : State) (o : BitVec 28) (x y : Nat),
    x = bbBase + o.toNat / 8 * 8 ∧ designStored x s y = false :=
  ⟨wit_DesignMemoryAccessesChangeOnlyTheirBytes_bitSetAliasWrite.1,
      wit_DesignMemoryAccessesChangeOnlyTheirBytes_bitSetAliasWrite.2.1,
      wit_DesignMemoryAccessesChangeOnlyTheirBytes_bitSetAliasWrite.2.2.1,
      wit_DesignMemoryAccessesChangeOnlyTheirBytes_bitSetAliasWrite.2.2.2, by decide +kernel⟩

def wit_DesignMemoryAccessesChangeOnlyTheirBytes_bitClearAliasWrite : State × (BitVec 28) × Nat × Nat :=
  let s : State := State.reset
  let dy : Fin 200 := 1
  let own : Fin 17 := 1
  let o0 : Fin 524288 := 1
  let o : BitVec 28 := BitVec.ofNat 28 (o0.val + 524288 * 3)
  let s : State := ((s.sf F.BBD_BANK_STATE 3 1).sf F.BBD_BANK_OWNER 3 own.val).sf F.TRC_SNAP_STAT_VALID (own.val - 1) 1
  let x : Nat := (bbBase + o.toNat % 0x10000000 / 8 * 8)
  let y : Nat := (x + dy.val - 100)
  (s, o, x, y)
theorem witness_DesignMemoryAccessesChangeOnlyTheirBytes_bitClearAliasWrite : ∃ (s : State) (o : BitVec 28) (x y : Nat),
    x = bbBase + o.toNat / 8 * 8 ∧ designStored x s y = false :=
  ⟨wit_DesignMemoryAccessesChangeOnlyTheirBytes_bitClearAliasWrite.1,
      wit_DesignMemoryAccessesChangeOnlyTheirBytes_bitClearAliasWrite.2.1,
      wit_DesignMemoryAccessesChangeOnlyTheirBytes_bitClearAliasWrite.2.2.1,
      wit_DesignMemoryAccessesChangeOnlyTheirBytes_bitClearAliasWrite.2.2.2, by decide +kernel⟩
end

/-! ## One step of the block (O2, O4, O5)

A step is the command at the front of the queue, or the passing of one step clock, on the state with the queue's rest. What either may
touch stands in Laws/; the three invariants follow from it. -/

namespace Sys2Proof
namespace Machine

/-- The registers and parts that the next step may change: those of the front command, or of one step clock on an empty queue. -/
def State.stepMask (s : State) : Nat :=
  match s.pending with
  | [] => 0x220440000000000000000000000000000000000000000000000000000000000000000000000000000000000000000000000000000
  | c :: _ => Instr.mask c

theorem popPending_of_nil {s : State} (h : s.pending = []) : s.popPending = s := by
  cases s
  subst h
  rfl

/-- Every step answers a next state, which differs from the state with the queue's rest at most in what the mask names. -/
theorem step_touch (s : State) : ∃ t, step s = .next t ∧ Touch s.stepMask s.popPending t := by
  unfold step State.stepMask
  cases h : s.pending with
  | nil =>
    rw [popPending_of_nil h]
    exact ⟨idle s, rfl, idle_touch s⟩
  | cons c l => exact exec_touch c s.popPending

theorem Touch.canonical {w : Nat} {s t : State} (h : Touch w s t) (k : s.Canonical) : t.Canonical :=
  ⟨h.regsWf k.1, h.memWf k.2⟩

/-- Settles O4: the front command keeps both canonical forms, and taking it from the queue changes neither. -/
theorem stepKeepsTheCanonicalForm : Obligations.StepKeepsTheCanonicalForm := by
  intro s t hs ht
  obtain ⟨u, hu, touch⟩ := step_touch s
  rw [hu] at ht
  cases ht
  exact touch.canonical hs

/-- The registers of the device's identity (R5). -/
def identityRegs : List Reg := [.GLB_ID, .GLB_UID, .DIE_ID, .GLB_FEATURE_LEVEL]

/-- No register of the mask is one of the identity. -/
def sparesIdentity (w : Nat) : Bool := identityRegs.all fun r => !w.testBit r.ctorIdx

theorem Instr.mask_sparesIdentity (c : Instr) : sparesIdentity (Instr.mask c) = true := by
  unfold Instr.mask
  split <;> decide

theorem State.stepMask_sparesIdentity (s : State) : sparesIdentity s.stepMask = true := by
  unfold State.stepMask
  split
  · rfl
  · exact Instr.mask_sparesIdentity _

theorem Touch.sameIdentity {w : Nat} {s t : State} (h : Touch w s t) (k : sparesIdentity w = true) : SameIdentity s t := by
  intro r hr i
  have spared := List.all_eq_true.mp k r hr
  exact h.reg r i (by simpa using spared)

/-- The lowest stepping is a fact about identity registers alone. -/
theorem SameIdentity.lowestStepping {s t : State} (h : SameIdentity s t) (k : LowestStepping s) : LowestStepping t := by
  have level : t.gf F.GLB_FEATURE_LEVEL_LEVEL 0 = s.gf F.GLB_FEATURE_LEVEL_LEVEL 0 :=
    congrArg _ (h .GLB_FEATURE_LEVEL (by decide) 0)
  have stepping : ∀ i, t.gf F.DIE_ID_STEP i = s.gf F.DIE_ID_STEP i := fun i => congrArg _ (h .DIE_ID (by decide) i)
  simpa only [LowestStepping, level, stepping] using k

/-- Settles O5: the queue and the identity stand outside what any command may touch. -/
theorem everyStepAnswersAndKeepsTheIdentity : Obligations.EveryStepAnswersAndKeepsTheIdentity := by
  intro s
  obtain ⟨t, ht, touch⟩ := step_touch s
  have same : SameIdentity s t := touch.sameIdentity s.stepMask_sparesIdentity
  exact ⟨t, ht, touch.pending, same, same.lowestStepping⟩

/-- Settles O2: the reset state lists nothing, and every die shows the level that GLB_FEATURE_LEVEL shows. -/
theorem resetStateIsCanonical : Obligations.ResetStateIsCanonical := by
  have canonical : State.reset.Canonical := ⟨rfl, rfl⟩
  have lowest : LowestStepping State.reset := ⟨by decide, 0, by decide, by decide⟩
  exact ⟨canonical, rfl, rfl, lowest⟩

end Machine
end Sys2Proof

/-! ## The violation log and refused accesses (O48) -/

namespace Sys2Proof
namespace Machine

/-- Word 4 of the entry at the head holds access, status, error kind and privilege (Table REL-9). -/
theorem logViol_word (rq : Requester) (access addr status kind data : Nat) (s : State) :
    (logViol rq access addr status kind data s).reg .PRC_VIOL (8 * (s.gf F.PRC_VIOL_STAT_HEAD 0 % 64) + 4)
      = BitVec.ofNat 32 (access + status * 256 + kind * 65536 + reqPriv rq * 16777216) := by
  have apart : Reg.PRC_VIOL.ctorIdx ≠ Reg.PRC_VIOL_STAT.ctorIdx := by decide
  unfold logViol
  dsimp only
  rw [(raiseIrq_touch 37 _).reg .PRC_VIOL _ rfl]
  unfold State.bump
  rw [State.reg_sf_reg _ _ _ _ apart, State.reg_sf_reg _ _ _ _ apart]
  generalize s.gf F.PRC_VIOL_STAT_HEAD 0 % 64 = e
  rw [State.reg_setReg_inst _ _ _ _ (show 8 * e + 4 ≠ 8 * e + 5 by omega),
    State.reg_setReg_inst _ _ _ _ (show 8 * e + 4 ≠ 8 * e + 6 by omega),
    State.reg_setReg_inst _ _ _ _ (show 8 * e + 4 ≠ 8 * e + 7 by omega), State.reg_setReg_same]

/-- The head moves on by one, round the 64 entries. -/
theorem logViol_head (rq : Requester) (access addr status kind data : Nat) (s : State) :
    (logViol rq access addr status kind data s).gf F.PRC_VIOL_STAT_HEAD 0 = (s.gf F.PRC_VIOL_STAT_HEAD 0 % 64 + 1) % 64 := by
  unfold logViol
  dsimp only
  rw [(raiseIrq_touch 37 _).gf F.PRC_VIOL_STAT_HEAD 0 rfl]
  have fits : (s.gf F.PRC_VIOL_STAT_HEAD 0 % 64 + 1) % 64 < 2 ^ F.PRC_VIOL_STAT_HEAD.w := (Nat.mod_lt _ (by decide)).trans (by decide)
  unfold State.bump
  rw [State.gf_sf_fld (f := F.PRC_VIOL_STAT_COUNT) (g := F.PRC_VIOL_STAT_HEAD) _ 0 _ rfl (by decide) (by decide),
    State.gf_sf_fit _ 0 (by decide) fits]

/-- A violation entry stands as `Logged` says, where access, status and kind fit their bytes. -/
theorem logViol_logged (rq : Requester) {access status kind : Nat} (addr data : Nat) (s : State) (ha : access < 256)
    (hs : status < 256) (hk : kind < 256) : Logged status kind s (logViol rq access addr status kind data s) := by
  refine ⟨?_, logViol_head rq access addr status kind data s⟩
  rw [logViol_word, BitVec.toNat_ofNat]
  omega

theorem writeAccess_lt (rq : Requester) : writeAccess rq < 256 := by
  unfold writeAccess
  split <;> decide

/-- What a refused access leaves (R13, R404): the answer 0x21, its entry in the log, and nothing else. -/
structure RefusedAccess (s t : State) : Prop where
  only : Only violRegs [.resp, .hif] s t
  resp : t.resp = { data := 0, status := 0x21, errkind := 1 }
  logged : Logged 0x21 1 s t

theorem denyWrite_refused (rq : Requester) (r : Reg) (i data : Nat) (s : State) : RefusedAccess s (denyWrite rq r i data s) where
  only := (denyWrite_touch rq r i data s).only (by decide +kernel) (by decide)
  resp := rfl
  logged := logViol_logged rq _ _ s (writeAccess_lt rq) (by decide) (by decide)

theorem denyRead_refused (rq : Requester) (r : Reg) (i : Nat) (s : State) : RefusedAccess s (denyRead rq r i s) where
  only := (denyRead_touch rq r i s).only (by decide +kernel) (by decide)
  resp := rfl
  logged := logViol_logged rq _ _ s (by decide) (by decide) (by decide)

/-- The good answer put first does not show in what a refusal leaves. -/
theorem RefusedAccess.of_okResp {d : Nat} {s t : State} (h : RefusedAccess (okResp d s) t) : RefusedAccess s t where
  only := ((okResp_touch d s).only (by decide +kernel) (by decide)).trans h.only
  resp := h.resp
  logged := h.logged

/-- A write of a plain register that the requester may not make is denied. -/
theorem regWrite_refused {rq : Requester} {r : Reg} {i v : Nat} {s : State} (hr : noRegister r i = false)
    (hc : cmdWrite rq r i v (okResp 0 s) = none) (hw : writable r.masks ≠ 0) (hm : mayWrite rq r i (okResp 0 s) = false) :
    RefusedAccess s (regWrite rq r i v s) := by
  have denied : regWrite rq r i v s = denyWrite rq r i v (okResp 0 s) := by
    unfold regWrite
    simp only [hr, hc, hw, hm, Bool.false_eq_true, Bool.not_false, if_false, if_true]
  rw [denied]
  exact (denyWrite_refused rq r i v (okResp 0 s)).of_okResp

/-- A read that the requester may not make is denied. -/
theorem regRead_refused {rq : Requester} {r : Reg} {i : Nat} {s : State} (peek : Bool) (hr : noRegister r i = false)
    (hm : mayRead rq r i s = false) : RefusedAccess s (regRead rq r i peek s) := by
  have denied : regRead rq r i peek s = denyRead rq r i s := by simp [regRead, hr, hm]
  rw [denied]
  exact denyRead_refused rq r i s

/-- Settles O48: the three commands end in `denyWrite` or `denyRead`. -/
theorem refusedAccessesChangeNoRegister : Obligations.RefusedAccessesChangeNoRegister := by
  refine ⟨?write, ?read, ?latching⟩
  case write =>
    intro s rq r inst v hr hc hw hm
    have refused := regWrite_refused hr hc hw hm
    exact ⟨_, rfl, refused.only, refused.resp, refused.logged⟩
  case read =>
    intro s rq r ix peek hr hm
    have refused := regRead_refused (peek && decide (rq = .monitor)) hr hm
    exact ⟨_, rfl, refused.only, refused.resp, refused.logged⟩
  case latching =>
    intro s rq r ix peek hr hm
    have refused := regRead_refused (peek && decide (rq = .monitor)) hr hm
    exact ⟨_, rfl, refused.only, refused.resp, refused.logged⟩

end Machine
end Sys2Proof

/-! ## Frames of the commands that can reset the device (O49)

`Only` is built up along an operation: each lemma below adds one update to a frame that already stands. -/

namespace Sys2Proof
namespace Machine

section Frames

variable {rs : List Reg} {ps : List Part} {s x t : State}

theorem Part.same_refl (s : State) (p : Part) : p.same s s := by cases p <;> rfl

theorem Only.refl (rs : List Reg) (ps : List Part) (s : State) : Only rs ps s s where
  pending := rfl
  reg _ _ _ := rfl
  part p _ := Part.same_refl s p
  bytes _ _ := rfl

/-- A frame within a wider one. -/
theorem Only.mono {rs' : List Reg} {ps' : List Part} (h : Only rs ps s t) (hr : rs ⊆ rs') (hp : ps ⊆ ps') : Only rs' ps' s t where
  pending := h.pending
  reg r e i := h.reg r (fun c => e (hr c)) i
  part p e := h.part p fun c => e (hp c)
  bytes e a := h.bytes (fun c => e (hp c)) a

theorem Only.touch {w : Nat} (h : Touch w x t) (a : regsWithin w rs = true) (b : partsWithin w ps = true) (k : Only rs ps s x) :
    Only rs ps s t :=
  k.trans (h.only a b)

theorem Only.setReg {r : Reg} {i : Nat} {v : Word} (e : r ∈ rs) (k : Only rs ps s x) : Only rs ps s (x.setReg r i v) where
  pending := k.pending
  reg q c j := by
    have apart : q.ctorIdx ≠ r.ctorIdx := fun same => c (Reg.ctorIdx_inj same ▸ e)
    rw [State.reg_setReg_reg _ _ _ _ apart, k.reg q c j]
  part p c := by
    have stays := k.part p c
    cases p <;> exact stays
  bytes := k.bytes

theorem Only.sf {f : Fld} {i v : Nat} (e : f.reg ∈ rs) (k : Only rs ps s x) : Only rs ps s (x.sf f i v) := k.setReg e
theorem Only.sflag {f : Fld} {i : Nat} {b : Bool} (e : f.reg ∈ rs) (k : Only rs ps s x) : Only rs ps s (x.sflag f i b) := k.setReg e

theorem Only.ite {c : Prop} [Decidable c] {a b : State} (h : c → Only rs ps s a) (k : ¬ c → Only rs ps s b) :
    Only rs ps s (if c then a else b) := by
  split
  · exact h ‹_›
  · exact k ‹_›

theorem Only.forUpTo {n : Nat} {f : Nat → State → State} (h : ∀ i u, Only rs ps u (f i u)) (k : Only rs ps s x) :
    Only rs ps s (Machine.forUpTo n f x) := by
  unfold Machine.forUpTo
  induction List.range n generalizing x with
  | nil => exact k
  | cons i l ih => exact ih (k.trans (h i x))

/-- A new record of a part that the frame names, the registers and the memories left alone. -/
theorem Only.rst {r : RstState} (e : Part.rst ∈ ps) (k : Only rs ps s x) : Only rs ps s { x with rst := r } where
  pending := k.pending
  reg := k.reg
  part p c := by
    have stays := k.part p c
    cases p
    case rst => exact absurd e c
    all_goals exact stays
  bytes := k.bytes

theorem Only.pio {r : PioState} (e : Part.pio ∈ ps) (k : Only rs ps s x) : Only rs ps s { x with pio := r } where
  pending := k.pending
  reg := k.reg
  part p c := by
    have stays := k.part p c
    cases p
    case pio => exact absurd e c
    all_goals exact stays
  bytes := k.bytes

theorem Only.ld {r : LdState} (e : Part.ld ∈ ps) (k : Only rs ps s x) : Only rs ps s { x with ld := r } where
  pending := k.pending
  reg := k.reg
  part p c := by
    have stays := k.part p c
    cases p
    case ld => exact absurd e c
    all_goals exact stays
  bytes := k.bytes

theorem Only.seq {n : Nat} (e : Part.seq ∈ ps) (k : Only rs ps s x) : Only rs ps s { x with seq := n } where
  pending := k.pending
  reg := k.reg
  part p c := by
    have stays := k.part p c
    cases p
    case seq => exact absurd e c
    all_goals exact stays
  bytes := k.bytes

theorem Only.okResp {d : Nat} (e : Part.resp ∈ ps) (k : Only rs ps s x) : Only rs ps s (okResp d x) where
  pending := k.pending
  reg := k.reg
  part p c := by
    have stays := k.part p c
    cases p
    case resp => exact absurd e c
    all_goals exact stays
  bytes := k.bytes

theorem Only.denyWrite {rq : Requester} {r : Reg} {i v : Nat} (hr : violRegs ⊆ rs) (hp : [.resp, .hif] ⊆ ps) (k : Only rs ps s x) :
    Only rs ps s (denyWrite rq r i v x) :=
  k.trans (((denyWrite_touch rq r i v x).only (rs := violRegs) (ps := [.resp, .hif]) (by decide +kernel) (by decide)).mono hr hp)

theorem Only.lockedWrite {rq : Requester} {r : Reg} {i v : Nat} (hr : violRegs ⊆ rs) (hp : [.resp, .hif] ⊆ ps) (k : Only rs ps s x) :
    Only rs ps s (lockedWrite rq r i v x) :=
  k.trans (((lockedWrite_touch rq r i v x).only (rs := violRegs) (ps := [.resp, .hif]) (by decide +kernel) (by decide)).mono hr hp)

end Frames

/-! ### Sources of reset -/

/-- What a source leaves that resets nothing: the cause and the release sequence (R422, R423). -/
def causeRegs : List Reg := [.RST_CAUSE, .RST_PEND]

section Sources

variable {rs : List Reg} {ps : List Part} {s x : State} (hr : causeRegs ⊆ rs) (hp : Part.rst ∈ ps)
include hr hp

theorem seqAssert_only (lvl src : Nat) (k : Only rs ps s x) : Only rs ps s (seqAssert lvl src x) := by
  have cause : Reg.RST_CAUSE ∈ rs := hr (by decide)
  have pend : Reg.RST_PEND ∈ rs := hr (by decide)
  exact (((((k.sf pend).sf pend).sf pend).sf cause).sf pend).rst hp

/-- A source whose level is covered joins the sources and the sequence. -/
theorem assertNow_only {lvl : Nat} (src detail : Nat) (held : x.rst.src.any (fun e => decide (e.2.1 ≤ lvl)) = true)
    (k : Only rs ps s x) : Only rs ps s (assertNow src lvl detail x) := by
  unfold assertNow
  rw [held]
  have cause : Reg.RST_CAUSE ∈ rs := hr (by decide)
  exact seqAssert_only hr hp lvl src ((Only.ite (fun _ => k.sf cause) fun _ => k).rst hp)

/-- A source that is covered, or that waits for a write pulse, resets nothing (R421, R425). -/
theorem assertReset_only {lvl : Nat} (src detail : Nat)
    (h : x.rst.src.any (fun e => decide (e.2.1 ≤ lvl)) = true ∨ lvl ≠ 0 ∧ anyPulse x = true) (k : Only rs ps s x) :
    Only rs ps s (assertReset src lvl detail x) := by
  unfold assertReset
  refine Only.ite (fun _ => Only.ite (fun _ => k) fun _ => k.rst hp) fun direct => ?_
  exact assertNow_only hr hp src detail (h.resolve_right direct) k

end Sources

/-- A source that comes during a write pulse joins the held list alone (R425). -/
theorem assertReset_pulse {x : State} {lvl : Nat} (src detail : Nat) (hl : lvl ≠ 0) (pulse : anyPulse x = true) :
    Only [] [.rst] x (assertReset src lvl detail x) ∧ (src, lvl, detail) ∈ (assertReset src lvl detail x).rst.held := by
  unfold assertReset
  rw [if_pos ⟨hl, pulse⟩]
  split
  next listed => exact ⟨Only.refl _ _ _, by simpa using listed⟩
  next => exact ⟨(Only.refl _ _ _).rst (by decide), by simp⟩

theorem brownOut_only {s : State} {r : Nat} (held : s.rst.src.any (fun e => decide (e.2.1 ≤ railLevel r)) = true) :
    Only [.RST_RAIL_STAT, .RST_CAUSE, .RST_PEND] [.rst] s (brownOut r s) := by
  refine Only.sf (by decide) ?_
  exact assertReset_only (by decide) (by decide) srcBor r (.inl held) ((Only.refl _ _ s).sf (List.mem_cons_self ..))

/-- A source of level `lvl` resets nothing in `s`: it is covered, or a write pulse is in progress. -/
def ResetsNothing (lvl : Nat) (s : State) : Prop :=
  s.rst.src.any (fun e => decide (e.2.1 ≤ lvl)) = true ∨ anyPulse s = true

theorem ResetsNothing.covered {lvl : Nat} {s : State} (h : ResetsNothing lvl s) (hl : lvl ≠ 0) :
    s.rst.src.any (fun e => decide (e.2.1 ≤ lvl)) = true ∨ lvl ≠ 0 ∧ anyPulse s = true :=
  h.imp_right fun pulse => ⟨hl, pulse⟩

/-- A write of a register that BUSY does not stand in leaves every pulse. -/
theorem anyPulse_sf {f : Fld} (i v : Nat) (s : State) (hk : Reg.SEC_KEY_STATUS.ctorIdx ≠ f.reg.ctorIdx)
    (hp : Reg.PIO_STAT.ctorIdx ≠ f.reg.ctorIdx) : anyPulse (s.sf f i v) = anyPulse s := by
  simp only [anyPulse, pulseBusy, State.flag, State.gf_sf_reg s i 0 v (g := F.SEC_KEY_STATUS_BUSY) hk,
    State.gf_sf_reg s i 0 v (g := F.PIO_STAT_BUSY) hp]

theorem resetNAssert_only {s : State} (h : ResetsNothing 1 s) : Only [.RST_CAUSE, .RST_PEND] [.rst] s (resetNAssert s) :=
  assertReset_only (by decide) (by decide) srcPin 0 (h.covered (by decide : (1:Nat) ≠ 0)) ((Only.refl _ _ s).rst (by decide))

theorem resetNAssert_pulse {s : State} (pulse : anyPulse s = true) :
    Only [] [.rst] s (resetNAssert s) ∧ (srcPin, 1, 0) ∈ (resetNAssert s).rst.held := by
  obtain ⟨only, listed⟩ := assertReset_pulse (x := { s with rst := { s.rst with pinLow := true } }) srcPin 0 (by decide : (1 : Nat) ≠ 0) pulse
  exact ⟨((Only.refl _ _ s).rst (by decide)).trans only, listed⟩

theorem dwdogExpiry_paused {s : State} (h : s.flag F.DBG_DWDOG_PAUSE 0 = true) : dwdogExpiry s = s := by
  simp [dwdogExpiry, h]

theorem ResetsNothing.sf {lvl : Nat} {s : State} (h : ResetsNothing lvl s) (f : Fld) (i v : Nat)
    (hk : Reg.SEC_KEY_STATUS.ctorIdx ≠ f.reg.ctorIdx) (hp : Reg.PIO_STAT.ctorIdx ≠ f.reg.ctorIdx) : ResetsNothing lvl (s.sf f i v) := by
  unfold ResetsNothing
  rw [State.sf_rst, anyPulse_sf i v s hk hp]
  exact h

theorem dwdogExpiry_only {s : State} (h : ResetsNothing 1 s) :
    Only [.RST_DWDOG_STAT, .RST_CAUSE, .RST_PEND] [.rst] s (dwdogExpiry s) := by
  unfold dwdogExpiry
  refine Only.ite (fun _ => Only.refl _ _ s) fun _ => ?_
  have shown := (h.sf F.RST_DWDOG_STAT_REMAIN 0 0 (by decide) (by decide)).sf F.RST_DWDOG_STAT_EXPIRED 0 1 (by decide) (by decide)
  exact assertReset_only (by decide) (by decide) srcWdog 0 (shown.covered (by decide))
    (((Only.refl _ _ s).sf (by decide)).sf (by decide))

/-! ### Requests for a reset -/

theorem swReq_only {rq : Requester} {lvl : Nat} {s : State}
    (h : (lvl ≠ 1 ∧ lvl ≠ 2) ∨ (rq ≠ .pf0 ∧ procOrM rq s = false) ∨ ResetsNothing lvl s) :
    Only (violRegs ++ [.RST_CAUSE, .RST_PEND]) [.rst, .resp, .hif] s (swReq rq lvl s) := by
  have answered : Only (violRegs ++ [.RST_CAUSE, .RST_PEND]) [.rst, .resp, .hif] s (okResp 0 s) := (Only.refl _ _ s).okResp (by decide)
  unfold swReq
  refine Only.ite (fun _ => (Only.refl _ _ s).denyWrite (by decide) (by decide)) fun admitted => ?_
  refine Only.ite (fun level => ?_) fun _ => answered
  have covered : ResetsNothing lvl s := by
    rcases h with ⟨h1, h2⟩ | ⟨hrq, hproc⟩ | h
    · exact absurd level (not_or.mpr ⟨h1, h2⟩)
    · exact absurd (by simp [hrq, hproc]) admitted
    · exact h
  exact assertReset_only (by decide) (by decide) srcSwreq 0 (covered.covered (by omega)) answered

theorem dbgreqPulse_only {rq : Requester} {s : State} (h : rq ≠ .monitor ∨ ResetsNothing 2 s) :
    Only (violRegs ++ [.RST_CAUSE, .RST_PEND]) [.rst, .resp, .hif] s (dbgreqPulse rq s) := by
  unfold dbgreqPulse
  refine Only.ite (fun _ => (Only.refl _ _ s).denyWrite (by decide) (by decide)) fun admitted => ?_
  exact assertReset_only (by decide) (by decide) srcDbgreq 0 ((h.resolve_left admitted).covered (by decide))
    ((Only.refl _ _ s).okResp (by decide))

theorem dbgreqHold_only {rq : Requester} {hold : Bool} {s : State} (h : rq ≠ .monitor ∨ hold = false ∨ ResetsNothing 2 s) :
    Only (violRegs ++ [.RST_CAUSE, .RST_PEND, .RST_DBGREQ]) [.rst, .resp, .hif] s (dbgreqHold rq hold s) := by
  unfold dbgreqHold
  refine Only.ite (fun _ => (Only.refl _ _ s).denyWrite (by decide) (by decide)) fun admitted => ?_
  have written : Only (violRegs ++ [.RST_CAUSE, .RST_PEND, .RST_DBGREQ]) [.rst, .resp, .hif] s
      (okResp 0 (s.sflag F.RST_DBGREQ_HOLD 0 hold)) := ((Only.refl _ _ s).sflag (by decide)).okResp (by decide)
  refine Only.ite (fun set => ?_) fun _ => written.rst (by decide)
  have covered : ResetsNothing 2 s := (h.resolve_left admitted).resolve_left (by simp [set])
  refine assertReset_only (by decide) (by decide) srcDbgreq 1 ?_ written
  have pulse : anyPulse (okResp 0 (s.sflag F.RST_DBGREQ_HOLD 0 hold)) = anyPulse s := anyPulse_sf _ _ s (by decide) (by decide)
  rw [pulse]
  exact covered.covered (by decide)

/-! ### Temperature and clocks -/

theorem showTemp_only (i t : Nat) (s : State) : Only [.RST_TEMP] [] s (showTemp i t s) := by
  have shown : Only [.RST_TEMP] [] s (s.sf F.RST_TEMP_TEMP i t) := (Only.refl _ _ s).sf (by decide)
  exact Only.ite (fun _ => shown.sf (by decide)) fun _ => shown

/-- The highest of some readings lies below a bound that each of them lies below. -/
theorem foldl_max_degrees_lt {b m : Int} (l : List Nat) (hm : m < b) (h : ∀ t ∈ l, degrees t < b) :
    l.foldl (fun m t => max m (degrees t)) m < b := by
  induction l generalizing m with
  | nil => exact hm
  | cons t l ih =>
    exact ih (max_lt hm (h t (List.mem_cons_self ..))) fun u hu => h u (List.mem_cons_of_mem _ hu)

/-- A sensor's reading as TEMP_SAMPLE takes it is one of the bytes given, or 0. -/
theorem degrees_reading_lt {u : List Byte} (h : ∀ b ∈ u, degrees b.toNat < 100) (i : Nat) :
    degrees ((u.map (·.toNat)).getD i 0 % 256) < 100 := by
  rw [List.getD_eq_getElem?_getD, List.getElem?_map]
  cases hb : u[i]? with
  | none => decide
  | some b =>
    have small : b.toNat % 256 = b.toNat := Nat.mod_eq_of_lt b.isLt
    simpa [small] using h b (List.mem_of_getElem? hb)

theorem tempSample_only {u : List Byte} (h : ∀ b ∈ u, degrees b.toNat < 100) (s : State) :
    Only [.RST_TEMP] [.rst] s (tempSample (u.map (·.toNat)) s) := by
  unfold tempSample
  dsimp only
  have cool : ((List.range 12).map fun i => (u.map (·.toNat)).getD i 0 % 256).foldl (fun m t => max m (degrees t)) (-128) < 100 := by
    refine foldl_max_degrees_lt _ (by decide) fun t ht => ?_
    obtain ⟨i, -, rfl⟩ := List.mem_map.mp ht
    exact degrees_reading_lt h i
  generalize (List.range 12).map (fun i => (u.map (·.toNat)).getD i 0 % 256) = l at cool ⊢
  generalize l.foldl (fun m t => max m (degrees t)) (-128) = top at cool ⊢
  rw [if_neg (show ¬ (115 : Int) ≤ top by omega), if_neg (show ¬ (108 : Int) ≤ top by omega), if_neg (show ¬ (100 : Int) ≤ top by omega)]
  exact (Only.forUpTo (fun i t => (showTemp_only i _ t).mono (by decide) (by decide)) (Only.refl _ _ s)).rst (by decide)

/-- Clock-good bits do not bear on which domains are out of reset. -/
theorem domainOut_setGood (d e : Nat) (b : Bool) (s : State) : domainOut d (setGood e b s) = domainOut d s := by
  have apart : Reg.RST_PEND.ctorIdx ≠ Reg.RST_CLKGOOD.ctorIdx := by decide
  have active := State.gf_sf_reg s (e / 32) 0 (b2n b) (f := ⟨.RST_CLKGOOD, e % 32, 1⟩) (g := F.RST_PEND_ACTIVE) apart
  have stp := State.gf_sf_reg s (e / 32) 0 (b2n b) (f := ⟨.RST_CLKGOOD, e % 32, 1⟩) (g := F.RST_PEND_STEP) apart
  simp only [domainOut, setGood, State.sflag, State.flag, active, stp]

theorem clockFail_only {s : State} {d : Nat} (h : clockGood d s = false ∨ domainOut d s = false) (hd : ¬ (274 ≤ d ∧ d < 342)) :
    Only [.RST_CLKGOOD] [] s (clockFail d s) := by
  have quiet : (clockGood d s && domainOut d (setGood d false s)) = false := by
    rw [domainOut_setGood]
    rcases h with h | h <;> simp [h]
  unfold clockFail
  dsimp only
  rw [if_neg hd, quiet]
  exact (Only.refl _ _ s).sflag (List.mem_cons_self ..)

/-! ### The end of a write pulse -/

theorem heldRelease_only {rs : List Reg} {ps : List Part} {s x : State} (hp : Part.rst ∈ ps) (none : x.rst.held = [])
    (k : Only rs ps s x) : Only rs ps s (heldRelease x) := by
  have released : ∀ {y : State} (f : Nat × Nat × Nat → Bool), Only rs ps s y → Only rs ps s (releaseReset f y) := fun _ h => h.rst hp
  unfold heldRelease
  rw [none]
  refine Only.ite (fun _ => k) fun _ => ?_
  have dropped : Only rs ps s { x with rst := { x.rst with held := [] } } := k.rst hp
  have pin := Only.ite (c := x.rst.pinLow = true) (fun _ => dropped) fun _ => released (fun e => decide (e.1 = srcPin)) dropped
  exact Only.ite (fun _ => pin) fun _ => released _ pin

theorem fuseDone_only {rs : List Reg} {ps : List Part} (s : State) (hp : Part.pio ∈ ps) : Only rs ps s (fuseDone s) := by
  unfold fuseDone
  split
  · exact Only.refl _ _ s
  · exact (Only.refl _ _ s).pio hp

theorem writePulseEnd_pins_only {s : State} (none : s.rst.held = []) :
    Only [.PIO_STAT, .RST_PEND] [.pio, .rst] s (writePulseEnd true s) := by
  have ended : Only [.PIO_STAT, .RST_PEND] [.pio, .rst] s ((fuseDone s).sf F.PIO_STAT_BUSY 0 0) :=
    (fuseDone_only s (by decide)).sf (by decide)
  have held : (fuseDone s).rst = s.rst := (fuseDone_only (rs := []) (ps := [.pio]) s (by decide)).part .rst (by decide)
  exact heldRelease_only (by decide) (by simpa [held] using none) ended

/-- The registers of the keys, the root keys and the counter. -/
def keyRegs : List Reg := [.SEC_KEY_STATUS, .SEC_RK_STAT, .SEC_SVN_STAT]

/-- A pulse that programs changes its own register and what the slot holds. -/
theorem pulseEffect_only {b slot what : Nat} (h : what ≠ 0) (s : State) : Only keyRegs [.ld] s (pulseEffect b slot what s) := by
  have start := Only.refl keyRegs [.ld] s
  unfold pulseEffect
  split
  · rw [if_neg h]
    exact (start.sf (show Reg.SEC_KEY_STATUS ∈ keyRegs by decide)).ld (by decide)
  · rw [if_neg h]
    exact (start.sf (show Reg.SEC_RK_STAT ∈ keyRegs by decide)).ld (by decide)
  · exact start.sf (by decide)
  · exact start

theorem writePulseEnd_keys_only {s : State} (none : s.rst.held = []) (h : s.ld.pulse.all (fun e => decide (e.2.2 ≠ 0)) = true) :
    Only [.SEC_KEY_STATUS, .SEC_RK_STAT, .SEC_SVN_STAT, .RST_PEND] [.ld, .rst] s (writePulseEnd false s) := by
  unfold writePulseEnd
  rw [if_neg Bool.false_ne_true]
  split
  next => exact Only.refl _ _ s
  next b slot what pulse =>
    refine Only.ite (fun _ => Only.refl _ _ s) fun _ => ?_
    have programs : what ≠ 0 := by simpa [pulse] using h
    have effect := pulseEffect_only (b := b) (slot := slot) programs s
    have held : (pulseEffect b slot what s).rst = s.rst := effect.part .rst (by decide)
    have ended := ((effect.mono (rs' := [.SEC_KEY_STATUS, .SEC_RK_STAT, .SEC_SVN_STAT, .RST_PEND]) (ps' := [.ld, .rst])
      (by decide) (by decide)).sf (f := F.SEC_KEY_STATUS_BUSY) (i := 0) (v := 0) (by decide))
    refine heldRelease_only (by decide) ?_ (ended.ld (by decide))
    show ((pulseEffect b slot what s).sf F.SEC_KEY_STATUS_BUSY 0 0).rst.held = []
    rw [State.sf_rst, held]
    exact none

/-! ### Reads -/

section Reads

variable {rs : List Reg} {s x : State}

theorem Only.freeView (r : Reg) {ps : List Part} (hp : Part.seq ∈ ps) (k : Only rs ps s x) :
    Only rs ps s (if freeView r then { x with seq := x.seq + 1 } else x) := Only.ite (fun _ => k.seq hp) fun _ => k

theorem denyRead_only (rq : Requester) (r : Reg) (i : Nat) (s : State) (hr : violRegs ⊆ rs) :
    Only rs [.seq, .resp, .hif] s (denyRead rq r i s) :=
  ((denyRead_touch rq r i s).only (rs := violRegs) (ps := [.resp, .hif]) (by decide +kernel) (by decide)).mono hr (by decide)

/-- A peek answers and draws, and has no other effect (R365, R366). -/
theorem regRead_peek_only (rq : Requester) (r : Reg) (i : Nat) (s : State) :
    Only violRegs [.seq, .resp, .hif] s (regRead rq r i true s) := by
  have start := Only.refl violRegs [.seq, .resp, .hif] s
  unfold regRead
  refine Only.ite (fun _ => start.okResp (by decide)) fun _ => Only.ite (fun _ => denyRead_only rq r i s (by decide)) fun _ => ?_
  rw [if_pos rfl]
  exact (start.freeView r (by decide)).okResp (by decide)

theorem latchRead_only {ps : List Part} (r : Reg) (i : Nat) (hr : latchRegs ⊆ rs) (k : Only rs ps s x) :
    Only rs ps s (latchRead r i x) :=
  k.trans (((latchRead_touch r i x).only (rs := latchRegs) (ps := []) (by decide +kernel) (by decide)).mono hr (by simp))

theorem clearRead_only {ps : List Part} (r : Reg) (i : Nat) (hr : r ∈ rs) (k : Only rs ps s x) : Only rs ps s (clearRead r i x) :=
  Only.ite (fun _ => k) fun _ => k.setReg hr

/-- A read changes the register read and its latched partners, where it is not the one that pops the timestamp FIFO (R10, R479). -/
theorem regRead_only (rq : Requester) {r : Reg} (i : Nat) (peek : Bool) (s : State) (h : r ≠ .TIM_TXTS_0) :
    Only (violRegs ++ r :: latchRegs) [.seq, .resp, .hif] s (regRead rq r i peek s) := by
  have start := Only.refl (violRegs ++ r :: latchRegs) [.seq, .resp, .hif] s
  have viol : violRegs ⊆ violRegs ++ r :: latchRegs := List.subset_append_left _ _
  have latch : latchRegs ⊆ violRegs ++ r :: latchRegs := fun _ hq => List.mem_append_right _ (List.mem_cons_of_mem _ hq)
  have own : r ∈ violRegs ++ r :: latchRegs := List.mem_append_right _ (List.mem_cons_self ..)
  unfold regRead
  refine Only.ite (fun _ => start.okResp (by decide)) fun _ => Only.ite (fun _ => denyRead_only rq r i s viol) fun _ => ?_
  have drawn := start.freeView r (by decide)
  refine Only.ite (fun _ => drawn.okResp (by decide)) fun _ => ?_
  rw [if_neg h]
  exact (clearRead_only r i own (latchRead_only r i latch drawn)).okResp (by decide)

end Reads

/-- Settles O49, each clause by the frame of its operation. -/
theorem wideCommandsChangeLittleWhereNothingIsReset : Obligations.WideCommandsChangeLittleWhereNothingIsReset := by
  refine ⟨?brownOut, ?resetN, ?resetNPulse, ?dwdogPaused, ?dwdog, ?swreq, ?dbgreqPulse, ?dbgreqHold, ?temp, ?clock, ?pins, ?keys,
    ?rclPeek, ?latchPeek, ?rcl, ?latch⟩
  case brownOut => exact fun s r _ held => ⟨_, rfl, brownOut_only held⟩
  case resetN => exact fun s h => ⟨_, rfl, resetNAssert_only h⟩
  case resetNPulse => exact fun s pulse => ⟨_, rfl, resetNAssert_pulse pulse⟩
  case dwdogPaused => exact fun s h => ⟨_, rfl, dwdogExpiry_paused h⟩
  case dwdog => exact fun s h => ⟨_, rfl, dwdogExpiry_only h⟩
  case swreq =>
    intro s rq lvl h
    refine ⟨_, rfl, swReq_only (h.imp_left ?_)⟩
    rintro ⟨h1, h2⟩
    exact ⟨fun e => h1 (BitVec.eq_of_toNat_eq e), fun e => h2 (BitVec.eq_of_toNat_eq e)⟩
  case dbgreqPulse => exact fun s rq h => ⟨_, rfl, dbgreqPulse_only h⟩
  case dbgreqHold => exact fun s rq hold h => ⟨_, rfl, dbgreqHold_only h⟩
  case temp => exact fun s u h => ⟨_, rfl, tempSample_only h s⟩
  case clock => exact fun s d h hd => ⟨_, rfl, clockFail_only h hd⟩
  case pins =>
    rintro s _ rfl none
    exact ⟨_, rfl, writePulseEnd_pins_only none⟩
  case keys =>
    rintro s _ rfl none h
    exact ⟨_, rfl, writePulseEnd_keys_only none h⟩
  case rclPeek =>
    rintro s _ r ix _ ⟨rfl, rfl⟩
    exact ⟨_, rfl, regRead_peek_only .monitor r ix s⟩
  case latchPeek =>
    rintro s _ r ix _ ⟨rfl, rfl⟩
    exact ⟨_, rfl, regRead_peek_only .monitor r ix s⟩
  case rcl => exact fun s rq r ix peek h => ⟨_, rfl, regRead_only rq ix _ s h⟩
  case latch => exact fun s rq r ix peek h => ⟨_, rfl, regRead_only rq ix _ s h⟩

end Machine
end Sys2Proof

/-! ## Commands to one of several units (O50)

`AtInstance rs n s t`: outside the registers `rs`, which are the shared ones such as the violation log, `t` differs from `s` only in
registers of index `n` and in the records of partition `n` and core `n`. Each operation that serves one unit has this frame for its
own number. -/

namespace Sys2Proof
namespace Machine

/-- From `s` to `t` every index but `n` stays as it was, the registers `rs` apart. -/
structure AtInstance (rs : List Reg) (n : Nat) (s t : State) : Prop where
  reg : ∀ r, r ∉ rs → ∀ j, j ≠ n → t.reg r j = s.reg r j
  part : ∀ j, j ≠ n → t.part j = s.part j
  core : ∀ j, j ≠ n → t.core j = s.core j

namespace AtInstance

section

variable {rs : List Reg} {n : Nat} {s x t : State}

theorem refl (rs : List Reg) (n : Nat) (s : State) : AtInstance rs n s s := ⟨fun _ _ _ _ => rfl, fun _ _ => rfl, fun _ _ => rfl⟩

theorem trans (h : AtInstance rs n s x) (k : AtInstance rs n x t) : AtInstance rs n s t where
  reg r e j d := (k.reg r e j d).trans (h.reg r e j d)
  part j d := (k.part j d).trans (h.part j d)
  core j d := (k.core j d).trans (h.core j d)

theorem mono {rs' : List Reg} (h : AtInstance rs n s t) (hr : rs ⊆ rs') : AtInstance rs' n s t :=
  ⟨fun r e => h.reg r fun c => e (hr c), h.part, h.core⟩

theorem setReg {r : Reg} {v : Word} (k : AtInstance rs n s x) : AtInstance rs n s (x.setReg r n v) where
  reg q e j d := (State.reg_setReg_inst x r q v d).trans (k.reg q e j d)
  part := k.part
  core := k.core

theorem sf {f : Fld} {v : Nat} (k : AtInstance rs n s x) : AtInstance rs n s (x.sf f n v) := k.setReg
theorem sflag {f : Fld} {b : Bool} (k : AtInstance rs n s x) : AtInstance rs n s (x.sflag f n b) := k.setReg
theorem bump {f : Fld} {v : Nat} (k : AtInstance rs n s x) : AtInstance rs n s (x.bump f n v) := k.setReg

theorem setPart {p : PartRec} (k : AtInstance rs n s x) : AtInstance rs n s (x.setPart n p) where
  reg := k.reg
  part j d := (State.part_setPart_ne x p d).trans (k.part j d)
  core := k.core

theorem modPart {f : PartRec → PartRec} (k : AtInstance rs n s x) : AtInstance rs n s (x.modPart n f) := k.setPart

theorem modCore {f : CoreRec → CoreRec} (k : AtInstance rs n s x) : AtInstance rs n s (x.modCore n f) where
  reg := k.reg
  part := k.part
  core j d := (State.core_modCore_ne x f d).trans (k.core j d)

/-! Updates of parts of the state that hold neither registers nor the records of partitions and cores. -/

theorem resp {r : BusResp} (k : AtInstance rs n s x) : AtInstance rs n s { x with resp := r } := ⟨k.reg, k.part, k.core⟩
theorem seq {m : Nat} (k : AtInstance rs n s x) : AtInstance rs n s { x with seq := m } := ⟨k.reg, k.part, k.core⟩
theorem rel {r : RelState} (k : AtInstance rs n s x) : AtInstance rs n s { x with rel := r } := ⟨k.reg, k.part, k.core⟩
theorem dbg {r : DbgState} (k : AtInstance rs n s x) : AtInstance rs n s { x with dbg := r } := ⟨k.reg, k.part, k.core⟩
theorem trc {r : TrcState} (k : AtInstance rs n s x) : AtInstance rs n s { x with trc := r } := ⟨k.reg, k.part, k.core⟩
theorem modTrec {p : Nat} {f : TrcRec → TrcRec} (k : AtInstance rs n s x) : AtInstance rs n s (x.modTrec p f) := ⟨k.reg, k.part, k.core⟩
theorem setStwTrg {i : Nat} {r : StwTrg} (k : AtInstance rs n s x) : AtInstance rs n s (x.setStwTrg i r) := ⟨k.reg, k.part, k.core⟩
theorem setGen {g m : Nat} (k : AtInstance rs n s x) : AtInstance rs n s (setGen g m x) := ⟨k.reg, k.part, k.core⟩
theorem setFz {p : Nat} {r : FrzPart} (k : AtInstance rs n s x) : AtInstance rs n s (x.setFz p r) := ⟨k.reg, k.part, k.core⟩
theorem modLk {l : Nat} {f : LinkRec → LinkRec} (k : AtInstance rs n s x) : AtInstance rs n s (x.modLk l f) := ⟨k.reg, k.part, k.core⟩
theorem setTop {q : Nat} {t : Option Task} (k : AtInstance rs n s x) : AtInstance rs n s (setTop q t x) := ⟨k.reg, k.part, k.core⟩
theorem setExpd {q : Nat} {l : List Task} (k : AtInstance rs n s x) : AtInstance rs n s (setExpd q l x) := ⟨k.reg, k.part, k.core⟩
theorem setBack {q : Nat} {l : List Task} (k : AtInstance rs n s x) : AtInstance rs n s (setBack q l x) := ⟨k.reg, k.part, k.core⟩

/-- An operation that touches the shared registers alone, and neither partition records nor cores. -/
theorem touch {w : Nat} (h : Touch w x t) (k : AtInstance rs n s x) (a : regsWithin w rs = true := by decide +kernel)
    (b : w.testBit 405 = false := by rfl) (c : w.testBit 419 = false := by rfl) : AtInstance rs n s t :=
  k.trans {
    reg := fun r e j _ => h.reg r j (regsWithin_testBit a e)
    part := fun j _ => by unfold State.part; rw [h.parts b]
    core := fun j _ => by unfold State.core; rw [h.dsp c] }

theorem ite {c : Prop} [Decidable c] {a b : State} (h : AtInstance rs n s a) (k : AtInstance rs n s b) :
    AtInstance rs n s (if c then a else b) := by
  split <;> assumption

theorem forEach {α : Type} {l : List α} {f : α → State → State} (h : ∀ a u, AtInstance rs n u (f a u)) (k : AtInstance rs n s x) :
    AtInstance rs n s (Machine.forEach l f x) := by
  unfold Machine.forEach
  induction l generalizing x with
  | nil => exact k
  | cons a l ih => exact ih (k.trans (h a x))

theorem forUpTo {m : Nat} {f : Nat → State → State} (h : ∀ i u, AtInstance rs n u (f i u)) (k : AtInstance rs n s x) :
    AtInstance rs n s (Machine.forUpTo m f x) := forEach h k

end

/-! ### What every command may end in -/

section

variable {n : Nat} {s x : State}

theorem okResp {rs : List Reg} {d : Nat} (k : AtInstance rs n s x) : AtInstance rs n s (okResp d x) := k.resp

theorem denyWrite (rq : Requester) (r : Reg) (i v : Nat) (k : AtInstance violRegs n s x) :
    AtInstance violRegs n s (denyWrite rq r i v x) := touch (denyWrite_touch rq r i v x) k

theorem lockedWrite (rq : Requester) (r : Reg) (i v : Nat) (k : AtInstance violRegs n s x) :
    AtInstance violRegs n s (lockedWrite rq r i v x) := touch (lockedWrite_touch rq r i v x) k

theorem logRefused (rq : Requester) (r : Reg) (i v : Nat) (k : AtInstance violRegs n s x) :
    AtInstance violRegs n s (logRefused rq r i v x) := touch (logRefused_touch rq r i v x) k

theorem partEvent {rs : List Reg} (p e : Nat) (k : AtInstance rs n s x) (a : [.HIF_IRQ_PEND_LO, .HIF_IRQ_PEND_HI] ⊆ rs) :
    AtInstance rs n s (partEvent p e x) :=
  k.trans ((touch (rs := [.HIF_IRQ_PEND_LO, .HIF_IRQ_PEND_HI]) (partEvent_touch p e x) (refl _ _ x)).mono a)

end

end AtInstance

open AtInstance

/-! ### Pins, stopwatch, generators, proctors -/

theorem pinCfgWrite_atInstance (rq : Requester) (g v : Nat) (s : State) : AtInstance violRegs g s (pinCfgWrite rq g v s) := by
  have start := refl violRegs g s
  unfold pinCfgWrite
  exact (start.denyWrite ..).ite ((start.lockedWrite ..).ite ((start.setReg.sf.lockedWrite ..).ite start.setReg.sf.okResp))

theorem stwInDeny_atInstance (rq : Requester) (i cmd : Nat) (s : State) : AtInstance violRegs i s (stwInDeny rq i cmd s) :=
  ((refl violRegs i s).denyWrite ..).sf

theorem stwInRefuse_atInstance (rq : Requester) (i cmd : Nat) (s : State) : AtInstance violRegs i s (stwInRefuse rq i cmd s) :=
  (refl violRegs i s).sf.logRefused ..

theorem stwInEnable_atInstance (rq : Requester) (i : Nat) (s : State) : AtInstance violRegs i s (stwInEnable rq i s) :=
  (stwInDeny_atInstance ..).ite ((refl violRegs i s).sf.sf.ite (stwInRefuse_atInstance ..))

theorem stwInDisable_atInstance (rq : Requester) (i : Nat) (s : State) : AtInstance violRegs i s (stwInDisable rq i s) :=
  (stwInDeny_atInstance ..).ite ((refl violRegs i s).sf.sf.ite (stwInRefuse_atInstance ..))

theorem stwTrgDeny_atInstance (rq : Requester) (n cmd : Nat) (s : State) : AtInstance violRegs n s (stwTrgDeny rq n cmd s) :=
  ((refl violRegs n s).denyWrite ..).sf

theorem stwTrgRefuse_atInstance (rq : Requester) (n cmd : Nat) (s : State) : AtInstance violRegs n s (stwTrgRefuse rq n cmd s) :=
  (refl violRegs n s).sf.logRefused ..

theorem stwTrgArm_atInstance (rq : Requester) (n : Nat) (s : State) : AtInstance violRegs n s (stwTrgArm rq n s) :=
  (stwTrgDeny_atInstance ..).ite ((refl violRegs n s).sf.sf.sf.setStwTrg.ite (stwTrgRefuse_atInstance ..))

theorem stwTrgDisarm_atInstance (rq : Requester) (n : Nat) (s : State) : AtInstance violRegs n s (stwTrgDisarm rq n s) :=
  (stwTrgDeny_atInstance ..).ite ((refl violRegs n s).sf.sf.setStwTrg.ite (stwTrgRefuse_atInstance ..))

theorem genCtlWrite_atInstance (rq : Requester) (g v : Nat) (s : State) : AtInstance violRegs g s (genCtlWrite rq g v s) := by
  have start := refl violRegs g s
  unfold genCtlWrite
  exact (start.denyWrite ..).ite ((start.okResp.ite start.okResp.sf.sf.setGen).ite start.okResp.sf.sf)

theorem heartbeat_atInstance (i path : Nat) (s : State) : AtInstance [] i s (heartbeat i path s) :=
  (refl [] i s).ite (refl [] i s).sf.rel

/-! ### Traces of partitions -/

/-- What a trace command of a partition shares with others: the violation log, the interrupts, the funnel. -/
def traceShared : List Reg := violRegs ++ [.DBG_FUN_WR, .DBG_FUN_LOST]

theorem trcRefuse_atInstance (rq : Requester) (p cmd st : Nat) (s : State) : AtInstance violRegs p s (trcRefuse rq p cmd st s) :=
  touch (logViol_touch ..) (refl violRegs p s).sf

theorem trcArm_atInstance (rq : Requester) (p : Nat) (s : State) : AtInstance violRegs p s (trcArm rq p s) := by
  have start := refl violRegs p s
  unfold trcArm
  exact (start.denyWrite ..).ite ((trcRefuse_atInstance ..).ite (start.sf.sf.setReg.modTrec.ite (trcRefuse_atInstance ..)))

theorem ringFlush_atInstance (p : Nat) (s : State) : AtInstance traceShared p s (ringFlush p s) := by
  have start := refl traceShared p s
  have stored : AtInstance traceShared p s
      ((s.wbs (areaBase p 3 s + 64 * s.gf F.TRC_SIG_WR_LINE p) ((s.trec p).line.take 64)).modTrec p fun r =>
        { r with line := (s.trec p).line.drop 64, ringPos := r.ringPos + 1 }) := (touch (State.wbs_touch ..) start).modTrec
  unfold ringFlush
  exact start.ite (((stored.sf.sf.partEvent _ _ (by decide)).ite stored.sf.sf).ite stored.sf)

theorem toSink_atInstance (p : Nat) (b : List Nat) (s : State) : AtInstance traceShared p s (toSink p b s) :=
  (touch (funnelPut_touch ..) (refl traceShared p s)).ite ((refl traceShared p s).modTrec.trans (ringFlush_atInstance ..))

theorem emit_atInstance (p b : Nat) (bytes : List Nat) (s : State) : AtInstance traceShared p s (emit p b bytes s) := by
  have start := refl traceShared p s
  have sink : ∀ {x : State} (l : List Nat), AtInstance traceShared p s x → AtInstance traceShared p s (toSink p l x) :=
    fun l h => h.trans (toSink_atInstance p l _)
  unfold emit
  refine start.ite (start.bump.modTrec.ite (sink _ ?_))
  exact start.trc.ite (sink _ (sink _ start.trc)).modTrec

theorem traceStop_atInstance (p bell : Nat) (s : State) : AtInstance traceShared p s (traceStop p bell s) := by
  have start := refl traceShared p s
  unfold traceStop
  exact ((start.ite (emit_atInstance ..)).sf).partEvent _ _ (by decide)

theorem trcStop_atInstance (rq : Requester) (p : Nat) (s : State) : AtInstance traceShared p s (trcStop rq p s) := by
  have start := refl violRegs p s
  have shared : violRegs ⊆ traceShared := by decide
  unfold trcStop
  exact ((start.denyWrite ..).mono shared).ite
    (((start.sf.mono shared).trans (traceStop_atInstance ..)).ite ((trcRefuse_atInstance ..).mono shared))

/-! ### Commands of partitions -/

section

variable {rs : List Reg} {p : Nat} {s x : State}

theorem pendingUpd_atInstance (k : AtInstance rs p s x) : AtInstance rs p s (pendingUpd p x) := k.sflag

theorem cmdStatus_atInstance (cmd st : Nat) (k : AtInstance rs p s x) : AtInstance rs p s (cmdStatus p cmd st x) :=
  pendingUpd_atInstance k.sf.sf

theorem frzStatus_atInstance (k : AtInstance rs p s x) : AtInstance rs p s (frzStatus p x) := k.sf.sflag.sflag.sf

theorem modCtl_atInstance (b : Nat) (f : FrzCtl → FrzCtl) (k : AtInstance rs p s x) : AtInstance rs p s (modCtl p b f x) := k.setFz

theorem raiseLead_atInstance (cause src : Nat) (k : AtInstance rs p s x) : AtInstance rs p s (raiseLead p cause src x) := by
  unfold raiseLead raiseFreeze
  exact (modCtl_atInstance _ _ k).ite ((frzStatus_atInstance (modCtl_atInstance _ _ k)).ite k)

theorem releaseItem_atInstance (b cause src : Nat) (k : AtInstance rs p s x) : AtInstance rs p s (releaseItem p b cause src x) := by
  unfold releaseItem
  exact (modCtl_atInstance _ _ k).ite (frzStatus_atInstance (modCtl_atInstance _ _ k))

theorem releaseCause_atInstance (cause : Nat) (k : AtInstance rs p s x) : AtInstance rs p s (releaseCause p cause x) :=
  AtInstance.forEach (fun _ _ => releaseItem_atInstance _ _ _ (refl _ _ _))
    (AtInstance.forEach (fun _ _ => releaseItem_atInstance _ _ _ (refl _ _ _)) k)

theorem reRaise_atInstance (k : AtInstance rs p s x) : AtInstance rs p s (reRaise p x) := frzStatus_atInstance k.setFz

theorem discardDebt_atInstance (k : AtInstance rs p s x) : AtInstance rs p s (discardDebt p x) := (k.ite k.bump).modPart.sf

theorem runBegin_atInstance (k : AtInstance rs p s x) : AtInstance rs p s (runBegin p x) :=
  reRaise_atInstance (discardDebt_atInstance k.sf.sf.sf.modPart)

theorem haltEnter_atInstance (k : AtInstance violRegs p s x) : AtInstance violRegs p s (haltEnter p x) :=
  (pendingUpd_atInstance (discardDebt_atInstance (frzStatus_atInstance k.sf.sf.sf.modPart.setFz))).partEvent _ _ (by decide)

theorem resumeFrozen_atInstance (k : AtInstance rs p s x) : AtInstance rs p s (resumeFrozen p x) := by
  have clocks : ∀ {y : State} (b : Nat) (l : List (Nat × Nat)), AtInstance rs p s y →
      AtInstance rs p s (Machine.forEach l (fun i t => releaseItem p b 7 i.2 t) y) :=
    fun b l => AtInstance.forEach fun i u => releaseItem_atInstance b 7 i.2 (refl rs p u)
  unfold resumeFrozen
  extract_lets freed z clk good
  have atFreed : AtInstance rs p s freed := releaseCause_atInstance 9 (releaseCause_atInstance 8 k)
  have atGood : AtInstance rs p s good := clocks 1 _ (clocks 0 _ atFreed)
  exact (releaseCause_atInstance 10 atGood).ite atGood

end

/-- A write of PART_CMD serves its partition alone where the command's own work does. -/
theorem partCmd_atInstance (rq : Requester) (p cmd arg : Nat) (access legal : Bool) (f : State → State) (s : State)
    (hf : ∀ u, AtInstance violRegs p u (f u)) : AtInstance violRegs p s (partCmd rq p cmd arg access legal f s) := by
  have start := refl violRegs p s
  unfold partCmd
  exact (cmdStatus_atInstance _ _ (start.denyWrite ..)).ite ((cmdStatus_atInstance _ _ (start.okResp.logRefused ..)).ite
    ((cmdStatus_atInstance _ _ start.okResp).trans (hf _)))

theorem cmdArm_atInstance (rq : Requester) (p arg : Nat) (s : State) : AtInstance violRegs p s (cmdArm rq p arg s) :=
  partCmd_atInstance _ _ _ _ _ _ _ _ fun u => (refl violRegs p u).modPart.sf

theorem cmdStart_atInstance (rq : Requester) (p arg : Nat) (s : State) : AtInstance violRegs p s (cmdStart rq p arg s) :=
  partCmd_atInstance _ _ _ _ _ _ _ _ fun u => runBegin_atInstance (refl violRegs p u).modPart.sf.sf

theorem cmdStop_atInstance (rq : Requester) (p arg : Nat) (s : State) : AtInstance violRegs p s (cmdStop rq p arg s) :=
  partCmd_atInstance _ _ _ _ _ _ _ _ fun u =>
    (haltEnter_atInstance (refl violRegs p u)).ite (pendingUpd_atInstance (refl violRegs p u).sf)

theorem cmdResume_atInstance (rq : Requester) (p arg : Nat) (s : State) : AtInstance violRegs p s (cmdResume rq p arg s) :=
  partCmd_atInstance _ _ _ _ _ _ _ _ fun u =>
    (resumeFrozen_atInstance (refl violRegs p u)).ite (runBegin_atInstance (refl violRegs p u))

theorem cmdFreezeNow_atInstance (rq : Requester) (p arg : Nat) (s : State) : AtInstance violRegs p s (cmdFreezeNow rq p arg s) :=
  partCmd_atInstance _ _ _ _ _ _ _ _ fun u => (refl violRegs p u).ite (raiseLead_atInstance _ _ (refl violRegs p u))

theorem faultTailWrite_atInstance (rq : Requester) (p v : Nat) (s : State) : AtInstance violRegs p s (faultTailWrite rq p v s) := by
  have start := refl violRegs p s
  unfold faultTailWrite
  exact (start.denyWrite ..).ite (start.okResp.sf.sf.ite start.okResp.sf.sf)

theorem commitWithdraw_atInstance {rs : List Reg} (p : Nat) (s : State) : AtInstance rs p s (commitWithdraw p s) :=
  (refl rs p s).ite (pendingUpd_atInstance (refl rs p s).sf.sf)

theorem partCommitCancel_atInstance (rq : Requester) (p : Nat) (s : State) : AtInstance violRegs p s (partCommitCancel rq p s) :=
  ((refl violRegs p s).denyWrite ..).ite (commitWithdraw_atInstance p s).okResp

/-! ### Queues -/

/-- What a queue command shares with other queues: the violation log and the occupancy of the delay lists. -/
def queueShared : List Reg := .DSP_TICK_STAT :: violRegs

theorem qCmd_atInstance (rq : Requester) (q cmd : Nat) (legal : Bool) (f : State → State) (s : State)
    (hf : ∀ u, AtInstance queueShared q u (f u)) : AtInstance queueShared q s (qCmd rq q cmd legal f s) := by
  have start := refl violRegs q s
  have shared : violRegs ⊆ queueShared := by decide
  unfold qCmd
  exact ((start.denyWrite ..).sf.mono shared).ite (((start.sf.okResp.logRefused ..).mono shared).ite
    ((start.sf.okResp.mono shared).trans (hf _)))

theorem qPause_atInstance (rq : Requester) (q : Nat) (s : State) : AtInstance queueShared q s (qPause rq q s) :=
  qCmd_atInstance _ _ _ _ _ _ fun u => (refl queueShared q u).sf.setTop

theorem setDelay_atInstance (q n : Nat) (l : List (Nat × Task)) (s : State) : AtInstance queueShared q s (setDelay n l s) where
  reg _ e _ _ := State.reg_setReg_reg _ _ _ _ fun same => e (Reg.ctorIdx_inj same ▸ List.mem_cons_self ..)
  part _ _ := rfl
  core _ _ := rfl

theorem delayDrop_atInstance (q : Nat) (s : State) : AtInstance queueShared q s (delayDrop q s) :=
  AtInstance.forUpTo (fun n u => (setDelay_atInstance q n _ u).ite (refl _ _ u)) (refl _ _ s)

theorem qFlush_atInstance (rq : Requester) (q : Nat) (s : State) : AtInstance queueShared q s (qFlush rq q s) :=
  qCmd_atInstance _ _ _ _ _ _ fun u => (refl queueShared q u).sf.setBack.setExpd.setTop.trans (delayDrop_atInstance ..)

/-! ### Links -/

theorem linkCmd_atInstance (rq : Requester) (l w : Nat) (legal : Bool) (f : State → State) (s : State)
    (hf : ∀ u, AtInstance violRegs l u (f u)) : AtInstance violRegs l s (linkCmd rq l w legal f s) := by
  have start := refl violRegs l s
  unfold linkCmd linkRefuse
  exact (start.denyWrite ..).sf.ite ((start.okResp.sf.trans (hf _)).ite (start.okResp.sf.logRefused ..))

theorem linkNap_atInstance (rq : Requester) (l : Nat) (s : State) : AtInstance violRegs l s (linkNap rq l s) :=
  linkCmd_atInstance _ _ _ _ _ _ fun u => (refl violRegs l u).sf

theorem linkDisable_atInstance (rq : Requester) (l : Nat) (s : State) : AtInstance violRegs l s (linkDisable rq l s) :=
  linkCmd_atInstance _ _ _ _ _ _ fun u => (refl violRegs l u).sf.modLk

theorem linkRecess_atInstance (rq : Requester) (l : Nat) (s : State) : AtInstance violRegs l s (linkRecess rq l s) :=
  linkCmd_atInstance _ _ _ _ _ _ fun u => (refl violRegs l u).sf.modLk

/-! ### Cores -/

/-- What the trace of a core shares with others: the funnel. -/
def funnelRegs : List Reg := [.DBG_FUN_WR, .DBG_FUN_LOST]

section

variable {c : Nat} {s x : State}

theorem ctPut_atInstance (b : List Nat) (k : AtInstance funnelRegs c s x) : AtInstance funnelRegs c s (ctPut c b x) :=
  touch (funnelPut_touch ..) k.modCore.seq

theorem ctSync_atInstance (hi : Nat) (k : AtInstance funnelRegs c s x) : AtInstance funnelRegs c s (ctSync c hi x) := by
  unfold ctSync
  exact (ctPut_atInstance _ k).modCore

theorem ctEmit_atInstance (type hi : Nat) (timed : Bool) (body : List Nat) (k : AtInstance funnelRegs c s x) :
    AtInstance funnelRegs c s (ctEmit c type hi timed body x) := by
  unfold ctEmit
  extract_lets r gap b synced
  have atGap : AtInstance funnelRegs c s gap := (ctPut_atInstance _ k.modCore).ite k
  have atSynced : AtInstance funnelRegs c s synced := (ctSync_atInstance 0 atGap).ite atGap
  exact k.ite (k.modCore.ite ((ctSync_atInstance hi atSynced).ite (ctPut_atInstance b atSynced)))

theorem ctTrigger_atInstance (k : AtInstance funnelRegs c s x) : AtInstance funnelRegs c s (ctTrigger c x) :=
  (ctEmit_atInstance _ _ _ _ k.sf).ite k

theorem coreTraceStop_atInstance (k : AtInstance funnelRegs c s x) : AtInstance funnelRegs c s (coreTraceStop c x) :=
  (ctEmit_atInstance _ _ _ _ k).sf.ite k

theorem traceOn_atInstance (k : AtInstance funnelRegs c s x) : AtInstance funnelRegs c s (traceOn c x) := by
  unfold traceOn
  exact (ctEmit_atInstance _ _ _ _ k.modCore).ite ((ctEmit_atInstance _ _ _ _ (ctEmit_atInstance _ _ _ _ k.modCore)).ite k)

theorem dataPacket_atInstance (i : Nat) (a : CoreAcc) (k : AtInstance funnelRegs c s x) :
    AtInstance funnelRegs c s (dataPacket c i a x) := (ctEmit_atInstance _ _ _ _ k).ite k

theorem haltRequest_atInstance (cause cmp : Nat) (k : AtInstance funnelRegs c s x) :
    AtInstance funnelRegs c s (haltRequest c cause cmp x) := k.ite k.modCore

theorem cmprActions_atInstance (i : Nat) (acc : Option CoreAcc) (k : AtInstance funnelRegs c s x) :
    AtInstance funnelRegs c s (cmprActions c i acc x) := by
  unfold cmprActions
  extract_lets a on started packet triggered paused pulsed
  have atStarted : AtInstance funnelRegs c s started := (traceOn_atInstance k).ite k
  have atPacket : AtInstance funnelRegs c s packet := by
    refine AtInstance.ite ?_ atStarted
    cases acc with
    | none => exact atStarted
    | some access => exact dataPacket_atInstance i access atStarted
  have atTriggered : AtInstance funnelRegs c s triggered := (ctTrigger_atInstance atPacket).ite atPacket
  have atPaused : AtInstance funnelRegs c s paused := atTriggered.modCore.ite atTriggered
  have atPulsed : AtInstance funnelRegs c s pulsed := atPaused.dbg.ite atPaused
  exact (haltRequest_atInstance 2 i atPulsed).ite atPulsed

theorem comparatorMatch_atInstance (m : Priv) (asid pc : Nat) (acc : Option CoreAcc) (k : AtInstance funnelRegs c s x) :
    AtInstance funnelRegs c s (comparatorMatch c m asid pc acc x) :=
  k.ite (AtInstance.forEach (fun i u => cmprActions_atInstance i acc (refl _ _ u)) k.modCore)

end

/-! ### Plain registers of the tempo generators -/

/-- The settings of a tempo generator, which EN locks (R91). -/
def generatorRegs : List Reg :=
  [.PART_GEN_START_NS, .PART_GEN_START_SEC_LO, .PART_GEN_START_SEC_HI, .PART_GEN_PERIOD_NS, .PART_GEN_PERIOD_FRAC]

section

variable {r : Reg} (h : r ∈ generatorRegs)
include h

/-- No command of its own, no stage, no check and no further effect: these registers only store. -/
theorem generatorRegs_plain (rq : Requester) (i v : Nat) (s x : State) :
    cmdWrite rq r i v s = none ∧ stagedWrite rq r i v s = regStore rq r i v s ∧ areaBad rq r i v s = false ∧
      afterWrite rq r i v x s = s := by
  simp only [generatorRegs, List.mem_cons, List.not_mem_nil, or_false] at h
  rcases h with rfl | rfl | rfl | rfl | rfl <;> exact ⟨rfl, rfl, rfl, rfl⟩

theorem generatorRegs_shared : r ∉ violRegs ∧ r ≠ .HIF_VF_OWN := by
  simp only [generatorRegs, List.mem_cons, List.not_mem_nil, or_false] at h
  rcases h with rfl | rfl | rfl | rfl | rfl <;> decide

/-- A plain store sets the register, refuses it as locked, or does both. -/
theorem regStore_generator {P : State → Prop} {rq : Requester} {i v : Nat} {s : State} (start : P s)
    (set : ∀ y w, P y → P (y.setReg r i w)) (locked : ∀ y, P y → P (lockedWrite rq r i v y)) : P (regStore rq r i v s) := by
  have area : ∀ w, areaBad rq r i w s = false := fun w => (generatorRegs_plain h rq i w s s).2.2.1
  have after : ∀ y, afterWrite rq r i v s y = y := fun y => (generatorRegs_plain h rq i v y s).2.2.2
  have owner := (generatorRegs_shared h).2
  unfold regStore
  simp only [area, after, owner, false_and, if_false, Bool.false_eq_true]
  split
  next => exact set _ _ start
  next =>
    have stored : ∀ (b : Bool) w, P (if b then s else s.setReg r i w) := by
      intro b w
      cases b
      · exact set _ _ start
      · exact start
    split
    · exact locked _ (stored _ _)
    · exact stored _ _

theorem regWrite_generator {P : State → Prop} {rq : Requester} {i v : Nat} {s : State} (start : P (okResp 0 s))
    (set : ∀ y w, P y → P (y.setReg r i w)) (deny : ∀ y, P y → P (denyWrite rq r i v y))
    (locked : ∀ y, P y → P (lockedWrite rq r i v y)) : P (regWrite rq r i v s) := by
  obtain ⟨noCommand, unstaged, -, -⟩ := generatorRegs_plain h rq i v (okResp 0 s) s
  unfold regWrite
  simp only [noCommand, unstaged]
  split
  · exact start
  split
  · exact start
  split
  · exact deny _ start
  · exact regStore_generator h start set locked

theorem regWrite_generator_atInstance (rq : Requester) (i v : Nat) (s : State) : AtInstance violRegs i s (regWrite rq r i v s) :=
  regWrite_generator h (refl violRegs i s).okResp (fun _ _ k => k.setReg) (fun _ k => k.denyWrite ..) fun _ k => k.lockedWrite ..

theorem regWrite_generator_only (rq : Requester) (i v : Nat) (s : State) :
    Only (violRegs ++ [r]) [.resp, .hif] s (regWrite rq r i v s) := by
  have viol : violRegs ⊆ violRegs ++ [r] := List.subset_append_left _ _
  have own : r ∈ violRegs ++ [r] := List.mem_append_right _ (List.mem_singleton_self r)
  exact regWrite_generator h ((Only.refl _ _ s).okResp (by decide)) (fun _ _ k => k.setReg own)
    (fun _ k => k.denyWrite viol (by simp)) fun _ k => k.lockedWrite viol (by simp)

end

/-- Settles O50, each clause by the frame `AtInstance` of its operation. -/
theorem commandsOfOneInstanceLeaveTheOthers : Obligations.CommandsOfOneInstanceLeaveTheOthers := by
  refine ⟨?pinCfg, ?inEnable, ?inDisable, ?trgArm, ?trgDisarm, ?trcArm, ?trcStop, ?arm, ?start, ?stop, ?resume, ?freeze, ?faultTail,
    ?cancel, ?qPause, ?qFlush, ?heartbeat, ?genCtl, ?nap, ?disable, ?recess, ?coreTrace, ?comparator, ?write⟩
  case pinCfg => exact fun s rq g v j hj => ⟨_, rfl, (pinCfgWrite_atInstance rq g _ s).reg _ (by decide) j hj⟩
  case inEnable =>
    intro s rq ix j hj
    have frame := stwInEnable_atInstance rq ix s
    exact ⟨_, rfl, frame.reg _ (by decide) j hj, frame.reg _ (by decide) j hj⟩
  case inDisable =>
    intro s rq ix j hj
    have frame := stwInDisable_atInstance rq ix s
    exact ⟨_, rfl, frame.reg _ (by decide) j hj, frame.reg _ (by decide) j hj⟩
  case trgArm => exact fun s rq n j hj => ⟨_, rfl, (stwTrgArm_atInstance rq n s).reg _ (by decide) j hj⟩
  case trgDisarm => exact fun s rq n j hj => ⟨_, rfl, (stwTrgDisarm_atInstance rq n s).reg _ (by decide) j hj⟩
  case trcArm => exact fun s rq p j hj => ⟨_, rfl, (trcArm_atInstance rq p s).reg _ (by decide) j hj⟩
  case trcStop => exact fun s rq p j hj => ⟨_, rfl, (trcStop_atInstance rq p s).reg _ (by decide) j hj⟩
  case arm =>
    intro s rq p arg j hj
    have frame := cmdArm_atInstance rq p arg.toNat s
    exact ⟨_, rfl, frame.reg _ (by decide) j hj, frame.part j hj⟩
  case start =>
    intro s rq p arg j hj
    have frame := cmdStart_atInstance rq p arg.toNat s
    exact ⟨_, rfl, frame.reg _ (by decide) j hj, frame.reg _ (by decide) j hj, frame.part j hj⟩
  case stop =>
    intro s rq p arg j hj
    have frame := cmdStop_atInstance rq p arg.toNat s
    exact ⟨_, rfl, frame.reg _ (by decide) j hj, frame.reg _ (by decide) j hj⟩
  case resume =>
    intro s rq p arg j hj
    have frame := cmdResume_atInstance rq p arg.toNat s
    exact ⟨_, rfl, frame.reg _ (by decide) j hj, frame.reg _ (by decide) j hj⟩
  case freeze =>
    intro s rq p arg j hj
    have frame := cmdFreezeNow_atInstance rq p arg.toNat s
    exact ⟨_, rfl, frame.reg _ (by decide) j hj, frame.reg _ (by decide) j hj⟩
  case faultTail =>
    intro s rq p v j hj
    have frame := faultTailWrite_atInstance rq p v.toNat s
    exact ⟨_, rfl, frame.reg _ (by decide) j hj, frame.reg _ (by decide) j hj⟩
  case cancel =>
    intro s rq p j hj
    have frame := partCommitCancel_atInstance rq p s
    exact ⟨_, rfl, frame.reg _ (by decide) j hj, frame.part j hj⟩
  case qPause => exact fun s rq q j hj => ⟨_, rfl, (qPause_atInstance rq q s).reg _ (by decide) j hj⟩
  case qFlush =>
    intro s rq q j hj
    have frame := qFlush_atInstance rq q s
    exact ⟨_, rfl, frame.reg _ (by decide) j hj, frame.reg _ (by decide) j hj, frame.reg _ (by decide) j hj⟩
  case heartbeat => exact fun s ix path j hj => ⟨_, rfl, (heartbeat_atInstance ix path s).reg _ (by decide) j hj.2⟩
  case genCtl => exact fun s rq g v j hj => ⟨_, rfl, (genCtlWrite_atInstance rq g _ s).reg _ (by decide) j hj⟩
  case nap => exact fun s rq l j hj => ⟨_, rfl, (linkNap_atInstance rq l s).reg _ (by decide) j hj⟩
  case disable => exact fun s rq l j hj => ⟨_, rfl, (linkDisable_atInstance rq l s).reg _ (by decide) j hj⟩
  case recess => exact fun s rq l j hj => ⟨_, rfl, (linkRecess_atInstance rq l s).reg _ (by decide) j hj⟩
  case coreTrace => exact fun s c j hj => ⟨_, rfl, (coreTraceStop_atInstance (refl funnelRegs c s)).reg _ (by decide) j hj⟩
  case comparator =>
    intro s c m asid pc acc j hj
    have frame := comparatorMatch_atInstance m asid.toNat pc.toNat acc (refl funnelRegs c s)
    exact ⟨_, rfl, frame.reg _ (by decide) j hj, frame.core j hj⟩
  case write =>
    intro s rq r inst v j h hj
    exact ⟨_, rfl, (regWrite_generator_atInstance h rq inst v.toNat s).reg r (generatorRegs_shared h).1 j hj.2,
      regWrite_generator_only h rq inst v.toNat s⟩

end Machine
end Sys2Proof

/-! ## The step clock (O17)

The change and the end of the window both run over the partitions. What each does for a partition stays within that partition's freeze
state, so a pass over all of them serves one partition as that partition's own turn does. -/

namespace Sys2Proof
namespace Machine

/-! ### A pass over the partitions -/

/-- A pass, seen from turn `p`: every other turn keeps the relation `R`, so it holds up to that turn and from it on. -/
theorem forUpTo_split {R : State → State → Prop} (refl : ∀ s, R s s) (trans : ∀ {s x t}, R s x → R x t → R s t) {n p : Nat}
    {f : Nat → State → State} (others : ∀ i t, i ≠ p → R t (f i t)) (hp : p < n) (s : State) :
    ∃ x, R s x ∧ R (f p x) (forUpTo n f s) := by
  have fold : ∀ (l : List Nat) t, p ∉ l → R t (l.foldl (fun t i => f i t) t) := by
    intro l
    induction l with
    | nil => exact fun t _ => refl t
    | cons i l ih =>
      intro t absent
      obtain ⟨apart, later⟩ := List.ne_and_not_mem_of_not_mem_cons absent
      exact trans (others i t (Ne.symm apart)) (ih _ later)
  obtain ⟨before, after, split⟩ := List.append_of_mem (List.mem_range.mpr hp)
  have distinct : (before ++ p :: after).Nodup := split ▸ List.nodup_range
  obtain ⟨-, turn, disjoint⟩ := List.nodup_append.mp distinct
  refine ⟨before.foldl (fun t i => f i t) s, fold _ _ fun c => disjoint p c p (List.mem_cons_self ..) rfl, ?_⟩
  unfold forUpTo
  rw [split, List.foldl_append, List.foldl_cons]
  exact fold _ _ (List.nodup_cons.mp turn).1

/-! ### Freeze state of one partition -/

@[simp] theorem FrzPart.ctl_setCtl (z : FrzPart) (b : Nat) (c : FrzCtl) : (z.setCtl b c).ctl b = c := by
  unfold FrzPart.ctl FrzPart.setCtl
  split <;> rfl

@[simp] theorem frzStatus_fz (p q : Nat) (s : State) : (frzStatus p s).fz q = s.fz q := rfl

theorem modCtl_fz_ne {p q : Nat} (b : Nat) (f : FrzCtl → FrzCtl) (s : State) (h : q ≠ p) : (modCtl p b f s).fz q = s.fz q :=
  State.fz_setFz_ne s _ h

/-- A request for one partition leaves the freeze state of the others. -/
theorem raiseLead_fz_ne {p q : Nat} (cause src : Nat) (s : State) (h : q ≠ p) : (raiseLead p cause src s).fz q = s.fz q := by
  unfold raiseLead raiseFreeze
  dsimp only
  split
  · exact modCtl_fz_ne _ _ s h
  split
  · rw [frzStatus_fz, modCtl_fz_ne _ _ s h]
  · rfl

/-- A request for a RUNNING partition waits on its lead base for registration, dated at the step clock reached (R113). -/
theorem raiseLead_raised {p : Nat} (cause src : Nat) {s : State} (run : s.pst p = stRunning) :
    (((raiseLead p cause src s).fz p).ctl (s.leadBase p)).raised
      = ((s.fz p).ctl (s.leadBase p)).raised ++ [⟨s.scc, cause, src⟩] := by
  unfold raiseLead raiseFreeze modCtl
  dsimp only
  rw [if_pos (.inl run), State.fz_setFz, FrzPart.ctl_setCtl]

/-- The lead base is a fact about the class assignments alone. -/
theorem Touch.leadBase {w : Nat} {s t : State} (h : Touch w s t) (p : Nat)
    (e : w.testBit Reg.CLS_SEQ_STATUS.ctorIdx = false) : t.leadBase p = s.leadBase p := by
  have assigned : ∀ n, t.flag F.CLS_SEQ_STATUS_ASSIGNED n = s.flag F.CLS_SEQ_STATUS_ASSIGNED n := fun n => h.flag _ n e
  have owner : ∀ n, t.gf F.CLS_SEQ_STATUS_PART n = s.gf F.CLS_SEQ_STATUS_PART n := fun n => h.gf _ n e
  simp only [State.leadBase, State.classes, assigned, owner]

/-- Whether a partition holds a change up is a fact about its state and its image's depth alone. -/
theorem Touch.atClockGap {w : Nat} {s t : State} (h : Touch w s t) (p : Nat) (e : w.testBit Reg.PART_STATE.ctorIdx = false)
    (d : w.testBit F.PART_CFG_IMG_DEPTH.reg.ctorIdx = false) : atClockGap p t = atClockGap p s := by
  unfold Machine.atClockGap State.pst State.dImg
  rw [h.gf F.PART_STATE_STATE p e, h.flag F.PART_STATE_IN_GAP p e, h.flag F.PART_STATE_WAITING p e, h.gf F.PART_CFG_IMG_DEPTH p d,
    h.gf F.PART_STATE_STEP p e]

/-- A partition that holds a change up is RUNNING (R26). -/
theorem running_of_not_atClockGap {p : Nat} {s : State} (h : atClockGap p s = false) : s.pst p = stRunning := by
  simp only [atClockGap, Bool.or_eq_false_iff, decide_eq_false_iff_not, not_not] at h
  obtain ⟨⟨⟨running, -⟩, -⟩, -⟩ := h
  exact running

/-! ### Step clocks pass -/

@[simp] theorem toutAt_scc (s : State) : (toutAt s).scc = s.scc := (toutAt_touch s).scc rfl

/-- Step clocks never run back: where `n` is not passed, it is reached. -/
theorem advanceTo_scc {n : Nat} {s : State} (h : s.scc ≤ n) : (advanceTo n s).scc = n := by
  unfold advanceTo
  split
  next reached => exact Nat.le_antisymm h reached
  next => exact toutAt_scc _

/-- What `d` step clocks do for the freeze state of partition `p`: FROZEN counts them (R112, R130). -/
def countFrozen (d p : Nat) (s : State) : State :=
  if s.pst p = stFrozen then s.setFz p { s.fz p with clocks := ((s.fz p).clocks + d) % 2 ^ 64 } else s

theorem countFrozen_pst (d i p : Nat) (s : State) : (countFrozen d i s).pst p = s.pst p := by
  unfold countFrozen
  split <;> rfl

theorem countFrozen_fz {d p : Nat} (i : Nat) {s : State} (h : s.pst p ≠ stFrozen) : (countFrozen d i s).fz p = s.fz p := by
  unfold countFrozen
  split
  next frozen => exact State.fz_setFz_ne s _ fun same => h (same ▸ frozen)
  next => rfl

/-- Beside the count, no part of a step clock's passing reaches the freeze state. -/
theorem advanceTo_frz {n : Nat} {s : State} (h : s.scc < n) : (advanceTo n s).frz = (forUpTo 16 (countFrozen (n - s.scc)) s).frz := by
  unfold advanceTo
  rw [if_neg (Nat.not_le.mpr h)]
  extract_lets d counted f t stopwatch timed
  have same : timed.frz = counted.frz := by
    unfold timed
    split <;> rfl
  exact same

/-- The freeze state of a partition that is not FROZEN stays while step clocks pass. -/
theorem advanceTo_fz {n p : Nat} {s : State} (h : s.pst p ≠ stFrozen) : (advanceTo n s).fz p = s.fz p := by
  by_cases later : s.scc < n
  · obtain ⟨-, counted⟩ := List.foldlRecOn (motive := fun t : State => t.pst p ≠ stFrozen ∧ t.fz p = s.fz p) (List.range 16)
      (fun t i => countFrozen (n - s.scc) i t) ⟨h, rfl⟩ fun t ⟨notFrozen, same⟩ i _ =>
        ⟨by rwa [countFrozen_pst], (countFrozen_fz i notFrozen).trans same⟩
    unfold State.fz at counted ⊢
    rw [advanceTo_frz later]
    exact counted
  · rw [advanceTo, if_pos (Nat.not_lt.mp later)]

/-! ### The end of the window -/

/-- The registers and parts that a freeze request may change. -/
def raiseMask : Nat := 0x400000000000000000000000000000000000000000000000000000000000000000000000000000000000000004000000000000

/-- What the window's end does for partition `p` (R26). -/
def windowFreeze (p : Nat) (s : State) : State := if atClockGap p s then s else raiseLead p 6 0 s

theorem clkchgExpiry_of_locked {s : State} (pending : s.flag F.GLB_STEP_FREQ_PENDING 0 = true) (locked : s.clk.locked = true) :
    clkchgExpiry s = forUpTo 16 windowFreeze (advanceTo (s.clk.since + 65536) s) := by
  unfold clkchgExpiry
  rw [pending, locked]
  rfl

/-- From `s` to `t` freeze requests were raised for partitions other than `p`. -/
structure RaisedElsewhere (p : Nat) (s t : State) : Prop where
  touch : Touch raiseMask s t
  fz : t.fz p = s.fz p

theorem RaisedElsewhere.refl (p : Nat) (s : State) : RaisedElsewhere p s s := ⟨Touch.refl _ s, rfl⟩

theorem RaisedElsewhere.trans {p : Nat} {s x t : State} (h : RaisedElsewhere p s x) (k : RaisedElsewhere p x t) : RaisedElsewhere p s t :=
  ⟨h.touch.trans k.touch, k.fz.trans h.fz⟩

theorem windowFreeze_elsewhere {i p : Nat} (s : State) (h : i ≠ p) : RaisedElsewhere p s (windowFreeze i s) := by
  unfold windowFreeze
  split
  · exact .refl p s
  · exact ⟨raiseLead_touch .., raiseLead_fz_ne 6 0 s h.symm⟩

/-- The window's end raises the clock-change freeze, dated at the step clock reached, for each partition that holds the change up. -/
theorem windowFreeze_all_raised {p : Nat} (hp : p < 16) {s : State} (held : atClockGap p s = false) :
    (forUpTo 16 windowFreeze s).scc = s.scc ∧ (((forUpTo 16 windowFreeze s).fz p).ctl (s.leadBase p)).raised
      = ((s.fz p).ctl (s.leadBase p)).raised ++ [⟨s.scc, 6, 0⟩] := by
  obtain ⟨x, before, after⟩ := forUpTo_split (RaisedElsewhere.refl p) RaisedElsewhere.trans
    (fun i t h => windowFreeze_elsewhere t h) hp s
  have heldThen : atClockGap p x = false := (before.touch.atClockGap p rfl rfl).trans held
  have turn : windowFreeze p x = raiseLead p 6 0 x := by simp [windowFreeze, heldThen]
  have raised := raiseLead_raised 6 0 (running_of_not_atClockGap heldThen)
  rw [turn] at after
  rw [before.touch.leadBase p rfl, before.touch.scc rfl, before.fz] at raised
  refine ⟨?_, after.fz ▸ raised⟩
  exact (after.touch.scc rfl).trans (((raiseLead_touch ..).scc rfl).trans (before.touch.scc rfl))

theorem clkchgExpiry_raised {s : State} {p : Nat} (hp : p < 16) (pending : s.flag F.GLB_STEP_FREQ_PENDING 0 = true)
    (locked : s.clk.locked = true) (due : s.scc ≤ s.clk.since + 65536) (held : atClockGap p s = false) :
    (clkchgExpiry s).scc = s.clk.since + 65536 ∧ (((clkchgExpiry s).fz p).ctl (s.leadBase p)).raised
      = ((s.fz p).ctl (s.leadBase p)).raised ++ [⟨s.clk.since + 65536, 6, 0⟩] := by
  have passed := advanceTo_touch (s.clk.since + 65536) s
  have running : s.pst p = stRunning := running_of_not_atClockGap held
  have notFrozen : s.pst p ≠ stFrozen := by rw [running]; decide
  have raised := windowFreeze_all_raised hp ((passed.atClockGap p rfl rfl).trans held)
  rw [passed.leadBase p rfl, advanceTo_scc due, advanceTo_fz notFrozen] at raised
  rw [clkchgExpiry_of_locked pending locked]
  exact raised

/-! ### The change -/

/-- What the limit in force shows in, apart from GLB_STEP_FREQ itself (R474). -/
def derateRegs : List Reg := [.GLB_DERATE_REASON, .HIF_IRQ_PEND_LO, .HIF_IRQ_PEND_HI]

theorem clockRegs_only (s : State) : Only derateRegs [.hif] (s.sf F.GLB_STEP_FREQ_DERATE 0 (derateLimit s)) (clockRegs s) := by
  have reason : Reg.GLB_DERATE_REASON ∈ derateRegs := List.mem_cons_self ..
  have start := Only.refl derateRegs [.hif] (s.sf F.GLB_STEP_FREQ_DERATE 0 (derateLimit s))
  unfold clockRegs
  extract_lets f old limited put named shown
  have atNamed : Only derateRegs [.hif] limited named := by
    refine Only.ite (fun _ => ((start.sf reason).sf reason).sf reason) fun _ =>
      Only.ite (fun _ => ((start.sf reason).sf reason).sf reason) fun _ => ?_
    split
    · exact (((start.sf reason).sf reason).sf reason).sf reason
    · exact start
  have atShown : Only derateRegs [.hif] limited shown := atNamed.sflag reason
  exact Only.ite (fun _ => atShown) fun _ => atShown.touch (raiseIrq_touch 39 shown) (by decide +kernel) (by decide)

/-- The fields of GLB_STEP_FREQ below DERATE stay. -/
theorem clockRegs_gf {g : Fld} (r : g.reg = .GLB_STEP_FREQ) (d : g.lo + g.w ≤ 16) (s : State) : (clockRegs s).gf g 0 = s.gf g 0 := by
  have kept : (clockRegs s).reg g.reg 0 = (s.sf F.GLB_STEP_FREQ_DERATE 0 (derateLimit s)).reg g.reg 0 :=
    (clockRegs_only s).reg _ (by rw [r]; decide) 0
  calc (clockRegs s).gf g 0 = (s.sf F.GLB_STEP_FREQ_DERATE 0 (derateLimit s)).gf g 0 := congrArg g.of kept
    _ = s.gf g 0 := State.gf_sf_fld s 0 _ r (by decide) (.inr d)

/-- The state with the wanted code in force and nothing pending, before the registers that follow it are brought up to date. -/
def changedClock (s : State) : State :=
  { (s.sf F.GLB_STEP_FREQ_FREQ 0 s.clk.want).sf F.GLB_STEP_FREQ_PENDING 0 0 with clk := { s.clk with locked := false } }

theorem changedClock_gf (f : Fld) (s : State) :
    (changedClock s).gf f 0 = ((s.sf F.GLB_STEP_FREQ_FREQ 0 s.clk.want).sf F.GLB_STEP_FREQ_PENDING 0 0).gf f 0 := rfl

theorem changedClock_freq {s : State} (fits : s.clk.want < 512) : (changedClock s).gf F.GLB_STEP_FREQ_FREQ 0 = s.clk.want := by
  rw [changedClock_gf, State.gf_sf_fld (f := F.GLB_STEP_FREQ_PENDING) (g := F.GLB_STEP_FREQ_FREQ) _ 0 0 rfl (by decide) (.inr (by decide)),
    State.gf_sf_fit s 0 (by decide) fits]

theorem changedClock_pending (s : State) : (changedClock s).gf F.GLB_STEP_FREQ_PENDING 0 = 0 := by
  rw [changedClock_gf, State.gf_sf_same _ 0 0 (by decide), Nat.zero_mod]

/-- A locked change at a boundary outside RECESS applies the change and releases the clock-change freezes (R26, R434). -/
theorem stepClockChange_of_boundary {s : State} (pending : s.flag F.GLB_STEP_FREQ_PENDING 0 = true) (locked : s.clk.locked = true)
    (boundary : clockBoundary s = true) (awake : s.gf F.RST_PWR_STAT_STATE 0 ≠ 2) :
    stepClockChange s = forUpTo 16 (fun p t => releaseCause p 6 t) (clockRegs (changedClock s)) := by
  unfold stepClockChange
  rw [pending, locked, boundary, decide_eq_false awake]
  rfl

theorem releaseAll_touch (s : State) : Touch raiseMask s (forUpTo 16 (fun p t => releaseCause p 6 t) s) :=
  Touch.forUpTo (fun p t => releaseCause_touch p 6 t) (Touch.refl _ s)

theorem stepClockChange_applied {s : State} (pending : s.flag F.GLB_STEP_FREQ_PENDING 0 = true) (locked : s.clk.locked = true)
    (boundary : clockBoundary s = true) (awake : s.gf F.RST_PWR_STAT_STATE 0 ≠ 2) (fits : s.clk.want < 512) :
    (stepClockChange s).gf F.GLB_STEP_FREQ_FREQ 0 = s.clk.want ∧ (stepClockChange s).flag F.GLB_STEP_FREQ_PENDING 0 = false ∧
      (stepClockChange s).clk.locked = false := by
  rw [stepClockChange_of_boundary pending locked boundary awake]
  have released := releaseAll_touch (clockRegs (changedClock s))
  have freq := (released.gf F.GLB_STEP_FREQ_FREQ 0 rfl).trans (clockRegs_gf rfl (by decide) (changedClock s))
  have shown := (released.gf F.GLB_STEP_FREQ_PENDING 0 rfl).trans (clockRegs_gf rfl (by decide) (changedClock s))
  have clk := (released.clk rfl).trans ((clockRegs_touch (changedClock s)).clk rfl)
  refine ⟨freq.trans (changedClock_freq fits), ?_, by rw [clk]; rfl⟩
  simp [State.flag, shown, changedClock_pending]

/-! ### The target -/

theorem stepTargetWrite_admitted {rq : Requester} {s : State} (admitted : adminOk rq s = true) (v : Nat) :
    (stepTargetWrite rq v s).gf F.GLB_STEP_TARGET_TARGET 0 = max 64 (min 256 (v % 512)) ∧ (stepTargetWrite rq v s).resp.status = 0 := by
  have fits : max 64 (min 256 (v % 512)) < 2 ^ F.GLB_STEP_TARGET_TARGET.w := lt_of_le_of_lt (by omega : _ ≤ 256) (by decide)
  unfold stepTargetWrite
  rw [admitted]
  refine ⟨?_, rfl⟩
  calc _ = (s.sf F.GLB_STEP_TARGET_TARGET 0 (max 64 (min 256 (v % 512)))).gf F.GLB_STEP_TARGET_TARGET 0 :=
        (reqClock_touch _).gf F.GLB_STEP_TARGET_TARGET 0 rfl
    _ = _ := State.gf_sf_fit s 0 (by decide) fits

theorem stepPllLock_locks {s : State} (pending : s.flag F.GLB_STEP_FREQ_PENDING 0 = true) (free : s.clk.locked = false) :
    (stepPllLock s).clk.locked = true ∧ (stepPllLock s).clk.since = s.scc := by
  simp [stepPllLock, pending, free]

/-- Settles O17, each clause by the lemma that says what its command does. -/
theorem stepClockCommandsTakeEffect : Obligations.StepClockCommandsTakeEffect := by
  refine ⟨?change, ?window, ?lock, ?target⟩
  case change => exact fun s pending locked boundary awake fits => ⟨_, rfl, stepClockChange_applied pending locked boundary awake fits⟩
  case window => exact fun s p pending locked due held => ⟨_, rfl, clkchgExpiry_raised p.isLt pending locked due held⟩
  case lock => exact fun s pending free => ⟨_, rfl, stepPllLock_locks pending free⟩
  case target => exact fun s rq v admitted => ⟨_, rfl, stepTargetWrite_admitted admitted v.toNat⟩

end Machine
end Sys2Proof

namespace Sys2Proof
namespace Machine

/-- A bit of a number, with the value it has, is what an operand that allows it may read. -/
theorem mem_triChoices {v : Nat} {o : Tri} : v ∈ triChoices o ↔ v < 2 ∧ (o = .x ∨ o = Tri.ofBool (decide (v = 1))) := by
  cases o
  case x =>
    simp only [triChoices, List.mem_cons, List.not_mem_nil, or_false, true_or, and_true]
    omega
  all_goals
    constructor
    · intro h
      simp only [triChoices, List.mem_singleton] at h
      subst h
      decide
    · rintro ⟨lt, h⟩
      interval_cases v <;> simp_all [triChoices, Tri.ofBool]

/-- The truth-table indices that four operands leave open (R48). -/
def lutIndices (d c b a : Tri) : List Nat :=
  (triChoices d).flatMap fun d => (triChoices c).flatMap fun c =>
    (triChoices b).flatMap fun b => (triChoices a).map fun a => 8 * d + 4 * c + 2 * b + a

theorem lut_eq (tt : Nat) (d c b a : Tri) : lut tt d c b a =
    if (lutIndices d c b a).all (fun i => bitAt tt i = 0) then .zero
    else if (lutIndices d c b a).all (fun i => bitAt tt i = 1) then .one else .x := rfl

/-- Bit `k` of the index `n` is what the operand `o` reads, or `o` is X. -/
def AllowsBit (o : Tri) (n k : Nat) : Prop := o = .x ∨ o = Tri.ofBool (decide (bitAt n k = 1))

theorem bitAt_lt_two (n k : Nat) : bitAt n k < 2 := Nat.mod_lt _ (by decide)

theorem bitAt_mem_triChoices {o : Tri} {n k : Nat} : bitAt n k ∈ triChoices o ↔ AllowsBit o n k := by
  rw [mem_triChoices]
  exact and_iff_right (bitAt_lt_two n k)

/-- The four bits of an index below 16, and the index of four bits. -/
theorem index_of_bits {n : Nat} (h : n < 16) : 8 * bitAt n 3 + 4 * bitAt n 2 + 2 * bitAt n 1 + bitAt n 0 = n := by
  unfold bitAt
  omega

theorem bits_of_index {d c b a : Nat} (hd : d < 2) (hc : c < 2) (hb : b < 2) (ha : a < 2) :
    bitAt (8 * d + 4 * c + 2 * b + a) 3 = d ∧ bitAt (8 * d + 4 * c + 2 * b + a) 2 = c ∧
      bitAt (8 * d + 4 * c + 2 * b + a) 1 = b ∧ bitAt (8 * d + 4 * c + 2 * b + a) 0 = a := by
  unfold bitAt
  omega

/-- The open indices are those below 16 whose every bit its operand allows. -/
theorem mem_lutIndices {n : Nat} {d c b a : Tri} :
    n ∈ lutIndices d c b a ↔ n < 16 ∧ AllowsBit a n 0 ∧ AllowsBit b n 1 ∧ AllowsBit c n 2 ∧ AllowsBit d n 3 := by
  simp only [lutIndices, List.mem_flatMap, List.mem_map]
  constructor
  · rintro ⟨i, hi, j, hj, k, hk, l, hl, rfl⟩
    have li := (mem_triChoices.mp hi).1
    have lj := (mem_triChoices.mp hj).1
    have lk := (mem_triChoices.mp hk).1
    have ll := (mem_triChoices.mp hl).1
    obtain ⟨di, cj, bk, al⟩ := bits_of_index li lj lk ll
    simp only [← bitAt_mem_triChoices, di, cj, bk, al]
    exact ⟨by omega, hl, hk, hj, hi⟩
  · rintro ⟨lt, ha, hb, hc, hd⟩
    exact ⟨_, bitAt_mem_triChoices.mpr hd, _, bitAt_mem_triChoices.mpr hc, _, bitAt_mem_triChoices.mpr hb, _,
      bitAt_mem_triChoices.mpr ha, index_of_bits lt⟩

/-- Some index is always open. -/
theorem lutIndices_ne_nil (d c b a : Tri) : lutIndices d c b a ≠ [] := by
  cases d <;> cases c <;> cases b <;> cases a <;> decide

theorem lut_zero {tt : Nat} {d c b a : Tri} (h : ∀ n ∈ lutIndices d c b a, bitAt tt n = 0) : lut tt d c b a = .zero := by
  rw [lut_eq, if_pos (by simpa using h)]

theorem lut_one {tt : Nat} {d c b a : Tri} (h : ∀ n ∈ lutIndices d c b a, bitAt tt n = 1) : lut tt d c b a = .one := by
  obtain ⟨n, hn⟩ := List.exists_mem_of_ne_nil _ (lutIndices_ne_nil d c b a)
  have notZero : ¬ (lutIndices d c b a).all (fun i => bitAt tt i = 0) := fun all => by
    have zero := of_decide_eq_true (List.all_eq_true.mp all n hn)
    have one := h n hn
    omega
  rw [lut_eq, if_neg notZero, if_pos (by simpa using h)]

theorem lut_x {tt : Nat} {d c b a : Tri} (h : ∃ n ∈ lutIndices d c b a, bitAt tt n = 0) (k : ∃ n ∈ lutIndices d c b a, bitAt tt n = 1) :
    lut tt d c b a = .x := by
  obtain ⟨n, hn, zero⟩ := h
  obtain ⟨m, hm, one⟩ := k
  have notZero : ¬ (lutIndices d c b a).all (fun i => bitAt tt i = 0) := fun all => by
    have := of_decide_eq_true (List.all_eq_true.mp all m hm)
    omega
  have notOne : ¬ (lutIndices d c b a).all (fun i => bitAt tt i = 1) := fun all => by
    have := of_decide_eq_true (List.all_eq_true.mp all n hn)
    omega
  rw [lut_eq, if_neg notZero, if_neg notOne]

/-- What EVAL and PORT write and drive: the truth table over the four operands' values (R30, R45). -/
theorem bpEval_table {x : BpCtx} {w : Nat} (kind : bitsAt w 62 2 = 0 ∨ bitsAt w 62 2 = 2) :
    (bpEval x w).write = some (lut (bitsAt w 46 16) (operandValues x w).2.2.2 (operandValues x w).2.2.1 (operandValues x w).2.1
      (operandValues x w).1) ∧ (bpEval x w).drive = (bpEval x w).write := by
  rcases kind with kind | kind <;> simp [bpEval, operandValues, kind]

theorem agrees_iff_mem_lutIndices {x : BpCtx} {w n : Nat} (lt : n < 16) : agrees x w n ↔
    n ∈ lutIndices (operandValues x w).2.2.2 (operandValues x w).2.2.1 (operandValues x w).2.1 (operandValues x w).1 := by
  rw [mem_lutIndices]
  exact (and_iff_right lt).symm

/-- Settles O6: where every operand is known, one index is open. -/
theorem evalAndPortIndexTheTruthTable : Obligations.EvalAndPortIndexTheTruthTable := by
  intro x w a b c d kind values
  obtain ⟨write, drive⟩ := bpEval_table (x := x) kind
  refine ⟨?_, drive⟩
  have single : lutIndices (Tri.ofBool d) (Tri.ofBool c) (Tri.ofBool b) (Tri.ofBool a) = [8 * b2n d + 4 * b2n c + 2 * b2n b + b2n a] := by
    cases a <;> cases b <;> cases c <;> cases d <;> rfl
  rw [write, values]
  generalize 8 * b2n d + 4 * b2n c + 2 * b2n b + b2n a = n at single ⊢
  rcases Nat.mod_two_eq_zero_or_one (bitsAt w 46 16 / 2 ^ n) with (bit : bitAt _ n = 0) | (bit : bitAt _ n = 1)
  · rw [lut_zero (by simpa [single] using bit), bit]
    rfl
  · rw [lut_one (by simpa [single] using bit), bit]
    rfl

/-- Settles O7: the indices that agree with the operands are those that the evaluation leaves open. -/
theorem unknownOperandsGiveTheExactResult : Obligations.UnknownOperandsGiveTheExactResult := by
  intro x w r kind written
  obtain ⟨write, -⟩ := bpEval_table (x := x) kind
  obtain rfl : _ = r := Option.some.inj (write.symm.trans written)
  have below : ∀ {n}, n ∈ lutIndices (operandValues x w).2.2.2 (operandValues x w).2.2.1 (operandValues x w).2.1 (operandValues x w).1 →
    n < 16 ∧ agrees x w n := fun open_ => ⟨(mem_lutIndices.mp open_).1, (agrees_iff_mem_lutIndices (mem_lutIndices.mp open_).1).mpr open_⟩
  refine ⟨fun all => lut_zero fun n open_ => ?_, fun all => lut_one fun n open_ => ?_, ?_⟩
  · exact all n (below open_).1 (below open_).2
  · exact all n (below open_).1 (below open_).2
  · rintro ⟨n, ltn, agn, zero⟩ ⟨m, ltm, agm, one⟩
    exact lut_x ⟨n, (agrees_iff_mem_lutIndices ltn).mp agn, zero⟩ ⟨m, (agrees_iff_mem_lutIndices ltm).mp agm, one⟩

end Machine
end Sys2Proof

namespace Sys2Proof
namespace Machine

/-! ## What the events of a step leave alone (O58) -/

/-- The answer of a command that touches only named registers and parts is a frame of them. -/
theorem only_of_next {rs : List Reg} {ps : List Part} {w : Nat} {o : Out} {s t : State} (answer : o = .next t)
    (touch : ∃ u, o = .next u ∧ Touch w s u) (a : regsWithin w rs = true) (b : partsWithin w ps = true) : Only rs ps s t := by
  obtain ⟨u, rfl, touched⟩ := touch
  cases answer
  exact touched.only a b

/-- Settles O58: what each event may touch lies within its registers and parts. -/
theorem stepEventsKeepTheirFrame : Obligations.StepEventsKeepTheirFrame := by
  refine ⟨?step, ?gapStep, ?faultRequest, ?freeze, ?resume, ?chainResume, ?drain, ?rewind, ?trigger, ?binding⟩
  case step => exact fun s t p bad h => only_of_next h (execStep_touch p bad s) (by decide +kernel) (by decide)
  case gapStep => exact fun s t p h => only_of_next h (execGapStep_touch p s) (by decide +kernel) (by decide)
  case faultRequest => exact fun s t p h => only_of_next h (execFaultRequestArrival_touch p s) (by decide +kernel) (by decide)
  case freeze => exact fun s t p h => only_of_next h (execFreezePoint_touch p s) (by decide +kernel) (by decide)
  case resume => exact fun s t p h => only_of_next h (execResumePoint_touch p s) (by decide +kernel) (by decide)
  case chainResume => exact fun s t p h => only_of_next h (execChainResumeDelayExpiry_touch p s) (by decide +kernel) (by decide)
  case drain => exact fun s t p h => only_of_next h (execDrainDone_touch p s) (by decide +kernel) (by decide)
  case rewind => exact fun s t p h => only_of_next h (execRewindDone_touch p s) (by decide +kernel) (by decide)
  case trigger => exact fun s t p h => only_of_next h (execDesignTrigger_touch p s) (by decide +kernel) (by decide)
  case binding => exact fun s t p h => only_of_next h (execBindingPresent_touch p s) (by decide +kernel) (by decide)

end Machine
end Sys2Proof

namespace Sys2Proof
namespace Machine

/-! ## Fields that share no bit -/

/-- Two fields of different registers, or of different bits of one register. -/
def Fld.apart (f g : Fld) : Bool :=
  decide (f.reg.ctorIdx ≠ g.reg.ctorIdx) || decide (f.lo + f.w ≤ g.lo) || decide (g.lo + g.w ≤ f.lo)

section

variable (s : State) {f g : Fld} (h : Fld.apart f g = true) (fits : f.lo + f.w ≤ 32)
include h fits

/-- A write of a field leaves every field apart from it, at every index. -/
theorem State.gf_sf_apart (i j v : Nat) : (s.sf f i v).gf g j = s.gf g j := by
  by_cases inst : j = i
  · subst inst
    by_cases reg : g.reg = f.reg
    · have bits : f.lo + f.w ≤ g.lo ∨ g.lo + g.w ≤ f.lo := by simpa [Fld.apart, reg] using h
      exact State.gf_sf_fld s j v reg fits bits
    · exact State.gf_sf_reg s j j v fun same => reg (Reg.ctorIdx_inj same)
  · exact State.gf_sf_inst s v inst

theorem State.flag_sf_apart (i j v : Nat) : (s.sf f i v).flag g j = s.flag g j := by
  unfold State.flag
  rw [State.gf_sf_apart s h fits]

theorem State.gf_sflag_apart (i j : Nat) (b : Bool) : (s.sflag f i b).gf g j = s.gf g j := State.gf_sf_apart s h fits i j _
theorem State.flag_sflag_apart (i j : Nat) (b : Bool) : (s.sflag f i b).flag g j = s.flag g j := State.flag_sf_apart s h fits i j _

end

/-- A one-bit field that was just written. -/
theorem State.flag_sf_one (s : State) {f : Fld} (i : Nat) (h : f.lo + f.w ≤ 32) (w : f.w = 1) : (s.sf f i 1).flag f i = true := by
  simp [State.flag, State.gf_sf_same s i 1 h, w]

theorem State.flag_sf_zero (s : State) {f : Fld} (i : Nat) (h : f.lo + f.w ≤ 32) : (s.sf f i 0).flag f i = false := by
  simp [State.flag, State.gf_sf_same s i 0 h]

end Machine
end Sys2Proof

namespace Sys2Proof
namespace Machine

/-! ## Substitution by follow and commit (O14) -/

@[simp] theorem State.follow_setFollow (s : State) (n : Nat) (f : Follow) : (s.setFollow n f).follow n = f := Store.get_set_same _ _ _ _

/-- A command that the table makes legal for the active proctor acts on the state with its good status (R57). -/
theorem subCmd_legal {rq : Requester} {n w : Nat} {legal : Bool} {f : State → State} {s : State} (active : isActiveProctor rq s = true)
    (h : legal = true) : subCmd rq n w legal f s = f (okResp 0 (s.sf F.CLS_SUB_CMD_STATUS_STATUS n 0)) := by
  simp [subCmd, active, h]

theorem clsCmd_legal {rq : Requester} {n c : Nat} {legal : Bool} {f : State → State} {s : State} (active : isActiveProctor rq s = true)
    (h : legal = true) : clsCmd rq n c legal f s = f (okResp 0 (s.sf F.PRC_CLS_SUB_STAT_CMDST 0 0)) := by
  simp [clsCmd, active, h]

/-- Whether a class has steps to follow is a fact about its assignment and its partition's state alone. -/
theorem copiesWhole_sf {f : Fld} (n i v : Nat) (s : State) (hc : Reg.CLS_SEQ_STATUS.ctorIdx ≠ f.reg.ctorIdx)
    (hp : Reg.PART_STATE.ctorIdx ≠ f.reg.ctorIdx) : copiesWhole n (s.sf f i v) = copiesWhole n s := by
  have owner : (s.sf f i v).clsOwner n = s.clsOwner n := by
    unfold State.clsOwner State.flag
    rw [State.gf_sf_reg s i n v hc, State.gf_sf_reg s i n v hc]
  have state : ∀ p, (s.sf f i v).pst p = s.pst p := fun p => State.gf_sf_reg s i p v hp
  unfold copiesWhole
  rw [owner]
  split
  · rfl
  · rw [state]

@[simp] theorem copiesWhole_okResp (n d : Nat) (s : State) : copiesWhole n (okResp d s) = copiesWhole n s := rfl

section BpFollow

variable {rq : Requester} {n : Nat} {s : State} (active : isActiveProctor rq s = true)
include active

/-- SUB_FOLLOW begins the copy (R53, step 1). -/
theorem subFollow_begins {k j : Nat} (hk : k < 512) (hj : j < 16) (free : s.flag F.CLS_SUB_STATUS_FOLLOW n = false)
    (spare : spareFreeBp n j s = true) (quiet : draining n s = false)
    (allowed : (s.unit 1 (528 * s.phys n + s.spareBp n j)).banned ≠ k + 1) (epoch : roleEpoch s 1 (512 * n + k) < 0xFFFE)
    (room : lockerRoom [(1, 528 * s.phys n + s.spareBp n j), (1, 528 * s.phys n + s.physBp n k)] s = true) :
    (subFollow rq n k j s).flag F.CLS_SUB_STATUS_FOLLOW n = true ∧ (subFollow rq n k j s).gf F.CLS_SUB_STATUS_LBP n = k ∧
      (subFollow rq n k j s).gf F.CLS_SUB_STATUS_SPARE n = j ∧ (subFollow rq n k j s).flag F.CLS_SUB_CMD_STATUS_BUSY n = true ∧
      (subFollow rq n k j s).follow n = { copying := true } := by
  unfold subFollow
  rw [subCmd_legal active (by simp [free, spare, quiet, allowed, epoch, room])]
  rw [State.setFollow_flag, State.setFollow_flag, State.setFollow_gf, State.setFollow_gf, State.follow_setFollow]
  simp (disch := decide) only [State.flag_sf_apart, State.gf_sf_apart, State.flag_sf_one, State.gf_sf_same, true_and, and_true]
  exact ⟨Nat.mod_eq_of_lt hk, Nat.mod_eq_of_lt hj⟩

/-- SUB_COMMIT while something steps is held for the gap (R53). -/
theorem subCommit_held (follows : s.flag F.CLS_SUB_STATUS_FOLLOW n = true) (ready : s.flag F.CLS_SUB_STATUS_READY n = true)
    (steps : copiesWhole n s = false) : (subCommit rq n s).flag F.CLS_SUB_STATUS_HELD n = true := by
  unfold subCommit
  rw [subCmd_legal active (by simp [follows, ready])]
  simp (disch := decide) [copiesWhole_sf, steps, State.flag_sf_one]

/-- SUB_CANCEL ends the follow (R57). -/
theorem subCancel_ends (pending : s.flag F.CLS_SUB_STATUS_FOLLOW n = true ∨ s.flag F.CLS_SUB_STATUS_HELD n = true) :
    (subCancel rq n s).flag F.CLS_SUB_STATUS_FOLLOW n = false ∧ (subCancel rq n s).flag F.CLS_SUB_STATUS_HELD n = false ∧
      (subCancel rq n s).flag F.CLS_SUB_STATUS_CANCELLED n = true := by
  unfold subCancel
  rw [subCmd_legal active (by simpa using pending)]
  simp (disch := decide) [followCancel, State.flag_sf_apart, State.flag_sf_one, State.flag_sf_zero]

end BpFollow

/-- An epoch's advance leaves the mapping of the role (R389, R390). -/
theorem bumpEpoch_phys (kind role i : Nat) (s : State) : (bumpEpoch kind role s).gf F.CLS_BP_MAP_PHYS i = s.gf F.CLS_BP_MAP_PHYS i := by
  unfold bumpEpoch
  split
  · rfl
  split
  · exact State.gf_sf_apart _ (by decide) (by decide) _ _ _
  · rfl

/-- The registers and parts that a commit of a BP changes once the role is mapped: status, report, spare slots, units. -/
def subAppliedMask : Nat := 0x60800000000000000000000000140000000000000000000c0000000000000000000000000000000000000000000000000000001

/-- A commit of a BP maps the role to the spare and ends the follow (R53, R389). -/
theorem subApply_maps {n : Nat} {s : State} (fits : s.spareBp n (s.gf F.CLS_SUB_STATUS_SPARE n) < 528) :
    (subApply n s).gf F.CLS_BP_MAP_PHYS (512 * n + s.gf F.CLS_SUB_STATUS_LBP n) = s.spareBp n (s.gf F.CLS_SUB_STATUS_SPARE n) ∧
      (subApply n s).flag F.CLS_SUB_STATUS_FOLLOW n = false := by
  unfold subApply
  extract_lets pc k j new old mapped units array placed ended counted
  have place : Touch subAppliedMask mapped placed :=
    ((unitTakes_touch ..).mono rfl).trans (((unitDetained_touch ..).mono rfl).trans (TouchMk.intro (Touch.refl _ units)))
  have finish : Touch subAppliedMask mapped ended := ((place.sf rfl).sf rfl).sf rfl
  have count : Touch subAppliedMask ended counted := ((State.setFollow_touch ..).mono rfl).trans ((spareCount_touch ..).mono rfl)
  have written := report_touch 0 0x10 (if counted.clsOwner n = 0 then 0xFF else clsPart n counted) 1 (528 * pc + old) (512 * n + k)
    (k + 65536 * j) counted
  constructor
  · rw [written.gf _ _ rfl, count.gf _ _ rfl, finish.gf _ _ rfl, bumpEpoch_phys, State.gf_sf_same _ _ _ (by decide)]
    exact Nat.mod_eq_of_lt (fits.trans (by decide))
  · have cleared : ended.flag F.CLS_SUB_STATUS_FOLLOW n = false := by
      simp (disch := decide) only [ended, State.flag_sf_apart, State.flag_sf_zero]
    have shown : counted.flag F.CLS_SUB_STATUS_FOLLOW n = ended.flag F.CLS_SUB_STATUS_FOLLOW n :=
      (State.flag_sf_apart _ (by decide) (by decide) n n _).trans ((State.setFollow_touch ..).flag _ _ rfl)
    rw [written.flag _ _ rfl, shown, cleared]

/-- SUB_COMMIT where nothing steps is applied at once (R56). -/
theorem subCommit_applied {rq : Requester} {n : Nat} {s : State} (active : isActiveProctor rq s = true)
    (follows : s.flag F.CLS_SUB_STATUS_FOLLOW n = true) (ready : s.flag F.CLS_SUB_STATUS_READY n = true)
    (whole : copiesWhole n s = true) (fits : s.spareBp n (s.gf F.CLS_SUB_STATUS_SPARE n) < 528) :
    (subCommit rq n s).gf F.CLS_BP_MAP_PHYS (512 * n + s.gf F.CLS_SUB_STATUS_LBP n) = s.spareBp n (s.gf F.CLS_SUB_STATUS_SPARE n) ∧
      (subCommit rq n s).flag F.CLS_SUB_STATUS_FOLLOW n = false := by
  unfold subCommit
  rw [subCmd_legal active (by simp [follows, ready])]
  extract_lets held
  have role : held.gf F.CLS_SUB_STATUS_LBP n = s.gf F.CLS_SUB_STATUS_LBP n := by
    simp (disch := decide) only [held, State.gf_sf_apart, okResp_gf]
  have slot : held.gf F.CLS_SUB_STATUS_SPARE n = s.gf F.CLS_SUB_STATUS_SPARE n := by
    simp (disch := decide) only [held, State.gf_sf_apart, okResp_gf]
  have spare : held.spareBp n (held.gf F.CLS_SUB_STATUS_SPARE n) = s.spareBp n (s.gf F.CLS_SUB_STATUS_SPARE n) := by rw [slot]; rfl
  have now : copiesWhole n held = true := by
    simp (disch := decide) only [held, copiesWhole_sf, copiesWhole_okResp, whole]
  have applied := subApply_maps (n := n) (s := held) (by rwa [spare])
  rw [role, spare] at applied
  rw [if_pos now]
  exact applied

/-! ### Classes -/

/-- A new reliability record. -/
def relMask : Nat := 0x4000000000000000000000000000000000000000000000000000000000000000000000000000000000000000000000000000000

theorem withRel_touch (s : State) (r : RelState) : Touch relMask s { s with rel := r } := TouchMk.intro (Touch.refl _ s)

/-- Which physical class serves a logical one is a fact about the arrays alone. -/
theorem Touch.phys {w : Nat} {s t : State} (h : Touch w s t) (n : Nat) (e : w.testBit 403 = false) : t.phys n = s.phys n := by
  unfold State.phys
  rw [h.bp e]

theorem Touch.follow {w : Nat} {s t : State} (h : Touch w s t) (n : Nat) (e : w.testBit 403 = false) : t.follow n = s.follow n := by
  unfold State.follow
  rw [h.bp e]

theorem freeClass_congr {n : Nat} {s t : State} (h : t.rel = s.rel) : freeClass n t = freeClass n s := by
  unfold freeClass State.unit
  rw [h]

/-- The window of class `n` passes to `f` (R395). -/
theorem classTakes_phys (n f : Nat) (s : State) : (classTakes n f s).phys n = f := by
  unfold classTakes
  extract_lets pc array passed
  have later : Touch 0x400000000000000000000000000000000000000000000000000000000000000000000000000000000000000000000000000013d passed
      (classWindow n (unitDetained 0 pc n (unitTakes 0 f n (bumpEpoch 0 n passed)))) :=
    ((bumpEpoch_touch ..).mono rfl).trans (((unitTakes_touch ..).mono rfl).trans
      (((unitDetained_touch ..).mono rfl).trans ((classWindow_touch ..).mono rfl)))
  rw [later.phys n rfl]
  exact Store.get_set_same _ _ _ _

theorem clsFollowEnd_follow (s : State) : (clsFollowEnd s).flag F.PRC_CLS_SUB_STAT_FOLLOW 0 = false := by
  unfold clsFollowEnd
  extract_lets ended
  rw [(withRel_touch ended _).flag _ _ rfl]
  simp (disch := decide) only [ended, State.flag_sf_apart, State.flag_sf_zero]

/-- A commit of a class gives the logical class its substitute and ends the follow (R395). -/
theorem clsApply_maps (s : State) : (clsApply s).phys (s.gf F.PRC_CLS_SUB_STAT_CLASS 0) = s.rel.clsSub ∧
    (clsApply s).flag F.PRC_CLS_SUB_STAT_FOLLOW 0 = false := by
  unfold clsApply
  extract_lets n f pc returns passed
  constructor
  · rw [(clsReport_touch ..).phys n rfl, (clsFollowEnd_touch _).phys n rfl]
    exact classTakes_phys n f passed
  · rw [(clsReport_touch ..).flag _ _ rfl]
    exact clsFollowEnd_follow _

section ClassFollow

variable {rq : Requester} {n : Nat} {s : State} (active : isActiveProctor rq s = true)
include active

/-- CLS_FOLLOW begins the copy into the free class (R395). -/
theorem clsFollow_begins {f : Nat} (hn : n < 256) (idle : s.flag F.PRC_CLS_SUB_STAT_FOLLOW 0 = false) (free : freeClass n s = some f)
    (quiet : draining n s = false) (alone : s.flag F.CLS_SUB_STATUS_FOLLOW n = false) (epoch : roleEpoch s 0 n < 0xFFFE)
    (room : lockerRoom [(0, f), (0, s.phys n)] s = true) :
    (clsFollow rq n s).flag F.PRC_CLS_SUB_STAT_FOLLOW 0 = true ∧ (clsFollow rq n s).gf F.PRC_CLS_SUB_STAT_CLASS 0 = n ∧
      (clsFollow rq n s).rel.clsSub = f ∧ (clsFollow rq n s).rel.clsRec = { copying := true } := by
  unfold clsFollow
  rw [clsCmd_legal active (by simp [idle, free, quiet, alone, epoch, room])]
  extract_lets begun
  refine ⟨?_, ?_, ?_, rfl⟩
  · rw [(withRel_touch (begun.sf _ _ _) _).flag _ _ rfl]
    simp (disch := decide) only [begun, State.flag_sf_apart, State.flag_sf_one]
  · rw [(withRel_touch (begun.sf _ _ _) _).gf _ _ rfl, State.gf_sf_same _ _ _ (by decide)]
    exact Nat.mod_eq_of_lt hn
  · show (freeClass n begun).getD 0 = f
    rw [freeClass_congr (show begun.rel = s.rel from rfl), free]
    rfl

/-- CLS_COMMIT while something steps is held for the gap (R395). -/
theorem clsCommit_held {m : Nat} (follows : s.flag F.PRC_CLS_SUB_STAT_FOLLOW 0 = true) (ready : s.flag F.PRC_CLS_SUB_STAT_READY 0 = true)
    (cls : s.gf F.PRC_CLS_SUB_STAT_CLASS 0 = m) (steps : copiesWhole m s = false) :
    (clsCommit rq n s).flag F.PRC_CLS_SUB_STAT_HELD 0 = true := by
  unfold clsCommit
  rw [clsCmd_legal active (by simp [follows, ready])]
  simp (disch := decide) [State.gf_sf_apart, copiesWhole_sf, cls, steps, State.flag_sf_one]

/-- CLS_COMMIT where nothing steps is applied at once (R56, R395). -/
theorem clsCommit_applied {m : Nat} (follows : s.flag F.PRC_CLS_SUB_STAT_FOLLOW 0 = true)
    (ready : s.flag F.PRC_CLS_SUB_STAT_READY 0 = true) (cls : s.gf F.PRC_CLS_SUB_STAT_CLASS 0 = m) (whole : copiesWhole m s = true) :
    (clsCommit rq n s).phys m = s.rel.clsSub ∧ (clsCommit rq n s).flag F.PRC_CLS_SUB_STAT_FOLLOW 0 = false := by
  unfold clsCommit
  rw [clsCmd_legal active (by simp [follows, ready])]
  extract_lets held
  have shown : held.gf F.PRC_CLS_SUB_STAT_CLASS 0 = m := by
    simp (disch := decide) only [held, State.gf_sf_apart, okResp_gf, cls]
  have now : copiesWhole m held = true := by
    simp (disch := decide) only [held, copiesWhole_sf, copiesWhole_okResp, whole]
  have applied := clsApply_maps held
  rw [shown] at applied ⊢
  rw [if_pos now]
  exact applied

/-- CLS_CANCEL ends the follow (R396). -/
theorem clsCancel_ends (pending : s.flag F.PRC_CLS_SUB_STAT_FOLLOW 0 = true ∨ s.flag F.PRC_CLS_SUB_STAT_HELD 0 = true) :
    (clsCancel rq n s).flag F.PRC_CLS_SUB_STAT_FOLLOW 0 = false ∧ (clsCancel rq n s).flag F.PRC_CLS_SUB_STAT_HELD 0 = false ∧
      (clsCancel rq n s).flag F.PRC_CLS_SUB_STAT_CANCELLED 0 = true := by
  unfold clsCancel
  rw [clsCmd_legal active (by simpa using pending)]
  unfold clsFollowCancel
  extract_lets cancelled
  have kept := withRel_touch cancelled { cancelled.rel with clsRec := {} }
  rw [kept.flag F.PRC_CLS_SUB_STAT_FOLLOW 0 rfl, kept.flag F.PRC_CLS_SUB_STAT_HELD 0 rfl, kept.flag F.PRC_CLS_SUB_STAT_CANCELLED 0 rfl]
  simp (disch := decide) only [cancelled, State.flag_sf_apart, State.flag_sf_one, State.flag_sf_zero, and_self]

end ClassFollow

/-! ### The end of the copy -/

/-- The copy of a BP ends and the spare follows (R53, step 1; R56). -/
theorem followCopyDone_bp {n : Nat} {s : State} (follows : s.flag F.CLS_SUB_STATUS_FOLLOW n = true) (copies : (s.follow n).copying = true) :
    (followCopyDone n false s).flag F.CLS_SUB_CMD_STATUS_BUSY n = false ∧ ((followCopyDone n false s).follow n).copying = false ∧
      ((followCopyDone n false s).follow n).covered = copiesWhole n s := by
  unfold followCopyDone
  extract_lets p pc whole k old new copied slates
  rw [if_neg Bool.false_ne_true, if_pos (by simp [follows, copies])]
  have checked := readyCheck_touch n ((slates.sf F.CLS_SUB_CMD_STATUS_BUSY n 0).setFollow n
    { covered := whole, sweep := if whole = true then [] else sweepList p n k slates })
  refine ⟨?_, ?_⟩
  · rw [checked.flag _ _ rfl, State.setFollow_flag, State.flag_sf_zero _ _ (by decide)]
  · rw [checked.follow n rfl, State.follow_setFollow]
    exact ⟨rfl, rfl⟩

/-- The copy of a class ends and the substitute follows (R395). -/
theorem followCopyDone_class {n f : Nat} {s : State} (follower : s.clsFollower n = some f) (copies : s.rel.clsRec.copying = true) :
    (followCopyDone n true s).rel.clsRec.copying = false ∧ (followCopyDone n true s).rel.clsRec.covered = copiesWhole n s := by
  unfold followCopyDone
  extract_lets p pc whole
  rw [if_pos rfl, follower]
  dsimp only
  rw [copies, if_neg (by decide), (readyCheck_touch ..).rel rfl]
  exact ⟨rfl, rfl⟩

/-- Settles O14, each clause by the lemma that says what its command does. -/
theorem substitutionCommandsTakeEffect : Obligations.SubstitutionCommandsTakeEffect := by
  refine ⟨?follow, ?held, ?applied, ?cancel, ?clsFollow, ?clsHeld, ?clsApplied, ?clsCancel, ?copied, ?clsCopied⟩
  case follow =>
    exact fun s rq n k j active free spare quiet allowed epoch room =>
      ⟨_, rfl, subFollow_begins active k.isLt j.isLt free spare quiet allowed epoch room⟩
  case held => exact fun s rq n active ⟨follows, ready⟩ steps => ⟨_, rfl, subCommit_held active follows ready steps⟩
  case applied =>
    exact fun s rq n active ⟨follows, ready⟩ whole fits => ⟨_, rfl, subCommit_applied active follows ready whole fits⟩
  case cancel => exact fun s rq n active pending => ⟨_, rfl, subCancel_ends active pending⟩
  case clsFollow =>
    exact fun s rq n f active idle free quiet alone epoch room =>
      ⟨_, rfl, clsFollow_begins active n.isLt idle free quiet alone epoch room⟩
  case clsHeld => exact fun s rq n m active ⟨follows, ready⟩ cls steps => ⟨_, rfl, clsCommit_held active follows ready cls steps⟩
  case clsApplied =>
    exact fun s rq n m active ⟨follows, ready⟩ cls whole => ⟨_, rfl, clsCommit_applied active follows ready cls whole⟩
  case clsCancel => exact fun s rq n active pending => ⟨_, rfl, clsCancel_ends active pending⟩
  case copied => exact fun s n follows copies => ⟨_, rfl, followCopyDone_bp follows copies⟩
  case clsCopied => exact fun s n f follower copies => ⟨_, rfl, followCopyDone_class follower copies⟩

end Machine
end Sys2Proof

namespace Sys2Proof
namespace Machine

/-! ## Where a partition is (O9)

What arrives with a step, what the step does and what leaves with it never move the partition: its step in PART_STATE, its bell and the
mark of a rewind in progress stay. Each operation has this as a lemma; the step itself is the one exception. -/

/-! A record of a part that the mask leaves out. -/

section

variable {w : Nat} {s t : State} (h : Touch w s t)
include h

theorem Touch.partRec (p : Nat) (e : w.testBit 405 = false) : t.part p = s.part p := by unfold State.part; rw [h.parts e]
theorem Touch.freezeRec (p : Nat) (e : w.testBit 406 = false) : t.fz p = s.fz p := by unfold State.fz; rw [h.frz e]
theorem Touch.traceRec (p : Nat) (e : w.testBit 411 = false) : t.trec p = s.trec p := by unfold State.trec; rw [h.trc e]

end

/-- From `s` to `t` partition `p` stays at its step, in its bell, and in the rewind it is in. -/
structure SamePlace (p : Nat) (s t : State) : Prop where
  step : t.gf F.PART_STATE_STEP p = s.gf F.PART_STATE_STEP p
  inGap : t.gf F.PART_STATE_IN_GAP p = s.gf F.PART_STATE_IN_GAP p
  bell : (t.part p).bell = (s.part p).bell
  rewinding : (t.part p).rewinding = (s.part p).rewinding

namespace SamePlace

variable {p : Nat} {s x t : State}

theorem refl (p : Nat) (s : State) : SamePlace p s s := ⟨rfl, rfl, rfl, rfl⟩

theorem trans (h : SamePlace p s x) (k : SamePlace p x t) : SamePlace p s t :=
  ⟨k.step.trans h.step, k.inGap.trans h.inGap, k.bell.trans h.bell, k.rewinding.trans h.rewinding⟩

/-- An operation that touches neither PART_STATE nor the partition records. -/
theorem touch {w : Nat} (h : Touch w x t) (k : SamePlace p s x) (a : w.testBit Reg.PART_STATE.ctorIdx = false := by rfl)
    (b : w.testBit 405 = false := by rfl) : SamePlace p s t :=
  have record : t.part p = x.part p := h.partRec p b
  k.trans ⟨h.gf _ p a, h.gf _ p a, by rw [record], by rw [record]⟩

/-- A write of a field beside STEP and IN_GAP. -/
theorem sf {f : Fld} {i v : Nat} (k : SamePlace p s x) (a : Fld.apart f F.PART_STATE_STEP = true := by decide)
    (b : Fld.apart f F.PART_STATE_IN_GAP = true := by decide) (fits : f.lo + f.w ≤ 32 := by decide) : SamePlace p s (x.sf f i v) :=
  k.trans ⟨State.gf_sf_apart x a fits i p v, State.gf_sf_apart x b fits i p v, rfl, rfl⟩

theorem sflag {f : Fld} {i : Nat} {v : Bool} (k : SamePlace p s x) (a : Fld.apart f F.PART_STATE_STEP = true := by decide)
    (b : Fld.apart f F.PART_STATE_IN_GAP = true := by decide) (fits : f.lo + f.w ≤ 32 := by decide) : SamePlace p s (x.sflag f i v) :=
  k.sf a b fits

theorem bump {f : Fld} {i v : Nat} (k : SamePlace p s x) (a : Fld.apart f F.PART_STATE_STEP = true := by decide)
    (b : Fld.apart f F.PART_STATE_IN_GAP = true := by decide) (fits : f.lo + f.w ≤ 32 := by decide) : SamePlace p s (x.bump f i v) :=
  k.sf a b fits

theorem setReg {r : Reg} {i : Nat} {w : Word} (k : SamePlace p s x) (a : Reg.PART_STATE.ctorIdx ≠ r.ctorIdx := by decide) :
    SamePlace p s (x.setReg r i w) :=
  k.trans ⟨State.gf_setReg_reg x i p w a, State.gf_setReg_reg x i p w a, rfl, rfl⟩

/-- A new record of the partition with the old bell and the old mark. -/
theorem setPart {r : PartRec} (k : SamePlace p s x) (a : r.bell = (x.part p).bell := by rfl)
    (b : r.rewinding = (x.part p).rewinding := by rfl) : SamePlace p s (x.setPart p r) :=
  k.trans ⟨rfl, rfl, by rw [State.part_setPart, a], by rw [State.part_setPart, b]⟩

theorem modPart {f : PartRec → PartRec} (k : SamePlace p s x) (a : ∀ r, (f r).bell = r.bell := by exact fun _ => rfl)
    (b : ∀ r, (f r).rewinding = r.rewinding := by exact fun _ => rfl) : SamePlace p s (x.modPart p f) := k.setPart (a _) (b _)

theorem ite {c : Prop} [Decidable c] {a b : State} (h : SamePlace p s a) (k : SamePlace p s b) :
    SamePlace p s (if c then a else b) := by
  split <;> assumption

theorem foldl {α : Type} {l : List α} {f : State → α → State} (h : ∀ u a, SamePlace p u (f u a)) (k : SamePlace p s x) :
    SamePlace p s (l.foldl f x) := by
  induction l generalizing x with
  | nil => exact k
  | cons a l ih => exact ih (k.trans (h x a))

theorem forEach {α : Type} {l : List α} {f : α → State → State} (h : ∀ a u, SamePlace p u (f a u)) (k : SamePlace p s x) :
    SamePlace p s (Machine.forEach l f x) := foldl (fun u a => h a u) k

/-! Updates of parts that hold neither registers nor partition records. -/

theorem modTrec {q : Nat} {f : TrcRec → TrcRec} (k : SamePlace p s x) : SamePlace p s (x.modTrec q f) := ⟨k.1, k.2, k.3, k.4⟩
theorem modLk {l : Nat} {f : LinkRec → LinkRec} (k : SamePlace p s x) : SamePlace p s (x.modLk l f) := ⟨k.1, k.2, k.3, k.4⟩
theorem net {n : NetState} (k : SamePlace p s x) : SamePlace p s { x with net := n } := ⟨k.1, k.2, k.3, k.4⟩

end SamePlace

/-! ### Late items -/

section

variable {p : Nat} {s x : State}

theorem markCorrupt_samePlace (k : SamePlace p s x) : SamePlace p s (markCorrupt p x) := k.modPart

theorem sendFaultReq_samePlace (code : Nat) (k : SamePlace p s x) : SamePlace p s (sendFaultReq p code x) := k.setPart

theorem raiseLate_samePlace (b cause src notice dueBell dueCode : Nat) (k : SamePlace p s x) :
    SamePlace p s (raiseLate p b cause src notice dueBell dueCode x) := by
  unfold raiseLate
  extract_lets fpt absent noticed raised missed cs locA r recorded
  have atRaised : SamePlace p s raised := k.sf.touch (raiseFreeze_touch ..)
  exact (k.touch (raiseFreeze_touch ..)).ite (atRaised.ite (sendFaultReq_samePlace 8 atRaised.bump.setPart))

/-! ### Mailboxes and ports -/

theorem mbxDecide_samePlace (g b pos notice : Nat) (k : SamePlace p s x) : SamePlace p s (mbxDecide p g b pos notice x) := by
  unfold mbxDecide
  extract_lets m stale counted q
  have atCounted : SamePlace p s counted := k.ite k.bump
  clear_value q
  cases q
  · exact raiseLate_samePlace _ _ _ _ _ _ (atCounted.touch (State.setMbx_touch ..))
  · exact (atCounted.touch (State.setMbx_touch ..)).ite (markCorrupt_samePlace (atCounted.touch (State.setMbx_touch ..)))

theorem mbxDecisions_samePlace (lin : Nat) (first : Bool) (k : SamePlace p s x) : SamePlace p s (mbxDecisions p lin first x) := by
  unfold mbxDecisions
  refine SamePlace.forEach (fun g u => ?_) k
  extract_lets st act early
  have decided : ∀ {y : State} (b pos notice : Nat), SamePlace p u y → SamePlace p u (act b pos notice y) := fun b pos notice h =>
    (mbxDecide_samePlace g b pos notice h).ite (h.touch (mbxAsync_touch ..))
  have atEarly : SamePlace p u early := (decided _ _ _ (.refl p u)).ite (.refl p u)
  exact (decided _ _ _ atEarly).ite atEarly

theorem decideMailboxes_samePlace (st : Nat × Bool) (k : SamePlace p s x) : SamePlace p s (decideMailboxes p st x) :=
  k.ite (mbxDecisions_samePlace _ _ k)

theorem raisePortLate_samePlace (l notice : Nat) (k : SamePlace p s x) : SamePlace p s (raisePortLate l p notice x) :=
  k.ite (raiseLate_samePlace _ _ _ _ _ _ (k.modLk.bump.ite k.modLk.bump))

theorem chainPresent_samePlace (k : SamePlace p s x) : SamePlace p s (chainPresent p x) := by
  unfold chainPresent
  refine SamePlace.forEach (fun i u => ?_) k
  extract_lets l started chain slack raised lane src
  have atRaised : SamePlace p u raised := by
    unfold raised started
    split
    · exact (raisePortLate_samePlace _ _ (.refl p u)).ite (.refl p u)
    · exact .refl p u
  split
  · exact atRaised
  · exact atRaised.modLk.net

theorem vecPresent_samePlace (k : SamePlace p s x) : SamePlace p s (vecPresent p x) := by
  unfold vecPresent
  refine SamePlace.forEach (fun i u => ?_) k
  extract_lets l vret notice raised ents lane put
  have atRaised : SamePlace p u raised := by
    unfold raised
    split
    · exact (raisePortLate_samePlace _ _ (.refl p u)).ite (.refl p u)
    · exact .refl p u
  have presented : ∀ {y : State} (f : Nat → Tri) (any : Tri), SamePlace p u y → SamePlace p u (put f any y) := fun _ _ h => h.net
  split
  · exact presented _ _ atRaised.modLk
  split
  · exact (presented _ _ atRaised.modLk).ite atRaised
  · exact atRaised

/-! ### Fault requests, triggers -/

theorem faultArrive_samePlace (c : Nat) (k : SamePlace p s x) : SamePlace p s (faultArrive p c x) := by
  unfold faultArrive
  refine SamePlace.forEach (fun q u => ?_) k.modPart
  split
  · exact (SamePlace.refl p u).sf
  · exact (SamePlace.refl p u).touch (raiseLead_touch ..)
  · exact .refl p u

theorem traceFire_samePlace (src idx : Nat) (st : Nat × Bool) (bell : Nat) (k : SamePlace p s x) :
    SamePlace p s (traceFire p src idx st bell x) := by
  unfold traceFire
  refine k.ite (k.ite ?_)
  extract_lets fired named dated marked post emitted cap captured pulsed
  have atMarked : SamePlace p s marked := k.sf.sf.sf.sf.sf.sflag.modTrec
  have atEmitted : SamePlace p s emitted := atMarked.touch (emit_touch ..)
  have atCaptured : SamePlace p s captured := atEmitted.sf.modPart.ite atEmitted
  have atPulsed : SamePlace p s pulsed := (atCaptured.touch (pulseCti_touch ..)).ite atCaptured
  exact atPulsed.touch (tracePostEnd_touch ..)

theorem designTrigger_samePlace (c : Nat) (k : SamePlace p s x) : SamePlace p s (designTrigger p c x) := by
  unfold designTrigger
  split
  · exact k
  · exact k.ite (traceFire_samePlace _ _ _ _ k.modTrec)

theorem triggersArrive_samePlace (c : Nat) (k : SamePlace p s x) : SamePlace p s (triggersArrive p c x) :=
  SamePlace.foldl (fun u _ => designTrigger_samePlace c (.refl p u)) k

/-! ### Settings and inputs of a replay -/

theorem discardDebt_samePlace (k : SamePlace p s x) : SamePlace p s (discardDebt p x) := (k.ite k.bump).modPart.sf

theorem armStages_samePlace (k : SamePlace p s x) : SamePlace p s (armStages p x) := by
  unfold armStages
  extract_lets cleared emptied ready
  have atCleared : SamePlace p s cleared := k.touch (clearStages_touch ..)
  have atEmptied : SamePlace p s emptied := atCleared.forEach fun n u => ⟨rfl, rfl, rfl, rfl⟩
  have atReady : SamePlace p s ready := atEmptied.modPart
  exact atReady.ite (atReady.touch (zeroStages_touch ..))

theorem swapSlot_samePlace (slot : Nat) (k : SamePlace p s x) : SamePlace p s (swapSlot p slot x) := by
  unfold swapSlot
  extract_lets aborted swapped marked sampled
  have atSwapped : SamePlace p s swapped := (k.touch (bindAbort_touch ..)).sf.sf
  have atSampled : SamePlace p s sampled := atSwapped.modTrec.forEach fun i u => (SamePlace.refl p u).modLk
  exact ((armStages_samePlace atSampled).touch (bindClear_touch ..)).touch (mbxUnknown_touch ..)

theorem applySettings_samePlace (cfg tempo action : Nat) (k : SamePlace p s x) : SamePlace p s (applySettings p cfg tempo action x) := by
  unfold applySettings
  extract_lets dual slot swap dImg old inForce shown stored swapped
  have atStored : SamePlace p s stored := k.sf.sf.sf.sf.setReg.setReg
  have atSwapped : SamePlace p s swapped := (swapSlot_samePlace slot atStored).ite atStored
  exact (discardDebt_samePlace atSwapped).ite atSwapped

theorem settingsReplay_samePlace (e : List Nat) (k : SamePlace p s x) : SamePlace p s (settingsReplay p e x) :=
  applySettings_samePlace _ _ _ k

theorem replayKind_samePlace (pos : Nat) (e : List Nat) (late : Bool) (k : SamePlace p s x) :
    SamePlace p s (replayKind p pos e late (settingsReplay p) x) := by
  unfold replayKind
  split
  · exact k
  · exact (k.touch (replaySources_touch ..)).touch (replayTaken_touch ..)
  · exact (k.touch (replayHostwr_touch ..)).touch (replayTaken_touch ..)
  · exact ((settingsReplay_samePlace e k).touch (replayTaken_touch ..)).ite k

theorem replayInputs_samePlace (st : Nat × Bool) (late : Bool) (k : SamePlace p s x) :
    SamePlace p s (replayInputs p st late (settingsReplay p) x) :=
  SamePlace.foldl (fun u _ => (SamePlace.refl p u).ite (replayKind_samePlace _ _ late (.refl p u))) k

theorem presentInputs_samePlace (st : Nat × Bool) (k : SamePlace p s x) : SamePlace p s (presentInputs p st x) := by
  unfold presentInputs
  extract_lets started
  have atStarted : SamePlace p s started := (k.touch (replayBell_touch ..)).ite k
  exact (replayInputs_samePlace st false (atStarted.touch (bindingPresent_touch ..))).ite
    (vecPresent_samePlace (chainPresent_samePlace ((k.touch (bindingPresent_touch ..)).touch (mbxPresents_touch ..))))

theorem arrivals_samePlace (st : Nat × Bool) (k : SamePlace p s x) : SamePlace p s (arrivals p st x) := by
  unfold arrivals
  extract_lets c decided
  have atDecided : SamePlace p s decided := decideMailboxes_samePlace st (triggersArrive_samePlace c (faultArrive_samePlace c k))
  exact ((presentInputs_samePlace st atDecided).touch (bindWindows_touch ..)).touch (pinTake_touch ..)

/-! ### Faults -/

theorem writeFaultRec_samePlace (f : StepFault) (gap : Bool) (step bell : Nat) (noact : Bool) (k : SamePlace p s x) :
    SamePlace p s (writeFaultRec p f gap step bell noact x) := by
  unfold writeFaultRec
  extract_lets act shown r same cnt e w logged dated clocked counted recorded
  have atShown : SamePlace p s shown := k.setReg (show Reg.PART_STATE.ctorIdx ≠ Reg.PART_FAULT_HEAD.ctorIdx by decide)
  have word : ∀ {y : State} (j v : Nat), SamePlace p s y → SamePlace p s (w j v y) := fun _ _ h => h.setReg
  split
  · exact atShown.setReg
  · refine atShown.bump.ite ?_
    have atDated : SamePlace p s dated := word _ _ (word _ _ (word _ _ (word _ _ (word _ _ (word _ _ atShown)))))
    have atCounted : SamePlace p s counted := (word _ _ (word _ _ atDated)).sf.sf
    exact atCounted.setPart.touch (partEvent_touch ..)

theorem raiseFault_samePlace (f : StepFault) (gap : Bool) (step : Nat) (k : SamePlace p s x) : SamePlace p s (raiseFault p f gap step x) := by
  unfold raiseFault
  extract_lets live noact written marked
  have atWritten : SamePlace p s written := writeFaultRec_samePlace f gap step _ noact k
  have atMarked : SamePlace p s marked := (markCorrupt_samePlace atWritten).ite atWritten
  exact atMarked.ite (sendFaultReq_samePlace _ atMarked)

theorem raiseFaults_samePlace (l : List StepFault) (gap : Bool) (step : Nat) (k : SamePlace p s x) :
    SamePlace p s (raiseFaults p l gap step x) :=
  SamePlace.forEach (fun f u => raiseFault_samePlace f gap step (.refl p u)) k

/-! ### Duties of the gap -/

theorem takeTick_samePlace (bad : Bool) (k : SamePlace p s x) : SamePlace p s (takeTick p bad x) := by
  have early : SamePlace p s (earlyTick p bad x) := by
    unfold earlyTick
    extract_lets counted debts
    have atCounted : SamePlace p s counted := k.bump
    have faulty : SamePlace p s (tempoFault p counted) := raiseFault_samePlace _ _ _ atCounted
    split
    · exact (atCounted.touch (leadTempo_touch ..)).modPart.sf.ite faulty
    · exact atCounted
    · exact faulty
  have led : ∀ n, (leadTempo p n x).part p = x.part p := fun n => (leadTempo_touch p n x).partRec p rfl
  unfold takeTick
  refine k.ite (SamePlace.ite ?_ early)
  exact (k.touch (leadTempo_touch ..)).setPart (by rw [led]) (by rw [led])

theorem freeTick_samePlace (k : SamePlace p s x) : SamePlace p s (freeTick p x) := (takeTick_samePlace false k).ite k

theorem gapSample_samePlace (k : SamePlace p s x) : SamePlace p s (gapSample p x) := by
  unfold gapSample
  extract_lets r traced sampled
  have atTraced : SamePlace p s traced := (k.sflag.sf.modTrec).ite k.sflag
  have atSampled : SamePlace p s sampled := atTraced.modPart
  exact atSampled.touch (subSample_touch ..)

theorem takeSnapshot_samePlace (boundary : Bool) (k : SamePlace p s x) : SamePlace p s (takeSnapshot p boundary x) := by
  unfold takeSnapshot
  extract_lets slot copied r z recorded draining i named dated
  have atCopied : SamePlace p s copied := ((k.touch (dropSnap_touch ..)).touch (followsCancel_touch ..)).touch (shadowCopy_touch ..)
  have atDraining : SamePlace p s draining := atCopied.modTrec.sf.sf.sf
  have atDated : SamePlace p s dated := atDraining.sf.sf.sflag.sf
  exact ((atDated.touch (snapStatus_touch ..)).touch (pendingUpd_touch ..)).touch (sourcesEntries_touch ..)

theorem gapDuties_samePlace (g : Nat) (old : State) (k : SamePlace p s x) : SamePlace p s (gapDuties p g old x) := by
  have sampled : SamePlace p s (gapSample p x) := gapSample_samePlace k
  have followed := sampled.forEach (f := fun n u => followStep p n ((gapSample p x).dImg p) old u) (l := (gapSample p x).classes p)
    fun n u => (SamePlace.refl p u).touch (followStep_touch ..)
  have swept : SamePlace p s (followSweep p x) := k.touch (followSweep_touch ..)
  exact (followed.touch (followCovered_touch ..)).ite (((takeSnapshot_samePlace false k.modPart).ite k).ite
    (((freeTick_samePlace swept).ite swept).ite k))

theorem commitStatus_samePlace (st : Nat) (k : SamePlace p s x) : SamePlace p s (commitStatus p st x) :=
  k.sf.sf.sf.sf.touch (pendingUpd_touch ..)

theorem applyCommit_samePlace (k : SamePlace p s x) : SamePlace p s (applyCommit p x) := by
  unfold applyCommit
  extract_lets taken trc slot badSlot badSrc applied
  have atTaken : SamePlace p s taken := k.modPart
  have atApplied : SamePlace p s applied := (applySettings_samePlace _ _ _ atTaken).setReg
  exact (commitStatus_samePlace 0 atTaken.setReg).ite ((commitStatus_samePlace 0x20 (atTaken.touch (logRefused_touch ..))).ite
    (commitStatus_samePlace 0 (atApplied.touch (settingsEntry_touch ..))))

/-! ### The end of the gap -/

theorem haltEnter_samePlace (k : SamePlace p s x) : SamePlace p s (haltEnter p x) := by
  unfold haltEnter
  extract_lets halted dropped z unscheduled
  have atDropped : SamePlace p s dropped := SamePlace.modPart k.sf.sf.sf
  have atUnscheduled : SamePlace p s unscheduled := (atDropped.touch (State.setFz_touch ..)).touch (frzStatus_touch ..)
  exact ((discardDebt_samePlace atUnscheduled).touch (pendingUpd_touch ..)).touch (partEvent_touch ..)

/-- What a halt changes beside PART_STATE. -/
def haltSideMask : Nat := 0x26000000000000000000000000000000000000000000000c00000000000000000000000000000000000000000040000000c1000

/-- A halt leaves the partition HALTED (R64). -/
theorem haltEnter_pst (p : Nat) (s : State) : (haltEnter p s).pst p = stHalted := by
  unfold haltEnter State.pst
  extract_lets halted dropped z unscheduled
  have atHalted : halted.gf F.PART_STATE_STATE p = stHalted := by
    simp (disch := decide) only [halted, State.gf_sf_apart, State.gf_sf_same]
    rfl
  have later : Touch haltSideMask halted (partEvent p 0 (pendingUpd p (discardDebt p unscheduled))) :=
    ((State.modPart_touch ..).mono rfl).trans <| ((State.setFz_touch ..).mono rfl).trans <| ((frzStatus_touch ..).mono rfl).trans <|
      ((discardDebt_touch ..).mono rfl).trans <| ((pendingUpd_touch ..).mono rfl).trans ((partEvent_touch ..).mono rfl)
  rw [later.gf _ p rfl, atHalted]

/-- Gap 11 keeps the place, and outside a rewind it leaves the partition waiting for tempo or HALTED (R64). -/
theorem gapEnd_outcome (p : Nat) (s : State) : SamePlace p s (gapEnd p s) ∧
    ((s.part p).rewinding = false → (gapEnd p s).flag F.PART_STATE_WAITING p = true ∨ (gapEnd p s).pst p = stHalted) := by
  unfold gapEnd
  extract_lets committed substituted repaired replay settled ends ended quiet
  have start := SamePlace.refl p s
  have atCommitted : SamePlace p s committed := (applyCommit_samePlace start).ite start
  have atSubstituted : SamePlace p s substituted := atCommitted.touch (subCommits_touch ..)
  have atRepaired : SamePlace p s repaired := (atSubstituted.touch (repairPart_touch ..)).ite atSubstituted
  have atSettled : SamePlace p s settled := (replayInputs_samePlace (11, true) true atRepaired).ite atRepaired
  have atEnded : SamePlace p s ended := (atSettled.touch (replayEnd_touch ..)).ite atSettled
  have atQuiet : SamePlace p s quiet := atEnded.ite (atEnded.touch (toutAhead_touch ..))
  refine ⟨atSettled.ite ((haltEnter_samePlace atEnded).ite atQuiet.sf), fun live => ?_⟩
  rw [if_neg (by rw [atSettled.rewinding, live]; decide)]
  split
  · exact .inr (haltEnter_pst p ended)
  · exact .inl (State.flag_sf_one quiet p (by decide) rfl)

/-! ### The steps -/

theorem setStep_step (p : Nat) {st : Nat × Bool} (s : State) (fits : st.1 < 4096) : (setStep p st s).gf F.PART_STATE_STEP p = st.1 := by
  unfold setStep
  rw [State.gf_sflag_apart _ (by decide) (by decide), State.gf_sf_fit s p (by decide) fits]

theorem setStep_inGap (p : Nat) (st : Nat × Bool) (s : State) : (setStep p st s).gf F.PART_STATE_IN_GAP p = b2n st.2 := by
  unfold setStep State.sflag
  rw [State.gf_sf_same _ p _ (by decide)]
  cases st.2 <;> rfl

theorem setStep_part (p q : Nat) (st : Nat × Bool) (s : State) : (setStep p st s).part q = s.part q :=
  (setStep_touch p st s).partRec q rfl

/-- A step begins with its index in PART_STATE. -/
theorem beginStep_place (p : Nat) (st : Nat × Bool) (counted : Bool) (s : State) (fits : st.1 < 4096) :
    (beginStep p st counted s).gf F.PART_STATE_STEP p = st.1 ∧ (beginStep p st counted s).gf F.PART_STATE_IN_GAP p = b2n st.2 ∧
      ((beginStep p st counted s).part p).rewinding = (s.part p).rewinding := by
  have counts : SamePlace p (setStep p st s) (beginStep p st counted s) := by
    unfold beginStep
    exact (SamePlace.refl p _).modPart
  rw [counts.step, counts.inGap, counts.rewinding, setStep_part]
  exact ⟨setStep_step p s fits, setStep_inGap p st s, rfl⟩

/-- Step clocks that pass move no partition. -/
theorem advanceTo_samePlace (n p : Nat) (s : State) : SamePlace p s (advanceTo n s) :=
  (SamePlace.refl p s).touch (advanceTo_touch n s)

/-- The next step enable comes at the present step clock or the one after it. -/
theorem scc_le_nextScc (p : Nat) (s : State) : s.scc ≤ nextScc p s := by
  unfold nextScc
  split <;> omega

/-- What a timetable step changes once its inputs have arrived: not PART_STATE. -/
def stepWorkMask : Nat := 0x817ef800000000000000000000000140000060000000000020c0000000000c406000ca80f2200000008a818030f08401e0000ca038

/-- A timetable step works on the place where its inputs arrived (R37). -/
theorem activeStep_work (p t : Nat) (bad : List Nat) (s : State) : Touch stepWorkMask (arrivals p (t, false) s) (activeStep p t bad s) := by
  unfold activeStep
  extract_lets arrived cls delivered old segs followed stepped exported reqs cmds served faults contended moved traced raised
  have atDelivered : Touch stepWorkMask arrived delivered := Touch.forEach (fun n u => (deliverRet_touch ..).mono rfl) (Touch.refl _ _)
  have atFollowed : Touch stepWorkMask arrived followed := Touch.forEach (fun n u => (followStep_touch ..).mono rfl) atDelivered
  have atStepped : Touch stepWorkMask arrived stepped.1 := collect_touch (fun n u => (classStep_touch ..).mono rfl) atFollowed
  have atExported : Touch stepWorkMask arrived exported.1 := collect_touch (fun n u => (exportStep_touch ..).mono rfl) atStepped
  have atServed : Touch stepWorkMask arrived served.1 := atExported.trans ((memStep_touch ..).mono rfl)
  have atContended : Touch stepWorkMask arrived contended.1 := collect_touch (fun n u => (contention_touch ..).mono rfl) atServed
  have atMoved : Touch stepWorkMask arrived moved.1 := collect_touch (fun n u => (netStep_touch ..).mono rfl) atContended
  have atTraced : Touch stepWorkMask arrived traced :=
    ((atMoved.trans ((traceStep_touch ..).mono rfl)).trans ((pinSample_touch ..).mono rfl)).trans ((sourcesEntries_touch ..).mono rfl)
  have atRaised : Touch stepWorkMask arrived raised :=
    (atTraced.trans ((sendStep_touch ..).mono rfl)).trans ((raiseFaults_touch ..).mono rfl)
  exact Touch.forEach (fun n u => (crossFail_touch ..).mono rfl) atRaised

/-- STEP comes at the next step clock, and PART_STATE shows the step (R37, R62). -/
theorem partStep_shows {p n : Nat} {s : State} (bad : List Nat) (ready : canStep p s = true) (next : nextStep p s = (n, false))
    (fits : n < 4096) : (partStep p bad s).scc = nextScc p s ∧ (partStep p bad s).gf F.PART_STATE_STEP p = n ∧
      (partStep p bad s).gf F.PART_STATE_IN_GAP p = 0 := by
  unfold partStep
  rw [next, ready]
  extract_lets st checked
  rw [if_neg (by simp)]
  have clock : checked.scc = nextScc p s := ((hallCheck_touch ..).scc rfl).trans (advanceTo_scc (scc_le_nextScc p s))
  have begun : ∀ counted, (beginStep p st counted checked).scc = nextScc p s := fun _ => ((beginStep_touch ..).scc rfl).trans clock
  split
  · obtain ⟨step, gap, -⟩ := beginStep_place p st true checked fits
    have place := arrivals_samePlace (n, false) (.refl p (beginStep p st true checked))
    have arrive := arrivals_touch p (n, false) (beginStep p st true checked)
    have work := activeStep_work p n bad (beginStep p st true checked)
    exact ⟨(work.scc rfl).trans ((arrive.scc rfl).trans (begun true)), (work.gf _ p rfl).trans (place.step.trans step),
      (work.gf _ p rfl).trans (place.inGap.trans gap)⟩
  · obtain ⟨step, gap, -⟩ := beginStep_place p st false checked fits
    have place := decideMailboxes_samePlace st (.refl p (beginStep p st false checked))
    exact ⟨((decideMailboxes_touch ..).scc rfl).trans (begun false), place.step.trans step, place.inGap.trans gap⟩

/-- A gap step shows in PART_STATE; after gap 11 the partition waits for tempo or is HALTED, outside a rewind (R64). -/
theorem gapRun_shows {p g : Nat} {s : State} (live : (s.part p).rewinding = false) (fits : g < 4096) :
    (gapRun p g s).gf F.PART_STATE_STEP p = g ∧ (gapRun p g s).gf F.PART_STATE_IN_GAP p = 1 ∧
      (g = 11 → (gapRun p g s).flag F.PART_STATE_WAITING p = true ∨ (gapRun p g s).pst p = stHalted) := by
  obtain ⟨step, gap, mark⟩ := beginStep_place p (g, true) true s fits
  unfold gapRun
  extract_lets arrived done delivered old segs contended moved sent raised
  have atArrived : SamePlace p (beginStep p (g, true) true s) arrived := arrivals_samePlace (g, true) (.refl p _)
  have atDelivered : SamePlace p (beginStep p (g, true) true s) delivered :=
    (gapDuties_samePlace g arrived atArrived).forEach fun n u => (SamePlace.refl p u).touch (deliverRet_touch ..)
  have atMoved : SamePlace p (beginStep p (g, true) true s) moved.1 :=
    (atDelivered.touch (contention_touch ..)).touch (netStep_touch ..)
  have atSent : SamePlace p (beginStep p (g, true) true s) sent := (atMoved.touch (sourcesEntries_touch ..)).touch (sendStep_touch ..)
  have atRaised : SamePlace p (beginStep p (g, true) true s) raised := raiseFaults_samePlace _ true g atSent
  obtain ⟨atEnd, stops⟩ := gapEnd_outcome p raised
  have place : SamePlace p (beginStep p (g, true) true s) (if g = 11 then gapEnd p raised else raised) :=
    (atRaised.trans atEnd).ite atRaised
  rw [place.step, place.inGap, step, gap]
  refine ⟨rfl, rfl, fun last => ?_⟩
  rw [if_pos last]
  exact stops (atRaised.rewinding.trans (mark.trans live))

/-- GAP_STEP comes at the next step clock (R64). -/
theorem gapStep_shows {p g : Nat} {s : State} (ready : canStep p s = true) (next : nextStep p s = (g, true))
    (live : (s.part p).rewinding = false) (fits : g < 4096) :
    (gapStep p s).scc = nextScc p s ∧ (gapStep p s).gf F.PART_STATE_STEP p = g ∧ (gapStep p s).gf F.PART_STATE_IN_GAP p = 1 ∧
      (g = 11 → (gapStep p s).flag F.PART_STATE_WAITING p = true ∨ (gapStep p s).pst p = stHalted) := by
  have taken : gapStep p s = gapRun p g (advanceTo (nextScc p s) s) := by simp [gapStep, next, ready]
  rw [taken]
  exact ⟨((gapRun_touch ..).scc rfl).trans (advanceTo_scc (scc_le_nextScc p s)),
    gapRun_shows ((advanceTo_samePlace _ p s).rewinding.trans live) fits⟩

end

end Machine
end Sys2Proof

namespace Sys2Proof
namespace Machine

/-! ### What comes with the next step -/

/-- An event that comes with a counted step has its effect at that step's clock, for that step's count. -/
theorem withNextStep_taken {p : Nat} {s : State} (f : Nat → State → State) (ready : canStep p s = true)
    (counted : (nextStep p s).2 = true ∨ (nextStep p s).1 < s.dImg p) :
    withNextStep p f s = f ((s.part p).count + 1) (advanceTo (nextScc p s) s) := by
  simp [withNextStep, ready, counted]

/-- A request that is due applies its action: HALT_AT_BELL sets STOP_PEND, FREEZE_NOW raises a freeze (R163, R175). -/
def faultAct (p : Nat) (q : FaultReq) (s : State) : State :=
  match q.action with
  | 0 => s.sf F.PART_STATE_STOP_PEND p 1
  | 1 => raiseLead p 9 0 s
  | _ => s

theorem faultArrive_eq (p c : Nat) (s : State) : faultArrive p c s = forEach ((s.part p).travel.filter fun q => decide (q.due ≤ c))
    (faultAct p) (s.modPart p fun r => { r with travel := r.travel.filter fun q => !decide (q.due ≤ c) }) := rfl

theorem faultAct_part (p i : Nat) (q : FaultReq) (s : State) : (faultAct p q s).part i = s.part i := by
  unfold faultAct
  split
  · rfl
  · exact (raiseLead_touch ..).partRec i rfl
  · rfl

theorem faultAct_stops {p : Nat} {q : FaultReq} {s : State} (h : q.action = 0 ∨ s.flag F.PART_STATE_STOP_PEND p = true) :
    (faultAct p q s).flag F.PART_STATE_STOP_PEND p = true := by
  unfold faultAct
  split
  next => exact State.flag_sf_one s p (by decide) rfl
  next action => rw [(raiseLead_touch ..).flag _ _ rfl]; exact h.resolve_left (by omega)
  next action _ => exact h.resolve_left action

theorem faultActs_part (p i : Nat) (l : List FaultReq) (s : State) : (forEach l (faultAct p) s).part i = s.part i := by
  unfold forEach
  induction l generalizing s with
  | nil => rfl
  | cons q l ih => exact (ih _).trans (faultAct_part p i q s)

theorem faultActs_stop {p : Nat} {l : List FaultReq} {s : State}
    (h : (∃ q ∈ l, q.action = 0) ∨ s.flag F.PART_STATE_STOP_PEND p = true) :
    (forEach l (faultAct p) s).flag F.PART_STATE_STOP_PEND p = true := by
  unfold forEach
  induction l generalizing s with
  | nil => simpa using h
  | cons q l ih =>
    refine ih ?_
    rcases h with ⟨r, mem, halts⟩ | pend
    · rcases List.mem_cons.mp mem with rfl | later
      · exact .inr (faultAct_stops (.inl halts))
      · exact .inl ⟨r, later, halts⟩
    · exact .inr (faultAct_stops (.inr pend))

/-- FAULT_REQUEST_ARRIVAL takes what is due off the way, and a HALT_AT_BELL sets STOP_PEND (R163). -/
theorem faultRequestArrival_takes {p : Nat} {s : State} (ready : canStep p s = true)
    (counted : (nextStep p s).2 = true ∨ (nextStep p s).1 < s.dImg p) :
    (∀ q ∈ ((faultRequestArrival p s).part p).travel, (s.part p).count + 1 < q.due) ∧
      ((∃ q ∈ (s.part p).travel, q.due ≤ (s.part p).count + 1 ∧ q.action = 0) →
        (faultRequestArrival p s).flag F.PART_STATE_STOP_PEND p = true) := by
  unfold faultRequestArrival
  rw [withNextStep_taken _ ready counted, faultArrive_eq, faultActs_part, State.modPart, State.part_setPart]
  constructor
  · intro q hq
    simpa using (List.mem_filter.mp hq).2
  · rintro ⟨q, travels, due, halts⟩
    refine faultActs_stop (.inl ⟨q, ?_, halts⟩)
    rw [(advanceTo_touch ..).partRec p rfl]
    exact List.mem_filter.mpr ⟨travels, by simpa using due⟩

/-- The mask of the network's part of the state, where presented sources stand. -/
def netMask : Nat := 0x100000000000000000000000000000000000000000000000000000000000000000000000000000000000000000000000000000

/-- The mask of the freeze controllers' part of the state, where FROZEN partitions count step clocks. -/
def frzMask : Nat := 0x400000000000000000000000000000000000000000000000000000000000000000000000000000000000000000000000000000

/-- A presentation puts its bits on their sources (R245). -/
def presentBits (e : StwPres) (s : State) : State :=
  { s with net := { s.net with src := e.bits.foldl (fun m b => Store.set .x b.1 b.2 m) s.net.src } }

/-- BINDING_PRESENT takes what is due out of the queue of presentations (R245). -/
theorem bindingPresent_queue (p c : Nat) (s : State) :
    (bindingPresent p c s).stw.pres = s.stw.pres.filter fun e => !(e.p == p && decide (e.due ≤ c)) := by
  unfold bindingPresent
  extract_lets due window taken
  split
  · rfl
  · have presented : Touch netMask taken (forEach due presentBits taken) :=
      Touch.forEach (fun e t => TouchMk.intro (Touch.refl _ t)) (Touch.refl _ taken)
    exact congrArg (·.pres) (presented.stw rfl)

/-- Step clocks that pass leave the queue of presentations. -/
theorem advanceTo_queue (n : Nat) (s : State) : (advanceTo n s).stw.pres = s.stw.pres := by
  unfold advanceTo
  split
  · rfl
  extract_lets d counted f t window based
  have kept : counted.stw = s.stw :=
    (Touch.forUpTo (fun p u => ((State.setFz_touch ..).mono rfl).ite (Touch.refl frzMask u)) (Touch.refl _ s)).stw rfl
  have atBased : based.stw.pres = s.stw.pres := by
    unfold based
    split <;> simp [window, kept]
  exact (congrArg (·.pres) ((toutAt_touch ..).stw rfl)).trans atBased

/-- BINDING_PRESENT as an event comes at the next step clock and takes what is due for that step (R245). -/
theorem bindingEvent_takes {p : Nat} {s : State} (ready : canStep p s = true)
    (counted : (nextStep p s).2 = true ∨ (nextStep p s).1 < s.dImg p) :
    (bindingEvent p s).scc = nextScc p s ∧
      ∀ e ∈ (bindingEvent p s).stw.pres, e ∈ s.stw.pres ∧ ¬(e.p = p ∧ e.due ≤ (s.part p).count + 1) := by
  unfold bindingEvent
  rw [withNextStep_taken _ ready counted, bindingPresent_queue, advanceTo_queue]
  refine ⟨((bindingPresent_touch ..).scc rfl).trans (advanceTo_scc (scc_le_nextScc p s)), fun e he => ?_⟩
  obtain ⟨waits, later⟩ := List.mem_filter.mp he
  exact ⟨waits, by simpa [imp_iff_not_or] using later⟩

end Machine
end Sys2Proof

namespace Sys2Proof
namespace Machine

/-! ### The freeze point -/

/-- The messages of the chain leave the controllers as they are. -/
theorem sendChains_fz (l : List Nat) (kind idx aux p : Nat) (s : State) :
    (forEach l (fun i t => sendChain i kind idx aux t) s).fz p = s.fz p := by
  unfold forEach
  induction l generalizing s with
  | nil => rfl
  | cons i l ih => exact ih (sendChain i kind idx aux s)

/-- The chain's reports leave the freeze point of the partition alone (R126). -/
theorem chainReport_f (p : Nat) (s : State) : ((chainReport p s).fz p).f = (s.fz p).f := by
  unfold chainReport
  split
  · rfl
  extract_lets z own down fmax frozenAll clearAll mine reported d told skewed
  have atReported : (reported.fz p).f = (s.fz p).f := by
    unfold reported
    split
    · next u up =>
      extract_lets frozen sent
      have atFrozen : (frozen.fz p).f = (s.fz p).f := by
        unfold frozen
        split
        · rw [State.fz_setFz]
        · rfl
      split
      · rw [State.fz_setFz]; exact atFrozen
      · exact atFrozen
    · rfl
  split
  · rw [State.fz_setFz]
    exact (congrArg FrzPart.f (sendChains_fz down 3 fmax d p reported)).trans atReported
  · exact atReported

/-- What entering FROZEN changes once the state and its count are written, the chain's report aside. -/
def frozenSideMask : Nat := 0x800aa000000000000000000000000000000060000000000000c00000000000000000000000000000008a0000000004000000000000

/-- What entering FROZEN changes once the state and the freeze count are written. -/
def frozenTailMask : Nat := 0x800ae000000000000000000000000000000060000000000000c00000000000000000000000000000008a000000013c000000000000

/-- A partition that enters FROZEN shows it, counts it and has no freeze point left (R114, R130). -/
theorem enterFrozen_shows (p : Nat) (s : State) : (enterFrozen p s).pst p = stFrozen ∧ (enterFrozen p s).scc = s.scc ∧
    ((enterFrozen p s).fz p).f = none ∧
      (enterFrozen p s).gf F.PART_FREEZE_CNT_COUNT p = (s.gf F.PART_FREEZE_CNT_COUNT p + 1) % 2 ^ 32 := by
  unfold enterFrozen
  extract_lets z moved frozen counted caused
  split
  extract_lets placed dated here unscheduled written
  have named : Touch frozenTailMask counted dated :=
    (((((Touch.refl _ counted).sf rfl).sf rfl).sflag rfl).sf rfl |>.sf rfl).sf rfl
  have side : Touch frozenSideMask unscheduled (freezePacket p 0x10 (frzStatus p written)) :=
    ((writeMissed_touch ..).mono rfl).trans <| ((partEvent_touch ..).mono rfl).trans <|
      ((frzStatus_touch ..).mono rfl).trans ((freezePacket_touch ..).mono rfl)
  have tail : Touch frozenTailMask counted (chainReport p (freezePacket p 0x10 (frzStatus p written))) :=
    named.trans <| ((State.setFz_touch ..).mono rfl).trans <| (side.mono rfl).trans ((chainReport_touch ..).mono rfl)
  have start : moved.gf F.PART_FREEZE_CNT_COUNT p = s.gf F.PART_FREEZE_CNT_COUNT p := (toFreezeStep_touch p s).gf _ p rfl
  refine ⟨?state, ?clock, ?point, ?count⟩
  case state =>
    unfold State.pst
    rw [tail.gf _ p rfl]
    simp (disch := decide) only [counted, frozen, State.bumpWrap, State.gf_sf_apart, State.gf_sf_same]
    rfl
  case clock => exact (tail.scc rfl).trans ((toFreezeStep_touch p s).scc rfl)
  case point =>
    rw [chainReport_f, side.freezeRec p rfl, State.fz_setFz]
  case count =>
    rw [tail.gf _ p rfl]
    simp (disch := decide) only [counted, frozen, State.bumpWrap, State.gf_sf_apart, State.gf_sf_same, start]
    rfl

/-- FREEZE_POINT of a RUNNING partition comes at its freeze point (R114). -/
theorem freezePoint_freezes {p f : Nat} {s : State} (scheduled : (s.fz p).f = some f) (ahead : s.scc ≤ f)
    (running : s.pst p = stRunning) : (freezePoint p s).pst p = stFrozen ∧ (freezePoint p s).scc = f ∧
      ((freezePoint p s).fz p).f = none ∧
      (freezePoint p s).gf F.PART_FREEZE_CNT_COUNT p = (s.gf F.PART_FREEZE_CNT_COUNT p + 1) % 2 ^ 32 := by
  have taken : freezePoint p s = enterFrozen p (advanceTo f s) := by simp [freezePoint, scheduled, running]
  obtain ⟨state, clock, point, count⟩ := enterFrozen_shows p (advanceTo f s)
  rw [taken]
  refine ⟨state, clock.trans (advanceTo_scc ahead), point, ?_⟩
  rw [count, (advanceTo_touch f s).gf _ p rfl]

/-! ### The resume point -/

/-- What the return to RUNNING changes beside PART_STATE and the length of the freeze. -/
def resumeSideMask : Nat := 0x8008800000000000000000000000000000006000000000000000000000000000000000000000000000000000000004000000000000

/-- A partition that leaves FROZEN is RUNNING, waits as it did, and has neither a resume point nor a chain delay left (R115, R126). -/
structure Resumed (p : Nat) (s t : State) : Prop where
  pst : t.pst p = stRunning
  scc : t.scc = s.scc
  r : (t.fz p).r = none
  chDelay : (t.fz p).chDelay = none
  waiting : t.flag F.PART_STATE_WAITING p = s.flag F.PART_STATE_WAITING p
  stopPend : t.flag F.PART_STATE_STOP_PEND p = s.flag F.PART_STATE_STOP_PEND p

theorem leaveFrozen_resumed (p : Nat) (s : State) : Resumed p s (leaveFrozen p s) := by
  unfold leaveFrozen
  extract_lets z clean measured running cleared
  have side : Touch resumeSideMask cleared (frzStatus p (freezePacket p 0x11 cleared)) :=
    ((freezePacket_touch ..).mono rfl).trans ((frzStatus_touch ..).mono rfl)
  have controller := (side.freezeRec p rfl).trans (State.fz_setFz running p _)
  constructor
  case pst =>
    unfold State.pst
    rw [side.gf _ p rfl]
    exact State.gf_sf_same measured p _ (by decide)
  case scc => exact side.scc rfl
  case r => exact congrArg FrzPart.r controller
  case chDelay => exact congrArg FrzPart.chDelay controller
  case waiting =>
    rw [side.flag _ p rfl]
    exact (State.flag_sf_apart measured (by decide) (by decide) ..).trans (State.flag_sf_apart s (by decide) (by decide) ..)
  case stopPend =>
    rw [side.flag _ p rfl]
    exact (State.flag_sf_apart measured (by decide) (by decide) ..).trans (State.flag_sf_apart s (by decide) (by decide) ..)

/-- What a halt changes once the freeze point is dropped. -/
def haltRestMask : Nat := 0x22000000000000000000000000000000000000000000000c00000000000000000000000000000000000000000040000000c1000

/-- Of the freeze controllers' record a halt drops the freeze point alone (R64, R114). -/
theorem haltEnter_fz (p : Nat) (s : State) : (haltEnter p s).fz p = { s.fz p with f := none } := by
  unfold haltEnter
  extract_lets halted dropped z unscheduled
  have rest : Touch haltRestMask (dropped.setFz p { z with f := none }) (partEvent p 0 (pendingUpd p (discardDebt p unscheduled))) :=
    ((frzStatus_touch ..).mono rfl).trans <| ((discardDebt_touch ..).mono rfl).trans <|
      ((pendingUpd_touch ..).mono rfl).trans ((partEvent_touch ..).mono rfl)
  exact (rest.freezeRec p rfl).trans (State.fz_setFz dropped p _)

/-- After a resume the partition is RUNNING, or HALTED where it waits at a bell boundary with a halt pending. -/
theorem afterResume_shows {p : Nat} {s t : State} (h : Resumed p s t) : (afterResume p t).scc = s.scc ∧
    ((afterResume p t).fz p).r = none ∧ ((afterResume p t).fz p).chDelay = none ∧ ((afterResume p t).pst p =
      if s.flag F.PART_STATE_WAITING p && s.flag F.PART_STATE_STOP_PEND p then stHalted else stRunning) := by
  obtain ⟨pst, scc, r, chDelay, waiting, stopPend⟩ := h
  unfold afterResume
  rw [pst, waiting, stopPend]
  by_cases halts : s.flag F.PART_STATE_WAITING p = true ∧ s.flag F.PART_STATE_STOP_PEND p = true
  · rw [if_pos ⟨rfl, halts⟩, if_pos (by simpa using halts), haltEnter_fz]
    exact ⟨((haltEnter_touch p t).scc rfl).trans scc, r, chDelay, haltEnter_pst p t⟩
  · rw [if_neg fun both => halts both.2, if_neg (by simpa using halts)]
    exact ⟨scc, r, chDelay, pst⟩

/-- What a FROZEN partition resumes to, its resume or delay having come at SCC `n` (R115, R126). -/
theorem resumes_at {p n : Nat} {s t : State} (taken : t = afterResume p (leaveFrozen p (advanceTo n s))) (ahead : s.scc ≤ n) :
    t.scc = n ∧ (t.fz p).r = none ∧ (t.fz p).chDelay = none ∧ (t.pst p =
      if s.flag F.PART_STATE_WAITING p && s.flag F.PART_STATE_STOP_PEND p then stHalted else stRunning) := by
  have resumed := afterResume_shows (leaveFrozen_resumed p (advanceTo n s))
  rw [(advanceTo_touch n s).flag _ p rfl, (advanceTo_touch n s).flag _ p rfl, advanceTo_scc ahead] at resumed
  rwa [taken]

/-- RESUME_POINT of a FROZEN partition comes at its resume point (R115). -/
theorem resumePointEvent_resumes {p r : Nat} {s : State} (scheduled : (s.fz p).r = some r) (ahead : s.scc ≤ r)
    (frozen : s.pst p = stFrozen) : (resumePointEvent p s).scc = r ∧ ((resumePointEvent p s).fz p).r = none ∧
      ((resumePointEvent p s).pst p =
        if s.flag F.PART_STATE_WAITING p && s.flag F.PART_STATE_STOP_PEND p then stHalted else stRunning) := by
  obtain ⟨clock, point, -, state⟩ := resumes_at (p := p) (t := resumePointEvent p s)
    (by simp [resumePointEvent, resumePoint, scheduled, frozen]) ahead
  exact ⟨clock, point, state⟩

/-- CHAIN_RESUME_DELAY_EXPIRY of a FROZEN partition comes when its delay has run out (R126). -/
theorem chainResumeEvent_resumes {p r x : Nat} {s : State} (scheduled : (s.fz p).chDelay = some (r, x)) (ahead : s.scc ≤ r)
    (frozen : s.pst p = stFrozen) : (chainResumeEvent p s).scc = r ∧ ((chainResumeEvent p s).fz p).chDelay = none ∧
      ((chainResumeEvent p s).pst p =
        if s.flag F.PART_STATE_WAITING p && s.flag F.PART_STATE_STOP_PEND p then stHalted else stRunning) := by
  obtain ⟨clock, -, delay, state⟩ := resumes_at (p := p) (t := chainResumeEvent p s)
    (by simp [chainResumeEvent, chainResumeExpiry, scheduled, frozen]) ahead
  exact ⟨clock, delay, state⟩

end Machine
end Sys2Proof

namespace Sys2Proof
namespace Machine

/-! ### The end of a drain -/

theorem bitAt_mod_two_pow {k w : Nat} (v : Nat) (h : k < w) : bitAt (v % 2 ^ w) k = bitAt v k := by
  have even : 2 ∣ 2 ^ (w - k) := dvd_pow_self 2 (by omega)
  have split : 2 ^ w = 2 ^ k * 2 ^ (w - k) := by rw [← Nat.pow_add, Nat.add_sub_cancel' h.le]
  unfold bitAt
  rw [split, Nat.mod_mul_right_div_self, Nat.mod_mod_of_dvd _ even]

/-- The bit of one snapshot slot in VALID. -/
theorem State.snapBit_eq {k : Nat} (p : Nat) (s : State) (h : k < 16) :
    bitAt (s.gf F.TRC_SNAP_STAT_VALID p) k = s.gf ⟨.TRC_SNAP_STAT, k, 1⟩ p := by
  unfold State.gf Fld.of
  simpa [F.TRC_SNAP_STAT_VALID, bitAt] using bitAt_mod_two_pow (s.reg .TRC_SNAP_STAT p).toNat h

/-- The slot's bit lies beside the fields of TRC_SNAP_STAT above VALID. -/
theorem snapBit_apart {f : Fld} {k : Nat} (h : k < 16) (above : 16 ≤ f.lo) : Fld.apart f ⟨.TRC_SNAP_STAT, k, 1⟩ = true := by
  simp [Fld.apart]
  omega

/-- NEWEST and ACTIVE of the journals are all that `snapStatus` writes. -/
theorem snapStatus_keeps {f : Fld} (p : Nat) (s : State) (newest : Fld.apart F.TRC_SNAP_STAT_NEWEST f = true)
    (active : Fld.apart F.TRC_JRN_STAT_ACTIVE f = true) : (snapStatus p s).gf f p = s.gf f p :=
  (State.gf_sflag_apart _ active (by decide) ..).trans (State.gf_sf_apart _ newest (by decide) ..)

/-- DRAIN_DONE of a drain that the journals did not overrun makes its slot VALID (R211). -/
theorem drainDone_valid {p : Nat} {s : State} (drains : s.flag F.TRC_SNAP_STAT_DRAINING p = true) (alive : (s.trec p).drainDead = false)
    (idle : s.flag F.PART_STATE_CAPTURE_PEND p = false) : (drainDone p s).flag F.TRC_SNAP_STAT_DRAINING p = false ∧
      bitAt ((drainDone p s).gf F.TRC_SNAP_STAT_VALID p) (s.gf F.TRC_SNAP_STAT_DSLOT p) = 1 := by
  have fits : s.gf F.TRC_SNAP_STAT_DSLOT p < 16 := Nat.mod_lt _ (by decide)
  unfold drainDone
  rw [if_neg (by simp [drains])]
  extract_lets k stored ended
  have atStored : stored = (drainBytes p k s).sf ⟨.TRC_SNAP_STAT, k, 1⟩ p 1 := if_neg (by simp [alive])
  have pend : ended.flag F.PART_STATE_CAPTURE_PEND p = false := by
    rw [(snapStatus_touch ..).flag _ p rfl, State.flag_sf_apart _ (by decide) (by decide), atStored, State.flag_sf_apart _ rfl (by
      show k + 1 ≤ 32; omega), (drainBytes_touch ..).flag _ p rfl, idle]
  rw [if_neg (by simp [pend]), State.snapBit_eq p ended fits]
  constructor
  · unfold State.flag
    rw [snapStatus_keeps p _ (by decide) (by decide), State.gf_sf_same _ p _ (by decide)]
    rfl
  · rw [snapStatus_keeps p _ (snapBit_apart fits (by decide)) (by rfl), State.gf_sf_apart _ (snapBit_apart fits (by decide)) (by decide),
      atStored]
    exact State.gf_sf_same _ p 1 (show k + 1 ≤ 32 by omega)

end Machine
end Sys2Proof

namespace Sys2Proof
namespace Machine

/-! ### What keeps a partition's triggers and its rewind -/

/-- From `s` to `t` partition `p` keeps the triggers on their way and the rewind it is in. -/
structure SameTrace (p : Nat) (s t : State) : Prop where
  trig : (t.trec p).trig = (s.trec p).trig
  rewind : (t.trec p).rewind = (s.trec p).rewind

namespace SameTrace

variable {p : Nat} {s x t : State}

theorem refl (p : Nat) (s : State) : SameTrace p s s := ⟨rfl, rfl⟩

theorem trans (h : SameTrace p s x) (k : SameTrace p x t) : SameTrace p s t := ⟨k.trig.trans h.trig, k.rewind.trans h.rewind⟩

/-- An operation that leaves the trace records as they are. -/
theorem parts (k : SameTrace p s x) (h : t.trc.parts = x.trc.parts := by rfl) : SameTrace p s t :=
  have record : t.trec p = x.trec p := by unfold State.trec; rw [h]
  k.trans ⟨by rw [record], by rw [record]⟩

theorem touch {w : Nat} (h : Touch w x t) (k : SameTrace p s x) (a : w.testBit 411 = false := by rfl) : SameTrace p s t :=
  k.parts (congrArg (·.parts) (h.trc a))

/-- A new record, of any partition, with the old triggers and the old rewind. -/
theorem modTrec {q : Nat} {f : TrcRec → TrcRec} (k : SameTrace p s x) (a : ∀ r, (f r).trig = r.trig := by exact fun _ => rfl)
    (b : ∀ r, (f r).rewind = r.rewind := by exact fun _ => rfl) : SameTrace p s (x.modTrec q f) := by
  refine k.trans ?_
  by_cases own : p = q
  · subst own
    exact ⟨by rw [State.trec_modTrec, a], by rw [State.trec_modTrec, b]⟩
  · have other : (x.modTrec q f).trec p = x.trec p := Store.get_set_ne _ _ _ _ own
    exact ⟨by rw [other], by rw [other]⟩

theorem ite {c : Prop} [Decidable c] {a b : State} (h : SameTrace p s a) (k : SameTrace p s b) :
    SameTrace p s (if c then a else b) := by
  split <;> assumption

theorem foldl {α : Type} {l : List α} {f : State → α → State} (h : ∀ u a, SameTrace p u (f u a)) (k : SameTrace p s x) :
    SameTrace p s (l.foldl f x) := by
  induction l generalizing x with
  | nil => exact k
  | cons a l ih => exact ih (k.trans (h x a))

theorem forEach {α : Type} {l : List α} {f : α → State → State} (h : ∀ a u, SameTrace p u (f a u)) (k : SameTrace p s x) :
    SameTrace p s (Machine.forEach l f x) := foldl (fun u a => h a u) k

theorem forUpTo {n : Nat} {f : Nat → State → State} (h : ∀ a u, SameTrace p u (f a u)) (k : SameTrace p s x) :
    SameTrace p s (Machine.forUpTo n f x) := foldl (fun u a => h a u) k

/-- A write of registers alone. -/
theorem setReg {r : Reg} {i : Nat} {v : Word} (k : SameTrace p s x) : SameTrace p s (x.setReg r i v) := k.trans ⟨rfl, rfl⟩
theorem sf {f : Fld} {i v : Nat} (k : SameTrace p s x) : SameTrace p s (x.sf f i v) := k.trans ⟨rfl, rfl⟩
theorem sflag {f : Fld} {i : Nat} {v : Bool} (k : SameTrace p s x) : SameTrace p s (x.sflag f i v) := k.trans ⟨rfl, rfl⟩
theorem bump {f : Fld} {i v : Nat} (k : SameTrace p s x) : SameTrace p s (x.bump f i v) := k.trans ⟨rfl, rfl⟩

end SameTrace

section

variable {p : Nat} {s x : State}

/-! The funnel -/

theorem funBytes_sameTrace (b : List Nat) (k : SameTrace p s x) : SameTrace p s (funBytes b x) := by
  unfold funBytes
  extract_lets l n lined window
  have atLined : SameTrace p s lined := k.forUpTo fun i u => (SameTrace.refl p u).touch (funLine_touch ..)
  exact atLined.parts

theorem funSync_sameTrace (k : SameTrace p s x) : SameTrace p s (funSync x) := (funBytes_sameTrace _ k).ite k

theorem funRecord_sameTrace (src : Nat) (b : List Nat) (k : SameTrace p s x) : SameTrace p s (funRecord src b x) :=
  have atSync : SameTrace p s (funSync x) := funSync_sameTrace k
  (funBytes_sameTrace _ (funSync_sameTrace (funBytes_sameTrace _ atSync))).ite (funBytes_sameTrace _ atSync)

theorem funnelPut_sameTrace (src : Nat) (b : List Nat) (k : SameTrace p s x) : SameTrace p s (funnelPut src b x) := by
  unfold funnelPut
  extract_lets full lost counted dropped window told window' noted
  have atCounted : SameTrace p s counted := k.parts
  have atNoted : SameTrace p s noted := atCounted.ite (funRecord_sameTrace _ _ atCounted).parts
  exact k.ite (atCounted.parts.ite (funRecord_sameTrace _ _ atNoted))

/-! The trace -/

theorem ringFlush_sameTrace (q : Nat) (k : SameTrace p s x) : SameTrace p s (ringFlush q x) := by
  unfold ringFlush
  extract_lets l n written moved
  have atMoved : SameTrace p s moved := (k.touch (State.wbs_touch ..)).modTrec
  exact k.ite (((atMoved.sf.sf.touch (partEvent_touch ..)).ite atMoved.sf.sf).ite atMoved.sf)

theorem toSink_sameTrace (q : Nat) (b : List Nat) (k : SameTrace p s x) : SameTrace p s (toSink q b x) :=
  (funnelPut_sameTrace _ b k).ite (ringFlush_sameTrace q k.modTrec)

theorem emit_sameTrace (q b : Nat) (bytes : List Nat) (k : SameTrace p s x) : SameTrace p s (emit q b bytes x) := by
  unfold emit
  extract_lets held r counted window buffered told placed caughtUp
  have atBuffered : SameTrace p s buffered := k.parts
  have atCaughtUp : SameTrace p s caughtUp := atBuffered.ite (toSink_sameTrace _ _ (toSink_sameTrace _ _ atBuffered)).modTrec
  refine k.ite (SameTrace.ite ?_ (toSink_sameTrace _ _ atCaughtUp))
  exact k.bump.modTrec (fun r => by split <;> rfl) (fun r => by split <;> rfl)

theorem tracePostEnd_sameTrace (q : Nat) (last : Bool) (k : SameTrace p s x) : SameTrace p s (tracePostEnd q last x) := by
  have stopped : ∀ bell, SameTrace p s (traceStop q bell x) := fun bell => by
    unfold traceStop
    extract_lets sent
    have atSent : SameTrace p s sent := k.ite (emit_sameTrace _ _ _ k)
    exact atSent.sf.touch (partEvent_touch ..)
  exact k.ite ((stopped _).ite k)

theorem traceFire_sameTrace (q src idx : Nat) (st : Nat × Bool) (bell : Nat) (k : SameTrace p s x) :
    SameTrace p s (traceFire q src idx st bell x) := by
  unfold traceFire
  refine k.ite (k.ite ?_)
  extract_lets fired named dated marked post emitted cap captured pulsed
  have atMarked : SameTrace p s marked := k.sf.sf.sf.sf.sf.sflag.modTrec
  have atEmitted : SameTrace p s emitted := emit_sameTrace _ _ _ atMarked
  have atCaptured : SameTrace p s captured := (atEmitted.sf.touch (State.modPart_touch ..)).ite atEmitted
  have atPulsed : SameTrace p s pulsed := (atCaptured.touch (pulseCti_touch ..)).ite atCaptured
  exact tracePostEnd_sameTrace _ _ atPulsed

/-! ### Design triggers -/

/-- What a trigger that fires changes once TRC_TRG_STAT names it. -/
def firedSideMask : Nat := 0x801aa000000000000000000000000000000060000000000000c000000000000000000000c020000000000000000000000000000400

/-- A design trigger fires a running trace, and TRC_TRG_STAT names it (R224). -/
theorem traceFire_names {idx : Nat} {st : Nat × Bool} {bell : Nat} (running : x.trst p = trcRunning) :
    (traceFire p 0 idx st bell x).flag F.TRC_TRG_STAT_FIRED p = true ∧
      (traceFire p 0 idx st bell x).gf F.TRC_TRG_STAT_IDX p = idx % 2 ^ 4 := by
  unfold traceFire
  rw [if_neg (by simp [running]), if_neg (by simp)]
  extract_lets fired named dated marked post emitted cap captured pulsed
  have atCaptured : Touch firedSideMask marked captured :=
    have atEmitted := (emit_touch ..).mono rfl
    (Touch.trans (atEmitted.sf rfl) ((State.modPart_touch ..).mono rfl)).ite atEmitted
  have side : Touch firedSideMask dated (tracePostEnd p (pastTimetable p pulsed) pulsed) :=
    ((State.modTrec_touch ..).mono rfl).trans <|
      ((atCaptured.trans ((pulseCti_touch ..).mono rfl)).ite atCaptured).trans ((tracePostEnd_touch ..).mono rfl)
  rw [side.flag _ p rfl, side.gf _ p rfl]
  simp (disch := decide) only [dated, named, fired, State.flag_sflag_apart, State.gf_sflag_apart, State.flag_sf_apart, State.gf_sf_apart,
    State.flag_sf_one, State.gf_sf_same, true_and]
  rfl

/-- DESIGN_TRIGGER fires a running trace with the first trigger on its way, if it is due at the next step (R224). -/
theorem designTriggerEvent_fires {due idx at_ bell : Nat} {l : List (Nat × Nat × Nat × Nat)} (ready : canStep p s = true)
    (counted : (nextStep p s).2 = true ∨ (nextStep p s).1 < s.dImg p) (first : (s.trec p).trig = (due, idx, at_, bell) :: l)
    (comes : due ≤ (s.part p).count + 1) (running : s.trst p = trcRunning) :
    ((designTriggerEvent p s).trec p).trig = l ∧ (designTriggerEvent p s).flag F.TRC_TRG_STAT_FIRED p = true ∧
      (designTriggerEvent p s).gf F.TRC_TRG_STAT_IDX p = idx % 2 ^ 4 := by
  have clock := advanceTo_touch (nextScc p s) s
  have taken : designTriggerEvent p s = traceFire p 0 idx (at_, false) bell
      ((advanceTo (nextScc p s) s).modTrec p fun z => { z with trig := l }) := by
    unfold designTriggerEvent designTrigger
    rw [withNextStep_taken _ ready counted, clock.traceRec p rfl, first]
    exact if_neg (by omega)
  rw [taken]
  refine ⟨?_, traceFire_names ((clock.gf _ p rfl).trans running)⟩
  rw [(traceFire_sameTrace _ _ _ _ _ (.refl p _)).trig, State.trec_modTrec]

end

end Machine
end Sys2Proof

namespace Sys2Proof
namespace Machine

section

variable {p : Nat} {s x : State}

/-! ### The journals -/

theorem dropAllSnaps_sameTrace (q : Nat) (k : SameTrace p s x) : SameTrace p s (dropAllSnaps q x) := by
  unfold dropAllSnaps
  extract_lets dropped
  have atDropped : SameTrace p s dropped := k.forEach fun j u => (SameTrace.refl p u).touch (dropSnap_touch ..)
  exact atDropped.modTrec.touch (snapStatus_touch ..)

theorem journalPut_sameTrace (q b kind : Nat) (bytes : List Nat) (k : SameTrace p s x) : SameTrace p s (journalPut q b kind bytes x) := by
  unfold journalPut
  extract_lets held lost window buffered r pos need kept stored
  have atBuffered : SameTrace p s buffered := k.parts
  have atKept : SameTrace p s kept := by
    unfold kept
    split
    · exact (atBuffered.bump.touch (dropSnap_touch ..)).ite atBuffered
    · exact atBuffered
  have atStored : SameTrace p s stored := atKept.ite (atKept.touch (State.wbs_touch ..))
  exact k.ite ((dropAllSnaps_sameTrace q k.bump).ite
    (atStored.modTrec (fun r => by split <;> rfl) (fun r => by split <;> rfl)))

theorem undoEntry_sameTrace (q a be : Nat) (design : Bool) (st : Nat × Bool) (k : SameTrace p s x) :
    SameTrace p s (undoEntry q a be design st x) := by
  unfold undoEntry
  extract_lets kind bytes b put
  have atPut : SameTrace p s put := journalPut_sameTrace q b 0 bytes k
  exact k.ite (k.ite (atPut.modTrec.ite atPut))

theorem hostwrEntry_sameTrace (q a be wkind : Nat) (data : List Nat) (st : Nat × Bool) (k : SameTrace p s x) :
    SameTrace p s (hostwrEntry q a be wkind data st x) := k.ite (journalPut_sameTrace _ _ _ _ k)

theorem hostStore_sameTrace (a be wkind : Nat) (jdata data : List Nat) (k : SameTrace p s x) :
    SameTrace p s (hostStore a be wkind jdata data x) := by
  unfold hostStore
  extract_lets m slot region ua journalled stored
  have atJournalled : SameTrace p s journalled := by
    unfold journalled
    split
    · exact k
    · exact hostwrEntry_sameTrace _ _ _ _ _ _ (undoEntry_sameTrace _ _ _ _ _ k)
  have atStored : SameTrace p s stored :=
    atJournalled.forUpTo fun i u => ((SameTrace.refl p u).touch (putByte_touch ..)).ite (.refl p u)
  exact (atStored.touch (hbmReCheck_touch ..)).ite atStored

/-! ### Windows that a slot swap ends -/

theorem stwEmit_sameTrace (bytes : List Nat) (k : SameTrace p s x) : SameTrace p s (stwEmit bytes x) := by
  unfold stwEmit
  extract_lets sink full counted n e base stored
  have atCounted : SameTrace p s counted := k.parts
  have atStored : SameTrace p s stored := atCounted.touch (State.wbs_touch ..)
  exact k.ite (atCounted.bump.ite ((funnelPut_sameTrace _ _ atCounted).ite (atCounted.ite (atStored.sf.sf.ite atStored.sf))))

theorem stwRecord_sameTrace (i : Nat) (bytes : List Nat) (k : SameTrace p s x) : SameTrace p s (stwRecord i bytes x) := by
  unfold stwRecord
  extract_lets hide shown
  have atShown : SameTrace p s shown := k.forUpTo fun w u => (SameTrace.refl p u).setReg
  exact atShown.ite (stwEmit_sameTrace _ atShown)

theorem closeBind_sameTrace (q n : Nat) (b : Bind) (aborted : Bool) (k : SameTrace p s x) : SameTrace p s (closeBind q n b aborted x) := by
  unfold closeBind
  extract_lets t shut tag w v window closed recorded told i pair
  split
  · have atClosed : SameTrace p s closed := k.parts
    have atRecorded : SameTrace p s recorded := atClosed.ite (stwEmit_sameTrace _ atClosed)
    exact k.ite (atRecorded.ite atRecorded.parts)
  · split
    · exact k
    · extract_lets inside measured bounded frozen flags written
      have atWritten : SameTrace p s written := stwRecord_sameTrace _ _ k
      exact atWritten.ite atWritten.parts

theorem bindAbort_sameTrace (q : Nat) (k : SameTrace p s x) : SameTrace p s (bindAbort q x) := by
  unfold bindAbort
  extract_lets l closed ended
  have atClosed : SameTrace p s closed := k.forEach fun e u => closeBind_sameTrace _ _ _ _ (.refl p u)
  have atEnded : SameTrace p s ended := atClosed.forEach fun i u => (SameTrace.refl p u).touch (endBound_touch ..)
  exact atEnded.parts

/-! ### Settings and inputs of a replay -/

theorem swapSlot_sameTrace (q slot : Nat) (k : SameTrace p s x) : SameTrace p s (swapSlot q slot x) := by
  unfold swapSlot
  extract_lets aborted swapped marked sampled
  have atMarked : SameTrace p s marked := (bindAbort_sameTrace q k).sf.sf.modTrec
  have atSampled : SameTrace p s sampled := atMarked.forEach fun i u => (SameTrace.refl p u).parts
  exact ((atSampled.touch (armStages_touch ..)).touch (bindClear_touch ..)).touch (mbxUnknown_touch ..)

theorem settingsReplay_sameTrace (q : Nat) (e : List Nat) (k : SameTrace p s x) : SameTrace p s (settingsReplay q e x) := by
  unfold settingsReplay applySettings
  extract_lets dual slot swap dImg old inForce shown stored swapped
  have atStored : SameTrace p s stored := k.sf.sf.sf.sf.setReg.setReg
  have atSwapped : SameTrace p s swapped := (swapSlot_sameTrace q slot atStored).ite atStored
  exact (atSwapped.touch (discardDebt_touch ..)).ite atSwapped

theorem replayKind_sameTrace (q pos : Nat) (e : List Nat) (late : Bool) (k : SameTrace p s x) :
    SameTrace p s (replayKind q pos e late (settingsReplay q) x) := by
  unfold replayKind
  split
  · exact k
  · exact (k.touch (replaySources_touch ..)).modTrec
  · exact (hostStore_sameTrace _ _ _ _ _ k).modTrec
  · exact (settingsReplay_sameTrace q e k).modTrec.ite k

theorem replayInputs_sameTrace (q : Nat) (st : Nat × Bool) (late : Bool) (k : SameTrace p s x) :
    SameTrace p s (replayInputs q st late (settingsReplay q) x) :=
  SameTrace.foldl (fun u _ => (SameTrace.refl p u).ite (replayKind_sameTrace _ _ _ late (.refl p u))) k

/-! ### The end of a rewind -/

/-- The restore puts the partition in the snapshot's bell (R219). -/
theorem rewindRestore_bell (p k : Nat) (s : State) : ((rewindRestore p k s).part p).bell = ((s.trec p).snap k).bell := by
  unfold rewindRestore
  extract_lets z unwound slotted settings flown restored shown
  have atShown : SamePlace p restored shown := discardDebt_samePlace (SamePlace.refl p restored).sf
  have dropped := atShown.forEach (f := fun j t => dropSnap p j t)
    (l := (validSlots p shown).filter fun j => decide (z.order < ((shown.trec p).snap j).order))
    fun j u => (SamePlace.refl p u).touch (dropSnap_touch ..)
  exact dropped.bell.trans (congrArg PartRec.bell (State.part_setPart flown p _))

/-- What a replay of the inputs of one step may change. -/
def replayMask : Nat := 0x806ab800000000000000000000000000000060000000000020000000000000006000c00030000000000080000000000000000ca400

/-- REWIND_DONE of a snapshot taken at a bell boundary leaves the partition in replay at the snapshot's bell (R219). -/
theorem rewindDone_boundary {p k : Nat} {s : State} (rewinds : (s.trec p).rewind = some k)
    (boundary : ((s.trec p).snap k).boundary = true) :
    ((rewindDone p s).trec p).rewind = none ∧ (rewindDone p s).flag F.TRC_REPLAY_STAT_ACTIVE p = true ∧
      (rewindDone p s).flag F.TRC_REPLAY_STAT_RESTORING p = false ∧ (rewindDone p s).gf F.PART_CMD_STATUS_CMD p = 8 ∧
      (rewindDone p s).gf F.PART_CMD_STATUS_STATUS p = 0 ∧ ((rewindDone p s).part p).bell = ((s.trec p).snap k).bell := by
  unfold rewindDone
  split
  next empty => rw [empty] at rewinds; cases rewinds
  next j under =>
    obtain rfl : j = k := Option.some.inj (under.symm.trans rewinds)
    extract_lets z restored marked active replayed done
    have atReplayed : replayed = replayInputs p (11, true) true (settingsReplay p) (setStep p (11, true) active) := if_pos boundary
    have step := setStep_touch p (11, true) active
    have taken : Touch replayMask active replayed := by
      rw [atReplayed]
      exact (step.mono rfl).trans (replayInputs_touch rfl p (11, true) true _ _ fun e t => (settingsReplay_touch p e t).mono rfl)
    have trace : SameTrace p marked replayed := by
      rw [atReplayed]
      exact replayInputs_sameTrace _ _ _ ((SameTrace.refl p marked).sf.touch step)
    have place : SamePlace p (setStep p (11, true) active) replayed := by
      rw [atReplayed]
      exact replayInputs_samePlace _ _ (.refl p _)
    refine ⟨?rewind, ?active, ?restoring, ?cmd, ?status, ?bell⟩
    case rewind => rw [(trace.sf.sf.sf.touch (pendingUpd_touch ..)).rewind, State.trec_modTrec]
    case active =>
      rw [(pendingUpd_touch ..).flag _ p rfl]
      simp (disch := decide) only [done, State.flag_sf_apart]
      rw [taken.flag _ p rfl]
      exact State.flag_sf_one marked p (by decide) rfl
    case restoring =>
      rw [(pendingUpd_touch ..).flag _ p rfl]
      simp (disch := decide) only [done, State.flag_sf_apart, State.flag_sf_zero]
    case cmd => simp (disch := decide) only [pendingUpd, State.gf_sflag_apart, State.gf_sf_same]; rfl
    case status => simp (disch := decide) only [pendingUpd, State.gf_sflag_apart, State.gf_sf_apart, State.gf_sf_same]; rfl
    case bell => rw [(place.sf.sf.sf.touch (pendingUpd_touch ..)).bell, setStep_part]; exact rewindRestore_bell p j s

end

end Machine
end Sys2Proof

namespace Sys2Proof
namespace Machine

/-! ### The events of a step -/

/-- Settles O9, each clause by the lemma that says what its event does. -/
theorem stepEventsTakeEffect : Obligations.StepEventsTakeEffect := by
  refine ⟨?step, ?gapStep, ?fault, ?freeze, ?resume, ?chainResume, ?drain, ?rewind, ?trigger, ?binding⟩
  case step => exact fun s p bad n ready next fits => ⟨_, rfl, partStep_shows (bad.map (·.val)) ready next fits⟩
  case gapStep => exact fun s p g ready next live fits => ⟨_, rfl, gapStep_shows ready next live (by omega)⟩
  case fault =>
    exact fun s p n gap ready next counted => ⟨_, rfl, faultRequestArrival_takes ready (by rwa [next])⟩
  case freeze =>
    exact fun s p f scheduled ahead running => ⟨_, rfl, freezePoint_freezes scheduled ahead running⟩
  case resume => exact fun s p r scheduled ahead frozen => ⟨_, rfl, resumePointEvent_resumes scheduled ahead frozen⟩
  case chainResume => exact fun s p r x scheduled ahead frozen => ⟨_, rfl, chainResumeEvent_resumes scheduled ahead frozen⟩
  case drain => exact fun s p drains alive idle => ⟨_, rfl, drainDone_valid drains alive idle⟩
  case rewind => exact fun s p k rewinds boundary => ⟨_, rfl, rewindDone_boundary rewinds boundary⟩
  case trigger =>
    exact fun s p due k at_ bell l ready counted first comes running =>
      ⟨_, rfl, designTriggerEvent_fires ready counted first comes running⟩
  case binding => exact fun s p ready counted => ⟨_, rfl, bindingEvent_takes ready counted⟩

end Machine
end Sys2Proof

namespace Sys2Proof
namespace Machine

/-! ## Bytes of memory

What each operation on memory leaves of the other bytes, and what it stores. -/

/-! ### Passes over bytes -/

/-- A pass whose every turn keeps a value keeps it. -/
theorem forUpTo_keeps {α : Type} {g : State → α} {n : Nat} {f : Nat → State → State} (h : ∀ i < n, ∀ t, g (f i t) = g t)
    (s : State) : g (forUpTo n f s) = g s :=
  List.foldlRecOn (motive := fun t => g t = g s) (List.range n) (fun t i => f i t) rfl fun t same i hi =>
    (h i (List.mem_range.mp hi) t).trans same

/-- A pass establishes what turn `p` establishes and the other turns keep. -/
theorem forUpTo_turn {P : State → Prop} {n p : Nat} {f : Nat → State → State} (hp : p < n) (turn : ∀ t, P (f p t))
    (others : ∀ i t, i ≠ p → P t → P (f i t)) (s : State) : P (forUpTo n f s) :=
  have ⟨x, _, later⟩ := forUpTo_split (R := fun s t => P s → P t) (fun _ => id) (fun h k => k ∘ h) others hp s
  later (turn x)

/-! ### Bytes -/

/-- A byte of a memory that the mask leaves out. -/
theorem Touch.rb {w : Nat} {s t : State} (h : Touch w s t) (y : Nat) (e : w.testBit 407 = false) : t.rb y = s.rb y := by
  unfold State.rb
  rw [h.mem e]

@[simp] theorem State.rb_wb_same (s : State) (a : Nat) (v : Byte) : (s.wb a v).rb a = v := MemState.get_put_same s.mem a v

theorem State.rb_wb_ne (s : State) {a y : Nat} (v : Byte) (h : y ≠ a) : (s.wb a v).rb y = s.rb y := MemState.get_put_ne s.mem v h

theorem State.rb_wbs_out (s : State) {a y : Nat} {l : List Nat} (h : y < a ∨ a + l.length ≤ y) : (s.wbs a l).rb y = s.rb y := by
  induction l generalizing s a with
  | nil => rfl
  | cons b l ih =>
    rw [List.length_cons] at h
    exact (ih (s.wb a _) (by omega)).trans (State.rb_wb_ne s _ (by omega))

/-- The X code and the code word of a byte stand apart from the bytes. -/
theorem putByte_rb (a v : Nat) (x : Bool) (s : State) (y : Nat) :
    (putByte a v x s).rb y = (s.wb a (BitVec.ofNat 8 (if x then 0 else v))).rb y := by
  unfold putByte
  extract_lets t m
  cases inBB a <;> rfl

@[simp] theorem putByte_rb_same (a v : Nat) (s : State) : (putByte a v false s).rb a = BitVec.ofNat 8 v := by
  rw [putByte_rb, State.rb_wb_same]
  rfl

theorem putByte_rb_ne {a y : Nat} (v : Nat) (x : Bool) (s : State) (h : y ≠ a) : (putByte a v x s).rb y = s.rb y := by
  rw [putByte_rb, State.rb_wb_ne s _ h]

theorem hbmReCheck_rb_ne {slot y : Nat} (s : State) (h : y ≠ slot + 9) : (hbmReCheck slot s).rb y = s.rb y := State.rb_wb_ne s _ h

/-! ### A block filled afresh -/

theorem MemState.refill_mem (m : MemState) (block code : Nat) :
    (m.refill block code).mem = Store.clear (blockLo block) (blockHi block) m.mem := by
  unfold MemState.refill blockLo blockHi
  by_cases bank : block < 512
  · simp only [bank, if_true]
  · by_cases gran : block < 896 <;> simp only [bank, gran, if_true, if_false]

@[simp] theorem MemState.refill_fill (m : MemState) (block code : Nat) : (m.refill block code).fill = Store.set 0 block code m.fill := rfl

/-- Bytes outside the block stay. -/
theorem MemState.get_refill_out (m : MemState) {block y : Nat} (code : Nat) (h : ¬ (blockLo block ≤ y ∧ y < blockHi block)) :
    (m.refill block code).get y = m.get y := by
  unfold MemState.get
  rw [MemState.refill_mem, MemState.refill_fill, Store.get_clear, if_neg h, memDefault_congr (fillCode_set h)]

/-- Bytes inside the block read as the fill has them. -/
theorem MemState.get_refill_in (m : MemState) {block y : Nat} (code : Nat) (h : blockLo block ≤ y ∧ y < blockHi block) :
    (m.refill block code).get y = memDefault (Store.set 0 block code m.fill) y := by
  unfold MemState.get
  rw [MemState.refill_mem, MemState.refill_fill, Store.get_clear, if_pos h]

/-! ### Banks and granules -/

theorem bankOf_lt {a : Nat} (h : inBB a = true) : bankOf a < 512 := by
  rw [inBB_iff] at h
  unfold bankOf bbBase
  omega

theorem granOf_lt {a : Nat} (h : inHbm a = true) : granOf a < 384 := by
  rw [inHbm_iff] at h
  unfold granOf hbmBase granSize
  omega

/-- The blackboard and HBM share no address. -/
theorem inBB_of_inHbm {a : Nat} (h : inHbm a = true) : inBB a = false := by
  rw [inHbm_iff] at h
  rw [Bool.eq_false_iff, ne_eq, inBB_iff]
  omega

theorem mem_bank_iff {b y : Nat} (h : b < 512) : blockLo b ≤ y ∧ y < blockHi b ↔ inBB y = true ∧ bankOf y = b := by
  rw [inBB_iff]
  unfold blockLo blockHi bankOf bankAddr bbBase
  rw [if_pos h, if_pos h]
  omega

theorem mem_gran_iff {g y : Nat} (h : g < 384) : blockLo (512 + g) ≤ y ∧ y < blockHi (512 + g) ↔ inHbm y = true ∧ granOf y = g := by
  rw [inHbm_iff]
  unfold blockLo blockHi granOf granAddr hbmBase granSize
  have notBank : ¬ 512 + g < 512 := by omega
  have isGran : 512 + g < 896 := by omega
  rw [if_neg notBank, if_neg notBank, if_pos isGran, if_pos isGran]
  omega

/-! ### Zeroising -/

/-- A bank that is not zeroising does not end its zeroising. -/
theorem zeroiseDone_bank_idle {b : Nat} {s : State} (h : b < 512) (idle : s.gf F.BBD_BANK_STATE b ≠ 3) : zeroiseDone b s = s := by
  rw [zeroiseDone, if_pos h, if_neg idle]

theorem zeroiseDone_gran_idle {g : Nat} {s : State} (idle : Store.get false s.mem.granZ g = false) : zeroiseDone (512 + g) s = s := by
  rw [zeroiseDone, if_neg (by omega), Nat.add_sub_cancel_left, idle]
  rfl

/-- An access to a word that no zeroising covers does not wait (R141). -/
theorem waitZero_idle {a : Nat} {s : State} (h : (inBB a = true ∧ s.gf F.BBD_BANK_STATE (bankOf a) ≠ 3) ∨
    (inHbm a = true ∧ Store.get false s.mem.granZ (granOf a) = false)) : waitZero a s = s := by
  unfold waitZero
  rcases h with ⟨board, idle⟩ | ⟨hbm, idle⟩
  · rw [if_pos board, zeroiseDone_bank_idle (bankOf_lt board) idle]
  · rw [inBB_of_inHbm hbm, if_neg Bool.false_ne_true, if_pos hbm, zeroiseDone_gran_idle idle]

/-- The end of a zeroising changes bytes of its own block alone. -/
theorem zeroiseDone_rb_out {blk y : Nat} {s : State} (h : ¬ (blockLo blk ≤ y ∧ y < blockHi blk)) :
    (zeroiseDone blk s).rb y = s.rb y := by
  have out := s.mem.get_refill_out 0 h
  unfold zeroiseDone
  split
  · split
    · extract_lets t
      split <;> exact out
    · rfl
  · split
    · exact out
    · rfl

/-- What an access waits for changes no byte outside a block that is zeroising (R141). -/
theorem waitZero_rb {a y : Nat} {s : State} (h : inZeroising a s y = false) : (waitZero a s).rb y = s.rb y := by
  simp only [inZeroising, Bool.or_eq_false_iff, Bool.and_eq_false_iff, decide_eq_false_iff_not] at h
  obtain ⟨bank, gran⟩ := h
  unfold waitZero
  split
  next board =>
    by_cases busy : s.gf F.BBD_BANK_STATE (bankOf a) = 3
    · refine zeroiseDone_rb_out fun own => ?_
      have same := (mem_bank_iff (bankOf_lt board)).mp own
      simp [board, same, busy] at bank
    · rw [zeroiseDone_bank_idle (bankOf_lt board) busy]
  next =>
    split
    next hbm =>
      cases busy : Store.get false s.mem.granZ (granOf a)
      · rw [zeroiseDone_gran_idle busy]
      · refine zeroiseDone_rb_out fun own => ?_
        have same := (mem_gran_iff (granOf_lt hbm)).mp own
        simp [hbm, same, busy] at gran
    next => rfl

end Machine
end Sys2Proof

namespace Sys2Proof
namespace Machine

/-! ### Journals -/

/-- Where the next entry of a journal stands: the undo journal is kind 0, the input journal kind 1 (R214, R216). -/
def jrnPos (kind : Nat) (r : TrcRec) : Nat := if kind = 0 then r.undoPos else r.inPos

/-- Where a journal entry stands is a fact about the trace areas alone. -/
theorem Touch.jrnAddr {w : Nat} {s t : State} (h : Touch w s t) (p kind n : Nat) (e : w.testBit Reg.TRC_AREA.ctorIdx = false) :
    jrnAddr p kind n t = jrnAddr p kind n s := by
  have stack : ∀ i, t.gf F.TRC_AREA_STACK i = s.gf F.TRC_AREA_STACK i := fun i => h.gf _ i e
  have first : ∀ i, t.gf F.TRC_AREA_FIRST i = s.gf F.TRC_AREA_FIRST i := fun i => h.gf _ i e
  have count : ∀ i, t.gf F.TRC_AREA_COUNT i = s.gf F.TRC_AREA_COUNT i := fun i => h.gf _ i e
  simp only [Machine.jrnAddr, jrnCap, areaBase, areaSize, stack, first, count]

theorem inJournalEntry_eq_false {b y : Nat} : inJournalEntry b y = false ↔ y < b ∨ b + 32 ≤ y := by
  simp only [inJournalEntry, Bool.and_eq_false_iff, decide_eq_false_iff_not]
  omega

/-- The registers and the part that a journal's buffer and its snapshots stand in. -/
def journalMask : Nat := 0x8000000000000000000000000000000000000000000000000000000000000000000003000000000000000000000000000000000

/-- A journal entry changes no byte but those of the next entry. -/
theorem journalPut_rb {p kind y : Nat} (b : Nat) {bytes : List Nat} {s : State} (len : bytes.length = 32)
    (out : inJournalEntry (jrnAddr p kind (jrnPos kind (s.trec p)) s) y = false) : (journalPut p b kind bytes s).rb y = s.rb y := by
  unfold journalPut
  extract_lets held lost window buffered r pos need kept stored
  have atBuffered : Touch journalMask s buffered := TouchMk.intro (Touch.refl _ s)
  have atKept : Touch journalMask s kept := by
    unfold kept
    split
    · exact (atBuffered.bump rfl |>.trans ((dropSnap_touch ..).mono rfl)).ite atBuffered
    · exact atBuffered
  have atStored : stored.rb y = s.rb y := by
    unfold stored
    split
    · exact atKept.rb y rfl
    · rw [State.rb_wbs_out _ (by rwa [len, atKept.jrnAddr p kind pos rfl, ← inJournalEntry_eq_false]), atKept.rb y rfl]
  split
  · rfl
  · split
    · exact Touch.rb (((Touch.refl journalMask s).bump rfl).trans ((dropAllSnaps_touch ..).mono rfl)) y rfl
    · exact atStored

/-- A partition's trace record is a fact about the records alone. -/
theorem trec_of_parts {p : Nat} {s t : State} (h : t.trc.parts = s.trc.parts := by rfl) : t.trec p = s.trec p := by
  unfold State.trec
  rw [h]

theorem State.trec_bump (s : State) (f : Fld) (i n p : Nat) : (s.bump f i n).trec p = s.trec p := rfl

/-- An undo entry leaves where the input journal stands. -/
theorem journalPut_undo_inPos (p b : Nat) (bytes : List Nat) (s : State) :
    ((journalPut p b 0 bytes s).trec p).inPos = (s.trec p).inPos := by
  unfold journalPut
  extract_lets held lost window buffered r pos need kept stored
  have atBuffered : buffered.trec p = s.trec p := trec_of_parts
  have atKept : kept.trec p = s.trec p := by
    unfold kept
    split
    · split
      · exact ((dropSnap_touch ..).traceRec p rfl).trans ((State.trec_bump ..).trans atBuffered)
      · exact atBuffered
    · exact atBuffered
  have atStored : stored.trec p = s.trec p := by
    unfold stored
    split
    · exact atKept
    · exact ((State.wbs_touch ..).traceRec p rfl).trans atKept
  split
  · rfl
  · split
    · unfold dropAllSnaps
      extract_lets dropped
      have drops : Touch _ _ dropped := Touch.forEach (fun k t => dropSnap_touch p k t) (Touch.refl _ _)
      have atDropped : dropped.trec p = s.trec p := (drops.traceRec p rfl).trans (State.trec_bump ..)
      rw [(snapStatus_touch ..).traceRec p rfl, State.trec_modTrec, atDropped]
    · rw [State.trec_modTrec, atStored]
      rfl

theorem undoEntry_rb {p a be y : Nat} {design : Bool} {st : Nat × Bool} {s : State}
    (out : inJournalEntry (jrnAddr p 0 (s.trec p).undoPos s) y = false) : (undoEntry p a be design st s).rb y = s.rb y := by
  unfold undoEntry
  extract_lets kind bytes b put
  have atPut : put.rb y = s.rb y := journalPut_rb b (by simp [bytes, State.rbs, toBytes]) out
  split
  · rfl
  · split
    · rfl
    · split <;> exact atPut

theorem undoEntry_inPos (p a be : Nat) (design : Bool) (st : Nat × Bool) (s : State) :
    ((undoEntry p a be design st s).trec p).inPos = (s.trec p).inPos := by
  unfold undoEntry
  extract_lets kind bytes b put
  have atPut : (put.trec p).inPos = (s.trec p).inPos := journalPut_undo_inPos p b bytes s
  split
  · rfl
  · split
    · rfl
    · split
      · rw [State.trec_modTrec]
        exact atPut
      · exact atPut

theorem hostwrEntry_rb {p a be wkind y : Nat} {data : List Nat} {st : Nat × Bool} {s : State}
    (out : inJournalEntry (jrnAddr p 1 (s.trec p).inPos s) y = false) : (hostwrEntry p a be wkind data st s).rb y = s.rb y := by
  unfold hostwrEntry
  extract_lets b
  split
  · rfl
  · exact journalPut_rb b (by simp [toBytes]) out

/-- The two entries of a store change no byte but those of the next entries of the two journals. -/
theorem storeEntries_rb {p a ua be ube wkind y : Nat} {data : List Nat} {st : Nat × Bool} {s : State}
    (undo : inJournalEntry (jrnAddr p 0 (s.trec p).undoPos s) y = false)
    (input : inJournalEntry (jrnAddr p 1 (s.trec p).inPos s) y = false) :
    (hostwrEntry p a be wkind data st (undoEntry p ua ube false st s)).rb y = s.rb y := by
  have undone : (undoEntry p ua ube false st s).rb y = s.rb y := undoEntry_rb undo
  have later : inJournalEntry (jrnAddr p 1 ((undoEntry p ua ube false st s).trec p).inPos (undoEntry p ua ube false st s)) y = false := by
    rwa [undoEntry_inPos, (undoEntry_touch ..).jrnAddr p 1 _ rfl]
  exact (hostwrEntry_rb later).trans undone

/-! ### Who owns a word -/

/-- Who owns a word is a fact about the banks and the granules alone. -/
theorem Touch.memOwner {w : Nat} {s t : State} (h : Touch w s t) (a : Nat) (e : w.testBit Reg.BBD_BANK.ctorIdx = false)
    (m : w.testBit 407 = false) : memOwner a t = memOwner a s := by
  simp only [Machine.memOwner, bankOwner, granOwner, h.gf F.BBD_BANK_STATE _ e, h.gf F.BBD_BANK_OWNER _ e, h.mem m]

/-- A bank whose zeroising ends had no owner and has none. -/
theorem zeroiseDone_bankOwner (blk b : Nat) (s : State) : bankOwner b (zeroiseDone blk s) = bankOwner b s := by
  have other : ∀ {t : State} {f : Fld} {v : Nat}, b ≠ blk → bankOwner b (t.sf f blk v) = bankOwner b t := fun d => by
    simp only [bankOwner, State.gf_sf_inst _ _ d]
  unfold zeroiseDone
  split
  · split
    next busy =>
      extract_lets t
      have none : bankOwner blk s = 0 := by simp [bankOwner, busy]
      by_cases own : b = blk
      · subst own
        rw [none]
        split <;> simp (disch := decide) [bankOwner, State.gf_sf_apart, State.gf_sf_fit]
      · split
        · rw [other own, other own]
          rfl
        · rw [other own]
          rfl
    next => rfl
  · split <;> rfl

theorem zeroiseDone_granOwn (blk : Nat) (s : State) : (zeroiseDone blk s).mem.granOwn = s.mem.granOwn := by
  unfold zeroiseDone
  split
  · split
    · extract_lets t
      split <;> rfl
    · rfl
  · split <;> rfl

theorem zeroiseDone_memOwner (blk a : Nat) (s : State) : memOwner a (zeroiseDone blk s) = memOwner a s := by
  simp only [memOwner, granOwner, zeroiseDone_bankOwner, zeroiseDone_granOwn]

theorem waitZero_memOwner (a b : Nat) (s : State) : memOwner b (waitZero a s) = memOwner b s := by
  unfold waitZero
  split
  · exact zeroiseDone_memOwner _ _ s
  · split
    · exact zeroiseDone_memOwner _ _ s
    · rfl

end Machine
end Sys2Proof

namespace Sys2Proof
namespace Machine

/-! ## What an access to design memory leaves alone (O51) -/

/-- The byte `y` is none that an access to the word at `x` stores once nothing of it is zeroising: not of the word, not the check byte
of its HBM slot, not of the next entries of its owner's journals. -/
structure OutsideAccess (x : Nat) (s : State) (y : Nat) : Prop where
  word : y < x ∨ x + 8 ≤ y
  check : inHbm x = true → y ≠ x / 16 * 16 + 9
  undo : ∀ q, memOwner x s = q + 1 → inJournalEntry (jrnAddr q 0 (s.trec q).undoPos s) y = false
  input : ∀ q, memOwner x s = q + 1 → inJournalEntry (jrnAddr q 1 (s.trec q).inPos s) y = false

theorem outsideAccess_of_designStored {x y : Nat} {s : State} (h : designStored x s y = false) :
    OutsideAccess x s y ∧ inZeroising x s y = false := by
  simp only [designStored, Bool.or_eq_false_iff, Bool.and_eq_false_iff, decide_eq_false_iff_not] at h
  obtain ⟨⟨⟨word, check⟩, zero⟩, journals⟩ := h
  have entries : ∀ q, memOwner x s = q + 1 → inJournalEntry (jrnAddr q 0 (s.trec q).undoPos s) y = false ∧
      inJournalEntry (jrnAddr q 1 (s.trec q).inPos s) y = false := fun q owner => by simpa [owner] using journals
  refine ⟨⟨by omega, fun hbm => ?_, fun q owner => (entries q owner).1, fun q owner => (entries q owner).2⟩, zero⟩
  exact check.resolve_left (by simp [hbm])

/-- Where an access stores is a fact about the owner of its word, the journals' positions and the trace areas. -/
theorem OutsideAccess.touch {w x y : Nat} {s t : State} (h : OutsideAccess x s y) (k : Touch w s t) (owner : memOwner x t = memOwner x s)
    (trc : w.testBit 411 = false := by rfl) (areas : w.testBit Reg.TRC_AREA.ctorIdx = false := by rfl) : OutsideAccess x t y where
  word := h.word
  check := h.check
  undo q own := by
    rw [k.jrnAddr q 0 _ areas, k.traceRec q trc]
    exact h.undo q (owner ▸ own)
  input q own := by
    rw [k.jrnAddr q 1 _ areas, k.traceRec q trc]
    exact h.input q (owner ▸ own)

theorem State.rb_bump (s : State) (f : Fld) (i n y : Nat) : (s.bump f i n).rb y = s.rb y := rfl

/-- The queue of write-backs stands apart from the bytes. -/
theorem State.rb_withWriteback (s : State) (q : Store Nat) (y : Nat) :
    ({ s with mem := { s.mem with wb := q } } : State).rb y = s.rb y := rfl

theorem bbReadCount_rb (a part : Nat) (design : Bool) (s : State) (y : Nat) : (bbReadCount a part design s).rb y = s.rb y := by
  unfold bbReadCount
  extract_lets errs ce counted memory queued
  have atQueued : queued.rb y = s.rb y := by
    have atCounted : counted.rb y = s.rb y := State.rb_bump ..
    unfold queued
    split
    · exact (State.rb_withWriteback ..).trans atCounted
    · exact atCounted
  refine (forUpTo_keeps (g := fun t => t.rb y) (fun i _ t => ?_) queued).trans atQueued
  split
  · exact (bbUncorrectable_touch ..).rb y rfl
  · rfl

/-- A store of a requester other than the design (R144, R149, R215, R216). -/
theorem hostStore_rb_out {a be wkind y : Nat} {jdata data : List Nat} {s : State} (out : OutsideAccess a s y) :
    (hostStore a be wkind jdata data s).rb y = s.rb y := by
  unfold hostStore
  extract_lets m slot region ua journalled stored
  have atJournalled : journalled.rb y = s.rb y := by
    unfold journalled
    split
    · rfl
    next q owner => exact storeEntries_rb (out.undo q owner) (out.input q owner)
  have atStored : stored.rb y = s.rb y := by
    have word := out.word
    refine (forUpTo_keeps (g := fun t => t.rb y) (fun i hi t => ?_) journalled).trans atJournalled
    split
    · exact putByte_rb_ne _ _ t (by omega)
    · rfl
  split
  next slots =>
    have hbm : inHbm a = true := (Bool.and_eq_true_iff.mp slots).1
    exact (hbmReCheck_rb_ne stored (out.check hbm)).trans atStored
  next => exact atStored

/-- A byte outside an access is outside it still once the access has waited, and is as it was (R141). -/
theorem OutsideAccess.waited {x y : Nat} {s : State} (h : OutsideAccess x s y) (zero : inZeroising x s y = false) :
    OutsideAccess x (waitZero x s) y ∧ (waitZero x s).rb y = s.rb y :=
  ⟨h.touch (waitZero_touch ..) (waitZero_memOwner x x s), waitZero_rb zero⟩

section

variable {rq : Requester} {a be data y : Nat} {s : State} (out : OutsideAccess a s y) (zero : inZeroising a s y = false)
include out zero

theorem hostRead_rb_out : (hostRead rq a s).rb y = s.rb y := by
  obtain ⟨-, waits⟩ := out.waited zero
  unfold hostRead
  split
  · exact (denyAddr_touch ..).rb y rfl
  · extract_lets waited bad v counted
    have atCounted : counted.rb y = s.rb y := by
      unfold counted
      split
      · exact (bbReadCount_rb ..).trans waits
      · exact ((hbmReadCount_touch ..).rb y rfl).trans waits
    split
    · exact ((badData_touch _).rb y rfl).trans atCounted
    · exact ((okResp_touch ..).rb y rfl).trans atCounted

theorem hostWrite_rb_out : (hostWrite rq a be data s).rb y = s.rb y := by
  obtain ⟨outside, waits⟩ := out.waited zero
  unfold hostWrite
  split
  · exact (denyAddr_touch ..).rb y rfl
  · extract_lets waited memory cleared
    have atCleared : OutsideAccess a cleared y ∧ cleared.rb y = s.rb y := by
      unfold cleared
      split
      · exact ⟨⟨outside.word, outside.check, outside.undo, outside.input⟩, waits⟩
      · exact ⟨outside, waits⟩
    exact ((okResp_touch ..).rb y rfl).trans ((hostStore_rb_out atCleared.1).trans atCleared.2)

end

theorem aliasWrite_rb_out {rq : Requester} {set : Bool} {o be data y : Nat} {s : State}
    (out : OutsideAccess (bbBase + o % 0x10000000 / 8 * 8) s y) (zero : inZeroising (bbBase + o % 0x10000000 / 8 * 8) s y = false) :
    (aliasWrite rq set o be data s).rb y = s.rb y := by
  obtain ⟨outside, waits⟩ := out.waited zero
  unfold aliasWrite
  extract_lets a waited bad ok m new stored
  split
  · exact (denyAddr_touch ..).rb y rfl
  · have atStored : stored.rb y = s.rb y := (hostStore_rb_out outside).trans waits
    split
    · exact ((badData_touch _).rb y rfl).trans atStored
    · exact ((okResp_touch ..).rb y rfl).trans atStored

/-- Waking the device moves nothing of what an access may store. -/
theorem OutsideAccess.woken {x y : Nat} {s : State} (h : OutsideAccess x s y) (rq : Requester) : OutsideAccess x (wakeAccess rq s) y :=
  h.touch (wakeAccess_touch rq s) ((wakeAccess_touch rq s).memOwner x rfl rfl)

theorem inZeroising_woken (x : Nat) (rq : Requester) (s : State) (y : Nat) : inZeroising x (wakeAccess rq s) y = inZeroising x s y := by
  have wake := wakeAccess_touch rq s
  simp only [inZeroising, wake.gf F.BBD_BANK_STATE _ rfl, wake.mem rfl]

theorem designMemoryAccess_rb_out {rq : Requester} {write : Bool} {a be data y : Nat} {s : State}
    (h : designStored (a / 8 * 8) s y = false) : (designMemoryAccess rq write a be data s).rb y = s.rb y := by
  obtain ⟨out, zero⟩ := outsideAccess_of_designStored h
  have zero := (inZeroising_woken _ rq s y).trans zero
  have wakes : (wakeAccess rq s).rb y = s.rb y := (wakeAccess_touch rq s).rb y rfl
  unfold designMemoryAccess
  extract_lets x
  split
  · split
    · exact (hostWrite_rb_out (out.woken rq) zero).trans wakes
    · exact (hostRead_rb_out (out.woken rq) zero).trans wakes
  · rfl

theorem aliasWrite_woken_rb_out {rq : Requester} {set : Bool} {o : BitVec 28} {be data y : Nat} {s : State}
    (h : designStored (bbBase + o.toNat / 8 * 8) s y = false) : (aliasWrite rq set o.toNat be data (wakeAccess rq s)).rb y = s.rb y := by
  have offset : o.toNat % 0x10000000 = o.toNat := Nat.mod_eq_of_lt o.isLt
  obtain ⟨out, zero⟩ := outsideAccess_of_designStored h
  have zero := (inZeroising_woken _ rq s y).trans zero
  refine (aliasWrite_rb_out ?_ ?_).trans ((wakeAccess_touch rq s).rb y rfl)
  · rw [offset]
    exact out.woken rq
  · rw [offset]
    exact zero

/-- Settles O51, each clause by the frame of its access. -/
theorem designMemoryAccessesChangeOnlyTheirBytes : Obligations.DesignMemoryAccessesChangeOnlyTheirBytes := by
  refine ⟨?access, ?set, ?clear⟩
  case access =>
    rintro s rq write a be data _ y rfl outside
    exact ⟨_, rfl, designMemoryAccess_rb_out outside⟩
  case set =>
    rintro s rq o be data _ y rfl outside
    exact ⟨_, rfl, aliasWrite_woken_rb_out outside⟩
  case clear =>
    rintro s rq o be data _ y rfl outside
    exact ⟨_, rfl, aliasWrite_woken_rb_out outside⟩

end Machine
end Sys2Proof

namespace Sys2Proof
namespace Machine

/-! ## What an access to design memory does (O23) -/

/-! ### Bits and bytes -/

theorem bitAt_mod {v n k : Nat} (h : k < n) : bitAt (v % 2 ^ n) k = bitAt v k := by
  unfold bitAt
  rw [← Nat.toNat_testBit, ← Nat.toNat_testBit, Nat.testBit_mod_two_pow, decide_eq_true h, Bool.true_and]

/-- A sum of bits at their places, below `2 ^ n`, shows each. -/
theorem bitAt_bitSum (f : Nat → Bool) (n : Nat) : (List.range n).foldl (fun m i => m + b2n (f i) * 2 ^ i) 0 < 2 ^ n ∧
    ∀ i < n, bitAt ((List.range n).foldl (fun m i => m + b2n (f i) * 2 ^ i) 0) i = b2n (f i) := by
  induction n with
  | zero => exact ⟨Nat.one_pos, fun i hi => absurd hi (Nat.not_lt_zero i)⟩
  | succ n ih =>
    obtain ⟨below, bits⟩ := ih
    rw [List.range_succ, List.foldl_append, List.foldl_cons, List.foldl_nil]
    generalize (List.range n).foldl (fun m i => m + b2n (f i) * 2 ^ i) 0 = m at below bits
    have bit : b2n (f n) < 2 := by cases f n <;> decide
    refine ⟨?_, fun i hi => ?_⟩
    · have top : b2n (f n) * 2 ^ n ≤ 1 * 2 ^ n := Nat.mul_le_mul_right _ (by omega)
      rw [Nat.pow_succ]
      omega
    · rcases Nat.lt_succ_iff_lt_or_eq.mp hi with lower | rfl
      · rw [← bitAt_mod lower, Nat.add_mul_mod_self_right, Nat.mod_eq_of_lt below, bits i lower]
      · rw [bitAt, Nat.add_mul_div_right _ _ (Nat.two_pow_pos i), Nat.div_eq_of_lt below, Nat.zero_add, Nat.mod_eq_of_lt bit]

theorem bitAt_mask8 (f : Nat → Bool) {i : Nat} (h : i < 8) : bitAt (mask8 f) i = b2n (f i) := (bitAt_bitSum f 8).2 i h

theorem toBytes_getD {n i : Nat} (v : Nat) (h : i < n) : (toBytes n v).getD i 0 = v / 256 ^ i % 256 := by
  simp [toBytes, List.getD_eq_getElem?_getD, h]

theorem byte_ofNat_mod (n : Nat) : BitVec.ofNat 8 (n % 256) = BitVec.ofNat 8 n := BitVec.eq_of_toNat_eq (by simp)

/-! ### What waking leaves -/

section

variable (rq : Requester) (s : State)

theorem memOwner_woken (a : Nat) : memOwner a (wakeAccess rq s) = memOwner a s := (wakeAccess_touch rq s).memOwner a rfl rfl

theorem isActiveProctor_woken (r : Requester) : isActiveProctor r (wakeAccess rq s) = isActiveProctor r s := by
  unfold isActiveProctor State.proctorActive
  simp only [(wakeAccess_touch rq s).gf F.PRC_PROC_STAT_STATE _ rfl]

theorem inRepair_woken (a : Nat) : inRepair a (wakeAccess rq s) = inRepair a s := by
  have wake := wakeAccess_touch rq s
  simp only [inRepair, wake.flag F.PRC_REPAIR_EN _ rfl, wake.gf F.PRC_REPAIR_STACK _ rfl, wake.gf F.PRC_REPAIR_FIRST _ rfl,
    wake.gf F.PRC_REPAIR_COUNT _ rfl]

theorem hostWriteBarred_woken (a : Nat) : hostWriteBarred a (wakeAccess rq s) = hostWriteBarred a s := by
  have wake := wakeAccess_touch rq s
  have state : ∀ q, (wakeAccess rq s).pst q = s.pst q := fun q => wake.gf F.PART_STATE_STATE q rfl
  unfold hostWriteBarred
  rw [memOwner_woken]
  split
  · rfl
  · simp only [State.live, state, wake.flag F.BBD_PART_HOSTWR _ rfl, wake.flag F.TRC_REPLAY_STAT_ACTIVE _ rfl]

end

/-! ### Reads -/

/-- A read that is admitted, waits for nothing and finds no uncorrectable byte answers the bytes that stand there (R139, R148). -/
theorem hostRead_answers {rq : Requester} {a : Nat} {s : State} (idle : waitZero a s = s) (own : spareGran a = false)
    (admitted : inRepair a s = false ∨ isActiveProctor rq s = true) (good : ∀ i ∈ List.range 8, s.mem.err (a + i) < 2) :
    (hostRead rq a s).resp = { data := fromBytes (s.rbs a 8) } := by
  have clean : ((List.range 8).any fun i => decide (s.mem.err (a + i) ≥ 2)) = false := by simpa using good
  have open_ : (spareGran a || (inRepair a s && !isActiveProctor rq s)) = false := by
    rcases admitted with h | h <;> simp [own, h]
  unfold hostRead
  dsimp only
  rw [open_, if_neg Bool.false_ne_true, idle, clean, if_neg Bool.false_ne_true]
  rfl

/-- The word that an access names, in the state that the access wakes. -/
theorem designMemoryAccess_word {rq : Requester} {write : Bool} {a be data : Nat} {s : State}
    (h : inBB (a / 8 * 8) = true ∨ inHbm (a / 8 * 8) = true) : designMemoryAccess rq write a be data s =
      if write then hostWrite rq (a / 8 * 8) be data (wakeAccess rq s) else hostRead rq (a / 8 * 8) (wakeAccess rq s) := by
  have word : (inBB (a / 8 * 8) || inHbm (a / 8 * 8)) = true := by simpa using h
  unfold designMemoryAccess
  rw [if_pos word]

theorem designMemoryAccess_reads {rq : Requester} {a be data : Nat} {s : State}
    (idle : (inBB (a / 8 * 8) = true ∧ s.gf F.BBD_BANK_STATE (bankOf (a / 8 * 8)) ≠ 3) ∨
      (inHbm (a / 8 * 8) = true ∧ Store.get false s.mem.granZ (granOf (a / 8 * 8)) = false))
    (own : spareGran (a / 8 * 8) = false) (admitted : inRepair (a / 8 * 8) s = false ∨ isActiveProctor rq s = true)
    (good : ∀ i ∈ List.range 8, s.mem.err (a / 8 * 8 + i) < 2) :
    (designMemoryAccess rq false a be data s).resp = { data := fromBytes (s.rbs (a / 8 * 8) 8) } := by
  have wake := wakeAccess_touch rq s
  have bytes : s.rbs (a / 8 * 8) 8 = (wakeAccess rq s).rbs (a / 8 * 8) 8 := by simp only [State.rbs, wake.rb _ rfl]
  rw [designMemoryAccess_word (idle.imp And.left And.left), if_neg Bool.false_ne_true, bytes]
  refine hostRead_answers (waitZero_idle ?_) own ?_ ?_
  · rwa [wake.gf F.BBD_BANK_STATE _ rfl, wake.mem rfl]
  · rwa [inRepair_woken, isActiveProctor_woken]
  · rwa [wake.mem rfl]

/-! ### Writes -/

/-- A store of a requester other than the design leaves its enabled bytes (R144, R149). -/
theorem hostStore_rb_in {a be wkind i : Nat} {jdata data : List Nat} {s : State} (hi : i < 8) (enabled : bitAt (writeMask a be s) i = 1)
    (apart : inHbm a = true → memOwner a s ≠ 0 → a + i ≠ a / 16 * 16 + 9) :
    (hostStore a be wkind jdata data s).rb (a + i) = BitVec.ofNat 8 (data.getD i 0) := by
  unfold hostStore
  extract_lets m slot region ua journalled stored
  have atStored : stored.rb (a + i) = BitVec.ofNat 8 (data.getD i 0) := by
    refine forUpTo_turn (P := fun t => t.rb (a + i) = BitVec.ofNat 8 (data.getD i 0)) hi (fun t => ?_) (fun j t other stays => ?_) _
    · rw [if_pos enabled, putByte_rb_same, byte_ofNat_mod]
    · split
      · rwa [putByte_rb_ne _ _ t (by omega)]
      · exact stays
  split
  next slots =>
    obtain ⟨hbm, owned⟩ := Bool.and_eq_true_iff.mp slots
    rw [hbmReCheck_rb_ne stored (apart hbm (of_decide_eq_true owned)), atStored]
  next => exact atStored

/-- Only the upper half of a design slot has bytes that a write does not store (R144). -/
theorem bitAt_writeMask {a be i : Nat} {s : State} (hi : i < 8) (enabled : bitAt be i = 1)
    (stored : i = 0 ∨ ¬ (inHbm a = true ∧ memOwner a s ≠ 0 ∧ a % 16 = 8)) : bitAt (writeMask a be s) i = 1 := by
  unfold writeMask
  split
  next upper =>
    obtain rfl := stored.resolve_right (not_not_intro upper)
    rw [show be % 2 = be % 2 ^ 1 from rfl, bitAt_mod Nat.one_pos, enabled]
  next => rw [show be % 256 = be % 2 ^ 8 from rfl, bitAt_mod hi, enabled]

/-- A write that nothing bars stores its enabled bytes (R149). -/
theorem hostWrite_stores {rq : Requester} {a be data i : Nat} {s : State} (hi : i < 8) (own : spareGran a = false)
    (admitted : inRepair a s = false ∨ isActiveProctor rq s = true) (free : hostWriteBarred a s = false) (enabled : bitAt be i = 1)
    (word : 8 ∣ a) (stored : inBB a = true ∨ memOwner a s = 0 ∨ a % 16 = 0 ∨ i = 0) :
    (hostWrite rq a be data s).rb (a + i) = BitVec.ofNat 8 (data / 256 ^ i) ∧ (hostWrite rq a be data s).resp = { data := 0 } := by
  have open_ : (spareGran a || (inRepair a s && !isActiveProctor rq s) || hostWriteBarred a s) = false := by
    rcases admitted with h | h <;> simp [own, h, free]
  have slot : inHbm a = true → memOwner a s ≠ 0 → a % 16 = 0 ∨ i = 0 := fun hbm owned =>
    (stored.resolve_left (by simp [inBB_of_inHbm hbm])).resolve_left owned
  unfold hostWrite
  rw [open_, if_neg Bool.false_ne_true]
  extract_lets waited memory cleared
  have owner : memOwner a cleared = memOwner a s := by
    unfold cleared
    split <;> exact waitZero_memOwner a a s
  refine ⟨?_, rfl⟩
  rw [(okResp_touch ..).rb _ rfl, hostStore_rb_in hi (bitAt_writeMask hi enabled ?_) ?_, toBytes_getD data hi, byte_ofNat_mod]
  · rw [owner]
    by_cases first : i = 0
    · exact .inl first
    · refine .inr fun ⟨hbm, owned, upper⟩ => ?_
      have := slot hbm owned
      omega
  · intro hbm owned
    have := slot hbm (owner ▸ owned)
    omega

theorem designMemoryAccess_writes {rq : Requester} {a be data i : Nat} {s : State} (hi : i < 8)
    (design : inBB (a / 8 * 8) = true ∨ inHbm (a / 8 * 8) = true) (own : spareGran (a / 8 * 8) = false)
    (admitted : inRepair (a / 8 * 8) s = false ∨ isActiveProctor rq s = true) (free : hostWriteBarred (a / 8 * 8) s = false)
    (enabled : bitAt be i = 1) (stored : inBB (a / 8 * 8) = true ∨ memOwner (a / 8 * 8) s = 0 ∨ a / 8 * 8 % 16 = 0 ∨ i = 0) :
    (designMemoryAccess rq true a be data s).rb (a / 8 * 8 + i) = BitVec.ofNat 8 (data / 256 ^ i) ∧
      (designMemoryAccess rq true a be data s).resp = { data := 0 } := by
  rw [designMemoryAccess_word design, if_pos rfl]
  refine hostWrite_stores hi own ?_ ?_ enabled (Nat.dvd_mul_left ..) ?_
  · rwa [inRepair_woken, isActiveProctor_woken]
  · rwa [hostWriteBarred_woken]
  · rwa [memOwner_woken]

/-! ### Aliased writes -/

/-- What a bit-set or a bit-clear write makes of a byte (R150). -/
def aliasByte (set : Bool) (old new : Byte) : Byte := if set then old ||| new else old &&& ~~~ new

theorem aliasBytes_getD {a i : Nat} (set : Bool) (data : Nat) (s : State) (hi : i < 8) :
    BitVec.ofNat 8 ((aliasBytes a (if set then 1 else 2) (toBytes 8 data) s).getD i 0)
      = aliasByte set (if s.mem.isX (a + i) then 0 else s.rb (a + i)) (BitVec.ofNat 8 (data / 256 ^ i)) := by
  have old : (if s.mem.isX (a + i) then 0 else (s.rb (a + i)).toNat) = (if s.mem.isX (a + i) then 0 else s.rb (a + i) : Byte).toNat := by
    split <;> rfl
  have byte : (aliasBytes a (if set then 1 else 2) (toBytes 8 data) s).getD i 0 = if set then
      Nat.lor (if s.mem.isX (a + i) then 0 else s.rb (a + i) : Byte).toNat (data / 256 ^ i % 256)
      else Nat.land (if s.mem.isX (a + i) then 0 else s.rb (a + i) : Byte).toNat (255 - data / 256 ^ i % 256) := by
    rw [← old, ← toBytes_getD data hi]
    cases set <;> simp [aliasBytes, List.getD_eq_getElem?_getD, hi]
  rw [byte]
  generalize (if s.mem.isX (a + i) then 0 else s.rb (a + i) : Byte) = v
  generalize data / 256 ^ i = d
  refine BitVec.eq_of_toNat_eq ?_
  cases set
  case false => simp [aliasByte, Nat.mod_eq_of_lt (show 255 - d % 256 < 256 by omega)]
  case true => simp [aliasByte]

theorem inBB_alias (o : Nat) : inBB (bbBase + o % 0x10000000 / 8 * 8) = true := by
  rw [inBB_iff]
  unfold bbBase
  omega

section

variable {rq : Requester} {set : Bool} {a o be data i : Nat} {s : State} (word : a = bbBase + o % 0x10000000 / 8 * 8) (hi : i < 8)
  (free : hostWriteBarred a s = false) (idle : s.gf F.BBD_BANK_STATE (bankOf a) ≠ 3)
  (good : ∀ j ∈ List.range 8, s.mem.err (a + j) < 2) (enabled : bitAt be i = 1)
include word hi free idle good enabled

/-- A bit-set or bit-clear write that nothing bars merges its enabled bytes (R150). -/
theorem aliasWrite_merges : (aliasWrite rq set o be data s).rb (a + i) =
      aliasByte set (if s.mem.isX (a + i) then 0 else s.rb (a + i)) (BitVec.ofNat 8 (data / 256 ^ i)) ∧
    (aliasWrite rq set o be data s).resp = { data := 0 } := by
  have board : inBB a = true := word ▸ inBB_alias o
  have notHbm : inHbm a = false := Bool.eq_false_iff.mpr fun hbm => by simp [inBB_of_inHbm hbm] at board
  have clean : ((List.range 8).any fun j => bitAt be j = 1 && decide (s.mem.err (a + j) ≥ 2)) = false :=
    List.any_eq_false.mpr fun j hj => by simp [Nat.not_le.mpr (good j hj)]
  have kept : bitAt (mask8 fun j => bitAt be j = 1 && !decide (s.mem.err (a + j) ≥ 2)) i = 1 := by
    rw [bitAt_mask8 _ hi]
    simp [enabled, Nat.not_le.mpr (good i (List.mem_range.mpr hi)), b2n]
  unfold aliasWrite
  rw [← word]
  dsimp only
  rw [free, if_neg Bool.false_ne_true, waitZero_idle (.inl ⟨board, idle⟩), clean, if_neg Bool.false_ne_true]
  refine ⟨?_, rfl⟩
  rw [(okResp_touch ..).rb _ rfl, hostStore_rb_in hi (bitAt_writeMask hi kept (.inr ?_)) ?_, aliasBytes_getD set data s hi]
  · simp [notHbm]
  · simp [notHbm]

/-- The same in the state that the write wakes. -/
theorem aliasWrite_woken_merges : (aliasWrite rq set o be data (wakeAccess rq s)).rb (a + i) =
      aliasByte set (if s.mem.isX (a + i) then 0 else s.rb (a + i)) (BitVec.ofNat 8 (data / 256 ^ i)) ∧
    (aliasWrite rq set o be data (wakeAccess rq s)).resp = { data := 0 } := by
  have wake := wakeAccess_touch rq s
  rw [← wake.mem rfl] at good ⊢
  rw [← wake.rb _ rfl]
  exact aliasWrite_merges word hi (by rwa [hostWriteBarred_woken]) (by rwa [wake.gf F.BBD_BANK_STATE _ rfl]) good enabled

end

end Machine
end Sys2Proof

namespace Sys2Proof
namespace Machine

/-! ### Errors that a write-back corrects -/

theorem MemState.err_clrErr_same (m : MemState) (a : Nat) : (m.clrErr a).err a = 0 := by
  simp [MemState.err, MemState.clrErr, Store.get, Store.find_del_same]

theorem MemState.err_clrErr_ne (m : MemState) {a b : Nat} (h : b ≠ a) : (m.clrErr a).err b = m.err b := by
  simp [MemState.err, MemState.clrErr, Store.get, Store.find_del_ne m.ecc h]

/-- A rewritten word holds no correctable byte (R151). -/
theorem rewriteWord_err {a n i : Nat} (hi : i < n) (s : State) : (rewriteWord a n s).mem.err (a + i) ≠ 1 := by
  unfold rewriteWord
  refine forUpTo_turn (P := fun t => t.mem.err (a + i) ≠ 1) hi (fun t => ?_) (fun j t other stays => ?_) s
  · split
    · simp [MemState.err_clrErr_same]
    next good => exact good
  · split
    · rwa [MemState.err_clrErr_ne t.mem (by omega)]
    · exact stays

/-- The queue of write-backs stands apart from the errors. -/
theorem MemState.err_withWriteback (m : MemState) (q : Store Nat) (a : Nat) : ({ m with wb := q } : MemState).err a = m.err a := rfl

theorem eccWriteback_corrects {b w i : Nat} {s : State} (hi : i < 8) (queued : Store.get 0 s.mem.wb b = w + 1) :
    Store.get 0 (eccWriteback b s).mem.wb b = 0 ∧ (eccWriteback b s).mem.err (bankAddr b + 8 * w + i) ≠ 1 := by
  unfold eccWriteback
  rw [queued]
  dsimp only
  rw [MemState.err_withWriteback]
  exact ⟨Store.get_set_same 0 b 0 _, rewriteWord_err hi s⟩

theorem backgroundScrub_corrects {b w i : Nat} {s : State} (hi : i < 8) (runs : s.gf F.BBD_SCRUB_CFG_PERIOD 0 ≠ 0) :
    (backgroundScrub b w s).mem.err (bankAddr b + 8 * w + i) ≠ 1 := by
  unfold backgroundScrub
  rw [if_neg runs]
  exact rewriteWord_err hi _

/-! ### HBM -/

/-- A counter that was just counted up, saturating. -/
theorem State.gf_bump_same (s : State) {f : Fld} (i n : Nat) (h : f.lo + f.w ≤ 32) :
    (s.bump f i n).gf f i = min (s.gf f i + n) (2 ^ f.w - 1) :=
  State.gf_sf_fit s i h ((min_le_right _ _).trans_lt (Nat.sub_lt (Nat.two_pow_pos _) Nat.one_pos))

theorem State.part_bump (s : State) (f : Fld) (i n p : Nat) : (s.bump f i n).part p = s.part p := rfl

/-- A late item leaves the reads that wait for a channel. -/
theorem raiseLate_hbmPend (p b cause src notice dueBell dueCode : Nat) (s : State) :
    ((raiseLate p b cause src notice dueBell dueCode s).part p).hbmPend = (s.part p).hbmPend := by
  unfold raiseLate
  extract_lets fpt absent noticed raised missed cs locA r recorded
  have atRaised : raised.part p = s.part p := (raiseFreeze_touch ..).partRec p rfl
  split
  · exact congrArg PartRec.hbmPend ((raiseFreeze_touch ..).partRec p rfl)
  split
  · exact congrArg PartRec.hbmPend atRaised
  · unfold sendFaultReq
    extract_lets q
    have record : r = s.part p := (State.part_bump ..).trans atRaised
    have kept : q.hbmPend = r.hbmPend := by
      unfold q recorded
      rw [State.part_setPart]
    rw [State.part_setPart, kept, record]

/-- A read that is placed on its channel leaves the list, and a late one is counted (R146, R147). -/
theorem hbmSchedule_places {p stack chan : Nat} {late : Bool} {e : Nat × Nat × Nat × Nat × Nat} {s : State}
    (first : (s.part p).hbmPend.find? (fun e => e.2.1 == stack) = some e) :
    ((hbmSchedule p stack chan late s).part p).hbmPend = (s.part p).hbmPend.filter (fun x => x != e) ∧
      (late = true → (hbmSchedule p stack chan late s).gf F.HBM_LATE_COUNT stack =
        min (s.gf F.HBM_LATE_COUNT stack + 1) (2 ^ F.HBM_LATE_COUNT.w - 1)) := by
  unfold hbmSchedule
  extract_lets r
  split
  next none => cases none.symm.trans first
  next n k due bell code found =>
    obtain rfl : (n, k, due, bell, code) = e := Option.some.inj (found.symm.trans first)
    extract_lets placed counted l idx dueCode
    have atPlaced : (placed.part p).hbmPend = (s.part p).hbmPend.filter fun x => x != (n, k, due, bell, code) := by
      unfold placed
      rw [State.part_setPart]
    cases late
    case false => exact ⟨atPlaced, fun h => absurd h Bool.false_ne_true⟩
    case true =>
      have atCounted : (counted.part p).hbmPend = _ := (congrArg PartRec.hbmPend (State.part_bump placed _ stack 1 p)).trans atPlaced
      refine ⟨(raiseLate_hbmPend ..).trans atCounted, fun _ => ?_⟩
      exact ((raiseLate_touch ..).gf F.HBM_LATE_COUNT stack rfl).trans (State.gf_bump_same placed stack 1 (by decide))

theorem hbmRefresh_shows {stack temp : Nat} (fits : temp < 256) (s : State) :
    (hbmRefresh stack temp s).gf F.HBM_STATUS_TEMP stack = temp ∧
      (hbmRefresh stack temp s).flag F.HBM_STATUS_HOT stack = decide (85 < temp) := by
  unfold hbmRefresh
  constructor
  · rw [State.gf_sflag_apart _ (by decide) (by decide), State.gf_sf_fit s stack (by decide) fits]
  · exact State.flag_sflag _ stack _ (by decide) rfl

/-- Settles O23, each clause by the lemma that says what its access does. -/
theorem designMemoryAccessesTakeEffect : Obligations.DesignMemoryAccessesTakeEffect := by
  refine ⟨?schedule, ?refresh, ?read, ?write, ?set, ?clear, ?writeback, ?scrub⟩
  case schedule => exact fun s p stack chan late e first => ⟨_, rfl, hbmSchedule_places first⟩
  case refresh => exact fun s stack temp => ⟨_, rfl, hbmRefresh_shows temp.isLt s⟩
  case read =>
    rintro s rq a be data _ rfl idle own admitted good
    exact ⟨_, rfl, designMemoryAccess_reads idle own admitted good⟩
  case write =>
    rintro s rq a be data i _ rfl design own admitted free enabled stored
    exact ⟨_, rfl, designMemoryAccess_writes i.isLt design own admitted free enabled stored⟩
  case set =>
    intro s rq o be data i x word free idle good enabled
    rw [← Nat.mod_eq_of_lt o.isLt] at word
    exact ⟨_, rfl, aliasWrite_woken_merges (set := true) word i.isLt free idle good enabled⟩
  case clear =>
    intro s rq o be data i x word free idle good enabled
    rw [← Nat.mod_eq_of_lt o.isLt] at word
    exact ⟨_, rfl, aliasWrite_woken_merges (set := false) word i.isLt free idle good enabled⟩
  case writeback => exact fun s b w i queued => ⟨_, rfl, eccWriteback_corrects i.isLt queued⟩
  case scrub => exact fun s b w i runs => ⟨_, rfl, backgroundScrub_corrects i.isLt runs⟩

end Machine
end Sys2Proof

namespace Sys2Proof
namespace Machine

/-! ## Banks and pages (O24) -/

/-! ### The end of zeroising -/

/-- A bank whose zeroising ends is FREE, or RETIRED where that waited, and reads 0 (R141, R155). -/
theorem zeroiseDone_bank {b : Nat} {s : State} (hb : b < 512) (busy : s.gf F.BBD_BANK_STATE b = 3) :
    ((zeroiseDone b s).gf F.BBD_BANK_STATE b = if s.flag F.BBD_BANK_RETIRE_PEND b then 2 else 0) ∧
      ∀ x < 524288, (zeroiseDone b s).rb (bankAddr b + x) = 0 := by
  unfold zeroiseDone
  rw [if_pos hb, if_pos busy]
  extract_lets cleared
  have pend : cleared.flag F.BBD_BANK_RETIRE_PEND b = s.flag F.BBD_BANK_RETIRE_PEND b := rfl
  have zero : ∀ x < 524288, cleared.rb (bankAddr b + x) = 0 := fun x hx => by
    have own : blockLo b ≤ bankAddr b + x ∧ bankAddr b + x < blockHi b := by
      unfold blockLo blockHi
      rw [if_pos hb, if_pos hb]
      omega
    obtain ⟨board, bank⟩ := (mem_bank_iff hb).mp own
    refine (s.mem.get_refill_in 0 own).trans ?_
    simp [memDefault, fillCode, board, bank]
  rw [pend]
  split
  · refine ⟨?_, zero⟩
    rw [State.gf_sf_apart _ (by decide) (by decide), State.gf_sf_fit _ b (by decide) (by decide)]
  · exact ⟨State.gf_sf_fit _ b (by decide) (by decide), zero⟩

theorem zeroiseDone_gran {blk : Nat} {s : State} (hb : 512 ≤ blk) (busy : Store.get false s.mem.granZ (blk - 512) = true) :
    Store.get false (zeroiseDone blk s).mem.granZ (blk - 512) = false := by
  unfold zeroiseDone
  rw [if_neg (Nat.not_lt.mpr hb), if_pos busy]
  exact Store.get_set_same false (blk - 512) false _

/-! ### March tests -/

theorem marchStart_runs {rq : Requester} {i : Nat} {s : State} (admitted : procOrM rq s = true)
    (idle : s.gf F.BBD_MARCH_STATUS_STATE i = 0) (buffer : s.flag F.BBD_MARCH_CFG_PRESERVE i = true → memOwner (marchBuf i s) s = 0)
    (eligible : ∀ u ∈ List.range 256, s.gf F.BBD_MARCH_CFG_FIRST i ≤ u ∧
      u ≤ max (s.gf F.BBD_MARCH_CFG_FIRST i) (s.gf F.BBD_MARCH_CFG_LAST i) → marchEligible i s u = true) :
    (marchStart rq i s).gf F.BBD_MARCH_STATUS_STATE i = 1 ∧
      (marchStart rq i s).gf F.BBD_MARCH_STATUS_CUR i = s.gf F.BBD_MARCH_CFG_FIRST i ∧
      (marchStart rq i s).gf F.BBD_MARCH_STATUS_FAILS i = 0 ∧ (marchStart rq i s).gf F.BBD_MARCH_STATUS_STATUS i = 0 := by
  have first : s.gf F.BBD_MARCH_CFG_FIRST i < 256 := Fld.of_lt F.BBD_MARCH_CFG_FIRST _
  have last : s.gf F.BBD_MARCH_CFG_LAST i < 256 := Fld.of_lt F.BBD_MARCH_CFG_LAST _
  unfold marchStart
  rw [admitted, if_neg (by decide)]
  extract_lets f l pre buf bufOk r started saved shown
  have free : bufOk = true := by
    unfold bufOk
    cases preserve : pre
    · rfl
    · simp [buf, buffer preserve]
  have admits : ((List.range (l + 1 - f)).map (f + ·)).all (marchEligible i s) = true := by
    simp only [List.all_map, List.all_eq_true, List.mem_range, Function.comp_apply]
    exact fun k hk => eligible (f + k) (List.mem_range.mpr (by omega)) (by omega)
  rw [if_pos ⟨idle, free, admits⟩]
  refine ⟨?state, ?cur, ?fails, ?status⟩
  all_goals rw [State.gf_setReg_reg _ _ _ _ (by decide)]
  case state =>
    simp (disch := decide) only [shown, State.gf_sf_apart, State.gf_sf_fit]
  case cur =>
    rw [State.gf_sf_apart _ (by decide) (by decide), State.gf_sf_fit _ i (by decide) first]
  case fails => exact State.gf_sf_fit _ i (by decide) (by decide)
  case status =>
    simp (disch := decide) only [shown, State.gf_sf_apart, State.gf_sf_fit]

theorem marchStop_aborts {rq : Requester} {i cur : Nat} {s : State} (admitted : procOrM rq s = true)
    (running : s.gf F.BBD_MARCH_STATUS_STATE i = 1) (fits : cur < 256) :
    ((marchStop rq i cur s).gf F.BBD_MARCH_STATUS_STATE i = if (marchRec i s).preserve then 2 else 0) ∧
      (marchStop rq i cur s).flag F.BBD_MARCH_STATUS_ABORTED i = true ∧
      (marchStop rq i cur s).gf F.BBD_MARCH_STATUS_CUR i = min (marchRec i s).last (max cur (s.gf F.BBD_MARCH_CFG_FIRST i)) := by
  have first : s.gf F.BBD_MARCH_CFG_FIRST i < 256 := Fld.of_lt F.BBD_MARCH_CFG_FIRST _
  unfold marchStop
  rw [admitted, if_neg (by decide), if_neg (not_not_intro running)]
  extract_lets r u reached aborted
  have unit : u < 2 ^ F.BBD_MARCH_STATUS_CUR.w := (min_le_right _ _).trans_lt (max_lt fits first)
  refine ⟨?state, ?aborted, ?cur⟩
  case state =>
    refine State.gf_sf_fit _ i (by decide) ?_
    split <;> decide
  case aborted => simp (disch := decide) only [aborted, State.flag_sf_apart, State.flag_sf_one]
  case cur =>
    simp (disch := decide) only [aborted, reached, State.gf_sf_apart]
    exact State.gf_sf_fit _ i (by decide) unit

theorem marchDone_ends {i : Nat} (fails : List (Nat × Nat)) {s : State} (running : s.gf F.BBD_MARCH_STATUS_STATE i = 1) :
    (marchDone i fails s).gf F.BBD_MARCH_STATUS_STATE i = 0 ∧ (marchDone i fails s).flag F.BBD_MARCH_STATUS_DONE i = true := by
  unfold marchDone
  rw [if_neg (not_not_intro running)]
  extract_lets r marked shown
  refine ⟨State.gf_sf_fit _ i (by decide) (by decide), ?_⟩
  simp (disch := decide) only [shown, State.flag_sf_apart, State.flag_sf_one]

theorem marchRestoreDone_ends {i : Nat} {s : State} (restores : s.gf F.BBD_MARCH_STATUS_STATE i = 2) :
    (marchRestoreDone i s).gf F.BBD_MARCH_STATUS_STATE i = 0 := by
  unfold marchRestoreDone
  rw [if_pos restores]
  exact State.gf_sf_fit _ i (by decide) (by decide)

/-! ### Retirement -/

/-- A new record of the memories leaves every flag. -/
theorem State.flag_withMem (s : State) (m : MemState) (f : Fld) (i : Nat) : ({ s with mem := m } : State).flag f i = s.flag f i := rfl

section

variable {rq : Requester} {s : State} (active : isActiveProctor rq s = true)
include active

/-- RETIRE takes a FREE bank out at once and another on release (R155). -/
theorem retireBank_retires {b : Nat} (inUse : s.gf F.BBD_BANK_STATE b ≠ 2) :
    (s.gf F.BBD_BANK_STATE b = 0 → (retireBank rq b s).gf F.BBD_BANK_STATE b = 2) ∧
      (s.gf F.BBD_BANK_STATE b ≠ 0 → (retireBank rq b s).flag F.BBD_BANK_RETIRE_PEND b = true) := by
  unfold retireBank
  rw [active, if_neg (by decide)]
  extract_lets st answered reported
  rw [if_neg inUse]
  refine ⟨fun free => ?_, fun held => ?_⟩
  · rw [if_pos free]
    exact State.gf_sf_fit _ b (by decide) (by decide)
  · rw [if_neg held]
    exact State.flag_sf_one _ b (by decide) rfl

/-- UNRETIRE zeroises the bank (R155). -/
theorem unretireBank_zeroises {b : Nat} (retired : s.gf F.BBD_BANK_STATE b = 2) :
    (unretireBank rq b s).gf F.BBD_BANK_STATE b = 3 ∧ (unretireBank rq b s).gf F.BBD_RETIRE_STATUS_STATUS 0 = 0 := by
  unfold unretireBank
  rw [active, if_neg (by decide), if_neg (not_not_intro retired), okResp_gf, okResp_gf]
  simp (disch := decide) only [State.gf_sf_apart, State.gf_sf_fit, and_self]

/-- HBM_RETIRE begins the copy of a page (R156). -/
theorem hbmRetire_begins {k page : Nat} (idle : s.flag F.HBM_RET_STAT_BUSY k = false) (fresh : page ∉ Store.get [] s.mem.pages k)
    (inRange : page < 95 * 65536) (room : (Store.get [] s.mem.pages k).length < 1024) :
    (hbmRetire rq k page s).flag F.HBM_RET_STAT_BUSY k = true ∧ Store.get 0 (hbmRetire rq k page s).mem.copying k = page + 1 := by
  unfold hbmRetire
  rw [active, if_neg (by decide)]
  extract_lets pages answered
  have admits : (s.flag F.HBM_RET_STAT_BUSY k || pages.contains page || decide (page ≥ 95 * 65536) || decide (pages.length ≥ 1024))
      = false := by simp [idle, pages, fresh, inRange, room]
  have busy : answered.flag F.HBM_RET_STAT_BUSY k = true := (okResp_flag ..).trans (State.flag_sf_one _ k (by decide) rfl)
  rw [admits, if_neg Bool.false_ne_true]
  exact ⟨(State.flag_withMem ..).trans busy, Store.get_set_same 0 k (page + 1) _⟩

end

/-- The switch puts the page on the list (R156). -/
theorem hbmPageSwitch_lists {k page : Nat} {s : State} (copies : Store.get 0 s.mem.copying k = page + 1) :
    Store.get [] (hbmPageSwitch k s).mem.pages k = Store.get [] s.mem.pages k ++ [page] ∧
      (hbmPageSwitch k s).flag F.HBM_RET_STAT_BUSY k = false ∧ Store.get 0 (hbmPageSwitch k s).mem.copying k = 0 := by
  unfold hbmPageSwitch
  split
  next none => cases none.symm.trans copies
  next p copied =>
    obtain rfl : p = page := Nat.succ.inj (copied.symm.trans copies)
    extract_lets pages memory switched shown
    rw [(report_touch ..).mem rfl, (report_touch ..).flag F.HBM_RET_STAT_BUSY k rfl]
    refine ⟨Store.get_set_same [] k _ _, ?_, Store.get_set_same 0 k 0 _⟩
    simp (disch := decide) only [shown, State.flag_sf_apart, State.flag_sf_zero]

/-- Settles O24, each clause by the lemma that says what its command does. -/
theorem bankAndPageCommandsTakeEffect : Obligations.BankAndPageCommandsTakeEffect := by
  refine ⟨?zeroised, ?granule, ?start, ?stop, ?done, ?retire, ?unretire, ?hbmRetire, ?pageSwitch, ?restored⟩
  case zeroised =>
    intro s blk x bank busy
    obtain ⟨state, zero⟩ := zeroiseDone_bank bank busy
    exact ⟨_, rfl, state, zero x x.isLt⟩
  case granule => exact fun s blk gran busy => ⟨_, rfl, zeroiseDone_gran gran busy⟩
  case start =>
    exact fun s rq ix admitted idle buffer eligible => ⟨_, rfl, marchStart_runs admitted idle buffer eligible⟩
  case stop => exact fun s rq ix cur admitted running => ⟨_, rfl, marchStop_aborts admitted running cur.isLt⟩
  case done => exact fun s ix fails running => ⟨_, rfl, marchDone_ends fails running⟩
  case retire => exact fun s rq b active inUse => ⟨_, rfl, retireBank_retires active inUse⟩
  case unretire => exact fun s rq b active retired => ⟨_, rfl, unretireBank_zeroises active retired⟩
  case hbmRetire =>
    exact fun s rq k page active idle fresh inRange room => ⟨_, rfl, hbmRetire_begins active idle fresh inRange room⟩
  case pageSwitch => exact fun s k page copies => ⟨_, rfl, hbmPageSwitch_lists copies⟩
  case restored => exact fun s ix restores => ⟨_, rfl, marchRestoreDone_ends restores⟩

end Machine
end Sys2Proof

namespace Sys2Proof
namespace Machine

/-! ## What the memory, stopwatch, trace and pin commands leave alone (O54) -/

/-- Settles O54: what each command may touch lies within its registers and parts. -/
theorem memoryAndInstrumentCommandsKeepTheirFrame : Obligations.MemoryAndInstrumentCommandsKeepTheirFrame := by
  refine ⟨?hbmSchedule, ?hbmRefresh, ?designMemoryAccess, ?bitSetAliasWrite, ?bitClearAliasWrite, ?eccWriteback, ?backgroundScrub,
    ?bankZeroiseDone, ?marchStart, ?marchStop, ?marchDone, ?retire, ?unretire, ?hbmRetire, ?hbmPageSwitch, ?marchRestoreDone, ?stwEdge,
    ?recordEnd, ?tdcHandover, ?tdcCalDone, ?stwInEnable, ?stwInArm, ?stwInStop, ?stwInDisable, ?tbLatch, ?calStart, ?calStop,
    ?tdcSelfCheckFail, ?triggerFire, ?triggerTimeout, ?instrLineRelease, ?instrLineEdge, ?stwTrgArm, ?stwTrgDisarm, ?stwTrgForce,
    ?mailboxPost, ?trcArm, ?trcStop, ?trcForce, ?pinCfgWrite, ?pioLockKey, ?pioLock, ?pioFuseCmd, ?bankSupplyChange, ?jtagInstruction⟩
  case hbmSchedule => exact fun _ _ _ _ _ _ h => only_of_next h (execHbmSchedule_touch ..) (by decide +kernel) (by decide)
  case hbmRefresh => exact fun _ _ _ _ h => only_of_next h (execHbmRefresh_touch ..) (by decide +kernel) (by decide)
  case designMemoryAccess => exact fun _ _ _ _ _ _ _ h => only_of_next h (execDesignMemoryAccess_touch ..) (by decide +kernel) (by decide)
  case bitSetAliasWrite => exact fun _ _ _ _ _ _ h => only_of_next h (execBitSetAliasWrite_touch ..) (by decide +kernel) (by decide)
  case bitClearAliasWrite => exact fun _ _ _ _ _ _ h => only_of_next h (execBitClearAliasWrite_touch ..) (by decide +kernel) (by decide)
  case eccWriteback => exact fun _ _ _ h => only_of_next h (execEccWriteback_touch ..) (by decide +kernel) (by decide)
  case backgroundScrub => exact fun _ _ _ _ h => only_of_next h (execBackgroundScrub_touch ..) (by decide +kernel) (by decide)
  case bankZeroiseDone => exact fun _ _ _ h => only_of_next h (execBankZeroiseDone_touch ..) (by decide +kernel) (by decide)
  case marchStart => exact fun _ _ _ _ h => only_of_next h (execMarchStart_touch ..) (by decide +kernel) (by decide)
  case marchStop => exact fun _ _ _ _ _ h => only_of_next h (execMarchStop_touch ..) (by decide +kernel) (by decide)
  case marchDone => exact fun _ _ _ _ h => only_of_next h (execMarchDone_touch ..) (by decide +kernel) (by decide)
  case retire => exact fun _ _ _ _ h => only_of_next h (execRetire_touch ..) (by decide +kernel) (by decide)
  case unretire => exact fun _ _ _ _ h => only_of_next h (execUnretire_touch ..) (by decide +kernel) (by decide)
  case hbmRetire => exact fun _ _ _ _ _ h => only_of_next h (execHbmRetire_touch ..) (by decide +kernel) (by decide)
  case hbmPageSwitch => exact fun _ _ _ h => only_of_next h (execHbmPageSwitch_touch ..) (by decide +kernel) (by decide)
  case marchRestoreDone => exact fun _ _ _ h => only_of_next h (execMarchRestoreDone_touch ..) (by decide +kernel) (by decide)
  case stwEdge => exact fun _ _ _ _ _ h => only_of_next h (execStwEdge_touch ..) (by decide +kernel) (by decide)
  case recordEnd => exact fun _ _ _ h => only_of_next h (execRecordEnd_touch ..) (by decide +kernel) (by decide)
  case tdcHandover => exact fun _ _ _ _ h => only_of_next h (execTdcHandover_touch ..) (by decide +kernel) (by decide)
  case tdcCalDone => exact fun _ _ _ _ h => only_of_next h (execTdcCalDone_touch ..) (by decide +kernel) (by decide)
  case stwInEnable => exact fun _ _ _ _ h => only_of_next h (execStwInEnable_touch ..) (by decide +kernel) (by decide)
  case stwInArm => exact fun _ _ _ _ h => only_of_next h (execStwInArm_touch ..) (by decide +kernel) (by decide)
  case stwInStop => exact fun _ _ _ _ h => only_of_next h (execStwInStop_touch ..) (by decide +kernel) (by decide)
  case stwInDisable => exact fun _ _ _ _ h => only_of_next h (execStwInDisable_touch ..) (by decide +kernel) (by decide)
  case tbLatch => exact fun _ _ _ h => only_of_next h (execTbLatch_touch ..) (by decide +kernel) (by decide)
  case calStart => exact fun _ _ _ h => only_of_next h (execCalStart_touch ..) (by decide +kernel) (by decide)
  case calStop => exact fun _ _ _ h => only_of_next h (execCalStop_touch ..) (by decide +kernel) (by decide)
  case tdcSelfCheckFail => exact fun _ _ _ h => only_of_next h (execTdcSelfCheckFail_touch ..) (by decide +kernel) (by decide)
  case triggerFire => exact fun _ _ _ h => only_of_next h (execTriggerFire_touch ..) (by decide +kernel) (by decide)
  case triggerTimeout => exact fun _ _ _ h => only_of_next h (execTriggerTimeout_touch ..) (by decide +kernel) (by decide)
  case instrLineRelease => exact fun _ _ _ _ h => only_of_next h (execInstrLineRelease_touch ..) (by decide +kernel) (by decide)
  case instrLineEdge => exact fun _ _ _ _ _ h => only_of_next h (execInstrLineEdge_touch ..) (by decide +kernel) (by decide)
  case stwTrgArm => exact fun _ _ _ _ h => only_of_next h (execStwTrgArm_touch ..) (by decide +kernel) (by decide)
  case stwTrgDisarm => exact fun _ _ _ _ h => only_of_next h (execStwTrgDisarm_touch ..) (by decide +kernel) (by decide)
  case stwTrgForce => exact fun _ _ _ _ h => only_of_next h (execStwTrgForce_touch ..) (by decide +kernel) (by decide)
  case mailboxPost => exact fun _ _ _ _ _ h => only_of_next h (execMailboxPost_touch ..) (by decide +kernel) (by decide)
  case trcArm => exact fun _ _ _ _ h => only_of_next h (execTrcArm_touch ..) (by decide +kernel) (by decide)
  case trcStop => exact fun _ _ _ _ h => only_of_next h (execTrcStop_touch ..) (by decide +kernel) (by decide)
  case trcForce => exact fun _ _ _ _ h => only_of_next h (execTrcForce_touch ..) (by decide +kernel) (by decide)
  case pinCfgWrite => exact fun _ _ _ _ _ h => only_of_next h (execPinCfgWrite_touch ..) (by decide +kernel) (by decide)
  case pioLockKey => exact fun _ _ _ _ h => only_of_next h (execPioLockKey_touch ..) (by decide +kernel) (by decide)
  case pioLock => exact fun _ _ _ h => only_of_next h (execPioLock_touch ..) (by decide +kernel) (by decide)
  case pioFuseCmd => exact fun _ _ _ _ _ h => only_of_next h (execPioFuseCmd_touch ..) (by decide +kernel) (by decide)
  case bankSupplyChange => exact fun _ _ _ _ _ h => only_of_next h (execBankSupplyChange_touch ..) (by decide +kernel) (by decide)
  case jtagInstruction => exact fun _ _ _ h => only_of_next h (execJtagInstruction_touch ..) (by decide +kernel) (by decide)

end Machine
end Sys2Proof

section
set_option Elab.async false
namespace Sys2Proof
namespace Machine

/-! ## What the time, host, key and debug commands leave alone (O55) -/

/-- Settles O55: what each command may touch lies within its registers and parts. -/
theorem timeHostAndKeyCommandsKeepTheirFrame : Obligations.TimeHostAndKeyCommandsKeepTheirFrame := by
  refine ⟨?timeIncrement, ?timeStep, ?timeRearm, ?timRateWrite, ?ptpEventTx, ?ptpEventRx, ?txtsPop, ?chainTimeMarker, ?ptmTrigger,
    ?ptmPeriod, ?ptmResponse, ?ptmTimeout, ?vfFlr, ?pfFlr, ?hotReset, ?linkDown, ?msixUnmask, ?configurationSpaceWrite, ?keyProgram,
    ?keyRevoke, ?keyClear, ?vbatLoss, ?lcAdvance, ?rkProgram, ?rkRevoke, ?svnAdvance, ?mbxGo, ?hallPassExpiry, ?coreHalt,
    ?comparatorMatch, ?ctiPulse, ?dbgCtiPulseWrite⟩
  case timeIncrement => exact fun _ _ h => only_of_next h (execTimeIncrement_touch ..) (by decide +kernel) (by decide)
  case timeStep => exact fun _ _ _ h => only_of_next h (execTimeStep_touch ..) (by decide +kernel) (by decide)
  case timeRearm => exact fun _ _ _ h => only_of_next h (execTimeRearm_touch ..) (by decide +kernel) (by decide)
  case timRateWrite => exact fun _ _ _ _ h => only_of_next h (execTimRateWrite_touch ..) (by decide +kernel) (by decide)
  case ptpEventTx => exact fun _ _ _ _ _ h => only_of_next h (execPtpEventTx_touch ..) (by decide +kernel) (by decide)
  case ptpEventRx => exact fun _ _ _ _ h => only_of_next h (execPtpEventRx_touch ..) (by decide +kernel) (by decide)
  case txtsPop => exact fun _ _ _ h => only_of_next h (execTxtsPop_touch ..) (by decide +kernel) (by decide)
  case chainTimeMarker => exact fun _ _ _ _ _ h => only_of_next h (execChainTimeMarker_touch ..) (by decide +kernel) (by decide)
  case ptmTrigger => exact fun _ _ _ h => only_of_next h (execPtmTrigger_touch ..) (by decide +kernel) (by decide)
  case ptmPeriod => exact fun _ _ h => only_of_next h (execPtmPeriod_touch ..) (by decide +kernel) (by decide)
  case ptmResponse => exact fun _ _ _ _ _ h => only_of_next h (execPtmResponse_touch ..) (by decide +kernel) (by decide)
  case ptmTimeout => exact fun _ _ h => only_of_next h (execPtmTimeout_touch ..) (by decide +kernel) (by decide)
  case vfFlr => exact fun _ _ _ h => only_of_next h (execVfFlr_touch ..) (by decide +kernel) (by decide)
  case pfFlr => exact fun _ _ h => only_of_next h (execPfFlr_touch ..) (by decide +kernel) (by decide)
  case hotReset => exact fun _ _ h => only_of_next h (execHotReset_touch ..) (by decide +kernel) (by decide)
  case linkDown => exact fun _ _ h => only_of_next h (execLinkDown_touch ..) (by decide +kernel) (by decide)
  case msixUnmask => exact fun _ _ _ _ h => only_of_next h (execMsixUnmask_touch ..) (by decide +kernel) (by decide)
  case configurationSpaceWrite => exact fun _ _ _ _ h => only_of_next h (execConfigurationSpaceWrite_touch ..) (by decide +kernel) (by decide)
  case keyProgram => exact fun _ _ _ _ h => only_of_next h (execKeyProgram_touch ..) (by decide +kernel) (by decide)
  case keyRevoke => exact fun _ _ _ _ h => only_of_next h (execKeyRevoke_touch ..) (by decide +kernel) (by decide)
  case keyClear => exact fun _ _ _ _ h => only_of_next h (execKeyClear_touch ..) (by decide +kernel) (by decide)
  case vbatLoss => exact fun _ _ h => only_of_next h (execVbatLoss_touch ..) (by decide +kernel) (by decide)
  case lcAdvance => exact fun _ _ _ h => only_of_next h (execLcAdvance_touch ..) (by decide +kernel) (by decide)
  case rkProgram => exact fun _ _ _ _ h => only_of_next h (execRkProgram_touch ..) (by decide +kernel) (by decide)
  case rkRevoke => exact fun _ _ _ _ h => only_of_next h (execRkRevoke_touch ..) (by decide +kernel) (by decide)
  case svnAdvance => exact fun _ _ _ _ h => only_of_next h (execSvnAdvance_touch ..) (by decide +kernel) (by decide)
  case mbxGo => exact fun _ _ _ _ h => only_of_next h (execMbxGo_touch ..) (by decide +kernel) (by decide)
  case hallPassExpiry => exact fun _ _ h => only_of_next h (execHallPassExpiry_touch ..) (by decide +kernel) (by decide)
  case coreHalt => exact fun _ _ _ _ _ _ h => only_of_next h (execCoreHalt_touch ..) (by decide +kernel) (by decide)
  case comparatorMatch => exact fun _ _ _ _ _ _ _ h => only_of_next h (execComparatorMatch_touch ..) (by decide +kernel) (by decide)
  case ctiPulse => exact fun _ _ h => only_of_next h (execCtiPulse_touch ..) (by decide +kernel) (by decide)
  case dbgCtiPulseWrite => exact fun _ _ _ _ h => only_of_next h (execDbgCtiPulseWrite_touch ..) (by decide +kernel) (by decide)

end Machine
end Sys2Proof
end

section
set_option Elab.async false
namespace Sys2Proof
namespace Machine

/-! ## What the end of a load leaves

The end of a load writes the status of its context, then whatever its result asks for. The keys, the pulse and the counts of bytes stand
outside all of it. -/

theorem State.gf_withLd (s : State) (l : LdState) (f : Fld) (i : Nat) : ({ s with ld := l } : State).gf f i = s.gf f i := rfl
theorem State.flag_withLd (s : State) (l : LdState) (f : Fld) (i : Nat) : ({ s with ld := l } : State).flag f i = s.flag f i := rfl

theorem Only.gf {rs : List Reg} {ps : List Part} {s t : State} (h : Only rs ps s t) (f : Fld) (i : Nat) (k : f.reg ∉ rs) :
    t.gf f i = s.gf f i := by
  unfold State.gf
  rw [h.reg f.reg k i]

/-! ### What is kept of the loader -/

/-- Outside its contexts and the DONE-gated images, the loader's state is the same: keys, digests, the pulse, the byte counts. -/
def KeepsLoader (s t : State) : Prop := t.ld = { s.ld with ctx := t.ld.ctx, autos := t.ld.autos }

theorem KeepsLoader.refl (s : State) : KeepsLoader s s := rfl

theorem KeepsLoader.trans {s x t : State} (h : KeepsLoader s x) (k : KeepsLoader x t) : KeepsLoader s t := by
  unfold KeepsLoader at *
  rw [k, h]

theorem KeepsLoader.of_eq {s t : State} (h : t.ld = s.ld) : KeepsLoader s t := by
  unfold KeepsLoader
  rw [h]

section

variable {s x t : State}

theorem KeepsLoader.touch {w : Nat} (h : Touch w x t) (k : KeepsLoader s x) (e : w.testBit 418 = false := by rfl) : KeepsLoader s t :=
  k.trans (.of_eq (h.ld e))

theorem KeepsLoader.sf {f : Fld} {i v : Nat} (k : KeepsLoader s x) : KeepsLoader s (x.sf f i v) := k
theorem KeepsLoader.setLdc {c : Nat} {r : LoadCtx} (k : KeepsLoader s x) : KeepsLoader s (x.setLdc c r) :=
  k.trans rfl

theorem KeepsLoader.modLdc {c : Nat} {f : LoadCtx → LoadCtx} (k : KeepsLoader s x) : KeepsLoader s (x.modLdc c f) := k.setLdc

theorem KeepsLoader.ite {c : Prop} [Decidable c] {a b : State} (h : c → KeepsLoader s a) (k : ¬ c → KeepsLoader s b) :
    KeepsLoader s (if c then a else b) := by
  split
  · exact h ‹_›
  · exact k ‹_›

theorem KeepsLoader.foldl {α : Type} {l : List α} {f : State → α → State} (h : ∀ a u, KeepsLoader u (f u a)) (k : KeepsLoader s x) :
    KeepsLoader s (l.foldl f x) := by
  induction l generalizing x with
  | nil => exact k
  | cons a l ih => exact ih (k.trans (h a x))

theorem clearPart_keepsLoader (p : Nat) (k : KeepsLoader s x) : KeepsLoader s (clearPart p x) := k.trans rfl

/-- The return to EMPTY takes the partition out of the DONE-gated images and leaves the loader alone. -/
theorem toEmpty_keepsLoader (p : Nat) (k : KeepsLoader s x) : KeepsLoader s (toEmpty p x) := by
  unfold toEmpty
  refine .touch (doneUpd_touch _) (.touch (updLinks_touch _) (.touch (partEvent_touch ..) (.touch (slotsUpd_touch ..)
    (.touch (pendingUpd_touch ..) (clearPart_keepsLoader p ?_)))))
  refine .touch (State.modTrec_touch ..) (.touch (clearLat_touch ..) (.touch (releaseMemory_touch ..) (.touch (dropRes_touch ..) ?_)))
  refine .touch (dropFreeze_touch ..) (.touch (zeroRepair_touch ..) (.touch (armStages_touch ..) ?_))
  refine .touch (zeroSlot_touch ..) (.touch (zeroSlot_touch ..) (.touch (discardDebt_touch ..) ?_))
  exact .touch (dropAllSnaps_touch ..) (.touch (followsCancel_touch ..) (.touch (fenceBorder_touch ..) k))

theorem loadZeroise_keepsLoader (c : Nat) (k : KeepsLoader s x) : KeepsLoader s (loadZeroise c x) := by
  unfold loadZeroise
  refine .ite (fun _ => ?_) fun _ => toEmpty_keepsLoader _ k
  have slot : KeepsLoader s (zeroSlot (x.ldc c).part (1 - x.slot (x.ldc c).part) true x) := .touch (zeroSlot_touch ..) k
  refine .sf (.sf (.foldl (fun _ _ => .touch (setBudget_touch ..) (.refl _)) (.touch (dropRes_touch ..) ?_)))
  refine .foldl (fun _ _ => .touch (regionDrop_touch ..) (.refl _)) ?_
  exact .foldl (fun _ _ => .touch (bankDrop_touch ..) (.refl _)) slot

end

/-! ### The end of a load in three parts -/

/-- The status of a context whose load ends: result and detail, and the context idle. -/
def loadStatus (c : Nat) (e : LoadEnd) (s : State) : State :=
  (((s.sf F.PART_LDR_STATUS_RESULT c e.result).sf F.PART_LDR_STATUS_DETAIL c e.detail).sf F.PART_LDR_STATUS_STATE c 0).sf
    F.PART_LDR_STATUS_PHASE c 0

/-- The report words, and the result of the boot entry that the load served. -/
def loadReports (c : Nat) (e : LoadEnd) (x : LoadCtx) (s : State) : State :=
  let s := ((s.sf F.PART_LDR_REPORT_A_VALUE c e.a).sf F.PART_LDR_REPORT_B_VALUE c e.b).sf F.PART_LDR_REPORT_C_VALUE c e.c
  let s := match x.entry with
    | none => s
    | some n => ((s.sf F.PART_LDR_BOOT_RES_RESULT x.part e.result).sf F.PART_LDR_BOOT_RES_DETAIL x.part e.detail).sf F.PART_LDR_BOOT_RES_ENTRY x.part n
  if x.entry.isSome then s.sf F.PART_LDR_BOOT_RES_VALID x.part 1 else s

/-- What a load that failed leaves: FAIL of a gated load, the report card, what it wrote zeroised (R201, R203). -/
def loadFailure (c : Nat) (e : LoadEnd) (x : LoadCtx) (s : State) : State :=
  if e.result = 0 then s
  else
    let s := if x.gate then s.sf F.PART_LDR_DONE_FAIL 0 1 else s
    let s := if x.entered || x.entry.isSome then report 0 0x50 x.part 0xFF 0 0 (e.result + 256 * e.detail) s else s
    if x.entered then loadZeroise c s else s

/-- The context is free again, its interrupt is raised and DONE follows. -/
def loadClose (c p : Nat) (s : State) : State := doneUpd (partEvent p 6 (raiseIrq (16 + c) (s.setLdc c {})))

theorem loadEnd_eq (c : Nat) (e : LoadEnd) (s : State) : loadEnd c e s =
    loadClose c (s.ldc c).part (loadFailure c e (s.ldc c) (loadReports c e (s.ldc c) (loadStatus c e s))) := rfl

section

variable {s x : State}

theorem loadReports_keepsLoader (c : Nat) (e : LoadEnd) (r : LoadCtx) (k : KeepsLoader s x) : KeepsLoader s (loadReports c e r x) := by
  unfold loadReports
  cases r.entry with
  | none => exact k.sf.sf.sf
  | some n => exact k.sf.sf.sf.sf.sf.sf.sf

theorem loadFailure_keepsLoader (c : Nat) (e : LoadEnd) (r : LoadCtx) (k : KeepsLoader s x) : KeepsLoader s (loadFailure c e r x) := by
  unfold loadFailure
  refine .ite (fun _ => k) fun _ => ?_
  have shown := KeepsLoader.ite (c := r.gate = true) (fun _ => k.sf (f := F.PART_LDR_DONE_FAIL) (i := 0) (v := 1)) fun _ => k
  have carded := KeepsLoader.ite (c := (r.entered || r.entry.isSome) = true)
    (fun _ => shown.touch (report_touch 0 0x50 r.part 0xFF 0 0 (e.result + 256 * e.detail) _)) fun _ => shown
  exact .ite (fun _ => loadZeroise_keepsLoader c carded) fun _ => carded

theorem loadClose_keepsLoader (c p : Nat) (k : KeepsLoader s x) : KeepsLoader s (loadClose c p x) :=
  .touch (doneUpd_touch _) (.touch (partEvent_touch ..) (.touch (raiseIrq_touch ..) k.setLdc))

theorem loadEnd_keepsLoader (c : Nat) (e : LoadEnd) (k : KeepsLoader s x) : KeepsLoader s (loadEnd c e x) := by
  rw [loadEnd_eq]
  exact loadClose_keepsLoader c _ (loadFailure_keepsLoader c e _ (loadReports_keepsLoader c e _ k.sf.sf.sf.sf))

end

end Machine
end Sys2Proof
end

section
set_option Elab.async false
namespace Sys2Proof
namespace Machine

/-! ## Keys, the life cycle, root keys and the counter (O32) -/

/-! ### A write pulse begins -/

/-- A SEC command has begun a write pulse: BUSY stands, its status field `st` is clear, and the pulse holds what it will write. -/
structure PulseBegun (st : Fld) (e : Nat × Nat × Nat) (t : State) : Prop where
  busy : t.flag F.SEC_KEY_STATUS_BUSY 0 = true
  status : t.gf st 0 = 0
  pulse : t.ld.pulse = some e

/-- An admitted and legal command of a SEC block with no pulse in progress begins its pulse (R192). -/
theorem secCmd_begins {rq : Requester} {r : Reg} {w b slot what : Nat} {st : Fld} {legal : Bool} {s : State}
    (fits : st.lo + st.w ≤ 32) (apart : Fld.apart F.SEC_KEY_STATUS_BUSY st = true) (admitted : procOrM rq s = true)
    (idle : s.flag F.SEC_KEY_STATUS_BUSY 0 = false) (lawful : legal = true) :
    PulseBegun st (b, slot, what) (secCmd rq r w st legal (pulseStart b slot what) s) := by
  have begins : secCmd rq r w st legal (pulseStart b slot what) s = pulseStart b slot what (okResp 0 (s.sf st 0 0)) := by
    simp [secCmd, pulseBusy, admitted, idle, lawful]
  rw [begins]
  have clear : (okResp 0 (s.sf st 0 0)).gf st 0 = 0 := by simp [State.gf_sf_same s 0 0 fits]
  exact ⟨by rw [pulseStart, State.flag_withLd, State.flag_sf_one _ 0 (by decide) rfl],
    by rw [pulseStart, State.gf_withLd, State.gf_sf_apart _ apart (by decide), clear], rfl⟩

/-! ### Data registers are zeroised -/

/-- Words 0 to n - 1 of a register array are written with 0. -/
def zeroWords (r : Reg) (n : Nat) (s : State) : State := forUpTo n (fun j t => t.setReg r j 0) s

theorem zeroWords_reg {r : Reg} {n j : Nat} (h : j < n) (s : State) : (zeroWords r n s).reg r j = 0 :=
  forUpTo_turn h (fun t => State.reg_setReg_same t r j 0) (fun _ t apart zero => (State.reg_setReg_inst t r r 0 apart.symm).trans zero) s

theorem zeroWords_only (r : Reg) (n : Nat) (s : State) : Only [r] [] s (zeroWords r n s) :=
  Only.forUpTo (fun _ u => (Only.refl _ _ u).setReg (List.mem_cons_self ..)) (Only.refl _ _ s)

/-- Zeroising data registers leaves the pulse as it began. -/
theorem PulseBegun.zeroWords {st : Fld} {e : Nat × Nat × Nat} {s : State} (h : PulseBegun st e s) {r : Reg} (n : Nat)
    (hk : Reg.SEC_KEY_STATUS ≠ r) (hs : st.reg ≠ r) : PulseBegun st e (zeroWords r n s) := by
  have only := zeroWords_only r n s
  have field (f : Fld) (hf : f.reg ≠ r) : (Machine.zeroWords r n s).gf f 0 = s.gf f 0 := only.gf f 0 (by simpa using hf)
  have ld : (Machine.zeroWords r n s).ld = s.ld := only.part .ld (by decide)
  refine ⟨?_, (field st hs).trans h.status, ?_⟩
  · unfold State.flag
    rw [field _ hk]
    exact h.busy
  · rw [ld]
    exact h.pulse

/-! ### Lost keys -/

theorem keyLost_keepsLoader (k : Nat) (s : State) : KeepsLoader s (keyLost k s) :=
  .foldl (fun c u => .ite (fun _ => loadEnd_keepsLoader c _ (.refl u)) fun _ => .refl u) (.refl s)

theorem keyLost_keyState (k j : Nat) (s : State) : keyState j (keyLost k s) = keyState j s := (keyLost_touch k s).gf _ 0 (by rw [Fld.nth_reg]; rfl)

theorem keyLost_keys (k : Nat) (s : State) : (keyLost k s).ld.keys = s.ld.keys := by
  rw [keyLost_keepsLoader k s]

/-- A key slot that takes a state shows it, and holds its key. -/
theorem setKey_sets {k st : Nat} (key : Nat) (s : State) (hk : k < 16) (hst : st < 4) :
    keyState k (setKey k st key s) = st ∧ Store.get 0 (setKey k st key s).ld.keys k = key := by
  refine ⟨?_, Store.get_set_same ..⟩
  have fits : (F.SEC_KEY_STATUS_SLOT.nth k).lo + (F.SEC_KEY_STATUS_SLOT.nth k).w ≤ 32 := by
    simp only [Fld.nth, F.SEC_KEY_STATUS_SLOT]
    omega
  exact (State.gf_withLd ..).trans (State.gf_sf_fit s 0 fits hst)

/-- The state and the key of another slot stay. -/
theorem setKey_keeps {k j : Nat} (st key : Nat) (s : State) (apart : j ≠ k) (hk : k < 16) :
    keyState j (setKey k st key s) = keyState j s ∧ Store.get 0 (setKey k st key s).ld.keys j = Store.get 0 s.ld.keys j := by
  refine ⟨(State.gf_withLd ..).trans (State.gf_sf_fld s 0 st rfl ?_ ?_), Store.get_set_ne _ _ _ _ apart⟩
  · simp only [Fld.nth, F.SEC_KEY_STATUS_SLOT]
    omega
  · simp only [Fld.nth, F.SEC_KEY_STATUS_SLOT]
    omega

/-- Loss of VBAT leaves the battery-backed slots EMPTY and without a key. -/
theorem vbatLoss_empties (s : State) : keyState 4 (vbatLoss s) = 0 ∧ keyState 5 (vbatLoss s) = 0 ∧
    Store.get 0 (vbatLoss s).ld.keys 4 = 0 ∧ Store.get 0 (vbatLoss s).ld.keys 5 = 0 := by
  obtain ⟨state4, key4⟩ := setKey_sets (k := 4) (st := 0) 0 s (by decide) (by decide)
  obtain ⟨kept4, keptKey4⟩ := setKey_keeps (k := 5) (j := 4) 0 0 (setKey 4 0 0 s) (by decide) (by decide)
  obtain ⟨state5, key5⟩ := setKey_sets (k := 5) (st := 0) 0 (setKey 4 0 0 s) (by decide) (by decide)
  simp only [vbatLoss, keyLost_keyState, keyLost_keys, kept4, keptKey4, state4, key4, state5, key5, and_self]

/-! ### The commands -/

/-- What a key command that is admitted and legal leaves: its pulse on slot `k`, and SEC_KEY_DATA zeroised. -/
def KeyPulse (k what : Nat) (t : State) : Prop :=
  PulseBegun F.SEC_KEY_STATUS_CMDST (0, k, what) t ∧ ∀ j ∈ List.range 8, t.reg .SEC_KEY_DATA j = 0

/-- What a root key command that is admitted and legal leaves. -/
def RootKeyPulse (k what : Nat) (t : State) : Prop :=
  PulseBegun F.SEC_RK_STAT_CMDST (2, k, what) t ∧ ∀ j ∈ List.range 12, t.reg .SEC_RK_DATA j = 0

section

variable {rq : Requester} {s : State} (admitted : procOrM rq s = true) (idle : s.flag F.SEC_KEY_STATUS_BUSY 0 = false)
include admitted idle

/-- An admitted and legal key command begins its pulse and zeroises SEC_KEY_DATA. -/
theorem keyCmd_begins {slot op what : Nat} {legal : Nat → Bool} (lawful : legal (min slot 5) = true) :
    KeyPulse (min slot 5) what (keyCmd rq slot op legal what s) := by
  have zeroised : keyCmd rq slot op legal what s = zeroWords .SEC_KEY_DATA 8
      (secCmd rq .SEC_KEY_CMD (slot + 16 * op) F.SEC_KEY_STATUS_CMDST (legal (min slot 5)) (pulseStart 0 (min slot 5) what) s) := if_pos admitted
  rw [zeroised]
  exact ⟨(secCmd_begins (by decide) (by decide) admitted idle lawful).zeroWords 8 (by decide) (by decide),
    fun j hj => zeroWords_reg (List.mem_range.mp hj) _⟩

/-- An admitted and legal root key command begins its pulse and zeroises SEC_RK_DATA. -/
theorem rkCmd_begins {k op what : Nat} {legal : Bool} (lawful : legal = true) : RootKeyPulse k what (rkCmd rq k op legal what s) := by
  have zeroised : rkCmd rq k op legal what s = zeroWords .SEC_RK_DATA 12
      (secCmd rq .SEC_RK_CMD (k + 16 * op) F.SEC_RK_STAT_CMDST legal (pulseStart 2 k what) s) := if_pos admitted
  rw [zeroised]
  exact ⟨(secCmd_begins (by decide) (by decide) admitted idle lawful).zeroWords 12 (by decide) (by decide),
    fun j hj => zeroWords_reg (List.mem_range.mp hj) _⟩

/-- KEY_PROGRAM of an EMPTY eFuse slot in BLANK or MANUFACTURE (Table CFG-8). -/
theorem keyProgram_efuse {slot : Nat} (efuse : slot ≤ 3) (lawful : keyState slot s = 0 ∧ s.gf F.GLB_LCS_STATE 0 ≤ 1) :
    KeyPulse slot (1 + wordsOf .SEC_KEY_DATA 8 s) (keyProgram rq slot s) := by
  have here : min slot 5 = slot := by omega
  have pulse := keyCmd_begins admitted idle (slot := slot) (op := 1) (what := 1 + wordsOf .SEC_KEY_DATA 8 s)
    (legal := fun k => if k ≤ 3 then decide (keyState k s = 0 ∧ s.gf F.GLB_LCS_STATE 0 ≤ 1)
      else decide (s.gf F.GLB_LCS_STATE 0 = 1 ∨ s.gf F.GLB_LCS_STATE 0 = 2)) (by simp [here, efuse, lawful])
  rwa [here] at pulse

/-- KEY_PROGRAM of a battery-backed slot in MANUFACTURE or SERVICE. -/
theorem keyProgram_battery {slot : Nat} (battery : slot = 4 ∨ slot = 5)
    (lawful : s.gf F.GLB_LCS_STATE 0 = 1 ∨ s.gf F.GLB_LCS_STATE 0 = 2) :
    KeyPulse slot (1 + wordsOf .SEC_KEY_DATA 8 s) (keyProgram rq slot s) := by
  have here : min slot 5 = slot := by omega
  have above : ¬ slot ≤ 3 := by omega
  have pulse := keyCmd_begins admitted idle (slot := slot) (op := 1) (what := 1 + wordsOf .SEC_KEY_DATA 8 s)
    (legal := fun k => if k ≤ 3 then decide (keyState k s = 0 ∧ s.gf F.GLB_LCS_STATE 0 ≤ 1)
      else decide (s.gf F.GLB_LCS_STATE 0 = 1 ∨ s.gf F.GLB_LCS_STATE 0 = 2)) (by simp [here, above, lawful])
  rwa [here] at pulse

/-- KEY_REVOKE of a VALID eFuse slot past BLANK. -/
theorem keyRevoke_begins {slot : Nat} (efuse : slot ≤ 3) (lawful : keyState slot s = 1 ∧ s.gf F.GLB_LCS_STATE 0 ≠ 0) :
    KeyPulse slot 0 (keyRevoke rq slot s) := by
  have here : min slot 5 = slot := by omega
  have pulse := keyCmd_begins admitted idle (slot := slot) (op := 2) (what := 0)
    (legal := fun k => decide (k ≤ 3 ∧ keyState k s = 1 ∧ s.gf F.GLB_LCS_STATE 0 ≠ 0)) (by simp [here, efuse, lawful])
  rwa [here] at pulse

/-- KEY_CLEAR of a VALID battery-backed slot. -/
theorem keyClear_begins {slot : Nat} (battery : 4 ≤ slot) (valid : keyState (min slot 5) s = 1) :
    KeyPulse (min slot 5) 0 (keyClear rq slot s) :=
  keyCmd_begins admitted idle (by simp [valid, battery])

/-- The life cycle advances from BLANK, and from MANUFACTURE once a root key is VALID (R193, Table CFG-16). -/
theorem lcAdvance_begins
    (lawful : s.gf F.GLB_LCS_STATE 0 = 0 ∨ (s.gf F.GLB_LCS_STATE 0 = 1 ∧ ∃ k ∈ List.range 4, rkState k s = 1)) :
    PulseBegun F.SEC_LC_STAT_CMDST (1, 0, s.gf F.GLB_LCS_STATE 0 + 1) (lcAdvance rq s) := by
  refine secCmd_begins (by decide) (by decide) admitted idle ?_
  rcases lawful with blank | ⟨manufacture, k, hk, valid⟩
  · rw [blank]
    rfl
  · rw [manufacture]
    exact List.any_eq_true.mpr ⟨k, hk, decide_eq_true valid⟩

/-- RK_PROGRAM of an EMPTY slot in BLANK or MANUFACTURE (Table CFG-17). -/
theorem rkProgram_begins {k : Nat} (lawful : rkState k s = 0 ∧ s.gf F.GLB_LCS_STATE 0 ≤ 1) :
    RootKeyPulse k (1 + wordsOf .SEC_RK_DATA 12 s) (rkProgram rq k s) :=
  rkCmd_begins admitted idle (decide_eq_true lawful)

/-- RK_REVOKE of a VALID slot while another one is VALID. -/
theorem rkRevoke_begins {k : Nat} (valid : rkState k s = 1) (cycle : s.gf F.GLB_LCS_STATE 0 = 1 ∨ s.gf F.GLB_LCS_STATE 0 = 2)
    (other : ∃ j ∈ List.range 4, j ≠ k ∧ rkState j s = 1) : RootKeyPulse k 0 (rkRevoke rq k s) := by
  refine rkCmd_begins admitted idle ?_
  obtain ⟨j, hj, apart, also⟩ := other
  have listed : ((List.range 4).any fun j => j ≠ k && decide (rkState j s = 1)) = true :=
    List.any_eq_true.mpr ⟨j, hj, by simp [apart, also]⟩
  rw [listed, Bool.and_true]
  exact decide_eq_true ⟨valid, cycle⟩

/-- SVN_ADVANCE to a higher number that the booted manifest reaches (R195). -/
theorem svnAdvance_begins {value m : Nat} (cycle : s.gf F.GLB_LCS_STATE 0 = 1 ∨ s.gf F.GLB_LCS_STATE 0 = 2)
    (rises : s.gf F.SEC_SVN_STAT_SVN 0 < min value 64) (booted : s.ld.svn = some m) (within : min value 64 ≤ m) :
    PulseBegun F.SEC_SVN_STAT_CMDST (3, 0, min value 64) (svnAdvance rq value s) := by
  refine secCmd_begins (by decide) (by decide) admitted idle ?_
  rw [booted, Bool.and_eq_true]
  exact ⟨decide_eq_true ⟨cycle, rises⟩, decide_eq_true within⟩

end

/-- Settles O32: each command is admitted and legal, so it begins its pulse; the loss of VBAT empties both battery-backed slots. -/
theorem keyCommandsTakeEffect : Obligations.KeyCommandsTakeEffect := by
  refine ⟨?program, ?programBattery, ?revoke, ?clear, ?vbatLoss, ?lcAdvance, ?rkProgram, ?rkRevoke, ?svnAdvance⟩
  case program =>
    intro s rq slot admitted idle efuse lawful
    obtain ⟨⟨busy, status, pulse⟩, data⟩ := keyProgram_efuse admitted idle efuse lawful
    exact ⟨_, rfl, busy, status, pulse, data⟩
  case programBattery =>
    intro s rq slot admitted idle battery lawful
    obtain ⟨⟨busy, status, pulse⟩, data⟩ := keyProgram_battery admitted idle battery lawful
    exact ⟨_, rfl, busy, status, pulse, data⟩
  case revoke =>
    intro s rq slot admitted idle efuse lawful
    obtain ⟨⟨busy, status, pulse⟩, data⟩ := keyRevoke_begins admitted idle efuse lawful
    exact ⟨_, rfl, busy, status, pulse, data⟩
  case clear =>
    intro s rq slot admitted idle battery valid
    obtain ⟨⟨busy, status, pulse⟩, data⟩ := keyClear_begins admitted idle battery valid
    exact ⟨_, rfl, busy, status, pulse, data⟩
  case vbatLoss => exact fun s => ⟨_, rfl, vbatLoss_empties s⟩
  case lcAdvance =>
    intro s rq admitted idle lawful
    obtain ⟨busy, status, pulse⟩ := lcAdvance_begins admitted idle lawful
    exact ⟨_, rfl, busy, status, pulse⟩
  case rkProgram =>
    intro s rq k admitted idle lawful
    obtain ⟨⟨busy, status, pulse⟩, data⟩ := rkProgram_begins admitted idle lawful
    exact ⟨_, rfl, busy, status, pulse, data⟩
  case rkRevoke =>
    intro s rq k admitted idle valid cycle other
    obtain ⟨⟨busy, status, pulse⟩, data⟩ := rkRevoke_begins admitted idle valid cycle other
    exact ⟨_, rfl, busy, status, pulse, data⟩
  case svnAdvance =>
    intro s rq value m admitted idle cycle rises booted within
    obtain ⟨busy, status, pulse⟩ := svnAdvance_begins admitted idle cycle rises booted within
    exact ⟨_, rfl, busy, status, pulse⟩

end Machine
end Sys2Proof
end

section
set_option Elab.async false
namespace Sys2Proof
namespace Machine

/-! ## The loader (O16) -/

/-! ### The start -/

/-- A load that begins: its context runs in phase 1 for its partition, and no byte has come (R197). -/
theorem loadBegin_runs (c src p : Nat) (keep gate : Bool) (port : Nat) (boot : Option (Nat × Nat)) (s : State) :
    let t := loadBegin c src p keep gate port boot s
    ldRunning c t = true ∧ ldPhase c t = 1 ∧ (t.ldc c).part = p ∧ (t.ldc c).src = src ∧ (t.ldc c).bytes = [] ∧
      Store.get 0 t.ld.got c = 0 ∧ t.gf F.PART_LDR_STATUS_CMDST c = 0 := by
  intro t
  let x : LoadCtx :=
    { part := p, src := src, port := port, keep := keep, gate := gate, entry := boot.map Prod.fst, digest := boot.map Prod.snd }
  let started := (((s.setLdc c x).sf F.PART_LDR_STATUS_CMDST c 0).sf F.PART_LDR_STATUS_STATE c 1).sf F.PART_LDR_STATUS_PHASE c 1
  let counted : State := { started with ld := { started.ld with got := Store.set 0 c 0 started.ld.got } }
  have done : t = doneUpd (counted.setReg .PART_LDR_BYTES_LO c 0) := rfl
  have touched := doneUpd_touch (counted.setReg .PART_LDR_BYTES_LO c 0)
  have field (f : Fld) (h : f.reg = .PART_LDR_STATUS) : t.gf f c = started.gf f c := by
    rw [done, touched.gf f c (by rw [h]; rfl), State.gf_setReg_reg counted c c 0 (by rw [h]; decide), State.gf_withLd]
  have ld : t.ld = counted.ld := touched.ld rfl
  have ctx : t.ldc c = x := by
    unfold State.ldc
    rw [ld]
    exact State.ldc_setLdc s c x
  have got : Store.get 0 t.ld.got c = 0 := by
    rw [ld]
    exact Store.get_set_same 0 c 0 started.ld.got
  have state : t.gf F.PART_LDR_STATUS_STATE c = 1 := by
    rw [field _ rfl, State.gf_sf_apart _ (by decide) (by decide), State.gf_sf_fit _ c (by decide) (by decide)]
  have phase : t.gf F.PART_LDR_STATUS_PHASE c = 1 := by
    rw [field _ rfl, State.gf_sf_fit _ c (by decide) (by decide)]
  have status : t.gf F.PART_LDR_STATUS_CMDST c = 0 := by
    rw [field _ rfl, State.gf_sf_apart _ (by decide) (by decide), State.gf_sf_apart _ (by decide) (by decide),
      State.gf_sf_fit _ c (by decide) (by decide)]
  exact ⟨decide_eq_true state, phase, by rw [ctx], by rw [ctx], by rw [ctx], got, status⟩

/-- LOADER_START of an idle context where requester and state allow it begins the load. -/
theorem loaderStart_begins {rq : Requester} {c src p port : Nat} {keep gate : Bool} {s : State} (admitted : loaderOk rq c p src s = true)
    (idle : ldRunning c s = false) (lawful : loadLegal p s = true)
    (alone : ∀ d ∈ List.range 4, ¬ (ldRunning d s = true ∧ (s.ldc d).part = p))
    (kept : keep = true → s.pst p = stLoaded ∨ s.pst p = stHalted)
    (chain : src = 3 → (s.lst (2 * port) = lsReady ∨ s.lst (2 * port) = lsActive) ∧ s.gf F.XOT_STAT_MODE port = 1) :
    ∃ boot u, loaderStart rq c src p keep gate port s = loadBegin c src p keep gate port boot u := by
  have other : ((List.range 4).any fun d => ldRunning d s && decide ((s.ldc d).part = p)) = false := by
    simpa only [List.any_eq_false, Bool.and_eq_true, decide_eq_true_eq] using alone
  have keepOk : (!keep || decide (s.pst p = stLoaded ∨ s.pst p = stHalted)) = true := by
    cases keep with
    | false => rfl
    | true => exact decide_eq_true (kept rfl)
  have chainOk : (decide (src ≠ 3) || (decide (s.lst (2 * port) = lsReady ∨ s.lst (2 * port) = lsActive) &&
      decide (s.gf F.XOT_STAT_MODE port = 1))) = true := by
    by_cases h : src = 3
    · simp [chain h]
    · simp [h]
  unfold loaderStart
  simp only [admitted, idle, lawful, other, keepOk, chainOk, Bool.not_true, Bool.not_false, Bool.and_self, Bool.false_eq_true, if_false,
    if_true]
  exact ⟨_, _, rfl⟩

/-! ### The end -/

/-- What the end of a load may touch beside the status of its context. -/
def loadEndRest : Nat := 0x85eef800000000000030000102000140020060000000000020c00000000421006000c004300000a380fa4c040809047e10000e1605

/-- What the end of a load that succeeded may touch beside the status of its context. -/
def loadedRest : Nat := 0x4020000000000000000000000000000000000000000000000c000000000000000000000000000a380000000000000000000000000

theorem loadReports_touch (c : Nat) (e : LoadEnd) (x : LoadCtx) (s : State) : Touch loadedRest s (loadReports c e x s) := by
  unfold loadReports
  have words := (((Touch.refl loadedRest s).sf (f := F.PART_LDR_REPORT_A_VALUE) (i := c) (n := e.a) (by rfl)).sf
    (f := F.PART_LDR_REPORT_B_VALUE) (i := c) (n := e.b) (by rfl)).sf (f := F.PART_LDR_REPORT_C_VALUE) (i := c) (n := e.c) (by rfl)
  cases x.entry with
  | none => exact words
  | some n => exact (((words.sf (by rfl)).sf (by rfl)).sf (by rfl)).sf (by rfl)

theorem loadFailure_touch (c : Nat) (e : LoadEnd) (x : LoadCtx) (s : State) : Touch loadEndRest s (loadFailure c e x s) := by
  unfold loadFailure
  have start := Touch.refl loadEndRest s
  refine Touch.ite start ?_
  have shown := Touch.ite (c := x.gate = true) (start.sf (f := F.PART_LDR_DONE_FAIL) (i := 0) (n := 1) (by rfl)) start
  have carded := Touch.ite (c := (x.entered || x.entry.isSome) = true)
    (Touch.via (report_touch 0 0x50 x.part 0xFF 0 0 (e.result + 256 * e.detail) _) (by rfl) shown) shown
  exact Touch.ite (Touch.via (loadZeroise_touch ..) (by rfl) carded) carded

theorem loadClose_touch (c p : Nat) (s : State) : Touch loadedRest s (loadClose c p s) :=
  Touch.via (doneUpd_touch _) (by rfl) (Touch.via (partEvent_touch ..) (by rfl) (Touch.via (raiseIrq_touch ..) (by rfl)
    ((State.setLdc_touch ..).mono (by rfl))))

/-- After the status of its context, the end of a load leaves that register alone. -/
theorem loadEnd_touchRest (c : Nat) (e : LoadEnd) (s : State) : Touch loadEndRest (loadStatus c e s) (loadEnd c e s) := by
  rw [loadEnd_eq]
  exact (loadClose_touch ..).via (by rfl) ((loadFailure_touch ..).after ((loadReports_touch ..).mono (by rfl)))

/-- A load that ends with result 0 zeroises nothing. -/
theorem loadEnd_success_touch (c : Nat) {e : LoadEnd} (s : State) (success : e.result = 0) :
    Touch loadedRest (loadStatus c e s) (loadEnd c e s) := by
  have whole (x : LoadCtx) (u : State) : loadFailure c e x u = u := if_pos success
  rw [loadEnd_eq, whole]
  exact (loadClose_touch ..).after (loadReports_touch ..)

/-- The context of a load that ended: idle, with the load's result and detail. -/
structure LoadEnded (c result detail : Nat) (t : State) : Prop where
  idle : ldRunning c t = false
  result : t.gf F.PART_LDR_STATUS_RESULT c = result
  detail : t.gf F.PART_LDR_STATUS_DETAIL c = detail

theorem loadStatus_ended (c : Nat) {e : LoadEnd} {result detail : Nat} (s : State) (hr : e.result = result) (hd : e.detail = detail)
    (fitsR : result < 256) (fitsD : detail < 256) : LoadEnded c result detail (loadStatus c e s) := by
  have state : (loadStatus c e s).gf F.PART_LDR_STATUS_STATE c = 0 := by
    rw [loadStatus, State.gf_sf_apart _ (by decide) (by decide), State.gf_sf_fit _ c (by decide) (by decide)]
  refine ⟨by simp [ldRunning, state], ?_, ?_⟩
  · rw [loadStatus, State.gf_sf_apart _ (by decide) (by decide), State.gf_sf_apart _ (by decide) (by decide),
      State.gf_sf_apart _ (by decide) (by decide), hr, State.gf_sf_fit _ c (by decide) fitsR]
  · rw [loadStatus, State.gf_sf_apart _ (by decide) (by decide), State.gf_sf_apart _ (by decide) (by decide), hd,
      State.gf_sf_fit _ c (by decide) fitsD]

/-- What leaves PART_LDR_STATUS alone leaves a load ended. -/
theorem LoadEnded.touch {c result detail w : Nat} {s t : State} (h : LoadEnded c result detail s) (k : Touch w s t)
    (e : w.testBit Reg.PART_LDR_STATUS.ctorIdx = false := by rfl) : LoadEnded c result detail t := by
  have stays (f : Fld) (here : f.reg = .PART_LDR_STATUS) : t.gf f c = s.gf f c := k.gf f c (by rw [here, e])
  refine ⟨?_, (stays _ rfl).trans h.result, (stays _ rfl).trans h.detail⟩
  rw [ldRunning, stays _ rfl]
  exact h.idle

theorem loadEnd_ended (c : Nat) {e : LoadEnd} {result detail : Nat} (s : State) (hr : e.result = result) (hd : e.detail = detail)
    (fitsR : result < 256) (fitsD : detail < 256) : LoadEnded c result detail (loadEnd c e s) :=
  (loadStatus_ended c s hr hd fitsR fitsD).touch (loadEnd_touchRest c e s)

theorem loadTrunc_ended (c : Nat) {detail : Nat} (s : State) (fits : detail < 256) : LoadEnded c 0x10 detail (loadTrunc c detail s) := by
  unfold loadTrunc
  exact loadEnd_ended c s rfl rfl (by decide) fits

/-- LOADER_CANCEL of a running load by an admitted requester. -/
theorem loaderCancel_ends {rq : Requester} {c : Nat} {s : State} (admitted : loaderOk rq c (s.ldc c).part (s.ldc c).src s = true)
    (running : ldRunning c s = true) : LoadEnded c 0x10 3 (loaderCancel rq c s) := by
  unfold loaderCancel
  simp only [admitted, running, Bool.not_true, Bool.false_eq_true, if_false, if_true]
  exact loadTrunc_ended c _ (by decide)

/-- No byte in time ends a load of phases 1 to 3 (R202). -/
theorem loadTimeout_ends {c : Nat} {s : State} (running : ldRunning c s = true) (early : ldPhase c s ≤ 3) :
    LoadEnded c 0x10 2 (loadTimeout c s) := by
  have due : (ldRunning c s && decide (ldPhase c s ≤ 3)) = true := by simp [running, early]
  rw [loadTimeout, if_pos due]
  exact loadTrunc_ended c s (by decide)

/-! ### Bytes -/

/-- An answer that is a state keeps the loader. -/
def KeepsLoaderOk (s : State) (r : Except LoadEnd State) : Prop := ∀ t, r = .ok t → KeepsLoader s t

theorem KeepsLoaderOk.ok {s t : State} (h : KeepsLoader s t) : KeepsLoaderOk s (.ok t) := fun _ e => by cases e; exact h
theorem KeepsLoaderOk.error {s : State} {e : LoadEnd} : KeepsLoaderOk s (.error e) := fun _ h => by cases h

theorem KeepsLoaderOk.ite {s : State} {c : Prop} [Decidable c] {a b : Except LoadEnd State} (h : KeepsLoaderOk s a)
    (k : KeepsLoaderOk s b) : KeepsLoaderOk s (if c then a else b) := by
  split <;> assumption

theorem KeepsLoaderOk.after {s t : State} {r : Except LoadEnd State} (h : KeepsLoaderOk t r) (k : KeepsLoader s t) : KeepsLoaderOk s r :=
  fun u e => k.trans (h u e)

/-- An answer whose mask leaves the loader out. -/
theorem KeepsLoaderOk.touch {w : Nat} {s : State} {r : Except LoadEnd State} (h : TouchOk w s r) (e : w.testBit 418 = false := by rfl) :
    KeepsLoaderOk s r := fun t k => (KeepsLoader.refl s).touch (h.of t k) e

theorem initMem_keepsLoader (c : Nat) (r : InitRec) (s : State) : KeepsLoaderOk s (initMem c r s) := by
  unfold initMem
  refine .ite .error (.ite (.ok (KeepsLoader.modLdc (.refl s))) (.ite .error ?_))
  dsimp only
  split
  · exact .ok (.refl s)
  · exact .ok (.foldl (fun _ _ => .touch (initWord_touch ..) (.refl _)) (.refl s))

theorem initAll_keepsLoader (c : Nat) (l : List InitRec) (s : State) : KeepsLoaderOk s (initAll c l s) := by
  induction l generalizing s with
  | nil => exact .ok (.refl s)
  | cons r l ih =>
    have one : KeepsLoaderOk s (if r.type = 1 then initSlate c r s else initMem c r s) :=
      .ite (.touch (initSlate_touch c r s)) (initMem_keepsLoader c r s)
    rw [initAll]
    refine .ite (ih s) ?_
    generalize (if r.type = 1 then initSlate c r s else initMem c r s) = answer at one ⊢
    cases answer with
    | error e => exact .error
    | ok t => exact (ih t).after (one t rfl)

theorem takeInit_keepsLoader (c off : Nat) (b : List Nat) (s : State) : KeepsLoaderOk s (takeInit c off b s) := by
  unfold takeInit
  split
  · exact .error
  · exact (initAll_keepsLoader c _ _).after (.touch (startFill_touch c s) (.refl s))

theorem sectEffect_keepsLoader (c ty off : Nat) (b : List Nat) (s : State) : KeepsLoaderOk s (sectEffect c ty off b s) := by
  unfold sectEffect
  dsimp only
  split
  · exact .ok (.touch (repairCopy_touch ..) (.touch (putImem_touch ..) (.refl s)))
  · exact .ok (.touch (repairCopy_touch ..) (.touch (putExport_touch ..) (.refl s)))
  · exact .touch (takeHall_touch c b s)
  · exact .touch (takeBase_touch c b s)
  · exact .touch (takeMem_touch c b s)
  · exact .touch (takeVector_touch c off b s)
  · exact .touch (takeBinds_touch c off b s)
  · exact takeInit_keepsLoader c off b s
  · exact .ok (.refl s)

theorem takeSect_keepsLoader (c : Nat) (e : Sect) (gap : Nat) (s : State) : KeepsLoaderOk s (takeSect c e gap s) := by
  unfold takeSect
  dsimp only
  split
  · exact .error
  · exact .ite .error (sectEffect_keepsLoader c e.type e.off _ s)

/-- An action of the loader writes neither the keys nor the count of bytes. -/
theorem loadAct_keepsLoader (c : Nat) (s : State) : KeepsLoader s (loadAct c s) := by
  have start := KeepsLoader.refl s
  unfold loadAct
  refine .ite (fun _ => start) fun _ => ?_
  dsimp only
  split
  case h_1 =>
    refine .ite (fun _ => start) fun _ => ?_
    split
    · exact loadEnd_keepsLoader c _ start
    · exact start.sf
  case h_2 =>
    refine .ite (fun _ => start) fun _ => ?_
    split
    · exact loadEnd_keepsLoader c _ start
    · exact start.modLdc
  case h_3 =>
    split
    · exact start
    refine .ite (fun _ => start) fun _ => .ite (fun _ => ?_) fun _ => ?_
    · split
      · exact loadEnd_keepsLoader c _ start.sf
      · exact start.sf
    · split
      · exact loadEnd_keepsLoader c _ start
      next t taken => exact (takeSect_keepsLoader c _ _ s t taken).modLdc
  case h_4 => exact start

/-- The count of a context's bytes, in its record and in PART_LDR_BYTES. -/
def Counted (c n : Nat) (t : State) : Prop := Store.get 0 t.ld.got c = n ∧ t.gf F.PART_LDR_BYTES_LO_BYTES c = n % 2 ^ 32

theorem Counted.later {c n w : Nat} {s t : State} (h : Counted c n s) (loader : KeepsLoader s t) (touch : Touch w s t)
    (e : w.testBit Reg.PART_LDR_BYTES_LO.ctorIdx = false := by rfl) : Counted c n t := by
  obtain ⟨got, shown⟩ := h
  have stays (f : Fld) (here : f.reg = .PART_LDR_BYTES_LO) : t.gf f c = s.gf f c := touch.gf f c (by rw [here, e])
  refine ⟨?_, (stays _ rfl).trans shown⟩
  rw [loader]
  exact got

theorem loadAct_counted {c n : Nat} {s : State} (h : Counted c n s) : Counted c n (loadAct c s) :=
  h.later (loadAct_keepsLoader c s) (loadAct_touch c s)

theorem loadTrunc_counted {c n : Nat} (detail : Nat) {s : State} (h : Counted c n s) : Counted c n (loadTrunc c detail s) :=
  h.later (loadEnd_keepsLoader c _ (.refl s)) (loadTrunc_touch c detail s)

/-- The count of the bytes of context `c` is put. -/
def loadCount (c n : Nat) (s : State) : State :=
  { s with ld := { s.ld with got := Store.set 0 c n s.ld.got } }.sf F.PART_LDR_BYTES_LO_BYTES c n

theorem loadCount_counted (c n : Nat) (s : State) : Counted c n (loadCount c n s) :=
  ⟨Store.get_set_same 0 c n s.ld.got, State.gf_sf_same _ c n (by decide)⟩

/-- A CHAIN stream that ends before its image does ends the load. -/
def loadStreamEnd (c : Nat) (last : Bool) (src n : Nat) (s : State) : State :=
  if last && ldRunning c s && decide (src = 3) && decide (ldPhase c s ≤ 3) then
    if n < 256 ∨ n < imgLength (s.ldc c).bytes then loadTrunc c 1 s else s
  else s

theorem loadStreamEnd_counted {c n : Nat} (last : Bool) (src m : Nat) {s : State} (h : Counted c n s) :
    Counted c n (loadStreamEnd c last src m s) := by
  unfold loadStreamEnd
  split
  · split
    · exact loadTrunc_counted 1 h
    · exact h
  · exact h

/-- The bytes that reach a context of phases 1 to 3 are counted, then acted on. -/
theorem loadSection_eq {c : Nat} (data : List Nat) (last : Bool) {s : State} (running : ldRunning c s = true)
    (early : ldPhase c s ≤ 3) (entered : (s.ldc c).declared = true → (s.ldc c).entered = true) :
    ∃ u, loadSection c data last s = loadStreamEnd c last (s.ldc c).src ((s.ldc c).bytes.length + (arriving c data s).length)
      ((List.range 16).foldl (fun t _ => loadAct c t) (loadCount c ((s.ldc c).bytes.length + (arriving c data s).length) u)) := by
  have takes : ¬ (!(ldRunning c s) || decide (3 < ldPhase c s)) = true := by simp [running, early]
  have written : ¬ ((s.ldc c).declared && !(s.ldc c).entered) = true := by simpa using entered
  have runs : ¬ (!(ldRunning c s)) = true := by simp [running]
  unfold loadSection
  rw [if_neg takes, if_neg written]
  show ∃ u, (if !(ldRunning c s) then s else _) = _
  rw [if_neg runs]
  exact ⟨_, rfl⟩

theorem loadSection_counts {c : Nat} (data : List Nat) (last : Bool) {s : State} (running : ldRunning c s = true)
    (early : ldPhase c s ≤ 3) (entered : (s.ldc c).declared = true → (s.ldc c).entered = true) :
    Counted c ((s.ldc c).bytes.length + (arriving c data s).length) (loadSection c data last s) := by
  obtain ⟨u, acted⟩ := loadSection_eq data last running early entered
  rw [acted]
  exact loadStreamEnd_counted last _ _ (List.foldlRecOn (List.range 16) _ (loadCount_counted c _ u) fun _ k _ _ => loadAct_counted k)

/-! ### Completion -/

/-- A load that succeeds ends with result 0 and leaves the partition's state. -/
theorem loadEnd_success {c : Nat} {e : LoadEnd} (s : State) (hr : e.result = 0) (hd : e.detail = 0) :
    LoadEnded c 0 0 (loadEnd c e s) ∧ ∀ f : Fld, f.reg = .PART_STATE → ∀ i, (loadEnd c e s).gf f i = s.gf f i := by
  refine ⟨loadEnd_ended c s hr hd (by decide) (by decide), fun f hf i => ?_⟩
  have apart : f.reg.ctorIdx ≠ Reg.PART_LDR_STATUS.ctorIdx := by rw [hf]; decide
  rw [(loadEnd_success_touch c s hr).gf f i (by rw [hf]; rfl), loadStatus, State.gf_sf_reg _ _ _ _ apart, State.gf_sf_reg _ _ _ _ apart,
    State.gf_sf_reg _ _ _ _ apart, State.gf_sf_reg _ _ _ _ apart]

/-- The standby load of a partition is complete: its image is ready (R200). -/
theorem loadComplete_standby {c : Nat} {s : State} (running : ldRunning c s = true) (filled : ldPhase c s = 5)
    (standby : (s.ldc c).standby = true) :
    (loadComplete c s).flag F.PART_STATE_STBY_READY (s.ldc c).part = true ∧
      (loadComplete c s).flag F.PART_STATE_STBY_LOADING (s.ldc c).part = false ∧ LoadEnded c 0 0 (loadComplete c s) := by
  unfold loadComplete
  simp only [running, filled, standby, Bool.not_true, Bool.false_eq_true, ne_eq, not_true_eq_false, or_self, if_false, if_true]
  generalize hx : State.modPart s (s.ldc c).part _ = x
  obtain ⟨ended, kept⟩ := loadEnd_success (c := c) (e := { result := 0, a := imgLength (s.ldc c).bytes % 2 ^ 32, b := (s.ldc c).skipped })
    ((x.sf F.PART_STATE_STBY_LOADING (s.ldc c).part 0).sf F.PART_STATE_STBY_READY (s.ldc c).part 1) rfl rfl
  refine ⟨?_, ?_, ended⟩
  · rw [State.flag, kept _ rfl, State.gf_sf_fit _ _ (by decide) (by decide)]
    rfl
  · rw [State.flag, kept _ rfl, State.gf_sf_apart _ (by decide) (by decide), State.gf_sf_fit _ _ (by decide) (by decide)]
    rfl

/-- A DONE-gated AUTOSTART image waits to be ARMED (R182). -/
def loadAuto (auto : Bool) (p : Nat) (s : State) : State :=
  if auto then { s with ld := { s.ld with autos := Store.set 0 p 1 s.ld.autos } } else s

/-- A DONE-gated AUTOSTART image gets ARM. -/
def loadArm (auto : Bool) (p : Nat) (s : State) : State :=
  if auto then armBegin p (pendingUpd p ((s.sf F.PART_CMD_STATUS_STATUS p 0).sf F.PART_CMD_STATUS_CMD p 2)) else s

theorem loadArm_touch (auto : Bool) (p : Nat) (s : State) :
    Touch 0x200000000000000000000000000000000000000000000000000000000000000000000000000000000000000000000000001000 s (loadArm auto p s) := by
  refine Touch.ite ((armBegin_touch ..).after (Touch.via (pendingUpd_touch ..) (by rfl) ?_)) (Touch.refl _ s)
  exact ((Touch.refl _ s).sf (by rfl)).sf (by rfl)

/-- A load that replaces its partition makes it LOADED, ends, and arms the image where it starts by itself. -/
theorem loadComplete_eq {c : Nat} {s : State} (running : ldRunning c s = true) (filled : ldPhase c s = 5)
    (replaces : (s.ldc c).standby = false) : ∃ (u : State) (auto : Bool) (e : LoadEnd), e.result = 0 ∧ e.detail = 0 ∧
      loadComplete c s = loadArm auto (s.ldc c).part (updLinks (loadEnd c e (slotsUpd (s.ldc c).part
        (loadAuto auto (s.ldc c).part (bindInputs (s.ldc c).part (u.sf F.PART_STATE_STATE (s.ldc c).part stLoaded)))))) := by
  have due : ¬ (!(ldRunning c s) ∨ ldPhase c s ≠ 5) := by simp [running, filled]
  have replace : ¬ (s.ldc c).standby = true := by simp [replaces]
  refine ⟨loadedSettings c (s.modPart (s.ldc c).part fun r =>
      if ldSlot c s = 0 then { r with img0 := slotImage (s.ldc c) s } else { r with img1 := slotImage (s.ldc c) s }),
    (s.ldc c).gate && (slotImage (s.ldc c) s).autostart,
    { result := 0, a := imgLength (s.ldc c).bytes % 2 ^ 32, b := (s.ldc c).skipped }, rfl, rfl, ?_⟩
  unfold loadComplete
  rw [if_neg due]
  show (if (s.ldc c).standby then _ else _) = _
  rw [if_neg replace]
  rfl

theorem loadComplete_replaces {c : Nat} {s : State} (running : ldRunning c s = true) (filled : ldPhase c s = 5)
    (replaces : (s.ldc c).standby = false) :
    (loadComplete c s).pst (s.ldc c).part = stLoaded ∧ LoadEnded c 0 0 (loadComplete c s) := by
  obtain ⟨u, auto, e, result, detail, completes⟩ := loadComplete_eq running filled replaces
  rw [completes]
  generalize (s.ldc c).part = p
  have bound : (loadAuto auto p (bindInputs p (u.sf F.PART_STATE_STATE p stLoaded))).gf F.PART_STATE_STATE p = stLoaded := by
    have loaded : (bindInputs p (u.sf F.PART_STATE_STATE p stLoaded)).gf F.PART_STATE_STATE p = stLoaded := by
      rw [(bindInputs_touch p _).gf _ p rfl, State.gf_sf_fit _ p (by decide) (by decide)]
    cases auto with
    | false => exact loaded
    | true => exact (State.gf_withLd ..).trans loaded
  obtain ⟨ended, kept⟩ := loadEnd_success (c := c) (slotsUpd p (loadAuto auto p (bindInputs p (u.sf F.PART_STATE_STATE p stLoaded)))) result detail
  refine ⟨?_, (ended.touch (updLinks_touch _)).touch (loadArm_touch auto p _)⟩
  rw [State.pst, (loadArm_touch auto p _).gf _ p rfl, (updLinks_touch _).gf _ p rfl, kept _ rfl, (slotsUpd_touch p _).gf _ p rfl, bound]

/-- Settles O16, each clause by what its operation leaves in the context. -/
theorem loaderCommandsTakeEffect : Obligations.LoaderCommandsTakeEffect := by
  refine ⟨?start, ?cancel, ?bytes, ?complete, ?standby, ?timeout⟩
  case start =>
    intro s rq c src p keep gate port admitted idle lawful alone kept chain
    obtain ⟨boot, u, begins⟩ := loaderStart_begins (gate := gate) admitted idle lawful alone kept chain
    exact ⟨_, congrArg Host.Outcome.next begins, loadBegin_runs c src.toNat p keep gate port boot u⟩
  case cancel =>
    intro s rq c admitted running
    obtain ⟨idle, result, detail⟩ := loaderCancel_ends admitted running
    exact ⟨_, rfl, idle, result, detail⟩
  case bytes =>
    intro s c data last running early entered
    obtain ⟨got, shown⟩ := loadSection_counts (data.map (·.toNat)) last running early entered
    exact ⟨_, rfl, got, shown.trans (congrArg (· % 2 ^ 32) got.symm)⟩
  case complete =>
    intro s c running filled replaces
    obtain ⟨loaded, ended⟩ := loadComplete_replaces running filled replaces
    exact ⟨_, rfl, loaded, ended.idle, ended.result⟩
  case standby =>
    intro s c running filled standby
    obtain ⟨ready, loading, ended⟩ := loadComplete_standby running filled standby
    exact ⟨_, rfl, ready, loading, ended.idle, ended.result⟩
  case timeout =>
    intro s c running early
    obtain ⟨idle, result, detail⟩ := loadTimeout_ends running early
    exact ⟨_, rfl, idle, result, detail⟩

end Machine
end Sys2Proof
end

section
set_option Elab.async false
namespace Sys2Proof
namespace Machine

/-! ## The boot push, the ends of pulses, and LOCKUP (O43) -/

theorem bootPush_gives {rq : Requester} {s : State} (len : Nat) (admitted : adminOk rq s = true)
    (awaited : s.gf F.RST_STRAP_BOOTSEL 0 = 1 ∧ s.flag F.PART_LDR_DONE_STAGE_RDY 0 = true ∧ s.flag F.PART_LDR_DONE_BOOTED 0 = false) :
    bootPush rq len s = okResp 0 { s with ld := { s.ld with push := len } } := by
  obtain ⟨sel, ready, unbooted⟩ := awaited
  simp [bootPush, admitted, sel, ready, unbooted]

/-! ### Assertion of a source -/

theorem State.flag_withRst (s : State) (r : RstState) (f : Fld) (i : Nat) : ({ s with rst := r } : State).flag f i = s.flag f i := rfl

theorem seqAssert_src (lvl src : Nat) (s : State) : (seqAssert lvl src s).rst.src = s.rst.src := rfl

theorem seqAssert_pends (lvl src : Nat) (s : State) : (seqAssert lvl src s).flag F.RST_PEND_ACTIVE 0 = true := by
  unfold seqAssert
  rw [State.flag_withRst]
  have active {f : Fld} {x : State} (v : Nat) (apart : Fld.apart f F.RST_PEND_ACTIVE = true) (fits : f.lo + f.w ≤ 32)
      (h : x.flag F.RST_PEND_ACTIVE 0 = true) : (x.sf f 0 v).flag F.RST_PEND_ACTIVE 0 = true :=
    (State.flag_sf_apart x apart fits ..).trans h
  refine active _ (by decide) (by decide) (active _ (by decide) (by decide) (active _ (by decide) (by decide) (active _ (by decide) (by decide) ?_)))
  exact State.flag_sf_one _ 0 (by decide) rfl

/-- The reset of what level `lvl` reaches, unless a source asserted already covers it. -/
def reachReset (lvl : Nat) (s : State) : State :=
  if s.rst.src.any fun e => decide (e.2.1 ≤ lvl) then s
  else if lvl = 0 then coldReset s else if lvl = 1 then deviceReset s else fabricReset s

/-- The cause of source `src` shows. -/
def causeShown (src : Nat) (s : State) : State := if src ≤ 7 then s.sf ⟨.RST_CAUSE, src, 1⟩ 0 1 else s

/-- A source stands among those asserted, once. -/
def joinSource (e : Nat × Nat × Nat) (s : State) : State :=
  { s with rst := { s.rst with src := if s.rst.src.contains e then s.rst.src else s.rst.src ++ [e] } }

theorem assertNow_eq (src lvl detail : Nat) (s : State) :
    assertNow src lvl detail s = seqAssert lvl src (joinSource (src, lvl, detail) (causeShown src (reachReset lvl s))) := rfl

theorem joinSource_listed (e : Nat × Nat × Nat) (s : State) : e ∈ (joinSource e s).rst.src := by
  unfold joinSource
  split
  next listed => simpa using listed
  next => simp

/-- A source that asserts stands among the sources, and the release sequence is pending (R422, R423). -/
theorem assertNow_pends (src lvl detail : Nat) (s : State) :
    (src, lvl, detail) ∈ (assertNow src lvl detail s).rst.src ∧ (assertNow src lvl detail s).flag F.RST_PEND_ACTIVE 0 = true := by
  rw [assertNow_eq, seqAssert_src]
  exact ⟨joinSource_listed .., seqAssert_pends ..⟩

/-! ### What a level 1 reset leaves of a life-cycle write -/

/-- The life cycle, the pulse and the resets that wait for its end are the same. -/
structure KeepsCycle (s t : State) : Prop where
  cycle : t.gf F.GLB_LCS_STATE 0 = s.gf F.GLB_LCS_STATE 0
  pulse : t.ld.pulse = s.ld.pulse
  held : t.rst.held = s.rst.held

theorem KeepsCycle.trans {s x t : State} (h : KeepsCycle s x) (k : KeepsCycle x t) : KeepsCycle s t :=
  ⟨k.cycle.trans h.cycle, k.pulse.trans h.pulse, k.held.trans h.held⟩

theorem KeepsCycle.touch {w : Nat} {s t : State} (h : Touch w s t) (lcs : w.testBit Reg.GLB_LCS.ctorIdx = false := by rfl)
    (ld : w.testBit 418 = false := by rfl) (rst : w.testBit 421 = false := by rfl) : KeepsCycle s t :=
  ⟨h.gf _ 0 lcs, by rw [h.ld ld], by rw [h.rst rst]⟩

theorem KeepsCycle.sf {f : Fld} (i v : Nat) (s : State) (apart : Fld.apart f F.GLB_LCS_STATE = true) (fits : f.lo + f.w ≤ 32) :
    KeepsCycle s (s.sf f i v) :=
  ⟨State.gf_sf_apart s apart fits .., rfl, rfl⟩

/-- A kept register reads as it did once the blocks outside the always-on domain are cleared. -/
theorem deviceCleared_reg {r : Reg} (kept : r ∈ keptRegs) (i : Nat) (s : State) : (deviceCleared s).reg r i = s.reg r i := by
  have here : regKey r i % regStride = r.ctorIdx := by
    have := Reg.ctorIdx_lt r
    simp only [regKey, regStride] at *
    omega
  have listed : keptRegs.any (fun q => decide (regKey r i % regStride = q.ctorIdx)) = true :=
    List.any_eq_true.mpr ⟨r, kept, decide_eq_true here⟩
  exact (Store.get_filter _ (fun j => keptRegs.any fun q => decide (j % regStride = q.ctorIdx)) s.regs _).trans (if_pos listed)

theorem deviceCleared_keepsCycle (s : State) : KeepsCycle s (deviceCleared s) :=
  have word : (deviceCleared s).reg .GLB_LCS 0 = s.reg .GLB_LCS 0 := deviceCleared_reg (by decide) 0 s
  ⟨congrArg F.GLB_LCS_STATE.of word, rfl, rfl⟩

theorem clearStatus_keepsCycle (s : State) : KeepsCycle s (clearStatus s) :=
  (KeepsCycle.sf 0 0 s (by decide) (by decide)).trans <| (KeepsCycle.sf 0 0 _ (by decide) (by decide)).trans <|
    (KeepsCycle.sf 0 0 _ (by decide) (by decide)).trans <| (KeepsCycle.sf 0 0 _ (by decide) (by decide)).trans <|
    KeepsCycle.sf 0 1 _ (by decide) (by decide)

/-- The life cycle is held in eFuse, and the pulse with the resets it delays outside what level 1 reaches (R421). -/
theorem deviceReset_keepsCycle (s : State) : KeepsCycle s (deviceReset s) :=
  (KeepsCycle.touch (passEnd_touch s)).trans <| (deviceCleared_keepsCycle _).trans <|
    (KeepsCycle.sf 0 0 _ (by decide) (by decide)).trans <| (KeepsCycle.touch (keepFields_touch ..)).trans <|
    (clearStatus_keepsCycle _).trans <| (KeepsCycle.touch (loadFuses_touch _)).trans <|
    (KeepsCycle.touch (clocksStop_touch ..)).trans <| KeepsCycle.touch (clockStart_touch _)

theorem seqAssert_keepsCycle (lvl src : Nat) (s : State) : KeepsCycle s (seqAssert lvl src s) := by
  have only := seqAssert_only (rs := causeRegs) (ps := [.rst]) (by simp) (by simp) lvl src (Only.refl _ _ s)
  exact ⟨only.gf _ 0 (by decide), by rw [only.part .ld (by decide)], rfl⟩

theorem reachReset_keepsCycle (s : State) : KeepsCycle s (reachReset 1 s) := by
  unfold reachReset
  split
  · exact ⟨rfl, rfl, rfl⟩
  · exact deviceReset_keepsCycle s

theorem causeShown_keepsCycle (src : Nat) (s : State) : KeepsCycle s (causeShown src s) := by
  unfold causeShown
  split
  · exact .sf 0 1 s rfl (show src + 1 ≤ 32 by omega)
  · exact ⟨rfl, rfl, rfl⟩

theorem joinSource_keepsCycle (e : Nat × Nat × Nat) (s : State) : KeepsCycle s (joinSource e s) := ⟨rfl, rfl, rfl⟩

theorem assertNow_keepsCycle (src detail : Nat) (s : State) : KeepsCycle s (assertNow src 1 detail s) := by
  rw [assertNow_eq]
  exact (reachReset_keepsCycle s).trans <| (causeShown_keepsCycle ..).trans <| (joinSource_keepsCycle ..).trans <| seqAssert_keepsCycle ..

/-! ### Resets that wait for the end of a pulse -/

/-- With no reset held, the end of a pulse only takes sources away whose condition has ended. -/
theorem heldRelease_src {s : State} {e : Nat × Nat × Nat} (none : s.rst.held = []) (stands : e ∈ s.rst.src)
    (pin : e.1 ≠ srcPin) (dbgreq : e.1 ≠ srcDbgreq) : e ∈ (heldRelease s).rst.src := by
  have kept {f : Nat × Nat × Nat → Bool} {c : Prop} [Decidable c] {x : State} (h : e ∈ x.rst.src) (stays : f e = false) :
      e ∈ (if c then x else releaseReset f x).rst.src := by
    split
    · exact h
    · exact List.mem_filter.mpr ⟨h, by simp [stays]⟩
  unfold heldRelease
  rw [none]
  split
  · exact stands
  · exact kept (kept stands (decide_eq_false pin)) (decide_eq_false fun released => dbgreq released.1)

theorem heldRelease_keeps {s : State} (none : s.rst.held = []) : Only [] [.rst] s (heldRelease s) :=
  heldRelease_only (by decide) none (Only.refl _ _ s)

/-! ### The life cycle advances -/

/-- No pass is in force any more, and ahead of RETURN no sealed state is left (R193, R386). -/
def sealedGone (st : Nat) (s : State) : State := if st = 3 then secZeroise (passEnd s) else passEnd s

/-- A life-cycle write in force: the state that is written shows, the write pulse is no longer busy, the device watchdog runs. -/
def lcWritten (st : Nat) (s : State) : State :=
  let s := (((sealedGone st s).sf F.GLB_LCS_STATE 0 st).sf F.SEC_LC_STAT_STATE 0 st).sf F.SEC_KEY_STATUS_BUSY 0 0
  (s.sf F.DBG_DWDOG_PAUSE 0 0).sf F.RST_DWDOG_STAT_PAUSED 0 0

/-- The write pulse is over. -/
def pulseOver (s : State) : State := { s with ld := { s.ld with pulse := none } }

theorem lcAdvanceDone_eq {s : State} {slot st : Nat} (pulse : s.ld.pulse = some (1, slot, st)) :
    lcAdvanceDone s = heldRelease (assertReset srcSwreq 1 0 (pulseOver (lcWritten st s))) := by
  simp only [lcAdvanceDone, pulse, lcWritten, sealedGone, pulseOver]

theorem Only.flag {rs : List Reg} {ps : List Part} {s t : State} (h : Only rs ps s t) (f : Fld) (i : Nat) (k : f.reg ∉ rs) :
    t.flag f i = s.flag f i := by
  unfold State.flag
  rw [h.gf f i k]

theorem lcWritten_cycle {st : Nat} (s : State) (cycle : st < 4) : (lcWritten st s).gf F.GLB_LCS_STATE 0 = st := by
  unfold lcWritten
  have kept {f : Fld} {x : State} (v : Nat) (apart : Fld.apart f F.GLB_LCS_STATE = true) (fits : f.lo + f.w ≤ 32)
      (h : x.gf F.GLB_LCS_STATE 0 = st) : (x.sf f 0 v).gf F.GLB_LCS_STATE 0 = st := (State.gf_sf_apart x apart fits ..).trans h
  refine kept _ (by decide) (by decide) (kept _ (by decide) (by decide) (kept _ (by decide) (by decide) (kept _ (by decide) (by decide) ?_)))
  exact State.gf_sf_fit _ 0 (by decide) cycle

/-- The end of a pass and the zeroising of sealed state leave the pins' pulse and the resets that wait. -/
theorem sealedGone_frame (st : Nat) (s : State) :
    (sealedGone st s).flag F.PIO_STAT_BUSY 0 = s.flag F.PIO_STAT_BUSY 0 ∧ (sealedGone st s).rst = s.rst := by
  have ended : (passEnd s).flag F.PIO_STAT_BUSY 0 = s.flag F.PIO_STAT_BUSY 0 ∧ (passEnd s).rst = s.rst :=
    ⟨(passEnd_touch s).flag _ 0 rfl, (passEnd_touch s).rst rfl⟩
  unfold sealedGone
  split
  · exact ⟨((secZeroise_touch _).flag _ 0 rfl).trans ended.1, ((secZeroise_touch _).rst rfl).trans ended.2⟩
  · exact ended

theorem lcWritten_rst (st : Nat) (s : State) : (lcWritten st s).rst = s.rst := by
  rw [lcWritten, State.sf_rst, State.sf_rst, State.sf_rst, State.sf_rst, State.sf_rst]
  exact (sealedGone_frame st s).2

theorem lcWritten_pins (st : Nat) (s : State) : (lcWritten st s).flag F.PIO_STAT_BUSY 0 = s.flag F.PIO_STAT_BUSY 0 := by
  unfold lcWritten
  have kept {f : Fld} {x : State} (v : Nat) (apart : Fld.apart f F.PIO_STAT_BUSY = true) (fits : f.lo + f.w ≤ 32)
      (h : x.flag F.PIO_STAT_BUSY 0 = s.flag F.PIO_STAT_BUSY 0) : (x.sf f 0 v).flag F.PIO_STAT_BUSY 0 = s.flag F.PIO_STAT_BUSY 0 :=
    (State.flag_sf_apart x apart fits ..).trans h
  exact kept _ (by decide) (by decide) (kept _ (by decide) (by decide) (kept _ (by decide) (by decide)
    (kept _ (by decide) (by decide) (kept _ (by decide) (by decide) (sealedGone_frame st s).1))))

theorem lcWritten_busy (st : Nat) (s : State) : (lcWritten st s).flag F.SEC_KEY_STATUS_BUSY 0 = false := by
  unfold lcWritten
  refine (State.flag_sf_apart _ (by decide) (by decide) ..).trans ((State.flag_sf_apart _ (by decide) (by decide) ..).trans ?_)
  exact State.flag_sf_zero _ 0 (by decide)

theorem pulseOver_pulse (s : State) : (pulseOver s).ld.pulse = none := rfl
theorem pulseOver_keys (s : State) : (pulseOver s).ld.keys = s.ld.keys := rfl
theorem pulseOver_gf (s : State) (f : Fld) (i : Nat) : (pulseOver s).gf f i = s.gf f i := rfl
theorem pulseOver_flag (s : State) (f : Fld) (i : Nat) : (pulseOver s).flag f i = s.flag f i := rfl
theorem pulseOver_rst (s : State) : (pulseOver s).rst = s.rst := rfl
theorem pulseOver_anyPulse (s : State) : anyPulse (pulseOver s) = anyPulse s := by
  rw [anyPulse, pulseBusy, pulseOver_flag, pulseOver_flag, ← pulseBusy, ← anyPulse]

theorem lcWritten_anyPulse {st : Nat} {s : State} (idle : s.flag F.PIO_STAT_BUSY 0 = false) :
    anyPulse (pulseOver (lcWritten st s)) = false := by
  rw [pulseOver_anyPulse, anyPulse, pulseBusy, lcWritten_busy, lcWritten_pins, idle]
  rfl

/-- With no write pulse in progress, a source asserts at once (R425). -/
theorem assertReset_direct (src lvl detail : Nat) {s : State} (idle : anyPulse s = false) :
    assertReset src lvl detail s = assertNow src lvl detail s := by
  rw [assertReset, idle]
  exact if_neg fun waits => Bool.false_ne_true waits.2

/-- A life-cycle write ends: its state is in force, and the level 1 reset it asks for stands and is pending (R193). -/
theorem lcAdvanceDone_resets {s : State} {slot st : Nat} (pulse : s.ld.pulse = some (1, slot, st)) (cycle : st < 4)
    (idle : s.flag F.PIO_STAT_BUSY 0 = false) (quiet : s.rst.held = []) :
    (lcAdvanceDone s).gf F.GLB_LCS_STATE 0 = st ∧ (lcAdvanceDone s).ld.pulse = none ∧
      (srcSwreq, 1, 0) ∈ (lcAdvanceDone s).rst.src ∧ (lcAdvanceDone s).flag F.RST_PEND_ACTIVE 0 = true := by
  rw [lcAdvanceDone_eq pulse, assertReset_direct _ _ _ (lcWritten_anyPulse idle)]
  obtain ⟨shown, ended, held⟩ := assertNow_keepsCycle srcSwreq 0 (pulseOver (lcWritten st s))
  obtain ⟨stands, pends⟩ := assertNow_pends srcSwreq 1 0 (pulseOver (lcWritten st s))
  have waits : (assertNow srcSwreq 1 0 (pulseOver (lcWritten st s))).rst.held = [] := by
    rw [held, pulseOver_rst, lcWritten_rst, quiet]
  have kept := heldRelease_keeps waits
  have ld : (heldRelease (assertNow srcSwreq 1 0 (pulseOver (lcWritten st s)))).ld = (assertNow srcSwreq 1 0 (pulseOver (lcWritten st s))).ld :=
    kept.part .ld (by decide)
  refine ⟨?_, ?_, heldRelease_src waits stands (by decide) (by decide), ?_⟩
  · rw [kept.gf _ 0 List.not_mem_nil, shown, pulseOver_gf, lcWritten_cycle s cycle]
  · rw [ld, ended, pulseOver_pulse]
  · rw [kept.flag _ 0 List.not_mem_nil, pends]

/-! ### A write pulse ends -/

/-- The end of the pulse that programs key slot `k`: the slot is VALID with its key (Table CFG-8). -/
theorem writePulseEnd_programs {s : State} {k key : Nat} (slot : k < 4) (pulse : s.ld.pulse = some (0, k, key + 1)) (quiet : s.rst.held = []) :
    (writePulseEnd false s).flag F.SEC_KEY_STATUS_BUSY 0 = false ∧ (writePulseEnd false s).ld.pulse = none ∧
      keyState k (writePulseEnd false s) = 1 ∧ Store.get 0 (writePulseEnd false s).ld.keys k = key := by
  have ends : writePulseEnd false s = heldRelease (pulseOver ((setKey k 1 key s).sf F.SEC_KEY_STATUS_BUSY 0 0)) := by
    simp [writePulseEnd, pulse, pulseEffect, pulseOver]
  have same : (pulseOver ((setKey k 1 key s).sf F.SEC_KEY_STATUS_BUSY 0 0)).rst = s.rst := by
    rw [pulseOver_rst, State.sf_rst]
    exact (setKey_touch k 1 key s).rst rfl
  have kept := heldRelease_keeps ((congrArg RstState.held same).trans quiet)
  have ld : (heldRelease (pulseOver ((setKey k 1 key s).sf F.SEC_KEY_STATUS_BUSY 0 0))).ld =
      (pulseOver ((setKey k 1 key s).sf F.SEC_KEY_STATUS_BUSY 0 0)).ld := kept.part .ld (by decide)
  have apart : Fld.apart F.SEC_KEY_STATUS_BUSY (F.SEC_KEY_STATUS_SLOT.nth k) = true := by
    have below : 0 + 2 * k + 2 ≤ 24 := by omega
    exact Bool.or_eq_true_iff.mpr (.inr (decide_eq_true below))
  obtain ⟨valid, programmed⟩ := setKey_sets (k := k) (st := 1) key s (by omega) (by decide)
  rw [ends, keyState, kept.flag _ 0 List.not_mem_nil, kept.gf _ 0 List.not_mem_nil, ld, pulseOver_pulse, pulseOver_keys, pulseOver_gf,
    pulseOver_flag, State.sf_ld, State.gf_sf_apart _ apart (by decide), State.flag_sf_zero _ 0 (by decide)]
  exact ⟨rfl, rfl, valid, programmed⟩

/-- The end of a fuse write of the pins: its bits are in the fuse (R459). -/
theorem writePulseEnd_fuses {s : State} {g n : Nat} (pulse : s.pio.pulse = some (g, n)) (quiet : s.rst.held = []) :
    (writePulseEnd true s).flag F.PIO_STAT_BUSY 0 = false ∧ (writePulseEnd true s).pio.pulse = none ∧
      Store.get 0 (writePulseEnd true s).pio.fuse g = Nat.lor (Store.get 0 s.pio.fuse g) n := by
  have fused : (fuseDone s).rst = s.rst ∧ (fuseDone s).pio.pulse = Option.none ∧
      Store.get 0 (fuseDone s).pio.fuse g = Nat.lor (Store.get 0 s.pio.fuse g) n := by
    simp [fuseDone, pulse]
  obtain ⟨same, ended, added⟩ := fused
  have ends : writePulseEnd true s = heldRelease ((fuseDone s).sf F.PIO_STAT_BUSY 0 0) := rfl
  have kept := heldRelease_keeps (s := (fuseDone s).sf F.PIO_STAT_BUSY 0 0) ((congrArg RstState.held same).trans quiet)
  rw [ends, kept.flag _ 0 (by decide), kept.part .pio (by decide)]
  exact ⟨State.flag_sf_zero _ 0 (by decide), ended, added⟩

/-! ### LOCKUP -/

theorem csrHeld_csrPut (c n v : Nat) (s : State) : csrHeld c n (csrPut c n v s) = v % 2 ^ 64 := Store.get_set_same ..

/-- A core in LOCKUP: its state says so, its own reset is asserted, and no task is its own. -/
structure LockedUp (c : Nat) (t : State) : Prop where
  state : t.cst c = coreLockup
  source : (srcLockup, 3, c) ∈ t.rst.src
  free : (t.core c).cur = none

theorem State.core_sf (s : State) (f : Fld) (i v c : Nat) : (s.sf f i v).core c = s.core c := rfl
theorem State.core_withCsr (s : State) (m : Store Nat) (c : Nat) : ({ s with dsp := { s.dsp with csr := m } } : State).core c = s.core c := rfl
theorem State.core_withX (s : State) (m : Store Nat) (c : Nat) : ({ s with dsp := { s.dsp with x := m } } : State).core c = s.core c := rfl
theorem State.cst_withRst (s : State) (r : RstState) (c : Nat) : ({ s with rst := r } : State).cst c = s.cst c := rfl

theorem coreResetUnit_cur (c : Nat) (s : State) : ((coreResetUnit c s).core c).cur = none := by
  rw [coreResetUnit, State.core_sf, State.core_sf, State.core_withX, State.core_withCsr, State.core_modCore]

theorem coreLockupNow_locks (c : Nat) (s : State) : LockedUp c (coreLockupNow c s) := by
  unfold coreLockupNow
  refine ⟨?_, List.mem_append_right _ (List.mem_singleton_self _), ?_⟩
  · rw [State.cst_withRst, State.cst, (report_touch ..).gf _ c rfl]
    refine (State.gf_sf_apart _ (by decide) (by decide) ..).trans ((State.gf_sf_reg _ 0 c 1 (by decide)).trans ?_)
    exact State.gf_sf_fit _ c (by decide) (by decide)
  · show ((report ..).core c).cur = none
    rw [State.core, (report_touch ..).dsp rfl]
    exact coreResetUnit_cur c s

theorem lockup_locks {c : Nat} {s : State} (free : coreHeld c s = false) (idle : anyPulse s = false) : LockedUp c (lockup c s) := by
  rw [lockup, free, idle]
  exact coreLockupNow_locks c s

/-- The watchdog of a running core is neither off nor paused (R306, R373, R443). -/
theorem coreWatchdog_eq {c : Nat} {s : State}
    (runs : csrHeld c csrWdog s % 2 ^ 32 ≠ 0 ∧ s.cst c = coreRunning ∧ s.gf F.RST_PWR_STAT_STATE 0 ≠ 2) : coreWatchdog c s =
    if bitAt (csrHeld c csrWdog s) 33 = 0 then csrPut c csrWdog (csrHeld c csrWdog s + 2 ^ 33) s else lockup c s := by
  obtain ⟨on, running, awake⟩ := runs
  exact if_neg (not_or.mpr ⟨on, not_or.mpr ⟨not_not.mpr running, awake⟩⟩)

/-- Settles O43, each clause by what its operation leaves. -/
theorem bootAndLockupCommandsTakeEffect : Obligations.BootAndLockupCommandsTakeEffect := by
  refine ⟨?bootPush, ?lcAdvanceDone, ?watchdogFirst, ?watchdogSecond, ?keyPulse, ?fusePulse, ?mtvec⟩
  case bootPush =>
    intro s rq len admitted awaited
    exact ⟨_, congrArg Host.Outcome.next (bootPush_gives len.toNat admitted awaited), rfl, rfl⟩
  case lcAdvanceDone =>
    intro s slot st pulse ⟨idle, quiet⟩
    exact ⟨_, rfl, lcAdvanceDone_resets pulse st.isLt idle quiet⟩
  case watchdogFirst =>
    intro s c runs first
    have expires : coreWatchdog c s = csrPut c csrWdog (csrHeld c csrWdog s + 2 ^ 33) s := (coreWatchdog_eq runs).trans (if_pos first)
    exact ⟨_, congrArg Host.Outcome.next expires, csrHeld_csrPut ..⟩
  case watchdogSecond =>
    intro s c runs second ⟨free, idle⟩
    have expires : coreWatchdog c s = lockup c s := (coreWatchdog_eq runs).trans (if_neg (by omega))
    obtain ⟨state, source, vacant⟩ := lockup_locks free idle
    exact ⟨_, congrArg Host.Outcome.next expires, state, source, vacant⟩
  case keyPulse =>
    intro s pio k key secPulse pulse quiet
    subst secPulse
    exact ⟨_, rfl, writePulseEnd_programs k.isLt pulse quiet⟩
  case fusePulse =>
    intro s pio g n pinPulse pulse quiet
    subst pinPulse
    exact ⟨_, rfl, writePulseEnd_fuses pulse quiet⟩
  case mtvec =>
    intro s c running ⟨free, idle⟩
    have faults : mtvecFault c s = lockup c s := if_pos running
    obtain ⟨state, source, -⟩ := lockup_locks free idle
    exact ⟨_, congrArg Host.Outcome.next faults, state, source⟩

end Machine
end Sys2Proof
end
